-- ==== Sys2Proof/Word.lean ====
section
/-! DEFINITION. The word types of the AN7412 model and their plainest arithmetic. -/

namespace Sys2Proof

/-- One byte of a frame, a DOMAIN value or a record. -/
abbrev Byte := BitVec 8

/-- A phase number, 0–11 (R30). -/
abbrev PhaseId := Fin 12

/-- A rail number: 0–3, and 4 for drive rail D (R40, R464). -/
abbrev RailId := Fin 5

/-- One of rails 0–3, which have a voltage sense and a shed table (R40). -/
abbrev VRailId := Fin 4

/-- A Harik loop slot, 0–15 (R310). -/
abbrev SlotId := Fin 16

/-- An auxiliary ADC channel, 0–7 (R214). -/
abbrev AuxId := Fin 8

/-- Rounding of the quotient of two integers to the nearest, ties away from zero (R320). -/
def roundDiv (n d : Int) : Int :=
  if d = 0 then 0
  else
    let n' := if d < 0 then -n else n
    let d' := if d < 0 then -d else d
    if 0 ≤ n' then (2 * n' + d') / (2 * d') else -((2 * (-n') + d') / (2 * d'))

/-- `roundDiv` on a rational number. -/
def roundRat (q : Rat) : Int := roundDiv q.num q.den

/-- The value of `v` held between `lo` and `hi`; `lo` prevails where they cross. -/
def clampInt (v lo hi : Int) : Int := max lo (min v hi)

/-- `clampInt` on rational numbers. -/
def clampRat (v lo hi : Rat) : Rat := max lo (min v hi)

end Sys2Proof
end

