-- ==== Sys2Proof/Syntax.lean ====
section
/-! DEFINITION. The commands of the block: one constructor of `Instr` per row of spec/opcode_table.json,
and the shapes of their operands. A command carries what the outside supplies with it: the client
channel and value of a write, a frame, a converter code, a measured interval. -/

namespace Sys2Proof

/-- The channels that reach the dictionary (R38): the CAN SDO server, a USDO client by its node-ID,
the GSP session over USB, and the RPDOs. -/
inductive Channel where
  | sdo
  | usdo (client : BitVec 7)
  | gsp
  | rpdo
  deriving DecidableEq, Repr

/-- A USDO request (R64). CiA 1301's frame coding is not in the manual, so a request is given by
what it asks for. -/
inductive UsdoReq where
  /-- A write whose data fits one frame. -/
  | download (ix : BitVec 16) (sub : BitVec 8) (data : List Byte)
  /-- The first frame of a segmented write. -/
  | downloadOpen (ix : BitVec 16) (sub : BitVec 8) (data : List Byte)
  /-- A further frame of a segmented write. -/
  | downloadSegment (data : List Byte) (last : Bool)
  /-- A read. -/
  | upload (ix : BitVec 16) (sub : BitVec 8)
  /-- The next frame of a segmented read. -/
  | uploadSegment
  /-- The client ends the transfer. -/
  | abort
  deriving DecidableEq, Repr

/-- An LSS switch-state request (R50): to one of the two states for every device, or to
configuration for the device with the LSS address given. -/
inductive LssSwitch where
  | waiting
  | configuration
  | selective (vendor product revision serial : BitVec 32)
  deriving DecidableEq, Repr

/-- The wake sources of SLEEP (R150). -/
inductive WakeSource where
  | canRx
  | vbus
  | resetPin
  deriving DecidableEq, Repr

/-- A transition of a relay's feedback (R185): the time since the operation in µs, and the feedback quantity before and
after, the half-cycle RMS of a voltage in mV or the magnitude of a current in mA. -/
structure Feedback where
  us : Nat
  before : BitVec 32
  after : BitVec 32
  deriving DecidableEq, Repr

/-- A crossing of an over-current comparator (R204): its sign, and the core clocks it has held. -/
structure Crossing where
  positive : Bool
  clocks : Nat
  deriving DecidableEq, Repr

/-- A transition at a node pin (R242): its delay in steps of 1/16 core clock, and the pin's voltage after it in mV (R241). -/
structure NodeEdge where
  steps : BitVec 12
  mv : BitVec 12
  deriving DecidableEq, Repr

/-- A level of a TRIP input (R254), and the core clocks it has held. -/
structure TripLevel where
  high : Bool
  clocks : Nat
  deriving DecidableEq, Repr

/-- A Tropo ring frame (R367), less its preamble and reserved byte. -/
structure RingFrame where
  kind : BitVec 4
  seq : BitVec 4
  bearing : BitVec 16
  epoch : BitVec 16
  fault : BitVec 16
  shareA : BitVec 12
  shareB : BitVec 12
  command : BitVec 16
  token : BitVec 8
  crc : BitVec 8
  reserved : BitVec 8
  deriving DecidableEq, Repr

/-- One decimated sample (R412, R415): of a voltage channel, or of both paths of a current channel,
in µV at the pins as converted. -/
inductive DecimatedSample where
  | voltage (v : Fin 4) (uV : Int)
  | current (i : Fin 4) (highUV lowUV : Int) (overloadHigh overloadLow : Bool)
  deriving DecidableEq, Repr

/-- The resampled pin values of one coherent sample (R410, R416), in µV: VM1–VM4, and the high and low
paths of IM1–IM4. -/
structure CoherentPins where
  vm : Vector Int 4
  imHigh : Vector Int 4
  imLow : Vector Int 4
  deriving DecidableEq, Repr

/-- The commands, one per row of the table of operations and events. -/
inductive Instr where
  /-- OBJECT_WRITE: A write of a dictionary object that has no row of its own is checked for level, range, length and state, then applied atomically (R42) -/
  | objectWrite (ch : Channel) (ix : BitVec 16) (sub : BitVec 8) (data : List Byte)
  /-- NMT_START: NMT Start puts the device in Operational, or holds the request in Survey until full service (R54) -/
  | nmtStart (node : BitVec 7)
  /-- NMT_ENTER_PRE_OPERATIONAL: NMT Enter pre-operational puts the device in Pre-operational and soft-stops every enabled rail (R54) -/
  | nmtEnterPreOperational (node : BitVec 7)
  /-- NMT_STOP: NMT Stop puts the device in Stopped, soft-stops rails and suppresses EMCY (R54) -/
  | nmtStop (node : BitVec 7)
  /-- NMT_RESET_COMMUNICATION: NMT Reset communication soft-stops rails, empties transmit queues, reloads 1000–1FFF and 2008, sends boot-up and enters Pre-operational (R54) -/
  | nmtResetCommunication (node : BitVec 7)
  /-- NMT_RESET_NODE: NMT Reset node starts a device reset of kind NMT_RESET_NODE with the flush rules of reset (R54) -/
  | nmtResetNode (node : BitVec 7)
  /-- HEARTBEAT_PERIOD_EXPIRY: The producer heartbeat period 1017 expires and a heartbeat carrying the NMT state is sent (R58) -/
  | heartbeatPeriodExpiry
  /-- HEARTBEAT_RECEIVED: A heartbeat from a watched producer starts or restarts monitoring of its consumer entry and ends CM_HB_TIMEOUT (R59) -/
  | heartbeatReceived (node : BitVec 7) (state : Byte)
  /-- HEARTBEAT_TIMEOUT: A consumer heartbeat entry expires, raising CM_HB_TIMEOUT and applying the communication error behaviour (R59) -/
  | heartbeatTimeout (entry : Fin 4)
  /-- CAN_BUS_OFF: The CAN controller enters bus-off, raises CM_BUS_OFF and stops taking frames from the bus (R61) -/
  | canBusOff (tec : Nat) (rec : Nat)
  /-- CAN_BUS_RECOVERED: After 128 occurrences of 11 recessive bits the device rejoins the bus and raises CM_BUS_RECOVERED (R61) -/
  | canBusRecovered
  /-- CAN_ERROR_PASSIVE: The CAN controller enters error-passive and raises CM_ERROR_PASSIVE with its error counts (R615) -/
  | canErrorPassive (tec : Nat) (rec : Nat)
  /-- ERROR_PASSIVE_TIMEOUT: Error-passive lasting longer than 1 s becomes a communication error (R60) -/
  | errorPassiveTimeout
  /-- CAN_RX_OVERRUN: The CAN receive buffer overruns and CM_RX_OVERRUN is raised with the frames lost (R509) -/
  | canRxOverrun (lost : BitVec 32)
  /-- SDO_DOWNLOAD_INITIATE: An SDO initiate download request writes an expedited value or opens a segmented write (R62) -/
  | sdoDownloadInitiate (frame : List Byte)
  /-- SDO_DOWNLOAD_SEGMENT: An SDO download segment continues a segmented write and applies the value at the last segment (R62) -/
  | sdoDownloadSegment (frame : List Byte)
  /-- SDO_UPLOAD_INITIATE: An SDO initiate upload request reads an object expedited or opens a segmented read (R62) -/
  | sdoUploadInitiate (frame : List Byte)
  /-- SDO_UPLOAD_SEGMENT: An SDO upload segment request returns the next segment of a segmented read (R62) -/
  | sdoUploadSegment (frame : List Byte)
  /-- SDO_ABORT_TRANSFER: A client abort or an out-of-sequence request ends the open segmented transfer (R62) -/
  | sdoAbortTransfer (frame : List Byte)
  /-- SDO_TRANSFER_TIMEOUT: A segmented transfer idle for more than 1000 ms is aborted with 0x05040000 (R43) -/
  | sdoTransferTimeout
  /-- USDO_REQUEST: A unicast USDO request from a client node-ID is served on that client's transfer, broadcast requests being ignored (R64) -/
  | usdoRequest (client : BitVec 7) (broadcast : Bool) (req : UsdoReq)
  /-- RPDO_RECEIVED: An RPDO frame is written on reception for event types or held until the next SYNC for synchronous types (R68) -/
  | rpdoReceived (n : Fin 4) (data : List Byte)
  /-- SYNC_RECEIVED: A SYNC applies held RPDO values together and samples and queues synchronous TPDOs (R68) -/
  | syncReceived (counter : Option Byte)
  /-- SYNC_PERIOD_EXPIRY: While producing SYNC with 1006 non-zero, the period expires and a SYNC frame is produced (R71) -/
  | syncPeriodExpiry
  /-- TPDO_SYNC_WINDOW_EXPIRY: A synchronous TPDO not started within 1007 µs of its SYNC is discarded and counted in 5F00:01 (R70) -/
  | tpdoSyncWindowExpiry (n : Fin 4)
  /-- TPDO_VALUE_CHANGE: A mapped value of an event-type TPDO changes and the TPDO is sent once the inhibit time allows (R612) -/
  | tpdoValueChange (n : Fin 4)
  /-- TPDO_INHIBIT_EXPIRY: The inhibit time of an event-type TPDO with a pending change expires and the TPDO is sent (R612) -/
  | tpdoInhibitExpiry (n : Fin 4)
  /-- TPDO_EVENT_TIMER_EXPIRY: The event timer of an event-type TPDO expires and the TPDO is sent (R612) -/
  | tpdoEventTimerExpiry (n : Fin 4)
  /-- TIME_RECEIVED: A TIME_OF_DAY message sets the RTC after epoch conversion, or is counted as rejected (R72) -/
  | timeReceived (days : BitVec 16) (ms : BitVec 28)
  /-- EMCY_INHIBIT_EXPIRY: The EMCY inhibit time expires and the oldest held EMCY frame is sent (R74) -/
  | emcyInhibitExpiry
  /-- ERROR_HISTORY_CLEAR: A write of 0 to 1003:00 empties the pre-defined error field without clearing events (R8) -/
  | errorHistoryClear (ch : Channel)
  /-- STORE_PARAMETERS: Writing the save signature to 1010 starts a store of the selected parameter area into the non-active copy (R77) -/
  | storeParameters (ch : Channel) (area : Fin 3)
  /-- STORE_COMPLETE: A parameter store finishes with sequence, CRC and valid mark, retires the older copy and answers the write (R78) -/
  | storeComplete
  /-- RESTORE_DEFAULTS: Writing the load signature to 1011 starts a new parameter copy holding defaults for the selected area (R80) -/
  | restoreDefaults (ch : Channel) (area : Fin 3)
  /-- RESTORE_COMPLETE: The restore copy is complete and the write is answered; defaults take effect at the next reset (R80) -/
  | restoreComplete
  /-- LSS_SWITCH_STATE: An LSS switch-state service changes the LSS state of the device (R50) -/
  | lssSwitchState (req : LssSwitch)
  /-- LSS_CONFIGURE_NODE_ID: An LSS configure node-ID service sets the pending LSS node-ID (R50) -/
  | lssConfigureNodeId (id : Byte)
  /-- LSS_CONFIGURE_BIT_TIMING: An LSS configure bit timing service sets the pending bit-timing index (R50) -/
  | lssConfigureBitTiming (selector : Byte) (timing : Byte)
  /-- LSS_ACTIVATE_BIT_TIMING: An LSS activate bit timing service switches to the configured bit timing (R50) -/
  | lssActivateBitTiming (delay : BitVec 16)
  /-- LSS_STORE_CONFIGURATION: An LSS store configuration writes 2008:02, 2008:07 and node-ID source LSS and stores them with area 02 (R50) -/
  | lssStoreConfiguration
  /-- LSS_INQUIRE_IDENTITY: An LSS inquire identity service returns an entry of 1018 (R50) -/
  | lssInquireIdentity (entry : Fin 4)
  /-- LSS_FASTSCAN: An LSS fastscan request is answered against the LSS address of 1018 (R50) -/
  | lssFastscan (idNumber : BitVec 32) (bitCheck : Byte) (lssSub : Byte) (lssNext : Byte)
  /-- CRYSTAL_QUALIFIED: The crystal has run within ±0.5 % of 24 MHz for 2 ms and the PLL reference switches to it (R22) -/
  | crystalQualified
  /-- CRYSTAL_NOT_QUALIFIED: At 200 ms after reset release without a qualified crystal, bring-up fails in CRYSTAL_REQUIRED or proceeds on RC with a warning in AUTO (R130) -/
  | crystalNotQualified
  /-- CRYSTAL_LOSS: Loss of the running crystal switches the PLL to RC within 10 µs, raises DV_XTAL_LOSS and enters Outline mode (R23) -/
  | crystalLoss
  /-- PLL_LOSS: The PLL is out of lock for 10 µs and DV_PLL_LOSS is raised (R507) -/
  | pllLoss
  /-- PLL_LOCK_TIMEOUT: The PLL has not locked 200 ms after reset release and bring-up fails (R130) -/
  | pllLockTimeout
  /-- USB_START_OF_FRAME: A USB start-of-frame packet trims the RC oscillator while the PLL runs on RC (R24) -/
  | usbStartOfFrame
  /-- VIN_RISE: VIN rises above 3.9 V and becomes valid, becoming the supply source (R115) -/
  | vinRise (mv : BitVec 16)
  /-- VIN_FALL: VIN falls below 3.8 V and becomes invalid, the supply moving to VBUS or causing brown-out (R115) -/
  | vinFall (mv : BitVec 16)
  /-- VBUS_RISE: VBUS rises above 3.9 V and becomes valid (R115) -/
  | vbusRise (mv : BitVec 16)
  /-- VBUS_FALL: VBUS falls below 3.8 V and becomes invalid, detaching USB (R115) -/
  | vbusFall (mv : BitVec 16)
  /-- VIN_RESTORED_TIMER: VIN has been valid again for 100 ms and the effective power state returns to the commanded state (R119) -/
  | vinRestoredTimer
  /-- SLEEP_WAKE: In SLEEP a dominant CAN_RX, valid VBUS or asserted RESET_N starts bring-up with reset kind WAKE (R150) -/
  | sleepWake (source : WakeSource)
  /-- RESET_PIN: RESET_N held low for its filter time starts a reset of kind RESET_PIN (R103) -/
  | resetPin
  /-- RESET_EFFECT: After the flush ends or 1.5 ms after the reset cause, the reset takes effect, zero-filling volatile memory and closing the ring bypass (R139) -/
  | resetEffect
  /-- RESET_RELEASE: Reset is released; trims load, memories are zero-filled and checked and the reset kind is determined (R138) -/
  | resetRelease
  /-- SURVEY_START: 45 ms after reset release the Survey service starts, reading NODE_SEL, attaching USB and starting start-in-Outline rails (R127) -/
  | surveyStart (strapCodes : List (BitVec 12)) (spiId : BitVec 24)
  /-- SELF_TEST_COMPLETE: The configuration, calibration CRC and analog self-test checks complete and set their bits in 2120:02 (R130) -/
  | selfTestComplete (analogOk : Bool)
  /-- METROLOGY_SETTLED: Eight qualified mains periods after the settling start, metrology is settled and REDUCED_PRECISION may clear (R130) -/
  | metrologySettled
  /-- FULL_SERVICE: Once every full-service condition holds, the device starts CiA 1301 mode, applies a held NMT Start and admits all writes (R132) -/
  | fullService
  /-- DEW_CHECK_COMPLETE: A dew check of all enabled nodes ends and passes, or fails and enters or continues wet hold (R135) -/
  | dewCheckComplete (readings : List (BitVec 16))
  /-- DEW_CHECK_REPEAT: In wet hold 10 s after the previous check started, a new dew check starts (R136) -/
  | dewCheckRepeat
  /-- WET_HOLD_OVERRIDE: A write of 0x0001 to 2128:05 under OEM ends wet hold and records DV_WET_OVERRIDE (R137) -/
  | wetHoldOverride (ch : Channel) (tag : BitVec 16)
  /-- POWER_FAIL_WARNING: An enabled power-fail source fires and the device asserts PFWO_N, records DV_PFW, aborts stores and writes totals and staging (R121) -/
  | powerFailWarning (source : Fin 3)
  /-- POWER_FAIL_FLUSH_COMPLETE: Step 5 of the power-fail sequence ends, recording its duration and setting the flush-complete bit (R121) -/
  | powerFailFlushComplete (us : BitVec 16)
  /-- POWER_FAIL_WARNING_CLEAR: All enabled sources inactive for 10 ms clear the warning, deassert PFWO_N and resume suspended flash writes (R124) -/
  | powerFailWarningClear
  /-- WATCHDOG_EXPIRY: The supervisor watchdog expires and resets the device as WATCHDOG or WATCHDOG_OUTLINE (R141) -/
  | watchdogExpiry
  /-- THERMAL_RESET: The junction reaches 165 °C and the device flushes staging and holds itself in a THERMAL reset (R142) -/
  | thermalReset (junction : BitVec 16)
  /-- THERMAL_RELEASE: The junction falls to 150 °C and bring-up runs (R142) -/
  | thermalRelease
  /-- JUNCTION_TEMPERATURE_HIGH: The junction reading reaches 140 °C and DV_TEMP_HIGH stands until below 135 °C (R594) -/
  | junctionTemperatureHigh (junction : BitVec 16)
  /-- POWER_STATE_WRITE: A write of 2100:01 sets a target power state and starts the first transition step toward it (R147) -/
  | powerStateWrite (ch : Channel) (state : Byte)
  /-- STANDBY_TO_IDLE: The STANDBY to IDLE step starts the Harik engine, releases the PWM hold and joins the ring (R148) -/
  | standbyToIdle
  /-- IDLE_TO_RUN: The IDLE to RUN step completes at the next engine sample boundary, admitting rail enables (R148) -/
  | idleToRun
  /-- RUN_TO_IDLE: The RUN to IDLE step soft-stops every rail and completes once every rail has stopped (R148) -/
  | runToIdle
  /-- IDLE_TO_STANDBY: The IDLE to STANDBY step leaves the ring, halts the engine and applies the hardware PWM hold (R148) -/
  | idleToStandby
  /-- STANDBY_TO_SLEEP: The STANDBY to SLEEP step detaches USB, flushes staging, writes totals and powers down all but the RTC domain (R148) -/
  | standbyToSleep
  /-- STANDBY_TO_OFF: The STANDBY to OFF step does the SLEEP actions and then switches off the pre-regulator (R148) -/
  | standbyToOff
  /-- VPWM_LOW: VPWM falls below 2.7 V, every PWM output is held low and enabled rails raise RL_VPWM_LOW (R95) -/
  | vpwmLow (mv : BitVec 16)
  /-- VPWM_RESTORED: VPWM rises to 2.7 V or more and the hold and RL_VPWM_LOW end (R95) -/
  | vpwmRestored (mv : BitVec 16)
  /-- MAINS_ZERO_CROSSING: A positive-going zero crossing of the selected VM input is qualified and advances the tracker toward LOCKED (R160) -/
  | mainsZeroCrossing (period : Nat) (halfRms : Nat)
  /-- MAINS_CROSSING_TIMEOUT: No qualified crossing within 1.25 periods moves the tracker from LOCKED to FLYWHEEL (R162) -/
  | mainsCrossingTimeout
  /-- FLYWHEEL_TIMEOUT: The flywheel time passes without lock and the tracker enters TIMER (R163) -/
  | flywheelTimeout
  /-- BASE_PERIOD_START: A new base switching period begins with alignment correction, slew and clamp limits applied (R168) -/
  | basePeriodStart
  /-- GRATICULE_SCAN: Every 64 core clocks the Graticule compares each source bearing with the previous scan and fires and re-arms entries (R174) -/
  | graticuleScan
  /-- GRATICULE_SUPERVISOR_ACTION: The supervisor takes a queued Graticule action and completes it within 50 µs of its crossing (R179) -/
  | graticuleSupervisorAction
  /-- GRATICULE_ENTRY_WRITE: A write of a Graticule entry is checked, applied atomically and armed by the arming rule (R176) -/
  | graticuleEntryWrite (ch : Channel) (n : Fin 64) (value : BitVec 64)
  /-- RELAY_COMMAND_IMMEDIATE: A relay command in mode 0 drives the relay output at the next scan (R184) -/
  | relayCommandImmediate (ch : Channel) (tag : BitVec 16) (relay : Fin 4) (closed : Bool)
  /-- RELAY_COMMAND_AT_BEARING: A relay command in mode 1 switches at the next crossing of the relay's compensated close or open bearing (R184) -/
  | relayCommandAtBearing (ch : Channel) (tag : BitVec 16) (relay : Fin 4) (closed : Bool)
  /-- RELAY_FEEDBACK_TRANSITION: The selected relay feedback transitions and the operate time is measured and learned or rejected (R185) -/
  | relayFeedbackTransition (relay : Fin 4) (feedback : Feedback)
  /-- GPIO_MODE_WRITE: A write of a GPIO mode reaches the pin within 10 µs (R187) -/
  | gpioModeWrite (ch : Channel) (n : Fin 6) (mode : Byte)
  /-- GPIO_LEVEL_WRITE: A write of the GPIO output levels reaches output-mode pins within 10 µs (R188) -/
  | gpioLevelWrite (ch : Channel) (levels : Byte)
  /-- PHASE_CURRENT_TRIGGER: A routed trigger starts a phase-current conversion or waits in the ADC queue (R199) -/
  | phaseCurrentTrigger (p : PhaseId)
  /-- PHASE_CURRENT_CONVERSION_DONE: A phase-current conversion result reaches the phase regulator and 400p5:07 (R199) -/
  | phaseCurrentConversionDone (p : PhaseId) (code : BitVec 12)
  /-- OVERCURRENT_CROSSING: A comparator crossing persisting for the filter length raises PH_OC_POS or PH_OC_NEG and applies the over-current action (R204) -/
  | overcurrentCrossing (p : PhaseId) (crossing : Crossing)
  /-- WINDOW_ERROR_READY: The window error ADC result is ready and delivered to the Harik engine, letting error-dependent slots enter (R208) -/
  | windowErrorReady (r : VRailId) (codes : List (BitVec 9))
  /-- VSNS_WINDOW_TIMEOUT: An error saturation lasting longer than 3r50:0C ms raises RL_VSNS_WINDOW once (R209) -/
  | vsnsWindowTimeout (r : VRailId)
  /-- VSNS_MISMATCH: A difference above 8 mV in 64 consecutive error samples raises RL_VSNS_MISMATCH (R211) -/
  | vsnsMismatch (r : VRailId)
  /-- ABSOLUTE_BLOCK_COMPLETE: A block of absolute conversions completes and updates the measured output 3r48:01 (R210) -/
  | absoluteBlockComplete (r : VRailId) (codes : List (BitVec 14))
  /-- VSNS_OPEN: An absolute reading above 1.9 V for 100 µs raises RL_VSNS_OPEN (R212) -/
  | vsnsOpen (r : VRailId) (code : BitVec 14)
  /-- VSNS_OPEN_END: The absolute reading has stayed below 1.8 V for 100 µs and RL_VSNS_OPEN ends (R503) -/
  | vsnsOpenEnd (r : VRailId)
  /-- AUX_RESULT: An auxiliary channel completes its averaged result, converts it by mode and evaluates its thresholds (R216) -/
  | auxResult (c : AuxId) (codes : List (BitVec 12))
  /-- AUX_TRIGGERED_RESULT: The out-of-sequence AUX conversion completes and its value is placed in the triggered value object (R218) -/
  | auxTriggeredResult (c : AuxId) (code : BitVec 12)
  /-- PWM_ZERO: At ZERO a phase takes its shadow values, forms the period's width with extremes, short-pulse and bootstrap handling, and fires ZERO (R233) -/
  | pwmZero (p : PhaseId)
  /-- PWM_MID_UPDATE: With MID update a phase takes compare A and force mode at P/2 (R234) -/
  | pwmMidUpdate (p : PhaseId)
  /-- PWM_PERIOD: The PERIOD trigger event fires and passes its prescaler to ADC triggers and INT_N (R232) -/
  | pwmPeriod (p : PhaseId)
  /-- PWM_CMPA: The CMPA trigger event fires at the falling reference edge and passes its prescaler (R232) -/
  | pwmCmpa (p : PhaseId)
  /-- PWM_CMPB: The CMPB trigger event fires at its position and passes its prescaler (R232) -/
  | pwmCmpb (p : PhaseId)
  /-- NODE_TRANSITION: A node transition in the expected direction gives the node delay measurement of an edge (R242) -/
  | nodeTransition (p : PhaseId) (falling : Bool) (edge : NodeEdge)
  /-- DEAD_TIME_ADAPT: Every 400p6:06 periods the applied dead time of an adapting edge moves by one step toward the margin (R243) -/
  | deadTimeAdapt (p : PhaseId) (falling : Bool)
  /-- NODE_MISS_LIMIT: Eight consecutive windows without node transition raise PH_NODE_MISS and return the edge to fixed dead time (R244) -/
  | nodeMissLimit (p : PhaseId) (falling : Bool)
  /-- DT_ADAPT_LIMIT: Sixty-four consecutive adaptations pushing beyond a bound raise PH_DT_ADAPT_LIMIT once (R245) -/
  | dtAdaptLimit (p : PhaseId) (falling : Bool)
  /-- TRIP_INPUT_ACTIVE: A TRIP input level persisting for its filter trips every phase in its mask and raises PH_TRIPn (R254) -/
  | tripInputActive (t : Fin 4) (level : TripLevel)
  /-- TRIP_CLEAR: A write to 2630:05 clears latched trips of the named phases at the next ZERO, or is refused while a source is active (R256) -/
  | tripClear (ch : Channel) (tag : BitVec 16) (phases : BitVec 12)
  /-- FORCE_BOTH_OFF: Force mode BOTH_OFF drives both outputs low from the next update point and raises PH_FORCE_APPLIED (R258) -/
  | forceBothOff (ch : Channel) (p : PhaseId)
  /-- FORCE_HIGH_ON: Force mode HIGH_ON holds the high side on from the next update point and raises PH_FORCE_APPLIED (R258) -/
  | forceHighOn (ch : Channel) (p : PhaseId)
  /-- FORCE_LOW_ON: Force mode LOW_ON holds the low side on from the next update point and raises PH_FORCE_APPLIED (R258) -/
  | forceLowOn (ch : Channel) (p : PhaseId)
  /-- FORCE_NONE: Force mode NONE returns the phase to regulation at the next update point with the carry at 0 (R259) -/
  | forceNone (ch : Channel) (p : PhaseId)
  /-- RAIL_ENABLE_ON: A write of ON to 3r00:03 enables the rail from its measured output if every enable condition holds (R277) -/
  | railEnableOn (ch : Channel) (r : RailId)
  /-- RAIL_SOFT_OFF: A write of SOFT_OFF starts a soft stop ramping V_r to 0 at the off rate (R280) -/
  | railSoftOff (ch : Channel) (r : RailId)
  /-- RAIL_HARD_OFF: A write of HARD_OFF drives every phase of the rail low at its next update point (R281) -/
  | railHardOff (ch : Channel) (r : RailId)
  /-- ENGINE_SAMPLE_BOUNDARY: At each k-th trigger the rail ramps V_r, latches slot inputs, computes slots, selects the winner, distributes demand and checks protection (R314) -/
  | engineSampleBoundary (r : RailId)
  /-- TARGET_WRITE: A write of the target 3r10:01 is accepted from the selected source, clamped and applied, or refused or discarded (R285) -/
  | targetWrite (ch : Channel) (r : RailId) (target : BitVec 32)
  /-- PROFILE_START: Argument 0x0001 to 3r10:09 starts a ramp profile of up to four steps (R289) -/
  | profileStart (ch : Channel) (r : RailId) (tag : BitVec 16)
  /-- PROFILE_ABORT: Argument 0x0002 to 3r10:09 aborts the profile and holds V_r (R289) -/
  | profileAbort (ch : Channel) (r : RailId) (tag : BitVec 16)
  /-- PROFILE_STEP_HOLD_EXPIRY: The hold of a profile step expires and the next step target is written, or the profile ends (R289) -/
  | profileStepHoldExpiry (r : RailId)
  /-- ENVELOPE_WRITE: A write of the protection envelope is taken whole at the next boundary, narrowing gradually, and raises RL_ENV_CHANGE (R295) -/
  | envelopeWrite (ch : Channel) (r : RailId) (sub : Fin 12) (value : BitVec 32)
  /-- PROTECTION_CONDITION_COUNTED: An OV, UV, OC or STALL condition held for its delay hard-stops the rail and raises RL_HICCUP or the final fault event (R298) -/
  | protectionConditionCounted (r : RailId) (cond : Fin 4)
  /-- HICCUP_DELAY_EXPIRY: The hiccup delay ends and the rail restarts from its measured value, or stays off if enabling no longer holds (R299) -/
  | hiccupDelayExpiry (r : RailId)
  /-- HICCUP_RESET_TIME_EXPIRY: The rail has run past soft start for 3r00:0A ms without a condition and the attempt count returns to 0 (R299) -/
  | hiccupResetTimeExpiry (r : RailId)
  /-- SHED_DWELL_EXPIRY: Rail current below SHED for the dwell sheds one phase, raising RL_PHASE_SHED, once any required window is open (R302) -/
  | shedDwellExpiry (r : VRailId)
  /-- AVS_VOLTAGE_WRITE: An AVSBus Voltage write sets the rail target and is acknowledged by SlaveAck (R292) -/
  | avsVoltageWrite (sel : BitVec 4) (crcOk : Bool) (code : Option (BitVec 16))
  /-- AVS_VOLTAGE_READ: An AVSBus Voltage read returns the measured output in the select's voltage scale (R291) -/
  | avsVoltageRead (sel : BitVec 4) (crcOk : Bool)
  /-- AVS_VOUT_TRANS_RATE_WRITE: An AVSBus VoutTransRate write sets the rail's up and down rates (R291) -/
  | avsVoutTransRateWrite (sel : BitVec 4) (crcOk : Bool) (code : Option (BitVec 16))
  /-- AVS_VOUT_TRANS_RATE_READ: An AVSBus VoutTransRate read returns the applied rates (R291) -/
  | avsVoutTransRateRead (sel : BitVec 4) (crcOk : Bool)
  /-- AVS_CURRENT_READ: An AVSBus Current read returns the rail current in the select's current scale (R291) -/
  | avsCurrentRead (sel : BitVec 4) (crcOk : Bool)
  /-- AVS_TEMPERATURE_READ: An AVSBus Temperature read returns the value of the mapped AUX channel (R291) -/
  | avsTemperatureRead (sel : BitVec 4) (crcOk : Bool)
  /-- AVS_RESET_VOLTAGE: An AVSBus Reset Voltage write sets the target to the stored 3r10:01 (R291) -/
  | avsResetVoltage (sel : BitVec 4) (crcOk : Bool)
  /-- AVS_POWER_MODE_WRITE: An AVSBus Power Mode write is acknowledged with no action (R291) -/
  | avsPowerModeWrite (sel : BitVec 4) (crcOk : Bool) (code : BitVec 16)
  /-- AVS_POWER_MODE_READ: An AVSBus Power Mode read returns 0 while the rail is ON and 3 otherwise (R291) -/
  | avsPowerModeRead (sel : BitVec 4) (crcOk : Bool)
  /-- AVS_STATUS_READ: An AVSBus Status read returns the target, fault, source and Outline bits (R291) -/
  | avsStatusRead (sel : BitVec 4) (crcOk : Bool)
  /-- OSCILLATION_DETECTION: A slot's sign-change count reaches N and the detector action OFF, REPORT, SAFE or TRIP applies (R333) -/
  | oscillationDetection (k : SlotId)
  /-- RETURN_TO_PRIMARY: Argument 0x0001 to 381s:0E returns a slot to its primary Contour table at the next boundary (R334) -/
  | returnToPrimary (ch : Channel) (k : SlotId) (tag : BitVec 16)
  /-- CHATTER_DETECTION: Winner changes in a window reach N_c and RL_CHATTER is raised once (R335) -/
  | chatterDetection (r : RailId)
  /-- CONTOUR_COMMIT: A commit of a Contour shadow validates it and places it in the pending buffer (R336) -/
  | contourCommit (ch : Channel) (k : SlotId) (safe : Bool) (tag : BitVec 16)
  /-- RELIEF_COMMIT: A commit of a Relief shadow validates it and places it in the pending buffer (R336) -/
  | reliefCommit (ch : Channel) (t : Fin 16) (tag : BitVec 16)
  /-- SAMPLE_WATCHDOG_EXPIRY: A missed slot-sample or engine parity error stops the engine, raises DV_HK_WATCHDOG and enters Outline mode (R337) -/
  | sampleWatchdogExpiry (r : RailId) (parity : Bool)
  /-- HALL_TRANSITION: A filtered Hall code change gives a forward, reverse, sequence-error or illegal transition, updating ELEC, speed and the mask entry (R343) -/
  | hallTransition (code : BitVec 3) (us : Nat)
  /-- ZERO_SPEED_TIMEOUT: The time since the last legal transition exceeds 3400:10 and the speed reads 0 (R344) -/
  | zeroSpeedTimeout (us : Nat)
  /-- STALL_TIMEOUT: A positive demand with no legal transition for 3400:11 ms counts a STALL condition (R357) -/
  | stallTimeout (ms : BitVec 32)
  /-- DIRECTION_WRITE: A write of 3400:0B differing from the applied direction starts a reversal while drive rail D is ON (R354) -/
  | directionWrite (ch : Channel) (direction : Byte)
  /-- REVERSAL_SWITCH: Once the speed is at or below the reversal speed the applied direction switches and soft start begins (R354) -/
  | reversalSwitch
  /-- OUTLINE_NO_TRANSITION_TIMEOUT: Under the Outline controller no legal transition for 1000 ms holds outputs off for 2000 ms and counts an attempt (R360) -/
  | outlineNoTransitionTimeout
  /-- OUTLINE_RESTART_TIMEOUT: The 2000 ms off time ends and the Outline controller starts the motor again (R360) -/
  | outlineRestartTimeout
  /-- OUTLINE_BUS_SUPPORT_CROSSING: The Outline bus comparator crosses its on or off threshold and starts or stops the storage-rail switching (R487) -/
  | outlineBusSupportCrossing (pinMv : BitVec 12)
  /-- ENCODER_COUNT: A quadrature edge updates the encoder count and the ENC bearing (R157) -/
  | encoderCount (up : Bool)
  /-- ENCODER_INDEX: ENC_Z sets the ENC bearing to 0 and raises DV_ENC_INDEX_ERR for a large correction (R157) -/
  | encoderIndex
  /-- RING_FRAME_SEND: The ring lead sends the next frame with its bearing, epoch, rotation fields and CRC (R367) -/
  | ringFrameSend
  /-- RING_FRAME_RECEIVED: A frame arrives at a joined device, is checked, read, updated with own fields and forwarded (R370) -/
  | ringFrameReceived (frame : RingFrame) (latencyPs : BitVec 32)
  /-- RING_LEAD_LISTEN_END: After 20.48 µs of listening the ring lead starts discovery or blocks on a duplicate lead (R376) -/
  | ringLeadListenEnd (framesFound : Bool)
  /-- RING_LOCK: A follower receives 8 consecutive good frames, opens its bypass, joins and raises TR_JOINED (R377) -/
  | ringLock
  /-- RING_NO_LEAD: A follower receiving no valid frame for 100 ms raises TR_NO_LEAD (R377) -/
  | ringNoLead
  /-- RING_DISCOVERY_END: The initial discovery time ends and the ring lead sends ALIGN pairs, enters UP and checks spanning rails (R379) -/
  | ringDiscoveryEnd
  /-- RING_MEMBER_LOST: A member's second unanswered poll raises TR_MEMBER_LOST and changes N_s at the next boundary (R386) -/
  | ringMemberLost (position : BitVec 3)
  /-- RING_BREAK: Eight consecutive bad frames declare a break, raise TR_BREAK and apply the ring-loss actions by role (R398) -/
  | ringBreak
  /-- RING_LEAD_RECOVERY: Eight consecutive good frames after a break make the ring lead re-enter discovery (R399) -/
  | ringLeadRecovery
  /-- RING_PORT_ENABLE: A write of 0x01 to 2400:01 lets the ring port join in IDLE and RUN (R375) -/
  | ringPortEnable (ch : Channel)
  /-- RING_PORT_DISABLE: A write of 0x00 to 2400:01 makes the device leave the ring (R396) -/
  | ringPortDisable (ch : Channel)
  /-- RING_LEAVE_COMPLETE: After sending a frame with its fault bit, the leaving device closes its bypass at the frame reference and raises TR_LEFT (R396) -/
  | ringLeaveComplete
  /-- DECIMATED_SAMPLE: A decimated current sample selects the high or low path and checks clipping (R412) -/
  | decimatedSample (sample : DecimatedSample)
  /-- COHERENT_SAMPLE: A sample is resampled at a MAINS bearing multiple of 256, calibrated and adds its energy increment (R411) -/
  | coherentSample (paths : CoherentPins) (dt : Nat)
  /-- HALF_CYCLE_PUBLICATION: At bearing 0 or 32 768 the unit computes and publishes quantities, updates energy registers and evaluates supply quality (R420) -/
  | halfCyclePublication
  /-- SENSOR_FAULT_DETECTED: A current pin outside 0.10–2.40 V or sensor supply out of range for 10 ms raises MT_I_SENSOR_FAULT (R408) -/
  | sensorFaultDetected (i : Fin 4) (cause : Fin 3) (mv : BitVec 16)
  /-- SENSOR_FAULT_CLEARED: The sensor fault conditions have been absent for 100 ms and the event clears (R408) -/
  | sensorFaultCleared (i : Fin 4)
  /-- CALIBRATION_STORE: Argument 0x0001 to 5000:1B starts writing calibration into the alternate half (R418) -/
  | calibrationStore (ch : Channel) (tag : BitVec 16)
  /-- CALIBRATION_STORE_COMPLETE: The calibration half is written with valid mark, the older half retired and the write answered (R418) -/
  | calibrationStoreComplete
  /-- PERIODIC_TOTALS_SAVE: Six hours after the last copy a PERIODIC totals copy falls due and starts when flash is free (R443) -/
  | periodicTotalsSave
  /-- TOTALS_SAVE_NOW: Argument 0x0001 to 5070:01 requests a HOST totals copy (R443) -/
  | totalsSaveNow (ch : Channel) (tag : BitVec 16)
  /-- TOTALS_RESET: Argument 0x0001 to 5070:02 under OEM zeroes the energy registers and residues and saves a copy (R436) -/
  | totalsReset (ch : Channel) (tag : BitVec 16)
  /-- DC_ENERGY_RESET: Argument 0x0001 to 3r60:03 zeroes the rail's DC-side energy registers (R439) -/
  | dcEnergyReset (ch : Channel) (r : RailId) (tag : BitVec 16)
  /-- TOTALS_COPY_COMPLETE: A totals copy is written and read back, rewritten on mismatch, and the next sector is checked for erase (R442) -/
  | totalsCopyComplete (readBackOk : Bool)
  /-- ENERGY_SECTOR_ERASE_COMPLETE: The erase of an energy-copy sector finishes (R442) -/
  | energySectorEraseComplete
  /-- EPULSE_START: An owed energy pulse starts at its spread instant, or waits in the backlog (R446) -/
  | epulseStart (e : Fin 2)
  /-- EPULSE_END: A pulse width ends and the output returns to its idle level (R447) -/
  | epulseEnd (e : Fin 2)
  /-- SUPPLY_QUALITY_CLEAR_COUNTS: Argument 0x0001 to 5068:11 clears the sag, swell and interruption counts (R454) -/
  | supplyQualityClearCounts (ch : Channel) (tag : BitVec 16)
  /-- EVENT_RAISE: A block raises an event, whose response acts at once and which enters the pending FIFO or overflow map (R460) -/
  | eventRaise (event : Fin 640) (data : BitVec 64)
  /-- EVENT_CONDITION_END: A standing event's condition ends, the event becomes LATCHED and an END record is produced (R500) -/
  | eventConditionEnd (event : Fin 640) (data : BitVec 64)
  /-- FIFO_ENTRY_PROCESS: The supervisor takes a FIFO entry, assigns SEQ, records or coalesces it, sends its EMCY and updates 2320 (R461) -/
  | fifoEntryProcess
  /-- OVERFLOW_REQUEUE: As FIFO room returns, marked overflow sources are queued as single occurrences with the overflow flag (R461) -/
  | overflowRequeue
  /-- EVENT_RESPONSE_WRITE: A write of an event response entry is checked against the permitted range and applies from the next raising while INACTIVE (R462) -/
  | eventResponseWrite (ch : Channel) (event : Fin 640) (entry : Byte)
  /-- EVENT_CLEAR: A clear of one event number clears it if LATCHED and is refused if STANDING (R469) -/
  | eventClear (ch : Channel) (tag : BitVec 16) (event : Fin 640)
  /-- EVENT_CLEAR_ALL: Argument 0x0FFF clears every LATCHED event (R469) -/
  | eventClearAll (ch : Channel) (tag : BitVec 16)
  /-- ACKNOWLEDGE: Argument 0x0001 to 2300:03 lowers each active response to that of its uncleared events (R470) -/
  | acknowledge (ch : Channel) (tag : BitVec 16)
  /-- INTERRUPT_CLEAR: A write to 2320:02 clears the named interrupt flags (R473) -/
  | interruptClear (ch : Channel) (tag : BitVec 16) (flags : BitVec 4)
  /-- OUTLINE_ENTER: Argument 0x0001 to 2300:04 enters Outline mode with cause HOST (R488) -/
  | outlineEnter (ch : Channel) (tag : BitVec 16)
  /-- OUTLINE_LEAVE: Argument 0x0002 to 2300:04 leaves Outline mode when no cause stands, reinitialising the engine and raising DV_OUTLINE_EXIT (R488) -/
  | outlineLeave (ch : Channel) (tag : BitVec 16)
  /-- OUTLINE_SET_COMMIT: Argument 0x0001 to 2340:01 validates and starts writing the Outline set into the alternate block (R489) -/
  | outlineSetCommit (ch : Channel) (tag : BitVec 16)
  /-- OUTLINE_SET_COMMIT_COMPLETE: The Outline block is written, the older retired and RC_OUTLINE_SET raised (R489) -/
  | outlineSetCommitComplete
  /-- SAFE_INPUT_FALL: A SAFE input below its threshold makes the hardware path drive SAFEOFF_N and masked phases low and release flagged relays (R475) -/
  | safeInputFall (b : Bool)
  /-- SAFE_SAMPLE: Every 100 µs each SAFE input is sampled and the discrepancy count advanced or reset (R478) -/
  | safeSample (a : Bool) (b : Bool)
  /-- SAFE_FILTER_CHANGE: Three consecutive samples at a new level change a filtered SAFE level, driving permit-lost, disagree and re-arm handling (R478) -/
  | safeFilterChange
  /-- DISCREPANCY_FAULT: The discrepancy count reaches T_d and DV_SAFE_DISCREPANCY is raised (R479) -/
  | discrepancyFault
  /-- PERMIT_GRANT: Once all permit conditions hold, the safe-off path releases and SAFEOFF_N goes high (R482) -/
  | permitGrant
  /-- FUNCTION_REINITIALISE: Operation REINITIALISE on 2110:01 resets the internal state of the named function (R491) -/
  | functionReinitialise (ch : Channel) (tag : BitVec 16) (fn : Fin 13)
  /-- FUNCTION_DISABLE: Operation DISABLE on 2110:01 stops the named function after its work in flight (R491) -/
  | functionDisable (ch : Channel) (tag : BitVec 16) (fn : Fin 13)
  /-- FUNCTION_DISABLE_HARD: Operation DISABLE_HARD hard-stops rail functions and acts as DISABLE for the others (R490) -/
  | functionDisableHard (ch : Channel) (tag : BitVec 16) (fn : Fin 13)
  /-- FUNCTION_ENABLE: Operation ENABLE on 2110:01 returns the named function to ENABLED, resuming a stopping rail (R492) -/
  | functionEnable (ch : Channel) (tag : BitVec 16) (fn : Fin 13)
  /-- FUNCTION_STOPPED: A disabled function reaches its defined end and reads DISABLED (R492) -/
  | functionStopped (fn : Fin 13)
  /-- POWER_CYCLE_REQUEST: A write of 2110:02 raises DV_POWER_CYCLE and starts the flush and totals copy before asserting PWRCYC_N (R493) -/
  | powerCycleRequest (ch : Channel) (tag : BitVec 16) (ms : BitVec 16)
  /-- POWER_CYCLE_ASSERT: After the flush and totals copy, PWRCYC_N is asserted for the requested duration and the request marked in retained SRAM (R143) -/
  | powerCycleAssert
  /-- POWER_CYCLE_RELEASE: The PWRCYC_N duration ends, the pin is released and, if VBUS kept the device running, the request completes (R104) -/
  | powerCycleRelease
  /-- STAGING_ENTRY_ELIGIBLE: A staging entry becomes eligible for writing 10 ms after its first occurrence (R518) -/
  | stagingEntryEligible (seq : BitVec 32)
  /-- FLASH_GRANULE_COMPLETE: A flash granule finishes programming and the recorder starts the next granule, direct record or eligible entry (R520) -/
  | flashGranuleComplete
  /-- LOG_SECTOR_ERASE_COMPLETE: A log sector erase ends and RC_LOG_SECTOR_ERASED is raised with the lowest surviving SEQ (R524) -/
  | logSectorEraseComplete
  /-- LOG_ERASE: A write of 5800:01 flushes staging, raises RC_LOG_ERASED and erases the chosen log (R534) -/
  | logErase (ch : Channel) (tag : BitVec 16) (scope : Fin 3)
  /-- LOG_ERASE_COMPLETE: The last sector of a log erase is erased and RC_LOG_ERASED is written as the first record (R534) -/
  | logEraseComplete
  /-- LOG_CURSOR_WRITE: A write of 5810:01 moves the channel's log cursor (R529) -/
  | logCursorWrite (ch : Channel) (seq : BitVec 32)
  /-- LOG_READ_FROM_CURSOR: A read of 5810:06 returns up to 16 records from the cursor, deferring sector erases (R529) -/
  | logReadFromCursor (ch : Channel)
  /-- LOG_READ_AT_CURSOR: A read of 5810:08 returns the record whose SEQ equals the cursor or no data (R530) -/
  | logReadAtCursor (ch : Channel)
  /-- LOG_SNAPSHOT_READ: A read of 5810:05 returns a header and every internal record, deferring sector erases (R531) -/
  | logSnapshotRead (ch : Channel)
  /-- READ_DEFERRAL_TIMEOUT: A log read open for 10 s is aborted and the deferred erase proceeds (R532) -/
  | readDeferralTimeout
  /-- EXTERNAL_LOG_WRITE_COMPLETE: A record written to the external memory is read back and a failure raises CM_SPI_WRITE_FAIL (R536) -/
  | externalLogWriteComplete (readBackOk : Bool) (status : Byte)
  /-- CALENDAR_TIME_WRITE: A GSP write of 5820:01 at TECHNICIAN sets the RTC (R539) -/
  | calendarTimeWrite (ch : Channel) (time : BitVec 64)
  /-- RTC_TRIM_WRITE: A write of 5820:03 sets the RTC trim and clears the trim accumulator (R541) -/
  | rtcTrimWrite (ch : Channel) (trim : BitVec 16)
  /-- RTC_TRIM_STEP: The trim accumulator reaches 10 000 000 and the RTC counts two cycles or none (R541) -/
  | rtcTrimStep
  /-- LSE_STOP_TIMEOUT: The 32.768 kHz crystal stopped for 1 s makes time not valid (R540) -/
  | lseStopTimeout
  /-- USB_CONFIGURED: The USB host configures the device, CM_USB_ATTACH is raised and a base-level GSP session begins (R562) -/
  | usbConfigured
  /-- USB_DETACH: USB detaches, raising CM_USB_DETACH, ending sessions, transfers and the event stream (R545) -/
  | usbDetach
  /-- USB_BUS_RESET: A USB bus reset after configuration raises CM_USB_DETACH (R509) -/
  | usbBusReset
  /-- USB_SUSPEND: USB suspend is observed and changes no draw, power state or session (R546) -/
  | usbSuspend
  /-- GSP_READ: A GSP READ frame returns the value of INDEX:SUB or ABORT (R550) -/
  | gspRead (frame : List Byte)
  /-- GSP_WRITE: A GSP WRITE frame writes INDEX:SUB with the payload and answers empty or ABORT (R550) -/
  | gspWrite (frame : List Byte)
  /-- GSP_BLOCK_READ: A GSP BLOCK_READ segment opens a block read at offset 0 or returns the next up to 504 bytes (R556) -/
  | gspBlockRead (frame : List Byte)
  /-- GSP_BLOCK_WRITE: A GSP BLOCK_WRITE segment adds data and applies the whole value at LAST (R557) -/
  | gspBlockWrite (frame : List Byte)
  /-- GSP_SUBSCRIBE: A GSP SUBSCRIBE sets the minimum severity of the event stream and returns the next SEQ (R559) -/
  | gspSubscribe (frame : List Byte)
  /-- GSP_UNSUBSCRIBE: A GSP UNSUBSCRIBE ends the event stream (R559) -/
  | gspUnsubscribe (frame : List Byte)
  /-- GSP_PING: A GSP PING returns lifecycle, power state, session level, bring-up stage and uptime (R549) -/
  | gspPing (frame : List Byte)
  /-- GSP_BLOCK_TIMEOUT: More than 1000 ms between block segments abandons the transfer (R558) -/
  | gspBlockTimeout
  /-- SESSION_CHALLENGE: A write of 2020:01 draws a new nonce for the requested level on the channel (R563) -/
  | sessionChallenge (ch : Channel) (tag : BitVec 16) (level : BitVec 16)
  /-- SESSION_RESPONSE: A write of 2020:03 opens the session on a matching HMAC or counts a failure and raises RC_SESSION_FAIL (R564) -/
  | sessionResponse (ch : Channel) (m : List Byte)
  /-- SESSION_CLOSE: Argument 0x0001 to 2020:05 ends the authenticated session and raises RC_SESSION_CLOSE (R565) -/
  | sessionClose (ch : Channel) (tag : BitVec 16)
  /-- SESSION_IDLE_TIMEOUT: 300 s without an accepted request ends the authenticated session (R565) -/
  | sessionIdleTimeout (ch : Channel)
  /-- NONCE_EXPIRY: A nonce unused for 30 s becomes void (R563) -/
  | nonceExpiry (ch : Channel)
  /-- SESSION_LOCKOUT_EXPIRY: The 60 s lockout after five failures ends and challenges are accepted again (R564) -/
  | sessionLockoutExpiry (ch : Channel)
  /-- KEY_WRITE: A write of a session key stores it in alternate copies for use from the next challenge (R566) -/
  | keyWrite (ch : Channel) (oem : Bool) (key : List Byte)
  /-- ACCESS_MAP_COMMIT: Argument 0x0001 to 2028:42 validates and stores the access map, which takes effect at the next boundary (R569) -/
  | accessMapCommit (ch : Channel) (tag : BitVec 16)
  /-- LIFECYCLE_TO_OEM_BUILD: A transition request to OEM_BUILD flushes, wipes the logs and resets with kind SOFTWARE (R572) -/
  | lifecycleToOemBuild (ch : Channel) (tag : BitVec 16)
  /-- LIFECYCLE_TO_FIELD: A transition request to FIELD wipes per its table row, restores service-only values if from SERVICE, and resets (R572) -/
  | lifecycleToField (ch : Channel) (tag : BitVec 16)
  /-- LIFECYCLE_TO_SERVICE: A transition request to SERVICE saves service-only values, ends sessions and resets (R574) -/
  | lifecycleToService (ch : Channel) (tag : BitVec 16)
  /-- LIFECYCLE_TO_RETIRED: A transition request to RETIRED wipes stored data, keys and logs and resets into the final state (R575) -/
  | lifecycleToRetired (ch : Channel) (tag : BitVec 16)
  /-- FIRMWARE_DOWNLOAD: A write of 1F50:01 erases the inactive bank, programs the image and checks it after the last segment (R577) -/
  | firmwareDownload (ch : Channel) (data : List Byte) (first : Bool) (last : Bool)
  /-- BANK_ERASE_COMPLETE: The erase of the inactive bank finishes and the first download segment is answered (R577) -/
  | bankEraseComplete
  /-- PROGRAM_START: A write of 0x01 to 1F51:01 changes nothing (R582) -/
  | programStart (ch : Channel)
  /-- PROGRAM_CLEAR: A write of 0x03 to 1F51:01 erases the inactive bank (R582) -/
  | programClear (ch : Channel)
  /-- ACTIVATE_BANK: A write of 2040:09 naming the other verified bank activates it on trial through a SOFTWARE reset (R579) -/
  | activateBank (ch : Channel) (tag : BitVec 16) (bankB : Bool)
  /-- CONFIRM_BANK: Argument 0x0001 to 2040:0A confirms the trial bank and raises the minimum security version (R580) -/
  | confirmBank (ch : Channel) (tag : BitVec 16)
  /-- TRIAL_TIMEOUT: 600 s of continuous full service confirm the trial bank (R580) -/
  | trialTimeout
  /-- FRAME_REFERENCE_TIMEOUT: No frame reference arrives within 2.60 µs of the previous one, so a joined receiver counts a bad frame toward a break (R370) -/
  | frameReferenceTimeout
  /-- CAN_FRAME_TRANSMITTED: A queued CAN frame (EMCY, TPDO, SDO answer, heartbeat) wins arbitration and completes, freeing its queue place for the next frame (R74) -/
  | canFrameTransmitted
  /-- VBAT_FALL: VBAT falls below 1.8 V, so while VIN and VBUS are absent the RTC, retained SRAM and PWRCYC_N driver lose their supply (R117) -/
  | vbatFall (mv : BitVec 16)
  /-- VBAT_RISE: VBAT rises to 1.8 V or more and 2100:04 bit [2] is set again (R117) -/
  | vbatRise (mv : BitVec 16)
  /-- LSE_START: The 32.768 kHz crystal starts running and 2010:03 bit [3] LSE_OK is set (R540) -/
  | lseStart
  /-- PLL_LOCKED: The PLL achieves lock, setting PLL_LOCK and, in RC_ONLY, starting the count for metrology settling (R425) -/
  | pllLocked
  /-- EXTERNAL_SECTOR_ERASE_COMPLETE: A 4 KB sector erase of the external log memory ends, its duration is recorded in 2520:05 and pending external writes continue (R538) -/
  | externalSectorEraseComplete (ms : BitVec 16)
  /-- ACCESS_MAP_STORE_COMPLETE: The committed access map has been written to its alternate copy with valid mark last and the older copy retired (R569) -/
  | accessMapStoreComplete
  /-- KEY_STORE_COMPLETE: A written session key has been stored in its alternate copy with valid mark last (R566) -/
  | keyStoreComplete
  /-- USB_RESUME: The USB host resumes a suspended port and 2510:04 leaves SUSPENDED (R546) -/
  | usbResume
  /-- USB_ADDRESS_SET: The USB host assigns an address and 2510:04 reads ADDRESSED (R543) -/
  | usbAddressSet
  /-- USB_IN_TRANSFER_COMPLETE: The host takes a frame from the bulk IN endpoint and frees a place in the 16-frame EVENT queue (R560) -/
  | usbInTransferComplete
  /-- REFERENCE_RISING_EDGE: The output reference of a phase rises, PWML falls and PWMH rises after DT_R, ending a negative cycle limit and a node-measurement window (R239) -/
  | referenceRisingEdge (p : PhaseId)
  deriving DecidableEq, Repr

end Sys2Proof
end

