-- ==== Sys2Proof/Decode.lean ====
section
/-! DEFINITION. The commands that a word of the table spells: no row of the table gives bits. -/

namespace Sys2Proof

/-- The command a word spells by the table's bits. The table gives no row bits (log 1). -/
def decodeTableWord (_nbits _w : Nat) : Option Instr := none

end Sys2Proof
end

