-- ==== Sys2Proof/Config.lean ====
section
/-! DEFINITION. What one part fixes and the manual leaves open: the free values of the model.
Every constant here is opaque: nothing in Lean can evaluate it or prove a value of it. -/

namespace Sys2Proof

/-- The value a 32-bit counter takes when it counts on from 2^32 − 1; the manual states the range
of the counters and no behaviour past it. DESIGN CHOICE (log 4): free, by the counter's key. -/
opaque Config.counterPast : Nat → BitVec 32

/-- The nonce a part draws for a challenge (R563); `n` numbers the draws. DESIGN CHOICE (log 5). -/
opaque Config.nonce : Nat → BitVec 128

/-- The gain of the tracker's loop while LOCKED, by the bandwidth code 2200:04: the loop closes (g + 1) / 65 536 of a
deviation in one mains cycle (R161 gives the bandwidth and no loop). DESIGN CHOICE (log 6). -/
opaque Config.loopGain : Nat → BitVec 16

/-- The deviation of the RC oscillator from the crystal that the part measures, in 0.001 %
(2010:04), at measurement `n`. DESIGN CHOICE (log 7). -/
opaque Config.rcDeviation : Nat → BitVec 16

/-- The vendor's public key of the part (R577), as the two coordinates. DESIGN CHOICE (log 8). -/
opaque Config.vendorKeyX : BitVec 256

/-- See `Config.vendorKeyX`. -/
opaque Config.vendorKeyY : BitVec 256

/-- The serial number of the part, 2000:01 ("Per part"). DESIGN CHOICE (log 12). -/
opaque Config.serialNumber : BitVec 64

/-- The die revision of the part, 2000:02. DESIGN CHOICE (log 12). -/
opaque Config.dieRevision : BitVec 8

/-- The package revision of the part, 2000:03. DESIGN CHOICE (log 12). -/
opaque Config.packageRevision : BitVec 8

/-- The trim version of the part, 2000:04. DESIGN CHOICE (log 12). -/
opaque Config.trimVersion : BitVec 16

/-- The hardware version of the part, 1009: its first character and up to 31 more. DESIGN CHOICE (log 12). -/
opaque Config.hardwareVersion : BitVec 8 × List (BitVec 8)

/-- The software version of a bank, 100A, likewise. DESIGN CHOICE (log 12). -/
opaque Config.softwareVersion : Nat → BitVec 8 × List (BitVec 8)

/-- What an interrupted granule reads (R527 leaves three readings): 0 erased, 1 new data, others
uncorrectable; `n` numbers the interruptions. DESIGN CHOICE (log 9). -/
opaque Config.interruptedGranule : Nat → BitVec 2

/-- A value a rule leaves unstated on some operands, by a number for the place and a counter.
DESIGN CHOICE (log 10). -/
opaque Config.unstated : Nat → Nat → Int

end Sys2Proof
end

