-- ==== Sys2Proof/Machine/Catalogue.lean ====
section
/-! DEFINITION. The event catalogue: the number, severity, kind, default response, permitted responses and
EMCY code of every event source (R496–R510). -/

namespace Sys2Proof.Machine

/-- The kind of an event (R498 and the catalogue's "Kind" column). -/
inductive EventKind where
  | momentary | standing | trigger
  deriving DecidableEq, Repr

/-- A row of the catalogue: severity (R15), kind, default response, least and greatest permitted response
(codes of R463), and EMCY code. -/
structure EventInfo where
  sev : Nat
  kind : EventKind
  dflt : Nat
  lo : Nat
  hi : Nat
  emcy : Nat
  deriving DecidableEq, Repr

/-- The phase events by local code (R502); none where the code is reserved. -/
def phaseEvent (l : Nat) : Option EventInfo :=
  match l with
  | 0x0 => some ⟨0, .trigger, 0, 0, 0, 0x0⟩  -- PH_ZERO
  | 0x1 => some ⟨0, .trigger, 0, 0, 0, 0x0⟩  -- PH_PERIOD
  | 0x2 => some ⟨0, .trigger, 0, 0, 0, 0x0⟩  -- PH_CMPA
  | 0x3 => some ⟨0, .trigger, 0, 0, 0, 0x0⟩  -- PH_CMPB
  | 4 => some ⟨3, .momentary, 2, 1, 7, 0x9000⟩  -- PH_TRIP0
  | 5 => some ⟨3, .momentary, 2, 1, 7, 0x9001⟩  -- PH_TRIP1
  | 6 => some ⟨3, .momentary, 2, 1, 7, 0x9002⟩  -- PH_TRIP2
  | 7 => some ⟨3, .momentary, 2, 1, 7, 0x9003⟩  -- PH_TRIP3
  | 0x8 => some ⟨3, .momentary, 5, 1, 7, 0x2310⟩  -- PH_OC_POS
  | 0x9 => some ⟨3, .momentary, 5, 1, 7, 0x2311⟩  -- PH_OC_NEG
  | 0xA => some ⟨0, .momentary, 0, 0, 2, 0xFF10⟩  -- PH_MINPULSE_SKIP
  | 0xB => some ⟨1, .momentary, 1, 0, 5, 0xFF11⟩  -- PH_DT_ADAPT_LIMIT
  | 0xC => some ⟨2, .momentary, 2, 0, 5, 0xFF12⟩  -- PH_NODE_MISS
  | 0xD => some ⟨2, .momentary, 1, 0, 5, 0x5011⟩  -- PH_ISNS_CLIP
  | 0xE => some ⟨1, .momentary, 1, 0, 2, 0xFF14⟩  -- PH_FORCE_APPLIED
  | 0xF => some ⟨0, .momentary, 0, 0, 1, 0xFF15⟩  -- PH_BOOT_REFRESH
  | _ => none

/-- The rail events by local code (R503); none where the code is reserved. -/
def railEvent (l : Nat) : Option EventInfo :=
  match l with
  | 0x0 => some ⟨3, .momentary, 5, 1, 7, 0x3310⟩  -- RL_OV
  | 0x1 => some ⟨3, .momentary, 5, 1, 7, 0x3320⟩  -- RL_UV
  | 0x2 => some ⟨3, .momentary, 5, 1, 7, 0x2320⟩  -- RL_OC
  | 0x3 => some ⟨3, .momentary, 5, 1, 7, 0x7121⟩  -- RL_STALL
  | 0x4 => some ⟨2, .momentary, 2, 1, 7, 0xFF21⟩  -- RL_HICCUP
  | 0x5 => some ⟨2, .momentary, 1, 0, 5, 0x7310⟩  -- RL_VSNS_WINDOW
  | 0x6 => some ⟨3, .momentary, 4, 1, 7, 0x7311⟩  -- RL_VSNS_MISMATCH
  | 0x7 => some ⟨3, .standing, 5, 1, 7, 0x7312⟩  -- RL_VSNS_OPEN
  | 0x8 => some ⟨1, .momentary, 1, 0, 2, 0xFF22⟩  -- RL_TARGET_CLAMP
  | 0x9 => some ⟨1, .momentary, 1, 1, 2, 0xFF23⟩  -- RL_ENV_CHANGE
  | 0xA => some ⟨0, .momentary, 0, 0, 1, 0xFF24⟩  -- RL_PHASE_ADD
  | 0xB => some ⟨0, .momentary, 0, 0, 1, 0xFF25⟩  -- RL_PHASE_SHED
  | 0xC => some ⟨2, .momentary, 2, 0, 5, 0xFF26⟩  -- RL_CHATTER
  | 0xD => some ⟨2, .momentary, 1, 0, 5, 0x7320⟩  -- RL_HALL_ILLEGAL
  | 0xE => some ⟨1, .momentary, 1, 0, 5, 0x7321⟩  -- RL_HALL_SEQUENCE
  | 0xF => some ⟨3, .standing, 5, 1, 7, 0x3230⟩  -- RL_VPWM_LOW
  | _ => none

/-- The harik slot events by local code (R504); none where the code is reserved. -/
def slotEvent (l : Nat) : Option EventInfo :=
  match l with
  | 0x0 => some ⟨2, .momentary, 2, 0, 5, 0xFF30⟩  -- HK_OSC
  | 0x1 => some ⟨2, .standing, 2, 1, 5, 0xFF31⟩  -- HK_SAFE_CONTOUR
  | 0x2 => some ⟨3, .momentary, 5, 5, 7, 0xFF32⟩  -- HK_OSC_TRIP
  | 0x3 => some ⟨2, .momentary, 1, 0, 5, 0xFF33⟩  -- HK_RANGE
  | _ => none

/-- The voltage channel events by local code (R505); none where the code is reserved. -/
def voltageEvent (l : Nat) : Option EventInfo :=
  match l with
  | 0x0 => some ⟨2, .momentary, 1, 0, 2, 0x3111⟩  -- MT_V_CLIP
  | 0x1 => some ⟨1, .standing, 1, 0, 5, 0x3120⟩  -- MT_V_SAG
  | 0x2 => some ⟨1, .standing, 1, 0, 5, 0x3110⟩  -- MT_V_SWELL
  | 0x3 => some ⟨2, .standing, 2, 0, 5, 0x3130⟩  -- MT_V_INTERRUPT
  | _ => none

/-- The current channel events by local code (R505); none where the code is reserved. -/
def currentEvent (l : Nat) : Option EventInfo :=
  match l with
  | 0x0 => some ⟨2, .momentary, 1, 0, 2, 0x2111⟩  -- MT_I_CLIP
  | 0x1 => some ⟨2, .momentary, 2, 0, 5, 0x7210⟩  -- MT_I_RANGE_MISMATCH
  | 0x2 => some ⟨2, .standing, 2, 0, 5, 0x7330⟩  -- MT_I_SENSOR_FAULT
  | 0x3 => some ⟨1, .momentary, 1, 0, 2, 0x4310⟩  -- MT_I_TC_LIMIT
  | _ => none

/-- The tropo ring events by local code (R506); none where the code is reserved. -/
def ringEvent (l : Nat) : Option EventInfo :=
  match l with
  | 0x0 => some ⟨0, .momentary, 1, 0, 2, 0x8180⟩  -- TR_UP
  | 0x1 => some ⟨2, .standing, 2, 0, 5, 0x8181⟩  -- TR_BREAK
  | 0x2 => some ⟨0, .momentary, 1, 0, 2, 0x8182⟩  -- TR_JOINED
  | 0x3 => some ⟨0, .momentary, 1, 0, 2, 0x8183⟩  -- TR_LEFT
  | 0x4 => some ⟨2, .standing, 2, 0, 5, 0x8184⟩  -- TR_NO_LEAD
  | 0x5 => some ⟨2, .standing, 2, 0, 5, 0x8185⟩  -- TR_DUP_POSITION
  | 0x6 => some ⟨2, .momentary, 2, 0, 5, 0x8186⟩  -- TR_MEMBER_MISSING
  | 0x7 => some ⟨2, .momentary, 2, 0, 5, 0x8187⟩  -- TR_MEMBER_LOST
  | 0x8 => some ⟨1, .momentary, 1, 0, 2, 0x8188⟩  -- TR_LATENCY_MISMATCH
  | 0x9 => some ⟨2, .momentary, 2, 0, 5, 0x8189⟩  -- TR_ALIGN_LOST
  | 0xA => some ⟨2, .standing, 2, 0, 5, 0x818A⟩  -- TR_SPAN_CONFIG
  | 0xB => some ⟨1, .momentary, 1, 0, 2, 0x818B⟩  -- TR_SPAN_MEMBERS
  | 0xC => some ⟨2, .momentary, 1, 0, 5, 0x818C⟩  -- TR_SHARE_OVERFLOW
  | 0xD => some ⟨2, .momentary, 2, 0, 5, 0x818D⟩  -- TR_BYPASS_CHAIN
  | 0xE => some ⟨2, .standing, 2, 0, 5, 0x818E⟩  -- TR_REMOTE_FAULT
  | _ => none

/-- The device events by local code (R507); none where the code is reserved. -/
def deviceEvent (l : Nat) : Option EventInfo :=
  match l with
  | 0x0 => some ⟨3, .standing, 5, 5, 7, 0x3220⟩  -- DV_VIN_LOST
  | 0x1 => some ⟨2, .momentary, 2, 1, 7, 0x3221⟩  -- DV_PFW
  | 0x2 => some ⟨0, .momentary, 1, 1, 2, 0x3222⟩  -- DV_PFW_END
  | 0x3 => some ⟨1, .momentary, 1, 1, 2, 0x5510⟩  -- DV_RETAINED_LOST
  | 0x4 => some ⟨4, .momentary, 2, 2, 7, 0x5001⟩  -- DV_XTAL_LOSS
  | 0x5 => some ⟨4, .momentary, 2, 2, 7, 0x5002⟩  -- DV_PLL_LOSS
  | 0x6 => some ⟨2, .momentary, 2, 1, 5, 0x5003⟩  -- DV_XTAL_NOT_QUALIFIED
  | 0x7 => some ⟨2, .standing, 3, 1, 7, 0x4210⟩  -- DV_TEMP_HIGH
  | 0x8 => some ⟨4, .momentary, 2, 1, 2, 0x4211⟩  -- DV_THERMAL_RESET
  | 0x9 => some ⟨4, .momentary, 2, 2, 7, 0x5030⟩  -- DV_BRINGUP_FAIL
  | 0xA => some ⟨2, .standing, 2, 1, 2, 0xFF40⟩  -- DV_WET_HOLD
  | 0xB => some ⟨0, .momentary, 1, 1, 2, 0xFF41⟩  -- DV_DRY
  | 0xC => some ⟨1, .momentary, 1, 1, 2, 0xFF42⟩  -- DV_WET_OVERRIDE
  | 0xD => some ⟨0, .momentary, 1, 1, 2, 0xFF43⟩  -- DV_RESET
  | 0xE => some ⟨4, .momentary, 6, 6, 7, 0x6010⟩  -- DV_HK_WATCHDOG
  | 0xF => some ⟨5, .standing, 7, 5, 7, 0x9010⟩  -- DV_SAFE_PERMIT_LOST
  | 0x10 => some ⟨5, .standing, 7, 7, 7, 0x9011⟩  -- DV_SAFE_DISCREPANCY
  | 0x11 => some ⟨1, .momentary, 1, 0, 2, 0x9012⟩  -- DV_SAFE_DISAGREE
  | 0x12 => some ⟨2, .momentary, 2, 1, 2, 0xFF00⟩  -- DV_OUTLINE_ENTER
  | 0x13 => some ⟨1, .momentary, 1, 1, 2, 0xFF01⟩  -- DV_OUTLINE_EXIT
  | 0x14 => some ⟨1, .momentary, 1, 1, 2, 0xFF02⟩  -- DV_FUNC_COMMAND
  | 0x15 => some ⟨1, .momentary, 1, 1, 2, 0xFF03⟩  -- DV_POWER_CYCLE
  | 0x16 => some ⟨0, .momentary, 1, 0, 2, 0xFF60⟩  -- DV_MER_LOCK
  | 0x17 => some ⟨2, .standing, 2, 0, 5, 0xFF61⟩  -- DV_MER_FLYWHEEL
  | 0x18 => some ⟨2, .standing, 2, 0, 5, 0xFF62⟩  -- DV_MER_TIMER
  | 0x19 => some ⟨2, .standing, 1, 0, 5, 0xFF63⟩  -- DV_MER_CLAMP
  | 0x1A => some ⟨2, .momentary, 1, 0, 5, 0x7322⟩  -- DV_ENC_INDEX_ERR
  | 0x1B => some ⟨2, .momentary, 2, 0, 5, 0xFF64⟩  -- DV_GRAT_OVERRUN
  | 0x1C => some ⟨0, .momentary, 1, 0, 2, 0xFF65⟩  -- DV_GRAT_MARK
  | 0x1D => some ⟨1, .momentary, 1, 0, 2, 0xFF66⟩  -- DV_RLY_LEARN_REJECT
  | 0x1E => some ⟨2, .momentary, 1, 0, 2, 0xFF67⟩  -- DV_EPULSE_BACKLOG
  | 0x20 => some ⟨2, .standing, 2, 0, 7, 0x4400⟩  -- DV_AUX_HI, AUX0
  | 0x21 => some ⟨2, .standing, 2, 0, 7, 0x4401⟩  -- DV_AUX_HI, AUX1
  | 0x22 => some ⟨2, .standing, 2, 0, 7, 0x4402⟩  -- DV_AUX_HI, AUX2
  | 0x23 => some ⟨2, .standing, 2, 0, 7, 0x4403⟩  -- DV_AUX_HI, AUX3
  | 0x24 => some ⟨2, .standing, 2, 0, 7, 0x4404⟩  -- DV_AUX_HI, AUX4
  | 0x25 => some ⟨2, .standing, 2, 0, 7, 0x4405⟩  -- DV_AUX_HI, AUX5
  | 0x26 => some ⟨2, .standing, 2, 0, 7, 0x4406⟩  -- DV_AUX_HI, AUX6
  | 0x27 => some ⟨2, .standing, 2, 0, 7, 0x4407⟩  -- DV_AUX_HI, AUX7
  | 0x28 => some ⟨2, .standing, 2, 0, 7, 0x4408⟩  -- DV_AUX_LO, AUX0
  | 0x29 => some ⟨2, .standing, 2, 0, 7, 0x4409⟩  -- DV_AUX_LO, AUX1
  | 0x2A => some ⟨2, .standing, 2, 0, 7, 0x440A⟩  -- DV_AUX_LO, AUX2
  | 0x2B => some ⟨2, .standing, 2, 0, 7, 0x440B⟩  -- DV_AUX_LO, AUX3
  | 0x2C => some ⟨2, .standing, 2, 0, 7, 0x440C⟩  -- DV_AUX_LO, AUX4
  | 0x2D => some ⟨2, .standing, 2, 0, 7, 0x440D⟩  -- DV_AUX_LO, AUX5
  | 0x2E => some ⟨2, .standing, 2, 0, 7, 0x440E⟩  -- DV_AUX_LO, AUX6
  | 0x2F => some ⟨2, .standing, 2, 0, 7, 0x440F⟩  -- DV_AUX_LO, AUX7
  | _ => none

/-- The communication events by local code (R509); none where the code is reserved. -/
def commEvent (l : Nat) : Option EventInfo :=
  match l with
  | 0x0 => some ⟨2, .standing, 2, 0, 5, 0x8130⟩  -- CM_HB_TIMEOUT
  | 0x1 => some ⟨2, .standing, 2, 0, 5, 0x8141⟩  -- CM_BUS_OFF
  | 0x2 => some ⟨0, .momentary, 1, 0, 2, 0x8140⟩  -- CM_BUS_RECOVERED
  | 0x3 => some ⟨1, .standing, 1, 0, 5, 0x8120⟩  -- CM_ERROR_PASSIVE
  | 0x4 => some ⟨1, .momentary, 1, 0, 2, 0x8110⟩  -- CM_RX_OVERRUN
  | 0x5 => some ⟨2, .momentary, 2, 0, 5, 0x8210⟩  -- CM_RPDO_LENGTH
  | 0x6 => some ⟨0, .momentary, 1, 0, 2, 0x8150⟩  -- CM_USB_ATTACH
  | 0x7 => some ⟨0, .momentary, 1, 0, 2, 0x8151⟩  -- CM_USB_DETACH
  | 0x8 => some ⟨2, .momentary, 2, 0, 5, 0x8160⟩  -- CM_SPI_NO_DEVICE
  | 0x9 => some ⟨2, .momentary, 2, 0, 5, 0x8161⟩  -- CM_SPI_WRITE_FAIL
  | _ => none

/-- The recorder, memory, security and lifecycle events by local code (R510); none where the code is reserved. -/
def recorderEvent (l : Nat) : Option EventInfo :=
  match l with
  | 0x0 => some ⟨4, .momentary, 2, 2, 7, 0x5530⟩  -- RC_PARAM_CRC
  | 0x1 => some ⟨0, .momentary, 1, 1, 2, 0xFF80⟩  -- RC_PARAM_STORED
  | 0x2 => some ⟨0, .momentary, 1, 1, 2, 0xFF81⟩  -- RC_CAL_STORED
  | 0x3 => some ⟨2, .momentary, 2, 1, 5, 0x5531⟩  -- RC_FLASH_ECC
  | 0x4 => some ⟨2, .momentary, 1, 1, 2, 0xFF82⟩  -- RC_STAGING_OVERFLOW
  | 0x5 => some ⟨0, .momentary, 1, 1, 2, 0xFF83⟩  -- RC_LOG_SECTOR_ERASED
  | 0x6 => some ⟨1, .momentary, 1, 1, 2, 0xFF84⟩  -- RC_LOG_ERASED
  | 0x7 => some ⟨1, .momentary, 1, 1, 2, 0xFF85⟩  -- RC_TIME_STEP
  | 0x8 => some ⟨1, .momentary, 1, 1, 2, 0xFF86⟩  -- RC_TOTALS_RESTORED
  | 0x9 => some ⟨2, .momentary, 2, 1, 5, 0xFF87⟩  -- RC_TOTALS_LOST
  | 0xA => some ⟨2, .momentary, 2, 1, 5, 0xFF88⟩  -- RC_TOTALS_SAVE_FAIL
  | 0xB => some ⟨1, .momentary, 1, 1, 2, 0xFF89⟩  -- RC_TOTALS_RESET
  | 0xC => some ⟨1, .momentary, 1, 1, 2, 0xFF8A⟩  -- RC_OUTLINE_SET
  | 0xD => some ⟨1, .momentary, 1, 1, 2, 0xFF8B⟩  -- RC_ACCESS_MAP
  | 0xE => some ⟨0, .momentary, 1, 1, 2, 0xFF8C⟩  -- RC_SESSION_OPEN
  | 0xF => some ⟨2, .momentary, 2, 1, 2, 0xFF8D⟩  -- RC_SESSION_FAIL
  | 0x10 => some ⟨0, .momentary, 1, 1, 2, 0xFF8E⟩  -- RC_SESSION_CLOSE
  | 0x11 => some ⟨1, .momentary, 1, 1, 2, 0xFF8F⟩  -- RC_LIFECYCLE
  | 0x12 => some ⟨2, .momentary, 2, 1, 2, 0x6310⟩  -- RC_FW_IMAGE_REJECTED
  | 0x13 => some ⟨1, .momentary, 1, 1, 2, 0x6311⟩  -- RC_FW_ACTIVATED
  | 0x14 => some ⟨2, .momentary, 2, 1, 2, 0x6312⟩  -- RC_FW_ROLLBACK
  | _ => none

/-- The catalogue's row for an event number (R496); none for a reserved number (R497). RL_STALL and the Hall
events exist on drive rail D only. -/
def eventInfo (e : Nat) : Option EventInfo :=
  if e < 0xC0 then phaseEvent (e % 16)
  else if e < 0x160 then
    let l := (e - 0xC0) % 32
    if (e - 0xC0) / 32 < 4 && (l == 0x03 || l == 0x0D || l == 0x0E) then none else railEvent l
  else if e < 0x1A0 then slotEvent (e % 4)
  else if e < 0x1C0 then voltageEvent (e % 8)
  else if e < 0x1E0 then currentEvent (e % 8)
  else if e < 0x200 then ringEvent (e - 0x1E0)
  else if e < 0x240 then deviceEvent (e - 0x200)
  else if e < 0x260 then commEvent (e - 0x240)
  else if e < 0x280 then recorderEvent (e - 0x260)
  else none

/-! The event numbers by mnemonic (R14). -/

/-- PH_TRIP0–PH_TRIP3 of phase `p`. -/
def phTrip (p n : Nat) : Nat := 16 * p + 4 + n
/-- PH_OC_POS of instance `p`. -/
def phOcPos (p : Nat) : Nat := 0x8 + 16 * p
/-- PH_OC_NEG of instance `p`. -/
def phOcNeg (p : Nat) : Nat := 0x9 + 16 * p
/-- PH_MINPULSE_SKIP of instance `p`. -/
def phMinpulseSkip (p : Nat) : Nat := 0xA + 16 * p
/-- PH_DT_ADAPT_LIMIT of instance `p`. -/
def phDtAdaptLimit (p : Nat) : Nat := 0xB + 16 * p
/-- PH_NODE_MISS of instance `p`. -/
def phNodeMiss (p : Nat) : Nat := 0xC + 16 * p
/-- PH_ISNS_CLIP of instance `p`. -/
def phIsnsClip (p : Nat) : Nat := 0xD + 16 * p
/-- PH_FORCE_APPLIED of instance `p`. -/
def phForceApplied (p : Nat) : Nat := 0xE + 16 * p
/-- PH_BOOT_REFRESH of instance `p`. -/
def phBootRefresh (p : Nat) : Nat := 0xF + 16 * p
/-- RL_OV of instance `r`. -/
def rlOv (r : Nat) : Nat := 0xC0 + 32 * r
/-- RL_UV of instance `r`. -/
def rlUv (r : Nat) : Nat := 0xC1 + 32 * r
/-- RL_OC of instance `r`. -/
def rlOc (r : Nat) : Nat := 0xC2 + 32 * r
/-- RL_STALL of instance `r`. -/
def rlStall (r : Nat) : Nat := 0xC3 + 32 * r
/-- RL_HICCUP of instance `r`. -/
def rlHiccup (r : Nat) : Nat := 0xC4 + 32 * r
/-- RL_VSNS_WINDOW of instance `r`. -/
def rlVsnsWindow (r : Nat) : Nat := 0xC5 + 32 * r
/-- RL_VSNS_MISMATCH of instance `r`. -/
def rlVsnsMismatch (r : Nat) : Nat := 0xC6 + 32 * r
/-- RL_VSNS_OPEN of instance `r`. -/
def rlVsnsOpen (r : Nat) : Nat := 0xC7 + 32 * r
/-- RL_TARGET_CLAMP of instance `r`. -/
def rlTargetClamp (r : Nat) : Nat := 0xC8 + 32 * r
/-- RL_ENV_CHANGE of instance `r`. -/
def rlEnvChange (r : Nat) : Nat := 0xC9 + 32 * r
/-- RL_PHASE_ADD of instance `r`. -/
def rlPhaseAdd (r : Nat) : Nat := 0xCA + 32 * r
/-- RL_PHASE_SHED of instance `r`. -/
def rlPhaseShed (r : Nat) : Nat := 0xCB + 32 * r
/-- RL_CHATTER of instance `r`. -/
def rlChatter (r : Nat) : Nat := 0xCC + 32 * r
/-- RL_HALL_ILLEGAL of instance `r`. -/
def rlHallIllegal (r : Nat) : Nat := 0xCD + 32 * r
/-- RL_HALL_SEQUENCE of instance `r`. -/
def rlHallSequence (r : Nat) : Nat := 0xCE + 32 * r
/-- RL_VPWM_LOW of instance `r`. -/
def rlVpwmLow (r : Nat) : Nat := 0xCF + 32 * r
/-- HK_OSC of instance `s`. -/
def hkOsc (s : Nat) : Nat := 0x160 + 4 * s
/-- HK_SAFE_CONTOUR of instance `s`. -/
def hkSafeContour (s : Nat) : Nat := 0x161 + 4 * s
/-- HK_OSC_TRIP of instance `s`. -/
def hkOscTrip (s : Nat) : Nat := 0x162 + 4 * s
/-- HK_RANGE of instance `s`. -/
def hkRange (s : Nat) : Nat := 0x163 + 4 * s
/-- MT_V_CLIP of instance `v`. -/
def mtVClip (v : Nat) : Nat := 0x1A0 + 8 * v
/-- MT_V_SAG of instance `v`. -/
def mtVSag (v : Nat) : Nat := 0x1A1 + 8 * v
/-- MT_V_SWELL of instance `v`. -/
def mtVSwell (v : Nat) : Nat := 0x1A2 + 8 * v
/-- MT_V_INTERRUPT of instance `v`. -/
def mtVInterrupt (v : Nat) : Nat := 0x1A3 + 8 * v
/-- MT_I_CLIP of instance `i`. -/
def mtIClip (i : Nat) : Nat := 0x1C0 + 8 * i
/-- MT_I_RANGE_MISMATCH of instance `i`. -/
def mtIRangeMismatch (i : Nat) : Nat := 0x1C1 + 8 * i
/-- MT_I_SENSOR_FAULT of instance `i`. -/
def mtISensorFault (i : Nat) : Nat := 0x1C2 + 8 * i
/-- MT_I_TC_LIMIT of instance `i`. -/
def mtITcLimit (i : Nat) : Nat := 0x1C3 + 8 * i
/-- TR_UP. -/
def trUp : Nat := 0x1E0
/-- TR_BREAK. -/
def trBreak : Nat := 0x1E1
/-- TR_JOINED. -/
def trJoined : Nat := 0x1E2
/-- TR_LEFT. -/
def trLeft : Nat := 0x1E3
/-- TR_NO_LEAD. -/
def trNoLead : Nat := 0x1E4
/-- TR_DUP_POSITION. -/
def trDupPosition : Nat := 0x1E5
/-- TR_MEMBER_MISSING. -/
def trMemberMissing : Nat := 0x1E6
/-- TR_MEMBER_LOST. -/
def trMemberLost : Nat := 0x1E7
/-- TR_LATENCY_MISMATCH. -/
def trLatencyMismatch : Nat := 0x1E8
/-- TR_ALIGN_LOST. -/
def trAlignLost : Nat := 0x1E9
/-- TR_SPAN_CONFIG. -/
def trSpanConfig : Nat := 0x1EA
/-- TR_SPAN_MEMBERS. -/
def trSpanMembers : Nat := 0x1EB
/-- TR_SHARE_OVERFLOW. -/
def trShareOverflow : Nat := 0x1EC
/-- TR_BYPASS_CHAIN. -/
def trBypassChain : Nat := 0x1ED
/-- TR_REMOTE_FAULT. -/
def trRemoteFault : Nat := 0x1EE
/-- DV_VIN_LOST. -/
def dvVinLost : Nat := 0x200
/-- DV_PFW. -/
def dvPfw : Nat := 0x201
/-- DV_PFW_END. -/
def dvPfwEnd : Nat := 0x202
/-- DV_RETAINED_LOST. -/
def dvRetainedLost : Nat := 0x203
/-- DV_XTAL_LOSS. -/
def dvXtalLoss : Nat := 0x204
/-- DV_PLL_LOSS. -/
def dvPllLoss : Nat := 0x205
/-- DV_XTAL_NOT_QUALIFIED. -/
def dvXtalNotQualified : Nat := 0x206
/-- DV_TEMP_HIGH. -/
def dvTempHigh : Nat := 0x207
/-- DV_THERMAL_RESET. -/
def dvThermalReset : Nat := 0x208
/-- DV_BRINGUP_FAIL. -/
def dvBringupFail : Nat := 0x209
/-- DV_WET_HOLD. -/
def dvWetHold : Nat := 0x20A
/-- DV_DRY. -/
def dvDry : Nat := 0x20B
/-- DV_WET_OVERRIDE. -/
def dvWetOverride : Nat := 0x20C
/-- DV_RESET. -/
def dvReset : Nat := 0x20D
/-- DV_HK_WATCHDOG. -/
def dvHkWatchdog : Nat := 0x20E
/-- DV_SAFE_PERMIT_LOST. -/
def dvSafePermitLost : Nat := 0x20F
/-- DV_SAFE_DISCREPANCY. -/
def dvSafeDiscrepancy : Nat := 0x210
/-- DV_SAFE_DISAGREE. -/
def dvSafeDisagree : Nat := 0x211
/-- DV_OUTLINE_ENTER. -/
def dvOutlineEnter : Nat := 0x212
/-- DV_OUTLINE_EXIT. -/
def dvOutlineExit : Nat := 0x213
/-- DV_FUNC_COMMAND. -/
def dvFuncCommand : Nat := 0x214
/-- DV_POWER_CYCLE. -/
def dvPowerCycle : Nat := 0x215
/-- DV_MER_LOCK. -/
def dvMerLock : Nat := 0x216
/-- DV_MER_FLYWHEEL. -/
def dvMerFlywheel : Nat := 0x217
/-- DV_MER_TIMER. -/
def dvMerTimer : Nat := 0x218
/-- DV_MER_CLAMP. -/
def dvMerClamp : Nat := 0x219
/-- DV_ENC_INDEX_ERR. -/
def dvEncIndexErr : Nat := 0x21A
/-- DV_GRAT_OVERRUN. -/
def dvGratOverrun : Nat := 0x21B
/-- DV_GRAT_MARK. -/
def dvGratMark : Nat := 0x21C
/-- DV_RLY_LEARN_REJECT. -/
def dvRlyLearnReject : Nat := 0x21D
/-- DV_EPULSE_BACKLOG. -/
def dvEpulseBacklog : Nat := 0x21E
/-- DV_AUX_HI of channel `c`. -/
def dvAuxHi (c : Nat) : Nat := 0x220 + c
/-- DV_AUX_LO of channel `c`. -/
def dvAuxLo (c : Nat) : Nat := 0x228 + c
/-- CM_HB_TIMEOUT. -/
def cmHbTimeout : Nat := 0x240
/-- CM_BUS_OFF. -/
def cmBusOff : Nat := 0x241
/-- CM_BUS_RECOVERED. -/
def cmBusRecovered : Nat := 0x242
/-- CM_ERROR_PASSIVE. -/
def cmErrorPassive : Nat := 0x243
/-- CM_RX_OVERRUN. -/
def cmRxOverrun : Nat := 0x244
/-- CM_RPDO_LENGTH. -/
def cmRpdoLength : Nat := 0x245
/-- CM_USB_ATTACH. -/
def cmUsbAttach : Nat := 0x246
/-- CM_USB_DETACH. -/
def cmUsbDetach : Nat := 0x247
/-- CM_SPI_NO_DEVICE. -/
def cmSpiNoDevice : Nat := 0x248
/-- CM_SPI_WRITE_FAIL. -/
def cmSpiWriteFail : Nat := 0x249
/-- RC_PARAM_CRC. -/
def rcParamCrc : Nat := 0x260
/-- RC_PARAM_STORED. -/
def rcParamStored : Nat := 0x261
/-- RC_CAL_STORED. -/
def rcCalStored : Nat := 0x262
/-- RC_FLASH_ECC. -/
def rcFlashEcc : Nat := 0x263
/-- RC_STAGING_OVERFLOW. -/
def rcStagingOverflow : Nat := 0x264
/-- RC_LOG_SECTOR_ERASED. -/
def rcLogSectorErased : Nat := 0x265
/-- RC_LOG_ERASED. -/
def rcLogErased : Nat := 0x266
/-- RC_TIME_STEP. -/
def rcTimeStep : Nat := 0x267
/-- RC_TOTALS_RESTORED. -/
def rcTotalsRestored : Nat := 0x268
/-- RC_TOTALS_LOST. -/
def rcTotalsLost : Nat := 0x269
/-- RC_TOTALS_SAVE_FAIL. -/
def rcTotalsSaveFail : Nat := 0x26A
/-- RC_TOTALS_RESET. -/
def rcTotalsReset : Nat := 0x26B
/-- RC_OUTLINE_SET. -/
def rcOutlineSet : Nat := 0x26C
/-- RC_ACCESS_MAP. -/
def rcAccessMap : Nat := 0x26D
/-- RC_SESSION_OPEN. -/
def rcSessionOpen : Nat := 0x26E
/-- RC_SESSION_FAIL. -/
def rcSessionFail : Nat := 0x26F
/-- RC_SESSION_CLOSE. -/
def rcSessionClose : Nat := 0x270
/-- RC_LIFECYCLE. -/
def rcLifecycle : Nat := 0x271
/-- RC_FW_IMAGE_REJECTED. -/
def rcFwImageRejected : Nat := 0x272
/-- RC_FW_ACTIVATED. -/
def rcFwActivated : Nat := 0x273
/-- RC_FW_ROLLBACK. -/
def rcFwRollback : Nat := 0x274

end Sys2Proof.Machine
end

