-- ==== Sys2Proof/Machine/Objects.lean ====
section
/-! DEFINITION. The object dictionary as its object tables list it: one row per entry of a table of
spec/, with the index and sub-index ranges the entry covers, its type, access mode, level, default and
range. The rows are those tables; what each object means is in the family files. -/

namespace Sys2Proof.Machine

/-- The CANopen types the dictionary uses (R9). -/
inductive ObjType where
  | u8 | u16 | u32 | u64 | i16 | i32 | str | dom
  deriving DecidableEq, Repr

/-- The access modes (R12). -/
inductive ObjAccess where
  | ro | rw | wo | const
  deriving DecidableEq, Repr

/-- The access levels, lowest first (R11); `base` is OPEN. -/
inductive Level where
  | base | operator | technician | oem | vendor
  deriving DecidableEq, Repr

/-- The place of a level in the order of R11. -/
def Level.rank : Level → Nat
  | .base => 0 | .operator => 1 | .technician => 2 | .oem => 3 | .vendor => 4

/-- The number of bytes of a numeric type; a string or DOMAIN fixes none (R611). -/
def ObjType.size : ObjType → Nat
  | .u8 => 1 | .u16 => 2 | .u32 => 4 | .u64 => 8 | .i16 => 2 | .i32 => 4 | .str => 0 | .dom => 0

/-- Whether a type is a number. -/
def ObjType.numeric : ObjType → Bool
  | .str => false | .dom => false | _ => true

/-- One entry of an object table: `n` indices from `ix` in steps of `stIx`, and `m` sub-indices from
`sub` in steps of `stSub`. A written value lies in `lo`–`hi` or among `extra`; of a DOMAIN or string
`lo`–`hi` bounds the length in bytes. -/
structure ObjRow where
  ix : Nat
  n : Nat
  stIx : Nat
  sub : Nat
  m : Nat
  stSub : Nat
  ty : ObjType
  acc : ObjAccess
  lvl : Level
  dflt : Int
  lo : Int
  hi : Int
  extra : List Int
  deriving DecidableEq, Repr

/-- Whether `i` is among `n` values from `a` in steps of `st`. -/
def inSteps (i a n st : Nat) : Bool :=
  if n = 1 then i == a
  else Nat.ble a i && (i - a) % st == 0 && Nat.blt ((i - a) / st) n

/-- Whether the entry covers the index. -/
def ObjRow.hasIx (r : ObjRow) (ix : Nat) : Bool := inSteps ix r.ix r.n r.stIx

/-- Whether the entry covers the sub-index. -/
def ObjRow.hasSub (r : ObjRow) (sub : Nat) : Bool := inSteps sub r.sub r.m r.stSub

/-- Entries of the communication area 1000–1FFF (part 1). -/
def rowsComm1 : List ObjRow := [
  ⟨0x1000, 1, 0x1, 0x0, 1, 1, .u32, .const, .base, 0, 0, 4294967295, []⟩,
  ⟨0x1001, 1, 0x1, 0x0, 1, 1, .u8, .ro, .base, 0, 0, 255, []⟩,
  ⟨0x1003, 1, 0x1, 0x0, 1, 1, .u8, .rw, .operator, 0, 0, 0, []⟩,
  ⟨0x1003, 1, 0x1, 0x1, 8, 1, .u32, .ro, .base, 0, 0, 4294967295, []⟩,
  ⟨0x1005, 1, 0x1, 0x0, 1, 1, .u32, .rw, .operator, 128, 0, 4294967295, []⟩,
  ⟨0x1006, 1, 0x1, 0x0, 1, 1, .u32, .rw, .operator, 0, 1000, 1000000, [0]⟩,
  ⟨0x1007, 1, 0x1, 0x0, 1, 1, .u32, .rw, .operator, 0, 0, 1000000, []⟩,
  ⟨0x1008, 1, 0x1, 0x0, 1, 1, .str, .const, .base, 0, 1, 32, []⟩,
  ⟨0x1009, 1, 0x1, 0x0, 1, 1, .str, .const, .base, 0, 1, 32, []⟩,
  ⟨0x100A, 1, 0x1, 0x0, 1, 1, .str, .ro, .base, 0, 1, 32, []⟩,
  ⟨0x1010, 1, 0x1, 0x0, 1, 1, .u8, .const, .base, 3, 0, 255, []⟩,
  ⟨0x1010, 1, 0x1, 0x1, 3, 1, .u32, .rw, .operator, 1, 0, 4294967295, []⟩,
  ⟨0x1011, 1, 0x1, 0x0, 1, 1, .u8, .const, .base, 3, 0, 255, []⟩,
  ⟨0x1011, 1, 0x1, 0x1, 3, 1, .u32, .rw, .operator, 1, 0, 4294967295, []⟩,
  ⟨0x1012, 1, 0x1, 0x0, 1, 1, .u32, .rw, .operator, 2147483904, 0, 4294967295, []⟩,
  ⟨0x1014, 1, 0x1, 0x0, 1, 1, .u32, .rw, .operator, 0, 0, 4294967295, []⟩,
  ⟨0x1015, 1, 0x1, 0x0, 1, 1, .u16, .rw, .operator, 0, 0, 65535, []⟩,
  ⟨0x1016, 1, 0x1, 0x0, 1, 1, .u8, .const, .base, 4, 0, 255, []⟩,
  ⟨0x1016, 1, 0x1, 0x1, 4, 1, .u32, .rw, .operator, 0, 0, 4294967295, []⟩,
  ⟨0x1017, 1, 0x1, 0x0, 1, 1, .u16, .rw, .operator, 1000, 0, 65535, []⟩,
  ⟨0x1018, 1, 0x1, 0x0, 1, 1, .u8, .const, .base, 4, 0, 255, []⟩,
  ⟨0x1018, 1, 0x1, 0x1, 1, 1, .u32, .const, .base, 3918, 0, 4294967295, []⟩,
  ⟨0x1018, 1, 0x1, 0x2, 1, 1, .u32, .const, .base, 29714, 0, 4294967295, []⟩,
  ⟨0x1018, 1, 0x1, 0x3, 1, 1, .u32, .const, .base, 0, 0, 4294967295, []⟩,
  ⟨0x1018, 1, 0x1, 0x4, 1, 1, .u32, .const, .base, 0, 0, 4294967295, []⟩,
  ⟨0x1019, 1, 0x1, 0x0, 1, 1, .u8, .rw, .operator, 0, 2, 240, [0]⟩,
  ⟨0x1029, 1, 0x1, 0x0, 1, 1, .u8, .const, .base, 1, 0, 255, []⟩,
  ⟨0x1029, 1, 0x1, 0x1, 1, 1, .u8, .rw, .operator, 0, 0, 2, []⟩,
  ⟨0x1200, 1, 0x1, 0x0, 1, 1, .u8, .const, .base, 2, 0, 255, []⟩,
  ⟨0x1200, 1, 0x1, 0x1, 2, 1, .u32, .ro, .base, 0, 0, 4294967295, []⟩,
  ⟨0x1400, 4, 0x1, 0x0, 1, 1, .u8, .const, .base, 2, 0, 255, []⟩,
  ⟨0x1400, 1, 0x1, 0x1, 1, 1, .u32, .rw, .operator, 512, 0, 4294967295, []⟩,
  ⟨0x1400, 1, 0x1, 0x2, 1, 1, .u8, .rw, .operator, 1, 0, 240, [254, 255]⟩,
  ⟨0x1401, 1, 0x1, 0x1, 1, 1, .u32, .rw, .operator, 768, 0, 4294967295, []⟩,
  ⟨0x1401, 1, 0x1, 0x2, 1, 1, .u8, .rw, .operator, 1, 0, 240, [254, 255]⟩,
  ⟨0x1402, 1, 0x1, 0x1, 1, 1, .u32, .rw, .operator, 2147484672, 0, 4294967295, []⟩,
  ⟨0x1402, 1, 0x1, 0x2, 1, 1, .u8, .rw, .operator, 255, 0, 240, [254, 255]⟩,
  ⟨0x1403, 1, 0x1, 0x1, 1, 1, .u32, .rw, .operator, 2147484928, 0, 4294967295, []⟩,
  ⟨0x1403, 1, 0x1, 0x2, 1, 1, .u8, .rw, .operator, 255, 0, 240, [254, 255]⟩,
  ⟨0x1600, 1, 0x1, 0x0, 1, 1, .u8, .rw, .operator, 2, 0, 16, []⟩]

/-- Entries of the communication area 1000–1FFF (part 2). -/
def rowsComm2 : List ObjRow := [
  ⟨0x1600, 1, 0x1, 0x1, 1, 1, .u32, .rw, .operator, 806355232, 0, 4294967295, []⟩,
  ⟨0x1600, 1, 0x1, 0x2, 1, 1, .u32, .rw, .operator, 823132448, 0, 4294967295, []⟩,
  ⟨0x1600, 1, 0x1, 0x3, 14, 1, .u32, .rw, .operator, 0, 0, 4294967295, []⟩,
  ⟨0x1601, 1, 0x1, 0x0, 1, 1, .u8, .rw, .operator, 2, 0, 16, []⟩,
  ⟨0x1601, 1, 0x1, 0x1, 1, 1, .u32, .rw, .operator, 839909664, 0, 4294967295, []⟩,
  ⟨0x1601, 1, 0x1, 0x2, 1, 1, .u32, .rw, .operator, 856686880, 0, 4294967295, []⟩,
  ⟨0x1601, 1, 0x1, 0x3, 14, 1, .u32, .rw, .operator, 0, 0, 4294967295, []⟩,
  ⟨0x1602, 1, 0x1, 0x0, 1, 1, .u8, .rw, .operator, 0, 0, 16, []⟩,
  ⟨0x1602, 1, 0x1, 0x1, 16, 1, .u32, .rw, .operator, 0, 0, 4294967295, []⟩,
  ⟨0x1603, 1, 0x1, 0x0, 1, 1, .u8, .rw, .operator, 0, 0, 16, []⟩,
  ⟨0x1603, 1, 0x1, 0x1, 16, 1, .u32, .rw, .operator, 0, 0, 4294967295, []⟩,
  ⟨0x1800, 4, 0x1, 0x0, 1, 1, .u8, .const, .base, 5, 0, 255, []⟩,
  ⟨0x1800, 1, 0x1, 0x1, 1, 1, .u32, .rw, .operator, 384, 0, 4294967295, []⟩,
  ⟨0x1800, 1, 0x1, 0x2, 1, 1, .u8, .rw, .operator, 1, 0, 240, [254, 255]⟩,
  ⟨0x1800, 4, 0x1, 0x3, 1, 1, .u16, .rw, .operator, 0, 0, 65535, []⟩,
  ⟨0x1800, 4, 0x1, 0x5, 1, 1, .u16, .rw, .operator, 0, 0, 65535, []⟩,
  ⟨0x1801, 1, 0x1, 0x1, 1, 1, .u32, .rw, .operator, 640, 0, 4294967295, []⟩,
  ⟨0x1801, 1, 0x1, 0x2, 1, 1, .u8, .rw, .operator, 1, 0, 240, [254, 255]⟩,
  ⟨0x1802, 1, 0x1, 0x1, 1, 1, .u32, .rw, .operator, 896, 0, 4294967295, []⟩,
  ⟨0x1802, 1, 0x1, 0x2, 1, 1, .u8, .rw, .operator, 1, 0, 240, [254, 255]⟩,
  ⟨0x1803, 1, 0x1, 0x1, 1, 1, .u32, .rw, .operator, 1152, 0, 4294967295, []⟩,
  ⟨0x1803, 1, 0x1, 0x2, 1, 1, .u8, .rw, .operator, 10, 0, 240, [254, 255]⟩,
  ⟨0x1A00, 1, 0x1, 0x0, 1, 1, .u8, .rw, .operator, 2, 0, 16, []⟩,
  ⟨0x1A00, 1, 0x1, 0x1, 1, 1, .u32, .rw, .operator, 810025248, 0, 4294967295, []⟩,
  ⟨0x1A00, 1, 0x1, 0x2, 1, 1, .u32, .rw, .operator, 826802464, 0, 4294967295, []⟩,
  ⟨0x1A00, 1, 0x1, 0x3, 14, 1, .u32, .rw, .operator, 0, 0, 4294967295, []⟩,
  ⟨0x1A01, 1, 0x1, 0x0, 1, 1, .u8, .rw, .operator, 2, 0, 16, []⟩,
  ⟨0x1A01, 1, 0x1, 0x1, 1, 1, .u32, .rw, .operator, 843579680, 0, 4294967295, []⟩,
  ⟨0x1A01, 1, 0x1, 0x2, 1, 1, .u32, .rw, .operator, 860356896, 0, 4294967295, []⟩,
  ⟨0x1A01, 1, 0x1, 0x3, 14, 1, .u32, .rw, .operator, 0, 0, 4294967295, []⟩,
  ⟨0x1A02, 1, 0x1, 0x0, 1, 1, .u8, .rw, .operator, 4, 0, 16, []⟩,
  ⟨0x1A02, 1, 0x1, 0x1, 1, 1, .u32, .rw, .operator, 809500944, 0, 4294967295, []⟩,
  ⟨0x1A02, 1, 0x1, 0x2, 1, 1, .u32, .rw, .operator, 826278160, 0, 4294967295, []⟩,
  ⟨0x1A02, 1, 0x1, 0x3, 1, 1, .u32, .rw, .operator, 843055376, 0, 4294967295, []⟩,
  ⟨0x1A02, 1, 0x1, 0x4, 1, 1, .u32, .rw, .operator, 859832592, 0, 4294967295, []⟩,
  ⟨0x1A02, 1, 0x1, 0x5, 12, 1, .u32, .rw, .operator, 0, 0, 4294967295, []⟩,
  ⟨0x1A03, 1, 0x1, 0x0, 1, 1, .u8, .rw, .operator, 2, 0, 16, []⟩,
  ⟨0x1A03, 1, 0x1, 0x1, 1, 1, .u32, .rw, .operator, 1345323296, 0, 4294967295, []⟩,
  ⟨0x1A03, 1, 0x1, 0x2, 1, 1, .u32, .rw, .operator, 587202824, 0, 4294967295, []⟩]

/-- Entries of the communication area 1000–1FFF (part 3). -/
def rowsComm3 : List ObjRow := [
  ⟨0x1A03, 1, 0x1, 0x3, 14, 1, .u32, .rw, .operator, 0, 0, 4294967295, []⟩,
  ⟨0x1F50, 1, 0x1, 0x0, 1, 1, .u8, .const, .base, 1, 0, 255, []⟩,
  ⟨0x1F50, 1, 0x1, 0x1, 1, 1, .dom, .wo, .technician, 0, 0, 4294967295, []⟩,
  ⟨0x1F51, 1, 0x1, 0x0, 1, 1, .u8, .const, .base, 1, 0, 255, []⟩,
  ⟨0x1F51, 1, 0x1, 0x1, 1, 1, .u8, .rw, .technician, 1, 0, 3, []⟩,
  ⟨0x1F56, 1, 0x1, 0x0, 1, 1, .u8, .const, .base, 1, 0, 255, []⟩,
  ⟨0x1F56, 1, 0x1, 0x1, 1, 1, .u32, .ro, .base, 0, 0, 4294967295, []⟩,
  ⟨0x1F57, 1, 0x1, 0x0, 1, 1, .u8, .const, .base, 1, 0, 255, []⟩,
  ⟨0x1F57, 1, 0x1, 0x1, 1, 1, .u32, .ro, .base, 0, 0, 4294967295, []⟩]

/-- Entries of the communication area 1000–1FFF. -/
def rowsComm : List ObjRow := rowsComm1 ++ rowsComm2 ++ rowsComm3

/-- Entries of the device blocks 2000–21FF (part 1). -/
def rowsDevice1 : List ObjRow := [
  ⟨0x2000, 1, 0x1, 0x0, 1, 1, .u8, .const, .base, 5, 0, 255, []⟩,
  ⟨0x2000, 1, 0x1, 0x1, 1, 1, .u64, .const, .base, 0, 0, 18446744073709551615, []⟩,
  ⟨0x2000, 1, 0x1, 0x2, 1, 1, .u8, .const, .base, 0, 0, 255, []⟩,
  ⟨0x2000, 1, 0x1, 0x3, 1, 1, .u8, .const, .base, 0, 0, 255, []⟩,
  ⟨0x2000, 1, 0x1, 0x4, 1, 1, .u16, .const, .base, 0, 0, 65535, []⟩,
  ⟨0x2000, 1, 0x1, 0x5, 1, 1, .str, .const, .base, 0, 1, 32, []⟩,
  ⟨0x2008, 1, 0x1, 0x0, 1, 1, .u8, .const, .base, 7, 0, 255, []⟩,
  ⟨0x2008, 1, 0x1, 0x1, 1, 1, .u8, .rw, .oem, 0, 0, 1, []⟩,
  ⟨0x2008, 1, 0x1, 0x2, 1, 1, .u8, .rw, .oem, 2, 1, 0, [0, 2, 3, 4]⟩,
  ⟨0x2008, 1, 0x1, 0x3, 1, 1, .u8, .rw, .oem, 2, 1, 0, [2, 4, 5]⟩,
  ⟨0x2008, 1, 0x1, 0x4, 1, 1, .u8, .rw, .oem, 0, 0, 1, []⟩,
  ⟨0x2008, 1, 0x1, 0x5, 1, 1, .u8, .ro, .base, 0, 0, 255, []⟩,
  ⟨0x2008, 1, 0x1, 0x6, 1, 1, .u8, .ro, .base, 0, 0, 255, []⟩,
  ⟨0x2008, 1, 0x1, 0x7, 1, 1, .u8, .rw, .oem, 255, 1, 127, [255]⟩,
  ⟨0x2010, 1, 0x1, 0x0, 1, 1, .u8, .const, .base, 5, 0, 255, []⟩,
  ⟨0x2010, 1, 0x1, 0x1, 1, 1, .u8, .rw, .oem, 0, 0, 2, []⟩,
  ⟨0x2010, 1, 0x1, 0x2, 1, 1, .u8, .ro, .base, 0, 0, 255, []⟩,
  ⟨0x2010, 1, 0x1, 0x3, 1, 1, .u16, .ro, .base, 0, 0, 65535, []⟩,
  ⟨0x2010, 1, 0x1, 0x4, 1, 1, .i16, .ro, .base, 0, (-32768), 32767, []⟩,
  ⟨0x2010, 1, 0x1, 0x5, 1, 1, .u32, .ro, .base, 0, 0, 4294967295, []⟩,
  ⟨0x2020, 1, 0x1, 0x0, 1, 1, .u8, .const, .base, 10, 0, 255, []⟩,
  ⟨0x2020, 1, 0x1, 0x1, 1, 1, .u32, .rw, .base, 0, 0, 4294967295, []⟩,
  ⟨0x2020, 1, 0x1, 0x2, 1, 1, .dom, .ro, .base, 0, 0, 16, []⟩,
  ⟨0x2020, 1, 0x1, 0x3, 1, 1, .dom, .wo, .base, 0, 16, 16, []⟩,
  ⟨0x2020, 1, 0x1, 0x4, 1, 1, .u8, .ro, .base, 0, 0, 255, []⟩,
  ⟨0x2020, 1, 0x1, 0x5, 1, 1, .u32, .rw, .base, 0, 0, 4294967295, []⟩,
  ⟨0x2020, 1, 0x1, 0x6, 1, 1, .u16, .ro, .base, 0, 0, 65535, []⟩,
  ⟨0x2020, 1, 0x1, 0x7, 1, 1, .u8, .ro, .base, 0, 0, 255, []⟩,
  ⟨0x2020, 1, 0x1, 0x8, 1, 1, .dom, .wo, .oem, 0, 32, 32, []⟩,
  ⟨0x2020, 1, 0x1, 0x9, 1, 1, .dom, .wo, .oem, 0, 32, 32, []⟩,
  ⟨0x2020, 1, 0x1, 0xA, 1, 1, .u8, .ro, .base, 0, 0, 255, []⟩,
  ⟨0x2028, 1, 0x1, 0x0, 1, 1, .u8, .const, .base, 67, 0, 255, []⟩,
  ⟨0x2028, 1, 0x1, 0x1, 1, 1, .u8, .ro, .base, 0, 0, 255, []⟩,
  ⟨0x2028, 1, 0x1, 0x2, 64, 1, .u32, .rw, .oem, 0, 0, 4294967295, []⟩,
  ⟨0x2028, 1, 0x1, 0x42, 1, 1, .u32, .rw, .oem, 0, 0, 4294967295, []⟩,
  ⟨0x2028, 1, 0x1, 0x43, 1, 1, .u32, .ro, .base, 0, 0, 4294967295, []⟩,
  ⟨0x2030, 1, 0x1, 0x0, 1, 1, .u8, .const, .base, 5, 0, 255, []⟩,
  ⟨0x2030, 1, 0x1, 0x1, 1, 1, .u8, .ro, .base, 0, 0, 255, []⟩,
  ⟨0x2030, 1, 0x1, 0x2, 1, 1, .u32, .rw, .technician, 0, 0, 4294967295, []⟩,
  ⟨0x2030, 1, 0x1, 0x3, 1, 1, .u32, .ro, .base, 0, 0, 4294967295, []⟩]

/-- Entries of the device blocks 2000–21FF (part 2). -/
def rowsDevice2 : List ObjRow := [
  ⟨0x2030, 1, 0x1, 0x4, 1, 1, .u64, .ro, .base, 0, 0, 18446744073709551615, []⟩,
  ⟨0x2030, 1, 0x1, 0x5, 1, 1, .dom, .rw, .technician, 0, 0, 256, []⟩,
  ⟨0x2040, 1, 0x1, 0x0, 1, 1, .u8, .const, .base, 12, 0, 255, []⟩,
  ⟨0x2040, 1, 0x1, 0x1, 1, 1, .u8, .ro, .base, 0, 0, 255, []⟩,
  ⟨0x2040, 1, 0x1, 0x2, 2, 1, .u8, .ro, .base, 0, 0, 255, []⟩,
  ⟨0x2040, 1, 0x1, 0x4, 2, 1, .u32, .ro, .base, 0, 0, 4294967295, []⟩,
  ⟨0x2040, 1, 0x1, 0x6, 2, 1, .u32, .ro, .base, 0, 0, 4294967295, []⟩,
  ⟨0x2040, 1, 0x1, 0x8, 1, 1, .u32, .ro, .base, 0, 0, 4294967295, []⟩,
  ⟨0x2040, 1, 0x1, 0x9, 1, 1, .u32, .rw, .technician, 0, 0, 4294967295, []⟩,
  ⟨0x2040, 1, 0x1, 0xA, 1, 1, .u32, .rw, .technician, 0, 0, 4294967295, []⟩,
  ⟨0x2040, 1, 0x1, 0xB, 1, 1, .u8, .ro, .base, 0, 0, 255, []⟩,
  ⟨0x2040, 1, 0x1, 0xC, 1, 1, .u16, .ro, .base, 0, 0, 65535, []⟩,
  ⟨0x2100, 1, 0x1, 0x0, 1, 1, .u8, .const, .base, 4, 0, 255, []⟩,
  ⟨0x2100, 1, 0x1, 0x1, 1, 1, .u8, .rw, .operator, 2, 0, 4, []⟩,
  ⟨0x2100, 1, 0x1, 0x2, 1, 1, .u8, .ro, .base, 2, 0, 255, []⟩,
  ⟨0x2100, 1, 0x1, 0x3, 1, 1, .u8, .ro, .base, 0, 0, 255, []⟩,
  ⟨0x2100, 1, 0x1, 0x4, 1, 1, .u8, .ro, .base, 0, 0, 255, []⟩,
  ⟨0x2110, 1, 0x1, 0x0, 1, 1, .u8, .const, .base, 17, 0, 255, []⟩,
  ⟨0x2110, 1, 0x1, 0x1, 1, 1, .u32, .rw, .operator, 0, 0, 4294967295, []⟩,
  ⟨0x2110, 1, 0x1, 0x2, 1, 1, .u32, .rw, .operator, 0, 0, 4294967295, []⟩,
  ⟨0x2110, 1, 0x1, 0x3, 13, 1, .u8, .ro, .base, 0, 0, 255, []⟩,
  ⟨0x2110, 1, 0x1, 0x10, 1, 1, .u8, .ro, .base, 0, 0, 255, []⟩,
  ⟨0x2110, 1, 0x1, 0x11, 1, 1, .u32, .ro, .base, 0, 0, 4294967295, []⟩,
  ⟨0x2120, 1, 0x1, 0x0, 1, 1, .u8, .const, .base, 4, 0, 255, []⟩,
  ⟨0x2120, 1, 0x1, 0x1, 1, 1, .u8, .ro, .base, 0, 0, 255, []⟩,
  ⟨0x2120, 1, 0x1, 0x2, 1, 1, .u16, .ro, .base, 128, 0, 65535, []⟩,
  ⟨0x2120, 1, 0x1, 0x3, 1, 1, .u32, .ro, .base, 0, 0, 4294967295, []⟩,
  ⟨0x2120, 1, 0x1, 0x4, 1, 1, .u32, .ro, .base, 0, 0, 4294967295, []⟩,
  ⟨0x2128, 1, 0x1, 0x0, 1, 1, .u8, .const, .base, 7, 0, 255, []⟩,
  ⟨0x2128, 1, 0x1, 0x1, 1, 1, .u8, .rw, .oem, 1, 0, 1, []⟩,
  ⟨0x2128, 1, 0x1, 0x2, 1, 1, .u16, .rw, .oem, 4095, 0, 4095, []⟩,
  ⟨0x2128, 1, 0x1, 0x3, 1, 1, .u16, .rw, .oem, 200, 20, 2000, []⟩,
  ⟨0x2128, 1, 0x1, 0x4, 1, 1, .u16, .ro, .base, 0, 0, 65535, []⟩,
  ⟨0x2128, 1, 0x1, 0x5, 1, 1, .u32, .rw, .oem, 0, 0, 4294967295, []⟩,
  ⟨0x2128, 1, 0x1, 0x6, 1, 1, .u32, .ro, .base, 0, 0, 4294967295, []⟩,
  ⟨0x2128, 1, 0x1, 0x7, 1, 1, .u8, .ro, .base, 0, 0, 255, []⟩,
  ⟨0x2130, 1, 0x1, 0x0, 1, 1, .u8, .const, .base, 8, 0, 255, []⟩,
  ⟨0x2130, 1, 0x1, 0x1, 1, 1, .i32, .ro, .base, 0, (-2147483648), 2147483647, []⟩,
  ⟨0x2130, 1, 0x1, 0x2, 1, 1, .i32, .ro, .base, 0, (-2147483648), 2147483647, []⟩,
  ⟨0x2130, 1, 0x1, 0x3, 1, 1, .i32, .ro, .base, 0, (-2147483648), 2147483647, []⟩]

/-- Entries of the device blocks 2000–21FF (part 3). -/
def rowsDevice3 : List ObjRow := [
  ⟨0x2130, 1, 0x1, 0x4, 1, 1, .i32, .rw, .oem, 10000, 4000, 20000, []⟩,
  ⟨0x2130, 1, 0x1, 0x5, 1, 1, .u8, .rw, .oem, 7, 0, 7, []⟩,
  ⟨0x2130, 1, 0x1, 0x6, 1, 1, .u8, .ro, .base, 0, 0, 255, []⟩,
  ⟨0x2130, 1, 0x1, 0x7, 1, 1, .u16, .ro, .base, 0, 0, 65535, []⟩,
  ⟨0x2130, 1, 0x1, 0x8, 1, 1, .u32, .ro, .base, 0, 0, 4294967295, []⟩,
  ⟨0x2138, 1, 0x1, 0x0, 1, 1, .u8, .const, .base, 26, 0, 255, []⟩,
  ⟨0x2138, 1, 0x1, 0x1, 1, 1, .u8, .ro, .base, 0, 0, 255, []⟩,
  ⟨0x2138, 1, 0x1, 0x2, 1, 1, .u64, .ro, .base, 0, 0, 18446744073709551615, []⟩,
  ⟨0x2138, 1, 0x1, 0x11, 10, 1, .u32, .ro, .base, 0, 0, 4294967295, []⟩]

/-- Entries of the device blocks 2000–21FF. -/
def rowsDevice : List ObjRow := rowsDevice1 ++ rowsDevice2 ++ rowsDevice3

/-- Entries of the Meridian, Graticule and Tropo ring 2200–24FF. -/
def rowsAngle : List ObjRow := [
  ⟨0x2200, 1, 0x1, 0x0, 1, 1, .u8, .const, .base, 20, 0, 255, []⟩,
  ⟨0x2200, 1, 0x1, 0x1, 1, 1, .u8, .ro, .base, 0, 0, 255, []⟩,
  ⟨0x2200, 1, 0x1, 0x2, 1, 1, .u8, .rw, .oem, 1, 1, 4, []⟩,
  ⟨0x2200, 1, 0x1, 0x3, 1, 1, .u16, .rw, .oem, 5000, 4000, 7000, []⟩,
  ⟨0x2200, 1, 0x1, 0x4, 1, 1, .u8, .rw, .oem, 1, 0, 3, []⟩,
  ⟨0x2200, 1, 0x1, 0x5, 1, 1, .u16, .rw, .oem, 500, 0, 500, []⟩,
  ⟨0x2200, 1, 0x1, 0x6, 1, 1, .u8, .rw, .oem, 0, 0, 1, []⟩,
  ⟨0x2200, 1, 0x1, 0x7, 1, 1, .u16, .rw, .oem, 2048, 286, 37500, []⟩,
  ⟨0x2200, 1, 0x1, 0x8, 1, 1, .u32, .rw, .oem, 81920, 20000, 1500000, []⟩,
  ⟨0x2200, 1, 0x1, 0x9, 1, 1, .u32, .rw, .oem, 143360, 20000, 1500000, []⟩,
  ⟨0x2200, 1, 0x1, 0xA, 1, 1, .u16, .rw, .oem, 100, 10, 200, []⟩,
  ⟨0x2200, 1, 0x1, 0xB, 1, 1, .u32, .ro, .base, 0, 0, 4294967295, []⟩,
  ⟨0x2200, 1, 0x1, 0xC, 1, 1, .u32, .ro, .base, 0, 0, 4294967295, []⟩,
  ⟨0x2200, 1, 0x1, 0xD, 1, 1, .u8, .ro, .base, 0, 0, 255, []⟩,
  ⟨0x2200, 1, 0x1, 0xE, 1, 1, .u32, .ro, .base, 0, 0, 4294967295, []⟩,
  ⟨0x2200, 1, 0x1, 0xF, 1, 1, .u32, .ro, .base, 0, 0, 4294967295, []⟩,
  ⟨0x2200, 1, 0x1, 0x10, 1, 1, .u8, .ro, .base, 0, 0, 255, []⟩,
  ⟨0x2200, 1, 0x1, 0x11, 1, 1, .u8, .rw, .operator, 0, 0, 2, []⟩,
  ⟨0x2200, 1, 0x1, 0x12, 1, 1, .u16, .rw, .operator, 1, 1, 256, []⟩,
  ⟨0x2200, 1, 0x1, 0x13, 1, 1, .u16, .rw, .operator, 0, 0, 65535, []⟩,
  ⟨0x2200, 1, 0x1, 0x14, 1, 1, .i16, .ro, .base, 0, (-32768), 32767, []⟩,
  ⟨0x2210, 1, 0x1, 0x0, 1, 1, .u8, .const, .base, 66, 0, 255, []⟩,
  ⟨0x2210, 1, 0x1, 0x1, 64, 1, .u64, .rw, .operator, 0, 0, 18446744073709551615, []⟩,
  ⟨0x2210, 1, 0x1, 0x41, 1, 1, .u32, .ro, .base, 0, 0, 4294967295, []⟩,
  ⟨0x2210, 1, 0x1, 0x42, 1, 1, .u8, .ro, .base, 0, 0, 255, []⟩]

/-- Entries of the fault manager, safety and Outline 2300–23FF (part 1). -/
def rowsFault1 : List ObjRow := [
  ⟨0x2300, 1, 0x1, 0x0, 1, 1, .u8, .const, .base, 14, 0, 255, []⟩,
  ⟨0x2300, 1, 0x1, 0x1, 1, 1, .u8, .ro, .base, 0, 0, 255, []⟩,
  ⟨0x2300, 1, 0x1, 0x2, 1, 1, .u32, .rw, .operator, 0, 0, 4294967295, []⟩,
  ⟨0x2300, 1, 0x1, 0x3, 1, 1, .u32, .rw, .operator, 0, 0, 4294967295, []⟩,
  ⟨0x2300, 1, 0x1, 0x4, 1, 1, .u32, .rw, .operator, 0, 0, 4294967295, []⟩,
  ⟨0x2300, 1, 0x1, 0x5, 5, 1, .u8, .ro, .base, 0, 0, 255, []⟩,
  ⟨0x2300, 1, 0x1, 0xA, 1, 1, .u8, .rw, .oem, 4, 2, 7, []⟩,
  ⟨0x2300, 1, 0x1, 0xB, 1, 1, .u8, .ro, .base, 0, 0, 255, []⟩,
  ⟨0x2300, 1, 0x1, 0xC, 1, 1, .u8, .ro, .base, 0, 0, 255, []⟩,
  ⟨0x2300, 1, 0x1, 0xD, 1, 1, .u8, .ro, .base, 0, 0, 255, []⟩,
  ⟨0x2300, 1, 0x1, 0xE, 1, 1, .u16, .ro, .base, 0, 0, 65535, []⟩,
  ⟨0x2310, 5, 0x1, 0x0, 1, 1, .u8, .const, .base, 128, 0, 255, []⟩,
  ⟨0x2310, 5, 0x1, 0x1, 128, 1, .u8, .rw, .oem, 0, 0, 255, []⟩,
  ⟨0x2320, 1, 0x1, 0x0, 1, 1, .u8, .const, .base, 13, 0, 255, []⟩,
  ⟨0x2320, 1, 0x1, 0x1, 1, 1, .u16, .ro, .base, 0, 0, 65535, []⟩,
  ⟨0x2320, 1, 0x1, 0x2, 1, 1, .u32, .rw, .operator, 0, 0, 1048575, []⟩,
  ⟨0x2320, 1, 0x1, 0x3, 1, 1, .u8, .ro, .base, 0, 0, 255, []⟩,
  ⟨0x2320, 1, 0x1, 0x4, 1, 1, .u8, .ro, .base, 0, 0, 255, []⟩,
  ⟨0x2320, 1, 0x1, 0x5, 1, 1, .u32, .ro, .base, 0, 0, 4294967295, []⟩,
  ⟨0x2320, 1, 0x1, 0x6, 6, 1, .u32, .ro, .base, 0, 0, 4294967295, []⟩,
  ⟨0x2320, 1, 0x1, 0xC, 1, 1, .u32, .ro, .base, 0, 0, 4294967295, []⟩,
  ⟨0x2320, 1, 0x1, 0xD, 1, 1, .u16, .ro, .base, 0, 0, 65535, []⟩,
  ⟨0x2330, 1, 0x1, 0x0, 1, 1, .u8, .const, .base, 8, 0, 255, []⟩,
  ⟨0x2330, 1, 0x1, 0x1, 1, 1, .u16, .rw, .oem, 100, 1, 1000, []⟩,
  ⟨0x2330, 1, 0x1, 0x2, 1, 1, .u8, .ro, .base, 64, 0, 255, []⟩,
  ⟨0x2330, 1, 0x1, 0x3, 1, 1, .u16, .rw, .oem, 511, 0, 4095, []⟩,
  ⟨0x2330, 1, 0x1, 0x4, 1, 1, .u16, .ro, .base, 0, 0, 65535, []⟩,
  ⟨0x2330, 1, 0x1, 0x5, 1, 1, .u32, .ro, .base, 0, 0, 4294967295, []⟩,
  ⟨0x2330, 1, 0x1, 0x6, 1, 1, .u32, .ro, .base, 0, 0, 4294967295, []⟩,
  ⟨0x2330, 1, 0x1, 0x7, 1, 1, .u32, .ro, .base, 0, 0, 4294967295, []⟩,
  ⟨0x2330, 1, 0x1, 0x8, 1, 1, .u8, .ro, .base, 0, 0, 255, []⟩,
  ⟨0x2340, 1, 0x1, 0x0, 1, 1, .u8, .const, .base, 13, 0, 255, []⟩,
  ⟨0x2340, 1, 0x1, 0x1, 1, 1, .u32, .rw, .oem, 0, 0, 4294967295, []⟩,
  ⟨0x2340, 1, 0x1, 0x2, 1, 1, .u8, .rw, .oem, 0, 0, 3, []⟩,
  ⟨0x2340, 1, 0x1, 0x3, 1, 1, .u16, .rw, .oem, 0, 0, 65535, []⟩,
  ⟨0x2340, 1, 0x1, 0x4, 1, 1, .u8, .rw, .oem, 0, 0, 1, []⟩,
  ⟨0x2340, 1, 0x1, 0x5, 1, 1, .u16, .rw, .oem, 20000, 10000, 50000, []⟩,
  ⟨0x2340, 1, 0x1, 0x6, 1, 1, .u16, .rw, .oem, 500, 125, 4000, []⟩,
  ⟨0x2340, 1, 0x1, 0x7, 1, 1, .u8, .rw, .oem, 0, 0, 1, []⟩,
  ⟨0x2340, 1, 0x1, 0x8, 1, 1, .u8, .rw, .oem, 255, 0, 7, [255]⟩]

/-- Entries of the fault manager, safety and Outline 2300–23FF (part 2). -/
def rowsFault2 : List ObjRow := [
  ⟨0x2340, 1, 0x1, 0x9, 1, 1, .u16, .rw, .oem, 0, 0, 2500, []⟩,
  ⟨0x2340, 1, 0x1, 0xA, 1, 1, .u16, .rw, .oem, 0, 0, 2500, []⟩,
  ⟨0x2340, 1, 0x1, 0xB, 1, 1, .u16, .rw, .oem, 0, 0, 65535, []⟩,
  ⟨0x2340, 1, 0x1, 0xC, 1, 1, .u32, .ro, .base, 0, 0, 4294967295, []⟩,
  ⟨0x2340, 1, 0x1, 0xD, 1, 1, .u8, .ro, .base, 0, 0, 255, []⟩]

/-- Entries of the fault manager, safety and Outline 2300–23FF. -/
def rowsFault : List ObjRow := rowsFault1 ++ rowsFault2

/-- Entries of the ring, ports, relays, GPIO, encoder and trips 2400–2FFF (part 1). -/
def rowsPorts1 : List ObjRow := [
  ⟨0x2400, 1, 0x1, 0x0, 1, 1, .u8, .const, .base, 35, 0, 255, []⟩,
  ⟨0x2400, 1, 0x1, 0x1, 1, 1, .u8, .rw, .oem, 0, 0, 1, []⟩,
  ⟨0x2400, 1, 0x1, 0x2, 1, 1, .u8, .ro, .base, 0, 0, 255, []⟩,
  ⟨0x2400, 1, 0x1, 0x3, 1, 1, .u8, .ro, .base, 0, 0, 255, []⟩,
  ⟨0x2400, 1, 0x1, 0x4, 1, 1, .u8, .rw, .oem, 1, 0, 255, []⟩,
  ⟨0x2400, 1, 0x1, 0x5, 1, 1, .u8, .ro, .base, 0, 0, 255, []⟩,
  ⟨0x2400, 1, 0x1, 0x6, 1, 1, .u32, .ro, .base, 0, 0, 4294967295, []⟩,
  ⟨0x2400, 1, 0x1, 0x7, 1, 1, .u32, .ro, .base, 0, 0, 4294967295, []⟩,
  ⟨0x2400, 1, 0x1, 0x8, 1, 1, .u16, .ro, .base, 0, 0, 65535, []⟩,
  ⟨0x2400, 1, 0x1, 0x9, 8, 1, .u16, .rw, .oem, 375, 0, 3000, []⟩,
  ⟨0x2400, 1, 0x1, 0x11, 1, 1, .u16, .rw, .oem, 7000, 3000, 15000, []⟩,
  ⟨0x2400, 1, 0x1, 0x12, 4, 1, .u16, .rw, .oem, 50, 1, 1000, []⟩,
  ⟨0x2400, 1, 0x1, 0x16, 4, 1, .u16, .rw, .oem, 10, 1, 1000, []⟩,
  ⟨0x2400, 1, 0x1, 0x1A, 4, 1, .u8, .ro, .base, 0, 0, 255, []⟩,
  ⟨0x2400, 1, 0x1, 0x1E, 1, 1, .u8, .rw, .oem, 1, 0, 1, []⟩,
  ⟨0x2400, 1, 0x1, 0x1F, 1, 1, .u8, .ro, .base, 0, 0, 255, []⟩,
  ⟨0x2400, 1, 0x1, 0x20, 1, 1, .u8, .rw, .oem, 1, 0, 1, []⟩,
  ⟨0x2400, 1, 0x1, 0x21, 1, 1, .u32, .ro, .base, 0, 0, 4294967295, []⟩,
  ⟨0x2400, 1, 0x1, 0x22, 1, 1, .u32, .ro, .base, 0, 0, 4294967295, []⟩,
  ⟨0x2400, 1, 0x1, 0x23, 1, 1, .u32, .ro, .base, 0, 0, 4294967295, []⟩,
  ⟨0x2500, 1, 0x1, 0x0, 1, 1, .u8, .const, .base, 20, 0, 255, []⟩,
  ⟨0x2500, 1, 0x1, 0x1, 1, 1, .u8, .rw, .oem, 0, 0, 1, []⟩,
  ⟨0x2500, 1, 0x1, 0x2, 4, 1, .u8, .rw, .oem, 255, 0, 3, [255]⟩,
  ⟨0x2500, 1, 0x1, 0x6, 4, 1, .u8, .rw, .oem, 1, 1, 100, []⟩,
  ⟨0x2500, 1, 0x1, 0xA, 4, 1, .u8, .rw, .oem, 10, 1, 100, []⟩,
  ⟨0x2500, 1, 0x1, 0xE, 4, 1, .u8, .rw, .oem, 255, 0, 7, [255]⟩,
  ⟨0x2500, 1, 0x1, 0x12, 1, 1, .u32, .ro, .base, 0, 0, 4294967295, []⟩,
  ⟨0x2500, 1, 0x1, 0x13, 1, 1, .u32, .ro, .base, 0, 0, 4294967295, []⟩,
  ⟨0x2500, 1, 0x1, 0x14, 1, 1, .u32, .ro, .base, 0, 0, 4294967295, []⟩,
  ⟨0x2510, 1, 0x1, 0x0, 1, 1, .u8, .const, .base, 11, 0, 255, []⟩,
  ⟨0x2510, 1, 0x1, 0x1, 1, 1, .u16, .rw, .oem, 15007, 0, 65535, []⟩,
  ⟨0x2510, 1, 0x1, 0x2, 1, 1, .u16, .rw, .oem, 29714, 0, 65535, []⟩,
  ⟨0x2510, 1, 0x1, 0x3, 1, 1, .str, .rw, .oem, 0, 1, 32, []⟩,
  ⟨0x2510, 1, 0x1, 0x4, 1, 1, .u8, .ro, .base, 0, 0, 255, []⟩,
  ⟨0x2510, 1, 0x1, 0x5, 1, 1, .u8, .ro, .base, 255, 0, 255, []⟩,
  ⟨0x2510, 1, 0x1, 0x6, 1, 1, .u32, .ro, .base, 0, 0, 4294967295, []⟩,
  ⟨0x2510, 1, 0x1, 0x7, 1, 1, .u32, .ro, .base, 0, 0, 4294967295, []⟩,
  ⟨0x2510, 1, 0x1, 0x8, 1, 1, .u32, .ro, .base, 0, 0, 4294967295, []⟩,
  ⟨0x2510, 1, 0x1, 0x9, 1, 1, .u32, .ro, .base, 0, 0, 4294967295, []⟩,
  ⟨0x2510, 1, 0x1, 0xA, 1, 1, .u32, .ro, .base, 0, 0, 4294967295, []⟩]

/-- Entries of the ring, ports, relays, GPIO, encoder and trips 2400–2FFF (part 2). -/
def rowsPorts2 : List ObjRow := [
  ⟨0x2510, 1, 0x1, 0xB, 1, 1, .u32, .ro, .base, 0, 0, 4294967295, []⟩,
  ⟨0x2520, 1, 0x1, 0x0, 1, 1, .u8, .const, .base, 5, 0, 255, []⟩,
  ⟨0x2520, 1, 0x1, 0x1, 1, 1, .u32, .ro, .base, 0, 0, 4294967295, []⟩,
  ⟨0x2520, 1, 0x1, 0x2, 1, 1, .u32, .ro, .base, 0, 0, 4294967295, []⟩,
  ⟨0x2520, 1, 0x1, 0x3, 1, 1, .u8, .ro, .base, 0, 0, 255, []⟩,
  ⟨0x2520, 1, 0x1, 0x4, 1, 1, .u32, .ro, .base, 0, 0, 4294967295, []⟩,
  ⟨0x2520, 1, 0x1, 0x5, 1, 1, .u16, .ro, .base, 0, 0, 65535, []⟩,
  ⟨0x2600, 1, 0x1, 0x0, 1, 1, .u8, .const, .base, 32, 0, 255, []⟩,
  ⟨0x2600, 1, 0x1, 0x1, 1, 1, .u32, .rw, .operator, 0, 0, 4294967295, []⟩,
  ⟨0x2600, 1, 0x1, 0x2, 4, 1, .u16, .rw, .operator, 0, 0, 65535, []⟩,
  ⟨0x2600, 1, 0x1, 0x6, 4, 1, .u16, .rw, .operator, 0, 0, 65535, []⟩,
  ⟨0x2600, 1, 0x1, 0xA, 4, 1, .u8, .rw, .technician, 0, 1, 0, [0, 1, 2, 3, 4, 17, 18, 19, 20]⟩,
  ⟨0x2600, 1, 0x1, 0xE, 4, 1, .u32, .rw, .technician, 10000, 500, 50000, []⟩,
  ⟨0x2600, 1, 0x1, 0x12, 4, 1, .u32, .rw, .technician, 8000, 500, 50000, []⟩,
  ⟨0x2600, 1, 0x1, 0x16, 4, 1, .u8, .rw, .oem, 6, 0, 7, []⟩,
  ⟨0x2600, 1, 0x1, 0x1A, 1, 1, .u8, .ro, .base, 0, 0, 255, []⟩,
  ⟨0x2600, 1, 0x1, 0x1B, 1, 1, .u32, .ro, .base, 0, 0, 4294967295, []⟩,
  ⟨0x2600, 1, 0x1, 0x1C, 1, 1, .u32, .ro, .base, 0, 0, 4294967295, []⟩,
  ⟨0x2600, 1, 0x1, 0x1D, 4, 1, .i32, .rw, .technician, 0, (-2147483648), 2147483647, []⟩,
  ⟨0x2610, 1, 0x1, 0x0, 1, 1, .u8, .const, .base, 8, 0, 255, []⟩,
  ⟨0x2610, 1, 0x1, 0x1, 6, 1, .u8, .rw, .oem, 0, 0, 5, []⟩,
  ⟨0x2610, 1, 0x1, 0x7, 1, 1, .u8, .rw, .operator, 0, 0, 63, []⟩,
  ⟨0x2610, 1, 0x1, 0x8, 1, 1, .u8, .ro, .base, 0, 0, 255, []⟩,
  ⟨0x2620, 1, 0x1, 0x0, 1, 1, .u8, .const, .base, 11, 0, 255, []⟩,
  ⟨0x2620, 1, 0x1, 0x1, 1, 1, .u32, .rw, .oem, 15647367, 0, 16777215, []⟩,
  ⟨0x2620, 1, 0x1, 0x2, 1, 1, .u8, .rw, .oem, 10, 0, 255, []⟩,
  ⟨0x2620, 1, 0x1, 0x3, 1, 1, .u8, .rw, .oem, 2, 1, 64, []⟩,
  ⟨0x2620, 1, 0x1, 0x4, 1, 1, .u16, .rw, .oem, 1024, 1, 16384, []⟩,
  ⟨0x2620, 1, 0x1, 0x5, 1, 1, .u8, .rw, .oem, 0, 0, 2, []⟩,
  ⟨0x2620, 1, 0x1, 0x6, 1, 1, .u8, .rw, .oem, 24, 0, 255, []⟩,
  ⟨0x2620, 1, 0x1, 0x7, 1, 1, .u8, .ro, .base, 0, 0, 255, []⟩,
  ⟨0x2620, 1, 0x1, 0x8, 1, 1, .u32, .ro, .base, 0, 0, 4294967295, []⟩,
  ⟨0x2620, 1, 0x1, 0x9, 1, 1, .u32, .ro, .base, 0, 0, 4294967295, []⟩,
  ⟨0x2620, 1, 0x1, 0xA, 1, 1, .u32, .ro, .base, 0, 0, 4294967295, []⟩,
  ⟨0x2620, 1, 0x1, 0xB, 1, 1, .u8, .ro, .base, 0, 0, 255, []⟩,
  ⟨0x2630, 1, 0x1, 0x0, 1, 1, .u8, .const, .base, 11, 0, 255, []⟩,
  ⟨0x2630, 1, 0x1, 0x1, 4, 1, .u32, .rw, .oem, 0, 0, 4294967295, []⟩,
  ⟨0x2630, 1, 0x1, 0x5, 1, 1, .u32, .rw, .technician, 0, 0, 268435455, []⟩,
  ⟨0x2630, 1, 0x1, 0x6, 1, 1, .u8, .ro, .base, 0, 0, 255, []⟩,
  ⟨0x2630, 1, 0x1, 0x7, 1, 1, .u16, .ro, .base, 0, 0, 65535, []⟩]

/-- Entries of the ring, ports, relays, GPIO, encoder and trips 2400–2FFF (part 3). -/
def rowsPorts3 : List ObjRow := [
  ⟨0x2630, 1, 0x1, 0x8, 4, 1, .u32, .ro, .base, 0, 0, 4294967295, []⟩]

/-- Entries of the ring, ports, relays, GPIO, encoder and trips 2400–2FFF. -/
def rowsPorts : List ObjRow := rowsPorts1 ++ rowsPorts2 ++ rowsPorts3

/-- Entries of the rail blocks 3000–37FF (part 1). -/
def rowsRail1 : List ObjRow := [
  ⟨0x3000, 4, 0x100, 0x0, 1, 1, .u8, .const, .base, 10, 0, 255, []⟩,
  ⟨0x3000, 4, 0x100, 0x1, 1, 1, .u8, .rw, .oem, 0, 0, 2, []⟩,
  ⟨0x3000, 5, 0x100, 0x2, 1, 1, .u8, .rw, .oem, 0, 0, 1, []⟩,
  ⟨0x3000, 5, 0x100, 0x3, 1, 1, .u8, .rw, .operator, 0, 0, 2, []⟩,
  ⟨0x3000, 5, 0x100, 0x4, 1, 1, .u8, .rw, .oem, 255, 0, 7, [255]⟩,
  ⟨0x3000, 5, 0x100, 0x5, 1, 1, .u16, .rw, .oem, 64, 0, 65535, []⟩,
  ⟨0x3000, 5, 0x100, 0x6, 1, 1, .u16, .rw, .oem, 4, 0, 65535, []⟩,
  ⟨0x3000, 5, 0x100, 0x7, 1, 1, .u16, .rw, .oem, 16, 0, 65535, []⟩,
  ⟨0x3000, 5, 0x100, 0x8, 1, 1, .u8, .rw, .oem, 3, 0, 15, []⟩,
  ⟨0x3000, 5, 0x100, 0x9, 1, 1, .u16, .rw, .oem, 1000, 10, 60000, []⟩,
  ⟨0x3000, 5, 0x100, 0xA, 1, 1, .u32, .rw, .oem, 10000, 100, 600000, []⟩,
  ⟨0x3001, 5, 0x100, 0x0, 1, 1, .u8, .const, .base, 3, 0, 255, []⟩,
  ⟨0x3001, 4, 0x100, 0x1, 1, 1, .u16, .rw, .oem, 0, 0, 4095, []⟩,
  ⟨0x3001, 5, 0x100, 0x2, 1, 1, .u8, .rw, .oem, 0, 0, 1, []⟩,
  ⟨0x3001, 5, 0x100, 0x3, 1, 1, .u8, .rw, .oem, 255, 0, 3, [255]⟩,
  ⟨0x3002, 5, 0x100, 0x0, 1, 1, .u8, .const, .base, 12, 0, 255, []⟩,
  ⟨0x3002, 5, 0x100, 0x1, 1, 1, .i32, .rw, .oem, 0, (-2147483648), 2147483647, []⟩,
  ⟨0x3002, 5, 0x100, 0x2, 1, 1, .i32, .rw, .oem, 0, (-2147483648), 2147483647, []⟩,
  ⟨0x3002, 5, 0x100, 0x3, 1, 1, .u32, .rw, .oem, 1000, 0, 4294967295, []⟩,
  ⟨0x3002, 5, 0x100, 0x4, 1, 1, .u32, .rw, .oem, 1000, 0, 4294967295, []⟩,
  ⟨0x3002, 5, 0x100, 0x5, 1, 1, .i32, .rw, .oem, 1, (-2147483648), 2147483647, []⟩,
  ⟨0x3002, 5, 0x100, 0x6, 1, 1, .i32, .rw, .oem, 0, (-2147483648), 2147483647, []⟩,
  ⟨0x3002, 5, 0x100, 0x7, 1, 1, .u16, .rw, .oem, 500, 0, 65535, []⟩,
  ⟨0x3002, 5, 0x100, 0x8, 1, 1, .i32, .rw, .oem, 0, (-2147483648), 2147483647, []⟩,
  ⟨0x3002, 5, 0x100, 0x9, 1, 1, .i32, .rw, .oem, 0, (-2147483648), 0, []⟩,
  ⟨0x3002, 5, 0x100, 0xA, 1, 1, .i32, .rw, .oem, 1, (-2147483648), 2147483647, []⟩,
  ⟨0x3002, 5, 0x100, 0xB, 1, 1, .u16, .rw, .oem, 9000, 1, 10000, []⟩,
  ⟨0x3002, 5, 0x100, 0xC, 1, 1, .u8, .rw, .oem, 50, 0, 100, []⟩,
  ⟨0x3010, 5, 0x100, 0x0, 1, 1, .u8, .const, .base, 18, 0, 255, []⟩,
  ⟨0x3010, 5, 0x100, 0x1, 1, 1, .i32, .rw, .operator, 0, (-2147483648), 2147483647, []⟩,
  ⟨0x3010, 5, 0x100, 0x2, 1, 1, .u8, .rw, .oem, 1, 0, 4, []⟩,
  ⟨0x3010, 5, 0x100, 0x3, 1, 1, .i32, .rw, .operator, 0, (-2147483648), 2147483647, []⟩,
  ⟨0x3010, 5, 0x100, 0x4, 1, 1, .u32, .rw, .operator, 1000, 1, 4294967295, []⟩,
  ⟨0x3010, 5, 0x100, 0x5, 1, 1, .u32, .rw, .operator, 1000, 1, 4294967295, []⟩,
  ⟨0x3010, 5, 0x100, 0x6, 1, 1, .u32, .rw, .operator, 1000, 1, 4294967295, []⟩,
  ⟨0x3010, 5, 0x100, 0x7, 1, 1, .i32, .ro, .base, 0, (-2147483648), 2147483647, []⟩,
  ⟨0x3010, 5, 0x100, 0x8, 1, 1, .i32, .ro, .base, 0, (-2147483648), 2147483647, []⟩,
  ⟨0x3010, 5, 0x100, 0x9, 1, 1, .u32, .rw, .operator, 0, 0, 4294967295, []⟩,
  ⟨0x3010, 5, 0x100, 0xA, 4, 1, .i32, .rw, .operator, (-2147483648), (-2147483648), 2147483647, []⟩,
  ⟨0x3010, 5, 0x100, 0xE, 4, 1, .u32, .rw, .operator, 0, 0, 4294967295, []⟩]

/-- Entries of the rail blocks 3000–37FF (part 2). -/
def rowsRail2 : List ObjRow := [
  ⟨0x3010, 5, 0x100, 0x12, 1, 1, .u8, .ro, .base, 0, 0, 255, []⟩,
  ⟨0x3020, 5, 0x100, 0x0, 1, 1, .u8, .const, .base, 2, 0, 255, []⟩,
  ⟨0x3020, 5, 0x100, 0x1, 1, 1, .u16, .ro, .base, 0, 0, 65535, []⟩,
  ⟨0x3020, 5, 0x100, 0x2, 1, 1, .u8, .ro, .base, 255, 0, 255, []⟩,
  ⟨0x3030, 4, 0x100, 0x0, 1, 1, .u8, .const, .base, 11, 0, 255, []⟩,
  ⟨0x3030, 4, 0x100, 0x1, 8, 1, .u64, .rw, .oem, 0, 0, 18446744073709551615, []⟩,
  ⟨0x3030, 4, 0x100, 0x9, 1, 1, .u8, .rw, .oem, 0, 0, 3, []⟩,
  ⟨0x3030, 4, 0x100, 0xA, 1, 1, .u32, .rw, .oem, 0, 0, 4294967295, []⟩,
  ⟨0x3030, 4, 0x100, 0xB, 1, 1, .u8, .ro, .base, 0, 0, 255, []⟩,
  ⟨0x3040, 4, 0x100, 0x0, 1, 1, .u8, .const, .base, 7, 0, 255, []⟩,
  ⟨0x3040, 5, 0x100, 0x1, 1, 1, .u16, .ro, .base, 0, 0, 65535, []⟩,
  ⟨0x3040, 5, 0x100, 0x2, 1, 1, .u8, .ro, .base, 0, 0, 255, []⟩,
  ⟨0x3040, 5, 0x100, 0x3, 1, 1, .u16, .ro, .base, 0, 0, 65535, []⟩,
  ⟨0x3040, 5, 0x100, 0x4, 1, 1, .u8, .ro, .base, 0, 0, 255, []⟩,
  ⟨0x3040, 5, 0x100, 0x5, 1, 1, .u32, .ro, .base, 0, 0, 4294967295, []⟩,
  ⟨0x3040, 5, 0x100, 0x6, 1, 1, .u8, .ro, .base, 0, 0, 255, []⟩,
  ⟨0x3040, 5, 0x100, 0x7, 1, 1, .u32, .ro, .base, 0, 0, 4294967295, []⟩,
  ⟨0x3048, 4, 0x100, 0x0, 1, 1, .u8, .const, .base, 4, 0, 255, []⟩,
  ⟨0x3048, 5, 0x100, 0x1, 1, 1, .i32, .ro, .base, 0, (-2147483648), 2147483647, []⟩,
  ⟨0x3048, 5, 0x100, 0x2, 1, 1, .i32, .ro, .base, 0, (-2147483648), 2147483647, []⟩,
  ⟨0x3048, 5, 0x100, 0x3, 1, 1, .i32, .ro, .base, 0, (-2147483648), 2147483647, []⟩,
  ⟨0x3048, 5, 0x100, 0x4, 1, 1, .u16, .ro, .base, 0, 0, 65535, []⟩,
  ⟨0x3050, 4, 0x100, 0x0, 1, 1, .u8, .const, .base, 13, 0, 255, []⟩,
  ⟨0x3050, 4, 0x100, 0x1, 1, 1, .u32, .rw, .oem, 1000, 1000, 1000000, []⟩,
  ⟨0x3050, 4, 0x100, 0x2, 1, 1, .i16, .rw, .oem, 0, (-5000), 5000, []⟩,
  ⟨0x3050, 4, 0x100, 0x3, 1, 1, .i16, .rw, .oem, 0, (-10000), 10000, []⟩,
  ⟨0x3050, 4, 0x100, 0x4, 1, 1, .u8, .rw, .oem, 255, 0, 11, [255]⟩,
  ⟨0x3050, 4, 0x100, 0x5, 1, 1, .u8, .rw, .oem, 1, 0, 3, []⟩,
  ⟨0x3050, 4, 0x100, 0x6, 1, 1, .u8, .rw, .oem, 1, 1, 0, [1, 2, 4]⟩,
  ⟨0x3050, 4, 0x100, 0x7, 1, 1, .u16, .ro, .base, 0, 0, 65535, []⟩,
  ⟨0x3050, 4, 0x100, 0x8, 1, 1, .i32, .ro, .base, 0, (-2147483648), 2147483647, []⟩,
  ⟨0x3050, 4, 0x100, 0x9, 1, 1, .u16, .ro, .base, 0, 0, 65535, []⟩,
  ⟨0x3050, 4, 0x100, 0xA, 1, 1, .u32, .ro, .base, 0, 0, 4294967295, []⟩,
  ⟨0x3050, 4, 0x100, 0xB, 1, 1, .u8, .rw, .operator, 16, 1, 64, []⟩,
  ⟨0x3050, 4, 0x100, 0xC, 1, 1, .u16, .rw, .technician, 10, 1, 10000, []⟩,
  ⟨0x3050, 4, 0x100, 0xD, 1, 1, .u8, .ro, .base, 0, 0, 255, []⟩,
  ⟨0x3060, 5, 0x100, 0x0, 1, 1, .u8, .const, .base, 3, 0, 255, []⟩,
  ⟨0x3060, 5, 0x100, 0x1, 1, 1, .u64, .ro, .base, 0, 0, 18446744073709551615, []⟩,
  ⟨0x3060, 5, 0x100, 0x2, 1, 1, .u64, .ro, .base, 0, 0, 18446744073709551615, []⟩,
  ⟨0x3060, 5, 0x100, 0x3, 1, 1, .u32, .rw, .operator, 0, 0, 4294967295, []⟩]

/-- Entries of the rail blocks 3000–37FF (part 3). -/
def rowsRail3 : List ObjRow := [
  ⟨0x3400, 1, 0x1, 0x0, 1, 1, .u8, .const, .base, 19, 0, 255, []⟩,
  ⟨0x3400, 1, 0x1, 0x1, 1, 1, .u8, .const, .base, 3, 0, 255, []⟩,
  ⟨0x3400, 1, 0x1, 0xB, 1, 1, .u8, .rw, .operator, 0, 0, 1, []⟩,
  ⟨0x3400, 1, 0x1, 0xC, 1, 1, .u8, .rw, .oem, 0, 0, 1, []⟩,
  ⟨0x3400, 1, 0x1, 0xD, 1, 1, .u8, .rw, .oem, 7, 0, 7, []⟩,
  ⟨0x3400, 1, 0x1, 0xE, 1, 1, .u8, .rw, .oem, 6, 0, 7, []⟩,
  ⟨0x3400, 1, 0x1, 0xF, 1, 1, .u16, .rw, .oem, 500, 0, 65535, []⟩,
  ⟨0x3400, 1, 0x1, 0x10, 1, 1, .u16, .rw, .oem, 100, 10, 2000, []⟩,
  ⟨0x3400, 1, 0x1, 0x11, 1, 1, .u16, .rw, .oem, 1000, 50, 10000, []⟩,
  ⟨0x3400, 1, 0x1, 0x12, 1, 1, .u32, .rw, .oem, 0, 0, 4294967295, []⟩,
  ⟨0x3400, 1, 0x1, 0x13, 1, 1, .u8, .ro, .base, 0, 0, 255, []⟩,
  ⟨0x3401, 1, 0x1, 0x1, 1, 1, .u16, .rw, .oem, 3584, 1, 0, [0, 3584]⟩,
  ⟨0x3440, 1, 0x1, 0x0, 1, 1, .u8, .const, .base, 9, 0, 255, []⟩,
  ⟨0x3440, 1, 0x1, 0x8, 1, 1, .u16, .ro, .base, 7, 0, 65535, []⟩,
  ⟨0x3440, 1, 0x1, 0x9, 1, 1, .u32, .ro, .base, 0, 0, 4294967295, []⟩,
  ⟨0x3448, 1, 0x1, 0x0, 1, 1, .u8, .const, .base, 5, 0, 255, []⟩,
  ⟨0x3448, 1, 0x1, 0x5, 1, 1, .i32, .ro, .base, 0, (-2147483648), 2147483647, []⟩]

/-- Entries of the rail blocks 3000–37FF. -/
def rowsRail : List ObjRow := rowsRail1 ++ rowsRail2 ++ rowsRail3

/-- Entries of the Harik engine 3800–3FFF (part 1). -/
def rowsHarik1 : List ObjRow := [
  ⟨0x3800, 1, 0x1, 0x0, 1, 1, .u8, .const, .base, 19, 0, 255, []⟩,
  ⟨0x3800, 1, 0x1, 0x1, 1, 1, .u8, .ro, .base, 0, 0, 255, []⟩,
  ⟨0x3800, 1, 0x1, 0x2, 1, 1, .u32, .ro, .base, 0, 0, 4294967295, []⟩,
  ⟨0x3800, 1, 0x1, 0x3, 1, 1, .u16, .ro, .base, 0, 0, 65535, []⟩,
  ⟨0x3800, 1, 0x1, 0x4, 5, 1, .u8, .rw, .oem, 4, 1, 16, []⟩,
  ⟨0x3800, 1, 0x1, 0x9, 5, 1, .u32, .rw, .oem, 0, 0, 4294967295, []⟩,
  ⟨0x3800, 1, 0x1, 0xE, 5, 1, .u32, .ro, .base, 0, 0, 4294967295, []⟩,
  ⟨0x3800, 1, 0x1, 0x13, 1, 1, .u16, .ro, .base, 0, 0, 65535, []⟩,
  ⟨0x3810, 16, 0x1, 0x0, 1, 1, .u8, .const, .base, 18, 0, 255, []⟩,
  ⟨0x3810, 16, 0x1, 0x1, 1, 1, .u8, .rw, .oem, 255, 0, 4, [255]⟩,
  ⟨0x3810, 16, 0x1, 0x2, 1, 1, .u8, .rw, .oem, 0, 0, 8, []⟩,
  ⟨0x3810, 16, 0x1, 0x3, 1, 1, .u8, .rw, .oem, 255, 0, 7, [255]⟩,
  ⟨0x3810, 16, 0x1, 0x4, 1, 1, .i32, .rw, .oem, 0, (-2147483648), 2147483647, []⟩,
  ⟨0x3810, 16, 0x1, 0x5, 1, 1, .u32, .rw, .oem, 1000, 1, 4294967295, []⟩,
  ⟨0x3810, 16, 0x1, 0x6, 1, 1, .i32, .rw, .oem, 0, (-2147483648), 2147483647, []⟩,
  ⟨0x3810, 16, 0x1, 0x7, 1, 1, .i32, .rw, .oem, 0, (-2147483648), 2147483647, []⟩,
  ⟨0x3810, 16, 0x1, 0x8, 1, 1, .u8, .rw, .oem, 1, 0, 1, []⟩,
  ⟨0x3810, 16, 0x1, 0x9, 1, 1, .u8, .rw, .oem, 0, 0, 15, []⟩,
  ⟨0x3810, 16, 0x1, 0xA, 1, 1, .i32, .rw, .oem, 0, (-2147483648), 2147483647, []⟩,
  ⟨0x3810, 16, 0x1, 0xB, 1, 1, .u16, .rw, .oem, 65535, 0, 65535, []⟩,
  ⟨0x3810, 16, 0x1, 0xC, 1, 1, .i32, .rw, .oem, 0, (-2147483648), 2147483647, []⟩,
  ⟨0x3810, 16, 0x1, 0xD, 1, 1, .u8, .ro, .base, 0, 0, 255, []⟩,
  ⟨0x3810, 16, 0x1, 0xE, 1, 1, .u32, .rw, .technician, 0, 0, 4294967295, []⟩,
  ⟨0x3810, 16, 0x1, 0xF, 1, 1, .u16, .ro, .base, 0, 0, 65535, []⟩,
  ⟨0x3810, 16, 0x1, 0x10, 1, 1, .i32, .ro, .base, 0, (-2147483648), 2147483647, []⟩,
  ⟨0x3810, 16, 0x1, 0x11, 1, 1, .i32, .ro, .base, 0, (-2147483648), 2147483647, []⟩,
  ⟨0x3810, 16, 0x1, 0x12, 1, 1, .i32, .ro, .base, 0, (-2147483648), 2147483647, []⟩,
  ⟨0x3820, 32, 0x1, 0x0, 1, 1, .u8, .const, .base, 4, 0, 255, []⟩,
  ⟨0x3820, 32, 0x1, 0x1, 1, 1, .dom, .rw, .oem, 0, 330, 330, []⟩,
  ⟨0x3820, 32, 0x1, 0x2, 1, 1, .u32, .rw, .oem, 0, 0, 4294967295, []⟩,
  ⟨0x3820, 32, 0x1, 0x3, 1, 1, .dom, .ro, .base, 0, 330, 330, []⟩,
  ⟨0x3820, 32, 0x1, 0x4, 1, 1, .u32, .ro, .base, 0, 0, 4294967295, []⟩,
  ⟨0x3840, 16, 0x1, 0x0, 1, 1, .u8, .const, .base, 6, 0, 255, []⟩,
  ⟨0x3840, 16, 0x1, 0x1, 1, 1, .u32, .rw, .oem, 0, 0, 4294967295, []⟩,
  ⟨0x3840, 16, 0x1, 0x2, 1, 1, .u16, .rw, .oem, 1024, 16, 65535, []⟩,
  ⟨0x3840, 16, 0x1, 0x3, 1, 1, .u16, .rw, .oem, 8, 1, 65535, []⟩,
  ⟨0x3840, 16, 0x1, 0x4, 1, 1, .u8, .rw, .oem, 1, 0, 3, []⟩,
  ⟨0x3840, 16, 0x1, 0x5, 1, 1, .u32, .ro, .base, 0, 0, 4294967295, []⟩,
  ⟨0x3840, 16, 0x1, 0x6, 1, 1, .u16, .ro, .base, 0, 0, 65535, []⟩,
  ⟨0x3850, 16, 0x1, 0x0, 1, 1, .u8, .const, .base, 5, 0, 255, []⟩]

/-- Entries of the Harik engine 3800–3FFF (part 2). -/
def rowsHarik2 : List ObjRow := [
  ⟨0x3850, 16, 0x1, 0x1, 1, 1, .dom, .rw, .oem, 0, 129, 129, []⟩,
  ⟨0x3850, 16, 0x1, 0x2, 1, 1, .u32, .rw, .oem, 0, 0, 4294967295, []⟩,
  ⟨0x3850, 16, 0x1, 0x3, 1, 1, .dom, .ro, .base, 0, 129, 129, []⟩,
  ⟨0x3850, 16, 0x1, 0x4, 1, 1, .u8, .rw, .oem, 0, 0, 3, []⟩,
  ⟨0x3850, 16, 0x1, 0x5, 1, 1, .u8, .rw, .oem, 0, 0, 1, []⟩]

/-- Entries of the Harik engine 3800–3FFF. -/
def rowsHarik : List ObjRow := rowsHarik1 ++ rowsHarik2

/-- Entries of the phases, mask sequencer and ADCs 4000–4FFF (part 1). -/
def rowsPhase1 : List ObjRow := [
  ⟨0x4000, 12, 0x10, 0x0, 1, 1, .u8, .const, .base, 6, 0, 255, []⟩,
  ⟨0x4000, 12, 0x10, 0x1, 1, 1, .u8, .rw, .oem, 1, 0, 1, []⟩,
  ⟨0x4000, 12, 0x10, 0x2, 1, 1, .u8, .rw, .oem, 1, 1, 16, []⟩,
  ⟨0x4000, 12, 0x10, 0x3, 1, 1, .u16, .rw, .oem, 0, 0, 65535, []⟩,
  ⟨0x4000, 12, 0x10, 0x4, 1, 1, .u8, .rw, .oem, 0, 0, 1, []⟩,
  ⟨0x4000, 12, 0x10, 0x5, 1, 1, .u8, .rw, .oem, 0, 0, 1, []⟩,
  ⟨0x4000, 12, 0x10, 0x6, 1, 1, .u8, .rw, .oem, 1, 0, 1, []⟩,
  ⟨0x4001, 12, 0x10, 0x0, 1, 1, .u8, .const, .base, 5, 0, 255, []⟩,
  ⟨0x4001, 12, 0x10, 0x1, 1, 1, .u16, .rw, .oem, 192, 0, 1023, []⟩,
  ⟨0x4001, 12, 0x10, 0x2, 1, 1, .u16, .rw, .oem, 192, 0, 1023, []⟩,
  ⟨0x4001, 12, 0x10, 0x3, 1, 1, .u8, .rw, .oem, 0, 0, 3, []⟩,
  ⟨0x4001, 12, 0x10, 0x4, 1, 1, .u16, .ro, .base, 192, 0, 65535, []⟩,
  ⟨0x4001, 12, 0x10, 0x5, 1, 1, .u16, .ro, .base, 192, 0, 65535, []⟩,
  ⟨0x4002, 12, 0x10, 0x0, 1, 1, .u8, .const, .base, 5, 0, 255, []⟩,
  ⟨0x4002, 12, 0x10, 0x1, 1, 1, .u8, .rw, .oem, 0, 0, 1, []⟩,
  ⟨0x4002, 12, 0x10, 0x2, 1, 1, .u16, .rw, .oem, 768, 0, 15360, []⟩,
  ⟨0x4002, 12, 0x10, 0x3, 1, 1, .u8, .rw, .oem, 0, 0, 2, []⟩,
  ⟨0x4002, 12, 0x10, 0x4, 1, 1, .u8, .rw, .oem, 0, 0, 255, []⟩,
  ⟨0x4002, 12, 0x10, 0x5, 1, 1, .i32, .ro, .base, 0, (-2147483648), 2147483647, []⟩,
  ⟨0x4003, 12, 0x10, 0x0, 1, 1, .u8, .const, .base, 6, 0, 255, []⟩,
  ⟨0x4003, 12, 0x10, 0x1, 4, 1, .u8, .rw, .oem, 1, 1, 16, []⟩,
  ⟨0x4003, 12, 0x10, 0x5, 1, 1, .u8, .rw, .oem, 2, 0, 255, []⟩,
  ⟨0x4003, 12, 0x10, 0x6, 1, 1, .u32, .rw, .oem, 1048575, 0, 1048575, []⟩,
  ⟨0x4004, 12, 0x10, 0x0, 1, 1, .u8, .const, .base, 1, 0, 255, []⟩,
  ⟨0x4004, 12, 0x10, 0x1, 1, 1, .u8, .rw, .technician, 0, 0, 3, []⟩,
  ⟨0x4005, 12, 0x10, 0x0, 1, 1, .u8, .const, .base, 11, 0, 255, []⟩,
  ⟨0x4005, 12, 0x10, 0x1, 1, 1, .u16, .rw, .oem, 800, 0, 1600, []⟩,
  ⟨0x4005, 12, 0x10, 0x2, 1, 1, .i32, .rw, .oem, 10000, (-10000000), 10000000, []⟩,
  ⟨0x4005, 12, 0x10, 0x3, 1, 1, .i32, .rw, .technician, 2000000, (-2147483648), 2147483647, []⟩,
  ⟨0x4005, 12, 0x10, 0x4, 1, 1, .i32, .rw, .technician, (-2000000), (-2147483648), 2147483647, []⟩,
  ⟨0x4005, 12, 0x10, 0x5, 1, 1, .u8, .rw, .technician, 24, 0, 255, []⟩,
  ⟨0x4005, 12, 0x10, 0x6, 1, 1, .u8, .rw, .technician, 1, 0, 2, []⟩,
  ⟨0x4005, 12, 0x10, 0x7, 1, 1, .i32, .ro, .base, 0, (-2147483648), 2147483647, []⟩,
  ⟨0x4005, 12, 0x10, 0x8, 1, 1, .u16, .ro, .base, 0, 0, 65535, []⟩,
  ⟨0x4005, 12, 0x10, 0x9, 1, 1, .u32, .ro, .base, 0, 0, 4294967295, []⟩,
  ⟨0x4005, 12, 0x10, 0xA, 1, 1, .i32, .ro, .base, 0, (-2147483648), 2147483647, []⟩,
  ⟨0x4005, 12, 0x10, 0xB, 1, 1, .i32, .ro, .base, 0, (-2147483648), 2147483647, []⟩,
  ⟨0x4006, 12, 0x10, 0x0, 1, 1, .u8, .const, .base, 9, 0, 255, []⟩,
  ⟨0x4006, 12, 0x10, 0x1, 1, 1, .u8, .rw, .oem, 0, 0, 2, []⟩,
  ⟨0x4006, 12, 0x10, 0x2, 1, 1, .u16, .rw, .oem, 1000, 200, 3000, []⟩]

/-- Entries of the phases, mask sequencer and ADCs 4000–4FFF (part 2). -/
def rowsPhase2 : List ObjRow := [
  ⟨0x4006, 12, 0x10, 0x3, 1, 1, .u16, .rw, .oem, 0, 0, 1023, []⟩,
  ⟨0x4006, 12, 0x10, 0x4, 1, 1, .u16, .rw, .oem, 1023, 0, 1023, []⟩,
  ⟨0x4006, 12, 0x10, 0x5, 1, 1, .u8, .rw, .oem, 8, 0, 63, []⟩,
  ⟨0x4006, 12, 0x10, 0x6, 1, 1, .u8, .rw, .oem, 16, 1, 255, []⟩,
  ⟨0x4006, 12, 0x10, 0x7, 1, 1, .i16, .ro, .base, (-1), (-32768), 32767, []⟩,
  ⟨0x4006, 12, 0x10, 0x8, 1, 1, .i16, .ro, .base, (-1), (-32768), 32767, []⟩,
  ⟨0x4006, 12, 0x10, 0x9, 1, 1, .u32, .ro, .base, 0, 0, 4294967295, []⟩,
  ⟨0x4007, 12, 0x10, 0x0, 1, 1, .u8, .const, .base, 6, 0, 255, []⟩,
  ⟨0x4007, 12, 0x10, 0x1, 1, 1, .u16, .ro, .base, 0, 0, 65535, []⟩,
  ⟨0x4007, 12, 0x10, 0x2, 1, 1, .u32, .ro, .base, 0, 0, 4294967295, []⟩,
  ⟨0x4007, 12, 0x10, 0x3, 1, 1, .u32, .ro, .base, 0, 0, 4294967295, []⟩,
  ⟨0x4007, 12, 0x10, 0x4, 1, 1, .u16, .ro, .base, 0, 0, 65535, []⟩,
  ⟨0x4007, 12, 0x10, 0x5, 1, 1, .u32, .ro, .base, 0, 0, 4294967295, []⟩,
  ⟨0x4007, 12, 0x10, 0x6, 1, 1, .u32, .ro, .base, 0, 0, 4294967295, []⟩,
  ⟨0x4100, 1, 0x1, 0x0, 1, 1, .u8, .const, .base, 3, 0, 255, []⟩,
  ⟨0x4100, 1, 0x1, 0x1, 1, 1, .u32, .ro, .base, 0, 0, 4294967295, []⟩,
  ⟨0x4100, 1, 0x1, 0x2, 1, 1, .u8, .ro, .base, 1, 0, 255, []⟩,
  ⟨0x4100, 1, 0x1, 0x3, 1, 1, .u16, .ro, .base, 0, 0, 65535, []⟩,
  ⟨0x4110, 1, 0x1, 0x0, 1, 1, .u8, .const, .base, 14, 0, 255, []⟩,
  ⟨0x4110, 1, 0x1, 0x1, 8, 1, .u8, .rw, .oem, 0, 0, 255, []⟩,
  ⟨0x4110, 1, 0x1, 0x9, 1, 1, .u32, .rw, .oem, 0, 0, 262143, []⟩,
  ⟨0x4110, 1, 0x1, 0xA, 1, 1, .u32, .rw, .oem, 0, 0, 262143, []⟩,
  ⟨0x4110, 1, 0x1, 0xB, 1, 1, .u8, .rw, .operator, 0, 0, 1, []⟩,
  ⟨0x4110, 1, 0x1, 0xC, 1, 1, .u8, .rw, .operator, 255, 0, 7, [255]⟩,
  ⟨0x4110, 1, 0x1, 0xD, 1, 1, .u8, .rw, .oem, 0, 0, 7, []⟩,
  ⟨0x4110, 1, 0x1, 0xE, 1, 1, .u8, .ro, .base, 0, 0, 255, []⟩,
  ⟨0x4120, 1, 0x1, 0x0, 1, 1, .u8, .const, .base, 16, 0, 255, []⟩,
  ⟨0x4120, 1, 0x1, 0x1, 1, 1, .u8, .rw, .oem, 0, 0, 2, []⟩,
  ⟨0x4120, 1, 0x1, 0x2, 1, 1, .u8, .rw, .oem, 1, 0, 2, []⟩,
  ⟨0x4120, 1, 0x1, 0x3, 1, 1, .u8, .rw, .oem, 2, 0, 2, []⟩,
  ⟨0x4120, 1, 0x1, 0x4, 1, 1, .u8, .rw, .oem, 0, 0, 2, []⟩,
  ⟨0x4120, 1, 0x1, 0x5, 1, 1, .u8, .rw, .oem, 1, 0, 2, []⟩,
  ⟨0x4120, 1, 0x1, 0x6, 1, 1, .u8, .rw, .oem, 2, 0, 2, []⟩,
  ⟨0x4120, 1, 0x1, 0x7, 1, 1, .u8, .rw, .oem, 0, 0, 2, []⟩,
  ⟨0x4120, 1, 0x1, 0x8, 1, 1, .u8, .rw, .oem, 1, 0, 2, []⟩,
  ⟨0x4120, 1, 0x1, 0x9, 1, 1, .u8, .rw, .oem, 2, 0, 2, []⟩,
  ⟨0x4120, 1, 0x1, 0xA, 1, 1, .u8, .rw, .oem, 0, 0, 2, []⟩,
  ⟨0x4120, 1, 0x1, 0xB, 1, 1, .u8, .rw, .oem, 1, 0, 2, []⟩,
  ⟨0x4120, 1, 0x1, 0xC, 1, 1, .u8, .rw, .oem, 2, 0, 2, []⟩,
  ⟨0x4120, 1, 0x1, 0xD, 3, 1, .u32, .ro, .base, 0, 0, 4294967295, []⟩]

/-- Entries of the phases, mask sequencer and ADCs 4000–4FFF (part 3). -/
def rowsPhase3 : List ObjRow := [
  ⟨0x4120, 1, 0x1, 0x10, 1, 1, .u16, .ro, .base, 0, 0, 65535, []⟩,
  ⟨0x4130, 1, 0x1, 0x0, 1, 1, .u8, .const, .base, 113, 0, 255, []⟩,
  ⟨0x4130, 1, 0x1, 0x1, 1, 1, .u8, .rw, .oem, 0, 0, 255, []⟩,
  ⟨0x4130, 1, 0x1, 0x2, 1, 1, .u8, .rw, .oem, 16, 1, 0, [1, 4, 16, 64]⟩,
  ⟨0x4130, 1, 0x1, 0x10, 8, 8, .u8, .rw, .oem, 0, 0, 3, []⟩,
  ⟨0x4130, 1, 0x1, 0x11, 8, 8, .i32, .rw, .oem, 1000, (-10000000), 10000000, []⟩,
  ⟨0x4130, 1, 0x1, 0x12, 8, 8, .i32, .rw, .oem, 0, (-2147483648), 2147483647, []⟩,
  ⟨0x4130, 1, 0x1, 0x13, 8, 8, .i32, .rw, .technician, 0, (-2147483648), 2147483647, []⟩,
  ⟨0x4130, 1, 0x1, 0x14, 8, 8, .i32, .rw, .technician, 0, (-2147483648), 2147483647, []⟩,
  ⟨0x4130, 1, 0x1, 0x15, 8, 8, .i32, .rw, .technician, 0, 0, 1000000, []⟩,
  ⟨0x4130, 1, 0x1, 0x16, 8, 8, .i32, .ro, .base, 0, (-2147483648), 2147483647, []⟩,
  ⟨0x4130, 1, 0x1, 0x17, 8, 8, .i32, .ro, .base, 0, (-2147483648), 2147483647, []⟩,
  ⟨0x4130, 1, 0x1, 0x50, 17, 1, .i16, .rw, .oem, 0, (-32768), 32767, []⟩,
  ⟨0x4130, 1, 0x1, 0x61, 17, 1, .i16, .rw, .oem, 0, (-32768), 32767, []⟩]

/-- Entries of the phases, mask sequencer and ADCs 4000–4FFF. -/
def rowsPhase : List ObjRow := rowsPhase1 ++ rowsPhase2 ++ rowsPhase3

/-- Entries of the metrology and energy 5000–57FF (part 1). -/
def rowsMetrology1 : List ObjRow := [
  ⟨0x5000, 1, 0x1, 0x0, 1, 1, .u8, .const, .base, 29, 0, 255, []⟩,
  ⟨0x5000, 1, 0x1, 0x1, 1, 1, .u8, .rw, .oem, 7, 0, 15, []⟩,
  ⟨0x5000, 1, 0x1, 0x2, 4, 1, .u32, .rw, .oem, 1000, 1000, 10000000, []⟩,
  ⟨0x5000, 1, 0x1, 0x6, 4, 1, .u8, .rw, .oem, 0, 0, 2, []⟩,
  ⟨0x5000, 1, 0x1, 0xA, 4, 1, .u32, .rw, .oem, 40000, 1, 10000000, []⟩,
  ⟨0x5000, 1, 0x1, 0xE, 4, 1, .u32, .rw, .oem, 5000, 1, 10000000, []⟩,
  ⟨0x5000, 1, 0x1, 0x12, 4, 1, .u8, .rw, .oem, 255, 0, 7, [255]⟩,
  ⟨0x5000, 1, 0x1, 0x16, 1, 1, .u8, .rw, .oem, 0, 0, 1, []⟩,
  ⟨0x5000, 1, 0x1, 0x17, 1, 1, .u8, .rw, .oem, 255, 0, 7, [255]⟩,
  ⟨0x5000, 1, 0x1, 0x18, 1, 1, .u8, .rw, .oem, 0, 0, 1, []⟩,
  ⟨0x5000, 1, 0x1, 0x19, 1, 1, .u8, .ro, .base, 15, 0, 255, []⟩,
  ⟨0x5000, 1, 0x1, 0x1A, 1, 1, .u8, .ro, .base, 0, 0, 255, []⟩,
  ⟨0x5000, 1, 0x1, 0x1B, 1, 1, .u32, .rw, .oem, 0, 0, 4294967295, []⟩,
  ⟨0x5000, 1, 0x1, 0x1C, 1, 1, .u32, .ro, .base, 0, 0, 4294967295, []⟩,
  ⟨0x5000, 1, 0x1, 0x1D, 1, 1, .u32, .ro, .base, 0, 0, 4294967295, []⟩,
  ⟨0x5010, 4, 0x1, 0x0, 1, 1, .u8, .const, .base, 3, 0, 255, []⟩,
  ⟨0x5010, 12, 0x1, 0x1, 1, 1, .i32, .rw, .oem, 0, (-200000), 200000, []⟩,
  ⟨0x5010, 12, 0x1, 0x2, 1, 1, .i32, .rw, .oem, 0, (-50000), 50000, []⟩,
  ⟨0x5010, 12, 0x1, 0x3, 1, 1, .i16, .rw, .oem, 0, (-5000), 5000, []⟩,
  ⟨0x5014, 8, 0x1, 0x0, 1, 1, .u8, .const, .base, 14, 0, 255, []⟩,
  ⟨0x5014, 8, 0x1, 0x4, 1, 1, .i16, .rw, .oem, (-200), (-32768), 32767, []⟩,
  ⟨0x5014, 8, 0x1, 0x5, 1, 1, .u16, .rw, .oem, 200, 10, 500, []⟩,
  ⟨0x5014, 8, 0x1, 0x6, 9, 1, .i16, .rw, .oem, 0, (-32768), 32767, []⟩,
  ⟨0x5020, 1, 0x1, 0x0, 1, 1, .u8, .const, .base, 37, 0, 255, []⟩,
  ⟨0x5020, 1, 0x1, 0x1, 1, 1, .i32, .rw, .oem, 0, (-200000), 200000, []⟩,
  ⟨0x5020, 1, 0x1, 0x2, 1, 1, .i32, .rw, .oem, 0, 0, 10000, []⟩,
  ⟨0x5020, 1, 0x1, 0x3, 1, 1, .i32, .rw, .oem, 0, (-200000), 200000, []⟩,
  ⟨0x5020, 1, 0x1, 0x4, 1, 1, .i32, .rw, .oem, 0, 0, 10000, []⟩,
  ⟨0x5020, 1, 0x1, 0x5, 1, 1, .i32, .rw, .oem, 0, (-200000), 200000, []⟩,
  ⟨0x5020, 1, 0x1, 0x6, 1, 1, .i32, .rw, .oem, 0, (-2147483648), 2147483647, []⟩,
  ⟨0x5020, 1, 0x1, 0x7, 1, 1, .i32, .rw, .oem, 0, (-200000), 200000, []⟩,
  ⟨0x5020, 1, 0x1, 0x8, 1, 1, .i32, .rw, .oem, 0, (-2147483648), 2147483647, []⟩,
  ⟨0x5020, 1, 0x1, 0x9, 1, 1, .i32, .rw, .oem, 0, (-200000), 200000, []⟩,
  ⟨0x5020, 1, 0x1, 0xA, 1, 1, .i32, .rw, .oem, 0, (-100000), 100000, []⟩,
  ⟨0x5020, 1, 0x1, 0xB, 1, 1, .i32, .rw, .oem, 0, (-100000), 100000, []⟩,
  ⟨0x5020, 1, 0x1, 0xC, 1, 1, .i32, .rw, .oem, 0, (-200000), 200000, []⟩,
  ⟨0x5020, 1, 0x1, 0xD, 1, 1, .i32, .rw, .oem, 0, 0, 10000, []⟩,
  ⟨0x5020, 1, 0x1, 0xE, 1, 1, .i32, .rw, .oem, 0, (-200000), 200000, []⟩,
  ⟨0x5020, 1, 0x1, 0xF, 1, 1, .i32, .rw, .oem, 0, 0, 10000, []⟩,
  ⟨0x5020, 1, 0x1, 0x10, 1, 1, .i32, .rw, .oem, 0, (-200000), 200000, []⟩]

/-- Entries of the metrology and energy 5000–57FF (part 2). -/
def rowsMetrology2 : List ObjRow := [
  ⟨0x5020, 1, 0x1, 0x11, 1, 1, .i32, .rw, .oem, 0, (-2147483648), 2147483647, []⟩,
  ⟨0x5020, 1, 0x1, 0x12, 1, 1, .i32, .rw, .oem, 0, (-200000), 200000, []⟩,
  ⟨0x5020, 1, 0x1, 0x13, 1, 1, .i32, .rw, .oem, 0, (-2147483648), 2147483647, []⟩,
  ⟨0x5020, 1, 0x1, 0x14, 1, 1, .i32, .rw, .oem, 0, (-200000), 200000, []⟩,
  ⟨0x5020, 1, 0x1, 0x15, 1, 1, .i32, .rw, .oem, 0, (-100000), 100000, []⟩,
  ⟨0x5020, 1, 0x1, 0x16, 1, 1, .i32, .rw, .oem, 0, (-100000), 100000, []⟩,
  ⟨0x5020, 1, 0x1, 0x17, 1, 1, .i32, .rw, .oem, 0, (-200000), 200000, []⟩,
  ⟨0x5020, 1, 0x1, 0x18, 1, 1, .i32, .rw, .oem, 0, 0, 10000, []⟩,
  ⟨0x5020, 1, 0x1, 0x19, 1, 1, .i32, .rw, .oem, 0, (-200000), 200000, []⟩,
  ⟨0x5020, 1, 0x1, 0x1A, 1, 1, .i32, .rw, .oem, 0, 0, 10000, []⟩,
  ⟨0x5020, 1, 0x1, 0x1B, 1, 1, .i32, .rw, .oem, 0, (-200000), 200000, []⟩,
  ⟨0x5020, 1, 0x1, 0x1C, 1, 1, .i32, .rw, .oem, 0, (-2147483648), 2147483647, []⟩,
  ⟨0x5020, 1, 0x1, 0x1D, 1, 1, .i32, .rw, .oem, 0, (-200000), 200000, []⟩,
  ⟨0x5020, 1, 0x1, 0x1E, 1, 1, .i32, .rw, .oem, 0, (-2147483648), 2147483647, []⟩,
  ⟨0x5020, 1, 0x1, 0x1F, 1, 1, .i32, .rw, .oem, 0, (-200000), 200000, []⟩,
  ⟨0x5020, 1, 0x1, 0x20, 1, 1, .i32, .rw, .oem, 0, (-100000), 100000, []⟩,
  ⟨0x5020, 1, 0x1, 0x21, 1, 1, .i32, .rw, .oem, 0, (-100000), 100000, []⟩,
  ⟨0x5020, 1, 0x1, 0x22, 1, 1, .i32, .rw, .oem, 0, (-200000), 200000, []⟩,
  ⟨0x5020, 1, 0x1, 0x23, 1, 1, .i32, .rw, .oem, 0, 0, 10000, []⟩,
  ⟨0x5020, 1, 0x1, 0x24, 1, 1, .i32, .rw, .oem, 0, (-200000), 200000, []⟩,
  ⟨0x5020, 1, 0x1, 0x25, 1, 1, .i32, .rw, .oem, 0, 0, 10000, []⟩,
  ⟨0x5030, 1, 0x1, 0x0, 1, 1, .u8, .const, .base, 47, 0, 255, []⟩,
  ⟨0x5030, 1, 0x1, 0x1, 1, 1, .i32, .ro, .base, 0, (-2147483648), 2147483647, []⟩,
  ⟨0x5030, 1, 0x1, 0x2, 1, 1, .i32, .ro, .base, 0, (-2147483648), 2147483647, []⟩,
  ⟨0x5030, 1, 0x1, 0x3, 1, 1, .i32, .ro, .base, 0, (-2147483648), 2147483647, []⟩,
  ⟨0x5030, 1, 0x1, 0x4, 1, 1, .u16, .ro, .base, 3, 0, 65535, []⟩,
  ⟨0x5030, 1, 0x1, 0x5, 1, 1, .u32, .ro, .base, 0, 0, 4294967295, []⟩,
  ⟨0x5030, 1, 0x1, 0x10, 4, 8, .i32, .ro, .base, 0, (-2147483648), 2147483647, []⟩,
  ⟨0x5030, 1, 0x1, 0x11, 4, 8, .i32, .ro, .base, 0, (-2147483648), 2147483647, []⟩,
  ⟨0x5030, 1, 0x1, 0x12, 4, 8, .i32, .ro, .base, 0, (-2147483648), 2147483647, []⟩,
  ⟨0x5030, 1, 0x1, 0x13, 4, 8, .i32, .ro, .base, 0, (-2147483648), 2147483647, []⟩,
  ⟨0x5030, 1, 0x1, 0x14, 4, 8, .i32, .ro, .base, 0, (-2147483648), 2147483647, []⟩,
  ⟨0x5030, 1, 0x1, 0x15, 4, 8, .i16, .ro, .base, 0, (-32768), 32767, []⟩,
  ⟨0x5030, 1, 0x1, 0x16, 4, 8, .i32, .ro, .base, 0, (-2147483648), 2147483647, []⟩,
  ⟨0x5030, 1, 0x1, 0x17, 4, 8, .i32, .ro, .base, 0, (-2147483648), 2147483647, []⟩,
  ⟨0x5040, 4, 0x1, 0x0, 1, 1, .u8, .const, .base, 9, 0, 255, []⟩,
  ⟨0x5040, 4, 0x1, 0x1, 9, 1, .u64, .ro, .base, 0, 0, 18446744073709551615, []⟩,
  ⟨0x5050, 1, 0x1, 0x0, 1, 1, .u8, .const, .base, 13, 0, 255, []⟩,
  ⟨0x5050, 1, 0x1, 0x1, 2, 1, .u8, .rw, .oem, 5, 0, 5, []⟩,
  ⟨0x5050, 1, 0x1, 0x3, 2, 1, .u32, .rw, .oem, 1000, 1, 100000, []⟩]

/-- Entries of the metrology and energy 5000–57FF (part 3). -/
def rowsMetrology3 : List ObjRow := [
  ⟨0x5050, 1, 0x1, 0x5, 2, 1, .u8, .rw, .oem, 30, 1, 200, []⟩,
  ⟨0x5050, 1, 0x1, 0x7, 2, 1, .u8, .rw, .oem, 1, 0, 1, []⟩,
  ⟨0x5050, 1, 0x1, 0x9, 2, 1, .u32, .ro, .base, 0, 0, 4294967295, []⟩,
  ⟨0x5050, 1, 0x1, 0xB, 2, 1, .u16, .ro, .base, 0, 0, 65535, []⟩,
  ⟨0x5050, 1, 0x1, 0xD, 1, 1, .u32, .ro, .base, 0, 0, 4294967295, []⟩,
  ⟨0x5060, 1, 0x1, 0x0, 1, 1, .u8, .const, .base, 6, 0, 255, []⟩,
  ⟨0x5060, 1, 0x1, 0x1, 1, 1, .u32, .rw, .oem, 230000, 100000, 480000, []⟩,
  ⟨0x5060, 1, 0x1, 0x2, 1, 1, .u8, .rw, .oem, 7, 1, 15, []⟩,
  ⟨0x5060, 1, 0x1, 0x3, 1, 1, .u16, .rw, .oem, 900, 0, 65535, []⟩,
  ⟨0x5060, 1, 0x1, 0x4, 1, 1, .u16, .rw, .oem, 1100, 0, 65535, []⟩,
  ⟨0x5060, 1, 0x1, 0x5, 1, 1, .u16, .rw, .oem, 50, 0, 65535, []⟩,
  ⟨0x5060, 1, 0x1, 0x6, 1, 1, .u16, .rw, .oem, 20, 1, 100, []⟩,
  ⟨0x5068, 1, 0x1, 0x0, 1, 1, .u8, .const, .base, 17, 0, 255, []⟩,
  ⟨0x5068, 1, 0x1, 0x1, 1, 1, .u8, .ro, .base, 0, 0, 255, []⟩,
  ⟨0x5068, 1, 0x1, 0x2, 3, 1, .u32, .ro, .base, 0, 0, 4294967295, []⟩,
  ⟨0x5068, 1, 0x1, 0x5, 1, 1, .u64, .ro, .base, 0, 0, 18446744073709551615, []⟩,
  ⟨0x5068, 1, 0x1, 0x6, 1, 1, .u32, .ro, .base, 0, 0, 4294967295, []⟩,
  ⟨0x5068, 1, 0x1, 0x7, 1, 1, .i32, .ro, .base, 0, (-2147483648), 2147483647, []⟩,
  ⟨0x5068, 1, 0x1, 0x8, 1, 1, .u8, .ro, .base, 0, 0, 255, []⟩,
  ⟨0x5068, 1, 0x1, 0x9, 1, 1, .u64, .ro, .base, 0, 0, 18446744073709551615, []⟩,
  ⟨0x5068, 1, 0x1, 0xA, 1, 1, .u32, .ro, .base, 0, 0, 4294967295, []⟩,
  ⟨0x5068, 1, 0x1, 0xB, 1, 1, .i32, .ro, .base, 0, (-2147483648), 2147483647, []⟩,
  ⟨0x5068, 1, 0x1, 0xC, 1, 1, .u8, .ro, .base, 0, 0, 255, []⟩,
  ⟨0x5068, 1, 0x1, 0xD, 1, 1, .u64, .ro, .base, 0, 0, 18446744073709551615, []⟩,
  ⟨0x5068, 1, 0x1, 0xE, 1, 1, .u32, .ro, .base, 0, 0, 4294967295, []⟩,
  ⟨0x5068, 1, 0x1, 0xF, 1, 1, .i32, .ro, .base, 0, (-2147483648), 2147483647, []⟩,
  ⟨0x5068, 1, 0x1, 0x10, 1, 1, .u8, .ro, .base, 0, 0, 255, []⟩,
  ⟨0x5068, 1, 0x1, 0x11, 1, 1, .u32, .rw, .operator, 0, 0, 4294967295, []⟩,
  ⟨0x5070, 1, 0x1, 0x0, 1, 1, .u8, .const, .base, 7, 0, 255, []⟩,
  ⟨0x5070, 1, 0x1, 0x1, 1, 1, .u32, .rw, .operator, 0, 0, 4294967295, []⟩,
  ⟨0x5070, 1, 0x1, 0x2, 1, 1, .u32, .rw, .oem, 0, 0, 4294967295, []⟩,
  ⟨0x5070, 1, 0x1, 0x3, 1, 1, .u32, .ro, .base, 0, 0, 4294967295, []⟩,
  ⟨0x5070, 1, 0x1, 0x4, 1, 1, .u64, .ro, .base, 0, 0, 18446744073709551615, []⟩,
  ⟨0x5070, 1, 0x1, 0x5, 1, 1, .u8, .ro, .base, 0, 0, 255, []⟩,
  ⟨0x5070, 1, 0x1, 0x6, 1, 1, .u32, .ro, .base, 0, 0, 4294967295, []⟩,
  ⟨0x5070, 1, 0x1, 0x7, 1, 1, .u8, .ro, .base, 0, 0, 255, []⟩]

/-- Entries of the metrology and energy 5000–57FF. -/
def rowsMetrology : List ObjRow := rowsMetrology1 ++ rowsMetrology2 ++ rowsMetrology3

/-- Entries of the recorder, calendar and external log 5800–5EFF. -/
def rowsRecorder : List ObjRow := [
  ⟨0x5800, 1, 0x1, 0x0, 1, 1, .u8, .const, .base, 16, 0, 255, []⟩,
  ⟨0x5800, 1, 0x1, 0x1, 1, 1, .u32, .rw, .oem, 0, 0, 4294967295, []⟩,
  ⟨0x5800, 1, 0x1, 0x2, 1, 1, .u8, .ro, .base, 0, 0, 255, []⟩,
  ⟨0x5800, 1, 0x1, 0x3, 1, 1, .u8, .ro, .base, 0, 0, 255, []⟩,
  ⟨0x5800, 1, 0x1, 0x4, 1, 1, .u32, .ro, .base, 0, 0, 4294967295, []⟩,
  ⟨0x5800, 1, 0x1, 0x5, 6, 1, .u32, .ro, .base, 0, 0, 4294967295, []⟩,
  ⟨0x5800, 1, 0x1, 0xB, 1, 1, .u32, .ro, .base, 0, 0, 4294967295, []⟩,
  ⟨0x5800, 1, 0x1, 0xC, 1, 1, .u16, .ro, .base, 0, 0, 65535, []⟩,
  ⟨0x5800, 1, 0x1, 0xD, 1, 1, .u8, .ro, .base, 0, 0, 255, []⟩,
  ⟨0x5800, 1, 0x1, 0xE, 1, 1, .u32, .ro, .base, 0, 0, 4294967295, []⟩,
  ⟨0x5800, 1, 0x1, 0xF, 1, 1, .u16, .ro, .base, 0, 0, 65535, []⟩,
  ⟨0x5800, 1, 0x1, 0x10, 1, 1, .u32, .ro, .base, 0, 0, 4294967295, []⟩,
  ⟨0x5810, 1, 0x1, 0x0, 1, 1, .u8, .const, .base, 8, 0, 255, []⟩,
  ⟨0x5810, 1, 0x1, 0x1, 1, 1, .u32, .rw, .base, 1, 0, 4294967295, []⟩,
  ⟨0x5810, 1, 0x1, 0x2, 1, 1, .u32, .ro, .base, 0, 0, 4294967295, []⟩,
  ⟨0x5810, 1, 0x1, 0x3, 1, 1, .u32, .ro, .base, 0, 0, 4294967295, []⟩,
  ⟨0x5810, 1, 0x1, 0x4, 1, 1, .u32, .ro, .base, 0, 0, 4294967295, []⟩,
  ⟨0x5810, 1, 0x1, 0x5, 1, 1, .dom, .ro, .base, 0, 0, 4294967295, []⟩,
  ⟨0x5810, 1, 0x1, 0x6, 1, 1, .dom, .ro, .base, 0, 0, 512, []⟩,
  ⟨0x5810, 1, 0x1, 0x7, 1, 1, .u32, .ro, .base, 0, 0, 4294967295, []⟩,
  ⟨0x5810, 1, 0x1, 0x8, 1, 1, .dom, .ro, .base, 0, 0, 32, []⟩,
  ⟨0x5820, 1, 0x1, 0x0, 1, 1, .u8, .const, .base, 5, 0, 255, []⟩,
  ⟨0x5820, 1, 0x1, 0x1, 1, 1, .u64, .rw, .technician, 0, 0, 281474976710655, []⟩,
  ⟨0x5820, 1, 0x1, 0x2, 1, 1, .u8, .ro, .base, 0, 0, 255, []⟩,
  ⟨0x5820, 1, 0x1, 0x3, 1, 1, .i16, .rw, .oem, 0, (-5000), 5000, []⟩,
  ⟨0x5820, 1, 0x1, 0x4, 1, 1, .u64, .ro, .base, 0, 0, 18446744073709551615, []⟩,
  ⟨0x5820, 1, 0x1, 0x5, 1, 1, .u32, .ro, .base, 0, 0, 4294967295, []⟩,
  ⟨0x5830, 1, 0x1, 0x0, 1, 1, .u8, .const, .base, 7, 0, 255, []⟩,
  ⟨0x5830, 1, 0x1, 0x1, 1, 1, .u8, .rw, .oem, 0, 0, 1, []⟩,
  ⟨0x5830, 1, 0x1, 0x2, 1, 1, .u8, .ro, .base, 0, 0, 255, []⟩,
  ⟨0x5830, 1, 0x1, 0x3, 1, 1, .u8, .rw, .oem, 20, 1, 40, []⟩,
  ⟨0x5830, 1, 0x1, 0x4, 1, 1, .u32, .rw, .oem, 8388608, 65536, 8388608, []⟩,
  ⟨0x5830, 1, 0x1, 0x5, 1, 1, .u32, .ro, .base, 0, 0, 4294967295, []⟩,
  ⟨0x5830, 1, 0x1, 0x6, 1, 1, .u32, .ro, .base, 0, 0, 4294967295, []⟩,
  ⟨0x5830, 1, 0x1, 0x7, 1, 1, .u16, .ro, .base, 0, 0, 65535, []⟩]

/-- Entries of the diagnostics 5F00. -/
def rowsDiagnostics : List ObjRow := [
  ⟨0x5F00, 1, 0x1, 0x0, 1, 1, .u8, .const, .base, 9, 0, 255, []⟩,
  ⟨0x5F00, 1, 0x1, 0x1, 1, 1, .u32, .ro, .base, 0, 0, 4294967295, []⟩,
  ⟨0x5F00, 1, 0x1, 0x2, 1, 1, .u32, .ro, .base, 0, 0, 4294967295, []⟩,
  ⟨0x5F00, 1, 0x1, 0x3, 1, 1, .u32, .ro, .base, 0, 0, 4294967295, []⟩,
  ⟨0x5F00, 1, 0x1, 0x4, 1, 1, .u16, .ro, .base, 0, 0, 65535, []⟩,
  ⟨0x5F00, 1, 0x1, 0x5, 1, 1, .i32, .ro, .base, 0, (-2147483648), 2147483647, []⟩,
  ⟨0x5F00, 1, 0x1, 0x6, 1, 1, .u8, .ro, .base, 0, 0, 255, []⟩,
  ⟨0x5F00, 1, 0x1, 0x7, 1, 1, .i16, .ro, .base, 0, (-32768), 32767, []⟩,
  ⟨0x5F00, 1, 0x1, 0x8, 1, 1, .i16, .ro, .base, (-400), (-32768), 32767, []⟩,
  ⟨0x5F00, 1, 0x1, 0x9, 1, 1, .u32, .ro, .base, 0, 0, 4294967295, []⟩]

/-- The entries among which an index is found. -/
def rowsOf (ix : Nat) : List ObjRow :=
  if ix < 0x2000 then rowsComm else
  if ix < 0x2200 then rowsDevice else
  if ix < 0x2300 then rowsAngle else
  if ix < 0x2400 then rowsFault else
  if ix < 0x3000 then rowsPorts else
  if ix < 0x3800 then rowsRail else
  if ix < 0x4000 then rowsHarik else
  if ix < 0x5000 then rowsPhase else
  if ix < 0x5800 then rowsMetrology else
  if ix < 0x5F00 then rowsRecorder else
  rowsDiagnostics

/-- The entry of the object tables for an address, if the dictionary has the object. -/
def findRow (ix sub : Nat) : Option ObjRow :=
  (rowsOf ix).find? fun r => r.hasIx ix && r.hasSub sub

/-- Whether any chapter defines the index (R39). -/
def hasIndex (ix : Nat) : Bool := (rowsOf ix).any fun r => r.hasIx ix

end Sys2Proof.Machine
end

