-- ==== Sys2Proof/Machine/State.lean ====
section
/-! DEFINITION. The state of the AN7412: the dictionary's values, and what each block holds beside them.
Every field's default is its value in `State.reset`. -/

namespace Sys2Proof.Machine

/-! ### Event fabric (chapter 14) -/

/-- An uncleared event source (R459): STANDING while `standing`, else LATCHED. It holds the response and the
SECONDARY flag of its raising (R462, R513) and the EMCY code it was raised with (R508). -/
structure Uncleared where
  ev : Nat
  standing : Bool
  resp : Nat
  secondary : Bool
  emcy : Nat
  deriving DecidableEq, Repr

/-- An entry of the pending FIFO (R461): a raising with its response, its data bytes D0–D7 as a
little-endian number, the time taken when the fabric accepted it (R513), and the ms since reset release then. -/
structure Occurrence where
  ev : Nat
  resp : Nat
  data : Nat
  time : Nat
  timeValid : Bool
  up : Nat
  secondary : Bool
  overflow : Bool
  restored : Bool
  emcy : Nat
  deriving DecidableEq, Repr

/-- The event fabric: the uncleared sources, the pending FIFO (oldest first) and the overflow map, as the
ascending list of its marked sources (R461). -/
structure Fabric where
  uncleared : List Uncleared := []
  fifo : List Occurrence := []
  overflow : List Nat := []
  deriving DecidableEq, Repr

/-! ### Recorder (chapter 16) -/

/-- A log record (R511), by its fields; CRC and VALID follow from them. -/
structure Record where
  seq : Nat
  time : Nat
  ev : Nat
  respSev : Nat
  flags : Nat
  reps : Nat
  aux : Nat
  data : Nat
  deriving DecidableEq, Repr

/-- A staging entry (R517, R518): its record, the time of its first occurrence in ms since reset release,
whether it may be written, whether it waits for the direct channel, and whether a forced flush writes it. -/
structure Staged where
  record : Record
  firstAt : Nat
  eligible : Bool
  direct : Bool
  forced : Bool
  deriving DecidableEq, Repr

/-- What a log slot holds when it is not erased (R512): a record, or bytes that are no record, with the number of
the granule that reads uncorrectable, if one does (R527). -/
inductive LogSlot where
  | record (r : Record)
  | spoilt (ecc : Option Nat)
  deriving DecidableEq, Repr

/-- The scope of a host log erase under way (R534): what it erases, and whether its internal and external
parts are still to be erased; RC_LOG_ERASED waits in a reserved entry. -/
structure HostErase where
  scope : Nat
  internal : Bool
  external : Bool
  record : Option Record
  deriving DecidableEq, Repr

/-- The event recorder and both logs. `log` and `extLog` list the slots that are not erased. -/
structure Recorder where
  /-- The last sequence number assigned; retained (R515). -/
  seq : Nat := 0
  staging : List Staged := []
  /-- The entry being programmed, and the granule under way (R520). -/
  writing : Option (Staged × Nat) := none
  log : List (Nat × LogSlot) := []
  pos : Nat := 0
  wrapped : Bool := false
  /-- The log sector to be erased next or under erase; retained (R525). -/
  eraseSector : Option Nat := none
  erasing : Bool := false
  /-- The slot of the record write under way; retained (R527). -/
  interrupted : Option Nat := none
  /-- Drop counts by severity; retained (R522, R523). -/
  drops : Vector Nat 6 := Vector.replicate 6 0
  /-- Drops have occurred since the last overflow record (R523). -/
  overflowDue : Bool := false
  /-- The channels whose open log reads defer sector erases, oldest first (R532). -/
  readers : List Channel := []
  hostErase : Option HostErase := none
  /-- The external log's slots (R536). -/
  extLog : List (Nat × LogSlot) := []
  extPos : Nat := 0
  /-- Records waiting for the external memory, oldest first. -/
  extWaiting : List Record := []
  /-- An external sector erase is under way. -/
  extErasing : Bool := false
  deriving DecidableEq, Repr

/-! ### AVSBus (chapter 08) -/

/-- The answer to the last AVSBus frame (R291, R292): SlaveAck, and the data of a read. -/
structure AvsReply where
  ack : Nat
  data : Option Nat
  deriving DecidableEq, Repr

/-! ### Client channels (chapters 02 and 17) -/

/-- An answer a channel has been given: success, or an abort code of R43. -/
structure Answer where
  ch : Channel
  ix : Nat
  sub : Nat
  abort : Option Nat
  deriving DecidableEq, Repr

/-- What one client channel holds (R82, R529, R563–R565): the last 16 tags with the response given, newest
first; the log cursor; the nonce with its level, and the key of that challenge; the session with the accepted
response; failures in a row, the lockout, and the ms left before the idle timeout. -/
structure Client where
  tags : List (Nat × Option Nat) := []
  cursor : Nat := 1
  nonce : Option (Nat × Nat) := none
  challengeKey : List Byte := []
  session : Option Level := none
  acceptedM : List Byte := []
  failures : Nat := 0
  locked : Bool := false
  idle : Nat := 0
  deriving DecidableEq, Repr

/-- The channels' clients: the CAN SDO server, the USDO client node-IDs with a channel, and the GSP session. -/
structure Clients where
  sdo : Client := {}
  usdo : List (Nat × Client) := []
  gsp : Client := {}
  /-- The last answer given to a write. -/
  answer : Option Answer := none
  /-- The last data given to a read, where the command reads (R528–R531). -/
  readData : List Byte := []
  /-- The number of nonces drawn. -/
  draws : Nat := 0
  deriving DecidableEq, Repr

/-! ### CAN port (chapter 02) -/

/-- The NMT states (R54, R58); `initialising` before the boot-up message. -/
inductive Nmt where
  | initialising | preOperational | operational | stopped
  deriving DecidableEq, Repr

/-- A CAN frame that waits for transmission. -/
inductive TxFrame where
  | bootUp
  | heartbeat (state : Nat)
  | emcy (data : List Byte)
  | tpdo (n : Nat) (data : List Byte) (sync : Bool)
  | sdo (data : List Byte)
  | usdo (client : Nat) (ix sub : Nat) (abort : Option Nat) (data : List Byte)
  | sync (counter : Option Nat)
  | lss (data : List Byte)
  deriving DecidableEq, Repr

/-- An open segmented transfer of the SDO server or of a USDO client (R62, R64). -/
inductive Transfer where
  | none
  | download (ix sub : Nat) (size : Option Nat) (data : List Byte) (toggle : Bool)
  | upload (ix sub : Nat) (rest : List Byte) (toggle : Bool)
  deriving DecidableEq, Repr

/-- What a TPDO holds (R612): the value last sent since Operational was entered, the value sampled at the last
SYNC, the SYNCs counted since, and its inhibit time and pending change. -/
structure Tpdo where
  lastSent : Option (List Byte) := none
  count : Nat := 0
  inhibited : Bool := false
  changed : Bool := false
  deriving DecidableEq, Repr

/-- The LSS subordinate (R50): configuration state, the values configured and not yet stored, and the position
of a fastscan. -/
structure Lss where
  configuring : Bool := false
  nodeId : Option Nat := none
  bitIndex : Option Nat := none
  fastPos : Nat := 0
  activated : Bool := false
  deriving DecidableEq, Repr

/-- The CAN port. -/
structure Can where
  nmt : Nmt := .initialising
  /-- An NMT Start held during Survey (R54). -/
  startHeld : Bool := false
  /-- CiA 1301 frames are in use (R86). -/
  fd : Bool := false
  busOff : Bool := false
  /-- ms since reset release at the entry into bus-off. -/
  busOffAt : Nat := 0
  passive : Bool := false
  /-- The nominal bit-timing index in use. -/
  bitIndex : Nat := 2
  tx : List TxFrame := []
  /-- EMCY frames held by the inhibit time, oldest first (R74). -/
  emcyHeld : List (List Byte) := []
  emcyInhibited : Bool := false
  /-- The consumer heartbeat entries under monitoring (R59). -/
  monitored : Vector Bool 4 := Vector.replicate 4 false
  transfer : Transfer := .none
  /-- The answer an SDO write awaits its completion with (R78, R577). -/
  sdoOwed : Option (List Byte) := none
  /-- The USDO clients whose write awaits its completion. -/
  usdoOwed : List Nat := []
  /-- Requests that came while the answer to an earlier one was awaited, oldest first. -/
  sdoWaiting : List (List Byte) := []
  usdoWaiting : List (BitVec 7 × UsdoReq) := []
  usdo : List (Nat × Transfer) := []
  /-- The values of each RPDO held until the next SYNC, by object key (R68, R613). -/
  rpdoHeld : Vector (List (Nat × List Byte)) 4 := Vector.replicate 4 []
  tpdo : Vector Tpdo 4 := Vector.replicate 4 {}
  /-- The SYNC counter of produced SYNC frames (1019). -/
  syncOut : Nat := 0
  lss : Lss := {}
  /-- The clients with an open USDO transfer, that idle longest first (R43). -/
  usdoIdle : List Nat := []
  /-- The data-phase rate in force, in Mbit/s (R48). -/
  dataRate : Nat := 2
  /-- The last frame transmitted; an FD frame with bit-rate switching has the data-phase rate it was sent at (R46). -/
  sent : Option (TxFrame × Option Nat) := none
  /-- The last NODE_SEL strap value read. -/
  strap : Nat := 0
  deriving DecidableEq, Repr

/-! ### USB and GSP (chapter 17) -/

/-- A GSP request whose answer is outstanding. -/
structure GspRequest where
  seq : Nat
  type : Nat
  ix : Nat
  sub : Nat
  crc : Nat
  offset : Nat
  last : Bool
  deriving DecidableEq, Repr

/-- An open block transfer (R555–R558): its direction and object, the whole data of a read or the data so far
of a write, and the next offset. -/
structure GspBlock where
  write : Bool
  ix : Nat
  sub : Nat
  data : List Byte
  next : Nat
  deriving DecidableEq, Repr

/-- The GSP session and the USB endpoint. -/
structure Gsp where
  /-- The last 8 responses with the SEQ and CRC of their requests, newest first (R553). -/
  cache : List (Nat × Nat × List Byte) := []
  request : Option GspRequest := none
  /-- Decoded frames that wait while a request is served, at most 4 (R554). -/
  waiting : List (List Byte) := []
  block : Option GspBlock := none
  /-- A block transfer was aborted; the next segment receives ABORT with this code (R532, R558). -/
  aborted : Option Nat := none
  /-- Encoded response frames sent, oldest first. -/
  out : List (List Byte) := []
  /-- EVENT frames waiting for the IN endpoint, at most 16 (R560). -/
  events : List (List Byte) := []
  deriving DecidableEq, Repr

/-! ### Reset, supply, clocks and time (chapters 01, 04 and 16) -/

/-- Where the device is between supply and service. `boot` is after reset release and before Survey. -/
inductive Stage where
  | unpowered | reset | boot | run | sleep | off
  deriving DecidableEq, Repr

/-- Bring-up and reset. -/
structure Life where
  st : Stage := .boot
  /-- The kind of a reset whose cause has occurred and that has not been released (R139). -/
  resetKind : Option Nat := none
  /-- The device entered OFF, and the return of the supply wakes it (R151). -/
  wake : Bool := false
  /-- The junction holds the device in a THERMAL reset (R142). -/
  thermalHold : Bool := false
  /-- Retained: the brown-out mark (R138), a marked power-cycle request (R143), the monotonic seconds of the
  last watchdog reset (R141), and whether the retained domain is valid (R145). -/
  brownOut : Bool := false
  powerCycle : Bool := false
  lastWatchdog : Option Nat := none
  retainedValid : Bool := true
  /-- The retained domain was found lost at this bring-up. -/
  lost : Bool := true
  /-- Monotonic seconds counter of the RTC domain, and the ms into the next second. -/
  seconds : Nat := 0
  millis : Nat := 0
  /-- A dew check runs (R135), since which ms since reset release, and the ms at which wet hold was entered. -/
  dewRunning : Bool := false
  dewAt : Nat := 0
  wetSince : Nat := 0
  /-- ms since reset release. -/
  up : Nat := 0
  /-- The settling of metrology is being counted (R425): since which ms since reset release, the qualified crossings
  since then, and the ms of the first of them (R130). -/
  settling : Bool := false
  settleFrom : Nat := 0
  settleCount : Nat := 0
  settleSeen : Option Nat := none
  /-- The step STANDBY → IDLE waits for the ring lead's discovery (R133), and the port has joined since the reset. -/
  joining : Bool := false
  joinedOnce : Bool := false
  /-- The target of the step to SLEEP or OFF that runs (R149). -/
  downTo : Nat := 1
  /-- The function of the last command accepted at 2110:01 (R490). -/
  command : Option Nat := none
  /-- A bring-up has failed since the last reset; kept to the next bring-up (R131, R581). -/
  failedBoot : Bool := false
  /-- Events found before the start of Survey and raised there, with their data. -/
  bootEvents : List (Nat × Nat) := []
  deriving DecidableEq, Repr

/-- What the USB device descriptor has carried since the last attachment: 2510:01, 2510:02 and 2510:03 (R543, R544). -/
structure UsbIdentity where
  vendor : Nat := 0x3A9F
  product : Nat := 0x7412
  name : List Byte := [0x41, 0x4E, 0x37, 0x34, 0x31, 0x32]
  deriving DecidableEq, Repr

/-- Supply and power-fail warning. -/
structure Supply where
  vin : Bool := true
  vbus : Bool := false
  vbat : Bool := false
  /-- VPWM is at or above 2.7 V. -/
  vpwm : Bool := true
  /-- VIN returned after a VIN_LOST and its 100 ms run (R119). -/
  vinLost : Bool := false
  /-- The power-fail warning is raised, since which ms, and which sources have fired (R120, R124). -/
  pfw : Bool := false
  pfwAt : Nat := 0
  pfwSources : Nat := 0
  /-- Flush steps of the warning still run (R121). -/
  flushing : Bool := false
  /-- PWRCYC_N is held low; ms of a requested duration (R104, R493). -/
  pwrcycN : Bool := true
  pwrcycMs : Nat := 0
  usbConfigured : Bool := false
  /-- 2510:04 before the suspend (R546). -/
  usbBefore : Nat := 1
  usbIdentity : UsbIdentity := {}
  deriving DecidableEq, Repr

/-- Clocks (chapter 01). -/
structure Clocks where
  crystal : Bool := false
  pll : Bool := false
  lse : Bool := false
  sofTrim : Bool := false
  outlineClk : Bool := true
  /-- The PLL has run on the crystal since reset (R23). -/
  ranOnCrystal : Bool := false
  /-- The source mode in force since reset, and one written that the next reset takes (R37). -/
  mode : Nat := 0
  nextMode : Option Nat := none
  measurements : Nat := 0
  deriving DecidableEq, Repr

/-- The RTC (R539–R541): ms, what has been counted into the next ms in 1/32 768 ms, the trim accumulator in
thousandths, and validity. -/
structure Rtc where
  ms : Nat := 0
  frac : Int := 0
  trimAcc : Nat := 0
  valid : Bool := false
  deriving DecidableEq, Repr

/-! ### Safety inputs and Outline mode (chapter 14) -/

/-- The SAFE inputs: pins, filtered levels and sample counts, discrepancy timer and re-arm (R475–R481). -/
structure Safety where
  pinA : Bool := false
  pinB : Bool := false
  filtA : Bool := false
  filtB : Bool := false
  /-- Consecutive samples at the level opposite to the filtered one. -/
  runA : Nat := 0
  runB : Nat := 0
  /-- Samples of the present filtered disagreement, and whether it has faulted. -/
  count : Nat := 0
  faulted : Bool := false
  /-- The input that was low first in the present disagreement: true for SAFE_B. -/
  lowFirstB : Bool := false
  /-- The inputs have been sampled since the start of Survey. -/
  seen : Bool := false
  /-- The hardware safe-off path acts (R476). -/
  path : Bool := true
  permit : Bool := false
  deriving DecidableEq, Repr

/-- A committed Outline set (R489): the values of 2340:02–0B, 2620:01 and 4110:01–0A by their keys, the phase
mask of the STORE rail, and the comparator codes of its phases. -/
structure OutlineSet where
  seq : Nat
  values : List (Nat × Int)
  storeMask : Nat
  codes : List (Nat × Nat × Nat)
  deriving DecidableEq, Repr

/-- What the Outline controller does with a part: nothing, drives it, or holds its outputs low. -/
structure Outline where
  /-- Outline mode is active, and since which ms. -/
  active : Bool := false
  since : Nat := 0
  /-- Rails driven by the start-in-Outline rule (R129): drive rail D, the storage rail. -/
  startedDrive : Bool := false
  startedStore : Bool := false
  /-- In Outline mode: the controller drives drive rail D, and the storage rail. -/
  drive : Bool := false
  store : Bool := false
  /-- The storage comparator has found the bus low (R487). -/
  supporting : Bool := false
  /-- The drive waits 2000 ms to restart (R360); ms since reset release at which its duty ramp began (R359). -/
  coasting : Bool := false
  rampFrom : Option Nat := none
  deriving DecidableEq, Repr

/-! ### Flash regions (R614) -/

/-- A copy of the stored parameters (R78): sequence number and the values that differ from default. -/
structure ParamCopy where
  seq : Nat
  od : List (Nat × Int)
  dom : List (Nat × List Byte)
  deriving DecidableEq, Repr

/-- A store or restore in progress (R77–R80): who asked, the area 1–3, whether it restores, and the copy written. -/
structure StoreOp where
  ch : Option Channel
  area : Nat
  restore : Bool
  copy : ParamCopy
  deriving DecidableEq, Repr

/-- An operation on an action object in progress: who asked, the object and the tag. -/
structure ActionOp where
  ch : Channel
  ix : Nat
  sub : Nat
  tag : Nat
  deriving DecidableEq, Repr

/-- A key copy being written: the key's level and bytes. -/
structure KeyOp where
  ch : Channel
  oem : Bool
  key : List Byte
  deriving DecidableEq, Repr

/-- A totals copy (R441): sequence, time of saving, whether that is calendar time, trigger, whether the quality word
was not zero, the registers by key, and the residues of both pulse outputs. -/
structure TotalsCopy where
  seq : Nat
  time : Nat
  timeValid : Bool
  trigger : Nat
  flagged : Bool
  regs : List (Nat × Int)
  residues : Nat × Nat
  deriving DecidableEq, Repr

/-- Data flash and program flash. -/
structure Flash where
  params : Vector (Option ParamCopy) 2 := Vector.mk #[some ⟨1, [], []⟩, none] rfl
  store : Option StoreOp := none
  cal : Vector (Option ParamCopy) 2 := Vector.mk #[some ⟨1, [], []⟩, none] rfl
  /-- The calibration write under way, with its contents (R418). -/
  calOp : Option (ActionOp × ParamCopy) := none
  outline : Vector (Option OutlineSet) 2 := Vector.mk #[none, none] rfl
  outlineOp : Option (ActionOp × OutlineSet) := none
  technicianKey : Option (List Byte) := none
  oemKey : Option (List Byte) := none
  keyOp : Option KeyOp := none
  /-- The access map in force, the one committed for the next boundary, the one stored, and its write (R569). -/
  map : List Nat := []
  mapNext : Option (List Nat) := none
  mapStored : List Nat := []
  mapOp : Option (ActionOp × List Nat) := none
  /-- Saved values of the service-only objects (R574). -/
  service : ParamCopy := ⟨0, [], []⟩
  /-- Contents of banks A and B, as written. -/
  banks : Vector (List Byte) 2 := Vector.mk #[[], []] rfl
  /-- A bank erase is under way, the channel its end answers, and the channel of the open download (R577). -/
  bankErase : Bool := false
  eraseFor : Option Channel := none
  download : Option Channel := none
  /-- The last segment came while the bank was still under erase. -/
  imageEnds : Bool := false
  /-- A piece that came during a power-fail warning, which suspends its programming, and whether it is the last (R121,
  R578). -/
  pieceHeld : Option (List Byte × Bool) := none
  /-- The bank that a SOFTWARE reset activates on trial (R579). -/
  activateNext : Option Nat := none
  /-- Status code of 1F57 (R582). -/
  status : Nat := 0
  deriving DecidableEq, Repr

/-! ### Meridian, Graticule, relays and pins (chapter 05) -/

/-- The arming of a Graticule entry (R175–R177, R183): whether it is armed, the firings its divider still skips,
and the bearing at which it fires. -/
structure Arming where
  armed : Bool := false
  skip : Nat := 0
  place : Nat := 0
  deriving DecidableEq, Repr

/-- A relay output: energised or not, the mode 0 command due at the next scan and the mode 1 command that waits for
its bearing (R184), the operation whose feedback is being measured (true: closing), and rejections in a row
(R185). -/
structure Relay where
  energised : Bool := false
  due : Option Bool := none
  waiting : Option Bool := none
  measuring : Option Bool := none
  rejections : Nat := 0
  deriving DecidableEq, Repr

/-- The Meridian: the four 32-bit accumulators MAINS, ELEC, MECH and ENC (R153), their bearings at the last scan
(R174) and the timer's accumulator; the tracker's measurements; the base period in steps of 1/16 clock with its
carried remainder (R167); and the Graticule's queue of supervisor actions, entry numbers with their values, oldest
first. Periods and times are in core clocks. -/
structure Meridian where
  acc : Vector Nat 4 := Vector.replicate 4 0
  prev : Vector Nat 4 := Vector.replicate 4 0
  /-- The motions of each bearing since the last scan that a step has ended, and the steps themselves, marked true, as
  bearings from and to, oldest first (R158); the present motion began at `prev`. -/
  trail : Vector (List (Nat × Nat × Bool)) 4 := Vector.replicate 4 []
  timer : Nat := 0
  /-- Consecutive qualified crossings, the last measured period, and consecutive periods out of range. -/
  qualified : Nat := 0
  lastPeriod : Nat := 0
  outside : Nat := 0
  /-- The present period of the MAINS cycle, and the relative correction of its rate until the next crossing (R161). -/
  mains : Rat := 4800000
  rate : Rat := 0
  scans : Nat := 0
  /-- Last Hall sector interval, direction and sector of ELEC. -/
  elecPeriod : Nat := 0
  elecForward : Bool := true
  elecSector : Nat := 0
  /-- Signed encoder count since the last index. -/
  encCount : Int := 0
  base : Nat := 37500
  remainder : Rat := 0
  /-- The number of the present period in its group of N, and when it started, on the time scale of the scans. -/
  index : Nat := 0
  epochTime : Rat := 0
  /-- TR_ALIGN_LOST raised while the clamp holds (R384). -/
  alignLost : Bool := false
  arming : Vector Arming 64 := Vector.replicate 64 {}
  queue : List (Nat × Nat) := []
  relays : Vector Relay 4 := Vector.replicate 4 {}
  /-- The level of SYNCOUT, the period within its group of D, and the scans left of a CYCLE pulse (R171). -/
  syncOut : Bool := false
  syncCount : Nat := 0
  /-- When the group of D began, on the time scale of the scans. -/
  syncStart : Rat := 0
  syncLeft : Nat := 0
  deriving DecidableEq, Repr

/-! ### Phases: current sense and PWM (chapters 06 and 07) -/

/-- One phase: its current sense, counter, reference, outputs, trips, force and regulator. Widths and times are
in steps of 1/16 core clock. -/
structure Phase where
  /-- Unclipped conversions since the last clipped one, up to 16 (R196). -/
  unclipped : Nat := 0
  /-- PH_OC_POS and PH_OC_NEG already raised in this period (R204). -/
  ocPos : Bool := false
  ocNeg : Bool := false
  counting : Bool := false
  period : Nat := 0
  /-- Applied shift, the shift it is spread to, the present start offset in steps, and the parts of a re-spread from the
  present period on (R227, R228). -/
  shift : Int := 0
  aim : Int := 0
  offset : Int := 0
  spread : List Int := []
  /-- The shift an AUTO rail has set (R304). -/
  auto : Option Int := none
  /-- Compare A in its shadow, and the width emitted (R230, R233). -/
  compare : Nat := 0
  width : Nat := 0
  /-- Compare A as taken at ZERO (R234). -/
  oldWidth : Nat := 0
  /-- Extremes mode, minimum pulse, short-pulse mode and refresh interval, as taken at ZERO (R233). -/
  extremes : Int := 0
  minPulse : Int := 768
  shortMode : Int := 0
  refreshEach : Nat := 0
  /-- The carry and the bootstrap count with which the period began (R234, R250, R251). -/
  carryAt : Int := 0
  bootAt : Nat := 0
  /-- Where the reference of the period rises and falls, in steps; equal in a period without a pulse (R231, R234). -/
  rise : Nat := 0
  fall : Nat := 0
  /-- The reference has risen in this period. -/
  risen : Bool := false
  reference : Bool := false
  /-- What the Outline controller wants of the phase, and what it drives it with, in the codes of `mask` (R265, R359). -/
  outlineWant : Nat := 0
  outlined : Option Nat := none
  outH : Bool := false
  outL : Bool := false
  bootCount : Nat := 0
  /-- Steps since the last short branch and the last refresh (R250, R252). -/
  sinceShort : Nat := 3840000
  sinceBoot : Nat := 3840000
  prescale : Vector Nat 4 := Vector.replicate 4 0
  /-- Latest node measurement of each edge since the last adaptation, rising then falling; −1 none seen. -/
  nodeR : Option Int := none
  nodeF : Option Int := none
  missR : Nat := 0
  missF : Nat := 0
  /-- A measurement window is open on the edge and has seen no transition (R242). -/
  windowR : Bool := false
  windowF : Bool := false
  /-- Consecutive adaptations that would pass a bound, and whether the event stands (R245). -/
  limitR : Nat := 0
  limitF : Nat := 0
  limitRaisedR : Bool := false
  limitRaisedF : Bool := false
  stoppedR : Bool := false
  stoppedF : Bool := false
  /-- Dead times to be taken at the next ZERO, and the periods since the last adaptation of each edge (R243). -/
  nextR : Nat := 192
  nextF : Nat := 192
  sinceAdaptR : Nat := 0
  sinceAdaptF : Nat := 0
  /-- PH_TRIPn raised in this latch, or in this period in CYCLE mode. -/
  tripRaised : Vector Bool 4 := Vector.replicate 4 false
  /-- An over-current trip, the trip itself, and its clear (R255, R256). -/
  tripOc : Bool := false
  tripped : Bool := false
  tripClear : Bool := false
  /-- Force mode in force (R258). -/
  force : Nat := 0
  limitPos : Bool := false
  limitNeg : Bool := false
  /-- Cycle limiting has acted in this period (R253). -/
  limited : Bool := false
  /-- The state the mask sequencer gives the phase: 0 OFF, 1 PWM, 2 LOW_ON (R260). -/
  mask : Nat := 1
  /-- The phase is an active phase of its rail, and switches; it stops or is shed at its next update point. -/
  active : Bool := false
  switching : Bool := false
  stopDue : Bool := false
  /-- Quarters of demand a phase being shed still has (R303). -/
  shedLeft : Nat := 0
  shedding : Bool := false
  demand : Rat := 0
  iAcc : Rat := 0
  trim : Rat := 0
  duty : Rat := 0
  deriving DecidableEq, Repr

/-- A rail's voltage sense (R208–R212). -/
structure VSense where
  saturated : Bool := false
  windowRaised : Bool := false
  mismatch : Nat := 0
  /-- Last error at the pin and absolute pin voltage, in mV. -/
  error : Rat := 0
  pin : Rat := 0
  refMv : Rat := 0
  /-- The window error ADC has sampled and its result is not ready (R208, R238). -/
  sampling : Bool := false
  deriving DecidableEq, Repr

/-- The auxiliary ADC: the channel of the last result in sequence, 8 before the first (R215), and the channels of the
AUX_SAMPLE requests not yet served, oldest first (R218). -/
structure AuxSequence where
  last : Nat := 8
  requests : List Nat := []
  deriving DecidableEq, Repr

/-- An auxiliary channel: consecutive results beyond its thresholds (R217), whether it has given a result, and
the mode under which the last result was converted (R508). -/
structure Aux where
  hi : Nat := 0
  lo : Nat := 0
  seen : Bool := false
  mode : Nat := 0
  deriving DecidableEq, Repr

/-! ### Rails (chapter 08) -/

/-- How a rail is stopping. -/
inductive Stop where
  | none | soft | hard
  deriving DecidableEq, Repr

/-- One rail, beside its objects. `vr` is V_r in 1/65 536 mV. -/
structure Rail where
  vr : Int := 0
  /-- ON has been written and the first boundary has not come; phases switch; a stop is in progress. -/
  starting : Bool := false
  running : Bool := false
  stop : Stop := .none
  softStart : Bool := false
  /-- Measured output at enable (R279). -/
  vm : Int := 0
  /-- The latest target of the selected source, and whether the clamp holds and was raised (R287). -/
  source : Int := 0
  clamped : Bool := false
  /-- A profile step holds its target (R289). -/
  holding : Bool := false
  profile : Bool := false
  /-- µs for which OV, UV, OC and STALL have held, −1 where the condition does not hold (R297). -/
  held : Vector Rat 4 := Vector.replicate 4 (-1)
  hiccup : Bool := false
  /-- The current limits and the maximum duty that act now, the samples left of the move of each (R295), and the old
  over-voltage limit while it is kept. -/
  posLimit : Rat := 0
  negLimit : Rat := 0
  maxDuty : Rat := 9000
  movePos : Nat := 0
  moveNeg : Nat := 0
  moveDuty : Nat := 0
  oldOv : Option Int := none
  /-- Envelope changes not yet taken: sub-index and level of the writer. -/
  envPending : List (Nat × Nat) := []
  derated : Bool := false
  /-- A shed dwell runs (R302), a due shed waits for the window, and the window is open. -/
  dwell : Bool := false
  shedDue : Bool := false
  window : Bool := false
  demand : Int := 0
  negative : Bool := false
  /-- Stopped by a response (status bit [9]). -/
  responseOff : Bool := false
  /-- The mA by which a soft stop has brought down the current limits of a STORE rail (R280). -/
  storeDrop : Rat := 0
  /-- The demand a rail had when it lost its ring, and the mA by which it has fallen since (R398). -/
  ringFrom : Option Rat := none
  ringFall : Rat := 0
  /-- The slots that depend on the window error wait for it (R315), and the bearings latched at the boundary, MAINS, ELEC,
  MECH and ENC, none where invalid. -/
  awaiting : Bool := false
  latched : Vector (Option Nat) 4 := Vector.replicate 4 none
  /-- Chatter detector: samples and changes in the window, and raised (R335). -/
  chatterSamples : Nat := 0
  chatterCount : Nat := 0
  chatterRaised : Bool := false
  /-- The demand limit of every per-phase demand was reached (R326). -/
  allClamped : Bool := false
  deriving DecidableEq, Repr

/-! ### Harik loop engine (chapter 09) -/

/-- One loop slot: the integrator in 2^−16 demand units (R321), the derivative state, the previous error and
input, and the oscillation detector (R332). -/
structure Slot where
  integrator : Int := 0
  deriv : Rat := 0
  ePrev : Rat := 0
  mPrev : Rat := 0
  /-- The next sample is the first since the enable (R339). -/
  fresh : Bool := true
  /-- A switch to the safe or back to the primary table due at the next boundary (R333, R334). -/
  safeDue : Bool := false
  returnDue : Bool := false
  sign : Int := 0
  samples : Nat := 0
  /-- A detection of the last sample not yet applied (R333). -/
  detected : Bool := false
  deriving DecidableEq, Repr

/-- The engine: tables committed and not yet taken, by index, with the rails that have still to take them
(R336). -/
structure Engine where
  pending : List (Nat × List Byte × List Nat) := []
  deriving DecidableEq, Repr

/-! ### Drive rail D (chapter 10) -/

/-- Drive rail D, beside its objects: the Hall inputs and the sector intervals of R344, newest first, in µs. -/
structure Drive where
  hall : Nat := 0
  /-- The sector of the present code; none while the code is illegal or unknown. -/
  sector : Option Nat := none
  /-- The present code has been read and is illegal. -/
  illegal : Bool := false
  /-- The last legal transition was forward. -/
  forward : Bool := true
  intervals : List Nat := []
  /-- The mean interval taken at the last legal transition, in µs (R344). -/
  mean : Option Rat := none
  /-- An interval runs from a legal transition with no invalid state since (R344). -/
  timing : Bool := false
  /-- ms since reset release of the last legal transition (R359). -/
  lastAt : Option Nat := none
  reversing : Bool := false
  /-- What the mask follows: 0 the Hall sector, 1 the coast entry, 2 the brake entry (R347, R352). -/
  hold : Nat := 0
  /-- The phase whose regulator last drove the PWM state (R348). -/
  pwmPhase : Nat := 9
  deriving DecidableEq, Repr

/-! ### Tropo ring (chapter 11) -/

/-- A position of the member table (R378): it has replied, the spanning rails it leads, and the phases of each
spanning rail; the rails its last poll showed running; polls missed in a row. -/
structure Member where
  present : Bool := false
  leads : Vector Bool 4 := Vector.replicate 4 false
  phases : Vector Nat 4 := Vector.replicate 4 0
  running : Nat := 0
  missed : Nat := 0
  aligned : Bool := false
  deriving DecidableEq, Repr

/-- The Tropo ring port. The ring state is object 2400:02. -/
structure Ring where
  bypassClosed : Bool := true
  joined : Bool := false
  /-- SEQ of the last frame received and of the next frame sent; good and bad frames in a row. -/
  lastSeq : Option Nat := none
  sendSeq : Nat := 0
  good : Nat := 0
  bad : Nat := 0
  members : Vector Member 8 := Vector.replicate 8 {}
  /-- The discovery pass, the frames left of a late join, and the ALIGN pairs still to send (R379, R380). -/
  pass : Nat := 0
  lateJoin : Nat := 0
  alignDue : List Nat := []
  /-- The follower has received an ALIGN since it joined. -/
  aligned : Bool := false
  /-- Alignment codes last sent, by position, and whether the latency mismatch holds (R382). -/
  codes : Vector Nat 8 := Vector.replicate 8 0
  mismatch : Bool := false
  /-- BEARING and EPOCH of the last frame a follower received (R384). -/
  bearing : Nat := 0
  epoch : Nat := 0
  /-- When the last frame reference passed, in core clocks on the time scale of the scans; frames follow every 2.56 µs
  (R365, R371). -/
  frameTime : Option Rat := none
  /-- On a follower: when the ring lead's base period began by the last frame, its length in clocks, and its number in
  the group of N (R384). -/
  leadStart : Option Rat := none
  leadPeriod : Rat := 0
  leadIndex : Nat := 0
  /-- The share slots last received, with their overflow bit, and own last contributions (R389). -/
  slots : Vector Nat 4 := Vector.replicate 4 0
  own : Vector Nat 4 := Vector.replicate 4 0
  /-- Received demand codes and whether the spanning rail runs (R388). -/
  demand : Vector Nat 4 := Vector.replicate 4 0
  spanRuns : Vector Bool 4 := Vector.replicate 4 false
  /-- FAULT, COMMAND and TOKEN of the last frame received by the ring lead. -/
  fault : Nat := 0
  command : Nat := 0
  token : Nat := 0
  /-- The class flags last received of each position (R393). -/
  classes : Vector Nat 8 := Vector.replicate 8 0
  /-- N_s as it acts, the samples left of a move to local values, and the remote term it starts from (R398). -/
  count : Vector Rat 4 := Vector.replicate 4 0
  localMove : Vector Nat 4 := Vector.replicate 4 0
  remoteLast : Vector Rat 4 := Vector.replicate 4 0
  /-- Spanning rails that have failed the check of R381. -/
  spanBad : Vector Bool 4 := Vector.replicate 4 false
  /-- Reason of the leave in progress (TR_LEFT data), whether a frame with the fault bit has been sent, and
  whether the port joins again after it (R396, R400). -/
  leaving : Option Nat := none
  faultSent : Bool := false
  rejoin : Bool := false
  noLead : Bool := false
  /-- The last frame sent or forwarded. -/
  sent : Option RingFrame := none
  deriving DecidableEq, Repr

/-! ### Metrology (chapter 12) -/

/-- One coherent sample after calibration (R416): the values of VM1–VM4 in mV and of IM1–IM4 in mA, and its
duration Δt in core clocks (R411). -/
structure Sample where
  v : Vector Rat 4
  i : Vector Rat 4
  dt : Nat
  deriving DecidableEq, Repr

/-- A current channel's range selection and cross-check (R412, R414). `high` is the selected path; the sum is that
of the squares of x_H − x_L in µV over the qualifying decimated samples of the half-cycle. -/
structure CurrentPath where
  high : Bool := true
  hold : Nat := 0
  lowOnly : Bool := false
  qualifying : Nat := 0
  sumSquares : Rat := 0
  /-- Consecutive passing half-cycles, up to 10. -/
  passing : Nat := 0
  clipped : Bool := false
  clippedBefore : Bool := false
  /-- The causes of a sensor fault that stand, as a mask (R408). -/
  fault : Nat := 0
  /-- TC of the high and the low path in ppm; whether the temperature lies outside a table, and whether it is not
  known yet (R419). -/
  tcHigh : Rat := 0
  tcLow : Rat := 0
  tcOut : Bool := false
  tcMissing : Bool := true
  deriving DecidableEq, Repr

/-- A voltage channel's clipping (R415). -/
structure VoltagePath where
  clipped : Bool := false
  clippedBefore : Bool := false
  deriving DecidableEq, Repr

/-- The metrology unit: the last 256 coherent samples, newest first, how many belong to the open half-cycle, and how
many in a row were taken while the tracker was LOCKED. -/
structure Metrology where
  window : List Sample := []
  half : Nat := 0
  lockedRun : Nat := 0
  /-- Core clocks of output that restarted decimators still discard (R424). -/
  discard : Nat := 0
  /-- Sums of v × i × Δt of mains phases 1–3 over the open half-cycle in mV·mA·clocks, before R421, and of Δt. -/
  energy : Vector Rat 3 := Vector.replicate 3 0
  dtSum : Nat := 0
  /-- The modulator clock is derived from the RC oscillator, or settled (R425). -/
  reduced : Bool := true
  settled : Bool := false
  voltage : Vector VoltagePath 4 := Vector.replicate 4 {}
  current : Vector CurrentPath 4 := Vector.replicate 4 {}
  deriving DecidableEq, Repr

/-! ### Energy and supply quality (chapter 13) -/

/-- A supply-quality kind in progress (R450–R455): its start time, its duration in core clocks, its extreme in mV with
the channel, the channel of its event, and whether a half-cycle had a quality flag or an interruption lay inside. -/
structure Quality where
  active : Bool := false
  start : Nat := 0
  duration : Nat := 0
  extreme : Int := 0
  channel : Nat := 0
  place : Nat := 0
  quality : Bool := false
  inside : Bool := false
  deriving DecidableEq, Repr

/-- A pulse output (R445–R447): the residue in 2^−32 of its unit, the pulse under way, and the ms since reset release
until which the gap lasts. -/
structure Pulse where
  residue : Nat := 0
  on : Bool := false
  gapUntil : Nat := 0
  /-- Start instants of the pulses owed, in clocks after their publication, oldest first. -/
  owed : List Nat := []
  deriving DecidableEq, Repr

/-- A save of the totals under way (R441–R443): the copy, its slot among the 16 of the region, and whether it is the
second try. -/
structure SaveOp where
  copy : TotalsCopy
  slot : Nat
  retry : Bool
  deriving DecidableEq, Repr

/-- Energy and its copies. The registers are objects; `fractions` holds the 2^−32 fractions behind each by key. -/
structure Energy where
  fractions : List (Nat × Nat) := []
  pulses : Vector Pulse 2 := Vector.replicate 2 {}
  /-- The valid copies by slot, slots 0–7 in sector 0. -/
  copies : List (Nat × TotalsCopy) := []
  /-- Slots that are not erased and hold no valid copy, with the SEQ of their VALID field, 0 for none. -/
  spoilt : List (Nat × Nat) := []
  /-- Next copy number; retained. -/
  nextCopy : Nat := 1
  save : Option SaveOp := none
  /-- Triggers of saves that are due and not begun, oldest first. -/
  due : List Nat := []
  /-- The sector to be erased before any further save, and whether its erase runs. -/
  eraseSector : Option Nat := none
  erasing : Bool := false
  sag : Quality := {}
  swell : Quality := {}
  interruption : Quality := {}
  deriving DecidableEq, Repr

/-! ### The device -/

/-- The state of the AN7412. `od` holds the dictionary's numeric values that differ from their defaults, by key
`index × 256 + sub-index`, in ascending order of key; `dom` the DOMAIN and string values likewise. -/
structure State where
  od : List (Nat × Int) := []
  dom : List (Nat × List Byte) := []
  /-- Configuration the fast path has not taken yet: by key, the value it still works with (R17). -/
  stale : List (Nat × Int) := []
  fabric : Fabric := {}
  recorder : Recorder := {}
  clients : Clients := {}
  avs : Option AvsReply := none
  can : Can := {}
  gsp : Gsp := {}
  life : Life := {}
  supply : Supply := {}
  clocks : Clocks := {}
  rtc : Rtc := {}
  safety : Safety := {}
  outline : Outline := {}
  flash : Flash := {}
  meridian : Meridian := {}
  phases : Vector Phase 12 := Vector.replicate 12 {}
  /-- The conversions of each phase-current ADC, under way or waiting, oldest first (R199). -/
  adcs : Vector (List Nat) 3 := Vector.replicate 3 []
  vsense : Vector VSense 4 := Vector.replicate 4 {}
  aux : Vector Aux 8 := Vector.replicate 8 {}
  auxSequence : AuxSequence := {}
  rails : Vector Rail 5 := Vector.replicate 5 {}
  slots : Vector Slot 16 := Vector.replicate 16 {}
  engine : Engine := {}
  drive : Drive := {}
  ring : Ring := {}
  metrology : Metrology := {}
  energy : Energy := {}
  /-- A number the model advances each time it takes a free value (DESIGN CHOICE, log 10). -/
  freeCount : Nat := 0
  /-- The commands that wait, first in first out. -/
  pending : List Instr := []
  deriving DecidableEq, Repr

/-- Why the block stops with a fault: nothing does. Every command of the table has an effect, and a
refused write is answered with its abort code. -/
inductive Fault where
  /-- Raised by no command; safe. -/
  | none
  deriving DecidableEq, Repr

/-- Why a command is refused. -/
inductive Refusal where
  /-- A command that has no meaning yet; raised by `exec` alone, by the mnemonic; safe. -/
  | notModelled (mnemonic : String)
  deriving DecidableEq, Repr

/-- The device at the release of a POWER_ON reset, VIN valid, before the Survey service starts: bank A is active
(2040:02), and the reset is recorded in 2138:01, 2138:02 and 2138:11. What the manual does not state of it is DESIGN CHOICE
(log 14), as are the readings without a default, which are 0 (log 142). -/
def State.reset : State := { od := [(0x204002, 4), (0x213801, 1), (0x213802, 1), (0x213811, 1)] }

end Sys2Proof.Machine
end

