-- ==== Sys2Proof/Machine/Ops.lean ====
section
/-! DEFINITION. The named operations every block uses: the dictionary's cells, byte orders, and the updates of
the numbered parts of the state. -/

namespace Sys2Proof.Machine

/-! ### One field of the state replaced -/

/-- The state with its field `od` replaced. -/
def State.setOd (s : State) (v : List (Nat × Int)) : State := { s with od := v }

/-- The state with its field `dom` replaced. -/
def State.setDom (s : State) (v : List (Nat × List Byte)) : State := { s with dom := v }

/-- The state with its field `stale` replaced. -/
def State.setStale (s : State) (v : List (Nat × Int)) : State := { s with stale := v }

/-- The state with its field `fabric` replaced. -/
def State.setFabric (s : State) (v : Fabric) : State := { s with fabric := v }

/-- The state with its field `recorder` replaced. -/
def State.setRecorder (s : State) (v : Recorder) : State := { s with recorder := v }

/-- The state with its field `clients` replaced. -/
def State.setClients (s : State) (v : Clients) : State := { s with clients := v }

/-- The state with its field `avs` replaced. -/
def State.setAvs (s : State) (v : Option AvsReply) : State := { s with avs := v }

/-- The state with its field `can` replaced. -/
def State.setCan (s : State) (v : Can) : State := { s with can := v }

/-- The state with its field `gsp` replaced. -/
def State.setGsp (s : State) (v : Gsp) : State := { s with gsp := v }

/-- The state with its field `life` replaced. -/
def State.setLife (s : State) (v : Life) : State := { s with life := v }

/-- The state with its field `supply` replaced. -/
def State.setSupply (s : State) (v : Supply) : State := { s with supply := v }

/-- The state with its field `clocks` replaced. -/
def State.setClocks (s : State) (v : Clocks) : State := { s with clocks := v }

/-- The state with its field `rtc` replaced. -/
def State.setRtc (s : State) (v : Rtc) : State := { s with rtc := v }

/-- The state with its field `safety` replaced. -/
def State.setSafety (s : State) (v : Safety) : State := { s with safety := v }

/-- The state with its field `outline` replaced. -/
def State.setOutline (s : State) (v : Outline) : State := { s with outline := v }

/-- The state with its field `flash` replaced. -/
def State.setFlash (s : State) (v : Flash) : State := { s with flash := v }

/-- The state with its field `meridian` replaced. -/
def State.setMeridian (s : State) (v : Meridian) : State := { s with meridian := v }

/-- The state with its field `phases` replaced. -/
def State.setPhases (s : State) (v : Vector Phase 12) : State := { s with phases := v }

/-- The state with its field `adcs` replaced. -/
def State.setAdcs (s : State) (v : Vector (List Nat) 3) : State := { s with adcs := v }

/-- The state with its field `vsense` replaced. -/
def State.setVsense (s : State) (v : Vector VSense 4) : State := { s with vsense := v }

/-- The state with its field `aux` replaced. -/
def State.setAux (s : State) (v : Vector Aux 8) : State := { s with aux := v }

/-- The state with its field `auxSequence` replaced. -/
def State.setAuxSequence (s : State) (v : AuxSequence) : State := { s with auxSequence := v }

/-- The state with its field `rails` replaced. -/
def State.setRails (s : State) (v : Vector Rail 5) : State := { s with rails := v }

/-- The state with its field `slots` replaced. -/
def State.setSlots (s : State) (v : Vector Slot 16) : State := { s with slots := v }

/-- The state with its field `engine` replaced. -/
def State.setEngine (s : State) (v : Engine) : State := { s with engine := v }

/-- The state with its field `drive` replaced. -/
def State.setDrive (s : State) (v : Drive) : State := { s with drive := v }

/-- The state with its field `ring` replaced. -/
def State.setRing (s : State) (v : Ring) : State := { s with ring := v }

/-- The state with its field `metrology` replaced. -/
def State.setMetrology (s : State) (v : Metrology) : State := { s with metrology := v }

/-- The state with its field `energy` replaced. -/
def State.setEnergy (s : State) (v : Energy) : State := { s with energy := v }

/-- The state with its field `freeCount` replaced. -/
def State.setFreeCount (s : State) (v : Nat) : State := { s with freeCount := v }

/-- The state with its field `pending` replaced. -/
def State.setPending (s : State) (v : List Instr) : State := { s with pending := v }

/-! ### Cells: sparse values by key in one canonical form -/

/-- The entry of a key. -/
def cellGet {α : Type} (l : List (Nat × α)) (k : Nat) : Option α :=
  match l with
  | [] => none
  | (i, v) :: rest => if i = k then some v else if k < i then none else cellGet rest k

/-- The list without the key. -/
def cellDrop {α : Type} (l : List (Nat × α)) (k : Nat) : List (Nat × α) :=
  match l with
  | [] => []
  | (i, v) :: rest => if i = k then rest else if k < i then (i, v) :: rest else (i, v) :: cellDrop rest k

/-- The list with the key at the value, in ascending order of key. -/
def cellPut {α : Type} (l : List (Nat × α)) (k : Nat) (v : α) : List (Nat × α) :=
  match l with
  | [] => [(k, v)]
  | (i, w) :: rest =>
    if i = k then (k, v) :: rest else if k < i then (k, v) :: (i, w) :: rest else (i, w) :: cellPut rest k v

/-- Keys strictly ascending. -/
def cellsAscend {α : Type} (l : List (Nat × α)) : Bool :=
  match l with
  | [] => true
  | [_] => true
  | (i, _) :: (j, w) :: rest => Nat.blt i j && cellsAscend ((j, w) :: rest)

/-! ### The dictionary -/

/-- The key of an object address (R7); a sub-index has 8 bits. -/
def objKey (ix sub : Nat) : Nat := ix * 256 + sub % 256

/-- What an address reads at its default: the default of its object table, and the catalogue's default
response for an entry of the event response table (R462). -/
def objDefault (ix sub : Nat) : Int :=
  if 0x2310 ≤ ix ∧ ix < 0x2315 ∧ sub ≠ 0 then
    match eventInfo ((ix - 0x2310) * 128 + sub - 1) with
    | some i => i.dflt
    | none => 0
  else
    match findRow ix sub with
    | some r => r.dflt
    | none => 0

/-- `objDefault` by key. -/
def keyDefault (k : Nat) : Int := objDefault (k / 256) (k % 256)

/-- The value at a key among dictionary cells. -/
def odGet (od : List (Nat × Int)) (k : Nat) : Int :=
  match cellGet od k with
  | some v => v
  | none => keyDefault k

/-- The cells with a key at a value; a default value leaves no entry. -/
def odPut (od : List (Nat × Int)) (k : Nat) (v : Int) : List (Nat × Int) :=
  if v = keyDefault k then cellDrop od k else cellPut od k v

/-- The canonical form of dictionary cells: keys strictly ascending, no entry at its default. -/
def odWf (od : List (Nat × Int)) : Bool :=
  cellsAscend od && od.all fun c => c.2 != keyDefault c.1

/-- The stored value of a numeric object. -/
def State.obj (s : State) (ix sub : Nat) : Int := odGet s.od (objKey ix sub)

/-- The state with a numeric object at a value. -/
def State.putObj (s : State) (ix sub : Nat) (v : Int) : State :=
  (s.setOd (odPut s.od (objKey ix sub) v))

/-- The stored value of a numeric object, where it is never negative. -/
def State.nat (s : State) (ix sub : Nat) : Nat := (s.obj ix sub).toNat

/-- The value of a configuration object that the fast path works with (R17). -/
def State.fast (s : State) (ix sub : Nat) : Int :=
  match cellGet s.stale (objKey ix sub) with
  | some v => v
  | none => s.obj ix sub

/-- `State.fast` where it is never negative. -/
def State.fastNat (s : State) (ix sub : Nat) : Nat := (s.fast ix sub).toNat

/-- A bit of a value that the fast path works with. -/
def State.fastBit (s : State) (ix sub n : Nat) : Bool := (s.fastNat ix sub).testBit n

/-- A configuration object written: the fast path keeps the present value until its boundary (R17). -/
def State.putFast (s : State) (ix sub : Nat) (v : Int) : State :=
  let s := if (cellGet s.stale (objKey ix sub)).isSome then s
           else (s.setStale (cellPut s.stale (objKey ix sub) (s.obj ix sub)))
  s.putObj ix sub v

/-- A bit of an object's value. -/
def State.bit (s : State) (ix sub n : Nat) : Bool := (s.nat ix sub).testBit n

/-- The number with a bit at a value. -/
def setBit (v n : Nat) (b : Bool) : Nat :=
  if v.testBit n then (if b then v else v - 2 ^ n) else (if b then v + 2 ^ n else v)

/-- The state with one bit of an object's value changed. -/
def State.putBit (s : State) (ix sub n : Nat) (b : Bool) : State :=
  s.putObj ix sub (setBit (s.nat ix sub) n b)

/-- The next value of a 32-bit counter; past 2^32 − 1 it is free (log 4). -/
def countNext (k : Nat) (v : Int) : Int :=
  if v < 0xFFFFFFFF then v + 1 else (Config.counterPast k).toNat

/-- The state with a counter object counted up by one. -/
def State.bump (s : State) (ix sub : Nat) : State :=
  s.putObj ix sub (countNext (objKey ix sub) (s.obj ix sub))

/-- Counting `n` times. -/
def State.bumpBy (s : State) (ix sub n : Nat) : State :=
  if s.obj ix sub + n ≤ 0xFFFFFFFF then s.putObj ix sub (s.obj ix sub + n)
  else s.putObj ix sub (Config.counterPast (objKey ix sub)).toNat

/-- The stored bytes of a DOMAIN or string object; `none` where nothing has been written. -/
def State.domain (s : State) (ix sub : Nat) : Option (List Byte) := cellGet s.dom (objKey ix sub)

/-- The state with a DOMAIN or string object at a value. -/
def State.putDomain (s : State) (ix sub : Nat) (v : List Byte) : State :=
  (s.setDom (cellPut s.dom (objKey ix sub) v))

/-- The state with a DOMAIN or string object at its default. -/
def State.dropDomain (s : State) (ix sub : Nat) : State :=
  (s.setDom (cellDrop s.dom (objKey ix sub)))

/-! ### Bytes -/

/-- The `n` bytes of a number, little-endian. -/
def leBytes (n v : Nat) : List Byte :=
  match n with
  | 0 => []
  | m + 1 => BitVec.ofNat 8 v :: leBytes m (v / 256)

/-- The `n` bytes of a signed number in two's complement, little-endian. -/
def leInt (n : Nat) (v : Int) : List Byte := leBytes n (v % (256 ^ n : Nat)).toNat

/-- The number of a little-endian byte list. -/
def leNat (l : List Byte) : Nat :=
  match l with
  | [] => 0
  | b :: rest => b.toNat + 256 * leNat rest

/-- The number of a big-endian byte list. -/
def beNat (l : List Byte) : Nat := leNat l.reverse

/-- The signed number of a little-endian byte list. -/
def leSigned (l : List Byte) : Int :=
  let v := leNat l
  if 2 * v < 256 ^ l.length then v else (v : Int) - (256 ^ l.length : Nat)

/-- The value of a word of `w` bits taken as signed. -/
def asSigned (w v : Nat) : Int := if 2 * v < 2 ^ w then v else (v : Int) - (2 ^ w : Nat)

/-- A field of event data: an unsigned value of `n` bytes, saturated (R501). -/
def evU (n : Nat) (v : Int) : List Byte := leInt n (clampInt v 0 (256 ^ n - 1 : Nat))

/-- A field of event data: a signed value of `n` bytes, saturated (R501). -/
def evI (n : Nat) (v : Int) : List Byte :=
  leInt n (clampInt v (-(256 ^ n / 2 : Nat)) ((256 ^ n / 2 : Nat) - 1))

/-- The data bytes D0–D7 of fields in order, unused bytes 0x00, as a number (R501). -/
def evData (fields : List (List Byte)) : Nat := leNat (fields.flatten.take 8)

/-- Bits `hi` down to `lo` of a number. -/
def bits (v hi lo : Nat) : Nat := (v / 2 ^ lo) % 2 ^ (hi + 1 - lo)

/-- The numbers below `n` whose bit of the mask is set, ascending. -/
def maskList (n mask : Nat) : List Nat := (List.range n).filter fun i => mask.testBit i

/-- 1 for true. -/
def natOf (b : Bool) : Nat := if b then 1 else 0

/-! ### Numbered parts -/

/-- The state with one phase changed. -/
def State.modPhase (s : State) (p : PhaseId) (f : Phase → Phase) : State :=
  (s.setPhases (s.phases.set p (f s.phases[p])))

/-- The state with every phase changed. -/
def State.mapPhases (s : State) (f : PhaseId → Phase → Phase) : State :=
  (s.setPhases (Vector.ofFn fun p => f p s.phases[p]))

/-- The state with one rail changed. -/
def State.modRail (s : State) (r : RailId) (f : Rail → Rail) : State :=
  (s.setRails (s.rails.set r (f s.rails[r])))

/-- The state with one slot changed. -/
def State.modSlot (s : State) (k : SlotId) (f : Slot → Slot) : State :=
  (s.setSlots (s.slots.set k (f s.slots[k])))

/-- The state with one auxiliary channel changed. -/
def State.modAux (s : State) (c : AuxId) (f : Aux → Aux) : State :=
  (s.setAux (s.aux.set c (f s.aux[c])))

/-- The state with one voltage sense changed. -/
def State.modVSense (s : State) (r : VRailId) (f : VSense → VSense) : State :=
  (s.setVsense (s.vsense.set r (f s.vsense[r])))

/-- All rails, in order. -/
def railIds : List RailId := List.finRange 5

/-- All phases, in order. -/
def phaseIds : List PhaseId := List.finRange 12

/-- All slots, in order. -/
def slotIds : List SlotId := List.finRange 16

/-- All auxiliary channels, in order. -/
def auxIds : List AuxId := List.finRange 8

/-- A rail 0–3 as a rail. -/
def vrail (r : VRailId) : RailId := ⟨r.val, by omega⟩

/-- The base index of a rail block (R39, R40). -/
def railIx (r : RailId) (off : Nat) : Nat := 0x3000 + 0x100 * r.val + off

/-- The base index of a phase block (R39, R40). -/
def phaseIx (p : PhaseId) (off : Nat) : Nat := 0x4000 + 0x10 * p.val + off

/-- An object of a rail block. -/
def State.railObj (s : State) (r : RailId) (off sub : Nat) : Int := s.obj (railIx r off) sub

/-- An object of a rail block set. -/
def State.putRailObj (s : State) (r : RailId) (off sub : Nat) (v : Int) : State := s.putObj (railIx r off) sub v

/-- An object of a phase block. -/
def State.phaseObj (s : State) (p : PhaseId) (off sub : Nat) : Int := s.obj (phaseIx p off) sub

/-- An object of a phase block set. -/
def State.putPhaseObj (s : State) (p : PhaseId) (off sub : Nat) (v : Int) : State :=
  s.putObj (phaseIx p off) sub v

/-- Drive rail D. -/
def railD : RailId := 4

/-- The phase mask of a rail, 3r01:01 (R268, R269). -/
def State.phaseMask (s : State) (r : RailId) : Nat := s.nat (railIx r 0x01) 1

/-- The mapped phases of a rail, ascending (R268). -/
def State.railPhases (s : State) (r : RailId) : List PhaseId :=
  phaseIds.filter fun p => (s.phaseMask r).testBit p.val

/-- The rail a phase belongs to, if any (R26). -/
def State.railOf (s : State) (p : PhaseId) : Option RailId :=
  railIds.find? fun r => (s.phaseMask r).testBit p.val

/-- The type of a rail, 3r00:01 (R267): 0 NONE, 1 BUCK, 2 STORE, 3 DRIVE. -/
def State.railType (s : State) (r : RailId) : Nat := s.nat (railIx r 0x00) 1

/-- 3r00:03 reads ON (R277). -/
def State.isOn (s : State) (r : RailId) : Bool := s.railObj r 0x00 3 == 1

/-- The rail is ON or stopping. -/
def State.onOrStopping (s : State) (r : RailId) : Bool := s.isOn r || s.rails[r].stop != .none

/-- Some rail is ON or stopping. -/
def State.anyOnOrStopping (s : State) : Bool := railIds.any s.onOrStopping

/-- Some rail is enabled. -/
def State.anyOn (s : State) : Bool := railIds.any s.isOn

/-- Drive rail D is configured (R269). -/
def State.driveConfigured (s : State) : Bool := s.phaseMask railD == 0x0E00

/-- The effective power state, 2100:02. -/
def State.power (s : State) : Nat := s.nat 0x2100 2

/-- The content of IDLE acts (R35): in IDLE and RUN, and while the step STANDBY → IDLE waits for the ring (R133). -/
def State.idleContent (s : State) : Bool := s.power == 3 || s.power == 4 || s.life.joining

/-- The bring-up stage, 2120:01: 0 SURVEY, 1 WET_HOLD, 2 FULL, 3 FAILED. -/
def State.stage (s : State) : Nat := s.nat 0x2120 1

/-- Full service has been reached (R130). -/
def State.fullService (s : State) : Bool := s.life.st == .run && s.stage == 2

/-- The Survey service or full service runs. -/
def State.serving (s : State) : Bool := s.life.st == .run

/-- The lifecycle state, 2030:01 (R571). -/
def State.lifecycle (s : State) : Nat := s.nat 0x2030 1

/-- The active node-ID, 2008:05; none while it reads 0xFF (R51). -/
def State.nodeId (s : State) : Option Nat :=
  let n := s.nat 0x2008 5
  if n = 0xFF ∨ n = 0 then none else some n

/-- The time a record takes (R513, R540): calendar time while it is valid, else ms since reset release. -/
def State.recordTime (s : State) : Nat := if s.rtc.valid then s.rtc.ms else s.life.up

/-- The state with one more free value taken (log 10). -/
def State.tick (s : State) : State := (s.setFreeCount (s.freeCount + 1))

end Sys2Proof.Machine
end

