-- ==== Sys2Proof/Machine/Crypto.lean ====
section
/-! DEFINITION. The check values and codes the part computes: CRC-8, CRC-16/CCITT-FALSE, CRC-32/ISO-HDLC, COBS,
SHA-256, HMAC-SHA-256 and the verification of an ECDSA P-256 signature. -/

namespace Sys2Proof.Machine

/-! ### CRC -/

/-- One shift of a CRC register of width `w`, most significant bit first. -/
def crcShift {w : Nat} (poly c : BitVec w) : BitVec w :=
  if c.msb then (c <<< 1) ^^^ poly else c <<< 1

/-- `n` shifts. -/
def crcShifts {w : Nat} (poly : BitVec w) (n : Nat) (c : BitVec w) : BitVec w :=
  match n with
  | 0 => c
  | m + 1 => crcShifts poly m (crcShift poly c)

/-- A CRC register after some bytes, each taken most significant bit first. -/
def crcMsb {w : Nat} (poly c : BitVec w) (l : List Byte) : BitVec w :=
  l.foldl (fun c b => crcShifts poly 8 (c ^^^ (BitVec.setWidth w b <<< (w - 8 : Nat)))) c

/-- CRC-8 with polynomial 0x07 and initial value 0x00. -/
def crc8 (l : List Byte) : BitVec 8 := crcMsb 0x07#8 0#8 l

/-- CRC-16/CCITT-FALSE: polynomial 0x1021, initial value 0xFFFF (R548). -/
def crc16 (l : List Byte) : Nat := (crcMsb 0x1021#16 0xFFFF#16 l).toNat

/-- One shift of the reflected CRC-32 register. -/
def crc32Shift (c : BitVec 32) : BitVec 32 :=
  if c.getLsbD 0 then (c >>> 1) ^^^ 0xEDB88320#32 else c >>> 1

/-- `n` shifts. -/
def crc32Shifts (n : Nat) (c : BitVec 32) : BitVec 32 :=
  match n with
  | 0 => c
  | m + 1 => crc32Shifts m (crc32Shift c)

/-- CRC-32/ISO-HDLC: polynomial 0x04C11DB7 reflected, initial value and final XOR 0xFFFFFFFF (R511). -/
def crc32 (l : List Byte) : Nat :=
  ((l.foldl (fun c b => crc32Shifts 8 (c ^^^ BitVec.setWidth 32 b)) 0xFFFFFFFF#32) ^^^ 0xFFFFFFFF#32).toNat

/-! ### COBS -/

/-- A COBS code block: its length byte, then the block. -/
def cobsBlock (acc : List Byte) : List Byte := BitVec.ofNat 8 (acc.length + 1) :: acc

/-- COBS of a byte list, with the bytes `acc` of the open block (R547). -/
def cobsGo (acc l : List Byte) : List Byte :=
  match l with
  | [] => cobsBlock acc
  | b :: rest =>
    if b = 0 then cobsBlock acc ++ cobsGo [] rest
    else if acc.length = 253 then
      cobsBlock (acc ++ [b]) ++ (if rest.isEmpty then [] else cobsGo [] rest)
    else cobsGo (acc ++ [b]) rest

/-- A frame as it is sent: COBS and the delimiter 0x00 (R547). -/
def cobsEncode (l : List Byte) : List Byte := cobsGo [] l ++ [0]

/-- Decoding of COBS blocks: `n` bytes left of the open block, `z` whether a zero follows it. -/
def cobsRun (n : Nat) (z : Bool) (l : List Byte) : Option (List Byte) :=
  match l with
  | [] => if n = 0 then some [] else none
  | b :: rest =>
    if n = 0 then
      if b = 0 then none
      else
        match cobsRun (b.toNat - 1) (b.toNat != 255) rest with
        | some t => some (if z then 0 :: t else t)
        | none => none
    else if b = 0 then none
    else (cobsRun (n - 1) z rest).map fun t => b :: t

/-- The bytes a frame decodes to; `none` where it is no COBS frame that ends in its delimiter. -/
def cobsDecode (l : List Byte) : Option (List Byte) :=
  match l.reverse with
  | [] => none
  | d :: body => if d = 0 then cobsRun 0 false body.reverse else none

/-! ### SHA-256 -/

/-- The first 64 primes: the numbers below 312 that no smaller prime up to 17 divides. -/
def shaPrimes : List Nat :=
  (List.range 312).filter fun n => Nat.ble 2 n && [2, 3, 5, 7, 11, 13, 17].all fun d => n == d || n % d != 0

/-- The largest number whose `k`-th power is at most `v`, bit by bit from `b` bits down, with `r` found so far. -/
def rootOf (k v b r : Nat) : Nat :=
  match b with
  | 0 => r
  | c + 1 => rootOf k v c (if (r + 2 ^ c) ^ k ≤ v then r + 2 ^ c else r)

/-- The first 32 bits of the fractional part of the `k`-th root of a number below 4096. -/
def rootFraction (k n : Nat) : BitVec 32 := BitVec.ofNat 32 (rootOf k (n * 2 ^ (32 * k)) 38 0)

/-- The round constants of SHA-256: of the cube roots of the first 64 primes. -/
def shaK : List (BitVec 32) := shaPrimes.map (rootFraction 3)

/-- The initial hash value of SHA-256: of the square roots of the first eight primes. -/
def shaInit : List (BitVec 32) := (shaPrimes.take 8).map (rootFraction 2)

/-- The next word of the message schedule from the last 16 words, newest first. -/
def shaNext (w : List (BitVec 32)) : BitVec 32 :=
  let x := w.getD 14 0
  let y := w.getD 1 0
  let s0 := x.rotateRight 7 ^^^ x.rotateRight 18 ^^^ (x >>> 3)
  let s1 := y.rotateRight 17 ^^^ y.rotateRight 19 ^^^ (y >>> 10)
  w.getD 15 0 + s0 + w.getD 6 0 + s1

/-- The rounds of one block: the constants left, the schedule newest first, the words left of the block. -/
def shaRounds (ks w block h : List (BitVec 32)) : List (BitVec 32) :=
  match ks with
  | [] => h
  | k :: ks =>
    let x := match block with | b :: _ => b | [] => shaNext w
    let a := h.getD 0 0
    let e := h.getD 4 0
    let s1 := e.rotateRight 6 ^^^ e.rotateRight 11 ^^^ e.rotateRight 25
    let ch := (e &&& h.getD 5 0) ^^^ (~~~e &&& h.getD 6 0)
    let t1 := h.getD 7 0 + s1 + ch + k + x
    let s0 := a.rotateRight 2 ^^^ a.rotateRight 13 ^^^ a.rotateRight 22
    let maj := (a &&& h.getD 1 0) ^^^ (a &&& h.getD 2 0) ^^^ (h.getD 1 0 &&& h.getD 2 0)
    shaRounds ks ((x :: w).take 16) block.tail
      [t1 + s0 + maj, a, h.getD 1 0, h.getD 2 0, h.getD 3 0 + t1, e, h.getD 5 0, h.getD 6 0]

/-- The big-endian words of a byte list. -/
def beWords (n : Nat) (l : List Byte) : List (BitVec 32) :=
  match n with
  | 0 => []
  | m + 1 => BitVec.ofNat 32 (beNat (l.take 4)) :: beWords m (l.drop 4)

/-- The blocks of a padded message, `n` of them. -/
def shaBlocks (n : Nat) (l : List Byte) (h : List (BitVec 32)) : List (BitVec 32) :=
  match n with
  | 0 => h
  | m + 1 =>
    let h' := shaRounds shaK [] (beWords 16 l) h
    shaBlocks m (l.drop 64) (List.zipWith (· + ·) h h')

/-- SHA-256 of a byte list, as 32 bytes. -/
def sha256 (l : List Byte) : List Byte :=
  let zeros := (119 - l.length % 64) % 64
  let padded := l ++ 0x80#8 :: List.replicate zeros 0#8 ++ (leBytes 8 (8 * l.length)).reverse
  (shaBlocks (padded.length / 64) padded shaInit).flatMap fun w => (leBytes 4 w.toNat).reverse

/-- HMAC-SHA-256 with a key of at most 64 bytes. -/
def hmacSha256 (key l : List Byte) : List Byte :=
  let k := key ++ List.replicate (64 - key.length) 0#8
  sha256 ((k.map (· ^^^ 0x5C#8)) ++ sha256 ((k.map (· ^^^ 0x36#8)) ++ l))

/-! ### ECDSA P-256 -/

/-- The prime of the field of P-256. -/
def p256p : Nat := 0xFFFFFFFF00000001000000000000000000000000FFFFFFFFFFFFFFFFFFFFFFFF
/-- The order of the base point of P-256. -/
def p256n : Nat := 0xFFFFFFFF00000000FFFFFFFFFFFFFFFFBCE6FAADA7179E84F3B9CAC2FC632551
/-- The constant of the curve. -/
def p256b : Nat := 0x5AC635D8AA3A93E7B3EBBD55769886BC651D06B0CC53B0F63BCE3C3E27D2604B
/-- The base point. -/
def p256g : Nat × Nat :=
  (0x6B17D1F2E12C4247F8BCE6E563A440F277037D812DEB33A0F4A13945D898C296,
   0x4FE342E2FE1A7F9B8EE7EB4A7C0F9E162BCE33576B315ECECBB6406837BF51F5)

/-- `a ^ e mod m`, by the `k` low bits of the exponent. -/
def powMod (k a e m : Nat) : Nat :=
  match k with
  | 0 => 1 % m
  | j + 1 =>
    let r := powMod j (a * a % m) (e / 2) m
    if e % 2 = 1 then r * a % m else r

/-- The inverse modulo a prime. -/
def invMod (a m : Nat) : Nat := powMod 256 a (m - 2) m

/-- Addition of two points of P-256; `none` is the point at infinity. -/
def ecAdd (a b : Option (Nat × Nat)) : Option (Nat × Nat) :=
  match a, b with
  | none, _ => b
  | _, none => a
  | some (x1, y1), some (x2, y2) =>
    if x1 = x2 ∧ (y1 + y2) % p256p = 0 then none
    else
      let m :=
        if x1 = x2 then (3 * x1 * x1 + (p256p - 3)) * invMod (2 * y1 % p256p) p256p % p256p
        else (y2 + p256p - y1) * invMod ((x2 + p256p - x1) % p256p) p256p % p256p
      let x3 := (m * m + 2 * p256p - x1 - x2) % p256p
      some (x3, (m * (x1 + p256p - x3) + p256p - y1) % p256p)

/-- A multiple of a point, by the `k` low bits of the scalar. -/
def ecMul (k e : Nat) (a : Option (Nat × Nat)) : Option (Nat × Nat) :=
  match k with
  | 0 => none
  | j + 1 =>
    let r := ecMul j (e / 2) (ecAdd a a)
    if e % 2 = 1 then ecAdd r a else r

/-- Whether `(r, s)` is an ECDSA P-256 signature over SHA-256 of the message, by the public key (R577). -/
def ecdsaVerify (key : Nat × Nat) (msg : List Byte) (r s : Nat) : Bool :=
  if r = 0 ∨ s = 0 ∨ p256n ≤ r ∨ p256n ≤ s then false
  else
    let z := beNat (sha256 msg)
    let w := invMod s p256n
    match ecAdd (ecMul 256 (z * w % p256n) (some p256g)) (ecMul 256 (r * w % p256n) (some key)) with
    | none => false
    | some (x, _) => x % p256n == r

end Sys2Proof.Machine
end

