-- ==== Sys2Proof/Machine/Fabric.lean ====
section
/-! DEFINITION. What every block needs to stop rails and to raise events: rail stops (R280–R283), the hardware
holds, the safe-off path (R475), leaving the ring (R396), Outline mode entry (R484, R485), and the event fabric
(R459–R468). -/

namespace Sys2Proof.Machine

/-! ### Rail stops -/

/-- Whether no mapped phase of the rail switches. -/
def State.railLow (s : State) (r : RailId) : Bool := (s.railPhases r).all fun p => !s.phases[p].switching

/-- A function's state object, 2110:03–0F. -/
def State.funcState (s : State) (f : Nat) : Nat := s.nat 0x2110 (3 + f)

/-- The state with a function's state object at a code. -/
def State.putFunc (s : State) (f : Nat) (v : Nat) : State := s.putObj 0x2110 (3 + f) v

/-- The slots of a rail (R310). -/
def State.railSlots (s : State) (r : RailId) : List SlotId :=
  slotIds.filter fun k => s.obj (0x3810 + k.val) 1 == r.val

/-- The slots of a rail that is off read no output and no winner (R316). -/
def State.idleSlots (s : State) (r : RailId) : State :=
  let s := s.putRailObj r 0x20 2 0xFF
  (s.railSlots r).foldl (fun s k => (s.putObj (0x3810 + k.val) 0x10 0).putObj (0x3810 + k.val) 0x0F
    ((s.nat (0x3810 + k.val) 0x0F &&& 0xE0 : Nat) : Int)) s

/-- A stop has ended: every phase of the rail is low (R282). -/
def State.endStop (s : State) (r : RailId) : State :=
  let s := s.modRail r fun a =>
    { a with stop := .none, running := false, softStart := false, storeDrop := 0, ringFrom := none, ringFall := 0,
             negative := false, awaiting := false }
  let s := (s.railPhases r).foldl (fun s p => s.modPhase p fun a =>
    { a with active := false, stopDue := false, shedLeft := 0, shedding := false, demand := 0 }) s
  let s := ((s.putRailObj r 0x40 2 0).putRailObj r 0x40 3 0).idleSlots r
  if s.funcState r.val == 1 then s.putFunc r.val 2 else s

/-- Ends a stop whose phases are all low. -/
def State.settleStop (s : State) (r : RailId) : State :=
  if s.rails[r].stop != .none && s.railLow r then s.endStop r else s

/-- What every stop of a rail ends at once: a start not yet taken, a hiccup delay (R299), a profile (R290), a
shed dwell, and a reversal of drive rail D (R355). -/
def State.stopCommon (s : State) (r : RailId) (cause : Nat) : State :=
  let s := (s.putRailObj r 0x40 6 cause).putRailObj r 0x10 0x12 0
  let s := s.modRail r fun a =>
    { a with starting := false, hiccup := false, profile := false, holding := false, dwell := false,
             shedDue := false }
  if r = railD then
    (s.setDrive { s.drive with reversing := false })
  else s

/-- The rail has something to stop. -/
def State.stoppable (s : State) (r : RailId) : Bool :=
  s.rails[r].running || s.rails[r].starting || s.rails[r].hiccup || s.isOn r

/-- A hard stop: both outputs of every phase low at that phase's next update point (R281). -/
def State.hardStop (s : State) (r : RailId) (cause : Nat) : State :=
  if s.stoppable r then
    let s := s.stopCommon r cause
    let s := s.modRail r fun a => { a with stop := if a.running then .hard else .none, softStart := false }
    let s := (s.railPhases r).foldl (fun s p => s.modPhase p fun a =>
      { a with stopDue := a.switching, active := a.active && a.switching }) s
    s.settleStop r
  else s

/-- A soft stop: the applied target becomes 0 and V_r turns around at its present value (R280). A rail
already stopping goes on; a restart after it is cancelled (R299). -/
def State.softStop (s : State) (r : RailId) (cause : Nat) : State :=
  if s.stoppable r && s.rails[r].stop == .none then
    let s := s.stopCommon r cause
    let s := s.putRailObj r 0x10 7 0
    s.modRail r fun a => { a with stop := if a.running then .soft else .none, softStart := false }
  else if s.rails[r].hiccup then s.modRail r fun a => { a with hiccup := false }
  else s

/-- A soft stop of every enabled rail, their enable objects at SOFT_OFF (R53, R148). -/
def State.softStopAll (s : State) (cause : Nat) : State :=
  railIds.foldl (fun s r => if s.isOn r then (s.softStop r cause).putRailObj r 0x00 3 0 else s) s

/-- A measurement window of an edge ends; without a transition it counts as a miss (R242, R244). -/
def State.closeWindow (s : State) (p : PhaseId) (falling : Bool) : State :=
  let a := s.phases[p]
  if (if falling then a.windowF else a.windowR) then
    let s := s.modPhase p fun a =>
      if falling then { a with windowF := false, missF := a.missF + 1, nodeF := some (-1) }
      else { a with windowR := false, missR := a.missR + 1, nodeR := some (-1) }
    (s.putPhaseObj p 6 (if falling then 8 else 7) (-1)).bump (phaseIx p 6) 9
  else s

/-- The outputs of a phase set; an edge of either ends the measurement windows (R242). -/
def State.putOutputs (s : State) (p : PhaseId) (h l : Bool) : State :=
  let a := s.phases[p]
  let s := if a.outH != h || a.outL != l then (s.closeWindow p false).closeWindow p true else s
  s.modPhase p fun a => { a with outH := h, outL := l }

/-- Both outputs of a phase low at once, and the phase no longer switching. -/
def State.phaseLow (s : State) (p : PhaseId) : State :=
  (s.putOutputs p false false).modPhase p fun a =>
    { a with reference := false, switching := false, stopDue := false }

/-- The hardware PWM hold: every output low at once (R35, R100). -/
def State.pwmHold (s : State) : State :=
  let s := phaseIds.foldl State.phaseLow s
  railIds.foldl State.settleStop s

/-! ### Relays and the safe-off path -/

/-- 2600:1A from the relay outputs. -/
def State.relayWord (s : State) : State :=
  s.putObj 0x2600 0x1A ((List.finRange 4).foldl (fun v (i : Fin 4) =>
    if s.meridian.relays[i].energised then v + 2 ^ i.val else v) 0 : Nat)

/-- A relay output driven. While learning is enabled the operation is measured (R185). A command or an entry may energise
a relay that the safe-off path has released, while the path still acts (R186; DESIGN CHOICE, log 130). -/
def State.driveRelay (s : State) (i : Fin 4) (closed : Bool) : State :=
  let learning := s.fastBit 0x2600 (0x16 + i.val) 0
  let a := s.meridian.relays[i]
  let a := { a with energised := closed,
                    measuring := if learning && a.energised != closed then some closed else a.measuring }
  (s.setMeridian { s.meridian with relays := s.meridian.relays.set i a }).relayWord

/-- Every relay whose flag bit [1] is set is released, with no compensation (R186). -/
def State.safeRelays (s : State) : State :=
  (List.finRange 4).foldl (fun s i => if s.fastBit 0x2600 (0x16 + i.val) 1 then s.driveRelay i false else s) s

/-- A set of interrupt flags of 2320:01 (R473): 0 EVENT, 1 TRIGGER, 2 RESPONSE, 3 SAFE. -/
def State.interrupt (s : State) (n : Nat) : State := s.putBit 0x2320 1 n true

/-- The safe-off path acts: SAFEOFF_N and the masked phases low, flagged relays released (R475). -/
def State.safePath (s : State) : State :=
  let s := if s.safety.path then s else (s.bump 0x2330 7).interrupt 3
  let s := (s.setSafety { s.safety with path := true, permit := false })
  let s := (maskList 12 (s.nat 0x2330 3)).foldl (fun s p =>
    if h : p < 12 then s.putOutputs ⟨p, h⟩ false false else s) s
  s.safeRelays

/-! ### Leaving the ring -/

/-- A joined port begins to leave (R396), for the reason of TR_LEFT; a port that has not joined closes its
bypass at once. A port that is blocked stays so until reset (R376, R377). -/
def State.leaveRing (s : State) (reason : Nat) : State :=
  if s.ring.joined then
    (s.setRing { s.ring with leaving := some (s.ring.leaving.getD reason), rejoin := false }).putObj 0x2400 2 7
  else if s.obj 0x2400 2 == 6 || s.obj 0x2400 2 == 0 then s
  else
    (s.setRing { s.ring with bypassClosed := true, good := 0, rejoin := false }).putObj 0x2400 2
      (if s.obj 0x2400 1 == 1 then 1 else 0)

/-! ### The event fabric -/

/-- The entry of the response table for an event (R462). -/
def State.responseEntry (s : State) (e : Nat) : Nat := s.nat (0x2310 + e / 128) (e % 128 + 1)

/-- The uncleared entry of an event, if any. -/
def State.uncleared (s : State) (e : Nat) : Option Uncleared := s.fabric.uncleared.find? (·.ev == e)

/-- The response a raising carries (R462). -/
def State.responseOf (s : State) (e : Nat) : Nat :=
  match s.uncleared e with
  | some u => u.resp
  | none => s.responseEntry e % 16

/-- The rails an event targets (R464). -/
def State.targets (s : State) (e : Nat) : List RailId :=
  if e < 0xC0 then
    if h : e / 16 < 12 then (s.railOf ⟨e / 16, h⟩).toList else []
  else if e < 0x160 then
    if h : (e - 0xC0) / 32 < 5 then [⟨(e - 0xC0) / 32, h⟩] else []
  else if e < 0x1A0 then
    let r := s.obj (0x3810 + (e - 0x160) / 4) 1
    railIds.filter fun q => r == q.val
  else railIds

/-- The active response of a rail, 2300:05–09. -/
def State.railResponse (s : State) (r : RailId) : Nat := s.nat 0x2300 (5 + r.val)

/-- The device's active response, 2300:01. -/
def State.deviceResponse (s : State) : Nat := s.nat 0x2300 1

/-- The rails a response raises: an OUTLINE or SAFE_OFF response raises every rail (R465). -/
def State.raisedRails (s : State) (e resp : Nat) : List RailId := if 6 ≤ resp then railIds else s.targets e

/-- Whether a raising is secondary (R467). -/
def State.isSecondary (s : State) (e resp : Nat) : Bool :=
  match s.raisedRails e resp with
  | [] => resp ≤ s.deviceResponse && 3 ≤ s.deviceResponse
  | ts => ts.all fun r => resp ≤ s.railResponse r && 3 ≤ s.railResponse r

/-- Active responses rise at once (R465), and a change sets the RESPONSE flag (R473). -/
def State.riseResponses (s : State) (e resp : Nat) : State :=
  let s := (s.raisedRails e resp).foldl (fun s r =>
    if s.railResponse r < resp then (s.putObj 0x2300 (5 + r.val) resp).interrupt 2 else s) s
  if s.deviceResponse < resp then (s.putObj 0x2300 1 resp).interrupt 2 else s

/-- A raising or END record offered to the pending FIFO, or marked in the overflow map (R461). -/
def State.enqueue (s : State) (o : Occurrence) : State :=
  if s.fabric.fifo.length < 64 then
    let s := (s.setFabric { s.fabric with fifo := s.fabric.fifo ++ [o] })
    let n := s.fabric.fifo.length
    let s := s.putObj 0x2320 3 n
    if s.obj 0x2320 4 < n then s.putObj 0x2320 4 n else s
  else
    let f := s.fabric
    let f := if f.overflow.contains o.ev then f
             else { f with overflow := (f.overflow.filter (· < o.ev)) ++ [o.ev] ++ (f.overflow.filter (o.ev < ·)) }
    (s.setFabric f).bump 0x2320 5

/-- The EMCY code of a raising: the catalogue's, and for DV_AUX_HI and DV_AUX_LO that of the mode its result
was converted under (R508). -/
def State.emcyCode (s : State) (e : Nat) : Nat :=
  match eventInfo e with
  | none => 0
  | some i =>
    if 0x220 ≤ e ∧ e < 0x230 then
      if s.aux[(⟨(e - 0x220) % 8, by omega⟩ : AuxId)].mode = 1 then i.emcy - 0x1000 else i.emcy
    else i.emcy

/-- A raising without its response action: the source becomes uncleared, the active responses rise, and the
raising enters the FIFO. A raising with response NONE is counted only (R463). A source already STANDING is not
raised again. A reserved number and a trigger-class event are never raised here (R497, R33). -/
def State.raiseCore (s : State) (e data : Nat) (restored : Bool := false) : State :=
  match eventInfo e with
  | none => s
  | some i =>
    if i.kind = .trigger then s
    else
      let resp := s.responseOf e
      let again := i.kind = .standing ∧ (s.fabric.uncleared.any fun u => u.ev == e && u.standing) = true
      if again then s
      else
        let s := s.putObj 0x2320 0x0D e
        let s := if 2 ≤ resp || (s.responseEntry e).testBit 4 then s.interrupt 0 else s
        if resp = 0 then s.bump 0x2320 (6 + i.sev)
        else
          let sec := s.isSecondary e resp
          let u : Uncleared := ⟨e, i.kind == .standing, resp, sec, s.emcyCode e⟩
          let s := (s.setFabric { s.fabric with
            uncleared := (s.fabric.uncleared.filter fun (w : Uncleared) => w.ev != e) ++ [u] })
          let s := s.putObj 0x2300 0x0E s.fabric.uncleared.length
          let s := s.riseResponses e resp
          s.enqueue ⟨e, resp, data, s.recordTime, s.rtc.valid, s.life.up, sec, false, restored, s.emcyCode e⟩

/-! ### Outline mode -/

/-- The newest valid Outline block (R489, R129). -/
def State.outlineSet (s : State) : Option OutlineSet :=
  match s.flash.outline[0], s.flash.outline[1] with
  | some a, some b => if a.seq < b.seq then some b else some a
  | some a, none => some a
  | none, b => b

/-- A value of the active Outline set; 0 without one. -/
def State.outlineValue (s : State) (ix sub : Nat) : Int :=
  match s.outlineSet with
  | some o => (cellGet o.values (objKey ix sub)).getD 0
  | none => 0

/-- The lowest-numbered STORE rail (R489). -/
def State.storeRail (s : State) : Option RailId := railIds.find? fun r => s.railType r == 2

/-- The Outline controller may drive outputs: VIN valid and VPWM at 2.7 V or more (R486). -/
def State.outlineSupply (s : State) : Bool := s.supply.vin && s.supply.vpwm

/-- What the Outline controller drives in Outline mode (R485): drive rail D, and the storage rail under
BUS_SUPPORT, given a valid set. -/
def State.outlineDrives (s : State) : Bool × Bool :=
  (s.outlineSet.isSome && s.driveConfigured,
   s.outlineSet.isSome && s.outlineValue 0x2340 7 == 1 && s.storeRail.isSome)

/-- The sector the Outline controller reads through its copied map (R359); none while the code is illegal. -/
def State.outlineSector (s : State) : Option Nat :=
  let n := bits (s.outlineValue 0x2620 1).toNat (3 * s.drive.hall + 2) (3 * s.drive.hall)
  if n < 6 then some n else none

/-- The copied mask entry of the present sector, in the direction of the set (R359); every output off at an illegal
code (R360). -/
def State.outlineEntry (s : State) : Nat :=
  match s.outlineSector with
  | none => 0
  | some n =>
    let k := bits (s.outlineValue 0x4110 (if s.outlineValue 0x2340 4 = 1 then 0x0A else 9)).toNat (3 * n + 2) (3 * n)
    (s.outlineValue 0x4110 (1 + k)).toNat

/-- The Outline controller drives drive rail D, in Outline mode or started in Survey. -/
def State.outlineTurns (s : State) : Bool := if s.outline.active then s.outline.drive else s.outline.startedDrive

/-- The Outline controller drives the copied storage rail, in Outline mode or started in Survey. -/
def State.outlineStores (s : State) : Bool := if s.outline.active then s.outline.store else s.outline.startedStore

/-- The Outline controller drives the phases of a rail now, in Outline mode or before full service. -/
def State.outlineDriven (s : State) (r : RailId) : Bool :=
  (r == railD && s.outlineTurns) || (some r == s.storeRail && s.outlineStores)

/-- The phases of the storage rail as the Outline set has them. -/
def State.outlineStoreMask (s : State) : Nat := match s.outlineSet with | some o => o.storeMask | none => 0

/-- The Outline controller drives the phase. -/
def State.outlineDrivenPhase (s : State) (p : PhaseId) : Bool :=
  (Nat.ble 9 p.val && s.outlineTurns) || (s.outlineStores && s.outlineStoreMask.testBit p.val)

/-! ### Outputs -/

/-- The hardware hold of the phase's outputs: STANDBY and below, before full service, VPWM below 2.7 V, or the
safe-off path (R35, R95, R100, R475). -/
def State.phaseHeld (s : State) (p : PhaseId) : Bool :=
  (!s.outlineDrivenPhase p && (!s.idleContent || !s.fullService)) || !s.supply.vpwm
    || (s.safety.path && (s.nat 0x2330 3).testBit p.val)

/-- The levels a mask state gives: 0 OFF, 1 PWM, 2 LOW_ON (R260), short of cycle limiting (R253). -/
def Phase.maskLevels (a : Phase) (m : Nat) : Bool × Bool :=
  if m = 0 ∨ a.limitNeg = true then (false, false)
  else if m = 2 then (false, true)
  else (a.reference, !a.reference)

/-- The levels of PWMH and PWML, by the precedence of R34: holds, trips, the Outline controller, force, and the
reference with the mask sequencer. A level stands for the one after its dead time (R239). A phase of no rail is low
(R26), and the comparators limit a force too (R253, R258). -/
def State.levels (s : State) (p : PhaseId) : Bool × Bool :=
  let a := s.phases[p]
  if s.phaseHeld p || ((s.railOf p).isNone && !s.outlineDrivenPhase p) then (false, false)
  else if a.tripped then (false, s.fast (phaseIx p 0) 5 == 1)
  else match a.outlined with
    | some m => if s.outlineDrivenPhase p && s.outlineSupply then a.maskLevels m else (false, false)
    | none =>
      if a.force = 1 then (false, false)
      else if a.force = 2 then (!a.limitPos, false)
      else if a.force = 3 then (false, !a.limitNeg)
      else if !a.switching then (false, false)
      else a.maskLevels a.mask

/-- The reference shapes the outputs: no hold, trip, force or mask state stands above it. -/
def State.regulated (s : State) (p : PhaseId) : Bool :=
  let a := s.phases[p]
  !s.phaseHeld p && !a.tripped && a.outlined.isNone && a.force == 0 && a.switching && a.mask == 1

/-- The phase's outputs at their levels. An edge of the reference at which one output turns off and the other on opens
the measurement window of the edge, where a node input is selected (R241, R242). -/
def State.drivePhase (s : State) (p : PhaseId) : State :=
  let a := s.phases[p]
  let l := s.levels p
  let opens := s.regulated p && s.fast (phaseIx p 6) 1 != 0
  let s := s.putOutputs p l.1 l.2
  if opens && a.outL && !a.outH && l.1 then s.modPhase p fun a => { a with windowR := true }
  else if opens && a.outH && !a.outL && l.2 then s.modPhase p fun a => { a with windowF := true }
  else s

/-- The phase has update points: its counter runs, on the PLL's clock. -/
def State.hasUpdates (s : State) (p : PhaseId) : Bool := s.phases[p].counting && s.clocks.pll

/-- The Outline controller's hold of a phase as it should stand: what it wants of a phase it drives; low elsewhere in
Outline mode (R265). -/
def State.outlineDue (s : State) (p : PhaseId) : Option Nat :=
  if s.outlineDrivenPhase p then some s.phases[p].outlineWant else if s.outline.active then some 0 else none

/-- The Outline controller's hold taken, at ZERO or with no update point to wait for (R34): a pulse begins with its high
side. -/
def State.takeOutline (s : State) (p : PhaseId) : State :=
  let due := s.outlineDue p
  s.modPhase p fun a =>
    { a with outlined := due, reference := if due.isSome then due == some 1 else a.reference && a.outlined.isNone }

/-- The Outline controller's hold of a phase without update points is taken at once. -/
def State.settleOutline (s : State) (p : PhaseId) : State :=
  if s.hasUpdates p then s else (s.takeOutline p).drivePhase p

/-- What the Outline controller wants of a phase; duty 0 is the low side on throughout. -/
def State.outlinePhase (s : State) (p : PhaseId) (state : Nat) (duty : Int) : State :=
  (s.modPhase p fun a => { a with outlineWant := if state = 1 ∧ duty ≤ 0 then 2 else state }).settleOutline p

/-- The Outline controller's hold of every phase, after it began or ended. -/
def State.settleOutlines (s : State) : State := phaseIds.foldl State.settleOutline s

/-- The outputs of phases 9–11 under the Outline controller (R359, R360). -/
def State.driveOutline (s : State) : State :=
  if s.outlineTurns then
    [(9 : PhaseId), 10, 11].foldl (fun (s : State) (p : PhaseId) =>
      let m := bits s.outlineEntry (2 * (p.val - 9) + 1) (2 * (p.val - 9))
      s.outlinePhase p (if s.outline.coasting then 0 else m) (s.outlineValue 0x2340 3)) s
  else s

/-- The phases of the copied storage rail under BUS_SUPPORT (R487). -/
def State.driveStore (s : State) : State :=
  if s.outlineStores then
    (maskList 12 s.outlineStoreMask).foldl (fun (s : State) (p : Nat) =>
      s.outlinePhase (Fin.ofNat 12 p) (if s.outline.supporting then 1 else 0) (s.outlineValue 0x2340 0x0B)) s
  else s

/-- The Outline controller takes the drive over: at the fixed duty at once after a transition within 100 ms, else
ramping over 500 ms (R359). -/
def State.startTurning (s : State) : State :=
  let recent := match s.drive.lastAt with | some t => decide (s.life.up ≤ t + 100) | none => false
  (s.setOutline { s.outline with coasting := false, rampFrom := if recent then none else some s.life.up })
    |>.driveOutline |>.driveStore |>.settleOutlines

/-- Outline mode is entered for a cause (R484), with the content of R485. A further cause only sets its bit. -/
def State.enterOutline (s : State) (cause : Nat) : State :=
  let s := s.putBit 0x2300 0x0C (cause - 1) true
  if s.outline.active then s
  else
    let d := s.outlineDrives
    let s := (s.setOutline { s.outline with
      active := true, since := s.life.up, drive := d.1, store := d.2, supporting := false, startedDrive := false,
      startedStore := false })
    let s := s.putObj 0x2300 0x0D cause
    let s := railIds.foldl (fun s r =>
      let ran := s.stoppable r || s.rails[r].stop != .none
      let soft := r = railD || (some r == s.storeRail && d.2)
      let s := s.hardStop r 8
      let s := if ran then s.putRailObj r 0x40 6 8 else s
      s.putRailObj r 0x00 3 (if soft then 0 else 2)) s
    let s := if s.obj 0x3800 1 == 1 then s.putObj 0x3800 1 0 else s
    let s := (s.leaveRing 2).startTurning
    s.raiseCore dvOutlineEnter (evData [evU 1 cause, evU 1 (natOf s.outlineSet.isSome : Int)])

/-! ### Raising -/

/-- The action of a response on the rails where it is more restrictive than the active response it met (R463,
R466). -/
def State.respond (s : State) (e resp : Nat) (acts : List RailId) : State :=
  match resp with
  | 4 => acts.foldl (fun s r =>
      if s.stoppable r then
        ((s.softStop r 5).putRailObj r 0x00 3 0).modRail r fun a => { a with responseOff := true }
      else s) s
  | 5 => acts.foldl (fun s r =>
      if s.stoppable r || s.rails[r].stop != .none then
        ((s.hardStop r (if e = dvVinLost then 0x0A else 6)).putRailObj r 0x00 3 2).modRail r fun a =>
          { a with responseOff := true }
      else s) s
  | 6 => s.enterOutline 6
  | 7 => (s.enterOutline 7).safePath
  | _ => s

/-- A raising: what `raiseCore` does, and its response action at once (R460). -/
def State.raise (s : State) (e data : Nat) : State :=
  let resp := s.responseOf e
  let acts := (s.targets e).filter fun r => s.railResponse r < resp
  let primary := !s.isSecondary e resp
  let t := s.raiseCore e data
  if primary && t.fabric.uncleared.any (·.ev == e) then t.respond e resp acts else t

/-- A raising put among others of its core clock: the most restrictive response first, then the lowest event number. -/
def rankRaising (resp : Nat → Nat) (x : Nat × Nat) (l : List (Nat × Nat)) : List (Nat × Nat) :=
  match l with
  | [] => [x]
  | y :: rest =>
    if resp y.1 < resp x.1 ∨ (resp y.1 = resp x.1 ∧ x.1 ≤ y.1) then x :: y :: rest
    else y :: rankRaising resp x rest

/-- The raisings of one core clock, as events and their data: the most restrictive of them, and among equals the lowest
event number, comes first and is primary (R468). -/
def State.raiseAll (s : State) (l : List (Nat × Nat)) : State :=
  (l.foldl (fun acc x => rankRaising s.responseOf x acc) []).foldl (fun s x => s.raise x.1 x.2) s

/-- The recorder takes its next sequence number (R515); none at 0xFFFFFFFE. -/
def State.nextSeq (s : State) : Option Nat :=
  if s.recorder.seq < 0xFFFFFFFE then some (s.recorder.seq + 1) else none

/-- The severity of an event (R15). -/
def severityOf (e : Nat) : Nat := match eventInfo e with | some i => i.sev | none => 0

/-- RESP_SEV, the encoding of EMCY byte 5 (R75, R511). -/
def respSev (resp sev : Nat) : Nat := resp * 16 + sev

/-- The fabric's record of a raising or of an end, as the recorder takes it: flags of R511. -/
def recordFlags (valid secondary overflow direct end_ restored : Bool) : Nat :=
  natOf valid + 2 * natOf secondary + 4 * natOf overflow + 8 * natOf direct + 16 * natOf end_ + 32 * natOf restored

end Sys2Proof.Machine
end

