-- ==== Sys2Proof/Machine/Recorder.lean ====
section
/-! DEFINITION. What the supervisor does with a raising: EMCY (R74–R76), and the recorder (chapter 16) with its
staging, its internal and external log, and the event stream (R559). -/

namespace Sys2Proof.Machine

/-! ### EMCY -/

/-- The category bit an EMCY code sets in 1001 (R499). -/
def emcyCategory (c : Nat) : Nat :=
  if c / 0x1000 = 2 then 2 else if c / 0x1000 = 3 then 4 else if c / 0x1000 = 4 then 8
  else if 0x8100 ≤ c ∧ c ≤ 0x82FF then 16 else 0

/-- The error register 1001 (R76). -/
def State.errorRegister (s : State) : Nat :=
  let hot := s.fabric.uncleared.filter fun (u : Uncleared) => Nat.ble 2 u.resp
  let word := hot.foldl (fun (v : Nat) (u : Uncleared) => v ||| 1 ||| emcyCategory u.emcy) 0
  if s.outline.active || s.safety.path then word ||| 0x80 else word

/-- The port may send: a node-ID (R51), not bus-off (R61), and the port enabled (R491). -/
def State.portSends (s : State) : Bool :=
  s.nodeId.isSome && !s.can.busOff && s.can.nmt != .initialising && s.funcState 8 == 0

/-- Whether the device may begin a frame now: the port may send, and no reset cause is pending (R87). -/
def State.canSends (s : State) : Bool := s.portSends && s.life.resetKind.isNone

/-- Whether a frame of the transmit queue is an EMCY frame. -/
def TxFrame.isEmcy (f : TxFrame) : Bool := match f with | .emcy _ => true | _ => false

/-- The oldest held EMCY frame joins the transmit queue, unless the inhibit time or another EMCY frame holds it
(R74); one queued before a reset cause is still sent (R87). -/
def State.pumpEmcy (s : State) : State :=
  if s.can.emcyInhibited || !s.portSends || s.can.nmt == .stopped || s.can.tx.any TxFrame.isEmcy then s
  else
    match s.can.emcyHeld with
    | [] => s
    | f :: rest => (s.setCan { s.can with emcyHeld := rest, tx := s.can.tx ++ [.emcy f] })

/-- An EMCY frame queued; beyond 16 held frames the oldest is dropped and counted (R74). In NMT Stopped it is
neither sent nor queued, and after a reset cause none is queued (R87). -/
def State.queueEmcy (s : State) (f : List Byte) : State :=
  if s.can.nmt == .stopped || s.life.resetKind.isSome then s
  else
    let s := ((s.setCan { s.can with emcyHeld := s.can.emcyHeld ++ [f] }) : State).pumpEmcy
    if 16 < s.can.emcyHeld.length then
      ((s.setCan { s.can with emcyHeld := s.can.emcyHeld.drop 1 }) : State).bump 0x5F00 3
    else s

/-- A code enters the pre-defined error field 1003 (R76). -/
def State.pushHistory (s : State) (v : Nat) : State :=
  let s := [7, 6, 5, 4, 3, 2, 1].foldl (fun (s : State) i => s.putObj 0x1003 (i + 1) (s.obj 0x1003 i)) s
  let s := s.putObj 0x1003 1 v
  if s.obj 0x1003 0 < 8 then s.putObj 0x1003 0 (s.obj 0x1003 0 + 1) else s

/-- The EMCY frame of a raising (R75). -/
def State.emcyFrame (s : State) (o : Occurrence) (seq : Nat) : List Byte :=
  leBytes 2 o.emcy ++ leBytes 1 s.errorRegister ++ leBytes 2 o.ev ++ leBytes 1 (respSev o.resp (severityOf o.ev))
    ++ leBytes 2 seq

/-- The EMCY of R76 when the device's active response falls to NONE. -/
def State.emcyReset (s : State) : State := s.queueEmcy (List.replicate 8 0)

/-! ### GSP frames -/

/-- A GSP frame, encoded (R547). -/
def gspFrame (seq type ix sub : Nat) (payload : List Byte) : List Byte :=
  let body := 1 :: leBytes 2 seq ++ leBytes 1 type ++ leBytes 2 ix ++ leBytes 1 sub ++ leBytes 2 payload.length
    ++ payload
  cobsEncode (body ++ leBytes 2 (crc16 body))

/-! ### Records -/

/-- Bytes 0–23 of a record (R511). -/
def Record.body (r : Record) : List Byte :=
  leBytes 4 r.seq ++ leBytes 6 r.time ++ leBytes 2 r.ev ++ leBytes 1 r.respSev ++ leBytes 1 r.flags
    ++ leBytes 1 r.reps ++ leBytes 1 r.aux ++ leBytes 8 r.data

/-- The 32 bytes of a record (R511). -/
def Record.bytes (r : Record) : List Byte :=
  r.body ++ leBytes 4 (crc32 r.body) ++ leBytes 4 (0xFFFFFFFF - r.seq)

/-- The record a slot holds, if one exists in it (R512). -/
def LogSlot.record? (x : LogSlot) : Option Record := match x with | .record r => some r | .spoilt _ => none

/-- The records that exist in a log, in ascending order of SEQ. -/
def logRecords (l : List (Nat × LogSlot)) : List Record :=
  (l.foldl (fun (acc : List (Nat × Record)) (c : Nat × LogSlot) =>
    match c.2.record? with | some r => cellPut acc r.seq r | none => acc) []).map (·.2)

/-- Lowest and highest SEQ of a log; 0 where it is empty. -/
def logRange (l : List (Nat × LogSlot)) : Nat × Nat :=
  let rs := logRecords l
  ((rs.head?.map (·.seq)).getD 0, (rs.getLast?.map (·.seq)).getD 0)

/-! ### The state of the recorder -/

/-- The recorder assigns sequence numbers and takes staging entries: it runs from the start of Survey and function
6 is enabled (R542). -/
def State.recording (s : State) : Bool := s.serving && s.funcState 6 == 0 && s.nextSeq.isSome

/-- Staging entries in use, reserved ones among them (5800:02). -/
def State.stagingUsed (s : State) : Nat :=
  s.recorder.staging.length + natOf s.recorder.writing.isSome + natOf s.recorder.hostErase.isSome

/-- Whether some other operation holds the data flash. Direct records and a forced flush suspend it (R517, R518). -/
def State.flashBusy (s : State) : Bool :=
  s.flash.store.isSome || s.flash.calOp.isSome || s.flash.outlineOp.isSome || s.flash.keyOp.isSome
    || s.flash.mapOp.isSome || s.energy.save.isSome || s.energy.erasing

/-- Record writes are suspended: a power-fail warning whose flush has ended (R121). A reset's flush engine goes on. -/
def State.writesHeld (s : State) : Bool := s.supply.pfw && !s.supply.flushing && s.life.resetKind.isNone

/-- A staging entry chosen for writing: the first direct one, then the first of a forced flush, else the first
eligible one if the flash is free (R517, R518). -/
def State.nextEntry (s : State) : Option Staged :=
  match s.recorder.staging.find? fun (e : Staged) => e.direct with
  | some e => some e
  | none =>
    match s.recorder.staging.find? fun (e : Staged) => e.forced with
    | some e => some e
    | none =>
      if s.flashBusy || s.supply.pfw then none else s.recorder.staging.find? fun (e : Staged) => e.eligible

/-- The next write begins where the flash and the log allow it (R517, R518, R525). -/
def State.startWrite (s : State) : State :=
  let r := s.recorder
  if r.writing.isSome || r.erasing || r.eraseSector.isSome || r.hostErase.isSome
      || (cellGet r.log r.pos).isSome || s.writesHeld then s
  else
    match s.nextEntry with
    | none => s
    | some e =>
      (s.setRecorder { r with writing := some (e, 0), interrupted := some r.pos,
                                    staging := r.staging.filter fun (x : Staged) => x.record.seq != e.record.seq })

/-- A log sector erase that is due begins: no power-fail warning, no read deferral (R525). -/
def State.startErase (s : State) : State :=
  let r := s.recorder
  if r.eraseSector.isSome && !r.erasing && !s.supply.pfw && r.readers.isEmpty && r.writing.isNone then
    (s.setRecorder { r with erasing := true })
  else s

/-- The retained drop counts as the data of RC_STAGING_OVERFLOW (R523). -/
def State.dropData (s : State) : Nat := evData (s.recorder.drops.toList.map fun (n : Nat) => evU 1 n)

/-- RC_STAGING_OVERFLOW, the drop counts then zero (R523). -/
def State.raiseOverflow (s : State) (restored : Bool) : State :=
  let d := s.dropData
  let s := (s.setRecorder { s.recorder with drops := Vector.replicate 6 0, overflowDue := false })
  s.raiseCore rcStagingOverflow d restored

/-- The overflow record once staging has fallen below 56 entries (R523). -/
def State.checkOverflow (s : State) : State :=
  if s.recorder.overflowDue && s.stagingUsed < 56 && s.funcState 6 == 0 then s.raiseOverflow false else s

/-- What follows a change of staging: high-water mark, overflow record, next write. -/
def State.stagingChanged (s : State) : State :=
  let s := if s.obj 0x5800 3 < s.stagingUsed then s.putObj 0x5800 3 s.stagingUsed else s
  s.checkOverflow.startWrite

/-- A dropped record counts by its severity (R522). -/
def State.dropRecord (s : State) (sev : Fin 6) : State :=
  let r := s.recorder
  ((s.setRecorder { r with drops := r.drops.set sev (r.drops[sev] + 1), overflowDue := true }) : State).bump
    0x5800 (5 + sev.val)

/-- The severity of a record as an index. -/
def Record.sev (r : Record) : Fin 6 := ⟨min (r.respSev % 16) 5, by omega⟩

/-- The newest staging entry of severity 0–1 (R522). -/
def newestMinor (l : List Staged) : Option Staged :=
  l.reverse.find? fun (e : Staged) => Nat.ble e.record.sev.val 1

/-- Admission to staging (R522). -/
def State.enterStaged (s : State) (e : Staged) : State :=
  let r := s.recorder
  let n := s.stagingUsed
  let sev := e.record.sev
  if n < 56 ∨ (4 ≤ sev.val ∧ n < 64) then
    ((s.setRecorder { r with staging := r.staging ++ [e] }) : State).stagingChanged
  else if 2 ≤ sev.val then
    match newestMinor r.staging with
    | some m =>
      (((s.setRecorder { r with
          staging := (r.staging.filter fun (x : Staged) => x.record.seq != m.record.seq) ++ [e] }) : State).dropRecord
        m.record.sev).stagingChanged
    | none => s.dropRecord sev
  else s.dropRecord sev

/-- The record of an occurrence under a SEQ. -/
def State.newRecord (_s : State) (o : Occurrence) (seq : Nat) : Record :=
  let sev := severityOf o.ev
  ⟨seq, o.time, o.ev, respSev o.resp sev,
    recordFlags o.timeValid o.secondary o.overflow (Nat.ble 4 sev) false o.restored, 1, 0, o.data⟩

/-- Whether an occurrence coalesces into a staging entry (R521). -/
def coalesces (o : Occurrence) (e : Staged) : Bool :=
  let sev := severityOf o.ev
  !e.direct && e.record.ev == o.ev && e.record.data == o.data && e.record.respSev == respSev o.resp sev
    && e.record.flags == recordFlags o.timeValid o.secondary o.overflow false false o.restored
    && Nat.ble o.up (e.firstAt + 10) && Nat.blt e.record.reps 255

/-- The staging entry with one occurrence more. -/
def Staged.again (e : Staged) (o : Occurrence) : Staged :=
  { e with record := { e.record with reps := e.record.reps + 1, aux := o.up - e.firstAt } }

/-- The recorder takes an occurrence: its SEQ where it is recorded on its own, `some none` where it coalesces
(R515, R521), `none` where nothing is recorded. -/
def State.takeRecord (s : State) (o : Occurrence) : State × Option (Option Nat) :=
  if !s.recording then (s, none)
  else
    match s.recorder.staging.find? (coalesces o) with
    | some e =>
      let l := s.recorder.staging.map fun (x : Staged) => if x.record.seq = e.record.seq then x.again o else x
      (((s.setRecorder { s.recorder with staging := l }) : State).bump 0x5800 0x0E, some none)
    | none =>
      let seq := s.recorder.seq + 1
      let s := (s.setRecorder { s.recorder with seq := seq })
      let direct := Nat.ble 4 (severityOf o.ev)
      (s.enterStaged ⟨s.newRecord o seq, o.up, direct, direct, false⟩, some (some seq))

/-- A number where a rule states none, by its place (log 10). -/
def State.unstated (s : State) (place : Nat) : Int := Config.unstated place s.freeCount

/-- What the supervisor does with an occurrence taken from the FIFO (R461). A raising that takes no sequence number, past
the last SEQ of R515 or while function 6 is STOPPING or DISABLED, has free EMCY bytes 6–7 (log 10). -/
def State.takeOccurrence (s : State) (o : Occurrence) : State :=
  let s := s.bump 0x2320 (6 + severityOf o.ev)
  let s := if o.secondary then s.bump 0x2320 0x0C else s
  let out := s.takeRecord o
  let s := out.1
  let taken := out.2
  if 2 ≤ o.resp then
    match taken with
    | some none => s
    | some (some seq) => (s.pushHistory (o.ev * 65536 + o.emcy)).queueEmcy (s.emcyFrame o (seq % 65536))
    | none =>
      let seq := ((s.unstated 1) % 65536).toNat
      ((s.pushHistory (o.ev * 65536 + o.emcy)).queueEmcy (s.emcyFrame o seq)).tick
  else s

/-- The supervisor takes the oldest FIFO entry (R461). -/
def State.processFifo (s : State) : State :=
  match s.fabric.fifo with
  | [] => s
  | o :: rest =>
    let s := (s.setFabric { s.fabric with fifo := rest }).putObj 0x2320 3 rest.length
    s.takeOccurrence o

/-- One marked source of the overflow map is queued as a single occurrence (R461). -/
def State.requeueOne (s : State) (e : Nat) : State :=
  let s := (s.setFabric { s.fabric with overflow := s.fabric.overflow.filter fun (x : Nat) => x != e })
  let resp := s.responseOf e
  if resp = 0 then s
  else
    s.enqueue ⟨e, resp, 0, s.recordTime, s.rtc.valid, s.life.up, false, true, false,
      match s.uncleared e with | some u => u.emcy | none => s.emcyCode e⟩

/-- The marked sources queued in ascending number as the FIFO has room (R461). -/
def State.requeue (s : State) : State :=
  s.fabric.overflow.foldl (fun (s : State) e => if s.fabric.fifo.length < 64 then s.requeueOne e else s) s

/-! ### The end of a standing condition -/

/-- A standing event's condition ends: it is LATCHED, and its END record is taken (R500, R513–R515). -/
def State.endWith (s : State) (e time data reps aux : Nat) : State :=
  match s.uncleared e with
  | none => s
  | some u =>
    if !u.standing then s
    else
      let s := (s.setFabric { s.fabric with
        uncleared := s.fabric.uncleared.map fun (w : Uncleared) =>
          if w.ev = e then { w with standing := false } else w })
      if s.recording then
        let seq := s.recorder.seq + 1
        let sev := severityOf e
        let direct := Nat.ble 4 sev
        let s := (s.setRecorder { s.recorder with seq := seq })
        s.enterStaged ⟨⟨seq, time, e, respSev u.resp sev,
          recordFlags s.rtc.valid u.secondary false direct true false, reps, aux, data⟩, s.life.up, direct, direct, false⟩
      else s

/-- `endWith` for every event but the supply-quality ones. -/
def State.endEvent (s : State) (e : Nat) (data : Nat := 0) : State := s.endWith e s.recordTime data 1 0

/-- Whether an event is STANDING. -/
def State.standing (s : State) (e : Nat) : Bool :=
  s.fabric.uncleared.any fun (u : Uncleared) => u.ev == e && u.standing

/-! ### Writing and erasing -/

/-- The EVENT frame of a completed record (R559, R560). -/
def State.streamRecord (s : State) (r : Record) : State :=
  if s.nat 0x2510 5 ≤ r.sev.val then
    if s.gsp.events.length < 16 then
      (s.setGsp { s.gsp with events := s.gsp.events ++ [gspFrame 0 0xC0 0 0 r.bytes] })
    else s.bump 0x2510 0x0B
  else s

/-- The external log waits for a record completed in the internal log (R536). -/
def State.queueExternal (s : State) (r : Record) : State :=
  if s.obj 0x5830 2 == 1 then
    (s.setRecorder { s.recorder with extWaiting := s.recorder.extWaiting ++ [r] })
  else s

/-- The write position moves on; past the last slot of a sector the next sector is due for erase (R524). -/
def State.advance (s : State) : State :=
  let r := s.recorder
  let p := (r.pos + 1) % 3072
  if p % 128 = 0 then
    (s.setRecorder { r with pos := p, eraseSector := some (p / 128), wrapped := r.wrapped || p == 0 })
  else (s.setRecorder { r with pos := p })

/-- The slot at the write position holds a record, and the position moves on. -/
def State.slotWritten (s : State) (rec : Record) : State :=
  let r := s.recorder
  (s.setRecorder { r with log := cellPut r.log r.pos (.record rec), writing := none, interrupted := none }).advance

/-- A record exists in the internal log (R520). -/
def State.recordWritten (s : State) (rec : Record) : State :=
  ((((s.slotWritten rec).bump 0x5800 0x0B).streamRecord rec).queueExternal rec).startErase.stagingChanged

/-- A granule of the record under way is programmed (R520). -/
def State.granuleDone (s : State) : State :=
  match s.recorder.writing with
  | none => s.startWrite
  | some (e, g) =>
    if g < 3 then (s.setRecorder { s.recorder with writing := some (e, g + 1) })
    else s.recordWritten e.record

/-- The slots of a sector erased. -/
def eraseSlots (l : List (Nat × LogSlot)) (sector : Nat) : List (Nat × LogSlot) :=
  l.filter fun (c : Nat × LogSlot) => c.1 / 128 != sector

/-- A log sector erase ends (R524). -/
def State.sectorErased (s : State) : State :=
  let r := s.recorder
  if r.erasing then
    match r.eraseSector with
    | none => s
    | some k =>
      let log := eraseSlots r.log k
      let s := (s.setRecorder { r with log := log, erasing := false, eraseSector := none, pos := k * 128 })
      let s := s.bump 0x5800 0x10
      (s.raise rcLogSectorErased (evData [evU 4 (logRange log).1])).startWrite
  else s

/-- Every staging entry becomes eligible, and writing begins (R518). -/
def State.forceFlush (s : State) : State :=
  ((s.setRecorder { s.recorder with
    staging := s.recorder.staging.map fun (e : Staged) => { e with eligible := true, forced := true } }) :
      State).startWrite

/-- The flush carried through within one command: granules and sector erases until staging is empty. -/
def State.flushNow (n : Nat) (s : State) : State :=
  match n with
  | 0 => s
  | m + 1 =>
    if s.recorder.writing.isSome then State.flushNow m s.granuleDone
    else if s.recorder.erasing then State.flushNow m s.sectorErased
    else s

/-- The writes of a flush carried through, as far as the log has erased slots: no sector erase falls within it. -/
def State.flushWrites (n : Nat) (s : State) : State :=
  match n with
  | 0 => s
  | m + 1 => if s.recorder.writing.isSome then State.flushWrites m s.granuleDone else s

/-- The reset cuts the flush off (R139): the granule under way is completed, and the record it leaves unfinished reads
as R527 lays down, that granule as new data. -/
def State.cutFlush (s : State) : State :=
  match s.recorder.writing with
  | none => s
  | some (e, g) =>
    if g = 3 then s.slotWritten e.record
    else
      (s.setRecorder { s.recorder with log := cellPut s.recorder.log s.recorder.pos (.spoilt none), writing := none })

/-- The number of granules of a full flush, with the erases it may meet. -/
def flushBudget : Nat := 270

/-! ### The write position at bring-up -/

/-- Whether a slot qualifies as a write position: erased and not named as interrupted (R526). -/
def slotFree (log : List (Nat × LogSlot)) (named : Option Nat) (p : Nat) : Bool :=
  (cellGet log p).isNone && named != some p

/-- The first of `n` slots from `p` on, in the circular order of `size` slots, that qualifies. -/
def findSlot (log : List (Nat × LogSlot)) (named : Option Nat) (size n p : Nat) : Option Nat :=
  match n with
  | 0 => none
  | m + 1 => if slotFree log named p then some p else findSlot log named size m ((p + 1) % size)

/-- The slot of the newest record, if any. -/
def newestSlot (log : List (Nat × LogSlot)) : Option (Nat × Nat) :=
  log.foldl (fun (best : Option (Nat × Nat)) (c : Nat × LogSlot) =>
    match c.2.record? with
    | none => best
    | some r =>
      match best with
      | some b => if b.2 < r.seq then some (c.1, r.seq) else best
      | none => some (c.1, r.seq)) none

/-- Steps 2 to 6 of R526 over a log of `size` slots: the write position where a slot qualifies, and the sector to erase. -/
def writePosition (log : List (Nat × LogSlot)) (named : Option Nat) (size : Nat) : Option Nat × Option Nat :=
  let start := match newestSlot log with | some (p, _) => (p + 1) % size | none => 0
  match findSlot log named size size start with
  | some p =>
    if ((List.range (128 - p % 128)).map (p + ·)).all (slotFree log named) then (some p, none)
    else (some p, some ((p / 128 + 1) % (size / 128)))
  | none => (none, some (match newestSlot log with | some (p, _) => (p / 128 + 1) % (size / 128) | none => 0))

/-- The recorder rebuilds its write position (R526). -/
def State.rebuildLog (s : State) : State :=
  let r := s.recorder
  let log := match r.eraseSector with | some k => eraseSlots r.log k | none => r.log
  let at' : Option Nat × Option Nat :=
    match r.eraseSector with | some k => (none, some k) | none => writePosition log r.interrupted 3072
  s.setRecorder { r with
    log := log, erasing := false, writing := none, interrupted := none, eraseSector := at'.2
    pos := at'.1.getD (at'.2.getD 0 * 128) }

/-- What an interrupted record write leaves in its slot (R527); the granule under way reads one of three ways
(log 9). -/
def State.spoilWrite (s : State) : State :=
  match s.recorder.writing with
  | none => s
  | some (e, g) =>
    let r := s.recorder
    let how := Config.interruptedGranule s.freeCount
    let log :=
      if g = 3 && how == 1 then cellPut r.log r.pos (.record e.record)
      else if g = 0 && how == 0 then r.log
      else cellPut r.log r.pos (.spoilt (if 2 ≤ how.toNat then some g else none))
    ((s.setRecorder { r with log := log, writing := none }) : State).tick

/-! ### Reading the log -/

/-- The records a reader at a cursor is served from: the external log below the internal one (R533). -/
def State.readerRecords (s : State) (cursor : Nat) : List Record :=
  if s.obj 0x5830 2 == 1 && Nat.blt cursor (logRange s.recorder.log).1 then logRecords s.recorder.extLog
  else logRecords s.recorder.log

/-- 5810:06 (R529). -/
def State.recordsFrom (s : State) (cursor : Nat) : List Byte :=
  (((s.readerRecords cursor).filter fun (r : Record) => Nat.ble cursor r.seq).take 16).flatMap Record.bytes

/-- 5810:08 (R530). -/
def State.recordAt (s : State) (cursor : Nat) : List Byte :=
  match (s.readerRecords cursor).find? fun (r : Record) => r.seq == cursor with
  | some r => r.bytes
  | none => []

/-- 5810:05 (R531). -/
def State.snapshot (s : State) : List Byte :=
  let rs := logRecords s.recorder.log
  let lh := logRange s.recorder.log
  let below := s.obj 0x5830 2 == 1 && (logRecords s.recorder.extLog).any fun (r : Record) => Nat.blt r.seq lh.1
  leBytes 4 lh.1 ++ leBytes 4 lh.2 ++ leBytes 4 rs.length
    ++ leBytes 4 (natOf s.recorder.wrapped + 2 * natOf below) ++ rs.flatMap Record.bytes

/-- A log read of a channel opens: sector erases wait for it (R532). -/
def State.startRead (s : State) (ch : Channel) : State :=
  (s.setRecorder { s.recorder with readers := s.recorder.readers.erase ch ++ [ch] })

/-- A log read has ended: a deferred sector erase proceeds once none is open (R532). -/
def State.endDeferral (s : State) (ch : Channel) : State :=
  ((s.setRecorder { s.recorder with readers := s.recorder.readers.erase ch }) : State).startErase

/-! ### External log memory -/

/-- The number of external slots (5830:04). -/
def State.extSlots (s : State) : Nat := s.nat 0x5830 4 / 32

/-- The external write position moves on; a new sector of 4 KB is erased (R536). -/
def State.extAdvance (s : State) : State :=
  let r := s.recorder
  let n := s.extSlots
  let p := if n = 0 then 0 else (r.extPos + 1) % n
  if p % 128 = 0 then
    ((s.setRecorder { r with extPos := p, extErasing := true }) : State).bumpBy 0x2520 1 2
  else (s.setRecorder { r with extPos := p })

/-- The external write position rebuilt by the rules of R526 (R537); a sector erase takes two commands (R535). -/
def State.rebuildExt (s : State) : State :=
  match writePosition s.recorder.extLog none s.extSlots with
  | (some p, none) => s.setRecorder { s.recorder with extPos := p }
  | (_, k) => (s.setRecorder { s.recorder with extPos := k.getD 0 * 128, extErasing := true }).bumpBy 0x2520 1 2

end Sys2Proof.Machine
end

