-- ==== Sys2Proof/Machine/Sense.lean ====
section
/-! DEFINITION. The sensing front ends (chapter 06): phase-current conversions, over-current thresholds, remote
voltage sense and the auxiliary converter. -/

namespace Sys2Proof.Machine

/-! ### Which paths run (R223) -/

/-- The phase-current converter and the comparators of a phase run (R223); a phase of no rail that the Outline controller
does not drive is not converted (R198). -/
def State.phaseSensed (s : State) (p : PhaseId) : Bool :=
  let on := match s.railOf p with | some r => s.onOrStopping r | none => false
  s.serving && (s.outlineDrivenPhase p || (!s.outline.active && s.power == 4 && on))

/-- The reference DAC and error ADC of a rail run (R223); the voltage sense of a spanning rail runs on its lead only,
not under source RING_LEAD (R29). -/
def State.errorSensed (s : State) (r : RailId) : Bool :=
  s.serving && !s.outline.active && s.railObj r 0x10 2 != 4
    && ((s.idleContent && s.power != 4) || (s.power == 4 && s.onOrStopping r))

/-- The phase whose trigger clocks the rail (R208, R314). -/
def State.triggerPhase (s : State) (r : RailId) : Option PhaseId :=
  if r = railD then (if s.driveConfigured then some 9 else none)
  else
    let n := s.fastNat (railIx r 0x50) 4
    if h : n < 12 then some ⟨n, h⟩ else (s.railPhases r).head?

/-- Boundaries of a rail exist: the engine runs, and the rail has a type and a trigger (R314, R338). -/
def State.hasBoundary (s : State) (r : RailId) : Bool :=
  s.obj 0x3800 1 == 1 && s.railType r != 0 && (s.triggerPhase r).isSome

/-- The window error ADC of every rail whose trigger is this event of this phase samples (R208, R238). -/
def State.errorTrigger (s : State) (p : PhaseId) (k : Nat) : State :=
  (List.finRange 4).foldl (fun (s : State) (r : VRailId) =>
    if s.triggerPhase (vrail r) == some p && s.fastNat (railIx (vrail r) 0x50) 5 == k && s.errorSensed (vrail r) then
      s.modVSense r fun a => { a with sampling := true }
    else s) s

/-! ### Phase current -/

/-- The current of an ISNS voltage in mV, in mA (R195). -/
def State.isnsCurrent (s : State) (p : PhaseId) (mv : Rat) : Rat :=
  (mv - s.fast (phaseIx p 5) 1) * s.fast (phaseIx p 5) 2 / 1000

/-- The ADC a phase is assigned to, 4120:01–0C (R198). -/
def State.adcOf (s : State) (p : PhaseId) : Fin 3 := Fin.ofNat 3 (s.fastNat 0x4120 (1 + p.val))

/-- A trigger of the phase: its conversion starts, or waits behind those of its ADC, at most 8 (R199). Triggers come in
the order of their commands (log 134). The longest wait is reported in 4120:10 (R201). -/
def State.currentTrigger (s : State) (p : PhaseId) : State :=
  let a := s.adcOf p
  let n := s.adcs[a].length
  if s.phaseSensed p && Nat.ble n 8 then
    let wait := roundDiv (n * 625) 10
    let s := (s.setAdcs (s.adcs.set a (s.adcs[a] ++ [p.val])))
    if s.obj 0x4120 0x10 < wait then s.putObj 0x4120 0x10 wait else s
  else s

/-- A routed trigger starts a phase-current conversion or waits (R199). -/
def execPhaseCurrentTrigger (p : PhaseId) (s : State) : Host.Outcome State Fault Refusal :=
  .next (s.currentTrigger p)

/-- A conversion result: current, code and clipping (R195, R196). -/
def State.takeCurrent (s : State) (p : PhaseId) (code : Nat) : State :=
  let mA := roundRat (s.isnsCurrent p (code * (25 / 64 : Rat)))
  let s := (s.putPhaseObj p 5 7 mA).putPhaseObj p 5 8 code
  let n := s.phases[p].unclipped
  if code = 0 ∨ code = 4095 then
    let s := s.modPhase p fun a => { a with unclipped := 0 }
    if 16 ≤ n then (s.bump (phaseIx p 5) 9).raise (phIsnsClip p.val) (evData [evU 2 code]) else s
  else s.modPhase p fun a => { a with unclipped := min 16 (a.unclipped + 1) }

/-! ### Over-current thresholds -/

/-- The comparator code nearest to a threshold before clamping; `none` with gain 0 (R203). -/
def ocRaw (v0 gain thr : Int) : Option Int :=
  if gain = 0 then none else some (roundRat (((v0 : Rat) + thr * 1000 / gain) / (25 / 4 : Rat)))

/-- The effective comparator code: a threshold outside the DAC range gives 255 (positive) or 0 (negative). -/
def ocCode (v0 gain thr : Int) (positive : Bool) : Int :=
  match ocRaw v0 gain thr with
  | some c => if 0 ≤ c ∧ c ≤ 255 then c else if positive then 255 else 0
  | none => if positive then 255 else 0

/-- The effective comparator code of a phase. -/
def State.ocCode (s : State) (p : PhaseId) (positive : Bool) : Int :=
  Machine.ocCode (s.fast (phaseIx p 5) 1) (s.fast (phaseIx p 5) 2) (s.fast (phaseIx p 5) (if positive then 3 else 4))
    positive

/-- The effective threshold, 400p5:0A and 0B (R203). -/
def State.ocEffective (s : State) (p : PhaseId) (positive : Bool) : Int :=
  roundRat (s.isnsCurrent p (s.ocCode p positive * (25 / 4 : Rat)))

/-! ### Remote voltage sense -/

/-- The effective ratio ρ of a divider ratio and a gain trim (R206). -/
def ratioOf (divider trim : Int) : Rat := (divider : Rat) / 1000 * (1 + (trim : Rat) / 100000)

/-- The effective ratio ρ of a rail (R206). -/
def State.rho (s : State) (r : VRailId) : Rat :=
  ratioOf (s.fast (railIx (vrail r) 0x50) 1) (s.fast (railIx (vrail r) 0x50) 2)

/-- The reference DAC code of a target in mV under a ratio and an offset in µV (R207). -/
def dacCode (rho : Rat) (offset : Int) (target : Rat) : Int :=
  roundRat ((target / rho + (offset : Rat) / 1000) / (25 / 64 : Rat))

/-- The reference DAC code of a rail at a target (R207). -/
def State.refCode (s : State) (r : VRailId) (target : Rat) : Int :=
  dacCode (s.rho r) (s.fast (railIx (vrail r) 0x50) 3) target

/-- The reference DAC of a rail at the code of its present ramp value, written at each boundary of the rail while the
DAC runs (R207, R223). -/
def State.setReference (s : State) (r : VRailId) : State :=
  if s.errorSensed (vrail r) then
    let c := clampInt (s.refCode r ((s.rails[vrail r].vr : Rat) / 65536)) 0 4095
    (s.modVSense r fun a => { a with refMv := c * (25 / 64 : Rat) }).putRailObj (vrail r) 0x50 7 c
  else s

/-- The mean of numbers; 0 of none. -/
def meanRat (l : List Int) : Rat := if l.isEmpty then 0 else (l.foldl (· + ·) 0 : Int) / (l.length : Rat)

/-- Whether V_ref + error differs from the absolute value by more than 8 mV at the pin (R211). -/
def VSense.differs (a : VSense) : Bool :=
  let d := a.refMv + a.error - a.pin
  decide (8 < d ∨ d < -8)

/-- A window error result of a rail with a trigger: the error at the load, saturation, and the mismatch run (R208, R209,
R211). -/
def State.windowError (s : State) (r : VRailId) (codes : List (BitVec 9)) : State :=
  if s.errorSensed (vrail r) && (s.triggerPhase (vrail r)).isSome then
    let avg := meanRat ((codes.take (s.fastNat (railIx (vrail r) 0x50) 6)).map BitVec.toInt)
    let mv := avg * (5 / 4 : Rat)
    let sat := decide (avg ≤ -256 ∨ 255 ≤ avg)
    let was := s.vsense[r].saturated
    let s := if sat && !was then s.bump (railIx (vrail r) 0x50) 0x0A else s
    let s := (s.putRailObj (vrail r) 0x50 8 (roundRat (mv * s.rho r))).putBit (railIx (vrail r) 0x50) 0x0D 1 sat
    s.modVSense r fun a =>
      let a := { a with saturated := sat, windowRaised := a.windowRaised && sat, error := mv, sampling := false }
      { a with mismatch := if s.isOn (vrail r) && !sat && a.differs then a.mismatch + 1 else 0 }
  else s

/-- A saturation beyond 3r50:0C ms raises RL_VSNS_WINDOW once (R209). -/
def execVsnsWindowTimeout (r : VRailId) (s : State) : Host.Outcome State Fault Refusal :=
  if s.vsense[r].saturated && !s.vsense[r].windowRaised then
    .next ((s.modVSense r fun a => { a with windowRaised := true }).raise (rlVsnsWindow r.val)
      (evData [evI 4 (s.railObj (vrail r) 0x50 8), evU 4 (s.railObj (vrail r) 0x50 0x0C)]))
  else .next s

/-- A full run of 64 mismatched samples raises RL_VSNS_MISMATCH (R211). -/
def execVsnsMismatch (r : VRailId) (s : State) : Host.Outcome State Fault Refusal :=
  let a := s.vsense[r]
  if 64 ≤ a.mismatch then
    .next ((s.modVSense r fun a => { a with mismatch := 0 }).raise (rlVsnsMismatch r.val)
      (evData [evI 4 (roundRat ((a.refMv + a.error - a.pin) * 1000))]))
  else .next s

/-- The node a running dew check is measuring: the k-th node of the mask takes the k-th 2 ms (R134, R135). -/
def State.dewNode (s : State) : Option Nat :=
  if s.life.dewRunning then (maskList 12 (s.nat 0x2128 2))[(s.life.up - s.life.dewAt) / 2]? else none

/-- A sense pin of the rail is under the dew check: VSNSPr or VSNSNr (R222). -/
def State.dewHolds (s : State) (r : VRailId) : Bool := s.dewNode == some (4 + r.val) || s.dewNode == some (8 + r.val)

/-- A block of absolute conversions, of 3r50:0B samples, updates the measured output, unless a dew check holds it (R210,
R222). -/
def State.absoluteBlock (s : State) (r : VRailId) (codes : List (BitVec 14)) : State :=
  let n := s.fastNat (railIx (vrail r) 0x50) 0x0B
  if s.serving && !s.dewHolds r && Nat.ble n codes.length then
    let block := codes.take n
    match block.getLast? with
    | none => s
    | some last =>
      let pin := meanRat (block.map fun (c : BitVec 14) => (c.toNat : Int)) * 2000 / 16384
      let vc := pin - (s.fast (railIx (vrail r) 0x50) 3 : Rat) / 1000
      let s := (s.putRailObj (vrail r) 0x50 9 last.toNat).putRailObj (vrail r) 0x48 1 (roundRat (vc * s.rho r))
      s.modVSense r fun a => { a with pin := pin }
  else s

/-- A block of absolute conversions completes (R210). -/
def execAbsoluteBlockComplete (r : VRailId) (codes : List (BitVec 14)) (s : State) :
    Host.Outcome State Fault Refusal :=
  .next (s.absoluteBlock r codes)

/-- The pin voltage of an absolute code, in mV (R210). -/
def absoluteMv (code : Nat) : Rat := code * 2000 / 16384

/-- An absolute reading above 1.9 V for 100 µs raises RL_VSNS_OPEN, whatever the rail's state (R212); the conversion runs
while the device serves (R223). -/
def execVsnsOpen (r : VRailId) (code : BitVec 14) (s : State) : Host.Outcome State Fault Refusal :=
  if s.serving && !s.dewHolds r && decide (1900 < absoluteMv code.toNat) then
    let s := (s.putRailObj (vrail r) 0x50 9 code.toNat).putBit (railIx (vrail r) 0x50) 0x0D 2 true
    .next (s.raise (rlVsnsOpen r.val) (evData [evU 2 code.toNat]))
  else .next s

/-- The absolute reading has stayed below 1.8 V for 100 µs: RL_VSNS_OPEN ends (R503). -/
def execVsnsOpenEnd (r : VRailId) (s : State) : Host.Outcome State Fault Refusal :=
  if decide (absoluteMv (s.nat (railIx (vrail r) 0x50) 9) < 1800) then
    let s := s.putBit (railIx (vrail r) 0x50) 0x0D 2 false
    .next (s.endEvent (rlVsnsOpen r.val) (evData [evU 2 (s.railObj (vrail r) 0x50 9)]))
  else .next s

/-! ### Auxiliary ADC -/

/-- A field of an auxiliary channel, 4130:(0x10 + n + 8c), as the converter works with it. -/
def State.auxObj (s : State) (c : AuxId) (n : Nat) : Int := s.fast 0x4130 (0x10 + n + 8 * c.val)

/-- The channels of the sequence, ascending: enabled and not OFF (R215, R217). -/
def State.auxChannels (s : State) : List Nat :=
  (maskList 8 (s.fastNat 0x4130 1)).filter fun c => s.fast 0x4130 (0x10 + 8 * c) != 0

/-- The channel whose result comes next: the one after the last, in ascending order and around (R215). -/
def State.auxNext (s : State) : Option Nat :=
  let l := s.auxChannels
  match l.find? fun c => Nat.blt s.auxSequence.last c with
  | some c => some c
  | none => l.head?

/-- Linear interpolation in a table of 17 points that begins at a sub-index of 4130 (R216). -/
def State.auxTable (s : State) (first : Nat) (code : Rat) : Rat :=
  let i := min 15 (code / 256).floor.toNat
  let a : Rat := s.fast 0x4130 (first + i)
  let b : Rat := s.fast 0x4130 (first + i + 1)
  a + (b - a) * (code - 256 * i) / 256

/-- The value of a converter code under a mode (R216); mode OFF gives the raw pin voltage (R218). -/
def State.auxValue (s : State) (c : AuxId) (mode : Nat) (code : Rat) : Int :=
  let pin := code * 2500 / 4096
  match mode with
  | 1 => roundRat (pin * s.auxObj c 1 / 1000 + s.auxObj c 2)
  | 2 => roundRat (s.auxTable 0x50 code + s.auxObj c 2)
  | 3 => roundRat (s.auxTable 0x61 code + s.auxObj c 2)
  | _ => roundRat pin

/-- The threshold evaluation of a result (R217). -/
def State.auxThresholds (s : State) (c : AuxId) (v : Int) : State :=
  let high := s.auxObj c 3
  let low := s.auxObj c 4
  let hyst := s.auxObj c 5
  let off := high = 0 ∧ low = 0
  let data := evData [evI 4 v]
  let s := if s.standing (dvAuxHi c.val) && (decide off || decide (v < high - hyst)) then
    s.endEvent (dvAuxHi c.val) data else s
  let s := if s.standing (dvAuxLo c.val) && (decide off || decide (low + hyst < v)) then
    s.endEvent (dvAuxLo c.val) data else s
  let hi := if off ∨ v ≤ high then 0 else min 4 (s.aux[c].hi + 1)
  let lo := if off ∨ low ≤ v then 0 else min 4 (s.aux[c].lo + 1)
  let s := s.modAux c fun a => { a with hi := hi, lo := lo }
  let s := if hi = 3 then s.raise (dvAuxHi c.val) data else s
  if lo = 3 then s.raise (dvAuxLo c.val) data else s

/-- A channel's averaged result, of 4130:02 conversions, in its turn of the sequence (R215–R217). -/
def State.auxResult (s : State) (c : AuxId) (codes : List (BitVec 12)) : State :=
  let mode := (s.auxObj c 0).toNat
  let n := s.fastNat 0x4130 2
  if s.serving && s.auxNext == some c.val && Nat.ble n codes.length then
    let v := s.auxValue c mode (meanRat ((codes.take n).map fun (x : BitVec 12) => (x.toNat : Int)))
    let s := (s.putObj 0x4130 (0x16 + 8 * c.val) v).modAux c fun a => { a with seen := true, mode := mode }
    (s.setAuxSequence { s.auxSequence with last := c.val }).auxThresholds c v
  else s

/-- An auxiliary channel completes its averaged result (R216). -/
def execAuxResult (c : AuxId) (codes : List (BitVec 12)) (s : State) : Host.Outcome State Fault Refusal :=
  .next (s.auxResult c codes)

/-- The out-of-sequence conversion of the oldest AUX_SAMPLE completes (R218). -/
def execAuxTriggeredResult (c : AuxId) (code : BitVec 12) (s : State) : Host.Outcome State Fault Refusal :=
  if s.auxSequence.requests.head? = some c.val then
    .next ((s.setAuxSequence { s.auxSequence with requests := s.auxSequence.requests.tail }).putObj 0x4130
      (0x17 + 8 * c.val) (s.auxValue c (s.auxObj c 0).toNat code.toNat))
  else .next s

/-- Mode OFF ends a standing DV_AUX_HI or DV_AUX_LO at once (R217). -/
def State.auxOff (s : State) (c : AuxId) : State :=
  let data := evData [evI 4 (s.auxObj c 6)]
  let s := (s.endEvent (dvAuxHi c.val) data).endEvent (dvAuxLo c.val) data
  s.modAux c fun a => { a with hi := 0, lo := 0 }

/-! ### Rules of the sense objects -/

/-- A refusal of a write of 400p5:01–04 (R197, R203). -/
def State.currentRule (s : State) (p : PhaseId) (sub : Nat) (v : Int) : Option Nat :=
  let pick (n : Nat) : Int := if n = sub then v else s.phaseObj p 5 n
  let enabled := match s.railOf p with | some r => s.isOn r | none => false
  let code (n : Nat) (positive : Bool) : Int := Machine.ocCode (pick 1) (pick 2) (pick n) positive
  let outside := match ocRaw (pick 1) (pick 2) v with | some c => decide (c < 0 ∨ 255 < c) | none => true
  if sub ≤ 2 ∧ enabled = true then some 0x08000022
  else if sub = 2 ∧ v = 0 then some 0x06090030
  else if 3 ≤ sub ∧ sub ≤ 4 ∧ outside = true then some 0x06090030
  else if 1 ≤ sub ∧ sub ≤ 4 ∧ code 3 true < code 4 false + 2 then some 0x06090030
  else none

/-- A refusal of a write of 3r50 (R207, R213); `vmax` is the rail's envelope maximum. -/
def State.senseRule (s : State) (r : VRailId) (sub : Nat) (v vmax : Int) : Option Nat :=
  let pick (n : Nat) : Int := if n = sub then v else s.railObj (vrail r) 0x50 n
  let rho := ratioOf (pick 1) (pick 2)
  if 1 ≤ sub ∧ sub ≤ 6 ∧ s.isOn (vrail r) = true then some 0x08000022
  else if 1 ≤ sub ∧ sub ≤ 3 ∧ 4095 < dacCode rho (pick 3) vmax then some 0x06090030
  else none

end Sys2Proof.Machine
end

