-- ==== Sys2Proof/Machine/Pwm.lean ====
section
/-! DEFINITION. The PWM generator (chapter 07): time base, update points, triggers, dead time, duty extremes,
bootstrap refresh, cycle limiting, trips, forcing and the mask sequencer. Widths and times are in steps. -/

namespace Sys2Proof.Machine

/-! ### Triggers -/

/-- A trigger-class event, 0 ZERO, 1 PERIOD, 2 CMPA, 3 CMPB: its prescaler, and where it passes the ADC trigger
and the TRIGGER interrupt flag (R236, R473). The sense trigger takes it before the prescaler (R238). -/
def State.fireTrigger (s : State) (p : PhaseId) (k : Fin 4) : State :=
  let s := s.errorTrigger p k.val
  let n := s.phases[p].prescale[k] + 1
  let pass := s.fastNat (phaseIx p 3) (1 + k.val) ≤ n
  let s := s.modPhase p fun a => { a with prescale := a.prescale.set k (if pass then 0 else n) }
  let s := if pass && (s.fastNat (phaseIx p 3) 5).testBit k.val then s.currentTrigger p else s
  if pass && (s.fastNat (phaseIx p 3) 5).testBit (4 + k.val) then s.interrupt 1 else s

/-! ### Dead time -/

/-- An edge adapts: enabled and not stopped by R244. -/
def State.adapts (s : State) (p : PhaseId) (falling : Bool) : Bool :=
  (s.fastNat (phaseIx p 1) 3).testBit (natOf falling) &&
    !(if falling then s.phases[p].stoppedF else s.phases[p].stoppedR)

/-- The dead time an edge takes at the next ZERO: fixed, or adapted (R240). -/
def State.deadTime (s : State) (p : PhaseId) (falling : Bool) : Nat :=
  if s.adapts p falling then (if falling then s.phases[p].nextF else s.phases[p].nextR)
  else s.fastNat (phaseIx p 1) (if falling then 2 else 1)

/-- The applied dead time of an edge, 400p1:04 and 05. -/
def State.applied (s : State) (p : PhaseId) (falling : Bool) : Nat :=
  s.nat (phaseIx p 1) (if falling then 5 else 4)

/-! ### Duty extremes and short pulses (R248–R252) -/

/-- What a period emits: its width, the carry after it, and whether it took a short branch. -/
structure Emission where
  width : Int
  carry : Int
  short : Bool
  deriving DecidableEq, Repr

/-- The short-pulse modes on a width `w` with a carry `c` (R250): 0 SKIP_CARRY, 1 STRETCH, 2 DROP. -/
def shortPulse (mode : Int) (P minH minL w c : Int) : Emission :=
  let skip : Bool := mode == 0
  let X := if skip then w + c else w
  if X ≤ 0 then ⟨0, if skip then max X (-minL) else 0, false⟩
  else if X < minH then
    if skip then ⟨0, X, true⟩ else if mode = 1 then ⟨minH, 0, true⟩ else ⟨0, 0, true⟩
  else if X ≤ P - minL then ⟨X, 0, false⟩
  else if X < P then
    if skip then ⟨P, X - P, true⟩ else if mode = 1 then ⟨P - minL, 0, true⟩ else ⟨P, 0, true⟩
  else ⟨P, if skip then min (X - P) minH else 0, false⟩

/-- The extremes modes (R248): 0 BEYOND_ON, 1 SPECIAL. A deliberate 0 % or 100 % sets the carry to 0 (R249). -/
def emission (extremes mode P minH minL w c : Int) : Emission :=
  if extremes = 1 then
    if w = 0 then ⟨0, c, false⟩
    else if w = 0xFFFFF then ⟨P, c, false⟩
    else ⟨clampInt w minH (P - minL), c, false⟩
  else if w = 0 then ⟨0, 0, false⟩
  else if P ≤ w then ⟨P, 0, false⟩
  else shortPulse mode P minH minL w c

/-- The settings of the extremes, the minimum pulse, the short pulses and the refresh taken at ZERO, with the carry and the
bootstrap count the period begins with (R233). -/
def State.takeSettings (s : State) (p : PhaseId) : State :=
  let b := phaseIx p 2
  let c := s.obj b 5
  s.modPhase p fun a =>
    { a with extremes := s.fast b 1, minPulse := s.fast b 2, shortMode := s.fast b 3, refreshEach := s.fastNat b 4,
             oldWidth := a.compare, carryAt := c, bootAt := a.bootCount }

/-- The bootstrap count after a period: consecutive ones without a low-side pulse of MINPULSE, while a refresh is set
(R251). -/
def Phase.bootNext (a : Phase) (lacks : Bool) : Nat :=
  if a.refreshEach ≠ 0 ∧ lacks = true then min 255 (a.bootAt + 1) else 0

/-- What a phase emits for a requested width, short of the refresh (R248–R250). -/
def State.emissionOf (s : State) (p : PhaseId) (w : Int) : Emission :=
  let a := s.phases[p]
  emission a.extremes a.shortMode a.period (s.applied p false + a.minPulse) (s.applied p true + a.minPulse) w a.carryAt

/-- The width a phase emits for a requested width, with the bootstrap refresh, the counters and the events of a short
branch and of a refresh. A period whose width is formed again at P/2 starts from the same carry and count, and is counted
once (R234). -/
def State.emit (s : State) (p : PhaseId) (w : Int) (again : Bool) : State :=
  let a := s.phases[p]
  let top : Int := a.period - (s.applied p true + a.minPulse)
  let e := s.emissionOf p w
  let count := a.bootNext (decide (top < e.width))
  let refresh := a.refreshEach ≠ 0 ∧ a.refreshEach ≤ count
  let out := if refresh then min e.width top else e.width
  let carry := if refresh ∧ a.extremes = 0 ∧ a.shortMode = 0 then e.carry + (e.width - out) else e.carry
  let wasShort := again && s.bit (phaseIx p 7) 1 7
  let wasBoot := again && a.sinceBoot == 0
  let s := s.modPhase p fun a =>
    { a with width := out.toNat, bootCount := if refresh then 0 else count,
             sinceShort := if e.short then 0 else a.sinceShort,
             sinceBoot := if refresh then 0 else a.sinceBoot }
  let s := (s.putObj (phaseIx p 2) 5 carry).putPhaseObj p 7 3 out
  let s := s.putBit (phaseIx p 7) 1 7 e.short
  let s := if e.short && !wasShort then
      let s := s.bump (phaseIx p 7) 5
      if 3840000 ≤ a.sinceShort then
        s.raise (phMinpulseSkip p.val) (evData [evI 4 carry, evU 1 a.shortMode]) else s
    else s
  if refresh ∧ wasBoot = false then
    let s := s.bump (phaseIx p 7) 6
    if 3840000 ≤ a.sinceBoot then s.raise (phBootRefresh p.val) (evData [evU 1 a.refreshEach]) else s
  else s

/-- A period whose outputs the reference does not shape: only a low side held on counts as a low-side pulse (R251). -/
def State.emitNone (s : State) (p : PhaseId) : State :=
  let low := !(s.levels p).2
  (s.modPhase p fun a => { a with bootCount := a.bootNext low, rise := 0, fall := 0 }).putBit (phaseIx p 7) 1 7 false

/-- The reference of a period whose width is known at ZERO: in UP from position 0, in UP_DOWN centred on the peak
(R231). -/
def Phase.placePulse (a : Phase) (upDown : Bool) : Phase :=
  let w := min a.width a.period
  let r := if upDown then (a.period - w) / 2 else 0
  { a with rise := r, fall := r + w }

/-- A half of a compare value, at most half the period (R234). -/
def Phase.half (a : Phase) (w : Nat) : Nat := min (w / 2) (a.period / 2)

/-- Compare A asks for 100 % (R248). -/
def Phase.isFull (a : Phase) (w : Nat) : Bool := if a.extremes = 1 then w == 0xFFFFF else Nat.ble a.period w

/-- The reference of a period with MID update in UP_DOWN mode rises by the width taken at ZERO (R234, R249). -/
def Phase.placeRise (a : Phase) : Phase :=
  let r := if a.isFull a.oldWidth then 0 else a.period / 2 - a.half a.oldWidth
  { a with rise := r, fall := if a.isFull a.oldWidth then a.period else a.period / 2 + a.half a.oldWidth }

/-- The width formed at P/2 with MID update: the sum of the halves (R234), or what both ask for where both ask for 100 %. -/
def Phase.midWidth (a : Phase) : Nat :=
  if a.isFull a.oldWidth && a.isFull a.compare then min a.oldWidth a.compare
  else a.half a.oldWidth + a.half a.compare

/-- The reference from P/2 on with MID update in UP_DOWN mode: one that has not risen rises now, if at all, and one that has
falls at the end of the emitted width, now at the earliest (R234, R249). -/
def Phase.placeFall (a : Phase) : Phase :=
  let h := a.period / 2
  let r := if a.risen then a.rise else h
  let f := if a.width = 0 then h else if a.period ≤ a.width then a.period else min a.period (max h (r + a.width))
  { a with rise := r, fall := f, risen := a.risen || Nat.blt h f,
           reference := (a.reference || (!a.risen && !a.limitPos)) && Nat.blt h f }

/-! ### Trips -/

/-- A TRIP input is enabled, holds its active level, and names the phase in its mask (R254). -/
def State.tripInputOn (s : State) (t : Fin 4) (p : PhaseId) : Bool :=
  s.bit 0x2630 6 t.val && s.fastBit 0x2630 (1 + t.val) 0 && s.fastBit 0x2630 (1 + t.val) (16 + p.val)

/-- Whether a trip source of the phase is active (R256). -/
def State.tripSource (s : State) (p : PhaseId) : Bool :=
  s.phases[p].tripOc || (List.finRange 4).any fun t => s.tripInputOn t p

/-- The latch mode of a phase is LATCH (400p0:06). -/
def State.latches (s : State) (p : PhaseId) : Bool := s.fast (phaseIx p 0) 6 == 1

/-- The phase trips: its trip action at once (R255). -/
def State.trip (s : State) (p : PhaseId) : State :=
  (s.modPhase p fun a => { a with tripped := true, tripClear := false }).drivePhase p

/-- PH_TRIPn on phases, in one core clock (R468): on each once per latch, or once per period in CYCLE mode (R254). -/
def State.raiseTrips (s : State) (l : List (PhaseId × Fin 4)) : State :=
  let due := l.filter fun c => !s.phases[c.1].tripRaised[c.2]
  let s := due.foldl (fun (s : State) c => s.modPhase c.1 fun a => { a with tripRaised := a.tripRaised.set c.2 true }) s
  s.raiseAll (due.map fun c => (phTrip c.1.val c.2.val,
    evData [evU 1 (s.fast (phaseIx c.1 0) 6), evU 1 (s.fast (phaseIx c.1 0) 5)]))

/-- The release of a trip at ZERO (R256, R257), and the trips that a still active input repeats in CYCLE mode. -/
def State.tripZero (s : State) (p : PhaseId) : State :=
  let s := s.modPhase p fun a => { a with tripOc := false }
  let a := s.phases[p]
  if !a.tripped then s
  else if s.latches p then
    if a.tripClear && !s.tripSource p then
      (s.modPhase p fun a => { a with tripped := false, tripClear := false,
                                      tripRaised := Vector.replicate 4 false }).putObj (phaseIx p 2) 5 0
    else s
  else
    let s := s.modPhase p fun a => { a with tripRaised := Vector.replicate 4 false }
    if s.tripSource p then
      s.raiseTrips (((List.finRange 4).filter fun t => s.tripInputOn t p).map fun t => (p, t))
    else (s.modPhase p fun a => { a with tripped := false }).putObj (phaseIx p 2) 5 0

/-! ### Update points -/

/-- The number of base periods a phase's own period spans, 400p0:02 (R225). -/
def State.divider (s : State) (p : PhaseId) : Nat := max 1 (s.fastNat (phaseIx p 0) 2)

/-- The start offset of a phase in steps, of its shift in 1/65 536 of its period (R227). -/
def startOffset (P : Nat) (shift : Int) : Int := roundDiv (shift * P) 65536

/-- A change of start offset in the direction of at most half a period (R228). -/
def shortWay (P : Nat) (d : Int) : Int :=
  if (P : Int) < 2 * d then d - P else if 2 * d < -(P : Int) then d + P else d

/-- The distance of a shift change in steps: the difference of the two start offsets (R227, R228). -/
def shiftDistance (P : Nat) (old new : Int) : Int := shortWay P (startOffset P new - startOffset P old)

/-- The four parts of a re-spread; the remainder falls in the fourth (R228). -/
def spreadParts (d : Int) : List Int := let q := d.tdiv 4; [q, q, q, d - 3 * q]

/-- The shift a phase should have: that of an AUTO rail's interleaving while its rail is AUTO, else 400p0:03 (R304). -/
def State.wantedShift (s : State) (p : PhaseId) : Int :=
  let own := s.fast (phaseIx p 0) 3
  match s.railOf p with
  | some r => if s.railObj r 0x01 2 = 0 then s.phases[p].auto.getD own else own
  | none => own

/-- The base period of its group at which a phase starts its period: a multiple of its divider, moved by its start offset
(R227). While a shift is spread the start moves, and every base period may be the one. -/
def State.zeroDue (s : State) (p : PhaseId) : Bool :=
  let a := s.phases[p]
  !a.spread.isEmpty
    || s.meridian.index % s.divider p == (a.shift * s.divider p / 65536).toNat % s.divider p

/-- The period of a phase at ZERO: the base period times the divider, with the part of a re-spread that falls in it. A
shift that changes, also during a re-spread, is spread from the present offset (R225, R228, R304). -/
def State.takePeriod (s : State) (p : PhaseId) : State :=
  let P := s.meridian.base * s.divider p
  let a := s.phases[p]
  let want := s.wantedShift p
  let at_ : Int := if a.spread.isEmpty then startOffset P a.shift else a.offset + a.spread.headD 0
  let spread := if want != a.aim then spreadParts (shortWay P (startOffset P want - at_)) else a.spread.drop 1
  let shift : Int := if spread.isEmpty then want else roundDiv (at_ * 65536) P % 65536
  let now := ((P : Int) + spread.headD 0).toNat
  let s := s.modPhase p fun a =>
    { a with period := now, spread := spread, shift := shift, aim := want,
             offset := if spread.isEmpty then startOffset P want else at_ }
  ((s.putPhaseObj p 7 2 now).putPhaseObj p 7 4 shift)

/-- The dead times of a phase taken at ZERO (R233, R240); an adaptation goes on from them (R243). -/
def State.takeDeadTimes (s : State) (p : PhaseId) : State :=
  let r := s.deadTime p false
  let f := s.deadTime p true
  ((s.modPhase p fun a => { a with nextR := r, nextF := f }).putPhaseObj p 1 4 r).putPhaseObj p 1 5 f

/-- The force mode taken at an update point (R258, R259). -/
def State.takeForce (s : State) (p : PhaseId) : State :=
  let f := s.nat (phaseIx p 4) 1
  let was := s.phases[p].force
  if f = was then s
  else
    let s := s.modPhase p fun a => { a with force := f }
    if f = 0 then s.putObj (phaseIx p 2) 5 0 else s.raise (phForceApplied p.val) (evData [evU 1 f])

/-- The number of the active mask entry, 4110:0E (R261): a hold entry, the entry of the Hall sector, or 4110:0D. -/
def State.activeEntry (s : State) : Nat :=
  let held := s.nat 0x4110 0x0C
  if held < 8 then held
  else match s.drive.sector with
    | some n => bits (s.fastNat 0x4110 (if s.obj 0x4110 0x0B = 1 then 0x0A else 9)) (3 * n + 2) (3 * n)
    | none => s.fastNat 0x4110 0x0D

/-- The state the active mask entry gives phases 9–11 (R260); every other phase is PWM. -/
def State.maskState (s : State) (p : PhaseId) : Nat :=
  if s.driveConfigured ∧ 9 ≤ p.val then
    bits (s.fastNat 0x4110 (1 + s.activeEntry % 8)) (2 * (p.val - 9) + 1) (2 * (p.val - 9))
  else 1

/-- The mask state taken at an update point; in CURRENT mode the phase that enters PWM takes over I_acc (R262,
R348). -/
def State.takeMask (s : State) (p : PhaseId) : State :=
  let m := s.maskState p
  let from_ : PhaseId := Fin.ofNat 12 s.drive.pwmPhase
  let enters := s.driveConfigured && Nat.ble 9 p.val && m == 1 && from_ != p
  let i := s.phases[from_].iAcc
  let s := s.modPhase p fun a => { a with mask := m, iAcc := if enters then i else a.iAcc }
  if enters then (s.setDrive { s.drive with pwmPhase := p.val }) else s

/-- The ring holds the phases of a spanning-rail member low: another device's fault bit (R395), or an idle
spanning rail on a rail with source RING_LEAD (R388). -/
def State.ringHeld (s : State) (r : RailId) : Bool :=
  let i := s.nat (railIx r 0x01) 3
  if h : i < 4 then
    (s.obj 0x2400 0x1E == 1 && s.obj 0x2400 0x1F != 0)
      || (s.railObj r 0x10 2 == 4 && !s.ring.spanRuns[i])
  else false

/-- A phase joins switching, or stops, at an update point (R264). A phase being shed loses a quarter of its demand at each
ZERO, and stops at the update point after the last (R303). -/
def State.takeSwitching (s : State) (p : PhaseId) (zero : Bool) : State :=
  let held := match s.railOf p with | some r => s.ringHeld r | none => false
  if s.phases[p].stopDue then
    let s := s.modPhase p fun a =>
      { a with switching := false, stopDue := false, active := false, shedding := false, shedLeft := 0 }
    match s.railOf p with | some r => (s.drivePhase p).settleStop r | none => s.drivePhase p
  else if held then s.modPhase p fun a => { a with switching := false }
  else if zero then
    s.modPhase p fun a =>
      if a.shedding then
        { a with shedLeft := a.shedLeft - 1, stopDue := Nat.ble a.shedLeft 1 }
      else { a with switching := a.active }
  else s

/-- The update point selected in 400p0:04 is MID, and the counter is UP_DOWN or UP. -/
def State.midUpdate (s : State) (p : PhaseId) : Bool := s.fast (phaseIx p 0) 4 == 1

/-- UP_DOWN mode (R229). -/
def State.upDown (s : State) (p : PhaseId) : Bool := s.fast (phaseIx p 0) 1 == 1

/-- What a phase drops at ZERO from the period that ends. -/
def State.endPeriod (s : State) (p : PhaseId) : State :=
  let acted := s.phases[p].limited
  let s := s.modPhase p fun a =>
    { a with ocPos := false, ocNeg := false, limitPos := false, limited := false, risen := false,
             sinceAdaptR := min 255 (a.sinceAdaptR + 1), sinceAdaptF := min 255 (a.sinceAdaptF + 1),
             sinceShort := min 3840000 (a.sinceShort + a.period),
             sinceBoot := min 3840000 (a.sinceBoot + a.period) }
  s.putBit (phaseIx p 7) 1 8 acted

/-- The width of the period and the place of its pulse, as far as ZERO settles them (R231, R233, R234). -/
def State.openPeriod (s : State) (p : PhaseId) : State :=
  if !s.regulated p then s.emitNone p
  else if s.midUpdate p && s.upDown p then s.modPhase p Phase.placeRise
  else
    let s := s.emit p s.phases[p].compare false
    s.modPhase p fun a => a.placePulse (s.upDown p)

/-- The reference at ZERO: high where its pulse begins there, or never ends (R229, R249). A negative cycle limit ends with it,
and where no reference would end it (R253). -/
def State.startReference (s : State) (p : PhaseId) : State :=
  if s.phases[p].outlined.isSome then s.modPhase p fun a => { a with limitNeg := a.limitNeg && !a.reference }
  else
    let on := s.regulated p
    s.modPhase p fun a =>
      let up := on && a.rise == 0 && Nat.blt 0 a.fall
      { a with reference := up, risen := up, limitNeg := a.limitNeg && on && !up }

/-- ZERO of a phase (R233). A phase that the Outline controller drives while its counter stands begins the controller's own
period. -/
def State.pwmZero (s : State) (p : PhaseId) : State :=
  if s.phases[p].counting then
    if s.zeroDue p then
      let s := (s.endPeriod p).takePeriod p
      let s := ((s.takeDeadTimes p).tripZero p).takeForce p
      let s := ((s.takeSwitching p true).takeMask p).takeOutline p
      let s := ((s.takeSettings p).openPeriod p).startReference p
      (s.drivePhase p).fireTrigger p 0
    else s
  else if s.outlineDrivenPhase p then
    (((s.endPeriod p).takeOutline p).startReference p).drivePhase p
  else s

/-- The width of the period as P/2 settles it with MID update (R234): in UP_DOWN mode the sum of the halves; in UP mode a new
width, on a reference still high, and not before P/2. -/
def State.closePeriod (s : State) (p : PhaseId) : State :=
  let a := s.phases[p]
  if !s.regulated p then s
  else if s.upDown p then (s.emit p a.midWidth false).modPhase p Phase.placeFall
  else if a.reference && a.compare != a.oldWidth then
    let s := s.emit p (max (a.period / 2) a.compare : Nat) true
    s.modPhase p fun a =>
      let w := max (a.period / 2) (min a.width a.period)
      { a with width := w, fall := w, reference := Nat.blt (a.period / 2) w }
  else s

/-- P/2 of a phase with MID update (R233, R234). -/
def State.pwmMid (s : State) (p : PhaseId) : State :=
  if s.phases[p].counting && s.midUpdate p then
    let s := (s.takeForce p).takeSwitching p false
    let s := s.takeMask p
    let s := if s.outlineDue p == s.phases[p].outlined || (s.outlineDue p).isNone then s else s.takeOutline p
    (s.closePeriod p).drivePhase p
  else s

/-- P/2 with MID update. -/
def execPwmMidUpdate (p : PhaseId) (s : State) : Host.Outcome State Fault Refusal := .next (s.pwmMid p)

/-- PERIOD fires (R232). -/
def execPwmPeriod (p : PhaseId) (s : State) : Host.Outcome State Fault Refusal :=
  if s.phases[p].counting then .next (s.fireTrigger p 1) else .next s

/-- The falling edge of the reference: PWMH falls, and CMPA fires (R232, R239). A period without a pulse, or with one that
does not end in it, has none (R249). -/
def State.pwmCmpa (s : State) (p : PhaseId) : State :=
  let a := s.phases[p]
  if a.outlined.isSome then
    let s := (s.modPhase p fun a => { a with reference := false }).drivePhase p
    if a.counting then s.fireTrigger p 2 else s
  else if a.counting && a.switching && Nat.blt a.rise a.fall && Nat.blt a.fall a.period then
    ((s.modPhase p fun a => { a with reference := false }).drivePhase p).fireTrigger p 2
  else s

/-- CMPA. -/
def execPwmCmpa (p : PhaseId) (s : State) : Host.Outcome State Fault Refusal := .next (s.pwmCmpa p)

/-- CMPB fires in every period in which its position is below P (R232). -/
def execPwmCmpb (p : PhaseId) (s : State) : Host.Outcome State Fault Refusal :=
  if s.phases[p].counting ∧ s.fastNat (phaseIx p 3) 6 < s.phases[p].period then .next (s.fireTrigger p 3)
  else .next s

/-- The rising edge of the reference in UP_DOWN mode, once in a period with a pulse: PWML falls and PWMH rises, and a
negative cycle limit ends (R231, R234, R239, R253). In UP mode it falls together with ZERO. -/
def State.referenceRises (s : State) (p : PhaseId) : State :=
  let a := s.phases[p]
  if a.counting && a.switching && s.upDown p && !a.risen && Nat.blt a.rise a.fall then
    (s.modPhase p fun a => { a with reference := !a.limitPos, risen := true, limitNeg := false }).drivePhase p
  else s

/-- The output reference rises. -/
def execReferenceRisingEdge (p : PhaseId) (s : State) : Host.Outcome State Fault Refusal :=
  .next (s.referenceRises p)

/-! ### Node sensing and adaptive dead time -/

/-- The threshold of the node comparator in mV: 400p6:02 in steps of 12.5 mV, to the nearest (R241, log 136). -/
def State.nodeThreshold (s : State) (p : PhaseId) : Rat :=
  roundRat ((s.fast (phaseIx p 6) 2 : Rat) / (25 / 2)) * (25 / 2 : Rat)

/-- The node input reports a transition that left the pin at `mv`: never while it is OFF; under COMPARATOR beyond the
threshold by half the hysteresis of 25 mV; under DIGITAL as it comes (R241). -/
def State.nodeSees (s : State) (p : PhaseId) (falling : Bool) (mv : Nat) : Bool :=
  match s.fast (phaseIx p 6) 1 with
  | 1 =>
    if falling then decide ((mv : Rat) ≤ s.nodeThreshold p - 25 / 2)
    else decide (s.nodeThreshold p + 25 / 2 ≤ (mv : Rat))
  | 2 => true
  | _ => false

/-- The first node transition in the expected direction in an open window gives the delay measurement of its edge (R242). -/
def execNodeTransition (p : PhaseId) (falling : Bool) (edge : NodeEdge) (s : State) : Host.Outcome State Fault Refusal :=
  let a := s.phases[p]
  if (if falling then a.windowF else a.windowR) && s.nodeSees p falling edge.mv.toNat then
    let n : Int := edge.steps.toNat
    let s := s.modPhase p fun a =>
      if falling then { a with nodeF := some n, missF := 0, windowF := false }
      else { a with nodeR := some n, missR := 0, windowR := false }
    .next (s.putPhaseObj p 6 (if falling then 8 else 7) n)
  else .next s

/-- The step of an adaptation before its clamp (R243): `t` the latest measurement, −1 for no transition. -/
def adaptStep (dt : Int) (t : Option Int) (margin : Int) : Int :=
  match t with
  | none => dt
  | some t =>
    if t < 0 then dt
    else if t < dt then (if t + margin < dt then dt - 1 else if dt < t + margin then dt + 1 else dt)
    else dt - 1

/-- An adaptation of an edge is due: 400p6:06 periods since the last (R243). -/
def State.adaptDue (s : State) (p : PhaseId) (falling : Bool) : Bool :=
  let a := s.phases[p]
  s.adapts p falling && s.fast (phaseIx p 6) 1 != 0
    && Nat.ble (s.fastNat (phaseIx p 6) 6) (if falling then a.sinceAdaptF else a.sinceAdaptR)

/-- One adaptation of an edge from its applied dead time (R243), with the run of R245. -/
def State.adapt (s : State) (p : PhaseId) (falling : Bool) : State :=
  if s.adaptDue p falling then
    let a := s.phases[p]
    let lo := s.fast (phaseIx p 6) 3
    let hi := s.fast (phaseIx p 6) 4
    let dt : Int := s.applied p falling
    let raw := adaptStep dt (if falling then a.nodeF else a.nodeR) (s.fast (phaseIx p 6) 5)
    let next := (clampInt raw lo hi).toNat
    let beyond := decide (raw < lo ∨ hi < raw)
    let left := decide (lo < next ∧ (next : Int) < hi)
    s.modPhase p fun a =>
      if falling then
        { a with nextF := next, sinceAdaptF := 0, nodeF := none, limitF := if beyond then a.limitF + 1 else 0,
                 limitRaisedF := a.limitRaisedF && !left }
      else
        { a with nextR := next, sinceAdaptR := 0, nodeR := none, limitR := if beyond then a.limitR + 1 else 0,
                 limitRaisedR := a.limitRaisedR && !left }
  else s

/-- An adaptation falls due. -/
def execDeadTimeAdapt (p : PhaseId) (falling : Bool) (s : State) : Host.Outcome State Fault Refusal :=
  .next (s.adapt p falling)

/-- Eight consecutive misses on an edge: PH_NODE_MISS, and the edge stops adapting (R244). -/
def execNodeMissLimit (p : PhaseId) (falling : Bool) (s : State) : Host.Outcome State Fault Refusal :=
  let a := s.phases[p]
  if 8 ≤ (if falling then a.missF else a.missR) then
    let s := s.modPhase p fun a =>
      if falling then { a with stoppedF := true, missF := 0 } else { a with stoppedR := true, missR := 0 }
    .next ((s.putBit (phaseIx p 7) 1 6 true).raise (phNodeMiss p.val) (evData [evU 1 (natOf falling)]))
  else .next s

/-- Sixty-four consecutive adaptations beyond a bound: PH_DT_ADAPT_LIMIT once (R245). -/
def execDtAdaptLimit (p : PhaseId) (falling : Bool) (s : State) : Host.Outcome State Fault Refusal :=
  let a := s.phases[p]
  let dt := if falling then a.nextF else a.nextR
  if 64 ≤ (if falling then a.limitF else a.limitR) ∧ (if falling then a.limitRaisedF else a.limitRaisedR) = false then
    let s := s.modPhase p fun a => if falling then { a with limitRaisedF := true } else { a with limitRaisedR := true }
    .next (s.raise (phDtAdaptLimit p.val) (evData [evU 1 (natOf falling),
      evU 1 (if (dt : Int) ≤ s.fast (phaseIx p 6) 3 then 0 else 1), evU 2 (s.applied p falling)]))
  else .next s

/-- Adaptation of a phase starts from the fixed values (R243, R244). -/
def State.restartAdaptation (s : State) (p : PhaseId) : State :=
  let r := s.nat (phaseIx p 1) 1
  let f := s.nat (phaseIx p 1) 2
  (s.modPhase p fun a =>
    { a with nextR := r, nextF := f, sinceAdaptR := 0, sinceAdaptF := 0, stoppedR := false, stoppedF := false, missR := 0, missF := 0,
             limitR := 0, limitF := 0, limitRaisedR := false, limitRaisedF := false, nodeR := none,
             nodeF := none }).putBit (phaseIx p 7) 1 6 false

/-! ### Cycle limiting and trips -/

/-- A crossing that has persisted for `clocks` counts once that is its filter (R204): its event once a period, and the action
of 400p5:06 (R253, R255); CYCLE_LIMIT on a phase the Outline controller drives (R360, R487). -/
def State.overcurrent (s : State) (p : PhaseId) (positive : Bool) (clocks : Nat) : State :=
  if s.phaseSensed p && Nat.ble (s.fastNat (phaseIx p 5) 5) clocks then
    let a := s.phases[p]
    let action := if s.outlineDrivenPhase p then 1 else s.fastNat (phaseIx p 5) 6
    let again := if positive then a.ocPos else a.ocNeg
    let s := s.modPhase p fun a => if positive then { a with ocPos := true } else { a with ocNeg := true }
    let s :=
      if action = 1 then
        let s := s.modPhase p fun a =>
          if positive then { a with limitPos := true, limited := true, reference := false }
          else { a with limitNeg := true, limited := true }
        (s.drivePhase p).putBit (phaseIx p 7) 1 8 true
      else if action = 2 then (s.modPhase p fun a => { a with tripOc := true }).trip p
      else s
    if again then s
    else s.raise (if positive then phOcPos p.val else phOcNeg p.val)
      (evData [evI 4 (s.phaseObj p 5 7), evU 1 action])
  else s

/-- A comparator crossing counts (R204). -/
def execOvercurrentCrossing (p : PhaseId) (crossing : Crossing) (s : State) : Host.Outcome State Fault Refusal :=
  .next (s.overcurrent p crossing.positive crossing.clocks)

/-- A level of a TRIP input that has persisted for `clocks` is its filtered level once that is its filter; the active level
of an enabled input trips every phase of its mask (R254). -/
def State.tripInput (s : State) (t : Fin 4) (high : Bool) (clocks : Nat) : State :=
  let c := s.fastNat 0x2630 (1 + t.val)
  if !s.serving || !c.testBit 0 || Nat.blt clocks (bits c 15 8) then s
  else if high != c.testBit 1 then
    let s := (s.putBit 0x2630 6 t.val true).bump 0x2630 (8 + t.val)
    let ps := phaseIds.filter fun p => c.testBit (16 + p.val)
    (ps.foldl State.trip s).raiseTrips (ps.map fun p => (p, t))
  else s.putBit 0x2630 6 t.val false

/-- A TRIP level has persisted for its filter. -/
def execTripInputActive (t : Fin 4) (level : TripLevel) (s : State) : Host.Outcome State Fault Refusal :=
  .next (s.tripInput t level.high level.clocks)

/-- Refusal of a trip clear: a source of a named phase is active (R256). -/
def State.tripClearRule (s : State) (phases : Nat) : Option Nat :=
  if phaseIds.any fun p => phases.testBit p.val && s.tripSource p then
    some 0x08000022
  else none

/-- The latched trips of the named phases release at their next ZERO (R256). -/
def State.clearTrips (s : State) (phases : Nat) : State :=
  s.mapPhases fun p a => if phases.testBit p.val && a.tripped then { a with tripClear := true } else a

/-! ### Reinitialisation (R266) -/

/-- A phase's carry, prescalers and bootstrap count at 0, and its dead times fixed. -/
def State.resetPhase (s : State) (p : PhaseId) : State :=
  let s := s.modPhase p fun a => { a with prescale := Vector.replicate 4 0, bootCount := 0 }
  let s := (s.putObj (phaseIx p 2) 5 0).restartAdaptation p
  (s.putPhaseObj p 1 4 (s.obj (phaseIx p 1) 1)).putPhaseObj p 1 5 (s.obj (phaseIx p 1) 2)

/-! ### Rules of the PWM objects -/

/-- A phase belongs to an enabled rail. -/
def State.inEnabledRail (s : State) (p : PhaseId) : Bool :=
  match s.railOf p with | some r => s.isOn r | none => false

/-- The conversion load of an ADC in conversions per second, and its number of phases, with the assignment of one
phase replaced (R200). -/
def State.adcLoad (s : State) (a : Nat) (p' : Nat) (a' : Nat) : Rat × Nat :=
  (phaseIds.filter fun p => (s.railOf p).isSome && (if p.val = p' then a' else s.nat 0x4120 (1 + p.val)) == a).foldl
    (fun (acc : Rat × Nat) p =>
      let route := s.nat (phaseIx p 3) 5
      let per := (List.range 4).foldl (fun (q : Rat) k =>
        if route.testBit k then q + 1 / (max 1 (s.nat (phaseIx p 3) (1 + k)) : Nat) else q) 0
      (acc.1 + (s.obj 0x2200 9 : Rat) / (max 1 (s.nat (phaseIx p 0) 2) : Nat) * per, acc.2 + 1)) (0, 0)

/-- 4120:0D–0F, computed where an assignment is written and where a rail is enabled (R200). -/
def State.storeAdcLoads (s : State) : State :=
  (List.range 3).foldl (fun (s : State) a => s.putObj 0x4120 (0x0D + a) (roundRat (s.adcLoad a 12 0).1)) s

/-- The filtered active levels of the enabled TRIP inputs, 2630:06 (R254). -/
def State.tripLevels (s : State) : Nat :=
  (List.finRange 4).foldl (fun (v : Nat) t =>
    if s.bit 0x2630 6 t.val && s.fastBit 0x2630 (1 + t.val) 0 then v + 2 ^ t.val else v) 0

/-- The load check of R200. -/
def State.adcOverload (s : State) (p' a' : Nat) : Bool :=
  (List.range 3).any fun a => let l := s.adcLoad a p' a'; decide (12000000 < l.1 ∨ 4 < l.2)

/-- The largest W_min_H + W_min_L exceeds half the period of 2200:09, with one object replaced (R247). -/
def State.pulseTooLong (s : State) (p : PhaseId) (off sub : Nat) (v : Int) : Bool :=
  let pick (o n : Nat) : Int := if o = off ∧ n = sub then v else s.phaseObj p o n
  let dt (falling : Bool) : Int :=
    let fixed := pick 1 (if falling then 2 else 1)
    if (pick 1 3).toNat.testBit (natOf falling) then max fixed (pick 6 4) else fixed
  let f := s.obj 0x2200 9
  let P : Rat := if f = 0 then 0 else (240000000 : Rat) / f * 16 * (max 1 (s.nat (phaseIx p 0) 2) : Nat)
  decide (P / 2 < (dt false + dt true + 2 * pick 2 2 : Int))

/-- A refusal of a write of a phase's PWM objects (R226, R237, R243, R246, R247, R251, R258). -/
def State.pwmRule (s : State) (p : PhaseId) (off sub : Nat) (v : Int) : Option Nat :=
  match off with
  | 0 =>
    if (sub = 1 ∨ sub = 2 ∨ sub = 4) ∧ s.inEnabledRail p = true then some 0x08000022
    else if sub = 2 ∧ (v = 0 ∨ 1500000 * v < s.obj 0x2200 9 ∨ s.obj 0x2200 8 < 20000 * v
        ∨ s.obj 0x2200 7 % v ≠ 0) then some 0x06090030
    else none
  | 1 =>
    if sub = 3 ∧ v ≠ 0 ∧ s.phaseObj p 6 1 = 0 then some 0x06090030
    else if s.pulseTooLong p 1 sub v then some 0x06090030 else none
  | 2 =>
    if sub = 2 ∧ s.pulseTooLong p 2 2 v = true then some 0x06090030
    else if sub = 4 ∧ v ≠ 0 ∧ s.phaseObj p 2 2 = 0 then some 0x06090030
    else none
  | 3 =>
    if sub ≤ 5 ∧ s.inEnabledRail p = true then some 0x08000022
    else if sub = 5 ∧ 2 < (maskList 4 v.toNat).length then some 0x06090030
    else none
  | 4 =>
    if v ≠ 0 ∧ (s.idleContent = false ∨ (s.railOf p).isNone) then some 0x08000022 else none
  | 6 =>
    if sub = 3 ∧ s.phaseObj p 6 4 < v then some 0x06090030
    else if sub = 4 ∧ v < s.phaseObj p 6 3 then some 0x06090030
    else if (sub = 3 ∨ sub = 4) ∧ s.pulseTooLong p 6 sub v = true then some 0x06090030
    else none
  | _ => none

/-- A refusal of a write of the mask sequencer's objects (R260, R262). -/
def State.maskRule (s : State) (sub : Nat) (v : Int) : Option Nat :=
  if sub ≤ 8 ∧ (64 ≤ v ∨ (List.range 3).any (fun i => bits v.toNat (2 * i + 1) (2 * i) == 3) = true) then
    some 0x06090030
  else if (sub = 0x0B ∨ sub = 0x0C) ∧ s.isOn railD = true then some 0x08000022
  else none

end Sys2Proof.Machine
end

