-- ==== Sys2Proof/Machine/Rails.lean ====
section
/-! DEFINITION. Rails, targets and phase management (chapter 08): what a rail does with its target, its envelope,
its active phases and its current, short of the engine's slots. -/

namespace Sys2Proof.Machine

/-! ### The engine sample interval -/

/-- The sample divider k of a rail (R314). -/
def State.sampleDivider (s : State) (r : RailId) : Nat := s.fastNat 0x3800 (4 + r.val)

/-- The engine sample interval T_s in ms (R314). -/
def State.sampleMs (s : State) (r : RailId) : Rat :=
  match s.triggerPhase r with
  | none => 0
  | some p => (s.sampleDivider r * s.meridian.base * s.divider p : Nat) / 3840000

/-! ### Capacity and latency (R317, R318) -/

/-- A slot kind is error-dependent: VOLTAGE or CHARGE (R311). -/
def errorKind (k : Int) : Bool := k == 1 || k == 5

/-- The rail holds an error-dependent slot. -/
def State.hasErrorSlot (s : State) (r : RailId) : Bool :=
  (s.railSlots r).any fun k => errorKind (s.obj (0x3810 + k.val) 2)

/-- The period divider of a rail's phases. -/
def State.railDivider (s : State) (r : RailId) : Nat :=
  match (s.railPhases r).head? with
  | some p => max 1 (s.nat (phaseIx p 0) 2)
  | none => 1

/-- The capacity load in slot-samples per second (R317). -/
def State.capacityLoad (s : State) : Rat :=
  railIds.foldl (fun (q : Rat) r =>
    if s.railType r = 0 then q
    else q + (s.railSlots r).length * (s.obj 0x2200 9 : Rat)
      / (s.railDivider r * max 1 (s.nat 0x3800 (4 + r.val)) : Nat)) 0

/-- The latency L of a rail's error-dependent slot in ns (R318). -/
def State.latency (s : State) (r : RailId) : Rat :=
  let others := (railIds.filter fun q => q != r && s.hasErrorSlot q).length
  120 + 40 * ((s.nat (railIx r 0x50) 6 : Rat) - 1) + (25 / 3 : Rat) * (1 + others) + 250 + 25
    + (if s.railObj r 0x00 2 = 1 then 50 else 150)

/-- The latency check of R318. -/
def State.latencyRule (s : State) : Option Nat :=
  if railIds.any fun r => s.hasErrorSlot r && decide (600 < s.latency r) then some 0x06040047 else none

/-- The capacity and latency check of R31, R317 and R318. -/
def State.capacityRule (s : State) : Option Nat :=
  if 4000000 < s.capacityLoad then some 0x06040047 else s.latencyRule

/-! ### Envelope and targets -/

/-- A limit of the envelope in force (R295). -/
def State.env (s : State) (r : RailId) (sub : Nat) : Int := s.fast (railIx r 0x02) sub

/-- A DERATE response applies to the rail (R296, R463). -/
def State.derates (s : State) (r : RailId) : Bool := s.railResponse r == 3

/-- max_eff (R296). -/
def State.maxEff (s : State) (r : RailId) : Rat :=
  if s.derates r then (s.env r 2 * s.env r 0x0C : Int) / 100 else s.env r 2

/-- The positive phase limit the moving limit goes to (R296). -/
def State.posGoal (s : State) (r : RailId) : Rat :=
  if s.derates r then (s.env r 8 * s.env r 0x0C : Int) / 100 else s.env r 8

/-- The target of the selected source clamped to the envelope (R287). -/
def State.clampedTarget (s : State) (r : RailId) : Int :=
  roundRat (clampRat s.rails[r].source (s.env r 1) (s.maxEff r))

/-- The applied target computed; a clamp that begins, or a new target that is clamped, raises RL_TARGET_CLAMP
(R287). A rail in a soft stop keeps 0 (R280). -/
def State.applyTarget (s : State) (r : RailId) (fresh : Bool) : State :=
  let a := s.rails[r]
  let t := s.clampedTarget r
  let clamped := t != a.source
  let s := s.modRail r fun a => { a with clamped := clamped }
  let s := if a.stop = .soft ∨ (r = railD ∧ s.drive.reversing = true) then s else s.putRailObj r 0x10 7 t
  if clamped && (fresh || !a.clamped) then
    s.raise (rlTargetClamp r.val) (evData [evI 4 a.source, evI 4 t])
  else s

/-- A target from the selected source (R287). -/
def State.retarget (s : State) (r : RailId) (v : Int) : State :=
  (s.modRail r fun a => { a with source := v }).applyTarget r true

/-- The applied target while no profile step holds it, in 1/65 536 mV. -/
def State.goal (s : State) (r : RailId) : Int := s.railObj r 0x10 7 * 65536

/-- The applied up and down rates (R288), and the off rate of a soft stop (R280). -/
def State.upRate (s : State) (r : RailId) : Int := min (s.fast (railIx r 0x10) 4) (s.env r 3)
/-- See `upRate`. -/
def State.downRate (s : State) (r : RailId) : Int := min (s.fast (railIx r 0x10) 5) (s.env r 4)
/-- See `upRate`. -/
def State.offRate (s : State) (r : RailId) : Int := min (s.fast (railIx r 0x10) 6) (s.env r 4)

/-- One ramp step of V_r (R288). -/
def rampStep (vr goal up down : Int) : Int :=
  if vr < goal then min (vr + up) goal else if goal < vr then max (vr - down) goal else vr

/-- V_r set, with 3r10:08 (R288). -/
def State.setVr (s : State) (r : RailId) (vr : Int) : State :=
  (s.modRail r fun a => { a with vr := vr }).putRailObj r 0x10 8 (roundDiv vr 65536)

/-- What V_r ramps to: the applied target, or, while an aborted profile holds it, its own value as far as the target range
admits it (R289, R295). -/
def State.rampGoal (s : State) (r : RailId) : Int :=
  let a := s.rails[r]
  if a.holding && a.stop == .none then
    clampInt a.vr (s.env r 1 * 65536) (roundRat (s.maxEff r * 65536))
  else s.goal r

/-- V_r ramps at a boundary (R280, R288); the soft stop of a STORE rail leaves it. -/
def State.ramp (s : State) (r : RailId) : State :=
  let a := s.rails[r]
  let perMs := s.sampleMs r * 65536
  if a.stop = .hard ∨ (a.stop = .soft ∧ s.railType r = 2) then s
  else
    let down := if a.stop = .soft then s.offRate r else s.downRate r
    let vr := rampStep a.vr (s.rampGoal r) (roundRat (s.upRate r * perMs)) (roundRat (down * perMs))
    let s := s.setVr r vr
    if a.softStart && vr == s.goal r then s.modRail r fun a => { a with softStart := false } else s

/-! ### Envelope at a boundary (R295) -/

/-- A pending envelope change is taken: its event, and what a narrowed limit starts. -/
def State.takeEnvelope (s : State) (r : RailId) (sub level : Nat) : State :=
  let old := s.env r sub
  let new := s.railObj r 0x02 sub
  let s := s.modRail r fun a =>
    { a with movePos := if sub = 8 ∨ (sub = 0x0C ∧ a.derated = true) then 64 else a.movePos,
             moveNeg := if sub = 9 then 64 else a.moveNeg,
             moveDuty := if sub = 0x0B then 64 else a.moveDuty,
             oldOv := if sub = 5 ∧ new < old then some (a.oldOv.getD old) else a.oldOv }
  s.raise (rlEnvChange r.val) (evData [evU 1 sub, evU 1 level, evU 2 0, evI 4 new])

/-- The rail a dictionary key belongs to (R17). -/
def State.keyRail (s : State) (k : Nat) : Option RailId :=
  let ix := k / 256
  if 0x3000 ≤ ix ∧ ix < 0x3500 then some (Fin.ofNat 5 ((ix - 0x3000) / 256))
  else if 0x3810 ≤ ix ∧ ix < 0x3850 then
    railIds.find? fun r => s.obj (0x3810 + ix % 16) 1 == r.val
  else if 0x4000 ≤ ix ∧ ix < 0x40C0 then s.railOf (Fin.ofNat 12 ((ix - 0x4000) / 16))
  else none

/-- Configuration written for the rail, or for no rail, reaches the fast path at its boundary (R17); that of metrology,
at 5000 and above, waits for its own. -/
def State.freshen (s : State) (r : RailId) : State :=
  (s.setStale (s.stale.filter fun (c : Nat × Int) =>
      Nat.ble 0x500000 c.1 || match s.keyRail c.1 with | some q => q != r | none => false))

/-- A limit's move of one sample towards its goal: a widened limit at once, a narrowed one in equal steps. -/
def moveLimit (now goal : Rat) (widened : Bool) (left : Nat) : Rat :=
  if widened || left = 0 then goal else now + (goal - now) / left

/-- The limits move, and the old over-voltage limit falls once V_r is within the new range (R295, R296). -/
def State.moveLimits (s : State) (r : RailId) : State :=
  let a := s.rails[r]
  let derates := s.derates r
  let left := if derates && !a.derated then 64 else if a.derated && !derates then 0 else a.movePos
  let pos := s.posGoal r
  let neg : Rat := s.env r 9
  let duty : Rat := s.env r 0x0B
  s.modRail r fun a =>
    { a with posLimit := moveLimit a.posLimit pos (a.posLimit ≤ pos) left,
             negLimit := moveLimit a.negLimit neg (neg ≤ a.negLimit) a.moveNeg,
             maxDuty := moveLimit a.maxDuty duty (a.maxDuty ≤ duty) a.moveDuty,
             movePos := left - 1, moveNeg := a.moveNeg - 1, moveDuty := a.moveDuty - 1, derated := derates,
             oldOv := if a.vr ≤ s.env r 2 * 65536 then none else a.oldOv }

/-- The envelope of a rail is taken at its boundary. -/
def State.envelopeBoundary (s : State) (r : RailId) : State :=
  let s := s.rails[r].envPending.foldl (fun (s : State) (c : Nat × Nat) => s.takeEnvelope r c.1 c.2) s
  let s := (s.modRail r fun a => { a with envPending := [] }).freshen r
  (s.moveLimits r).applyTarget r false

/-- The over-voltage limit that acts (R295, R297). -/
def State.ovLimit (s : State) (r : RailId) : Int := s.rails[r].oldOv.getD (s.env r 5)

/-! ### Phase regulation (R272–R276) -/

/-- The bus voltage of a rail, from the AUX channel of 3r00:04; `none` for 0xFF. -/
def State.busVoltage (s : State) (r : RailId) : Option Int :=
  let c := s.nat (railIx r 0x00) 4
  if c < 8 then some (s.obj 0x4130 (0x16 + 8 * c)) else none

/-- 65 536 × V / V_bus for a voltage in mV; 0 without a bus channel, free with a bus of 0 mV (log 10). -/
def State.busRatio (s : State) (r : RailId) (mv : Rat) : Rat :=
  match s.busVoltage r with
  | none => 0
  | some b => if b = 0 then s.unstated 2 else 65536 * mv / b

/-- FF of the phase regulator (R274), and of drive rail D, 0 or above (R349). -/
def State.feedForward (s : State) (r : RailId) : Rat :=
  if r = railD then max 0 (s.busRatio r ((s.obj 0x3400 0x12 * s.obj 0x3448 1 : Int) / 1000))
  else s.busRatio r ((s.rails[r].vr : Rat) / 65536)

/-- D_max in 1/65 536 (R274). -/
def State.dMax (s : State) (r : RailId) : Rat := s.rails[r].maxDuty * 65536 / 10000

/-- Compare A of a phase from its duty (R274). -/
def State.setDuty (s : State) (p : PhaseId) (d : Rat) : State :=
  s.modPhase p fun a =>
    let P := a.period
    { a with duty := d, compare := (clampInt (roundRat (d * P / 65536)) 0 0xFFFFF).toNat }

/-- The demand of a phase, a phase being shed among them (R303). -/
def Phase.demandNow (a : Phase) : Rat := if a.shedding then a.demand * a.shedLeft / 4 else a.demand

/-- The phase regulator of a CURRENT rail (R274); only a conversion integrates. -/
def State.regulate (s : State) (r : RailId) (p : PhaseId) (integrate : Bool) : State :=
  let a := s.phases[p]
  let e : Rat := a.demandNow - s.phaseObj p 5 7
  let base := s.feedForward r + s.fast (railIx r 0x00) 5 * e / 1000
  let next := a.iAcc + s.fast (railIx r 0x00) 6 * e / 1000
  let within := decide (0 ≤ base + next ∧ base + next ≤ s.dMax r)
  let i := if integrate && within then next else a.iAcc
  (s.modPhase p fun a => { a with iAcc := i }).setDuty p (clampRat (base + i) 0 (s.dMax r))

/-- A CURRENT rail regulates its switching phases one by one. -/
def State.currentMode (s : State) (r : RailId) : Bool := s.railObj r 0x00 2 == 0

/-- The regulator runs at a phase's conversion, the oldest of its ADC (R199, R274). -/
def State.conversionDone (s : State) (p : PhaseId) (code : Nat) : State :=
  let a := s.adcOf p
  if s.adcs[a].head? = some p.val then
    let s := (s.setAdcs (s.adcs.set a s.adcs[a].tail))
    let s := s.takeCurrent p code
    match s.railOf p with
    | some r =>
      if s.phases[p].switching && s.phases[p].mask == 1 && s.currentMode r && !s.outlineDrivenPhase p then
        s.regulate r p true
      else s
    | none => s
  else s

/-- A conversion result reaches the phase regulator (R199). -/
def execPhaseCurrentConversionDone (p : PhaseId) (code : BitVec 12) (s : State) :
    Host.Outcome State Fault Refusal :=
  .next (s.conversionDone p code.toNat)

/-- The active phases of a rail, ascending. -/
def State.activePhases (s : State) (r : RailId) : List PhaseId :=
  (s.railPhases r).filter fun p => s.phases[p].active

/-- The number of active phases, 3r40:02. -/
def State.activeCount (s : State) (r : RailId) : Nat := (s.activePhases r).length

/-- The demand of one active phase of a DUTY rail (R275), with the floor of a soft start (R279). -/
def State.phaseDuty (s : State) (r : RailId) (p : PhaseId) (d : Rat) : Rat :=
  let a := s.rails[r]
  let d := d + s.phases[p].trim
  clampRat (if a.softStart then max d (roundRat (s.busRatio r a.vm)) else d) 0 (s.dMax r)

/-- The trim of a phase of a DUTY rail, once a switching period (R275). -/
def State.trimPhase (s : State) (r : RailId) (p : PhaseId) : State :=
  let ps := s.activePhases r
  let mean := meanRat (ps.map fun q => s.phaseObj q 5 7)
  let step := s.fast (railIx r 0x00) 7 * (mean - s.phaseObj p 5 7) / 1000
  let s := s.modPhase p fun a => { a with trim := clampRat (a.trim + step) (-1311) 1311 }
  s.setDuty p (s.phaseDuty r p s.rails[r].demand)

/-- The current limits of a rail's phases (R273), come down in the soft stop of a STORE rail (R280). -/
def State.currentLimits (s : State) (r : RailId) : Rat × Rat :=
  let a := s.rails[r]
  if s.railType r = 2 then (min 0 (a.negLimit + a.storeDrop), max 0 (a.posLimit - a.storeDrop))
  else (a.negLimit, a.posLimit)

/-- What the winning demand is divided by: the active count, or N_s on the lead of a spanning rail (R273, R386). -/
def State.shareCount (s : State) (r : RailId) (n : Nat) : Rat :=
  let i := s.nat (railIx r 0x01) 3
  if h : i < 4 then
    if s.railObj r 0x10 2 ≠ 4 ∧ r ≠ railD ∧ s.ring.count[i] ≠ 0 then s.ring.count[i] else n
  else n

/-- The demand of a CURRENT rail shared among its active phases, less what a phase being shed still has (R273, R279,
R303). -/
def State.shareDemand (s : State) (r : RailId) (demand : Int) : State :=
  let ps := s.activePhases r
  let a := s.rails[r]
  let shedding := (s.railPhases r).foldl (fun (q : Rat) p =>
    if s.phases[p].shedding then q + s.phases[p].demandNow else q) 0
  let lim := s.currentLimits r
  let lo := if a.softStart && s.railType r == 1 then max 0 lim.1 else lim.1
  let want := (demand - shedding) / s.shareCount r ps.length
  let each := clampRat want lo lim.2
  let s := s.modRail r fun a => { a with allClamped := each != want }
  ps.foldl (fun (s : State) p =>
    (s.modPhase p fun a => { a with demand := each }).regulate r p false) s

/-- ZERO of a phase, with the trim of a DUTY rail; the others take up what a phase being shed gives away (R275, R303). -/
def State.phaseZero (s : State) (p : PhaseId) : State :=
  let shed := s.phases[p].shedding
  let s := s.pwmZero p
  match s.railOf p with
  | some r =>
    if s.currentMode r then
      (if shed && s.rails[r].running && s.activeCount r != 0 then s.shareDemand r s.rails[r].demand else s)
    else if s.phases[p].active && s.phases[p].switching && r != railD then s.trimPhase r p
    else s
  | none => s

/-- ZERO. -/
def execPwmZero (p : PhaseId) (s : State) : Host.Outcome State Fault Refusal := .next (s.phaseZero p)

/-- The winning demand distributed to the active phases (R273, R275, R279). -/
def State.distribute (s : State) (r : RailId) (demand : Int) : State :=
  let ps := s.activePhases r
  let n := ps.length
  let a := s.rails[r]
  let sign := decide (demand < 0)
  let s := s.modRail r fun a => { a with demand := demand, negative := sign }
  let s := if r != railD && s.railType r = 2 && sign != a.negative then s.bump (railIx r 0x40) 7 else s
  if n = 0 then s
  else if s.currentMode r then s.shareDemand r demand
  else
    let d : Rat := demand
    let s := s.modRail r fun a => { a with allClamped := decide (d ≤ 0 ∨ s.dMax r ≤ d) }
    ps.foldl (fun (s : State) p => s.setDuty p (s.phaseDuty r p d)) s

/-- 3r48:02–04 at a boundary (R276): the sum of the active phases' currents with a remote term (R390), the power and
the mean duty. The current of drive rail D is that of the phase in state PWM (R348). -/
def State.measureRail (s : State) (r : RailId) (remote : Rat) : State :=
  let ps := s.activePhases r
  let own := if r = railD then ps.filter fun p => s.phases[p].mask == 1 else ps
  let i := own.foldl (fun (q : Int) p => q + s.phaseObj p 5 7) 0 + roundRat remote
  let d := if ps.isEmpty then 0 else ps.foldl (fun (q : Rat) p => q + s.phases[p].duty) 0 / ps.length
  let s := (s.putRailObj r 0x48 2 i).putRailObj r 0x48 4 (roundRat d)
  if r = railD then s else s.putRailObj r 0x48 3 (roundDiv (s.railObj r 0x48 1 * i) 1000)

/-! ### Active phases and shedding (R300–R304) -/

/-- The entries of a shed table, up to the first with COUNT 0 (R300). -/
def State.shedTable (s : State) (r : RailId) : List Nat :=
  ((List.range 8).map fun i => s.nat (railIx r 0x30) (1 + i)).takeWhile fun v => v % 256 != 0

/-- COUNT, DWELL, ADD and SHED of an entry. -/
def shedCount (v : Nat) : Nat := v % 256
/-- See `shedCount`. -/
def shedAdd (v : Nat) : Int := 10 * (bits v 47 32 : Nat)
/-- See `shedCount`. -/
def shedBelow (v : Nat) : Int := 10 * (bits v 63 48 : Nat)

/-- The entry whose COUNT is nearest at or above a count, by place from 0 (R302). -/
def shedEntry (t : List Nat) (n : Nat) : Nat := (t.findIdx? fun v => Nat.ble n (shedCount v)).getD (t.length - 1)

/-- The shifts of the active phases of an AUTO rail (R304). -/
def State.interleave (s : State) (r : RailId) : State :=
  if s.railObj r 0x01 2 = 0 then
    let ps := s.activePhases r
    (ps.zipIdx).foldl (fun (s : State) (c : PhaseId × Nat) =>
      s.modPhase c.1 fun a => { a with auto := some (roundDiv (65536 * c.2) ps.length) }) s
  else s

/-- What follows every change of the active set: its objects, the shifts, and the trims at 0 (R275). -/
def State.activeChanged (s : State) (r : RailId) : State :=
  let ps := s.activePhases r
  let mask := ps.foldl (fun (v : Nat) p => v + 2 ^ p.val) 0
  let t := if r = railD then [] else s.shedTable r
  let s := (s.putRailObj r 0x40 2 ps.length).putRailObj r 0x40 3 mask
  let s := if r = railD then s
    else s.putRailObj r 0x30 0x0B (if t.isEmpty ∨ ps.isEmpty then 0 else shedEntry t ps.length + 1 : Nat)
  let s := (s.railPhases r).foldl (fun (s : State) p => s.modPhase p fun a => { a with trim := 0 }) s
  s.interleave r

/-- The lowest-numbered inactive phases join until `n` are active (R303). -/
def State.addPhases (s : State) (r : RailId) (n cause : Nat) : State :=
  let more := ((s.railPhases r).filter fun p => !s.phases[p].active).take (n - s.activeCount r)
  let s := more.foldl (fun (s : State) p => s.modPhase p fun a =>
    { a with active := true, shedding := false, shedLeft := 0, stopDue := false }) s
  let s := (s.activeChanged r).modRail r fun a => { a with dwell := false, shedDue := false }
  s.raise (rlPhaseAdd r.val) (evData [evU 1 (s.activeCount r), evU 1 cause])

/-- The highest-numbered active phase is shed (R303). -/
def State.shedPhase (s : State) (r : RailId) : State :=
  match (s.activePhases r).getLast? with
  | none => s
  | some p =>
    let s := s.modPhase p fun a =>
      if s.currentMode r then { a with active := false, shedding := true, shedLeft := 4 }
      else { a with active := false, stopDue := true }
    let s := (s.activeChanged r).modRail r fun a => { a with shedDue := false, dwell := false }
    s.raise (rlPhaseShed r.val) (evData [evU 1 (s.activeCount r)])

/-- Adding and shedding at a boundary (R302). -/
def State.shedBoundary (s : State) (r : RailId) : State :=
  let t := s.shedTable r
  let n := s.activeCount r
  let k := shedEntry t n
  let i := s.railObj r 0x48 2
  let flags := s.nat (railIx r 0x30) 9
  let last := t.getLast?.elim 0 shedCount
  if t.isEmpty || n = 0 then s
  else if flags.testBit 1 && n < last && decide (s.railObj r 0x50 8 ≤ -(s.railObj r 0x30 0x0A)) then
    s.addPhases r last 1
  else if k + 1 < t.length ∧ shedAdd (t.getD k 0) < i then s.addPhases r (shedCount (t.getD (k + 1) 0)) 0
  else if s.rails[r].shedDue && s.rails[r].window then s.shedPhase r
  else
    let below := decide (1 ≤ k ∧ i < shedBelow (t.getD k 0))
    s.modRail r fun a => { a with dwell := below, shedDue := a.shedDue && below }

/-- The dwell of a rail below SHED ends: one phase is shed, or waits for the window (R302). -/
def State.shedDwell (s : State) (r : RailId) : State :=
  if s.rails[r].dwell && s.rails[r].running && s.rails[r].stop == .none then
    if (s.nat (railIx r 0x30) 9).testBit 0 && !s.rails[r].window then
      s.modRail r fun a => { a with shedDue := true }
    else s.shedPhase r
  else s

/-- SHED_DWELL_EXPIRY (R302). -/
def execShedDwellExpiry (r : VRailId) (s : State) : Host.Outcome State Fault Refusal :=
  .next (s.shedDwell (vrail r))

/-! ### Enabling -/

/-- Why a member of a spanning rail may not be enabled (R385). -/
def State.spanRule (s : State) (r : RailId) : Option Nat :=
  let i := s.nat (railIx r 0x01) 3
  if h : i < 4 then
    if r == railD || (s.railType r == 1 && s.currentMode r && (s.shedTable r).isEmpty && s.obj 0x2400 2 == 4
        && (s.nat 0x2008 6 % 8 == 0 || s.ring.aligned) && !s.ring.spanBad[i]) then none
    else some 0x08000022
  else none

/-- Why a rail may not be enabled now (R277), as the abort code of its refusal; none where it may. -/
def State.enableRule (s : State) (r : RailId) : Option Nat :=
  let ps := s.railPhases r
  let same (f : PhaseId → Int) : Bool := match ps with | [] => true | p :: rest => rest.all fun q => f q == f p
  if s.can.nmt != .operational || s.power != 4 || s.nat 0x2100 3 == 1 || s.railType r == 0 then some 0x08000022
  else if ps.isEmpty || (s.railSlots r).isEmpty then some 0x08000022
  else if !s.supply.vpwm || s.outline.active || Nat.ble 4 (s.railResponse r) || s.funcState r.val != 0 then
    some 0x08000022
  else if s.railType r == 1 && (s.phaseMask r &&& s.nat 0x2330 3) != s.phaseMask r then some 0x08000022
  else if (s.spanRule r).isSome then s.spanRule r
  else if !(same (fun p => s.phaseObj p 0 1) && same (fun p => s.phaseObj p 0 2)) then some 0x06090030
  else if s.adcOverload 12 0 then some 0x06040047
  else s.capacityRule

/-- The applied direction 4110:0B takes a value, and 3448:01 follows it (R345). -/
def State.applyDirection (s : State) (v : Int) : State :=
  let speed := s.obj 0x3448 5
  (s.putObj 0x4110 0x0B v).putObj 0x3448 1 (if v = 1 then -speed else speed)

/-- What the enable of drive rail D writes (R354, R358): the applied direction and the mask following Hall; the
intervals count from here (R344). -/
def State.startDrive (s : State) : State :=
  (s.setDrive { s.drive with hold := 0, intervals := [], reversing := false })
    |>.applyDirection (s.obj 0x3400 0x0B) |>.putObj 0x4110 0x0C 0xFF

/-- ON is taken: the start waits for the next boundary (R278). Prescalers, trims and adaptation restart (R236,
R243, R275). -/
def State.enable (s : State) (r : RailId) : State :=
  let s := (s.putRailObj r 0x00 3 1).storeAdcLoads
  let s := if r = railD then s.startDrive else s
  let s := s.modRail r fun a =>
    { a with starting := true, stop := .none, responseOff := false, hiccup := false, storeDrop := 0,
             ringFrom := none, ringFall := 0,
             held := Vector.replicate 4 (-1) }
  (s.railPhases r).foldl (fun (s : State) p =>
    (s.modPhase p fun a => { a with prescale := Vector.replicate 4 0, trim := 0, stopDue := false }).restartAdaptation
      p) s

/-- The count the rail starts with: COUNT of the last entry, or every mapped phase (R278). -/
def State.startCount (s : State) (r : RailId) : Nat :=
  if r = railD then (s.railPhases r).length
  else match (s.shedTable r).getLast? with
    | some v => min (shedCount v) (s.railPhases r).length
    | none => (s.railPhases r).length

/-- The first boundary after ON (R278, R279, R339). The slots start afresh unless the rail was still stopping. -/
def State.beginRun (s : State) (r : RailId) : State :=
  let vm := if r = railD then max 0 (s.railObj r 0x48 1) else s.railObj r 0x48 1
  let fresh := !s.rails[r].running
  let s := s.modRail r fun a =>
    { a with starting := false, running := true, softStart := vm * 65536 != s.goal r, vm := vm, holding := false,
             negative := a.negative && !fresh,
             chatterSamples := if fresh then 0 else a.chatterSamples,
             chatterCount := if fresh then 0 else a.chatterCount,
             chatterRaised := a.chatterRaised && !fresh }
  let s := s.setVr r (vm * 65536)
  let chosen := (s.railPhases r).take (s.startCount r)
  let s := (s.railPhases r).foldl (fun (s : State) p => s.modPhase p fun a =>
    { a with active := chosen.contains p, stopDue := a.switching && !chosen.contains p, shedding := false,
             shedLeft := 0 }) s
  let s := s.activeChanged r
  if fresh then (s.railSlots r).foldl (fun (s : State) k => s.modSlot k fun a => { a with fresh := true }) s else s

/-- The enable object is written (R277, R280, R281); a repeated write changes nothing. -/
def State.writeEnable (s : State) (r : RailId) (v : Int) : State :=
  if v = s.railObj r 0x00 3 then s
  else if v = 1 then s.enable r
  else if v = 0 then (s.softStop r 1).putRailObj r 0x00 3 0
  else (s.hardStop r 2).putRailObj r 0x00 3 2

/-! ### Protection and hiccup (R297–R299) -/

/-- The protection conditions of rails 0–3 (R297): OV, UV, OC. -/
def State.conditions (s : State) (r : RailId) : List Bool :=
  let v := s.railObj r 0x48 1
  let margin := s.env r 6
  let a := s.rails[r]
  let uv :=
    if margin = 0 then false
    else if s.railType r = 2 then decide (v < s.env r 1 - margin)
    else !a.softStart && decide ((v + margin) * 65536 < a.vr)
  [decide (s.ovLimit r < v), uv, decide (s.env r 0x0A < s.railObj r 0x48 2 ∨ s.railObj r 0x48 2 < -s.env r 0x0A)]

/-- The time a condition has held, after one sample more (R297). -/
def heldNext (h : Rat) (now : Bool) (us : Rat) : Rat := if !now then -1 else if h < 0 then 0 else h + us

/-- The condition times at a boundary. -/
def State.checkProtection (s : State) (r : RailId) (conds : List Bool) : State :=
  let us := s.sampleMs r * 1000
  let on := s.isOn r && s.rails[r].running && s.rails[r].stop == .none
  s.modRail r fun a =>
    { a with held := Vector.ofFn fun (c : Fin 4) =>
        if c = 3 then a.held[c] else heldNext a.held[c] (on && conds.getD c.val false) us }

/-- The final event of a condition (R298). -/
def State.faultData (s : State) (r : RailId) (cond : Fin 4) (ms : Nat) : Nat × Nat :=
  let v := s.railObj r 0x48 1
  if cond = 0 then (rlOv r.val, evData [evI 4 v, evI 4 (s.env r 5)])
  else if cond = 1 then (rlUv r.val, evData [evI 4 v, evI 4 (roundDiv s.rails[r].vr 65536)])
  else if cond = 2 then (rlOc r.val, evData [evI 4 (s.railObj r 0x48 2), evI 4 (s.env r 0x0A)])
  else (rlStall r.val, evData [evU 4 ms])

/-- A counted condition (R298): a hard stop, then RL_HICCUP or the final event. -/
def State.countCondition (s : State) (r : RailId) (cond : Fin 4) (ms : Nat) : State :=
  let final := s.faultData r cond ms
  let n := min 255 (s.railObj r 0x40 4 + 1)
  let s := (s.hardStop r 7).putRailObj r 0x40 4 n
  let s := s.modRail r fun a => { a with held := Vector.replicate 4 (-1) }
  if n ≤ s.railObj r 0x00 8 then
    (s.modRail r fun a => { a with hiccup := true }).raise (rlHiccup r.val) (evData [evU 1 cond.val, evU 1 n])
  else (s.putRailObj r 0x00 3 2).raise final.1 final.2

/-- A protection condition has held for its delay (R297, R298); STALL is a condition of drive rail D (R356). -/
def execProtectionConditionCounted (r : RailId) (cond : Fin 4) (s : State) : Host.Outcome State Fault Refusal :=
  let a := s.rails[r]
  if (cond != 3 || r == railD) && s.isOn r && a.stop == .none && a.running
      && decide (0 ≤ a.held[cond] ∧ (s.env r 7 : Rat) ≤ a.held[cond]) then
    .next (s.countCondition r cond (s.nat (railIx r 0x00) 0x11))
  else .next s

/-- The hiccup delay ends: a restart under R278, or the rail stays off (R299). -/
def State.hiccupOver (s : State) (r : RailId) : State :=
  if s.rails[r].hiccup then
    let s := s.modRail r fun a => { a with hiccup := false }
    match s.enableRule r with
    | none => s.enable r
    | some _ => (s.putRailObj r 0x00 3 0).putRailObj r 0x40 6 7
  else s

/-- HICCUP_DELAY_EXPIRY (R299). -/
def execHiccupDelayExpiry (r : RailId) (s : State) : Host.Outcome State Fault Refusal := .next (s.hiccupOver r)

/-- The attempt count returns to 0 after a run without a counted condition (R299). -/
def execHiccupResetTimeExpiry (r : RailId) (s : State) : Host.Outcome State Fault Refusal :=
  if s.isOn r && s.rails[r].running && !s.rails[r].softStart && s.rails[r].stop == .none then
    .next (s.putRailObj r 0x40 4 0)
  else .next s

/-! ### Profiles (R289, R290) -/

/-- The target of a profile step; `none` at the step that ends the profile. -/
def State.profileTarget (s : State) (r : RailId) (i : Nat) : Option Int :=
  if i = 0 ∨ 4 < i then none
  else
    let v := s.railObj r 0x10 (0x0A + i - 1)
    if v = -0x80000000 then none else some v

/-- Profile step `i` begins, or the profile ends (R289, R290). -/
def State.profileStep (s : State) (r : RailId) (i : Nat) : State :=
  match s.profileTarget r i with
  | some v =>
    let s := (s.putRailObj r 0x10 0x12 i).putRailObj r 0x10 1 v
    (s.modRail r fun a => { a with profile := true, holding := false }).retarget r v
  | none => (s.putRailObj r 0x10 0x12 0).modRail r fun a => { a with profile := false }

/-- The profile is aborted and V_r holds (R289). -/
def State.profileAbort (s : State) (r : RailId) : State :=
  if s.rails[r].profile then
    (s.putRailObj r 0x10 0x12 0).modRail r fun a => { a with profile := false, holding := true }
  else s

/-- The hold of a profile step expires (R289). -/
def execProfileStepHoldExpiry (r : RailId) (s : State) : Host.Outcome State Fault Refusal :=
  if s.rails[r].profile && s.rails[r].vr == s.goal r then
    .next (s.profileStep r (s.nat (railIx r 0x10) 0x12 + 1))
  else .next s

/-- A target accepted from the selected source (R285, R290). -/
def State.acceptTarget (s : State) (r : RailId) (v : Int) : State :=
  let s := (s.putRailObj r 0x10 1 v).putRailObj r 0x10 0x12 0
  (s.modRail r fun a => { a with profile := false, holding := false }).retarget r v

/-! ### Reinitialisation (R308) -/

/-- The limits of the envelope act as the dictionary has them, with no move. -/
def State.takeLimits (s : State) (r : RailId) : State :=
  let s := (s.freshen r).modRail r fun a => { a with envPending := [], movePos := 0, moveNeg := 0, moveDuty := 0, oldOv := none }
  s.modRail r fun a =>
    { a with posLimit := s.posGoal r, negLimit := s.env r 9, maxDuty := s.env r 0x0B, derated := s.derates r }

/-- The applied target clamped and the rail still, as after a reset (R307, R308). -/
def State.resetRail (s : State) (r : RailId) : State :=
  let s := s.takeLimits r
  let s := (s.setVr r 0).putRailObj r 0x40 4 0
  let s := ((s.putRailObj r 0x40 5 0).putRailObj r 0x40 7 0).putRailObj r 0x10 0x12 0
  let s := s.modRail r fun a => { a with profile := false, holding := false, held := Vector.replicate 4 (-1) }
  (s.railPhases r).foldl (fun (s : State) p =>
    (s.modPhase p fun a => { a with trim := 0, iAcc := 0 }).resetPhase p) s

/-! ### Rules of the rail objects -/

/-- A spanning rail is led from another position: from a lower one, the lead being the lowest a spanning rail has (R381),
and, while the ring is UP, from one that reports so (R286, log 138). -/
def State.ledElsewhere (s : State) (i : Nat) : Bool :=
  let own := s.nat 0x2008 6 % 8
  if h : i < 4 then
    own != 0 && (s.obj 0x2400 2 != 4 || (List.finRange 8).any fun p =>
      Nat.blt p.val own && s.ring.members[p].present && s.ring.members[p].leads[i])
  else false

/-- The codes of a rail's sources, and what RING_LEAD asks (R286). -/
def State.sourceRule (s : State) (r : RailId) (v : Int) : Option Nat :=
  if r = railD then (if v = 0 ∨ v = 1 ∨ v = 3 then none else some 0x06090030)
  else if v = 4 then (if s.ledElsewhere (s.nat (railIx r 0x01) 3) then none else some 0x06090030)
  else none

/-- The envelope rule of R294 on the state with the change in it. -/
def State.envelopeValid (s : State) (r : RailId) : Bool :=
  let e (n : Nat) : Int := s.railObj r 0x02 n
  decide (0 ≤ e 1 ∧ e 1 ≤ e 2 ∧ e 2 < e 5 ∧ 1 ≤ e 3 ∧ 1 ≤ e 4 ∧ e 9 ≤ 0 ∧ 0 ≤ e 8 ∧ 0 < e 0x0A ∧ 1 ≤ e 0x0B
    ∧ e 0x0B ≤ 10000 ∧ 0 ≤ e 0x0C ∧ e 0x0C ≤ 100)
  && (if r = railD then true
      else decide (dacCode (ratioOf (s.railObj r 0x50 1) (s.railObj r 0x50 2)) (s.railObj r 0x50 3) (e 2) ≤ 4095))

/-- The fields of a shed-table entry: COUNT 0 to 12, reserved bits 0 (R300). -/
def shedFields (v : Nat) : Bool := Nat.ble (shedCount v) 12 && bits v 15 8 == 0

/-- The shed-table rule of R301 on the state with the change in it. -/
def State.shedValid (s : State) (r : RailId) : Bool :=
  let t := s.shedTable r
  let pairs := t.zip (t.drop 1)
  pairs.all (fun c => Nat.blt (shedCount c.1) (shedCount c.2) && decide (shedBelow c.2 < shedAdd c.1))
  && (t.getLast?.elim 0 shedCount) ≤ (s.railPhases r).length

/-- A refusal of a write of a rail's objects; `t` is the state with the value in place. -/
def State.railRule (s t : State) (r : RailId) (off sub : Nat) (v : Int) : Option Nat :=
  let busy := s.onOrStopping r
  match off with
  | 0x00 =>
    if (sub = 1 ∨ sub = 2 ∨ sub = 4) ∧ busy = true then some 0x08000022
    else if sub = 2 ∧ v = 1 ∧ (s.railType r = 2 ∨ s.railObj r 0x00 4 = 0xFF) then some 0x06090030
    else if sub = 2 then t.latencyRule
    else if sub = 1 ∧ v = 2 ∧ s.railObj r 0x00 2 = 1 then some 0x06090030
    else if sub = 4 ∧ v = 0xFF ∧ s.railObj r 0x00 2 = 1 then some 0x06090030
    else if sub = 3 ∧ v = 1 ∧ s.railObj r 0x00 3 ≠ 1 then s.enableRule r
    else none
  | 0x01 =>
    if busy then some 0x08000022
    else if sub = 1 then
      if r = railD then
        if v ≠ 0 ∧ v ≠ 0x0E00 then some 0x06090030
        else if v = 0x0E00 ∧ (railIds.any fun q => q != railD && bits (s.phaseMask q) 11 9 != 0) = true then
          some 0x06090030
        else if v = 0 ∧ (s.railSlots railD).isEmpty = false then some 0x06090030
        else none
      else if 0x1000 ≤ v then some 0x06090030
      else if (railIds.any fun q => q != r && (s.phaseMask q &&& v.toNat) != 0) = true then some 0x06090030
      else none
    else none
  | 0x02 => if t.envelopeValid r then none else some 0x06090030
  | 0x10 => if sub = 2 then (if busy then some 0x08000022 else s.sourceRule r v) else none
  | 0x30 =>
    if busy then some 0x08000022
    else if sub ≤ 8 ∧ shedFields v.toNat = false then some 0x06090030
    else if t.shedValid r then none else some 0x06090030
  | _ => none

end Sys2Proof.Machine
end

