-- ==== Sys2Proof/Machine/Casup.lean ====
section
/-! DEFINITION. The Casup metrology unit (chapter 12): range selection, calibration chain and the quantities of a
window. Voltages are in mV, currents in mA, powers in µW until they are published. -/

namespace Sys2Proof.Machine

/-! ### Channels -/

/-- The unit runs: from Survey on, with function 5 enabled (R427, R428). -/
def State.metering (s : State) : Bool := s.serving && s.funcState 5 == 0

/-- Channels 0–3, in order. -/
def channels : List (Fin 4) := List.finRange 4

/-- Voltage channel `v` is enabled, 5000:01. -/
def State.vEnabled (s : State) (v : Fin 4) : Bool := (s.fastNat 0x5000 1).testBit v.val

/-- The mode of current channel `i`, 5000:06–09 (R405): 0 OFF, 1 SINGLE, 2 GRADIOMETRIC. -/
def State.iMode (s : State) (i : Fin 4) : Nat := s.fastNat 0x5000 (6 + i.val)

/-- The state with one current channel changed. -/
def State.modCurrent (s : State) (i : Fin 4) (f : CurrentPath → CurrentPath) : State :=
  (s.setMetrology { s.metrology with current := s.metrology.current.set i (f s.metrology.current[i]) })

/-- A channel is held on its low path by R414. -/
def State.lowHeld (s : State) (i : Fin 4) : Bool := s.fast 0x5000 0x18 == 1 && s.metrology.current[i].lowOnly

/-- The present sample of a channel uses the high path (R412, R414). -/
def State.usesHigh (s : State) (i : Fin 4) : Bool := s.metrology.current[i].high && !s.lowHeld i

/-- 5000:19 (R413). -/
def State.reportRange (s : State) : State :=
  s.putObj 0x5000 0x19 (channels.foldl (fun (v : Nat) i =>
    v + natOf (s.usesHigh i) * 2 ^ i.val
      + natOf (Nat.blt 0 s.metrology.current[i].hold || s.lowHeld i) * 2 ^ (4 + i.val)) 0 : Nat)

/-! ### Calibration chain (R416) -/

/-- A calibration value of path `p` in force. -/
def State.pathCal (s : State) (p sub : Nat) : Int := s.fast (0x5010 + p) sub

/-- Path correction of a pin value in µV (R416 step 1). -/
def State.pathCorrect (s : State) (p : Nat) (x : Int) : Rat :=
  (x - s.pathCal p 2 : Int) * (1 + (s.pathCal p 1 : Rat) / 1000000)

/-- The sensor supply correction (R407, R416 step 3); free at a supply reading of 0 mV (log 10). -/
def State.supplyFactor (s : State) : Rat :=
  let c := s.fastNat 0x5000 0x17
  if s.fast 0x5000 0x16 = 1 ∧ c < 8 then
    let v := s.obj 0x4130 (0x16 + 8 * c)
    if v = 0 then s.unstated 12 else 5000 / (v : Rat)
  else 1

/-- A voltage sample in mV at the source (R416 step 4). -/
def State.scaleVoltage (s : State) (v : Fin 4) (x : Int) : Rat :=
  if s.vEnabled v then s.pathCorrect v.val x / 1000 * s.fast 0x5000 (2 + v.val) / 1000 else 0

/-- A current in mA from a corrected value in µV (R416 steps 2 to 4). -/
def State.scaleCurrent (s : State) (i : Fin 4) (high : Bool) (x : Rat) : Rat :=
  let a := s.metrology.current[i]
  let tc := if high then a.tcHigh else a.tcLow
  if s.iMode i = 0 then 0
  else x * (1 + tc / 1000000) * s.supplyFactor / s.fast 0x5000 (0x0A + i.val) * 1000

/-- A current sample in mA on the selected path. -/
def State.currentSample (s : State) (i : Fin 4) (high low : Int) : Rat :=
  if s.usesHigh i then s.scaleCurrent i true (s.pathCorrect (4 + i.val) high)
  else s.scaleCurrent i false (s.pathCorrect (8 + i.val) low)

/-! ### Decimated samples (R412–R415) -/

/-- The magnitude of a value in µV. -/
def mag (x : Rat) : Rat := if x < 0 then -x else x

/-- A decimated value of a current path in µV, calibrated to pin volts (R412, R416 steps 1 and 2). -/
def State.pinVolts (s : State) (i : Fin 4) (high : Bool) (x : Int) : Rat :=
  let a := s.metrology.current[i]
  if high then s.pathCorrect (4 + i.val) x * (1 + a.tcHigh / 1000000)
  else s.pathCorrect (8 + i.val) x * (1 + a.tcLow / 1000000)

/-- The range selection of R412: FS_H is 125 mV, so 15/16 is 117 187.5 µV and 13/16 is 101 562.5 µV. -/
def selectRange (a : CurrentPath) (x : Rat) (overload : Bool) : CurrentPath :=
  if overload then { a with high := false, hold := 8 }
  else if 1875000 ≤ 16 * mag x then { a with high := false }
  else if !a.high && Nat.blt 0 a.hold then { a with hold := a.hold - 1 }
  else if !a.high && decide (16 * mag x < 1625000) then { a with high := true }
  else a

/-- A voltage sample: clipping at 31/32 of 1 V (R415). -/
def State.decimatedVoltage (s : State) (v : Fin 4) (x : Int) : State :=
  let a := s.metrology.voltage[v]
  if s.vEnabled v && decide (968750 ≤ mag x) && !a.clipped then
    let s := (s.setMetrology { s.metrology with voltage := s.metrology.voltage.set v { a with clipped := true } })
    if a.clippedBefore then s else s.raise (mtVClip v.val) (evData [evI 4 (s.obj 0x5030 (0x16 + 8 * v.val))])
  else s

/-- A current sample: selection, the sums of the cross-check, and clipping of the low path at 31/32 of 2 V. -/
def State.decimatedCurrent (s : State) (i : Fin 4) (high low : Int) (overH overL : Bool) : State :=
  if s.iMode i = 0 then s
  else
    let h := s.pinVolts i true high
    let l := s.pinVolts i false low
    let a := selectRange s.metrology.current[i] h overH
    let clip := decide (1937500 ≤ mag low)
    let fits := !overH && !overL && !clip && decide (16 * mag h < 1875000)
    let a := if fits then { a with qualifying := a.qualifying + 1, sumSquares := a.sumSquares + (h - l) * (h - l) }
             else a
    let first := clip && !a.clipped && !a.clippedBefore
    let s := (s.modCurrent i fun _ => { a with clipped := a.clipped || clip }).reportRange
    if first then s.raise (mtIClip i.val) (evData [evI 4 (roundRat (s.scaleCurrent i false (s.pathCorrect (8 + i.val) low)))]) else s

/-- A decimated sample. -/
def State.decimated (s : State) (x : DecimatedSample) : State :=
  if s.metering && s.metrology.discard == 0 then
    match x with
    | .voltage v uV => s.decimatedVoltage v uV
    | .current i h l oh ol => s.decimatedCurrent i h l oh ol
  else s

/-- DECIMATED_SAMPLE (R412). -/
def execDecimatedSample (sample : DecimatedSample) (s : State) : Host.Outcome State Fault Refusal :=
  .next (s.decimated sample)

/-! ### Coherent samples (R410, R411) -/

/-- A coherent sample joins the window, and its energy the half-cycle (R411, R416), once the decimators' output is taken
(R424). -/
def State.coherent (s : State) (pins : CoherentPins) (dt : Nat) : State :=
  if s.metering && s.metrology.discard != 0 then
    s.setMetrology { s.metrology with discard := s.metrology.discard - dt }
  else if s.metering then
    let m := s.metrology
    let x : Sample :=
      { v := Vector.ofFn fun (v : Fin 4) => s.scaleVoltage v pins.vm[v]
        i := Vector.ofFn fun (i : Fin 4) => s.currentSample i pins.imHigh[i] pins.imLow[i]
        dt := dt }
    let locked := s.obj 0x2200 1 == 1
    let s := if s.fast 0x5000 0x16 = 1 then s.tick else s
    (s.setMetrology { m with
      window := (x :: m.window).take 256, half := m.half + 1,
      lockedRun := if locked then m.lockedRun + 1 else 0, dtSum := m.dtSum + dt,
      energy := Vector.ofFn fun (k : Fin 3) => m.energy[k] + x.v[k.val] * x.i[k.val] * dt })
  else s

/-- COHERENT_SAMPLE (R411). -/
def execCoherentSample (paths : CoherentPins) (dt : Nat) (s : State) : Host.Outcome State Fault Refusal :=
  .next (s.coherent paths dt)

/-! ### Quantities of a window (R420, R421) -/

/-- The nearest integer to the square root of a number (R8). -/
def roundSqrt (q : Rat) : Int :=
  let r := Nat.sqrt q.floor.toNat
  if q ≤ 0 then 0 else if ((r : Rat) + 1 / 2) * (r + 1 / 2) ≤ q then r + 1 else r

/-- The sine of k/256 of a turn in 2^−40, over the first quarter. -/
def sineTable : List Int := [
  0, 26983366121, 53950478471, 80885093070, 107770985514, 134591960745, 161331862813, 187974584598,
  214504077523, 240904361213, 267159533123, 293253778120, 319171378006, 344896720990, 370414311084,
  395708777449, 420764883643, 445567536804, 470101796741, 494352884935, 518306193436, 541947293666,
  565261945112, 588236103898, 610855931251, 633107801833, 654978311948, 676454287619, 697522792521,
  718171135775, 738386879591, 758157846761, 777472127994, 796318089088, 814684377941, 832559931389,
  849933981865, 866796063891, 883136020380, 898944008753, 914210506869, 928926318760, 943082580171,
  956670763901, 969682684934, 982110505377, 993946739174, 1005184256622, 1015816288660, 1025836430950,
  1035238647732, 1044017275463, 1052167026225, 1059682990914, 1066560642194, 1072795837223, 1078384820155,
  1083324224394, 1087611074629, 1091242788621, 1094217178761, 1096532453388, 1098187217867, 1099180475430,
  1099511627776]

/-- The sine of k/256 of a turn in 2^−40. -/
def sine (k : Nat) : Int :=
  let n := k % 256
  let q (j : Nat) : Int := sineTable.getD j 0
  if n ≤ 64 then q n else if n ≤ 128 then q (128 - n) else if n ≤ 192 then -q (n - 128) else -q (256 - n)

/-- The cosine of k/256 of a turn in 2^−40. -/
def cosine (k : Nat) : Int := sine (k + 64)

/-- The mean of the squares of samples; 0 of none. -/
def meanSquare (l : List Rat) : Rat :=
  if l.isEmpty then 0 else l.foldl (fun (q : Rat) x => q + x * x) 0 / l.length

/-- P of a mains phase in µW: the mean of v × i (R420). -/
def activeOf (v i : List Rat) : Rat :=
  if v.isEmpty then 0 else (v.zip i).foldl (fun (q : Rat) (c : Rat × Rat) => q + c.1 * c.2) 0 / v.length

/-- The fundamental's sine and cosine sums of samples, newest first, in 2^−40. -/
def fundamental (l : List Rat) : Rat × Rat :=
  l.reverse.zipIdx.foldl (fun (q : Rat × Rat) (c : Rat × Nat) =>
    (q.1 + c.1 * sine c.2, q.2 + c.1 * cosine c.2)) (0, 0)

/-- Q of a mains phase in µvar, from the single-bin transform, positive when current lags (R420). -/
def reactiveOf (v i : List Rat) : Rat :=
  let n := v.length
  let a := fundamental v
  let b := fundamental i
  if n = 0 then 0 else 2 * (a.2 * b.1 - a.1 * b.2) / ((n * n : Nat) * (2 ^ 80 : Nat))

/-- A correction of 5020: entry `j` of mains phase `k` (0–2), or of channel 4 (R421). -/
def State.quantity (s : State) (k : Fin 4) (j : Nat) : Int :=
  s.fast 0x5020 (if k.val = 3 then 0x22 + j else 1 + 11 * k.val + j)

/-- A gain of 5020, 1 + gain × 10⁻⁶. -/
def State.gain (s : State) (k : Fin 4) (j : Nat) : Rat := 1 + (s.quantity k j : Rat) / 1000000

/-- The square of Vrms' in mV², or of Irms' in mA², from samples (R421). -/
def State.rmsSquare (s : State) (k : Fin 4) (current : Bool) (l : List Rat) : Rat :=
  let j := if current then 2 else 0
  let o : Rat := s.quantity k (j + 1)
  s.gain k j * s.gain k j * max 0 (meanSquare l - o * o)

/-- A published value of 32 bits; one outside the format is free (log 10). -/
def State.fitI32 (s : State) (v : Int) : Int :=
  if -0x80000000 ≤ v ∧ v ≤ 0x7FFFFFFF then v else asSigned 32 ((s.unstated 13) % 0x100000000).toNat

/-- The samples of a voltage or current channel, newest first. -/
def voltages (k : Fin 4) (w : List Sample) : List Rat := w.map fun (x : Sample) => x.v[k]

/-- See `voltages`. -/
def currents (k : Fin 4) (w : List Sample) : List Rat := w.map fun (x : Sample) => x.i[k]

/-- P and Q of a mains phase before correction, in µW and µvar. -/
def powers (k : Fin 4) (w : List Sample) : Rat × Rat :=
  (activeOf (voltages k w) (currents k w), reactiveOf (voltages k w) (currents k w))

/-- P'' and Q'' in µW and µvar (R421). -/
def State.corrected (s : State) (k : Fin 4) (w : List Sample) : Rat × Rat :=
  let (p, q) := powers k w
  (s.gain k 4 * (p + s.quantity k 9 * q / 1000000) + 1000 * s.quantity k 5,
   s.gain k 6 * (q - s.quantity k 10 * p / 1000000) + 1000 * s.quantity k 7)

/-- PF in 0.001 from P'' in mW and the square of S'' in mVA²; 0 when S is 0 (R420). -/
def powerFactor (p s2 : Rat) : Int :=
  if s2 ≤ 0 then 0
  else
    let n := roundSqrt (1000000 * p * p / s2)
    clampInt (if p < 0 then -n else n) (-1000) 1000

/-- The values of one channel published over a window, its half-cycle RMS over the open half-cycle (R420). -/
def State.publishChannel (s : State) (k : Fin 4) : State :=
  let w := s.metrology.window
  let half := w.take s.metrology.half
  let base := 0x10 + 8 * k.val
  let v2 := s.rmsSquare k false (voltages k w)
  let i2 := s.rmsSquare k true (currents k w)
  let put (j : Nat) (v : Int) (t : State) : State := t.putObj 0x5030 (base + j) (s.fitI32 v)
  let t := (put 0 (roundSqrt v2) s |> put 1 (roundSqrt i2)
    |> put 6 (roundSqrt (s.rmsSquare k false (voltages k half)))
    |> put 7 (roundSqrt (s.rmsSquare k true (currents k half))))
  if k.val = 3 then t
  else
    let (p, q) := s.corrected k w
    let s2 := s.gain k 8 * s.gain k 8 * v2 * i2 / 1000000
    t |> put 2 (roundRat (p / 1000)) |> put 3 (roundRat (q / 1000)) |> put 4 (roundSqrt s2)
      |> put 5 (powerFactor (p / 1000) s2)

/-- The sum over mains phases 1–3 of a published quantity. -/
def State.phaseSum (s : State) (j : Nat) : Int := s.obj 0x5030 (0x10 + j) + s.obj 0x5030 (0x18 + j) + s.obj 0x5030 (0x20 + j)

/-! ### Quality and cross-check -/

/-- Whether a channel's open half-cycle fails the cross-check: the RMS of x_H − x_L beyond 10 mV (R414). -/
def CurrentPath.fails (a : CurrentPath) : Bool :=
  decide (32 ≤ a.qualifying ∧ (100000000 * a.qualifying : Rat) < a.sumSquares)

/-- A current channel is compensated by a temperature channel (R419). -/
def State.tcChannel (s : State) (i : Fin 4) : Option AuxId :=
  let c := s.fastNat 0x5000 (0x12 + i.val)
  if h : c < 8 then some ⟨c, h⟩ else none

/-- The quality word of the closing half-cycle (R423). -/
def State.qualityWord (s : State) (early : Bool) : Nat :=
  let m := s.metrology
  let on (i : Fin 4) : Bool := s.iMode i != 0
  natOf m.reduced + 2 * natOf (s.obj 0x2200 1 != 1 || Nat.blt m.lockedRun m.window.length) + 4 * natOf (early || Nat.blt m.window.length 256)
    + 8 * natOf (channels.any fun i => on i && m.current[i].fails)
    + 16 * natOf (channels.any fun i => on i && (s.tcChannel i).isSome && (m.current[i].tcOut || m.current[i].tcMissing))
    + 32 * natOf ((channels.any fun v => s.vEnabled v && m.voltage[v].clipped)
        || channels.any fun i => on i && m.current[i].clipped)
    + 64 * natOf (channels.any fun i => on i && s.standing (mtISensorFault i.val))

/-- The cross-check of a channel at the end of a half-cycle (R414). -/
def State.crossCheck (s : State) (i : Fin 4) : State :=
  if s.iMode i = 0 then s
  else
    let a := s.metrology.current[i]
    let rms := roundSqrt (a.sumSquares / a.qualifying)
    let n := min 10 (a.passing + 1)
    let next : CurrentPath :=
      if a.fails then { a with passing := 0, lowOnly := true }
      else { a with passing := n, lowOnly := a.lowOnly && Nat.blt n 10 }
    let s := s.modCurrent i fun _ => { next with qualifying := 0, sumSquares := 0 }
    if a.fails then
      let s := s.bump 0x5000 0x1D
      if a.passing = 10 then s.raise (mtIRangeMismatch i.val) (evData [evU 4 rms]) else s
    else s

/-- TC in ppm of a path at a temperature, and whether it lies outside the table (R419). -/
def State.tcAt (s : State) (p : Nat) (t : Int) : Rat × Bool :=
  let step := s.pathCal p 5
  let d := t - s.pathCal p 4
  let at_ (n : Nat) : Rat := 10 * s.pathCal p (6 + n)
  if d < 0 then (at_ 0, true)
  else if 8 * step < d ∨ step ≤ 0 then (at_ 8, true)
  else
    let n := min 7 (d / step).toNat
    (at_ n + (at_ (n + 1) - at_ n) * (d - n * step) / step, false)

/-- The temperature compensation of a channel, updated at a half-cycle boundary (R419). -/
def State.updateTc (s : State) (i : Fin 4) : State :=
  match s.tcChannel i with
  | none => s.modCurrent i fun a => { a with tcHigh := 0, tcLow := 0, tcOut := false, tcMissing := true }
  | some c =>
    if !s.aux[c].seen then s.modCurrent i fun a => { a with tcHigh := 0, tcLow := 0, tcOut := false, tcMissing := true }
    else
      let t := s.auxObj c 6
      let h := s.tcAt (4 + i.val) t
      let l := s.tcAt (8 + i.val) t
      let was := s.metrology.current[i].tcOut
      let out := h.2 || l.2
      let s := s.modCurrent i fun a => { a with tcHigh := h.1, tcLow := l.1, tcOut := out, tcMissing := false }
      if out && !was then s.raise (mtITcLimit i.val) (evData [evI 2 t]) else s

/-! ### Sensor faults (R408) -/

/-- The current channels a sensor fault is raised on: its own, or every enabled one for the sensor supply. -/
def State.faultChannels (s : State) (i : Fin 4) (cause : Nat) : List (Fin 4) :=
  (if cause = 2 then channels else [i]).filter fun k => s.iMode k != 0

/-- The level of a sensor fault lies outside its window. -/
def sensorOutside (cause mv : Nat) : Bool :=
  if cause = 2 then Nat.blt mv 4500 || Nat.blt 5500 mv else Nat.blt mv 100 || Nat.blt 2400 mv

/-- A pin or the sensor supply has been outside its window for 10 ms (R408). -/
def State.sensorFault (s : State) (i : Fin 4) (cause mv : Nat) : State :=
  if s.metering && sensorOutside cause mv && (cause != 2 || s.fast 0x5000 0x16 == 1) then
    (s.faultChannels i cause).foldl (fun (s : State) k =>
      (s.modCurrent k fun a => { a with fault := a.fault ||| 2 ^ cause }).raise (mtISensorFault k.val)
        (evData [evU 1 cause, evU 2 mv])) s
  else s

/-- SENSOR_FAULT_DETECTED (R408). -/
def execSensorFaultDetected (i : Fin 4) (cause : Fin 3) (mv : BitVec 16) (s : State) :
    Host.Outcome State Fault Refusal :=
  .next (s.sensorFault i cause.val mv.toNat)

/-- Every condition of the channel's sensor fault has been absent for 100 ms (R408). The END record names the lowest
cause that stood; the level is in range and is not given, so it is free (log 10). -/
def State.sensorClear (s : State) (i : Fin 4) : State :=
  let f := s.metrology.current[i].fault
  let cause := if f.testBit 0 then 0 else if f.testBit 1 then 1 else 2
  ((s.modCurrent i fun a => { a with fault := 0 }).endEvent (mtISensorFault i.val)
    (evData [evU 1 cause, leInt 2 (s.unstated 14)])).tick

/-- SENSOR_FAULT_CLEARED (R408). -/
def execSensorFaultCleared (i : Fin 4) (s : State) : Host.Outcome State Fault Refusal := .next (s.sensorClear i)

/-! ### State and rules -/

/-- 5000:1A (R427). -/
def State.metrologyState (s : State) : Nat :=
  if s.funcState 5 = 1 then 4
  else if !s.metering then 0
  else if s.life.settling && !s.metrology.settled then 2
  else if s.metrology.reduced then 1
  else 3

/-- The decimators restart: selection, holds, cross-check runs and TC state are cleared, and the first 2 ms of output are
discarded (R424, R428, R429). -/
def State.restartDecimators (s : State) : State :=
  (s.setMetrology { s.metrology with
      window := [], half := 0, lockedRun := 0, discard := 480000, energy := Vector.replicate 3 0, dtSum := 0,
      current := Vector.ofFn fun (i : Fin 4) => { fault := s.metrology.current[i].fault },
      voltage := Vector.replicate 4 {} }).reportRange

/-- 1.2 × √2 × nominal current × sensitivity exceeds 31/32 of 2 V (R417), in nV squared. -/
def nominalTooHigh (mA uVperA : Int) : Bool := decide (1937500000 * 1937500000 * 100 < 288 * (mA * uVperA) * (mA * uVperA))

/-- A refusal of a write of 5000 or 5060; `t` is the state with the value in place. -/
def State.casupRule (s t : State) (ix sub : Nat) (v : Int) : Option Nat :=
  let auxMode (c : Int) : Int := s.obj 0x4130 (0x10 + 8 * c.toNat)
  if ix = 0x5000 then
    if sub = 1 ∧ 16 ≤ v then some 0x06090030
    else if 0x0E ≤ sub ∧ sub ≤ 0x11 ∧ nominalTooHigh v (s.obj 0x5000 (sub - 4)) = true then some 0x06090030
    else if 0x12 ≤ sub ∧ sub ≤ 0x15 ∧ v < 8 ∧ auxMode v ≠ 2 ∧ auxMode v ≠ 3 then some 0x06090030
    else if (sub = 0x16 ∨ sub = 0x17) ∧ t.obj 0x5000 0x16 = 1
        ∧ (t.obj 0x5000 0x17 = 0xFF ∨ auxMode (t.obj 0x5000 0x17) ≠ 1) then some 0x06090030
    else none
  else if ix = 0x5060 then
    let e (n : Nat) : Int := t.obj 0x5060 n
    if sub = 2 ∧ (v = 0 ∨ 16 ≤ v) then some 0x06090030
    else if e 5 + e 6 < e 3 ∧ e 3 + e 6 < 1000 ∧ 1000 < e 4 - e 6 then none
    else some 0x06090030
  else none

end Sys2Proof.Machine
end

