-- ==== Sys2Proof/Machine/Energy.lean ====
section
/-! DEFINITION. Energy totals and supply quality (chapter 13), and the half-cycle publication that feeds them. -/

namespace Sys2Proof.Machine

/-! ### Registers (R430–R434) -/

/-- µW·clocks in 1 mWh at 240 MHz. -/
def milliWattHour : Rat := 864000000000000

/-- Half-cycle energy in 2^−32 of a register's unit. -/
def energyUnits (q : Rat) : Nat := (roundRat (q * (2 ^ 32 : Nat) / milliWattHour)).toNat

/-- An increment in 2^−32 units enters a 64-bit register and the fraction behind it (R430). -/
def State.addEnergy (s : State) (ix sub inc : Nat) : State :=
  let k := objKey ix sub
  let f := (cellGet s.energy.fractions k).getD 0 + inc
  let g := f % 2 ^ 32
  let s := s.putObj ix sub ((s.nat ix sub + f / 2 ^ 32) % 2 ^ 64 : Nat)
  (s.setEnergy { s.energy with
      fractions := if g = 0 then cellDrop s.energy.fractions k else cellPut s.energy.fractions k g })

/-- The net active energy of a mains phase over the half-cycle in µW·clocks, corrected per sample (R431, R421). -/
def State.netEnergy (s : State) (k : Fin 3) : Rat :=
  let m := s.metrology
  let c : Fin 4 := ⟨k.val, by omega⟩
  let q := (powers c m.window).2
  s.gain c 4 * (m.energy[k] + s.quantity c 9 * q / 1000000 * m.dtSum) + 1000 * s.quantity c 5 * m.dtSum

/-- The increments of a register set, by sub-index, from E in µW·clocks and Q'' and S'' as published (R431–R434). -/
def increments (e : Rat) (q sp : Int) (dt : Nat) (flagged : Bool) : List (Nat × Nat) :=
  let import_ := decide (0 ≤ e)
  let a := energyUnits (if import_ then e else -e)
  let r := energyUnits (1000 * (if 0 ≤ q then q else -q) * dt)
  let quadrant := if 0 ≤ q then (if import_ then 3 else 4) else if import_ then 6 else 5
  [(if import_ then 1 else 2, a), (quadrant, r), (7, energyUnits (1000 * sp * dt))]
    ++ if flagged then [(if import_ then 8 else 9, a)] else []

/-- A register set takes its increments. -/
def State.addSet (s : State) (ix : Nat) (incs : List (Nat × Nat)) : State :=
  incs.foldl (fun (s : State) (c : Nat × Nat) => s.addEnergy ix c.1 c.2) s

/-- The energies of mains phases 1–3 (R431). -/
def State.netEnergies (s : State) : List Rat := (List.finRange 3).map s.netEnergy

/-- The increments of the total set (R433). -/
def State.totalIncrements (s : State) (flagged : Bool) : List (Nat × Nat) :=
  increments (s.netEnergies.foldl (· + ·) 0) (s.obj 0x5030 2) (s.obj 0x5030 3) s.metrology.dtSum flagged

/-- The registers of every set take the half-cycle (R431–R434). -/
def State.energyUpdate (s : State) (flagged : Bool) : State :=
  let dt := s.metrology.dtSum
  let t := (s.netEnergies.zipIdx).foldl (fun (t : State) (c : Rat × Nat) =>
    t.addSet (0x5040 + c.2)
      (increments c.1 (s.obj 0x5030 (0x13 + 8 * c.2)) (s.obj 0x5030 (0x14 + 8 * c.2)) dt flagged)) s
  t.addSet 0x5043 (s.totalIncrements flagged)

/-! ### Pulse outputs (R445–R449) -/

/-- The registers of 5043 a pulse source counts. -/
def pulseSource (code : Int) : List Nat :=
  if code = 0 then [1] else if code = 1 then [2] else if code = 2 then [3, 4] else if code = 3 then [5, 6]
  else if code = 4 then [7] else []

/-- The state with one pulse output changed. -/
def State.modPulse (s : State) (e : Fin 2) (f : Pulse → Pulse) : State :=
  (s.setEnergy { s.energy with pulses := s.energy.pulses.set e (f s.energy.pulses[e]) })

/-- A pulse owed, 1 000 000 units of residue, in 2^−32. -/
def pulseUnit : Nat := 1000000 * 2 ^ 32

/-- A half-cycle's increments enter the residue, and the pulses owed take their instants (R445, R446). -/
def State.owePulses (s : State) (incs : List (Nat × Nat)) (e : Fin 2) : State :=
  let src := pulseSource (s.obj 0x5050 (1 + e.val))
  let d := incs.foldl (fun (n : Nat) (c : Nat × Nat) => if src.contains c.1 then n + c.2 else n) 0
  let step := d * s.nat 0x5050 (3 + e.val)
  let r := s.energy.pulses[e].residue
  let n := (r + step) / pulseUnit
  let starts := (List.range n).map fun (j : Nat) =>
    (roundDiv (((j + 1) * pulseUnit - r : Nat) * s.metrology.dtSum) step).toNat
  s.modPulse e fun a => { a with residue := (r + step) % pulseUnit, owed := a.owed ++ starts }

/-- A pulse may start now: none runs, its gap is over, and full service has been reached (R447, R449). -/
def State.pulseFree (s : State) (e : Fin 2) : Bool :=
  let a := s.energy.pulses[e]
  !a.on && Nat.ble a.gapUntil s.life.up && s.fullService

/-- A pulse starts. -/
def State.emitPulse (s : State) (e : Fin 2) : State := (s.modPulse e fun a => { a with on := true }).bump 0x5050 (9 + e.val)

/-- A pulse waits in the backlog (R447). -/
def State.backlogPulse (s : State) (e : Fin 2) : State :=
  let n := s.obj 0x5050 (0x0B + e.val)
  if n = 0xFFFF then s
  else
    let s := s.putObj 0x5050 (0x0B + e.val) (n + 1)
    if n = 0xFFFE then s.raise dvEpulseBacklog (evData [evU 1 e.val]) else s

/-- The backlog is emitted at the maximum rate (R447). -/
def State.drainPulse (s : State) (e : Fin 2) : State :=
  let n := s.obj 0x5050 (0x0B + e.val)
  if s.pulseFree e && decide (0 < n) then (s.emitPulse e).putObj 0x5050 (0x0B + e.val) (n - 1) else s

/-- The instant of the oldest pulse owed comes (R446, R447). -/
def State.pulseStart (s : State) (e : Fin 2) : State :=
  match s.energy.pulses[e].owed with
  | _ :: rest =>
    let s := s.modPulse e fun a => { a with owed := rest }
    if s.pulseFree e then s.emitPulse e else s.backlogPulse e
  | [] => s.drainPulse e

/-- EPULSE_START (R446). -/
def execEpulseStart (e : Fin 2) (s : State) : Host.Outcome State Fault Refusal := .next (s.pulseStart e)

/-- The width of a pulse ends: the output idles, and its gap begins (R447). -/
def State.pulseEnd (s : State) (e : Fin 2) : State :=
  if s.energy.pulses[e].on then
    s.modPulse e fun a => { a with on := false, gapUntil := s.life.up + s.nat 0x5050 (5 + e.val) }
  else s

/-- EPULSE_END (R447). -/
def execEpulseEnd (e : Fin 2) (s : State) : Host.Outcome State Fault Refusal := .next (s.pulseEnd e)

/-- The level of an EPULSE pin (R99, R449); low in reset and SLEEP. -/
def State.pulseLevel (s : State) (e : Fin 2) : Bool :=
  s.serving && ((s.obj 0x5050 (7 + e.val) == 1) == s.energy.pulses[e].on)

/-- P_max in W × 10⁶ (R448). -/
def State.pMaxMicro (s : State) : Int :=
  (s.obj 0x5000 0x0E + s.obj 0x5000 0x0F + s.obj 0x5000 0x10) * s.obj 0x5060 1 * 12 / 10

/-- P_max in mW, 5050:0D. -/
def State.pMax (s : State) : Int := roundDiv s.pMaxMicro 1000

/-- A refusal of a write of 5050 (R448); `t` is the state with the value in place. -/
def State.pulseRule (t : State) (sub : Nat) : Option Nat :=
  let reached (e : Nat) : Bool :=
    decide (3600000000 * 1000000 < t.obj 0x5050 (3 + e) * t.pMaxMicro * 2 * t.obj 0x5050 (5 + e))
  if 3 ≤ sub ∧ sub ≤ 6 ∧ reached ((sub - 3) % 2) = true then some 0x06090030 else none

/-! ### Sags, swells and interruptions (R450–R458) -/

/-- The three kinds. -/
inductive QualityKind where
  | sag | swell | interruption
  deriving DecidableEq, Repr

/-- The number of a kind: bit of 5068:01 and place of its objects. -/
def QualityKind.code : QualityKind → Nat
  | .sag => 0 | .swell => 1 | .interruption => 2

/-- The event of a kind on a channel. -/
def QualityKind.event (k : QualityKind) (v : Nat) : Nat :=
  match k with | .sag => mtVSag v | .swell => mtVSwell v | .interruption => mtVInterrupt v

/-- A kind's progress. -/
def State.quality (s : State) (k : QualityKind) : Quality :=
  match k with | .sag => s.energy.sag | .swell => s.energy.swell | .interruption => s.energy.interruption

/-- The state with a kind's progress. -/
def State.putQuality (s : State) (k : QualityKind) (q : Quality) : State :=
  match k with
  | .sag => (s.setEnergy { s.energy with sag := q })
  | .swell => (s.setEnergy { s.energy with swell := q })
  | .interruption => (s.setEnergy { s.energy with interruption := q })

/-- The participating channels, 5060:02. -/
def State.qualityChannels (s : State) : List (Fin 4) := channels.filter fun v => (s.fastNat 0x5060 2).testBit v.val

/-- The half-cycle RMS of a channel in mV. -/
def State.halfRms (s : State) (v : Fin 4) : Int := s.obj 0x5030 (0x16 + 8 * v.val)

/-- The start condition of a kind on a channel, and the end condition (R450); thresholds in 0.1 % of 5060:01. -/
def State.kindStarts (s : State) (k : QualityKind) (v : Fin 4) : Bool :=
  let u := 1000 * s.halfRms v
  let d := s.fast 0x5060 1
  match k with
  | .sag => decide (u ≤ s.fast 0x5060 3 * d)
  | .swell => decide (s.fast 0x5060 4 * d ≤ u)
  | .interruption => decide (u ≤ s.fast 0x5060 5 * d)

/-- See `kindStarts`. -/
def State.kindEnds (s : State) (k : QualityKind) (v : Fin 4) : Bool :=
  let u := 1000 * s.halfRms v
  let d := s.fast 0x5060 1
  let h := s.fast 0x5060 6
  match k with
  | .sag => decide ((s.fast 0x5060 3 + h) * d ≤ u)
  | .swell => decide (u ≤ (s.fast 0x5060 4 - h) * d)
  | .interruption => decide ((s.fast 0x5060 5 + h) * d ≤ u)

/-- The extreme of a half-cycle for a kind, with its channel (R452). -/
def State.extremeOf (s : State) (k : QualityKind) : Int × Nat :=
  (s.qualityChannels.foldl (fun (b : Option (Int × Nat)) v =>
    let u := s.halfRms v
    match b with
    | none => some (u, v.val)
    | some (w, c) => if (match k with | .swell => decide (w < u) | _ => decide (u < w)) then some (u, v.val)
                     else some (w, c)) none).getD (0, 0)

/-- 5068:01 from the kinds in progress. -/
def State.reportQuality (s : State) : State :=
  s.putObj 0x5068 1 (natOf s.energy.sag.active + 2 * natOf s.energy.swell.active
    + 4 * natOf s.energy.interruption.active : Nat)

/-- A half-cycle joins a kind in progress (R452, R453). -/
def State.extendKind (s : State) (k : QualityKind) (evaluated flagged : Bool) : State :=
  let q := s.quality k
  let e := s.extremeOf k
  let worse := match k with | .swell => decide (q.extreme < e.1) | _ => decide (e.1 < q.extreme)
  let q := if evaluated && worse then { q with extreme := e.1, channel := e.2 } else q
  s.putQuality k { q with duration := q.duration + s.metrology.dtSum, quality := q.quality || flagged }

/-- A kind starts with the closing half-cycle (R452, R454). -/
def State.startKind (s : State) (k : QualityKind) (flagged : Bool) : State :=
  let vs := s.qualityChannels
  let place := match k with
    | .interruption => vs.head?
    | _ => vs.find? (s.kindStarts k)
  match place with
  | none => s
  | some v =>
    let dt := s.metrology.dtSum
    let e := s.extremeOf k
    let q : Quality :=
      { active := true, start := s.recordTime - (roundDiv dt 240000).toNat, duration := dt, extreme := e.1,
        channel := e.2, place := v.val, quality := flagged, inside := false }
    (s.putQuality k q).raise (k.event v.val) (evData [evI 4 (s.halfRms v), evU 1 (s.fastNat 0x5060 2)])

/-- A kind in progress ends with its END record, and 5068 is updated (R454); one that ends early lasts up to that moment
(R458). -/
def State.endKind (s : State) (k : QualityKind) (early : Bool) : State :=
  let q := s.quality k
  if !q.active then s
  else
    let ms := roundDiv (if early then q.duration + s.metrology.dtSum else q.duration : Nat) 240000
    let sat := decide (0xFFFFFFFF ≤ ms)
    let ms := min ms 0xFFFFFFFF
    let flags := natOf q.inside + 2 * natOf q.quality + 4 * natOf early + 8 * natOf sat
    let n := 4 * k.code
    let s := s.putQuality k {}
    let s := s.endWith (k.event q.place) q.start (evData [leInt 4 ms, leInt 4 q.extreme]) flags q.channel
    let s := (s.bump 0x5068 (2 + k.code)).putObj 0x5068 (5 + n) (q.start : Nat)
    ((s.putObj 0x5068 (6 + n) ms).putObj 0x5068 (7 + n) q.extreme).putObj 0x5068 (8 + n) flags

/-- Every kind in progress ends with PARTIAL (R458). -/
def State.endKinds (s : State) : State :=
  (((s.endKind .sag true).endKind .swell true).endKind .interruption true).reportQuality

/-- A kind evaluated at a publication (R450). A half-cycle of fewer than 64 samples is not evaluated (R453). -/
def State.evaluateKind (s : State) (k : QualityKind) (flagged : Bool) : State :=
  let vs := s.qualityChannels
  let evaluated := Nat.ble 64 s.metrology.half
  let ends := match k with | .interruption => vs.any (s.kindEnds k) | _ => vs.all (s.kindEnds k)
  let starts := match k with
    | .interruption => !vs.isEmpty && vs.all (s.kindStarts k)
    | _ => vs.any (s.kindStarts k)
  if (s.quality k).active then
    if evaluated && ends then s.endKind k false else s.extendKind k evaluated flagged
  else if evaluated && starts then s.startKind k flagged
  else s

/-- Supply quality at a publication (R450–R455). -/
def State.evaluateQuality (s : State) (flagged : Bool) : State :=
  let s := ((s.evaluateKind .sag flagged).evaluateKind .swell flagged).evaluateKind .interruption flagged
  let s := if s.energy.sag.active && s.energy.interruption.active then
      (s.setEnergy { s.energy with sag := { s.energy.sag with inside := true } }) else s
  s.reportQuality

/-! ### The half-cycle publication (R420) -/

/-- A voltage channel's enable or a current channel's mode waits to change (R424). -/
def State.channelsChange (s : State) : Bool := [1, 6, 7, 8, 9].any fun sub => s.fast 0x5000 sub != s.obj 0x5000 sub

/-- Configuration of the metrology unit takes effect at the half-cycle boundary (R17, R418, R451). -/
def State.freshMetrology (s : State) : State :=
  (s.setStale (s.stale.filter fun (c : Nat × Int) =>
      !(Nat.ble 0x5000 (c.1 / 256) && Nat.ble (c.1 / 256) 0x5060)))

/-- The open half-cycle begins anew. -/
def State.newHalfCycle (s : State) (emptied : Bool) : State :=
  let m := s.metrology
  (s.setMetrology { m with
      window := if emptied then [] else m.window, half := 0, dtSum := 0, energy := Vector.replicate 3 0,
      voltage := m.voltage.map fun (a : VoltagePath) => { clipped := false, clippedBefore := a.clipped },
      current := m.current.map fun (a : CurrentPath) => { a with clipped := false, clippedBefore := a.clipped } })

/-- The quantities are published, the energy passed on, and supply quality evaluated (R420–R423, R431, R450); `early`
where the window is closed early. -/
def State.publish (s : State) (early : Bool) : State :=
  let early := early || s.channelsChange
  let word := s.qualityWord early
  let s := channels.foldl State.publishChannel s
  let s := ((s.putObj 0x5030 1 (s.fitI32 (s.phaseSum 2))).putObj 0x5030 2 (s.fitI32 (s.phaseSum 3))).putObj 0x5030 3
    (s.fitI32 (s.phaseSum 4))
  let s := ((s.putObj 0x5030 4 word).bump 0x5030 5).tick
  let flagged := word != 0
  let incs := s.totalIncrements flagged
  let s := s.energyUpdate flagged
  let s := (s.owePulses incs 0).owePulses incs 1
  let s := s.evaluateQuality flagged
  let s := channels.foldl State.crossCheck s
  let s := (s.freshMetrology.newHalfCycle early)
  (channels.foldl State.updateTc s).reportRange

/-- A window is closed early with PARTIAL (R424). -/
def State.closeMetrology (s : State) : State := if s.metering && !s.metrology.window.isEmpty then s.publish true else s

/-! ### DC-side energy (R437, R438) -/

/-- The voltage of the DC energy of a rail in mV; none for drive rail D without a bus channel (R438). -/
def State.dcVoltage (s : State) (r : RailId) : Option Rat :=
  if r = railD then (s.busVoltage r).map fun (b : Int) => (b * s.obj 0x3448 4 : Int) / 65536
  else some (s.railObj r 0x48 1)

/-- The current of the DC energy: the last measured currents of the local phases that are active or being shed (R437), and
on drive rail D that of the phase in state PWM (R348). -/
def State.dcCurrent (s : State) (r : RailId) : Int :=
  let ps := (s.railPhases r).filter fun p => s.phases[p].active || s.phases[p].shedding
  let own := if r = railD then ps.filter fun p => s.phases[p].mask == 1 else ps
  own.foldl (fun (q : Int) p => q + s.phaseObj p 5 7) 0

/-- V × I × T_s enters the delivered or the returned energy (R437). -/
def State.dcEnergy (s : State) (r : RailId) : State :=
  match s.dcVoltage r with
  | none => s
  | some v =>
    if s.onOrStopping r then
      let e := v * s.dcCurrent r * s.sampleMs r * 240000
      if 0 ≤ e then s.addEnergy (railIx r 0x60) 1 (energyUnits e) else s.addEnergy (railIx r 0x60) 2 (energyUnits (-e))
    else s

/-- Energy keys of an index dropped to 0, with the fractions. -/
def State.zeroEnergy (s : State) (ix n : Nat) : State :=
  (List.range n).foldl (fun (s : State) (j : Nat) =>
    let s := s.putObj ix (j + 1) 0
    (s.setEnergy { s.energy with fractions := cellDrop s.energy.fractions (objKey ix (j + 1)) })) s

/-- 3r60:03: the DC-side registers of a rail are zeroed (R439). -/
def State.resetDcEnergy (s : State) (r : RailId) : State := s.zeroEnergy (railIx r 0x60) 2

/-! ### Totals copies (R440–R444) -/

/-- The keys of the working totals' registers (R440). -/
def totalsKeys : List Nat :=
  (List.range 4).flatMap (fun (k : Nat) => (List.range 9).map fun (j : Nat) => objKey (0x5040 + k) (j + 1))
    ++ railIds.flatMap fun (r : RailId) => [objKey (railIx r 0x60) 1, objKey (railIx r 0x60) 2]

/-- The copy the working totals make (R441). -/
def State.totalsCopy (s : State) (trigger : Nat) : TotalsCopy :=
  { seq := s.energy.nextCopy, time := s.recordTime, timeValid := s.rtc.valid, trigger := trigger,
    flagged := s.obj 0x5030 4 != 0, regs := totalsKeys.map fun (k : Nat) => (k, odGet s.od k),
    residues := (s.energy.pulses[0].residue / 2 ^ 32, s.energy.pulses[1].residue / 2 ^ 32) }

/-- The slot of copy `n` among the 16 of the region (R441). -/
def copySlot (n : Nat) : Nat := 8 * (n % 2) + n / 2 % 8

/-- A slot reads erased. -/
def State.slotErased (s : State) (k : Nat) : Bool :=
  (cellGet s.energy.copies k).isNone && (cellGet s.energy.spoilt k).isNone

/-- Some other operation holds the data flash (R443). -/
def State.flashOp (s : State) : Bool :=
  s.flash.store.isSome || s.flash.calOp.isSome || s.flash.outlineOp.isSome || s.recorder.erasing

/-- The next copy can be programmed: its slot erased and no sector to erase before it. -/
def State.copyReady (s : State) : Bool :=
  s.energy.save.isNone && s.energy.eraseSector.isNone && s.slotErased (copySlot s.energy.nextCopy)

/-- A copy begins. -/
def State.beginCopy (s : State) (trigger : Nat) : State :=
  let n := s.energy.nextCopy
  (s.setEnergy { s.energy with save := some ⟨s.totalsCopy trigger, copySlot n, false⟩, nextCopy := n + 1 })

/-- The sector of the next copy is erased once it has no erased slot, or the named slot is not erased (R442). -/
def State.checkSector (s : State) : State :=
  let n := s.energy.nextCopy
  if s.slotErased (copySlot n) then s
  else (s.setEnergy { s.energy with eraseSector := some (n % 2) })

/-- A due erase begins, never while a power-fail warning is active (R442). -/
def State.startEnergyErase (s : State) : State :=
  if s.energy.eraseSector.isSome && !s.energy.erasing && !s.supply.pfw && !s.flashOp && s.energy.save.isNone then
    (s.setEnergy { s.energy with erasing := true })
  else s

/-- The oldest due save begins where the flash is free (R443). -/
def State.startSave (s : State) : State :=
  let s := s.startEnergyErase
  match s.energy.due with
  | [] => s
  | t :: rest =>
    if s.supply.pfw || s.flashOp || !s.copyReady then s
    else ((s.setEnergy { s.energy with due := rest }) : State).beginCopy t

/-- A save falls due (R443). -/
def State.requestSave (s : State) (trigger : Nat) : State :=
  ((s.setEnergy { s.energy with due := s.energy.due ++ [trigger] }) : State).startSave

/-- The copy under way has been written and read back (R442). -/
def State.copyDone (s : State) : State :=
  match s.energy.save with
  | none => s
  | some op =>
    let s := (s.setEnergy { s.energy with copies := cellPut s.energy.copies op.slot op.copy, save := none })
    let s := (s.putObj 0x5070 3 op.copy.seq).putObj 0x5070 4 op.copy.time
    (s.putObj 0x5070 5 op.copy.trigger).checkSector

/-- The read-back of the copy under way mismatched: it is written again in the next slot of the sector, and a second
mismatch gives it up (R442). -/
def State.copyFailed (s : State) : State :=
  match s.energy.save with
  | none => s
  | some op =>
    let s := (s.setEnergy { s.energy with spoilt := cellPut s.energy.spoilt op.slot op.copy.seq })
    let next := op.slot + 1
    if op.retry || next % 8 == 0 || !s.slotErased next then
      let s := (s.setEnergy { s.energy with save := none })
      (s.raise rcTotalsSaveFail (evData [evU 4 op.copy.seq])).checkSector
    else (s.setEnergy { s.energy with save := some { op with slot := next, retry := true } })

/-- TOTALS_COPY_COMPLETE (R442). -/
def execTotalsCopyComplete (readBackOk : Bool) (s : State) : Host.Outcome State Fault Refusal :=
  if s.energy.save.isSome then
    .next ((if readBackOk then s.copyDone else s.copyFailed).startSave.startWrite)
  else .next s

/-- The sector of the energy-copy region that is due reads erased. -/
def State.eraseCopies (s : State) : State :=
  match s.energy.eraseSector with
  | some k =>
    (s.setEnergy { s.energy with
      copies := s.energy.copies.filter (fun (c : Nat × TotalsCopy) => c.1 / 8 != k),
      spoilt := s.energy.spoilt.filter (fun (c : Nat × Nat) => c.1 / 8 != k), eraseSector := none,
      erasing := false }).bump 0x5070 6
  | none => s

/-- The erase of an energy-copy sector ends (R442). -/
def State.energyErased (s : State) : State :=
  if s.energy.eraseSector.isSome && s.energy.erasing && !s.supply.pfw then s.eraseCopies.startSave.startWrite else s

/-- ENERGY_SECTOR_ERASE_COMPLETE (R442). -/
def execEnergySectorEraseComplete (s : State) : Host.Outcome State Fault Refusal := .next s.energyErased

/-- PERIODIC_TOTALS_SAVE (R443): trigger 1. -/
def execPeriodicTotalsSave (s : State) : Host.Outcome State Fault Refusal :=
  if s.serving then .next (s.requestSave 1) else .next s

/-- A copy written whole within one command: a copy under way is completed first, and a sector that is due is erased
before it (R442). During a power-fail warning only the copy of R121 is written (R443). -/
def State.saveNow (s : State) (trigger : Nat) : State :=
  let s := s.copyDone
  if s.supply.pfw then s
  else
    let s := s.eraseCopies
    if s.copyReady then (s.beginCopy trigger).copyDone else s

/-- A refusal of a write of 5070:01 or 5070:02 (R436, R443). -/
def State.totalsRule (s : State) (arg : Nat) : Option Nat :=
  if arg ≠ 1 then some 0x06090030 else if s.supply.pfw = true then some 0x08000022 else none

/-- The working energy registers and the residues at 0 (R436). -/
def State.zeroTotals (s : State) : State :=
  let s := (List.range 4).foldl (fun (s : State) (k : Nat) => s.zeroEnergy (0x5040 + k) 9) s
  (s.modPulse 0 fun a => { a with residue := 0 }).modPulse 1 fun a => { a with residue := 0 }

/-- 5070:02: the totals are reset, and a copy saved (R436). -/
def State.resetTotals (s : State) : State :=
  let seq := s.energy.nextCopy + s.energy.due.length
  (s.zeroTotals.requestSave 6).raise rcTotalsReset (evData [evU 4 seq])

/-- The copy of the highest SEQ (R444). -/
def State.newestCopy (s : State) : Option TotalsCopy :=
  s.energy.copies.foldl (fun (b : Option TotalsCopy) (c : Nat × TotalsCopy) =>
    match b with | some d => if d.seq < c.2.seq then some c.2 else b | none => some c.2) none

/-- The highest SEQ of any slot whose VALID field holds one (R444). -/
def State.highestCopy (s : State) : Nat :=
  let a := s.energy.copies.foldl (fun (n : Nat) (c : Nat × TotalsCopy) => max n c.2.seq) 0
  s.energy.spoilt.foldl (fun (n : Nat) (c : Nat × Nat) => max n c.2) a

/-- The age of a copy in seconds; 0xFFFFFFFF where it is unknown. -/
def State.copyAge (s : State) (c : TotalsCopy) : Nat :=
  if s.rtc.valid && c.timeValid then (s.rtc.ms - c.time) / 1000 else 0xFFFFFFFF

/-- The working totals at bring-up (R444); `retained` where retained SRAM was found valid. -/
def State.restoreTotals (s : State) (retained : Bool) : State :=
  let next := s.highestCopy + 1
  if retained then
    (s.setEnergy { s.energy with nextCopy := max s.energy.nextCopy next }).putObj 0x5070 7 0
  else
    let s := (s.setEnergy { s.energy with nextCopy := next, fractions := [] })
    match s.newestCopy with
    | some c =>
      let s := c.regs.foldl (fun (s : State) (x : Nat × Int) => s.putObj (x.1 / 256) (x.1 % 256) x.2) s
      let s := (s.modPulse 0 fun a => { a with residue := c.residues.1 * 2 ^ 32 }).modPulse 1 fun a =>
        { a with residue := c.residues.2 * 2 ^ 32 }
      (s.putObj 0x5070 7 1).raise rcTotalsRestored (evData [evU 4 c.seq, evU 4 (s.copyAge c)])
    | none =>
      let s := railIds.foldl State.resetDcEnergy s.zeroTotals
      (s.putObj 0x5070 7 2).raise rcTotalsLost 0

end Sys2Proof.Machine
end

