-- ==== Sys2Proof/Machine/Meridian.lean ====
section
/-! DEFINITION. The Meridian angle base and the Graticule scheduler (chapter 05): bearings, the mains tracker, the
base period, Graticule entries, relays, SYNCOUT and the encoder. Periods are in core clocks of 1/240 µs. -/

namespace Sys2Proof.Machine

/-! ### Bearings (R153–R158) -/

/-- One cycle of a 32-bit accumulator. -/
def cycle : Nat := 0x100000000

/-- A signed position of an accumulator, from half a cycle below to half a cycle above 0. -/
def signedAcc (v : Int) : Int :=
  let m := v % (cycle : Int)
  if 2 * m < cycle then m else m - cycle

/-- The bearing of a channel, the top 16 bits of its accumulator. -/
def State.bearing (s : State) (c : Fin 4) : Nat := s.meridian.acc[c] / 65536

/-- Channels by code (R153). -/
def chMains : Fin 4 := 0
/-- See `chMains`. -/
def chElec : Fin 4 := 1
/-- See `chMains`. -/
def chMech : Fin 4 := 2
/-- See `chMains`. -/
def chEnc : Fin 4 := 3

/-- The state with one accumulator moved. -/
def State.putAcc (s : State) (c : Fin 4) (v : Int) : State :=
  (s.setMeridian { s.meridian with acc := s.meridian.acc.set c (v % (cycle : Int)).toNat })

/-- A step of one bearing (R158): it ends the motion since the last scan, and stands apart from it. -/
def State.stepOne (s : State) (c : Fin 4) (v : Int) : State :=
  let m := s.meridian
  let now := s.bearing c
  let s := s.putAcc c v
  s.setMeridian { s.meridian with
    trail := m.trail.set c (m.trail[c] ++ [(m.prev[c] / 65536, now, false), (now, s.bearing c, true)]),
    prev := m.prev.set c s.meridian.acc[c] }

/-- The channel that MECH equals: ENC with the encoder on the motor, else ELEC (R156). -/
def State.mechSource (s : State) : Fin 4 := if s.obj 0x2620 5 == 1 then chEnc else chElec

/-- A step of a bearing, and of MECH where it equals it. -/
def State.stepAcc (s : State) (c : Fin 4) (v : Int) : State :=
  let s := s.stepOne c v
  if s.mechSource = c then s.stepOne chMech v else s

/-- The motions and steps of a bearing since the last scan (R174). -/
def State.moves (s : State) (c : Fin 4) : List (Nat × Nat × Bool) :=
  s.meridian.trail[c] ++ [(s.meridian.prev[c] / 65536, s.bearing c, false)]

/-- MECH follows its source, and 2200:0E–10 report (R156). -/
def State.reportBearings (s : State) : State :=
  let c := s.mechSource
  let s := s.putAcc chMech (s.meridian.acc[c] : Nat)
  let s := s.putBit 0x2200 0x10 1 (s.bit 0x2200 0x10 (c.val - 1))
  (s.putObj 0x2200 0x0E (s.bearing chMains + 65536 * s.bearing chElec : Nat)).putObj 0x2200 0x0F
    (s.bearing chMech + 65536 * s.bearing chEnc : Nat)

/-- Whether a source may be used by an entry (R155–R157, R180). -/
def State.sourceValid (s : State) (c : Fin 4) : Bool :=
  if c = chMains then true else s.bit 0x2200 0x10 (c.val - 1)

/-- The ELEC bearing of the transition into sector `n` (R155). -/
def sectorBearing (n : Nat) : Nat := (roundDiv ((n % 6 : Nat) * 65536) 6).toNat

/-- ELEC at a legal transition into a sector: the bearing of the transition, and the rate to come (R155). The move is motion
where ELEC was valid, and a step where it was not (DESIGN CHOICE, log 127). -/
def State.elecTransition (s : State) (sector : Nat) (forward : Bool) (period : Nat) : State :=
  let v : Int := (sectorBearing (if forward then sector else sector + 1) * 65536 : Nat)
  let was := s.bit 0x2200 0x10 0
  let s := if was then s.putAcc chElec v else s.stepAcc chElec v
  let s := (s.setMeridian { s.meridian with elecPeriod := period, elecForward := forward, elecSector := sector })
  (s.putBit 0x2200 0x10 0 true).reportBearings

/-- ELEC becomes invalid (R155). -/
def State.elecInvalid (s : State) : State :=
  let s := (s.setMeridian { s.meridian with elecPeriod := 0 })
  (s.putBit 0x2200 0x10 0 false).reportBearings

/-- ELEC between transitions: it advances at the rate of the last interval and holds one bearing short of the next
transition (R155). -/
def State.elecAdvance (s : State) : State :=
  let m := s.meridian
  if m.elecPeriod = 0 ∨ s.bit 0x2200 0x10 0 = false then s
  else
    let d : Int := roundDiv (64 * cycle) (6 * m.elecPeriod)
    let now : Int := m.acc[chElec]
    if m.elecForward then
      let edge : Int := (sectorBearing (m.elecSector + 1) * 65536 : Nat)
      let room := (edge - 65536 - now) % (cycle : Int)
      if room < (cycle / 6 : Nat) then s.putAcc chElec (now + min d room) else s
    else
      let edge : Int := (sectorBearing m.elecSector * 65536 : Nat)
      let room := (now - edge - 65536) % (cycle : Int)
      if room < (cycle / 6 : Nat) then s.putAcc chElec (now - min d room) else s

/-- A quadrature edge (R157). -/
def State.encoderCount (s : State) (up : Bool) : State :=
  let n := if up then s.meridian.encCount + 1 else s.meridian.encCount - 1
  let s := (s.setMeridian { s.meridian with encCount := n })
  let s := s.putObj 0x2620 8 (n % (cycle : Int))
  let b := (n * 65536) / (4 * s.obj 0x2620 4)
  (s.putAcc chEnc (b * 65536)).reportBearings

/-- ENCODER_COUNT (R157). -/
def execEncoderCount (up : Bool) (s : State) : Host.Outcome State Fault Refusal := .next (s.encoderCount up)

/-- ENC_Z: the bearing steps to 0; a correction beyond 64 brg is an event (R157). -/
def State.encoderIndex (s : State) : State :=
  let corr := asSigned 16 ((65536 - s.bearing chEnc) % 65536)
  let was := s.bit 0x2200 0x10 2
  let s := (s.setMeridian { s.meridian with encCount := 0 }).putObj 0x2620 8 0
  let s := ((s.stepAcc chEnc 0).putBit 0x2200 0x10 2 true).reportBearings
  if was && decide (corr < -64 ∨ 64 < corr) then s.raise dvEncIndexErr (evData [evI 2 corr]) else s

/-- ENCODER_INDEX (R157). -/
def execEncoderIndex (s : State) : Host.Outcome State Fault Refusal := .next s.encoderIndex

/-! ### The mains tracker (R159–R164) -/

/-- The tracker state, 2200:01: 0 TIMER, 1 LOCKED, 2 FLYWHEEL. -/
def State.tracker (s : State) : Nat := s.nat 0x2200 1

/-- The period of the declared nominal frequency 2200:03. -/
def State.nominalPeriod (s : State) : Rat := 24000000000 / (s.fast 0x2200 3 : Rat)

/-- A period lies within 40–70 Hz. -/
def inLockRange (period : Nat) : Bool := decide (24000000 ≤ period * 7 ∧ period ≤ 6000000)

/-- Two periods differ by no more than 0.5 % of the older one, `a` (R160; DESIGN CHOICE, log 128). -/
def periodsAgree (a b : Nat) : Bool := decide (a * 200 ≤ b * 201 ∧ b * 199 ≤ a * 200)

/-- A frequency in mHz from a period. -/
def milliHertz (period : Rat) : Int := roundRat (240000000000 / period)

/-- The tracker's present period, with 2200:0B. -/
def State.putMains (s : State) (period : Rat) : State :=
  (s.setMeridian { s.meridian with mains := period }).putObj 0x2200 0x0B
    (if s.tracker = 0 then 0 else milliHertz period)

/-- The end of DV_MER_FLYWHEEL or DV_MER_TIMER, with its data as they are then (R513). -/
def State.endFlywheel (s : State) : State := s.endEvent dvMerFlywheel (evData [evU 4 (milliHertz s.meridian.mains)])

/-- See `endFlywheel`. -/
def State.endTimer (s : State) : State := s.endEvent dvMerTimer (evData [evU 2 (s.fast 0x2200 3)])

/-- Entry into LOCKED: the bearing steps once to the measured phase, 0 at the crossing (R161), and an open metrology
window closes early (R192, R424). -/
def State.lockTracker (s : State) (period : Nat) : State :=
  let step := asSigned 16 ((65536 - s.bearing chMains) % 65536)
  let was := s.tracker
  let s := if was = 2 then s.endFlywheel else s.endTimer
  let s := s.closeMetrology
  let s := (s.putObj 0x2200 1 1).putMains period
  let s := (s.stepAcc chMains 0).putObj 0x2200 0x14 step
  let s := (s.setMeridian { s.meridian with outside := 0, rate := 0 }).reportBearings
  s.raise dvMerLock (evData [evI 2 step, evU 4 (milliHertz period)])

/-- Entry into TIMER (R163). -/
def State.timerTracker (s : State) : State :=
  let s := (s.putObj 0x2200 1 0).putObj 0x2200 0x0B 0
  s.endFlywheel.raise dvMerTimer (evData [evU 2 (s.fast 0x2200 3)])

/-- Entry into FLYWHEEL (R162), or into TIMER at once where the flywheel time is 0 (R163). -/
def State.flywheelTracker (s : State) : State :=
  let s := (s.setMeridian { s.meridian with qualified := 0, outside := 0 }).putObj 0x2200 1 2
  let s := s.raise dvMerFlywheel (evData [evU 4 (milliHertz s.meridian.mains)])
  if s.fast 0x2200 5 = 0 then s.timerTracker else s

/-- A crossing while LOCKED (R154, R161): the loop brings period and phase towards those measured, by the gain of its
bandwidth 2200:04, and the phase by a change of rate of at most 1 %. -/
def State.followCrossing (s : State) (period : Nat) : State :=
  let g : Rat := ((Config.loopGain (s.fastNat 0x2200 4)).toNat + 1 : Nat) / 65536
  let T := s.meridian.mains
  let ahead : Rat := signedAcc s.meridian.acc[chMains]
  (s.setMeridian { s.meridian with
    lastPeriod := period, outside := 0, mains := T + g * (period - T),
    rate := clampRat (-(g * ahead / cycle)) (-1 / 100) (1 / 100) }).putObj 0x2200 0x0B (milliHertz period)

/-- A crossing qualified while the settling of metrology is counted (R130). -/
def State.countSettling (s : State) : State :=
  let l := s.life
  if l.settling then
    s.setLife { l with settleCount := l.settleCount + 1, settleSeen := some (l.settleSeen.getD l.up) }
  else s

/-- The half-cycle RMS before a crossing qualifies it (R160). -/
def State.qualifies (s : State) (halfRms : Nat) : Bool := decide (s.nat 0x5060 1 ≤ 5 * halfRms)

/-- The tracker at a positive-going crossing with the period before it in core clocks (R160–R162). A period that is out of
range or disagrees with the one before leaves its own crossing, or both its crossings, as the first of a new count
(DESIGN CHOICE, log 128). -/
def State.trackCrossing (s : State) (period : Nat) (strong : Bool) : State :=
  let m := s.meridian
  let put (q : Nat) : State := (s.setMeridian { m with qualified := q, lastPeriod := period })
  if s.tracker = 1 then
    if !strong then s
    else if inLockRange period then s.followCrossing period
    else if m.outside = 1 then s.flywheelTracker
    else (s.setMeridian { m with outside := m.outside + 1 })
  else if !strong then (s.setMeridian { m with qualified := 0 })
  else if m.qualified = 0 then put 1
  else if !inLockRange period then put 1
  else if m.qualified = 1 then put 2
  else if !periodsAgree m.lastPeriod period then put 2
  else if m.qualified < 7 then put (m.qualified + 1)
  else (put 8).lockTracker period

/-- A positive-going crossing with the half-cycle RMS before it in mV. -/
def State.zeroCrossing (s : State) (period halfRms : Nat) : State :=
  if !s.serving then s
  else
    let strong := s.qualifies halfRms
    (if strong then s.countSettling else s).trackCrossing period strong

/-- No qualified crossing within 1.25 periods (R162). -/
def execMainsCrossingTimeout (s : State) : Host.Outcome State Fault Refusal :=
  if s.tracker = 1 then .next s.flywheelTracker else .next s

/-- The flywheel time passes without lock (R163). -/
def execFlywheelTimeout (s : State) : Host.Outcome State Fault Refusal :=
  if s.tracker = 2 then .next s.timerTracker else .next s

/-- The period estimate rescaled at a change of the PLL reference, by the deviation of 2010:04 in 0.001 % (R164): an RC
oscillator that is fast by it counts a period in that many more clocks than the crystal. -/
def State.rescaleTracker (s : State) (ontoCrystal : Bool) : State :=
  let k : Rat := (100000 + s.obj 0x2010 4 : Int) / 100000
  let k := if ontoCrystal && k != 0 then 1 / k else k
  if k == 0 then s
  else (s.setMeridian { s.meridian with
    mains := s.meridian.mains * k, lastPeriod := (roundRat (s.meridian.lastPeriod * k)).toNat })

/-- The MAINS period of the next scan: in TIMER it slews to the declared nominal by 1 % per cycle (R163). -/
def State.mainsNext (s : State) : Rat :=
  let T := s.meridian.mains
  if s.tracker = 0 then
    let d := clampRat (s.nominalPeriod - T) (-(16 / 25)) (16 / 25)
    T + d
  else T

/-- MAINS and the timer over one scan of 64 core clocks, with the correction of the rate while LOCKED (R161). -/
def State.mainsAdvance (s : State) : State :=
  let T := s.mainsNext
  let d := roundRat (64 * cycle / T * (if s.tracker = 1 then 1 + s.meridian.rate else 1))
  let t := roundRat (64 * cycle / s.nominalPeriod)
  let s := (s.setMeridian { s.meridian with
    mains := T, timer := ((s.meridian.timer + t) % (cycle : Int)).toNat, scans := s.meridian.scans + 1 })
  s.putAcc chMains (s.meridian.acc[chMains] + d)

/-! ### The base period (R165–R170, R384) -/

/-- The reference of the switching epoch, 2200:06: its accumulator and its period. -/
def State.reference (s : State) : Nat × Rat :=
  if s.fast 0x2200 6 == 0 then (s.meridian.acc[chMains], s.meridian.mains) else (s.meridian.timer, s.nominalPeriod)

/-- The bearing of the switching reference (R371). -/
def State.refBearing (s : State) : Nat := s.reference.1 / 65536

/-- A follower joined to the ring, whose base period follows the ring's epoch (R165, R384). -/
def State.ringFollower (s : State) : Bool := s.ring.joined && s.nat 0x2008 6 % 8 != 0 && s.obj 0x2400 2 == 4

/-- The phase error of the epoch in clocks, positive where the reference is ahead, at the start of a period. -/
def State.epochError (s : State) : Rat :=
  let m := s.meridian
  let (acc, T) := s.reference
  let here : Rat := acc + (m.epochTime - 64 * m.scans) * cycle / T
  let due : Rat := (m.index : Rat) * cycle / s.fastNat 0x2200 7
  (signedAcc (roundRat (here - due)) : Rat) * T / cycle

/-- Bits of 2200:0D: aligned, clamp, slew limiting, pulling in. -/
def lockStatus (aligned clamp slew pull : Bool) : Nat := natOf aligned + 2 * natOf clamp + 4 * natOf slew + 8 * natOf pull

/-- The number of the ring lead's base periods between the start a frame gave and the start of the present one here, which a
follower places there (R384). -/
def State.ringAhead (s : State) (start : Rat) : Int := roundRat ((s.meridian.epochTime - start) / s.ring.leadPeriod)

/-- The length of the next base period of a follower in clocks, which brings its end to the start of a base period of the
ring lead (R165, R384, log 137). -/
def State.followPeriod (s : State) : Rat :=
  match s.ring.leadStart with
  | some start => start + (s.ringAhead start + 1) * s.ring.leadPeriod - s.meridian.epochTime
  | none => s.meridian.base / (16 : Rat)

/-- On a follower the number of the present period in its group is the ring lead's (R384). -/
def State.followIndex (s : State) : State :=
  match s.ring.leadStart with
  | some start =>
    if s.ringFollower then
      let N : Nat := max 1 (s.fastNat 0x2200 7)
      s.setMeridian { s.meridian with index := ((s.ring.leadIndex + s.ringAhead start) % (N : Int)).toNat }
    else s
  | none => s

/-- The length of the next base period in steps of 1/16 clock as asked, before the limits of R169, and whether the
epoch is aligned and pulls in. -/
def State.wantedPeriod (s : State) : Rat × Bool × Bool :=
  let N : Rat := s.fastNat 0x2200 7
  let T := s.reference.2
  if s.ringFollower then (16 * s.followPeriod, true, false)
  else
    let e := s.epochError
    let was := s.bit 0x2200 0x0D 0
    let aligned := if s.meridian.index = 0 then decide (-16 ≤ e ∧ e ≤ 16) else was
    let lim := T / N * s.fast 0x2200 0x0A / 10000
    let corr : Rat := if aligned then 0 else clampRat (-e) (-lim) lim
    ((T / N + corr) * 16, aligned, !aligned && corr != 0)

/-- A quotient of an integer by a positive one, rounded up. -/
def ceilDiv (n d : Int) : Int := -((-n) / d)

/-- The shortest base period 1 / 2200:09 in steps, and the longest 1 / 2200:08 (R169). -/
def State.shortestBase (s : State) : Int := ceilDiv 3840000000 (s.fast 0x2200 9)
/-- See `shortestBase`. -/
def State.longestBase (s : State) : Int := 3840000000 / s.fast 0x2200 8

/-- SYNCOUT as a square wave at an instant: high in the first half of a group of D periods (R171, log 46). -/
def State.switchWave (s : State) (now : Rat) : State :=
  if s.fast 0x2200 0x11 = 1 then
    let m := s.meridian
    s.setMeridian { m with syncOut := decide (32 * (now - m.syncStart) < (s.fast 0x2200 0x12 * m.base : Int)) }
  else s

/-- A new base period begins (R165–R169). Where a change of the limits has left the period outside them, the slew brings it
back (DESIGN CHOICE, log 131). -/
def State.basePeriod (s : State) : State :=
  if !s.serving then s
  else
    let m := s.meridian
    let m := { m with epochTime := m.epochTime + (m.base : Rat) / 16, index := (m.index + 1) % max 1 (s.fastNat 0x2200 7) }
    let s := (s.setMeridian m).followIndex
    let m := s.meridian
    let (want, aligned, pull) := s.wantedPeriod
    let exact := want + m.remainder
    let steps := exact.floor
    let lo := s.shortestBase
    let hi := s.longestBase
    let within := clampInt steps lo hi
    let held := clampInt within (ceilDiv (m.base * 399 : Nat) 400) ((m.base * 401) / 400 : Nat)
    let clamp := decide (want < lo ∨ (hi : Rat) < want) && (held == lo || held == hi)
    let slew := within != held
    let was := s.bit 0x2200 0x0D 1
    let s := (s.setMeridian { m with
      base := held.toNat, remainder := if held = steps then exact - steps else 0,
      alignLost := m.alignLost && clamp })
    let s := (s.putObj 0x2200 0x0D (lockStatus (aligned && !clamp) clamp slew pull)).putObj 0x2200 0x0C
      (roundDiv 3840000000000 held)
    let s := if clamp && !was then s.raise dvMerClamp (evData [evU 4 (roundRat (3840000000000 / want))])
             else if was && !clamp then s.endEvent dvMerClamp (evData [evU 4 (roundRat (3840000000000 / want))]) else s
    let s := if clamp && s.ringFollower && !s.meridian.alignLost then
        (s.setMeridian { s.meridian with alignLost := true }).raise trAlignLost (evData [evU 2 (s.obj 0x2400 8)])
      else s
    let n := if s.fast 0x2200 0x12 ≤ s.meridian.syncCount + 1 then 0 else s.meridian.syncCount + 1
    let m := s.meridian
    let s := s.setMeridian { m with syncCount := n, syncStart := if n = 0 then m.epochTime else m.syncStart }
    s.switchWave m.epochTime

/-- BASE_PERIOD_START (R168). -/
def execBasePeriodStart (s : State) : Host.Outcome State Fault Refusal := .next s.basePeriod

/-! ### Graticule entries (R172–R181) -/

/-- The fields of an entry (R172). -/
structure Entry where
  bearing : Nat
  source : Fin 4
  enabled : Bool
  action : Nat
  target : Nat
  divider : Nat
  argument : Nat
  deriving DecidableEq, Repr

/-- The entry a 64-bit value holds. -/
def entryOf (v : Nat) : Entry :=
  { bearing := bits v 15 0, source := Fin.ofNat 4 (bits v 17 16), enabled := v.testBit 18, action := bits v 31 24,
    target := bits v 39 32, divider := bits v 47 40, argument := bits v 63 48 }

/-- Entry `n` (0–63). -/
def State.entry (s : State) (n : Fin 64) : Entry := entryOf (s.nat 0x2210 (1 + n.val))

/-- The rule of R173 on an entry's value. -/
def entryValid (v : Nat) : Bool :=
  let e := entryOf v
  bits v 23 19 == 0 && (match e.action with
    | 1 | 2 => decide (e.target ≤ 3)
    | 3 => decide (e.target ≤ 7)
    | 4 | 5 | 7 => decide (e.target ≤ 4)
    | 0 | 6 | 8 => true
    | _ => false)

/-- The present cycle period of a source in µs; free for the encoder, whose rate the manual does not measure. -/
def State.sourcePeriod (s : State) (c : Fin 4) : Rat :=
  if c = chMains then s.meridian.mains / 240
  else if c = chElec ∨ (c = chMech ∧ s.obj 0x2620 5 ≠ 1) then (6 * s.meridian.elecPeriod : Nat) / 240
  else s.unstated 5

/-- The bearing compensated for a relay's operate time (R183). -/
def State.compensated (s : State) (c : Fin 4) (relay : Nat) (closing : Bool) (b : Nat) : Nat :=
  if s.fastBit 0x2600 (0x16 + relay) 2 then
    let t := s.fast 0x2600 (if closing then 0x0E + relay else 0x12 + relay)
    let T := s.sourcePeriod c
    let d := if T = 0 then 0 else roundRat (t * 65536 / T)
    ((b - d) % (65536 : Int)).toNat
  else b

/-- The bearing at which an entry fires. -/
def State.firingBearing (s : State) (e : Entry) : Nat :=
  if e.action = 1 ∨ e.action = 2 then s.compensated e.source e.target (e.action == 1) e.bearing else e.bearing

/-- The arming of an entry that is written or enabled (R176, R177). -/
def State.armEntry (s : State) (n : Fin 64) : State :=
  let e := s.entry n
  let at_ := s.firingBearing e
  let ahead := (at_ + 65536 - s.bearing e.source) % 65536
  let armed := e.enabled && decide (0 < ahead ∧ ahead ≤ 32768)
  (s.setMeridian { s.meridian with arming := s.meridian.arming.set n ⟨armed, 0, at_⟩ })

/-- Every entry is armed under R176, its divider count 0 (R193, R194). -/
def State.armAll (s : State) : State := (List.finRange 64).foldl State.armEntry s

/-- A bearing moves from `p` to `q` past `b` in the increasing direction. -/
def passesUp (p q b : Nat) : Bool :=
  let d := (q + 65536 - p) % 65536
  let k := (b + 65536 - p) % 65536
  decide (0 < d ∧ d < 32768 ∧ 0 < k ∧ k ≤ d)

/-- A bearing moves from `p` to `q` past `b` in either direction (R176). -/
def passes (p q b : Nat) : Bool := passesUp p q b || passesUp ((65536 - p) % 65536) ((65536 - q) % 65536) ((65536 - b) % 65536)

/-- Rail actions run in RUN outside Outline mode (R181). -/
def State.railActions (s : State) : Bool := s.power == 4 && !s.outline.active

/-- The window of a rail opened or closed (R172). -/
def State.putWindow (s : State) (target : Nat) (opened : Bool) : State :=
  s.modRail (Fin.ofNat 5 target) fun a => { a with window := opened }

/-- The device may produce SYNC now (R71). -/
def State.syncAllowed (s : State) : Bool :=
  s.bit 0x1005 0 30 && s.fullService && s.canSends && (s.can.nmt == .preOperational || s.can.nmt == .operational)

/-- A supervisor action does nothing now and is not queued: a target outside RUN, or a SYNC that R71 and R181 forbid. -/
def State.actionIdle (s : State) (action : Nat) : Bool :=
  (action == 7 && !s.railActions) || (action == 6 && (s.obj 0x1006 0 != 0 || !s.syncAllowed))

/-- The action of an entry that fires (R172, R178–R181). -/
def State.fireAction (s : State) (n : Fin 64) (v : Nat) : State :=
  let e := entryOf v
  match e.action with
  | 1 | 2 =>
    if e.source = chMains ∧ s.tracker ≠ 1 then s.bump 0x2600 0x1C
    else s.driveRelay (Fin.ofNat 4 e.target) (e.action == 1)
  | 3 => s.setAuxSequence { s.auxSequence with requests := s.auxSequence.requests ++ [e.target % 8] }
  | 4 => if s.railActions then s.putWindow e.target true else s
  | 5 => if s.railActions then s.putWindow e.target false else s
  | 6 | 7 | 8 =>
    if s.actionIdle e.action then s
    else if s.meridian.queue.length < 64 then
      (s.setMeridian { s.meridian with queue := s.meridian.queue ++ [(n.val + 1, v)] })
    else (s.bump 0x2210 0x41).raise dvGratOverrun (evData [evU 1 (n.val + 1)])
  | _ => s

/-- An entry over one motion of its source, or over one step, which fires nothing (R158, R175–R177). -/
def State.scanMove (s : State) (n : Fin 64) (move : Nat × Nat × Bool) : State :=
  let e := s.entry n
  let p := move.1
  let q := move.2.1
  let a := s.meridian.arming[n]
  let put (a : Arming) (s : State) : State :=
    (s.setMeridian { s.meridian with arming := s.meridian.arming.set n a })
  if a.armed then
    if move.2.2 || !passesUp p q a.place then s
    else if a.skip = 0 then
      let s := put { a with armed := false, skip := e.divider } s
      (s.putObj 0x2210 0x42 (n.val + 1)).fireAction n (s.nat 0x2210 (1 + n.val))
    else put { a with armed := false, skip := a.skip - 1 } s
  else if passes p q ((a.place + 32768) % 65536) then
    put { a with armed := true, place := s.firingBearing e } s
  else s

/-- One entry in one scan (R174, R180). -/
def State.scanEntry (s : State) (n : Fin 64) : State :=
  let e := s.entry n
  if !e.enabled || !s.sourceValid e.source then s
  else (s.moves e.source).foldl (fun (s : State) (m : Nat × Nat × Bool) => s.scanMove n m) s

/-- MAINS has passed a bearing in the increasing direction since the last scan, other than by a step. -/
def State.mainsPasses (s : State) (b : Nat) : Bool :=
  (s.moves chMains).any fun (m : Nat × Nat × Bool) => !m.2.2 && passesUp m.1 m.2.1 b

/-- A relay's waiting host commands at a scan: mode 0 acts, mode 1 at its bearing (R178, R184). -/
def State.scanRelay (s : State) (i : Fin 4) : State :=
  let r := s.meridian.relays[i]
  let clear (f : Relay → Relay) (s : State) : State :=
    (s.setMeridian { s.meridian with relays := s.meridian.relays.set i (f s.meridian.relays[i]) })
  let s := match r.due with
    | some closed => (clear (fun a => { a with due := none }) s).driveRelay i closed
    | none => s
  match r.waiting with
  | some closed =>
    let b := s.fastNat 0x2600 (if closed then 2 + i.val else 6 + i.val)
    if s.mainsPasses (s.compensated chMains i.val closed b) then
      let s := clear (fun a => { a with waiting := none }) s
      if s.tracker = 1 then s.driveRelay i closed else s.bump 0x2600 0x1C
    else s
  | none => s

/-- SYNCOUT at a scan: the square wave, and the CYCLE pulse of 1 µs from the crossing of 2200:13 (R171). -/
def State.scanSync (s : State) : State :=
  if s.fast 0x2200 0x11 = 2 then
    let hit := s.mainsPasses (s.fastNat 0x2200 0x13)
    let left := if hit then 4 else s.meridian.syncLeft - 1
    (s.setMeridian { s.meridian with syncLeft := left, syncOut := Nat.blt 0 left })
  else s.switchWave (64 * s.meridian.scans : Nat)

/-- The Graticule scans: at full service, function 11 not disabled (R181, R193, R491). -/
def State.graticuleScans (s : State) : Bool := s.fullService && s.funcState 11 == 0

/-- One scan (R174): the bearings advance, the entries are compared in ascending order, then the host's relay
commands. -/
def State.graticuleScan (s : State) : State :=
  if !s.serving then s
  else
    let s := (s.mainsAdvance.elecAdvance).reportBearings
    let s := if s.graticuleScans then (List.finRange 64).foldl State.scanEntry s else s
    let s := if s.fullService then (List.finRange 4).foldl State.scanRelay s else s
    let s := s.scanSync
    (s.setMeridian { s.meridian with prev := s.meridian.acc, trail := Vector.replicate 4 [] })

/-- GRATICULE_SCAN (R174). -/
def execGraticuleScan (s : State) : Host.Outcome State Fault Refusal := .next s.graticuleScan

/-! ### Relay learning (R185) -/

/-- The learned time of a relay after a measurement, and the rejections in a row. -/
def State.learn (s : State) (i : Fin 4) (closing : Bool) (us : Nat) : State :=
  let sub := if closing then 0x0E + i.val else 0x12 + i.val
  let learned := s.obj 0x2600 sub
  let d : Int := us - learned
  let setRej (n : Nat) (s : State) : State :=
    (s.setMeridian { s.meridian with
        relays := s.meridian.relays.set i { s.meridian.relays[i] with rejections := n } })
  if us < 500 ∨ 50000 < us then s
  else if -2000 ≤ d ∧ d ≤ 2000 then setRej 0 (s.putObj 0x2600 sub (roundDiv (4 * learned + d) 4))
  else
    let n := s.meridian.relays[i].rejections + 1
    let s := (s.bump 0x2600 0x1B).raise dvRlyLearnReject (evData [evU 1 i.val, evU 4 us])
    if 4 ≤ n then setRej 0 (s.putObj 0x2600 sub us) else setRej n s

/-- A feedback quantity, the half-cycle RMS of a voltage or the magnitude of a current, crosses the threshold of its relay,
2600:1D–20, between two values (R185). -/
def State.feedbackCrosses (s : State) (i : Fin 4) (before after : Nat) : Bool :=
  let t := s.fast 0x2600 (0x1D + i.val)
  decide (((before : Int) ≤ t ∧ t < (after : Int)) ∨ ((after : Int) ≤ t ∧ t < (before : Int)))

/-- The feedback of a relay's operation transitions (R185). -/
def State.relayFeedback (s : State) (i : Fin 4) (us before after : Nat) : State :=
  match (if s.feedbackCrosses i before after then s.meridian.relays[i].measuring else none) with
  | none => s
  | some closing =>
    let s := (s.setMeridian { s.meridian with
      relays := s.meridian.relays.set i { s.meridian.relays[i] with measuring := none } })
    if s.fast 0x2600 (0x0A + i.val) = 0 ∨ s.fastBit 0x2600 (0x16 + i.val) 0 = false then s else s.learn i closing us

/-- RELAY_FEEDBACK_TRANSITION (R185). -/
def execRelayFeedbackTransition (relay : Fin 4) (feedback : Feedback) (s : State) : Host.Outcome State Fault Refusal :=
  .next (s.relayFeedback relay feedback.us feedback.before.toNat feedback.after.toNat)

/-- A relay command accepted (R184). A mode 0 command and a waiting mode 1 command of one relay both act, each at its time
(DESIGN CHOICE, log 129). -/
def State.commandRelay (s : State) (i : Fin 4) (closed bearing : Bool) : State :=
  let a := s.meridian.relays[i]
  let a := if bearing then { a with waiting := some closed } else { a with due := some closed }
  (s.setMeridian { s.meridian with relays := s.meridian.relays.set i a })

/-- The argument of a relay command is well formed (R184). -/
def relayArgument (a : Nat) : Bool := a &&& 0xFEEC == 0

/-! ### Pins (R187–R190) -/

/-- GPIO0 is a SYNCOUT output. -/
def State.syncOutOn (s : State) : Bool := s.fast 0x2200 0x11 != 0

/-- The pins follow their modes: full service reached, and not in SLEEP (R190). Before that 2610:08 reads 0 (DESIGN CHOICE,
log 132). -/
def State.pinsOn (s : State) : Bool := s.fullService

/-- The level an output pin drives; `none` where the outside sets it or the input is off. -/
def State.gpioDriven (s : State) (n : Fin 6) : Option Bool :=
  if !s.pinsOn then none
  else if n = 0 ∧ s.syncOutOn = true then some s.meridian.syncOut
  else
    let level := s.bit 0x2610 7 n.val
    match s.nat 0x2610 (1 + n.val) with
    | 4 => some level
    | 5 => if level then none else some false
    | _ => none

/-- 2610:08: a driven pin reads its level; what the outside puts on another input is free (R189, log 10). -/
def State.gpioLevels (s : State) : Nat :=
  (List.finRange 6).foldl (fun (v : Nat) (n : Fin 6) =>
    let mode := s.nat 0x2610 (1 + n.val)
    let b := match s.gpioDriven n with
      | some l => l
      | none => s.pinsOn && mode != 0 && (s.unstated (6 + n.val)) % 2 == 1
    if b then v + 2 ^ n.val else v) 0

/-- The state of function 11 after a reinitialisation (R194). -/
def State.resetMeridian (s : State) : State :=
  let was := s.tracker
  let s := (s.putObj 0x2200 1 0).putObj 0x2200 0x0B 0
  let s := (s.setMeridian { s.meridian with queue := [], qualified := 0, outside := 0, mains := s.nominalPeriod, rate := 0 })
  let s := if was = 2 then s.endFlywheel else s
  s.armAll

/-! ### Rules of the objects of this chapter -/

/-- A refusal of a write of 2200, 2210, 2600 or 2610; `t` is the state with the value in place. -/
def State.meridianRule (s t : State) (ix sub : Nat) (v : Int) : Option Nat :=
  if ix = 0x2200 then
    if sub = 3 ∨ sub = 7 ∨ sub = 8 ∨ sub = 9 then
      let f := t.obj 0x2200 7 * t.obj 0x2200 3
      if s.anyOn then some 0x08000022
      else if !decide (20000 ≤ t.obj 0x2200 8 ∧ t.obj 0x2200 8 < t.obj 0x2200 9 ∧ t.obj 0x2200 9 ≤ 1500000
          ∧ t.obj 0x2200 8 * 100 ≤ f ∧ f ≤ t.obj 0x2200 9 * 100) then some 0x06090030
      else if sub = 9 then t.capacityRule
      else none
    else none
  else if ix = 0x2210 then
    if 1 ≤ sub ∧ sub ≤ 0x40 ∧ entryValid v.toNat = false then some 0x06090030 else none
  else if ix = 0x2600 then
    if 0x0A ≤ sub ∧ sub ≤ 0x0D then
      (if v = 0 ∨ (1 ≤ v ∧ v ≤ 4) ∨ (0x11 ≤ v ∧ v ≤ 0x14) then none else some 0x06090030)
    else if 0x16 ≤ sub ∧ sub ≤ 0x19 ∧ 8 ≤ v then some 0x06090030
    else none
  else if ix = 0x2610 ∧ sub = 7 ∧ 0x40 ≤ v then some 0x06090030
  else none

end Sys2Proof.Machine
end

