-- ==== Sys2Proof/Machine/Tropo.lean ====
section
/-! DEFINITION. The Tropo ring (chapter 11): frames, discovery, joining, latency and alignment, spanning rails,
fault broadcast, leaving and ring loss. -/

namespace Sys2Proof.Machine

/-! ### Position and spanning rails -/

/-- The ring position, the strap value modulo 8 (R49). -/
def State.position (s : State) : Fin 8 := Fin.ofNat 8 (s.nat 0x2008 6)

/-- The device at position 0 is the ring lead (R375). -/
def State.isRingLead (s : State) : Bool := s.position == 0

/-- The local rail that names spanning rail `i` in 3r01:03 (R385). -/
def State.spanRail (s : State) (i : Fin 4) : Option RailId :=
  railIds.find? fun r => r != railD && s.railObj r 0x01 3 == i.val

/-- The device leads spanning rail `i` (R385). -/
def State.leadsSpan (s : State) (i : Fin 4) : Bool :=
  match s.spanRail i with | some r => s.railObj r 0x10 2 != 4 | none => false

/-- The phases mapped to the local rail of spanning rail `i`. -/
def State.spanPhases (s : State) (i : Fin 4) : Nat :=
  match s.spanRail i with | some r => (s.railPhases r).length | none => 0

/-- The local rail of spanning rail `i` is ON and not stopping (R373). -/
def State.spanOn (s : State) (i : Fin 4) : Bool :=
  match s.spanRail i with | some r => s.isOn r && s.rails[r].stop == .none | none => false

/-- The four spanning rails. -/
def spanIds : List (Fin 4) := List.finRange 4

/-- The mask of spanning rails that run here. -/
def State.spanMask (s : State) : Nat :=
  spanIds.foldl (fun (v : Nat) i => if s.spanOn i then v + 2 ^ i.val else v) 0

/-- Own current of a rail: the sum over its active local phases. -/
def State.localCurrent (s : State) (r : RailId) : Int :=
  (s.activePhases r).foldl (fun (q : Int) p => q + s.phaseObj p 5 7) 0

/-- What the device knows of a position: its own values, or the member table (R378). -/
def State.memberAt (s : State) (p : Fin 8) : Member :=
  if p = s.position then
    { present := s.ring.joined, leads := Vector.ofFn s.leadsSpan, phases := Vector.ofFn s.spanPhases,
      running := s.spanMask, missed := 0, aligned := true }
  else s.ring.members[p]

/-- All positions. -/
def positions : List (Fin 8) := List.finRange 8

/-! ### CRC (R369) -/

/-- The low `w` bits of a number, least significant first. -/
def sentBits (w v : Nat) : List Bool := (List.range w).map v.testBit

/-- Bits 8–111 of a frame in the order they are sent. -/
def frameBits (f : RingFrame) : List Bool :=
  sentBits 4 f.kind.toNat ++ sentBits 4 f.seq.toNat ++ sentBits 16 f.bearing.toNat ++ sentBits 16 f.epoch.toNat
    ++ sentBits 16 f.fault.toNat ++ sentBits 12 f.shareA.toNat ++ sentBits 12 f.shareB.toNat
    ++ sentBits 16 f.command.toNat ++ sentBits 8 f.token.toNat

/-- The CRC of bits in the order they are sent: x^8 + x^2 + x + 1, initial value 0. -/
def ringCrc (l : List Bool) : BitVec 8 :=
  l.foldl (fun (c : BitVec 8) b => if c.msb != b then (c <<< 1) ^^^ 0x07#8 else c <<< 1) 0#8

/-- The CRC a frame should carry. -/
def frameCrc (f : RingFrame) : BitVec 8 := ringCrc (frameBits f)

/-! ### Fields of the own device -/

/-- The device's fault bit (R392). -/
def State.ownFault (s : State) : Bool :=
  (spanIds.any fun i => match s.spanRail i with | some r => s.rails[r].responseOff | none => false)
    || s.safety.path || s.ring.leaving == some 2

/-- The device's class flags, FAULT[15:11] (R393). -/
def State.ownClass (s : State) : Nat :=
  natOf (spanIds.any fun i => match s.spanRail i with | some r => s.rails[r].responseOff | none => false)
    + 2 * natOf (s.fabric.uncleared.any fun u => severityOf u.ev == 4)
    + 4 * natOf s.safety.path + 8 * natOf (s.outline.active || s.ring.leaving == some 2)
    + 16 * natOf (s.supply.pfw || s.supply.vinLost)

/-- A share contribution (R389). -/
def State.contribution (s : State) (i : Fin 4) : Nat :=
  match s.spanRail i with
  | none => 0
  | some r => (clampInt (roundDiv (max 0 (s.localCurrent r)) (s.obj 0x2400 (0x12 + i.val))) 0 2047).toNat

/-- The share slot the device sends on for one it received (R389). -/
def State.shareOut (s : State) (i : Fin 4) (slot : Nat) : Nat :=
  if s.leadsSpan i then s.contribution i
  else if (s.spanRail i).isSome then
    let sum := slot % 2048 + s.contribution i
    sum % 2048 + (if 2048 ≤ sum ∨ slot.testBit 11 = true then 2048 else 0)
  else slot

/-- The COMMAND of the spanning-rail lead (R387). -/
def State.commandOut (s : State) (i : Fin 4) : Nat :=
  match s.spanRail i with
  | some r =>
    if s.spanOn i then
      let code := clampInt (roundRat (s.rails[r].demand / (s.ring.count[i] * s.obj 0x2400 (0x16 + i.val)))) 0 4095
      i.val * 4096 + code.toNat
    else (i.val + 8) * 4096
  | none => (i.val + 8) * 4096

/-- The reply of the device to a poll (R373). -/
def State.replyOut (s : State) : Nat := s.position.val * 32 + 16 + s.spanMask

/-- The discovery reply in COMMAND (R378). -/
def State.discoverOut (s : State) (command : Nat) : Nat :=
  let i : Fin 4 := Fin.ofNat 4 (command / 4096)
  command / 4096 * 4096 + 2048 * natOf (s.leadsSpan i) + s.spanPhases i % 16

/-- The shares of the two slots of a parity sent, and kept as the own last contributions. -/
def State.keepShares (s : State) (odd : Bool) : State :=
  let base := 2 * natOf odd
  (s.setRing { s.ring with
    own := (s.ring.own.set (Fin.ofNat 4 base) (s.contribution (Fin.ofNat 4 base))).set (Fin.ofNat 4 (base + 1))
      (s.contribution (Fin.ofNat 4 (base + 1))) })

/-! ### The check of spanning rails (R381) -/

/-- The reason a spanning rail fails the check; none where it passes. -/
def State.spanFault (s : State) (i : Fin 4) : Option Nat :=
  let leads := positions.filter fun p => (s.memberAt p).leads[i]
  let members := positions.filter fun p => (s.memberAt p).phases[i] != 0
  let phases := members.foldl (fun (n : Nat) p => n + (s.memberAt p).phases[i]) 0
  if leads.isEmpty && members.isEmpty then none
  else if leads.length ≠ 1 then some 0
  else if leads.head? != members.head? then some 1
  else if 4 < members.length then some 2
  else if 32 < phases then some 3
  else none

/-- The check of R381 on every spanning rail after a discovery. The END record of TR_SPAN_CONFIG names the lowest rail
that had failed; a reason there is no longer, so that byte is free (log 10). -/
def State.checkSpans (s : State) : State :=
  let bad := spanIds.find? fun i => s.ring.spanBad[i]
  let s := (s.setRing { s.ring with spanBad := Vector.ofFn fun i => (s.spanFault i).isSome })
  let mine := spanIds.filter fun i => (s.spanRail i).isSome && s.ring.spanBad[i]
  if mine.isEmpty then
    (s.endEvent trSpanConfig (evData [evU 1 (match bad with | some i => (i.val : Int) | none => 0),
      leInt 1 (s.unstated 15)])).tick
  else mine.foldl (fun (s : State) i =>
    s.raise trSpanConfig (evData [evU 1 i.val, evU 1 ((s.spanFault i).getD 0)])) s

/-! ### Latency and alignment (R382, R383) -/

/-- A position is fitted, 2400:04. -/
def State.fitted (s : State) (p : Nat) : Bool := s.bit 0x2400 4 p

/-- The hop delay of a fitted position in ps. -/
def State.hop (s : State) (p : Fin 8) : Nat :=
  if !s.fitted p.val || p.val = 0 then 0 else if s.ring.members[p].present then 64000 else 3000

/-- The declared delay of segment `p` in ps. -/
def State.segment (s : State) (p : Nat) : Rat :=
  if s.fitted p then (s.nat 0x2400 (9 + p) * s.nat 0x2400 0x11 : Nat) / 1000 else 0

/-- The sum of the declared delays. -/
def State.segments (s : State) : Rat := (List.range 8).foldl (fun (q : Rat) p => q + s.segment p) 0

/-- The trace delay T in ps. -/
def State.traceDelay (s : State) : Rat :=
  s.obj 0x2400 7 - (positions.foldl (fun (n : Nat) p => n + s.hop p) 0 : Nat)

/-- The scale k. -/
def State.latencyScale (s : State) : Rat := if s.segments = 0 then 1 else s.traceDelay / s.segments

/-- The alignment code of follower `q`, in 1/4 core clock. -/
def State.alignCode (s : State) (q : Nat) : Nat :=
  let hops := positions.foldl (fun (n : Nat) p => if p.val < q then n + s.hop p else n) 0
  let segs := (List.range q).foldl (fun (x : Rat) p => x + s.segment p) 0
  (roundRat ((hops + s.latencyScale * segs) * 3 / 3125)).toNat % 4096

/-- The latency measured, with TR_LATENCY_MISMATCH when the difference passes 10 ns (R382). It is judged in UP, when the
joined followers are known (DEDUCED, log 140). -/
def State.takeLatency (s : State) (ps : Nat) : State :=
  let s := s.putObj 0x2400 7 ps
  let d := s.traceDelay - s.segments
  let far := s.obj 0x2400 2 == 4 && decide (d < -10000 ∨ 10000 < d)
  let was := s.ring.mismatch
  let s := (s.setRing { s.ring with mismatch := far })
  if far && !was then s.raise trLatencyMismatch (evData [evI 4 (roundRat d)]) else s

/-! ### Ring states -/

/-- The port may be joined: enabled, in IDLE or RUN, function 7 not disabled (R375). -/
def State.ringActive (s : State) : Bool :=
  s.obj 0x2400 1 == 1 && s.serving && s.idleContent && !s.outline.active
    && (s.funcState 7 == 0 || s.funcState 7 == 3)

/-- The joins counted (2400:23). -/
def State.joinedRing (s : State) : State :=
  (s.setRing { s.ring with bypassClosed := false, joined := true, good := 0, bad := 0, frameTime := none,
                           leadStart := none, leadPeriod := 0, slots := Vector.replicate 4 0,
                           own := Vector.replicate 4 0, sent := none }).bump 0x2400 0x23

/-- The port hears no other position any more, so their fault bits no longer stand (R395, log 141). -/
def State.forgetFaults (s : State) : State :=
  let was := s.nat 0x2400 0x1F
  let p := ((List.range 8).find? was.testBit).getD 0
  if was = 0 then s
  else (s.putObj 0x2400 0x1F 0).endEvent trRemoteFault
    (evData [evU 1 p, evU 1 s.ring.classes[(Fin.ofNat 8 p : Fin 8)]])

/-- The port begins to join, if it may; a leave in progress completes first (R375, R377, R400). -/
def State.joinRing (s : State) : State :=
  let st := s.obj 0x2400 2
  if st = 6 then s
  else if s.ring.leaving.isSome then (s.setRing { s.ring with rejoin := true })
  else if s.ring.joined then s
  else if !s.ringActive then s.putObj 0x2400 2 (if s.obj 0x2400 1 = 1 then 1 else 0)
  else
    (s.setRing { s.ring with good := 0, bad := 0, lastSeq := none, noLead := false }).putObj 0x2400 2
      (if s.isRingLead then 1 else 2)

/-- The ring lead enters DISCOVERY with an empty member table. -/
def State.enterDiscovery (s : State) : State :=
  (s.setRing { s.ring with members := Vector.replicate 8 {}, pass := 0, lateJoin := 0, alignDue := [] }).putObj
    0x2400 2 3

/-- The port enters UP; TR_BREAK ends (R379). -/
def State.enterUp (s : State) : State :=
  (s.putObj 0x2400 2 4).endEvent trBreak (evData [evU 1 (natOf !s.isRingLead), evU 1 (s.obj 0x2400 2)])

/-- The end of the lead's listening (R376): it finds another lead, or it opens its bypass and discovers. -/
def State.listenEnd (s : State) (framesFound : Bool) : State :=
  if s.isRingLead && s.ringActive && !s.ring.joined && s.obj 0x2400 2 == 1 then
    if framesFound then (s.putObj 0x2400 2 6).raise trDupPosition (evData [evU 1 s.position.val])
    else s.joinedRing.enterDiscovery
  else s

/-- A follower with 8 good frames opens its bypass and joins (R377). -/
def State.ringLock (s : State) : State :=
  if !s.isRingLead && s.ringActive && !s.ring.joined && s.obj 0x2400 2 == 2 && Nat.ble 8 s.ring.good then
    let s := (s.joinedRing.putObj 0x2400 2 3)
    let s := (s.setRing { s.ring with aligned := false, members := Vector.replicate 8 {} })
    s.raise trJoined (evData [evU 1 s.position.val])
  else s

/-- RING_LOCK (R377). -/
def execRingLock (s : State) : Host.Outcome State Fault Refusal := .next s.ringLock

/-- A follower listens for a lead: locking, or broken and to rejoin (R377, R399). -/
def State.listening (s : State) : Bool :=
  !s.isRingLead && s.ringActive && !s.ring.joined
    && (s.obj 0x2400 2 == 2 || (s.obj 0x2400 2 == 5 && s.obj 0x2400 0x20 == 1))

/-- No valid frame for 100 ms raises TR_NO_LEAD once (R377). -/
def execRingNoLead (s : State) : Host.Outcome State Fault Refusal :=
  if s.listening && !s.ring.noLead then
    .next ((s.setRing { s.ring with noLead := true }).raise trNoLead 0)
  else .next s

/-- The longest run of silent positions among the expected ones, in ring order. -/
def silentRun : List Bool → Nat → Nat
  | [], run => run
  | true :: rest, run => silentRun rest (run + 1)
  | false :: rest, run => max run (silentRun rest 0)

/-- A mask of positions. -/
def positionMask (l : List (Fin 8)) : Nat := l.foldl (fun (v : Nat) p => v + 2 ^ p.val) 0

/-- The ring lead enters UP after the ALIGN pairs, and the checks of R379 and R381 run. -/
def State.discovered (s : State) : State :=
  let expected := positions.filter fun p => s.fitted p.val
  let silent := positionMask (expected.filter fun p => !(s.memberAt p).present)
  let s := s.enterUp.raise trUp (evData [evU 1 (positionMask (positions.filter fun p => (s.memberAt p).present))])
  let s := if silent ≠ 0 then s.raise trMemberMissing (evData [evU 1 silent]) else s
  let s := if 3 < silentRun (expected.map fun p => !(s.memberAt p).present) 0 then
      s.raise trBypassChain (evData [evU 1 silent])
    else s
  s.checkSpans

/-- The end of the initial discovery: an ALIGN pair is due to each follower that has replied, and UP follows the last of
them (R379). -/
def State.discoveryEnd (s : State) : State :=
  if s.isRingLead && s.ring.joined && s.obj 0x2400 2 == 3 && s.ring.alignDue.isEmpty then
    let due := (positions.filter fun p => p != s.position && (s.memberAt p).present).map Fin.val
    if due.isEmpty then s.discovered else s.setRing { s.ring with alignDue := due }
  else s

/-- A member's second unanswered poll (R386). -/
def State.memberLost (s : State) (p : Fin 8) : State :=
  let m := s.ring.members[p]
  if s.ring.joined && m.present && Nat.ble 2 m.missed then
    let mask := spanIds.foldl (fun (v : Nat) i => if m.phases[i] = 0 then v else v + 2 ^ i.val) 0
    let gone : Member := { m with present := false, running := 0, aligned := false }
    let s := (s.setRing { s.ring with members := s.ring.members.set p gone })
    s.raise trMemberLost (evData [evU 1 p.val, evU 1 mask])
  else s

/-- RING_MEMBER_LOST (R386). -/
def execRingMemberLost (position : BitVec 3) (s : State) : Host.Outcome State Fault Refusal :=
  .next (s.memberLost (Fin.ofNat 8 position.toNat))

/-! ### The end of a leave (R396) -/

/-- The leave completes: the bypass closes at the frame reference (R396). -/
def State.leaveComplete (s : State) : State :=
  match s.ring.leaving with
  | none => s
  | some reason =>
    if !s.ring.faultSent then s
    else
      let again := s.ring.rejoin
      let s := (s.setRing { s.ring with bypassClosed := true, joined := false, leaving := none, faultSent := false,
                                              rejoin := false, aligned := false, lastSeq := none }).forgetFaults
      let s := s.putObj 0x2400 2 (if s.obj 0x2400 1 = 1 then 1 else 0)
      let s := if s.funcState 7 == 1 then s.putFunc 7 2 else if s.funcState 7 == 3 then s.putFunc 7 0 else s
      let s := s.raise trLeft (evData [evU 1 reason])
      if again then s.joinRing else s

/-! ### Breaks (R398, R399) -/

/-- The remote term of 3r48:02 on the lead of spanning rail `i`, in mA (R390), through a break (R398). -/
def State.remoteTerm (s : State) (i : Fin 4) : Rat :=
  let left := s.ring.localMove[i]
  if left ≠ 0 then s.ring.remoteLast[i] * left / 64
  else if s.ring.joined && s.obj 0x2400 2 == 4 then
    let slot := s.ring.slots[i]
    let total : Int := if slot.testBit 11 then 2047 else (slot % 2048 : Nat)
    ((total - s.ring.own[i]) * s.obj 0x2400 (0x12 + i.val) : Int)
  else 0

/-- The RING_DEMAND output of a rail in mA (R388); after a break it falls from its last value (R398). -/
def State.ringDemand (s : State) (r : RailId) : Rat :=
  let i := s.nat (railIx r 0x01) 3
  match s.rails[r].ringFrom with
  | some last => max 0 (last - s.rails[r].ringFall)
  | none =>
    if h : i < 4 then ((s.ring.demand[i] * s.nat 0x2400 (0x16 + i) * (s.railPhases r).length : Nat) : Rat) else 0

/-- The actions of a break on the rails of spanning rail `i`. -/
def State.loseSpan (s : State) (i : Fin 4) : State :=
  match s.spanRail i with
  | none => s
  | some r =>
    if s.leadsSpan i then
      (s.setRing { s.ring with remoteLast := s.ring.remoteLast.set i (s.remoteTerm i),
                                     localMove := s.ring.localMove.set i 64 })
    else if s.stoppable r && s.rails[r].stop == .none then
      let last := s.ringDemand r
      ((s.softStop r 9).putRailObj r 0x00 3 0).modRail r fun a =>
        if a.running then { a with ringFrom := some last, ringFall := 0 } else a
    else s

/-- A break is declared after 8 bad frames in a row (R398). -/
def State.ringBreak (s : State) : State :=
  if s.ring.joined && Nat.ble 8 s.ring.bad && s.obj 0x2400 2 != 5 then
    let before := s.obj 0x2400 2
    let s := (s.bump 0x2400 0x22).raise trBreak (evData [evU 1 (natOf !s.isRingLead), evU 1 before])
    let s := spanIds.foldl State.loseSpan s
    let s := (s.setRing { s.ring with good := 0, alignDue := [], lateJoin := 0 }).forgetFaults
    let s := if s.ring.leaving.isSome then s else s.putObj 0x2400 2 5
    if s.isRingLead then s
    else
      let s := (s.setRing { s.ring with bypassClosed := true, joined := false, aligned := false, lastSeq := none })
      if s.ring.leaving.isSome then ((s.setRing { s.ring with faultSent := true })).leaveComplete else s
  else s

/-- RING_BREAK (R398). -/
def execRingBreak (s : State) : Host.Outcome State Fault Refusal := .next s.ringBreak

/-- The ring lead re-enters discovery after 8 good frames (R399). -/
def execRingLeadRecovery (s : State) : Host.Outcome State Fault Refusal :=
  if s.isRingLead && s.ring.joined && s.obj 0x2400 2 == 5 && Nat.ble 8 s.ring.good && s.obj 0x2400 0x20 == 1 then
    .next s.enterDiscovery
  else .next s

/-! ### Leaving -/

/-- Reinitialising function 7 (R400). -/
def State.resetRing (s : State) : State :=
  let s := s.leaveRing 3
  let s := (s.setRing { s.ring with members := Vector.replicate 8 {}, bad := 0 }).putObj 0x2400 8 0
  let s := if s.obj 0x2400 2 = 5 then
      (s.setRing { s.ring with bypassClosed := true }).putObj 0x2400 2 (if s.obj 0x2400 1 = 1 then 1 else 0)
    else s
  s.joinRing

/-! ### Sending (R367–R380) -/

/-- The kind of the next frame of the ring lead: an odd frame repeats that of the even one. -/
def State.nextKind (s : State) : Nat :=
  if s.ring.sendSeq % 2 = 1 then (match s.ring.sent with | some f => f.kind.toNat | none => 1)
  else if s.obj 0x2400 2 == 3 && !s.ring.alignDue.isEmpty then 2
  else if s.obj 0x2400 2 != 4 then 1
  else if 2 < s.ring.lateJoin then 1
  else if s.ring.lateJoin ≠ 0 ∨ s.ring.alignDue.isEmpty = false then 2
  else 0

/-- The position the next frame polls or reports, SEQ >> 1, or the follower of an ALIGN pair. -/
def State.pollAt (s : State) (kind : Nat) : Nat :=
  if kind = 2 then s.ring.alignDue.headD 0 else s.ring.sendSeq / 2

/-- The FAULT field the ring lead sends (R392, R393). -/
def State.leadFault (s : State) : Nat :=
  let seq := s.ring.sendSeq
  let bits := setBit (s.ring.fault % 256) 0 s.ownFault
  let flags := if seq % 2 = 1 then s.ring.fault / 2048 else if seq / 2 = 0 then s.ownClass else 0
  bits + 256 * (seq / 2) + 2048 * flags

/-- When the next frame reference passes: 2.56 µs, 614.4 core clocks, after the last, and in the present base period (R365,
R371). -/
def State.frameNow (s : State) : Rat :=
  max s.meridian.epochTime (match s.ring.frameTime with | some t => t + 3072 / 5 | none => 64 * s.meridian.scans)

/-- The next frame of the ring lead, with the bearing of the switching reference and the age of its base period (R371). -/
def State.leadFrame (s : State) : RingFrame :=
  let seq := s.ring.sendSeq
  let kind := s.nextKind
  let at_ := s.pollAt kind
  let odd := decide (seq % 2 = 1)
  let i : Fin 4 := Fin.ofNat 4 seq
  let share (k : Nat) : BitVec 12 :=
    let j : Fin 4 := Fin.ofNat 4 (2 * natOf odd + k)
    BitVec.ofNat 12 (s.shareOut j s.ring.slots[j])
  let poll := if at_ = 0 ∧ kind ≠ 2 then s.replyOut else at_ * 32
  let command :=
    if kind = 0 then (if s.leadsSpan i then s.commandOut i else (i.val + 8) * 4096)
    else if odd then s.ring.command
    else if kind = 1 then
      (let c := s.ring.pass % 4 * 4096
       if at_ = 0 then s.discoverOut c else c)
    else s.alignCode at_
  let age := 4 * (s.frameNow - s.meridian.epochTime)
  let f : RingFrame :=
    { kind := BitVec.ofNat 4 kind, seq := BitVec.ofNat 4 seq,
      bearing := BitVec.ofNat 16 s.refBearing,
      epoch := BitVec.ofNat 16 (min 65535 age.floor.toNat),
      fault := BitVec.ofNat 16 s.leadFault, shareA := share 0, shareB := share 1,
      command := BitVec.ofNat 16 command, token := BitVec.ofNat 8 (if odd then s.ring.token else poll),
      crc := 0, reserved := 0 }
  { f with crc := frameCrc f }

/-- The end of an ALIGN pair: the follower's code is kept as sent. -/
def State.alignSent (s : State) : State :=
  match s.ring.alignDue with
  | [] => s
  | q :: rest =>
    let p : Fin 8 := Fin.ofNat 8 q
    (s.setRing { s.ring with alignDue := rest, codes := s.ring.codes.set p (s.alignCode q),
                                   members := s.ring.members.set p { s.ring.members[p] with aligned := true } })

/-- An odd frame of an ALIGN pair has been sent: the last one of a discovery brings UP (R379). -/
def State.pairSent (s : State) : State :=
  let s := s.alignSent
  if s.obj 0x2400 2 == 3 && s.ring.alignDue.isEmpty then s.discovered else s

/-- The ring lead sends the next frame. Until an even frame has come round, the odd one repeats what was sent. -/
def State.sendFrame (s : State) : State :=
  if s.isRingLead && s.ring.joined then
    let f := s.leadFrame
    let kind := f.kind.toNat
    let odd := decide (s.ring.sendSeq % 2 = 1)
    let s := (s.setRing { s.ring with frameTime := some s.frameNow, token := f.token.toNat, command := f.command.toNat })
    let s := if kind = 0 then s.keepShares odd else s
    let late := s.ring.lateJoin
    let s := if odd && kind == 2 then s.pairSent else s
    let left := if odd && kind != 0 && s.obj 0x2400 2 == 4 then late - 2 else late
    let s := if late ≠ 0 ∧ left = 0 then s.checkSpans else s
    (s.setRing { s.ring with
      sent := some f, sendSeq := (s.ring.sendSeq + 1) % 16, lateJoin := left,
      pass := if kind = 1 ∧ s.ring.sendSeq = 15 then s.ring.pass + 1 else s.ring.pass,
      faultSent := s.ring.leaving.isSome })
  else s

/-! ### Receiving (R370) -/

/-- The frame is good at this receiver: its CRC and its SEQ. -/
def State.frameGood (s : State) (f : RingFrame) : Bool :=
  f.crc == frameCrc f
    && (match s.ring.lastSeq with | some n => f.seq.toNat == (n + 1) % 16 | none => true)

/-- The FAULT field read: remote bits, classes, TR_REMOTE_FAULT on a rise and its end (R393, R395). -/
def State.readFaults (s : State) (f : RingFrame) : State :=
  let v := f.fault.toNat
  let own := s.position.val
  let cp := v / 256 % 8
  let s := if f.seq.toNat % 2 = 1 then
      (s.setRing { s.ring with classes := s.ring.classes.set (Fin.ofNat 8 cp) (v / 2048) })
    else s
  let now := setBit (v % 256) own false
  let was := s.nat 0x2400 0x1F
  let s := s.putObj 0x2400 0x1F now
  let rises : List Nat := (List.range 8).filter fun p => now.testBit p && !was.testBit p
  let s := rises.foldl (fun (s : State) (p : Nat) =>
    s.raise trRemoteFault (evData [evU 1 p, evU 1 s.ring.classes[(Fin.ofNat 8 p : Fin 8)]])) s
  let fell := ((List.range 8).find? fun p => was.testBit p).getD 0
  if was ≠ 0 ∧ now = 0 then
    s.endEvent trRemoteFault (evData [evU 1 fell, evU 1 s.ring.classes[(Fin.ofNat 8 fell : Fin 8)]])
  else s

/-- The token read: a reply, or in an odd frame a missed poll (R373, R378, R386). -/
def State.readToken (s : State) (f : RingFrame) : State :=
  let t := f.token.toNat
  let p : Fin 8 := Fin.ofNat 8 (t / 32)
  let m := s.ring.members[p]
  let put (m : Member) : State := (s.setRing { s.ring with members := s.ring.members.set p m })
  if p = s.position then s
  else if t.testBit 4 then
    let m := { m with present := true, running := t % 16, missed := 0 }
    if f.kind = 1 then
      let c := f.command.toNat
      let i : Fin 4 := Fin.ofNat 4 (c / 4096)
      put { m with leads := m.leads.set i (c.testBit 11), phases := m.phases.set i (c % 16) }
    else put m
  else if f.seq.toNat % 2 = 1 ∧ m.present = true then put { m with missed := min 2 (m.missed + 1) }
  else s

/-- The demand of a spanning rail read from a DATA frame (R374, R388). -/
def State.readCommand (s : State) (f : RingFrame) : State :=
  let c := f.command.toNat
  let id := c / 4096
  if id < 4 ∨ (8 ≤ id ∧ id < 12) then
    let i : Fin 4 := Fin.ofNat 4 id
    (s.setRing { s.ring with demand := s.ring.demand.set i (if id < 4 then c % 4096 else 0),
                                   spanRuns := s.ring.spanRuns.set i (decide (id < 4)) })
  else s

/-- The share slots of a DATA frame read; an overflow reaches the spanning-rail lead as an event (R389, R390). -/
def State.readShares (s : State) (f : RingFrame) : State :=
  let base := 2 * (f.seq.toNat % 2)
  let a : Fin 4 := Fin.ofNat 4 base
  let b : Fin 4 := Fin.ofNat 4 (base + 1)
  let reached (i : Fin 4) (v : Nat) (s : State) : State :=
    if s.leadsSpan i && v.testBit 11 && !s.ring.slots[i].testBit 11 then
      s.raise trShareOverflow (evData [evU 1 i.val])
    else s
  let s := reached b f.shareB.toNat (reached a f.shareA.toNat s)
  (s.setRing { s.ring with slots := (s.ring.slots.set a f.shareA.toNat).set b f.shareB.toNat })

/-- A follower receives its ALIGN (R379, R383). -/
def State.readAlign (s : State) (f : RingFrame) : State :=
  if f.token.toNat / 32 = s.position.val ∧ s.isRingLead = false then
    let s := (s.setRing { s.ring with aligned := true }).putObj 0x2400 8 (f.command.toNat % 4096)
    if s.obj 0x2400 2 == 3 then s.enterUp else s
  else s

/-- The first DATA frame after others ends a discovery, and a follower checks the spanning rails (R381). -/
def State.afterDiscovery (s : State) : State :=
  match s.ring.sent with
  | some f => if s.isRingLead || f.kind == 0 then s else s.checkSpans
  | none => s

/-- What a joined device reads of a good frame of a known KIND. -/
def State.readFrame (s : State) (f : RingFrame) : State :=
  let s := (s.readFaults f).readToken f
  if f.kind = 0 then (s.afterDiscovery.readCommand f).readShares f
  else if f.kind = 2 then s.readAlign f
  else s

/-- The fields a follower writes as the bits pass (R369, R373, R378, R387, R389, R392, R393). -/
def State.forwardFrame (s : State) (f : RingFrame) : RingFrame :=
  if 3 ≤ f.kind.toNat then f
  else
    let seq := f.seq.toNat
    let even := decide (seq % 2 = 0)
    let own := s.position.val
    let fault := setBit (f.fault.toNat % 256) own s.ownFault + 256 * (f.fault.toNat / 256 % 8)
      + 2048 * (if even && f.fault.toNat / 256 % 8 == own then s.ownClass else f.fault.toNat / 2048)
    let base := 2 * (seq % 2)
    let polled := even && f.token.toNat / 32 == own && !f.token.toNat.testBit 4
    let i : Fin 4 := Fin.ofNat 4 seq
    let data := decide (f.kind = 0)
    let g := { f with
      fault := BitVec.ofNat 16 fault
      shareA := if data then BitVec.ofNat 12 (s.shareOut (Fin.ofNat 4 base) f.shareA.toNat) else f.shareA
      shareB := if data then BitVec.ofNat 12 (s.shareOut (Fin.ofNat 4 (base + 1)) f.shareB.toNat) else f.shareB
      command :=
        if data && s.leadsSpan i then BitVec.ofNat 16 (s.commandOut i)
        else if polled && f.kind == 1 then BitVec.ofNat 16 (s.discoverOut f.command.toNat)
        else f.command
      token := if polled then BitVec.ofNat 8 s.replyOut else f.token }
    { g with crc := frameCrc g ^^^ frameCrc f ^^^ f.crc }

/-- A position needs an alignment code: it has none, or its code has changed by more than one (R383). -/
def State.alignStale (s : State) (p : Fin 8) : Bool :=
  let m := s.ring.members[p]
  let c : Nat := s.alignCode p.val
  let last : Nat := s.ring.codes[p]
  m.present && (!m.aligned || decide (last + 1 < c ∨ c + 1 < last))

/-- The ring lead reads a frame that has come round: latency, late joiners and new alignment codes (R380, R382,
R383). -/
def State.leadReceives (s : State) (f : RingFrame) (ps : Nat) : State :=
  let s := (s.setRing { s.ring with fault := f.fault.toNat, command := f.command.toNat, token := f.token.toNat })
  let s := s.takeLatency ps
  if s.obj 0x2400 2 == 4 && s.ring.lateJoin == 0 && s.ring.alignDue.isEmpty then
    match positions.find? s.alignStale with
    | some p => (s.setRing { s.ring with lateJoin := 66, alignDue := [p.val] })
    | none => s
  else s

/-- A duplicate position: the port leaves and stays blocked until reset (R377). -/
def State.duplicate (s : State) : State :=
  (s.setRing { s.ring with bypassClosed := true, joined := false, aligned := false, leaving := none,
                                 rejoin := false }).forgetFaults.putObj 0x2400 2 6
    |>.raise trDupPosition (evData [evU 1 s.position.val])

/-- A bad frame counted (2400:21), with the run of bad frames. -/
def State.badFrame (s : State) : State :=
  (s.setRing { s.ring with bad := s.ring.bad + 1, good := 0 }).bump 0x2400 0x21

/-- The start, the length and the number of the ring lead's base period by a frame, on a follower (R384): the frame
reference less the alignment delay and EPOCH, both in 1/4 clock; the length by the starts of successive periods. -/
def State.followEpoch (s : State) (f : RingFrame) : State :=
  let now := s.frameNow
  let start := now - (s.obj 0x2400 8 + f.epoch.toNat : Int) / (4 : Rat)
  let own : Rat := s.meridian.base / (16 : Rat)
  let T := if s.ring.leadPeriod = 0 then own else s.ring.leadPeriod
  let period := match s.ring.leadStart with
    | some was => let n := roundRat ((start - was) / T); if n ≤ 0 then T else (start - was) / n
    | none => T
  let N := max 1 (s.fastNat 0x2200 7)
  s.setRing { s.ring with frameTime := some now, leadStart := some start, leadPeriod := period,
                          leadIndex := f.bearing.toNat * N / 65536 }

/-- A frame arrives. -/
def State.receiveFrame (s : State) (f : RingFrame) (ps : Nat) : State :=
  if !s.ringActive && !s.ring.joined then s
  else if s.obj 0x2400 2 == 6 then s
  else
    let good := s.frameGood f
    let joined := s.ring.joined
    let s := if good then (s.setRing { s.ring with good := s.ring.good + 1, bad := 0 }) else s.badFrame
    let s := (s.setRing { s.ring with lastSeq := some f.seq.toNat })
    let s := if good && s.ring.noLead then
        (s.setRing { s.ring with noLead := false }).endEvent trNoLead else s
    let read := good && Nat.blt f.kind.toNat 3
    let answered := read && !s.isRingLead && f.token.toNat / 32 == s.position.val && f.token.toNat.testBit 4
      && (!joined || f.seq.toNat % 2 == 0)
    if answered then s.duplicate
    else if !joined then
      if s.obj 0x2400 2 == 5 && s.obj 0x2400 0x20 == 1 && !s.isRingLead then s.putObj 0x2400 2 2 else s
    else
      let s := if read then s.readFrame f else s
      if s.isRingLead then (if read then s.leadReceives f ps else s)
      else
        let g := s.forwardFrame f
        let s := if read then s.followEpoch f else s
        let s := if f.kind = 0 then s.keepShares (f.seq.toNat % 2 == 1) else s
        (s.setRing { s.ring with sent := some g, bearing := f.bearing.toNat, epoch := f.epoch.toNat,
                                       faultSent := s.ring.leaving.isSome })

/-- RING_FRAME_RECEIVED (R370). -/
def execRingFrameReceived (frame : RingFrame) (latencyPs : BitVec 32) (s : State) :
    Host.Outcome State Fault Refusal :=
  .next (s.receiveFrame frame latencyPs.toNat)

/-- No frame reference within 2.60 µs of the previous one: a bad frame at a receiver (R370). -/
def execFrameReferenceTimeout (s : State) : Host.Outcome State Fault Refusal :=
  if s.ring.joined || (s.ringActive && s.obj 0x2400 2 == 2) then .next s.badFrame else .next s

/-! ### Spanning rails at a boundary -/

/-- N_s by the poll replies (R386). -/
def State.countSpan (s : State) (i : Fin 4) : Nat :=
  positions.foldl (fun (n : Nat) p =>
    if p = s.position then n + s.spanPhases i
    else
      let m := s.ring.members[p]
      if m.present && m.running.testBit i.val && Nat.blt m.missed 2 then n + m.phases[i] else n) 0

/-- The spanning rail a rail leads, if any. -/
def State.ledSpan (s : State) (r : RailId) : Option (Fin 4) :=
  spanIds.find? fun i => s.spanRail i == some r && s.leadsSpan i

/-- N_s and the local move at a boundary of the lead's rail (R386, R398). -/
def State.spanBoundary (s : State) (r : RailId) : State :=
  match s.ledSpan r with
  | none => s
  | some i =>
    let own : Rat := s.spanPhases i
    let left := s.ring.localMove[i]
    let now := s.ring.count[i]
    let next : Rat :=
      if left ≠ 0 then now + (own - now) / left
      else if s.ring.joined && s.obj 0x2400 2 == 4 then (s.countSpan i : Rat)
      else own
    let s := (s.setRing { s.ring with count := s.ring.count.set i next,
                                            localMove := s.ring.localMove.set i (left - 1) })
    let shown := roundRat next
    if shown = s.obj 0x2400 (0x1A + i.val) then s
    else (s.putObj 0x2400 (0x1A + i.val) shown).raise trSpanMembers (evData [evU 1 i.val, evU 1 shown])

end Sys2Proof.Machine
end

