-- ==== Sys2Proof/Machine/Harik.lean ====
section
/-! DEFINITION. The Harik loop engine (chapter 09): block-floating stages, Contour and Relief tables, slot-samples,
the lowest-wins selection, the detectors, table commits and the sample watchdog. -/

namespace Sys2Proof.Machine

/-! ### Block-floating numbers (R319, R320) -/

/-- 2 to an integer power. -/
def pow2 (e : Int) : Rat := if 0 ≤ e then ((2 ^ e.toNat : Nat) : Rat) else 1 / ((2 ^ (-e).toNat : Nat) : Rat)

/-- Every value, rounded at exponent `e`, has a magnitude below 2^23. -/
def fitsAt (xs : List Rat) (e : Int) : Bool :=
  xs.all fun x => decide ((roundRat (x / pow2 e)).natAbs < 0x800000)

/-- The smallest exponent of −32 to +31 at which the values fit; none where they would need more. -/
def sharedExp (xs : List Rat) : Option Int := ((List.range 64).map fun (n : Nat) => (n : Int) - 32).find? (fitsAt xs)

/-- The results of a stage at its shared exponent, and whether the stage saturated (R320). -/
def blockFloat (xs : List Rat) : List Rat × Bool :=
  match sharedExp xs with
  | some e => (xs.map fun x => (roundRat (x / pow2 e) : Rat) * pow2 e, false)
  | none => (xs.map fun x => (clampInt (roundRat (x / pow2 31)) (-0x7FFFFF) 0x7FFFFF : Rat) * pow2 31, true)

/-- A stage with one value. -/
def blockFloat1 (x : Rat) : Rat × Bool :=
  let r := blockFloat [x]
  (r.1.headD 0, r.2)

/-! ### Tables (R323–R331, R336) -/

/-- The table a rail's slots use: a commit the rail has taken, else the active table. -/
def State.tableFor (s : State) (r : RailId) (ix : Nat) : List Byte :=
  match s.engine.pending.find? (·.1 == ix) with
  | some (_, bytes, left) => if left.contains r.val then (s.domain ix 3).getD [] else bytes
  | none => (s.domain ix 3).getD []

/-- The bytes from `off` on, `n` of them; a table never written is all 0. -/
def slice (t : List Byte) (off n : Nat) : List Byte := (t.drop off).take n

/-- A Contour row: the three mantissas and EXP (R323). -/
def contourRow (t : List Byte) (j : Nat) : List Int × Int :=
  ([leSigned (slice t (10 * j) 3), leSigned (slice t (10 * j + 3) 3), leSigned (slice t (10 * j + 6) 3)],
   leSigned (slice t (10 * j + 9) 1))

/-- The gains K_p, K_i and K_d at an error magnitude (R324). -/
def contourGains (t : List Byte) (mag : Rat) (efs : Nat) : List Rat :=
  if (efs : Rat) ≤ mag then
    let row := contourRow t 32
    row.1.map fun (k : Int) => (k : Rat) * pow2 row.2
  else
    let x := (mag * 65536 / efs).floor.toNat
    let a := contourRow t (x / 2048)
    let b := contourRow t (x / 2048 + 1)
    let f : Int := (x % 2048 : Nat)
    let e := max a.2 b.2
    let align (row : List Int × Int) : List Int := row.1.map fun (k : Int) => roundRat ((k : Rat) * pow2 (row.2 - e))
    ((align a).zip (align b)).map fun c => ((c.1 + roundDiv ((c.2 - c.1) * f) 2048 : Int) : Rat) * pow2 e

/-- Entry `i` of a Relief table (R329). -/
def reliefEntry (t : List Byte) (i : Nat) : Int := leSigned (slice t (2 * (i % 64)) 2)

/-- The value of a Relief table at a bearing (R330). -/
def reliefValue (t : List Byte) (b : Nat) : Rat :=
  let i := b / 1024
  let v := reliefEntry t i + roundDiv ((reliefEntry t (i + 1) - reliefEntry t i) * (b % 1024 : Nat)) 1024
  v * pow2 (leSigned (slice t 128 1))

/-- The bearings latched at a rail's boundary; none for a source that is invalid (R315, R331). -/
def State.latchBearings (s : State) (r : RailId) : State :=
  s.modRail r fun a =>
    { a with latched := Vector.ofFn fun c => if s.sourceValid c then some (s.bearing c) else none }

/-- The contribution of Relief table `n`, and whether its index source is invalid (R330, R331). -/
def State.relief (s : State) (r : RailId) (n : Nat) : Rat × Bool :=
  if 16 ≤ n then (0, false)
  else
    let c : Fin 4 := Fin.ofNat 4 (s.fastNat (0x3850 + n) 4)
    match s.rails[r].latched[c] with
    | some b =>
      let v := reliefValue (s.tableFor r (0x3850 + n)) b
      (if (s.fastNat (0x3850 + n) 5).testBit 0 && !s.meridian.elecForward then -v else v, false)
    | none => (0, true)

/-- Whether a committed Contour table is valid: EXP of every row within −48 to +15 (R325). -/
def contourValid (t : List Byte) : Bool :=
  t.length == 330 && (List.range 33).all fun j => let e := (contourRow t j).2; decide (-48 ≤ e ∧ e ≤ 15)

/-- Whether a committed Relief table is valid: E_T within −16 to +15 (R329). -/
def reliefValid (t : List Byte) : Bool :=
  t.length == 129 && (let e := leSigned (slice t 128 1); decide (-16 ≤ e ∧ e ≤ 15))

/-- The rails with a slot that names a table. -/
def State.tableRails (s : State) (ix : Nat) : List Nat :=
  if ix < 0x3850 then (railIds.map Fin.val).filter fun r => s.obj (0x3810 + ix % 16) 1 == (r : Int)
  else (railIds.map Fin.val).filter fun r => slotIds.any fun k =>
    let v := s.nat (0x3810 + k.val) 0x0B
    s.obj (0x3810 + k.val) 1 == (r : Int) && (v % 256 == ix % 16 || v / 256 == ix % 16)

/-- The rails with boundaries at which a table is taken (R336). -/
def State.tableUsers (s : State) (ix : Nat) : List Nat :=
  (railIds.filter s.hasBoundary).map Fin.val |>.filter (s.tableRails ix).contains

/-- A validated table is committed: at once while the engine is halted or no rail uses it, else pending until every
rail that uses it has taken it (R336). -/
def State.commitTable (s : State) (ix : Nat) (t : List Byte) : State :=
  let others := s.engine.pending.filter (·.1 != ix)
  let users := s.tableUsers ix
  if s.obj 0x3800 1 ≠ 1 ∨ users.isEmpty = true then
    (s.setEngine { s.engine with pending := others }).putDomain ix 3 t
  else (s.setEngine { s.engine with pending := others ++ [(ix, t, users)] })

/-- The rail takes the pending tables at its boundary (R336). -/
def State.swapTables (s : State) (r : RailId) : State :=
  let taken := s.engine.pending.map fun c => (c.1, c.2.1, c.2.2.filter (· != r.val))
  let s := taken.foldl (fun (s : State) c => if c.2.2.isEmpty then s.putDomain c.1 3 c.2.1 else s) s
  (s.setEngine { s.engine with pending := taken.filter fun c => !c.2.2.isEmpty })

/-! ### Start and stop (R338–R340) -/

/-- The slot's own objects. -/
def slotIx (k : SlotId) : Nat := 0x3810 + k.val

/-- A slot's state as after a reset: primary table, integrator and detector at 0. -/
def State.resetSlot (s : State) (k : SlotId) : State :=
  let s := s.modSlot k fun _ => {}
  let safe := s.obj (slotIx k) 0x0D == 1
  let s := ((s.putObj (slotIx k) 0x0D 0).putObj (slotIx k) 0x11 0).putObj (0x3840 + k.val) 6 0
  let s := s.putBit (slotIx k) 0x0F 5 false
  if safe then s.endEvent (hkSafeContour k.val) (evData [evU 2 (s.obj (0x3840 + k.val) 5)]) else s

/-- The engine as R338 has it, with no commit pending. -/
def State.resetEngine (s : State) : State :=
  (slotIds.foldl State.resetSlot s).setEngine { pending := [] }

/-- The engine runs in IDLE and RUN, outside Outline mode, unless function 12 is disabled or the watchdog stopped it
(R337, R338, R491). -/
def State.engineAllowed (s : State) : Bool :=
  s.serving && s.idleContent && !s.outline.active && s.funcState 12 == 0

/-- Entry into IDLE starts the engine under R338. -/
def State.startEngine (s : State) : State :=
  if s.engineAllowed && s.obj 0x3800 1 == 0 then s.resetEngine.putObj 0x3800 1 1 else s

/-- The engine halts (R338). -/
def State.haltEngine (s : State) : State := if s.obj 0x3800 1 == 1 then s.putObj 0x3800 1 0 else s

/-- The engine reinitialised (R340). -/
def State.reinitEngine (s : State) : State :=
  s.resetEngine.putObj 0x3800 1 (if s.engineAllowed then 1 else 0)

/-! ### Slot inputs (R311, R315) -/

/-- The value of the auxiliary channel a slot names; 0 for none. -/
def State.auxInput (s : State) (c : Nat) : Int := if c < 8 then s.obj 0x4130 (0x16 + 8 * c) else 0

/-- The error and the measured input of a slot (R311). -/
def State.slotInput (s : State) (r : RailId) (k : SlotId) : Rat × Rat :=
  let vr : Rat := (s.rails[r].vr : Rat) / 65536
  let set : Rat := s.fast (slotIx k) 4
  match s.nat (slotIx k) 2 with
  | 1 | 5 =>
    if h : r.val < 4 then
      let e := -(s.vsense[(⟨r.val, h⟩ : VRailId)].error * s.rho ⟨r.val, h⟩)
      (e, vr - e)
    else (0, vr)
  | 2 => let m : Rat := s.railObj r 0x48 2; (set - m, m)
  | 3 => let m : Rat := s.obj 0x5030 1; (set - m, m)
  | 4 => let m : Rat := s.auxInput (s.nat (slotIx k) 3); (set - m, m)
  | 6 => let m : Rat := s.auxInput (s.nat (slotIx k) 3); (m - set, m)
  | 7 => let m : Rat := s.obj 0x3448 1; (vr - m, m)
  | _ => (0, 0)

/-! ### Detectors (R332, R335) -/

/-- The oscillation detector on one error. -/
def State.detect (s : State) (k : SlotId) (e : Rat) : State :=
  let b := 0x3840 + k.val
  let a := s.slots[k]
  let band : Rat := s.fast b 1
  let fresh := decide (s.fastNat b 2 ≤ a.samples)
  let count := if fresh then 0 else s.nat b 6
  let now : Int := if band < e then 1 else if e < -band then -1 else 0
  let change := now != 0 && a.sign != 0 && now != a.sign
  let count := if change then count + 1 else count
  let s := s.modSlot k fun a =>
    { a with samples := if fresh then 1 else a.samples + 1, sign := if now = 0 then a.sign else now,
             detected := a.detected || decide (s.fastNat b 3 ≤ count) }
  s.putObj b 6 count

/-- The chatter detector of a rail after a selection (R335). -/
def State.chatter (s : State) (r : RailId) (changed : Bool) : State :=
  let cfg := s.fastNat 0x3800 (9 + r.val)
  let s := if changed then s.bump 0x3800 (0x0E + r.val) else s
  s.modRail r fun a =>
    let fresh := decide (cfg % 65536 ≤ a.chatterSamples)
    { a with chatterSamples := if fresh then 1 else a.chatterSamples + 1,
             chatterCount := (if fresh then 0 else a.chatterCount) + natOf changed,
             chatterRaised := a.chatterRaised && !fresh }

/-- Winner changes reach N_c: RL_CHATTER once in that window (R335). -/
def State.detectChatter (s : State) (r : RailId) : State :=
  let cfg := s.fastNat 0x3800 (9 + r.val)
  let n := cfg / 65536
  let a := s.rails[r]
  if n ≠ 0 ∧ n ≤ a.chatterCount ∧ a.chatterRaised = false then
    (s.modRail r fun a => { a with chatterRaised := true }).raise (rlChatter r.val)
      (evData [evU 2 a.chatterCount, evU 2 (cfg % 65536 : Nat)])
  else s

/-- CHATTER_DETECTION (R335). -/
def execChatterDetection (r : RailId) (s : State) : Host.Outcome State Fault Refusal := .next (s.detectChatter r)

/-- A detection counted and its action (R333); the count restarts (R332). -/
def State.detection (s : State) (k : SlotId) : State :=
  let b := 0x3840 + k.val
  if s.slots[k].detected then
    let count := s.obj b 6
    let s := (s.modSlot k fun a => { a with detected := false }).putObj b 6 0
    let s := s.bump b 5
    match s.fastNat b 4 with
    | 1 => s.raise (hkOsc k.val) (evData [evU 2 count, evU 2 (s.fast b 2), evI 4 (s.obj (slotIx k) 0x12)])
    | 2 => (s.modSlot k fun a => { a with safeDue := true }).raise (hkSafeContour k.val) (evData [evU 2 count])
    | 3 => s.raise (hkOscTrip k.val) (evData [evU 2 count])
    | _ => s
  else s

/-- OSCILLATION_DETECTION (R333). -/
def execOscillationDetection (k : SlotId) (s : State) : Host.Outcome State Fault Refusal := .next (s.detection k)

/-- A switch to the safe table, or a return to the primary one, at the boundary; safe prevails (R333, R334,
R336). -/
def State.applyDue (s : State) (k : SlotId) : State :=
  let a := s.slots[k]
  let s := s.modSlot k fun a => { a with safeDue := false, returnDue := false }
  if a.safeDue then (s.putObj (slotIx k) 0x0D 1).putBit (slotIx k) 0x0F 5 true
  else if a.returnDue then
    let s := (s.putObj (slotIx k) 0x0D 0).putBit (slotIx k) 0x0F 5 false
    let s := s.endEvent (hkSafeContour k.val) (evData [evU 2 (s.obj (0x3840 + k.val) 5)])
    if s.fast (0x3840 + k.val) 4 = 2 then s.putObj (0x3840 + k.val) 6 0 else s
  else s

/-! ### The slot-sample (R322, R326) -/

/-- The lowest and highest integrator values, in 2^−16 demand units. -/
def integratorLimit : Int := 0x8000000000

/-- What a slot-sample gives: the demand before the clamp, the new integrator and derivative state, whether
integration was held, whether a Relief source is invalid, and the stages that saturated. -/
structure Computed where
  u : Rat
  i : Int
  d : Rat
  e : Rat
  held : Bool
  invalid : Bool
  range : List Nat
  deriving DecidableEq, Repr

/-- A value within the 40 bits of the integrator (R321). -/
def integrator40 (v : Int) : Int := clampInt v (-integratorLimit) (integratorLimit - 1)

/-- The derivative stage: the product, the shift of its difference, and the sum, each rounded (R320, R322, log 30), and
whether one saturated. -/
def derivStage (kd delta d : Rat) (n : Nat) : Rat × Bool :=
  let product := blockFloat1 (kd * delta)
  let shifted := blockFloat1 ((product.1 - d) / ((2 ^ n : Nat) : Rat))
  let sum := blockFloat1 (d + shifted.1)
  (sum.1, product.2 || shifted.2 || sum.2)

/-- The stages of one slot-sample with an error (R322). The limits of the integrator and its start value are held to its 40
bits too (R321). -/
def State.compute (s : State) (r : RailId) (k : SlotId) (e m : Rat) : Computed :=
  let a := s.slots[k]
  let cfg (n : Nat) : Int := s.fast (slotIx k) n
  let opts := s.fastNat (slotIx k) 9
  let lo := cfg 6
  let hi := cfg 7
  let start := clampInt (cfg 0x0C) lo hi * 65536
  let i0 := clampInt (if a.fresh then start else a.integrator) (lo * 65536) (hi * 65536)
  let from_ := integrator40 i0
  let ePrev := if a.fresh then e else a.ePrev
  let mPrev := if a.fresh then m else a.mPrev
  let sigma : Rat := if s.nat (slotIx k) 2 = 6 then -1 else 1
  let delta := if opts.testBit 0 then -sigma * (m - mPrev) else e - ePrev
  let st0 := blockFloat [e, delta]
  let eq := st0.1.getD 0 0
  let dq := st0.1.getD 1 0
  let table := s.tableFor r ((if s.obj (slotIx k) 0x0D = 1 then 0x3830 else 0x3820) + k.val)
  let gains := contourGains table (if eq < 0 then -eq else eq) (cfg 5).toNat
  let p := blockFloat1 (gains.getD 0 0 * eq)
  let di := blockFloat1 (gains.getD 1 0 * eq)
  let d := derivStage (gains.getD 2 0) dq a.deriv (opts / 2)
  let names := s.fastNat (slotIx k) 0x0B
  let ra := s.relief r (names % 256)
  let rb := s.relief r (names / 256)
  let f := blockFloat1 (cfg 0x0A + ra.1 + rb.1)
  let sum (i : Int) : Rat := p.1 + (i : Rat) / 65536 + d.1 + f.1
  let raw := from_ + roundRat (di.1 * 65536)
  let want := clampInt (integrator40 raw) (lo * 65536) (hi * 65536)
  let next := integrator40 want
  let tried := (blockFloat1 (sum next)).1
  let clamped := decide (tried < lo ∨ (hi : Rat) < tried)
  let won := s.bit (slotIx k) 0x0F 1
  let held := cfg 8 == 1 && (!won || clamped || s.rails[r].allClamped)
  let i := if held then from_ else next
  let sat := if held then from_ != i0 else from_ != i0 || integrator40 raw != raw || next != want
  let u := blockFloat1 (sum i)
  { u := u.1, i := i, d := d.1, e := eq, held := held, invalid := ra.2 || rb.2,
    range := (if st0.2 then [0] else []) ++ (if p.2 then [1] else []) ++ (if di.2 then [2] else [])
      ++ (if d.2 then [3] else []) ++ (if f.2 then [4] else []) ++ (if u.2 then [5] else [])
      ++ (if sat then [6] else []) }

/-- The slot's output and status after a sample. -/
def State.putSlotOut (s : State) (k : SlotId) (u : Rat) (held invalid range : Bool) : State :=
  let lo := s.fast (slotIx k) 6
  let hi := s.fast (slotIx k) 7
  let old := s.nat (slotIx k) 0x0F
  let v := 1 + (old &&& 2) + 4 * natOf (decide ((hi : Rat) < u)) + 8 * natOf (decide (u < lo)) + 16 * natOf held
    + (old &&& 0x20) + 64 * natOf invalid + 128 * natOf (old.testBit 7 || range)
  (s.putObj (slotIx k) 0x0F v).putObj (slotIx k) 0x10 (roundRat (clampRat u lo hi))

/-- One slot-sample; the status word keeps its WINNER bit until the selection that follows. -/
def State.slotSample (s : State) (r : RailId) (k : SlotId) : State :=
  if s.nat (slotIx k) 2 = 8 then
    (s.putSlotOut k (s.ringDemand r) false false false).modSlot k fun a => { a with fresh := false }
  else
    let (e, m) := s.slotInput r k
    let c := s.compute r k e m
    let s := if s.slots[k].fresh then
        (s.modSlot k fun a => { a with samples := 0, sign := 0, detected := false }).putObj (0x3840 + k.val) 6 0
      else s
    let s := s.modSlot k fun a => { a with integrator := c.i, deriv := c.d, ePrev := e, mPrev := m, fresh := false }
    let s := (s.putObj (slotIx k) 0x11 (roundDiv c.i 65536)).putObj (slotIx k) 0x12 (roundRat e)
    let s := (s.putSlotOut k c.u c.held c.invalid (!c.range.isEmpty)).detect k c.e
    c.range.foldl (fun (s : State) (n : Nat) => s.raise (hkRange k.val) (evData [evU 1 n])) s

/-! ### Lowest wins (R327) -/

/-- The slots of a rail that are computed. -/
def State.computedSlots (s : State) (r : RailId) : List SlotId :=
  (s.railSlots r).filter fun k => s.nat (slotIx k) 2 != 0

/-- The slot with the lowest output; the lower number wins on equal values. -/
def State.lowest (s : State) (l : List SlotId) : Option SlotId :=
  match l with
  | [] => none
  | k :: rest =>
    match s.lowest rest with
    | none => some k
    | some j => if s.obj (slotIx j) 0x10 < s.obj (slotIx k) 0x10 then some j else some k

/-- The selection: the winner's demand, its objects, and the changes of winner. -/
def State.select (s : State) (r : RailId) : State × Int :=
  match s.lowest (s.computedSlots r) with
  | none => (s.putRailObj r 0x20 2 0xFF, 0)
  | some k =>
    let was := s.railObj r 0x20 2
    let s := (s.computedSlots r).foldl (fun (s : State) j => s.putBit (slotIx j) 0x0F 1 (j == k)) s
    let s := s.putRailObj r 0x20 2 k.val
    (s.chatter r (was != 0xFF && was != k.val), s.obj (slotIx k) 0x10)

/-- A slot whose kind depends on the window error (R311). -/
def State.errorDependent (s : State) (k : SlotId) : Bool := errorKind (s.obj (slotIx k) 2)

/-- The window error of the rail's trigger has been sampled and is not ready, and a slot waits for it (R315). -/
def State.errorPending (s : State) (r : RailId) : Bool :=
  if h : r.val < 4 then s.vsense[(⟨r.val, h⟩ : VRailId)].sampling && s.hasErrorSlot r else false

/-- Slot-samples of those slots of a rail that a test admits, in ascending order. -/
def State.computeSlots (s : State) (r : RailId) (f : SlotId → Bool) : State :=
  ((s.computedSlots r).filter f).foldl (fun (s : State) k => s.slotSample r k) s

/-- The slots of a rail selected, with the longest latency (3800:13). -/
def State.selectSlots (s : State) (r : RailId) : State × Int :=
  let l := roundRat (s.latency r)
  let s := if s.hasErrorSlot r && decide (s.obj 0x3800 0x13 < l) then s.putObj 0x3800 0x13 (min l 65535) else s
  s.select r

/-! ### The sample watchdog (R337) -/

/-- A missed slot-sample of a rail that is ON or stopping, or a parity error: the engine stops, and Outline mode is
entered whatever the response table holds. -/
def State.watchdog (s : State) (r : RailId) (parity : Bool) : State :=
  if s.obj 0x3800 1 == 1 && (parity || s.onOrStopping r) then
    let s := s.putObj 0x3800 1 2
    let s := s.raise dvHkWatchdog (evData [evU 1 (natOf parity), evU 1 r.val])
    s.enterOutline 1
  else s

/-- SAMPLE_WATCHDOG_EXPIRY (R337). -/
def execSampleWatchdogExpiry (r : RailId) (parity : Bool) (s : State) : Host.Outcome State Fault Refusal :=
  .next (s.watchdog r parity)

/-! ### Rules of the objects of this chapter -/

/-- The kinds that exclude one another on a rail (R312). -/
def soleKind (k : Int) : Bool := k == 1 || k == 5 || k == 7 || k == 8

/-- A kind is permitted for a rail (R311, R312). -/
def State.kindAllowed (s : State) (r : RailId) (k : Int) : Bool :=
  match k with
  | 1 => s.railType r == 1 && s.railObj r 0x10 2 != 4
  | 5 => s.railType r == 2 && s.railObj r 0x10 2 != 4
  | 6 => s.railType r == 2
  | 7 => r == railD
  | 8 => s.railObj r 0x10 2 == 4
  | _ => true

/-- A THERMAL or BUS_SUPPORT slot names an AUX channel that is not OFF (R312). -/
def State.slotNamesAux (s : State) (k : Nat) : Bool :=
  let kind := s.obj k 2
  let c := s.nat k 3
  !(kind == 4 || kind == 6) || (decide (c < 8) && s.obj 0x4130 (0x10 + 8 * c) != 0)

/-- The rules of R269 and R312 on the slots of a rail, with a write in place. -/
def State.slotsValid (s : State) (r : RailId) : Bool :=
  let ks := s.railSlots r
  decide ((ks.filter fun k => soleKind (s.obj (slotIx k) 2)).length ≤ 1)
    && (ks.all fun k => s.kindAllowed r (s.obj (slotIx k) 2))
    && (ks.all fun k => s.slotNamesAux (slotIx k))

/-- A refusal of a write of 3800–385F; `t` is the state with the value in place. -/
def State.harikRule (s t : State) (ix sub : Nat) (v : Int) : Option Nat :=
  let busyRail (n : Int) : Bool := railIds.any fun r => n == (r.val : Int) && s.onOrStopping r
  if ix = 0x3800 then
    if 4 ≤ sub ∧ sub ≤ 8 then
      (if busyRail ((sub : Int) - 4) then some 0x08000022 else t.capacityRule)
    else if 9 ≤ sub ∧ sub ≤ 0x0D then
      (if 65536 ≤ v ∧ v % 65536 < 16 then some 0x06090030 else none)
    else none
  else if 0x3810 ≤ ix ∧ ix < 0x3820 then
    if 1 ≤ sub ∧ sub ≤ 3 then
      if busyRail (s.obj ix 1) || busyRail (t.obj ix 1) then some 0x08000022
      else if t.obj ix 1 = 4 ∧ s.driveConfigured = false then some 0x06090030
      else if !(railIds.all fun r => t.obj ix 1 != (r.val : Int) || t.slotsValid r) || !t.slotNamesAux ix then
        some 0x06090030
      else if sub ≠ 3 then t.capacityRule
      else none
    else if (sub = 6 ∨ sub = 7) ∧ t.obj ix 7 < t.obj ix 6 then some 0x06090030
    else if sub = 0x0B then
      let ok (n : Int) : Bool := decide (n < 16 ∨ n = 0xFF)
      (if ok (v % 256) && ok (v / 256) then none else some 0x06090030)
    else none
  else if 0x3840 ≤ ix ∧ ix < 0x3850 then
    if (sub = 2 ∨ sub = 3) ∧ t.obj ix 2 < t.obj ix 3 then some 0x06090030 else none
  else if 0x3850 ≤ ix ∧ ix < 0x3860 then
    if (sub = 4 ∨ sub = 5) ∧ ((s.tableRails ix).any fun r => busyRail r) = true then some 0x08000022 else none
  else none

end Sys2Proof.Machine
end

