-- ==== Sys2Proof/Machine/Drive.lean ====
section
/-! DEFINITION. Drive rail D (chapter 10): Hall sectors, speed, driving, braking and coasting, direction, stall, and
the motor under the Outline controller. -/

namespace Sys2Proof.Machine

/-! ### Hall sectors and speed (R341–R346) -/

/-- The sector of a Hall code; none for an illegal code (R342). -/
def State.sectorOf (s : State) (code : Nat) : Option Nat :=
  let n := bits (s.nat 0x2620 1) (3 * code + 2) (3 * code)
  if n < 6 then some n else none

/-- A Hall map assigns each of the sectors 0–5 to exactly one code (R342). -/
def hallMapValid (v : Nat) : Bool :=
  v < 0x1000000 && (List.range 6).all fun n =>
    ((List.range 8).filter fun h => bits v (3 * h + 2) (3 * h) == n).length == 1

/-- The speed magnitude of a mean interval in µs, in 0.1 rpm (R344). -/
def State.speedOf (s : State) (us : Rat) : Int := if us = 0 then 0 else roundRat (100000000 / (s.obj 0x2620 3 * us))

/-- The speed reported: signed, and in the applied direction (R345). -/
def State.putSpeed (s : State) (mag : Int) : State :=
  let v := if s.drive.forward then mag else -mag
  (s.putObj 0x3448 5 v).putObj 0x3448 1 (if s.obj 0x4110 0x0B = 1 then -v else v)

/-- The mean of sector intervals, if there are any. -/
def meanInterval (intervals : List Nat) : Option Rat :=
  match intervals with
  | [] => none
  | l => some (((l.foldl (· + ·) 0 : Nat) : Rat) / l.length)

/-- The intervals are void from an invalid state on (R344). -/
def State.voidIntervals (s : State) : State := (s.setDrive { s.drive with intervals := [], timing := false })

/-- A legal transition into a sector, with the time since the last transition (R343, R344). -/
def State.legalTransition (s : State) (n : Nat) (forward : Bool) (us : Nat) : State :=
  let l := if s.drive.timing then (us :: s.drive.intervals).take 6 else s.drive.intervals
  let period := if s.drive.timing then 240 * us else 0
  let mean := meanInterval l
  let s := (s.setDrive { s.drive with sector := some n, forward := forward, intervals := l, timing := true,
                                      mean := if mean.isSome then mean else s.drive.mean, lastAt := some s.life.up })
  let s := s.elecTransition n forward period
  match mean with
  | some t => s.putSpeed (s.speedOf t)
  | none => s

/-- A filtered Hall code (R343). From no known sector the device takes the sector of a legal code, with no
transition. -/
def State.hallTransition (s : State) (code us : Nat) : State :=
  if s.drive.hall = code ∧ s.drive.sector = s.sectorOf code then s
  else
    let was := s.drive.sector
    let s := (s.setDrive { s.drive with hall := code, illegal := (s.sectorOf code).isNone }).putObj 0x2620 7 code
    let s :=
      match s.sectorOf code with
      | none =>
        let s := (s.setDrive { s.drive with sector := none }).voidIntervals.elecInvalid
        (s.bump 0x2620 9).raise (rlHallIllegal 4) (evData [evU 1 code])
      | some n =>
        match was with
        | none => (s.setDrive { s.drive with sector := some n })
        | some m =>
          if n = m then s
          else if n = (m + 1) % 6 then s.legalTransition n true us
          else if m = (n + 1) % 6 then s.legalTransition n false us
          else
            let s := (s.setDrive { s.drive with sector := some n }).voidIntervals.elecInvalid
            (s.bump 0x2620 0x0A).raise (rlHallSequence 4) (evData [evU 1 m, evU 1 n])
    s.driveOutline

/-- A Hall map written (R342): the present code takes its sector under it, with no transition. -/
def State.writeHallMap (s : State) (v : Int) : State :=
  let s := s.putObj 0x2620 1 v
  let n := s.sectorOf s.drive.hall
  if s.drive.sector = n ∨ (s.drive.sector = none ∧ s.drive.illegal = false) then s
  else (s.setDrive { s.drive with sector := n, illegal := n.isNone }).voidIntervals.elecInvalid

/-- HALL_TRANSITION (R343). -/
def execHallTransition (code : BitVec 3) (us : Nat) (s : State) : Host.Outcome State Fault Refusal :=
  if s.serving then .next (s.hallTransition code.toNat us) else .next s

/-- The speed between transitions, `us` after the last one (R344). -/
def State.decaySpeed (s : State) (us : Nat) : State :=
  let mag := (s.obj 0x3448 5).natAbs
  if s.obj 0x3400 0x10 * 1000 < us then s.putSpeed 0
  else match s.drive.mean with
    | some t => if t < us then s.putSpeed (min mag (s.speedOf us)) else s
    | none => s

/-- ZERO_SPEED_TIMEOUT (R344). -/
def execZeroSpeedTimeout (us : Nat) (s : State) : Host.Outcome State Fault Refusal := .next (s.decaySpeed us)

/-! ### Driving (R347–R353) -/

/-- The mask follows the Hall sector, or holds the coast or brake entry (R347, R352). -/
def State.holdMask (s : State) (hold : Nat) : State :=
  let v := if hold = 1 then s.obj 0x3400 0x0D else if hold = 2 then s.obj 0x3400 0x0E else 0xFF
  (s.setDrive { s.drive with hold := hold }).putObj 0x4110 0x0C v

/-- The winning demand of drive rail D (R348, R352, R353). -/
def State.distributeDrive (s : State) (demand : Int) : State :=
  let a := s.rails[railD]
  let brake := s.obj 0x3400 0x0C == 1 && decide (demand < 0) && !a.softStart
  let s := s.modRail railD fun a => { a with demand := demand, negative := decide (demand < 0) }
  let s := s.holdMask (if 0 < demand then 0 else if brake then 2 else 1)
  let d : Rat := if 0 < demand then demand else 0
  let ps := s.activePhases railD
  if s.currentMode railD then
    let each := clampRat d a.negLimit a.posLimit
    let s := s.modRail railD fun a => { a with allClamped := each != d }
    ps.foldl (fun (s : State) p =>
      let s := s.modPhase p fun a => { a with demand := each }
      if s.phases[p].mask = 1 then s.regulate railD p false else s) s
  else
    let s := s.modRail railD fun a => { a with allClamped := decide (d ≤ 0 ∨ s.dMax railD ≤ d) }
    ps.foldl (fun (s : State) p => s.setDuty p (s.phaseDuty railD p d)) s

/-! ### Direction (R354, R355) -/

/-- The commanded direction is written: a reversal begins, ends, or waits for the next enable (R354, R355). -/
def State.writeDirection (s : State) (v : Int) : State :=
  let s := s.putObj 0x3400 0x0B v
  let on := s.isOn railD && s.rails[railD].stop == .none && !s.rails[railD].hiccup
  if !on then s
  else if v ≠ s.obj 0x4110 0x0B then
    (s.setDrive { s.drive with reversing := true }).putRailObj railD 0x10 7 0
  else (s.setDrive { s.drive with reversing := false }).applyTarget railD false

/-- The applied direction switches once V_r is 0 and the speed is at or below 3400:0F (R354). -/
def State.reversalSwitch (s : State) : State :=
  let slow := decide (((s.obj 0x3448 1).natAbs : Int) ≤ s.obj 0x3400 0x0F)
  if s.drive.reversing && s.rails[railD].running && s.rails[railD].vr == 0 && slow then
    let s := (s.setDrive { s.drive with reversing := false })
    let s := (s.applyDirection (s.obj 0x3400 0x0B)).bump 0x3440 7
    let s := s.setVr railD (max 0 (s.obj 0x3448 1) * 65536)
    (s.modRail railD fun a => { a with softStart := true }).applyTarget railD false
  else s

/-- REVERSAL_SWITCH (R354). -/
def execReversalSwitch (s : State) : Host.Outcome State Fault Refusal := .next s.reversalSwitch

/-! ### Protection and stall (R356, R357) -/

/-- OV, UV and OC of drive rail D (R356). -/
def State.driveConditions (s : State) : List Bool :=
  let v := s.obj 0x3448 1
  let a := s.rails[railD]
  [decide (s.ovLimit railD < v),
   s.env railD 6 != 0 && !a.softStart && decide ((v + s.env railD 6) * 65536 < a.vr),
   decide (s.env railD 0x0A < (s.obj 0x3448 2).natAbs)]

/-- A positive demand with the mask following Hall and no legal transition for 3400:11 ms (R356, R357). -/
def State.stall (s : State) (ms : Nat) : State :=
  let a := s.rails[railD]
  if s.isOn railD && a.running && a.stop == .none && decide (0 < a.demand) && s.drive.hold == 0
      && decide (s.obj 0x3400 0x11 ≤ ms) then s.countCondition railD 3 ms
  else s

/-- STALL_TIMEOUT (R357). -/
def execStallTimeout (ms : BitVec 32) (s : State) : Host.Outcome State Fault Refusal := .next (s.stall ms.toNat)

/-! ### Under the Outline controller (R359, R360, R487) -/

/-- No legal transition for 1000 ms while duty is applied: the outputs are held off (R360). -/
def State.outlineNoTransition (s : State) : State :=
  if s.outlineTurns && s.outlineSupply && !s.outline.coasting then
    (s.setOutline { s.outline with coasting := true }).driveOutline.bump 0x3440 9
  else s

/-- OUTLINE_NO_TRANSITION_TIMEOUT (R360). -/
def execOutlineNoTransitionTimeout (s : State) : Host.Outcome State Fault Refusal := .next s.outlineNoTransition

/-- The 2000 ms off time ends (R360). -/
def execOutlineRestartTimeout (s : State) : Host.Outcome State Fault Refusal :=
  if s.outlineTurns && s.outline.coasting then .next s.startTurning else .next s

/-- The Outline comparator on the bus crosses a threshold (R487). -/
def State.busSupport (s : State) (pinMv : Nat) : State :=
  if (if s.outline.active then s.outline.store else s.outline.startedStore) then
    let on := decide ((pinMv : Int) < s.outlineValue 0x2340 9)
    let off := decide (s.outlineValue 0x2340 0x0A < (pinMv : Int))
    (s.setOutline { s.outline with supporting := on || (s.outline.supporting && !off) }).driveStore
  else s

/-- OUTLINE_BUS_SUPPORT_CROSSING (R487). -/
def execOutlineBusSupportCrossing (pinMv : BitVec 12) (s : State) : Host.Outcome State Fault Refusal :=
  .next (s.busSupport pinMv.toNat)

/-! ### Start and rules -/

/-- What reinitialising function 4 adds to R308 (R362). -/
def State.resetDrive (s : State) : State :=
  let s := (s.setDrive { s.drive with intervals := [], timing := false, reversing := false })
  ((s.putObj 0x2620 9 0).putObj 0x2620 0x0A 0).putObj 0x3440 9 0

/-- 3440:08 (R354, and the table of drive status). -/
def State.driveStatus (s : State) : Nat :=
  (s.drive.sector.getD 7) + 8 * (s.nat 0x4110 0x0B % 2) + 16 * natOf s.drive.reversing
    + 32 * natOf (s.drive.hold == 1) + 64 * natOf (s.drive.hold == 2)
    + 128 * natOf s.drive.illegal

/-- The phases of a mask entry in state PWM. -/
def pwmCount (v : Nat) : Nat := ((List.range 3).filter fun k => bits v (2 * k + 1) (2 * k) == 1).length

/-- An entry that either sector map reaches (R348). -/
def State.maskReached (s : State) (n : Nat) : Bool :=
  [9, 0x0A].any fun m => (List.range 6).any fun k => bits (s.nat 0x4110 m) (3 * k + 2) (3 * k) == n

/-- Every entry that a sector map reaches holds exactly one phase in state PWM (R348). -/
def State.masksSingle (s : State) : Bool :=
  (List.range 8).all fun n => !s.maskReached n || pwmCount (s.nat 0x4110 (1 + n)) == 1

/-- A refusal of a write of 2620, 4110 and the drive's control mode. -/
def State.driveRule (s : State) (ix sub : Nat) (v : Int) : Option Nat :=
  let busy := s.onOrStopping railD
  if ix = 0x2620 then
    if (sub = 1 ∨ sub = 3) ∧ busy = true then some 0x08000022
    else if sub = 1 ∧ hallMapValid v.toNat = false then some 0x06090030
    else none
  else if ix = 0x4110 then
    if sub = 0x0B ∨ sub = 0x0C then (if s.isOn railD then some 0x08000022 else none)
    else if 1 ≤ sub ∧ sub ≤ 8 ∧ ((List.range 3).any fun k => bits v.toNat (2 * k + 1) (2 * k) == 3) = true then
      some 0x06090030
    else if 1 ≤ sub ∧ sub ≤ 8 ∧ s.obj 0x3400 2 = 0 ∧ s.maskReached (sub - 1) = true ∧ pwmCount v.toNat ≠ 1 then
      some 0x06090030
    else none
  else if ix = 0x3400 ∧ sub = 2 ∧ v = 0 ∧ s.masksSingle = false then some 0x06090030
  else none

end Sys2Proof.Machine
end

