-- ==== Sys2Proof/Machine/Boundary.lean ====
section
/-! DEFINITION. The engine sample boundary of a rail (R314): what the rail, its slots and its phases do at it. -/

namespace Sys2Proof.Machine

/-- The remote term of the rail's current (R390). -/
def State.remoteOf (s : State) (r : RailId) : Rat :=
  match s.ledSpan r with | some i => s.remoteTerm i | none => 0

/-- The start of a rail, or the ramp of its V_r (R278, R288). -/
def State.startOrRamp (s : State) (r : RailId) : State :=
  if s.rails[r].starting then s.beginRun r else if s.rails[r].running then s.ramp r else s

/-- Protection, active phases and DC energy of a running rail (R297, R302, R437). -/
def State.superviseRail (s : State) (r : RailId) : State :=
  let s := s.checkProtection r (if r = railD then s.driveConditions else s.conditions r)
  let s := if r ≠ railD ∧ s.rails[r].running = true ∧ s.rails[r].stop = .none then s.shedBoundary r else s
  s.dcEnergy r

/-- The selection and the distribution of the demand, once every slot of the sample is computed (R327, R348). -/
def State.settleDemand (s : State) (r : RailId) : State :=
  let out := s.selectSlots r
  if r = railD then out.1.distributeDrive out.2 else out.1.distribute r out.2

/-- The slots of a rail that is ON or stopping: those that do not depend on the window error at once, and the others with
them where that error is ready (R315, R316). -/
def State.controlRail (s : State) (r : RailId) : State :=
  if s.rails[r].running then
    let late := s.errorPending r
    let s := (s.latchBearings r).computeSlots r fun k => !(late && s.errorDependent k)
    if late then s.modRail r fun a => { a with awaiting := true } else s.settleDemand r
  else s

/-- The window error of the trigger is ready: the slots that wait for it are computed (R315). -/
def State.errorReady (s : State) (r : RailId) : State :=
  if s.rails[r].awaiting && s.rails[r].running && s.hasBoundary r then
    let s := s.modRail r fun a => { a with awaiting := false }
    (s.computeSlots r fun k => s.errorDependent k).settleDemand r
  else s

/-- WINDOW_ERROR_READY: the window error reaches the Harik engine (R208, R315). -/
def execWindowErrorReady (r : VRailId) (codes : List (BitVec 9)) (s : State) :
    Host.Outcome State Fault Refusal :=
  let t := s.windowError r codes
  .next (if s.vsense[r].sampling && !t.vsense[r].sampling then t.errorReady (vrail r) else t)

/-- The reference DAC of a rail at its boundary (R207). -/
def State.writeReference (s : State) (r : RailId) : State :=
  if h : r.val < 4 then s.setReference ⟨r.val, h⟩ else s

/-- A soft stop has come to its end: V_r at 0, a STORE rail's limits at 0, or the demand of a rail that lost its ring
at 0 (R280, R398). -/
def State.softDone (s : State) (r : RailId) : Bool :=
  let a := s.rails[r]
  if a.ringFrom.isSome then decide (s.ringDemand r = 0)
  else if s.railType r = 2 then decide (a.posLimit ≤ a.storeDrop ∧ -a.negLimit ≤ a.storeDrop)
  else a.vr == 0

/-- The phases stop under R264. -/
def State.stopPhases (s : State) (r : RailId) : State :=
  ((s.railPhases r).foldl (fun (s : State) p => s.modPhase p fun a =>
    { a with stopDue := a.switching, active := a.active && a.switching, shedding := false, shedLeft := 0 }) s).settleStop r

/-- A soft stop goes on by one sample (R280, R398). -/
def State.softStep (s : State) (r : RailId) : State :=
  if s.rails[r].stop = .soft then
    let d := s.fast (railIx r 0x10) 6 * s.sampleMs r
    let s := s.modRail r fun a =>
      if a.ringFrom.isSome then { a with ringFall := a.ringFall + d } else { a with storeDrop := a.storeDrop + d }
    if s.softDone r then s.stopPhases r else s
  else s

/-! ### The access map (R567–R569) -/

/-- The used entries of an access map. -/
def mapUsed (m : List Nat) : List Nat := m.filter fun (e : Nat) => e % 65536 != 0

/-- INDEX and SUB of an entry, as one number. -/
def mapPlace (e : Nat) : Nat := e % 2 ^ 24

/-- LEVEL of an entry. -/
def mapLevel (e : Nat) : Nat := bits e 26 24

/-- The entries that differ between two maps, by place and new level, 0 where one is removed (R569). -/
def mapChanges (old new : List Nat) : List (Nat × Nat) :=
  ((mapUsed new).filter fun (e : Nat) => !(mapUsed old).contains e).map (fun (e : Nat) => (mapPlace e, mapLevel e))
    ++ ((mapUsed old).filter fun (e : Nat) => !(mapUsed new).any fun (x : Nat) => mapPlace x == mapPlace e).map
        fun (e : Nat) => (mapPlace e, 0)

/-- A committed map takes effect, with one RC_ACCESS_MAP for each entry changed (R569). -/
def State.takeMap (s : State) : State :=
  match s.flash.mapNext with
  | none => s
  | some m =>
    let changes := mapChanges s.flash.map m
    let s := (s.setFlash { s.flash with map := m, mapNext := none })
    changes.foldl (fun (s : State) (c : Nat × Nat) =>
      s.raise rcAccessMap (evData [evU 2 ((c.1 % 65536 : Nat) : Int), evU 1 ((c.1 / 65536 : Nat) : Int), evU 1 c.2])) s

/-- One engine sample boundary of a rail. -/
def State.boundary (s : State) (r : RailId) : State :=
  if s.hasBoundary r then
    let s := (s.takeMap.envelopeBoundary r).swapTables r
    let s := (s.railSlots r).foldl State.applyDue s
    let s := ((s.startOrRamp r).writeReference r).spanBoundary r
    let s := s.measureRail r (s.remoteOf r)
    ((s.superviseRail r).controlRail r).softStep r
  else s

/-- ENGINE_SAMPLE_BOUNDARY (R314). -/
def execEngineSampleBoundary (r : RailId) (s : State) : Host.Outcome State Fault Refusal := .next (s.boundary r)

end Sys2Proof.Machine
end

