-- ==== Sys2Proof/Machine/Avs.lean ====
section
/-! DEFINITION. The AVSBus subordinate (R291–R293): its commands, and the answer the device gives each frame. -/

namespace Sys2Proof.Machine

/-- The SlaveAck codes of R292. -/
def ackTaken : Nat := 0
/-- See `ackTaken`: not acted on. -/
def ackIdle : Nat := 1
/-- See `ackTaken`: bad CRC. -/
def ackCrc : Nat := 2
/-- See `ackTaken`: unmapped select or unsupported command. -/
def ackInvalid : Nat := 3

/-- The port answers: enabled, in STANDBY, IDLE or RUN, with function 10 enabled (R291, R490). -/
def State.avsOn (s : State) : Bool := s.obj 0x2500 1 == 1 && s.fullService && s.funcState 10 == 0

/-- The local rail of a Rail Select. -/
def State.avsRail (s : State) (sel : Nat) : Option VRailId :=
  if sel < 4 then
    let v := s.nat 0x2500 (2 + sel)
    if h : v < 4 then some ⟨v, h⟩ else none
  else none

/-- The answer of a frame. -/
def State.avsReply (s : State) (ack : Nat) (data : Option Nat := none) : State := (s.setAvs (some ⟨ack, data⟩))

/-- A frame received: counted, and refused where its CRC is bad (R292); else what the command does. -/
def State.avsFrame (s : State) (crcOk : Bool) (f : State → State) : State :=
  if !s.avsOn then s
  else
    let s := s.bump 0x2500 0x12
    if crcOk then f s else (s.bump 0x2500 0x13).avsReply ackCrc

/-- A write frame, `none` being one of a command that the device does not support (R292, log 117). -/
def State.avsCommand (code : Option (BitVec 16)) (f : Nat → State → State) (s : State) : State :=
  match code with
  | some c => f c.toNat s
  | none => s.avsReply ackInvalid

/-- The source of a rail is AVSBUS. -/
def State.avsSource (s : State) (r : VRailId) : Bool := s.railObj (vrail r) 0x10 2 == 2

/-- A write not acted on (R292). -/
def State.avsIdle (s : State) : State := (s.bump 0x2500 0x14).avsReply ackIdle

/-- A write to the rail of a select, where its source is AVSBUS (R292). -/
def State.avsWrite (s : State) (sel : Nat) (f : VRailId → State → State) : State :=
  match s.avsRail sel with
  | none => s.avsReply ackInvalid
  | some r => if s.avsSource r then (f r s).avsReply ackTaken else s.avsIdle

/-- A read of the rail of a select (R291). -/
def State.avsRead (s : State) (sel : Nat) (f : VRailId → Nat) : State :=
  match s.avsRail sel with
  | none => s.avsReply ackInvalid
  | some r => s.avsReply ackTaken (some (f r))

/-- The broadcast select of PMBus Part III. PRESUMED (log 11). -/
def avsBroadcast : Nat := 15

/-- s_v of a select. -/
def State.avsScale (s : State) (sel : Nat) : Int := s.obj 0x2500 (6 + sel)

/-- A Voltage write (R291–R293); a broadcast reaches each mapped rail whose source is AVSBUS. -/
def State.avsVoltage (s : State) (sel code : Nat) : State :=
  let put (n : Nat) (r : VRailId) (s : State) : State := s.acceptTarget (vrail r) (code * s.avsScale n)
  if sel = avsBroadcast then
    ((List.range 4).foldl (fun (s : State) (n : Nat) =>
      match s.avsRail n with
      | some r => if s.avsSource r then put n r s else s
      | none => s) s).avsReply ackTaken
  else s.avsWrite sel (put sel)

/-- AVS_VOLTAGE_WRITE (R292). -/
def execAvsVoltageWrite (sel : BitVec 4) (crcOk : Bool) (code : Option (BitVec 16)) (s : State) :
    Host.Outcome State Fault Refusal :=
  .next (s.avsFrame crcOk (State.avsCommand code fun c s => s.avsVoltage sel.toNat c))

/-- A non-negative scaled value of 16 bits. -/
def avsCode (v scale : Int) : Nat := if v < 0 then 0 else (min (roundDiv v scale) 0xFFFF).toNat

/-- AVS_VOLTAGE_READ (R291). -/
def execAvsVoltageRead (sel : BitVec 4) (crcOk : Bool) (s : State) : Host.Outcome State Fault Refusal :=
  .next (s.avsFrame crcOk fun s => s.avsRead sel.toNat fun r =>
    avsCode (s.railObj (vrail r) 0x48 1) (s.avsScale sel.toNat))

/-- A rate object written over AVSBus: at the next boundary, at once while none comes (R17). -/
def State.putAvsRate (s : State) (r : VRailId) (sub : Nat) (v : Int) : State :=
  if v = 0 then s
  else if s.hasBoundary (vrail r) then s.putFast (railIx (vrail r) 0x10) sub v
  else (s.setStale (cellDrop s.stale (objKey (railIx (vrail r) 0x10) sub))).putObj (railIx (vrail r) 0x10) sub v

/-- A VoutTransRate write: rates × s_v mV/µs into 3r10:04 and 3r10:05, 0 leaving one unchanged (R291). -/
def State.avsRates (s : State) (r : VRailId) (scale : Int) (code : Nat) : State :=
  (s.putAvsRate r 4 (1000 * (code / 256 : Nat) * scale)).putAvsRate r 5 (1000 * (code % 256 : Nat) * scale)

/-- AVS_VOUT_TRANS_RATE_WRITE (R291). -/
def execAvsVoutTransRateWrite (sel : BitVec 4) (crcOk : Bool) (code : Option (BitVec 16)) (s : State) :
    Host.Outcome State Fault Refusal :=
  .next (s.avsFrame crcOk (State.avsCommand code fun c s =>
    s.avsWrite sel.toNat fun r s => s.avsRates r (s.avsScale sel.toNat) c))

/-- A rate in mV/ms as a code of s_v mV/µs, saturated at 255. -/
def avsRateCode (v scale : Int) : Nat := (clampInt (roundDiv v (1000 * scale)) 0 255).toNat

/-- AVS_VOUT_TRANS_RATE_READ (R291): the applied rates. -/
def execAvsVoutTransRateRead (sel : BitVec 4) (crcOk : Bool) (s : State) : Host.Outcome State Fault Refusal :=
  .next (s.avsFrame crcOk fun s => s.avsRead sel.toNat fun r =>
    256 * avsRateCode (s.upRate (vrail r)) (s.avsScale sel.toNat)
      + avsRateCode (s.downRate (vrail r)) (s.avsScale sel.toNat))

/-- AVS_CURRENT_READ (R291). -/
def execAvsCurrentRead (sel : BitVec 4) (crcOk : Bool) (s : State) : Host.Outcome State Fault Refusal :=
  .next (s.avsFrame crcOk fun s => s.avsRead sel.toNat fun r =>
    avsCode (s.railObj (vrail r) 0x48 2) (s.obj 0x2500 (0x0A + sel.toNat)))

/-- The temperature of a select in 0.1 °C as a 16-bit word; free without an AUX channel (log 10). -/
def State.avsTemperature (s : State) (sel : Nat) : Nat :=
  let c := s.nat 0x2500 (0x0E + sel)
  ((if c < 8 then s.obj 0x4130 (0x16 + 8 * c) else s.unstated 16) % 65536).toNat

/-- AVS_TEMPERATURE_READ (R291). -/
def execAvsTemperatureRead (sel : BitVec 4) (crcOk : Bool) (s : State) : Host.Outcome State Fault Refusal :=
  .next (s.avsFrame crcOk fun s => (s.avsRead sel.toNat fun _ => s.avsTemperature sel.toNat).tick)

/-- The newest valid copy of the stored parameters (R78). -/
def State.storedParams (s : State) : Option ParamCopy :=
  match s.flash.params[0], s.flash.params[1] with
  | some a, some b => if a.seq < b.seq then some b else some a
  | some a, none => some a
  | none, b => b

/-- The stored value of an object: of the newest copy, else its default. -/
def State.storedObj (s : State) (ix sub : Nat) : Int :=
  match s.storedParams with
  | some c => odGet c.od (objKey ix sub)
  | none => objDefault ix sub

/-- AVS_RESET_VOLTAGE (R291): the target becomes the stored 3r10:01. -/
def execAvsResetVoltage (sel : BitVec 4) (crcOk : Bool) (s : State) : Host.Outcome State Fault Refusal :=
  .next (s.avsFrame crcOk fun s => s.avsWrite sel.toNat fun r s =>
    s.acceptTarget (vrail r) (s.storedObj (railIx (vrail r) 0x10) 1))

/-- AVS_POWER_MODE_WRITE (R291): acknowledged with no action. -/
def execAvsPowerModeWrite (sel : BitVec 4) (crcOk : Bool) (_code : BitVec 16) (s : State) :
    Host.Outcome State Fault Refusal :=
  .next (s.avsFrame crcOk fun s =>
    s.avsReply (if (s.avsRail sel.toNat).isSome then ackTaken else ackInvalid))

/-- AVS_POWER_MODE_READ (R291). -/
def execAvsPowerModeRead (sel : BitVec 4) (crcOk : Bool) (s : State) : Host.Outcome State Fault Refusal :=
  .next (s.avsFrame crcOk fun s => s.avsRead sel.toNat fun r => if s.isOn (vrail r) then 0 else 3)

/-- The AVSBus status of a rail (R291). -/
def State.avsStatus (s : State) (r : VRailId) : Nat :=
  let q := vrail r
  let fault := s.fabric.uncleared.any fun (u : Uncleared) => Nat.ble 3 (severityOf u.ev) && (s.targets u.ev).contains q
  32768 * natOf (s.rails[q].vr == s.goal q) + 16384 * natOf fault + 8192 * natOf (s.avsSource r)
    + 4096 * natOf s.outline.active

/-- AVS_STATUS_READ (R291). -/
def execAvsStatusRead (sel : BitVec 4) (crcOk : Bool) (s : State) : Host.Outcome State Fault Refusal :=
  .next (s.avsFrame crcOk fun s => s.avsRead sel.toNat s.avsStatus)

/-- A refusal of a write of 2500 (R291); `t` is the state with the value in place. -/
def State.avsRule (t : State) (sub : Nat) (v : Int) : Option Nat :=
  if 2 ≤ sub ∧ sub ≤ 5 ∧ v ≠ 0xFF ∧ ((List.range 4).filter fun n => t.obj 0x2500 (2 + n) == v).length ≠ 1 then
    some 0x06090030
  else if 6 ≤ sub ∧ sub ≤ 9 then
    let n := sub - 6
    match t.avsRail n with
    | some r => if 65535 * (t.avsScale n : Rat) < t.maxEff (vrail r) then some 0x06090030 else none
    | none => none
  else none

end Sys2Proof.Machine
end

