-- ==== Sys2Proof/Machine/Reset.lean ====
section
/-! DEFINITION. Resets (R138–R145): the causes, the flush, what is wiped and what survives, the release with the stored
values loaded, and the firmware bank that runs (R579, R581). -/

namespace Sys2Proof.Machine

/-! ### What survives -/

/-- Objects held in the retained domain (R144): working totals, supply-quality counts, the warning count, and the reset
history. -/
def retainedKey (k : Nat) : Bool :=
  let ix := k / 256
  let sub := k % 256
  (Nat.ble 0x5040 ix && Nat.ble ix 0x5043)
    || (Nat.ble 0x3000 ix && Nat.blt ix 0x3500 && ix % 256 == 0x60 && Nat.ble sub 2)
    || ix == 0x2138 || (ix == 0x2130 && sub == 8) || (ix == 0x5068 && Nat.ble 2 sub && Nat.ble sub 4)

/-- Objects that read a fuse, a flash region or the level of a supply. -/
def lastingKey (k : Nat) : Bool :=
  let ix := k / 256
  let sub := k % 256
  (ix == 0x2030 && (sub == 1 || sub == 3 || sub == 4))
    || (ix == 0x2040 && ((Nat.ble 1 sub && Nat.ble sub 8) || sub == 0x0B))
    || (ix == 0x2130 && Nat.ble 1 sub && Nat.ble sub 3) || (ix == 0x5F00 && (sub == 5 || sub == 6))

/-- A totals copy that is cut off leaves its slot neither erased nor valid (R442). -/
def Energy.cutOff (a : Energy) : List (Nat × Nat) :=
  match a.save with
  | some op => cellPut a.spoilt op.slot 0
  | none => a.spoilt

/-- The device with every volatile memory zero-filled (R140, R144): the retained domain, the flash regions, the levels
at the pins and the queue of commands stay. -/
def State.wiped (s : State) : State :=
  let r := s.recorder
  let a := s.energy
  let l := s.life
  { od := s.od.filter fun (c : Nat × Int) => retainedKey c.1 || lastingKey c.1
    dom := s.dom.filter fun (c : Nat × List Byte) => c.1 == objKey 0x2030 5
    recorder := { seq := r.seq, log := r.log, wrapped := r.wrapped, eraseSector := r.eraseSector,
                  interrupted := r.interrupted, drops := r.drops, extLog := r.extLog }
    clients := { draws := s.clients.draws }
    life := { l with dewRunning := false, dewAt := 0, wetSince := 0, up := 0, settling := false, settleFrom := 0,
                     settleCount := 0, settleSeen := none, joining := false, joinedOnce := false, downTo := 1,
                     lost := false, bootEvents := [], command := none }
    supply := { s.supply with vinLost := false, pfw := false, pfwAt := 0, pfwSources := 0, flushing := false,
                              usbConfigured := false }
    clocks := { lse := s.clocks.lse, outlineClk := s.clocks.outlineClk
                nextMode := if s.nat 0x2010 1 = s.clocks.mode then s.clocks.nextMode else some (s.nat 0x2010 1) }
    rtc := s.rtc
    safety := { pinA := s.safety.pinA, pinB := s.safety.pinB }
    flash := { s.flash with store := none, calOp := none, outlineOp := none, keyOp := none, map := s.flash.mapStored,
                            mapNext := none, mapOp := none, bankErase := false, eraseFor := none, download := none, pieceHeld := none,
                            status := 0 }
    energy := { fractions := a.fractions, copies := a.copies, spoilt := a.cutOff, nextCopy := a.nextCopy,
                eraseSector := a.eraseSector,
                pulses := a.pulses.map fun (p : Pulse) => { residue := p.residue } }
    drive := { hall := s.drive.hall }
    freeCount := s.freeCount
    pending := s.pending }

/-! ### Causes -/

/-- A reset cause (R139): supply-quality kinds end (R458), the bypass closes at once (R35), the flush begins, whatever
other flash operation runs, and no other frame is begun on the bus than the one in transmission and the EMCY frames
queued (R87). -/
def State.causeReset (s : State) (kind : Nat) : State :=
  if s.life.resetKind.isSome || !(s.life.st == .run || s.life.st == .boot) then s
  else
    let s := s.endKinds
    let s := (s.setRing { s.ring with bypassClosed := true, joined := false }).setCan
      { s.can with tx := s.can.tx.take 1 ++ (s.can.tx.drop 1).filter TxFrame.isEmcy }
    (s.setLife { s.life with resetKind := some kind }).forceFlush

/-- The reset takes effect (R139, R140): a flush that has not ended is cut off, and every output is low. -/
def State.resetEffect (s : State) : State :=
  if s.life.resetKind.isSome && (s.life.st == .run || s.life.st == .boot) then
    let s := s.cutFlush.wiped
    (s.setLife { s.life with st := .reset })
  else s

/-- The contents of the retained domain are gone (R117, R144). -/
def State.retainedGone (s : State) : State :=
  ((s.setLife { s.life with retainedValid := false }).setClocks { s.clocks with lse := false }).setSupply
    { s.supply with pwrcycN := true }

/-- Both VIN and VBUS have become invalid (R115, R138): no flush. A brown-out is marked in every state but SLEEP and
OFF, and OFF is remembered for the wake of R151. -/
def State.supplyLost (s : State) : State :=
  if s.life.st == .unpowered then s
  else
    let asleep := s.life.st == .sleep || s.life.st == .off
    let off := s.life.st == .off
    let s := s.spoilWrite.wiped
    let s := (s.setLife { s.life with st := .unpowered, resetKind := none, thermalHold := false,
                                            brownOut := s.life.brownOut || !asleep, wake := off }).setClocks
      { s.clocks with nextMode := none }
    if s.supply.vbat then s else s.retainedGone

/-- VIN or VBUS has become valid: a device without supply is in reset until its release. -/
def State.supplyBack (s : State) : State :=
  if s.life.st == .unpowered then (s.setLife { s.life with st := .reset }) else s

/-! ### Release -/

/-- The kind of the reset that is released (R138, R143, R151). -/
def State.releaseKind (s : State) : Nat :=
  let l := s.life
  let kind := match l.resetKind with
    | some k => k
    | none => if l.retainedValid && l.wake then 0x0A else if l.retainedValid && l.brownOut then 2 else 1
  if l.retainedValid && l.powerCycle && (kind == 1 || kind == 2) then 8 else kind

/-- The highest sequence number of both logs. -/
def State.highestSeq (s : State) : Nat := max (logRange s.recorder.log).2 (logRange s.recorder.extLog).2

/-- The column "Retained domain lost" of R144: the sequence goes on after both logs, and the rest is zero-filled. -/
def State.dropRetained (s : State) : State :=
  let s := (s.setOd (s.od.filter (fun (c : Nat × Int) => !retainedKey c.1))).setRtc {}
  let s := s.setRecorder { s.recorder with seq := s.highestSeq, eraseSector := none, interrupted := none,
                                           drops := Vector.replicate 6 0 }
  let s := s.setEnergy { s.energy with fractions := [], nextCopy := 1, pulses := Vector.replicate 2 {} }
  s.setLife { s.life with seconds := 0, millis := 0, lastWatchdog := none }

/-- The reset kind enters 2138 (R138). -/
def State.recordReset (s : State) (kind : Nat) : State :=
  let history : Nat := (s.nat 0x2138 2 * 256 + kind) % 2 ^ 64
  ((s.putObj 0x2138 1 kind).putObj 0x2138 2 (history : Int)).bump 0x2138 (0x10 + kind)

/-- Values laid over the dictionary. -/
def State.overlay (s : State) (c : ParamCopy) : State :=
  let s := c.od.foldl (fun (s : State) (x : Nat × Int) => s.putObj (x.1 / 256) (x.1 % 256) x.2) s
  c.dom.foldl (fun (s : State) (x : Nat × List Byte) => s.putDomain (x.1 / 256) (x.1 % 256) x.2) s

/-- The newest valid calibration half (R418). -/
def State.storedCal (s : State) : Option ParamCopy :=
  match s.flash.cal[0], s.flash.cal[1] with
  | some a, some b => if a.seq < b.seq then some b else some a
  | some a, none => some a
  | none, b => b

/-- The entries of an access map in their shadow objects (R583). -/
def State.loadMap (s : State) (map : List Nat) : State :=
  (List.range 64).foldl (fun (s : State) (i : Nat) => s.putObj 0x2028 (2 + i) (map.getD i 0)) s

/-- The Outline objects read the committed set (R129). -/
def State.loadOutline (s : State) : State :=
  match s.outlineSet with
  | none => s
  | some o => (o.values.filter fun (c : Nat × Int) => c.1 / 256 == 0x2340).foldl
      (fun (s : State) (c : Nat × Int) => s.putObj (c.1 / 256) (c.1 % 256) c.2) s

/-- Stored parameters, calibration, Outline set and access map loaded (R85, R583). -/
def State.loadStored (s : State) : State :=
  let s := match s.storedParams with | some c => s.overlay c | none => s
  let s := match s.storedCal with | some c => s.overlay c | none => s
  (s.loadOutline).loadMap s.flash.map

/-- An event to be raised at the start of Survey. -/
def State.bootEvent (s : State) (e data : Nat) : State :=
  (s.setLife { s.life with bootEvents := s.life.bootEvents ++ [(e, data)] })

/-- The bank that is not active. -/
def State.otherBank (s : State) : Nat := 1 - s.nat 0x2040 1

/-- State of a bank, 2040:02 and 2040:03. -/
def State.bank (s : State) (b : Nat) : Nat := s.nat 0x2040 (2 + b)

/-- A bank's state set. -/
def State.putBank (s : State) (b v : Nat) : State := s.putObj 0x2040 (2 + b) v

/-- The bank named by an activation, while it is still VERIFIED (R3, R579). -/
def State.bankToActivate (s : State) : Option Nat :=
  match s.flash.activateNext with
  | some b => if s.bank b = 2 then some b else none
  | none => none

/-- The bank named by an activation runs as TRIAL (R579). -/
def State.activate (s : State) (b : Nat) : State :=
  let s := ((s.putBank (s.nat 0x2040 1) 2).putBank b 5).putObj 0x2040 1 b
  let s := (s.setFlash { s.flash with activateNext := none }).putObj 0x2040 0x0B 0
  s.bootEvent rcFwActivated (evData [evU 1 b, evU 4 (s.obj 0x2040 (4 + b))])

/-- The return to the previous bank (R581). -/
def State.rollBack (s : State) : State :=
  let other := s.otherBank
  let s := ((s.putBank (s.nat 0x2040 1) 3).putBank other 4).putObj 0x2040 1 other
  (s.putObj 0x2040 0x0B 0).bootEvent rcFwRollback (evData [evU 1 other])

/-- The boot stage: a bank left WRITING is INVALID (R583), then activation or the conditions of R581. -/
def State.bootFirmware (s : State) (kind : Nat) : State :=
  let s := [0, 1].foldl (fun (s : State) (b : Nat) => if s.bank b = 1 then s.putBank b 3 else s) s
  match s.bankToActivate with
  | some b => s.activate b
  | none =>
    let s := s.setFlash { s.flash with activateNext := none }
    let back := kind == 5 || kind == 6 || s.life.failedBoot || Nat.ble 3 (s.nat 0x2040 0x0B)
    if s.bank (s.nat 0x2040 1) = 5 && back then s.rollBack else s

/-- The applied target after a reset: the stored target, clamped (R307), and the limits as the dictionary has them. -/
def State.bootRail (s : State) (r : RailId) : State :=
  let s := (s.takeLimits r).modRail r fun a => { a with source := s.railObj r 0x10 1 }
  let t := s.clampedTarget r
  (s.putRailObj r 0x10 7 t).modRail r fun a => { a with clamped := t != a.source }

/-- The base period a reset starts from: that of the timer, within the limits of R169 (DESIGN CHOICE, log 133). -/
def State.bootBase (s : State) : Nat :=
  (clampInt (roundRat (16 * s.nominalPeriod / s.fastNat 0x2200 7)) s.shortestBase s.longestBase).toNat

/-- What the reset objects of the fast path hold once the stored values are loaded; the ring port waits (R401). -/
def State.bootFast (s : State) : State :=
  let s := railIds.foldl State.bootRail s
  let s := phaseIds.foldl State.resetPhase s
  let s := s.setMeridian { s.meridian with mains := s.nominalPeriod, base := s.bootBase }
  s.putObj 0x2400 2 (if s.obj 0x2400 1 = 1 then 1 else 0)

/-- The source mode written before the reset takes effect, else the stored one (R37). -/
def State.takeMode (s : State) : State :=
  let m := s.clocks.nextMode.getD (s.nat 0x2010 1)
  (s.setClocks { s.clocks with mode := m, nextMode := none }).putObj 0x2010 1 m

/-- Reset release (R138, R140, R145): memories wiped, the kind recorded, and the stored values loaded. -/
def State.release (s : State) : State :=
  let kind := s.releaseKind
  let lost := !s.life.retainedValid
  let s := s.wiped
  let s := if lost then s.dropRetained else s
  let s := ((s.recordReset kind).loadStored).bootFirmware kind
  let s := ((s.setLife { s.life with st := .boot, resetKind := none, wake := false, brownOut := false,
                                          powerCycle := false, retainedValid := true, lost := lost,
                                          failedBoot := false }))
  s.takeMode.bootFast

end Sys2Proof.Machine
end

