-- ==== Sys2Proof/Machine/Ports.lean ====
section
/-! DEFINITION. Client channels (R82, R561–R565), and what ends a session, a transfer or a firmware download; the USB
port's attachment (R545, R562). -/

namespace Sys2Proof.Machine

/-! ### Channels -/

/-- The client of a channel; RPDOs have none. -/
def State.client (s : State) (ch : Channel) : Client :=
  match ch with
  | .sdo => s.clients.sdo
  | .usdo n => (cellGet s.clients.usdo n.toNat).getD {}
  | .gsp => s.clients.gsp
  | .rpdo => {}

/-- The state with a channel's client changed. -/
def State.modClient (s : State) (ch : Channel) (f : Client → Client) : State :=
  let c := f (s.client ch)
  match ch with
  | .sdo => (s.setClients { s.clients with sdo := c })
  | .usdo n => (s.setClients { s.clients with usdo := cellPut s.clients.usdo n.toNat c })
  | .gsp => (s.setClients { s.clients with gsp := c })
  | .rpdo => s

/-- The base level of a channel by the lifecycle state (R561); RPDOs write at OPERATOR (R613). -/
def State.baseLevel (s : State) (ch : Channel) : Level :=
  if ch = .rpdo then .operator
  else match s.lifecycle with
    | 0 => .vendor
    | 1 => .oem
    | 4 => .base
    | _ => if ch = .gsp then .base else .operator

/-- The level of a channel now: that of its session, else its base level. -/
def State.channelLevel (s : State) (ch : Channel) : Level := (s.client ch).session.getD (s.baseLevel ch)

/-- The channel code of the session events (R510): 0 CAN, 1 USB. -/
def channelCode (ch : Channel) : Nat := if ch = .gsp then 1 else 0

/-! ### Answers -/

/-- The answer given to a write. -/
def State.record (s : State) (ch : Channel) (ix sub : Nat) (abort : Option Nat) : State :=
  (s.setClients { s.clients with answer := some ⟨ch, ix, sub, abort⟩ })

/-- A frame queued for the bus, where the device sends (R51, R61). -/
def State.sendCan (s : State) (f : TxFrame) : State :=
  if s.canSends then (s.setCan { s.can with tx := s.can.tx ++ [f] }) else s

/-- The SDO abort frame (R43, R62). -/
def sdoAbort (ix sub code : Nat) : List Byte := 0x80 :: leBytes 2 ix ++ leBytes 1 sub ++ leBytes 4 code

/-- A GSP response sent and cached with the SEQ and CRC of its request (R550, R553). -/
def State.gspRespond (s : State) (r : GspRequest) (type : Nat) (payload : List Byte) : State :=
  let f := gspFrame r.seq type r.ix r.sub payload
  (s.setGsp { s.gsp with out := s.gsp.out ++ [f], cache := ((r.seq, r.crc, f) :: s.gsp.cache).take 8,
                               request := none })

/-- The header of a block segment (R555). -/
def segmentHeader (last : Bool) (offset : Nat) : List Byte := leBytes 4 (natOf last) ++ leBytes 4 offset

/-- The response to a GSP write that is done or refused (R550, R557). -/
def State.gspWritten (s : State) (r : GspRequest) (abort : Option Nat) : State :=
  match abort with
  | some c => s.gspRespond r 0xFF (leBytes 4 c)
  | none => if r.type = 4 then s.gspRespond r 0x84 (segmentHeader r.last r.offset) else s.gspRespond r 0x82 []

/-- The answer to a write that a channel waits for is given (R78, R80, R418, R577). -/
def State.answer (s : State) (ch : Channel) (ix sub : Nat) (abort : Option Nat) : State :=
  let s := s.record ch ix sub abort
  match ch with
  | .sdo =>
    match s.can.sdoOwed with
    | some f =>
      (s.setCan { s.can with sdoOwed := none }).sendCan (.sdo (match abort with
        | some c => sdoAbort ix sub c
        | none => f))
    | none => s
  | .usdo n =>
    if s.can.usdoOwed.contains n.toNat then
      (s.setCan { s.can with usdoOwed := s.can.usdoOwed.erase n.toNat }).sendCan (.usdo n.toNat ix sub abort [])
    else s
  | .gsp => match s.gsp.request with | some r => s.gspWritten r abort | none => s
  | .rpdo => s

/-! ### Ends -/

/-- A firmware download that a channel abandons leaves the bank INVALID (R577), with status ABORTED (R582). -/
def State.abandonDownload (s : State) (ch : Channel) : State :=
  if s.flash.download = some ch then
    (s.setFlash { s.flash with download := none, bankErase := false, eraseFor := none, imageEnds := false, pieceHeld := none,
                                     status := 7 }).putBank s.otherBank 3
  else s

/-- A log read of the channel ends, and a deferred erase proceeds (R532). -/
def State.abandonRead (s : State) (ch : Channel) : State :=
  if s.recorder.readers.contains ch then s.endDeferral ch else s

/-- A GSP session ends with its cache, tags, cursor, block transfer and event stream, and a new one begins at base
level (R82, R553, R558, R559, R562). -/
def State.freshGsp (s : State) : State :=
  let s := (s.abandonDownload .gsp).abandonRead .gsp
  let s := s.setGsp { s.gsp with cache := [], block := none, aborted := none, events := [] }
  (s.setClients { s.clients with gsp := {} }).putObj 0x2510 5 0xFF

/-- An authenticated session ends for a reason of RC_SESSION_CLOSE (R565). -/
def State.endSession (s : State) (ch : Channel) (reason : Nat) : State :=
  match (s.client ch).session with
  | none => s
  | some l =>
    let s := if ch = .gsp then s.freshGsp
             else s.modClient ch fun c => { c with session := none, acceptedM := [], idle := 0 }
    s.raise rcSessionClose (evData [evU 1 l.rank, evU 1 reason])

/-! ### USB -/

/-- The identifiers and the product string as they stand in 2510:01–03. -/
def State.usbIdentity (s : State) : UsbIdentity :=
  ⟨s.nat 0x2510 1, s.nat 0x2510 2, (s.domain 0x2510 3).getD ({} : UsbIdentity).name⟩

/-- The port attaches where VBUS is valid and function 9 is enabled (R545), with the descriptor of now (R544). -/
def State.usbAttach (s : State) : State :=
  if s.supply.vbus && s.serving && s.funcState 9 == 0 && s.obj 0x2510 4 == 0 then
    (s.setSupply { s.supply with usbIdentity := s.usbIdentity }).putObj 0x2510 4 1
  else s

/-- The GSP session ends at detach or reinitialisation (R562): nothing of it stays. -/
def State.endGsp (s : State) : State :=
  let s := (s.endSession .gsp 2).freshGsp
  (s.setGsp {})

/-- The host's configuration of the port ends: CM_USB_DETACH after a configuration (R509). -/
def State.usbUnconfigure (s : State) : State :=
  let was := s.supply.usbConfigured
  let s := ((s.setSupply { s.supply with usbConfigured := false }).setClocks { s.clocks with sofTrim := false })
  if was then s.endGsp.raise cmUsbDetach 0 else s

/-- The port detaches (R545). -/
def State.usbDetach (s : State) : State :=
  if s.obj 0x2510 4 == 0 then s else s.usbUnconfigure.putObj 0x2510 4 0

/-! ### The FIFO drained -/

/-- The supervisor takes every entry of the pending FIFO (R461), at most `n`. -/
def State.drainFifo (n : Nat) (s : State) : State :=
  match n with
  | 0 => s
  | m + 1 => if s.fabric.fifo.isEmpty then s else State.drainFifo m s.processFifo

end Sys2Proof.Machine
end

