-- ==== Sys2Proof/Machine/Supply.lean ====
section
/-! DEFINITION. Supply, power-fail warning, bring-up and power states (chapter 04), and the clocks (chapter 01). -/

namespace Sys2Proof.Machine

/-! ### Outline-started rails (R129, R361) -/

/-- Both outputs of the phases the Outline controller has started go low. -/
def State.lowStarted (s : State) : State :=
  let s := if s.outline.startedDrive then [(9 : PhaseId), 10, 11].foldl State.phaseLow s else s
  if s.outline.startedStore then
    let mask := match s.outlineSet with | some o => o.storeMask | none => 0
    (maskList 12 mask).foldl (fun (s : State) (p : Nat) => s.phaseLow (Fin.ofNat 12 p)) s
  else s

/-- The start-in-Outline rails are started where the set, VIN and both SAFE inputs allow it (R129). -/
def State.startInOutline (s : State) : State :=
  match s.outlineSet with
  | none => s
  | some _ =>
    let s := s.putBit 0x2120 2 8 true
    let flags := (s.outlineValue 0x2340 2).toNat
    if s.supply.vin && s.safety.pinA && s.safety.pinB && flags != 0 then
      let s := (s.setOutline { s.outline with startedDrive := flags.testBit 0, startedStore := flags.testBit 1 })
      (s.putBit 0x2120 2 9 true).startTurning
    else s

/-- They are released with their outputs low (R129). -/
def State.releaseStarted (s : State) : State :=
  let s := s.lowStarted
  (s.setOutline { s.outline with startedDrive := false, startedStore := false })

/-- The Outline controller's outputs after a change of its supply (R486). -/
def State.outlineResupply (s : State) : State :=
  if s.outline.active || s.outline.startedDrive || s.outline.startedStore then
    if s.outlineSupply then s.startTurning else s.driveOutline.driveStore
  else s

/-! ### Survey (R127) -/

/-- The base of an object whose default carries the node-ID. -/
def cobKeys : List (Nat × Nat) :=
  [(0x1014, 0), (0x1400, 1), (0x1401, 1), (0x1402, 1), (0x1403, 1), (0x1800, 1), (0x1801, 1), (0x1802, 1), (0x1803, 1)]

/-- The COB-IDs that are not stored take the node-ID (R67, R74). -/
def State.loadCobs (s : State) : State :=
  match s.nodeId with
  | none => s
  | some id =>
    cobKeys.foldl (fun (s : State) (k : Nat × Nat) =>
      let kept := match s.storedParams with | some c => (cellGet c.od (objKey k.1 k.2)).isSome | none => false
      if kept then s
      else s.putObj k.1 k.2 ((if k.1 = 0x1014 then 0x80 else objDefault k.1 k.2) + id)) s

/-- The node-ID and the bit rates of 2008 applied (R48, R49). -/
def State.loadNode (s : State) : State :=
  let id := if s.nat 0x2008 4 = 0 then 0x10 + s.nat 0x2008 6 else s.nat 0x2008 7
  let s := s.putObj 0x2008 5 id
  (s.setCan { s.can with bitIndex := s.nat 0x2008 2, dataRate := s.nat 0x2008 3 }).loadCobs

/-- The boot-up message, then Pre-operational (R55); none without a node-ID (R51). -/
def State.bootUp (s : State) : State :=
  if s.nodeId.isSome then
    (s.setCan { s.can with nmt := .preOperational, tx := s.can.tx ++ [.bootUp] })
  else (s.setCan { s.can with nmt := .initialising })

/-- NODE_SEL read (R98): the mean of 16 conversions, rounded to the nearest code (DESIGN CHOICE, log 123), and the
strap value. -/
def State.readStrap (s : State) (codes : List (BitVec 12)) : State :=
  let sum := (codes.take 16).foldl (fun (n : Nat) (c : BitVec 12) => n + c.toNat) 0
  let c := (roundDiv sum 16).toNat
  let s := (s.putObj 0x5F00 4 c).putObj 0x2008 6 ((16 * c / 4096 : Nat) : Int)
  (s.setCan { s.can with strap := 16 * c / 4096 })

/-- The external log memory identified (R537). -/
def State.identify (s : State) (id : Nat) : State :=
  if s.obj 0x5830 1 == 1 then
    let s := (s.putObj 0x5830 5 id).bump 0x2520 1
    if id = 0 ∨ id = 0xFFFFFF then (s.putObj 0x5830 2 2).raise cmSpiNoDevice (evData [evU 4 id])
    else (s.putObj 0x5830 2 1).rebuildExt
  else s

/-- Every log slot with an uncorrectable granule raises RC_FLASH_ECC (R527, R614). -/
def State.reportEcc (s : State) : State :=
  s.recorder.log.foldl (fun (s : State) (c : Nat × LogSlot) =>
    match c.2 with
    | .spoilt (some g) => s.raise rcFlashEcc (evData [evU 1 0, evU 4 ((32 * c.1 + 8 * g : Nat) : Int)])
    | _ => s) s

/-- What memory was found to hold is raised at the start of Survey (R85, R145, R523, R579, R581). -/
def State.bootReports (s : State) : State :=
  let kind := s.obj 0x2138 1
  let s := s.raise dvReset (evData [evU 1 kind, evU 1 ((bits (s.nat 0x2138 2) 15 8 : Nat) : Int)])
  let s := if s.life.lost then (s.raise dvRetainedLost (evData [evU 1 (s.unstated 17 % 2)])).tick else s
  let s := s.life.bootEvents.foldl (fun (s : State) (c : Nat × Nat) => s.raise c.1 c.2) s
  let s := (s.setLife { s.life with bootEvents := [] })
  let s := if s.storedParams.isSome then s else s.raise rcParamCrc (evData [evU 1 0])
  let s := if s.recorder.drops.all (· == 0) then s else s.raiseOverflow true
  s.reportEcc

/-- A dew check starts, or is skipped while 2128:01 is off (R135). -/
def State.startDew (s : State) : State :=
  if s.obj 0x2128 1 == 1 then (s.setLife { s.life with dewRunning := true, dewAt := s.life.up })
  else (s.putBit 0x2120 2 5 true).putBit 0x2120 2 6 true

/-- The start of the Survey service (R127). -/
def State.startSurvey (s : State) (codes : List (BitVec 12)) (spiId : Nat) : State :=
  let s := (s.setLife { s.life with st := .run, up := 45 }).putObj 0x2120 3 45
  let s := ((s.readStrap codes).loadNode).rebuildLog
  let lost := s.life.lost
  let noCrystal := s.life.bootEvents.any fun (c : Nat × Nat) => c.1 == dvXtalLoss
  let s := (s.bootReports.restoreTotals (!lost)).bootUp
  let s := ((s.identify spiId).usbAttach).startErase
  let s := if s.obj 0x2138 1 == 6 then s.enterOutline 2 else s
  let s := if noCrystal then s.enterOutline 3 else s
  (s.startInOutline).startDew

/-- SURVEY_START (R127). -/
def execSurveyStart (strapCodes : List (BitVec 12)) (spiId : BitVec 24) (s : State) :
    Host.Outcome State Fault Refusal :=
  if s.life.st = .boot ∧ s.life.resetKind = none then .next (s.startSurvey strapCodes spiId.toNat) else .next s

/-! ### Full-service conditions (R130, R131) -/

/-- Bring-up fails (R131). -/
def State.bringupFail (s : State) : State :=
  if s.stage = 2 ∨ s.stage = 3 ∨ s.serving = false then s
  else
    let s := (s.setLife { s.life with failedBoot := true }).putObj 0x2120 1 3
    let s := if s.outlineSet.isSome then s.enterOutline 4 else s.pwmHold
    s.raise dvBringupFail (evData [evU 2 (s.obj 0x2120 2)])

/-- The checks of stored parameters, calibration and the analog self-test end (R130). -/
def State.selfTest (s : State) (analogOk : Bool) : State :=
  let config := s.storedParams.isSome
  let cal := s.storedCal.isSome
  let s := if config then s.putBit 0x2120 2 1 true else s
  let s := if cal then s.putBit 0x2120 2 2 true else s
  let s := if analogOk then s.putBit 0x2120 2 3 true else s
  if config && cal && analogOk then s else s.bringupFail

/-- SELF_TEST_COMPLETE (R130). -/
def execSelfTestComplete (analogOk : Bool) (s : State) : Host.Outcome State Fault Refusal :=
  if s.serving && !s.bit 0x2120 2 3 then .next (s.selfTest analogOk) else .next s

/-- The device runs from its reset release on. -/
def State.clocked (s : State) : Bool := s.life.st == .run || s.life.st == .boot

/-- Metrology counts its settling from here (R425). -/
def State.startSettling (s : State) : State :=
  s.setLife { s.life with settling := true, settleFrom := s.life.up, settleCount := 0, settleSeen := none }

/-- The PLL locks (R425, R424): in RC_ONLY the settling is counted from here. -/
def State.pllLocks (s : State) : State :=
  let s := (s.setClocks { s.clocks with pll := true }).putBit 0x2120 2 0 true
  let s := s.closeMetrology
  if s.clocks.mode = 2 ∧ s.metrology.settled = false then s.startSettling else s

/-- The deviation of the RC oscillator as measured, in 0.001 % (2010:04; log 7). -/
def State.measureRc (s : State) : State :=
  let v := clampInt (Config.rcDeviation s.clocks.measurements).toInt (-2000) 2000
  (s.setClocks { s.clocks with measurements := s.clocks.measurements + 1 }).putObj 0x2010 4 v

/-- The PLL reference moves to the crystal (R22, R164, R425). -/
def State.ontoCrystal (s : State) : State :=
  let s := (s.setClocks { s.clocks with crystal := true, ranOnCrystal := true }).measureRc
  (s.closeMetrology.rescaleTracker true).startSettling

/-- 200 ms after reset release without a qualified crystal (R130): CRYSTAL_REQUIRED fails, AUTO goes on. -/
def State.crystalMissing (s : State) : State :=
  if s.clocks.mode = 1 then s.bringupFail
  else if s.clocks.mode = 0 then (s.raise dvXtalNotQualified (evData [evI 2 (s.obj 0x2010 4)])).startSettling
  else s

/-- CRYSTAL_NOT_QUALIFIED (R130). -/
def execCrystalNotQualified (s : State) : Host.Outcome State Fault Refusal :=
  if s.serving && !s.clocks.ranOnCrystal && !s.life.settling && !s.metrology.settled then .next s.crystalMissing
  else .next s

/-- Metrology on the RC-derived clock (2120:02 bit [7], R127). -/
def State.putReduced (s : State) (b : Bool) : State :=
  (s.setMetrology { s.metrology with reduced := b }).putBit 0x2120 2 7 b

/-- An event of the clocks: before the start of Survey it is found, and raised there. -/
def State.raiseClock (s : State) (e data : Nat) : State :=
  if s.serving then s.raise e data else s.setLife { s.life with bootEvents := s.life.bootEvents ++ [(e, data)] }

/-- The running crystal is lost (R23): the PLL goes over to the RC oscillator. Before the start of Survey the event and
Outline mode follow at that start. -/
def State.crystalLost (s : State) : State :=
  let s := ((s.setClocks { s.clocks with crystal := false }).bump 0x2010 5).putReduced true
  let s := (s.rescaleTracker false).raiseClock dvXtalLoss (evData [evU 4 (s.obj 0x2010 5)])
  if s.serving then s.enterOutline 3 else s

/-- CRYSTAL_LOSS (R23). -/
def execCrystalLoss (s : State) : Host.Outcome State Fault Refusal :=
  if s.clocked && s.clocks.crystal then .next s.crystalLost else .next s

/-- The PLL is out of lock (R507); the loss is counted in 2010:05. -/
def State.pllLost (s : State) : State :=
  let s := (s.setClocks { s.clocks with pll := false }).bump 0x2010 5
  s.raiseClock dvPllLoss (evData [evU 1 (natOf s.clocks.crystal : Int)])

/-- PLL_LOSS (R507). -/
def execPllLoss (s : State) : Host.Outcome State Fault Refusal :=
  if s.clocked && s.clocks.pll then .next s.pllLost else .next s

/-- PLL_LOCK_TIMEOUT (R130). -/
def execPllLockTimeout (s : State) : Host.Outcome State Fault Refusal :=
  if s.serving && !s.clocks.pll && !s.bit 0x2120 2 0 then .next s.bringupFail else .next s

/-- USB_START_OF_FRAME (R24): trims the RC oscillator while the PLL runs on it, from the first the host sends to an
attached port. -/
def execUsbStartOfFrame (s : State) : Host.Outcome State Fault Refusal :=
  if s.serving && s.obj 0x2510 4 != 0 && !s.clocks.crystal then
    .next (s.setClocks { s.clocks with sofTrim := true })
  else .next s

/-- Metrology has settled (R130); REDUCED_PRECISION ends on the crystal (R425). -/
def State.metrologySettles (s : State) : State :=
  let s := ((s.setLife { s.life with settling := false }).setMetrology { s.metrology with settled := true })
  let s := s.putBit 0x2120 2 4 true
  if s.clocks.crystal then s.putReduced false else s

/-- A mains crossing has qualified within 25 ms of the moment of R425 (R130). -/
def State.mainsSeen (s : State) : Bool :=
  match s.life.settleSeen with | some t => Nat.ble t (s.life.settleFrom + 25) | none => false

/-- Eight qualified mains periods have been counted; or 160 ms have passed where no crossing qualified within 25 ms
(R130). -/
def State.settledNow (s : State) : Bool :=
  if s.mainsSeen then Nat.ble 8 s.life.settleCount else Nat.ble (s.life.settleFrom + 160) s.life.up

/-- METROLOGY_SETTLED (R130). -/
def execMetrologySettled (s : State) : Host.Outcome State Fault Refusal :=
  if s.serving && s.life.settling && s.settledNow then .next s.metrologySettles else .next s

/-- Full service (R132): bits 0–5 of 2120:02 are set. -/
def State.serviceReady (s : State) : Bool := s.serving && s.stage == 0 && s.nat 0x2120 2 % 64 == 63

/-- A bring-up of a trial bank is complete (R581). -/
def State.countTrial (s : State) : State :=
  if s.bank (s.nat 0x2040 1) = 5 then s.putObj 0x2040 0x0B (min 3 (s.obj 0x2040 0x0B + 1)) else s

/-- The device reaches full service (R132, R193). -/
def State.enterService (s : State) : State :=
  let s := ((s.putObj 0x2120 1 2).putObj 0x2120 4 s.life.up).putBit 0x2300 0x0C 1 false
  let s := if s.outline.active then s else s.releaseStarted
  let s := s.countTrial.armAll
  let held := s.can.startHeld
  (s.setCan { s.can with fd := s.obj 0x2008 1 == 1, startHeld := false,
                               nmt := if held then .operational else s.can.nmt })

/-- FULL_SERVICE (R132). -/
def execFullService (s : State) : Host.Outcome State Fault Refusal :=
  if s.serviceReady then .next s.enterService else .next s

/-! ### Dew check and wet hold (R135–R137) -/

/-- The highest reading of a check and its node: the first of the highest among the enabled nodes (R136). -/
def highestReading (nodes : List Nat) (readings : List (BitVec 16)) : Nat × Nat :=
  (nodes.zip readings).foldl (fun (best : Nat × Nat) (c : Nat × BitVec 16) =>
    if best.1 < c.2.toNat then (c.2.toNat, c.1) else best) (0, nodes.headD 0)

/-- The data of the wet-hold events. -/
def State.dewData (s : State) : Nat := evData [evU 2 (s.obj 0x2128 4), evU 1 (s.obj 0x2128 7)]

/-- Wet hold ends, and bring-up goes on. -/
def State.leaveWetHold (s : State) : State :=
  let s := (s.putBit 0x2120 2 5 true).endEvent dvWetHold s.dewData
  let s := (s.setLife { s.life with dewRunning := false })
  if s.stage = 1 then s.putObj 0x2120 1 0 else s

/-- A dew check ends (R135, R136). -/
def State.dewComplete (s : State) (readings : List (BitVec 16)) : State :=
  let high := highestReading (maskList 12 (s.nat 0x2128 2)) readings
  let s := (s.setLife { s.life with dewRunning := false }).bump 0x2128 6
  let s := (s.putObj 0x2128 4 high.1).putObj 0x2128 7 high.2
  let wet := s.standing dvWetHold
  if high.1 ≤ s.nat 0x2128 3 then
    if wet then s.leaveWetHold.raise dvDry (evData [evU 4 ((s.life.up - s.life.wetSince : Nat) : Int)])
    else s.leaveWetHold
  else
    let s := if s.stage = 0 then s.putObj 0x2120 1 1 else s
    if wet then s
    else (s.setLife { s.life with wetSince := s.life.up }).raise dvWetHold s.dewData

/-- DEW_CHECK_COMPLETE (R135). -/
def execDewCheckComplete (readings : List (BitVec 16)) (s : State) : Host.Outcome State Fault Refusal :=
  if s.serving && s.life.dewRunning then .next (s.dewComplete readings) else .next s

/-- DEW_CHECK_REPEAT (R136). -/
def execDewCheckRepeat (s : State) : Host.Outcome State Fault Refusal :=
  if s.serving && s.standing dvWetHold && !s.life.dewRunning then
    .next (s.setLife { s.life with dewRunning := true, dewAt := s.life.up })
  else .next s

/-- 2128:05: the host ends wet hold (R137). -/
def State.overrideWetHold (s : State) : State := s.leaveWetHold.raise dvWetOverride s.dewData

/-! ### Power states (R146–R149) -/

/-- Bus-powered (R118). -/
def State.busPowered (s : State) : Bool := s.supply.vbus && !s.supply.vin

/-- The conditions of STANDBY → IDLE and of IDLE → RUN (R148). -/
def State.upAllowed (s : State) : Bool :=
  s.fullService && s.supply.vin && !s.supply.pfw && s.lifecycle != 4

/-- A refusal of a write of 2100:01: on bus power (R118), of a higher state than the present one whose condition fails
(R126, R148), and of SLEEP or OFF during a store (R148). -/
def State.powerRule (s : State) (v : Nat) : Option Nat :=
  if 4 < v then some 0x06090030
  else if 3 ≤ v ∧ s.busPowered = true then some 0x08000022
  else if s.power < v ∧ 3 ≤ v ∧ s.upAllowed = false then some 0x08000022
  else if v ≤ 1 ∧ s.flash.store.isSome = true then some 0x08000022
  else none

/-- A later step's condition has failed: the state reached is the commanded one (R147). -/
def State.holdPower (s : State) : State := s.putObj 0x2100 1 s.power

/-- The next step toward the commanded state starts (R147, R148). While VIN is lost no step goes up (R119). -/
def State.nextStep (s : State) : State :=
  let p := s.power
  let t := s.nat 0x2100 1
  if s.obj 0x2100 3 ≠ 0 ∨ p = t ∨ (s.supply.vinLost = true ∧ p < t) then s
  else if p < t then
    if !s.upAllowed then s.holdPower else if p = 2 then s.putObj 0x2100 3 2 else s
  else if p = 4 then ((s.putObj 0x2100 3 1).softStopAll 4)
  else if p = 3 then (s.putObj 0x2100 3 3).leaveRing 0
  else if s.flash.store.isSome then s.holdPower
  else (s.setLife { s.life with downTo := t }).putObj 0x2100 3 4

/-- 2100:01 written (R147); RUN during RUN → IDLE abandons that step (R149). -/
def State.setPower (s : State) (v : Nat) : State :=
  let s := s.putObj 0x2100 1 v
  let s := if v = 4 ∧ s.power = 4 then s.putObj 0x2100 3 0 else s
  s.nextStep

/-- A step is complete. -/
def State.stepDone (s : State) (p : Nat) : State := ((s.putObj 0x2100 2 p).putObj 0x2100 3 0).nextStep

/-- The content of IDLE: the engine starts, the counters run, and the ring port joins (R148, R263). -/
def State.enterIdle (s : State) : State :=
  (s.startEngine.mapPhases fun p a =>
    if a.counting then a
    else
      let shift := s.wantedShift p
      { a with counting := true, shift := shift, aim := shift }).joinRing

/-- The ring lead has listened and discovered, or does not join (R376, R379). -/
def State.ringSettled (s : State) : Bool :=
  !(s.isRingLead && s.ringActive && !(s.obj 0x2400 2 == 4 || s.obj 0x2400 2 == 5 || s.obj 0x2400 2 == 6))

/-- The step STANDBY → IDLE ends once the ring lead's discovery at its first join has ended (R133). -/
def State.joinStep (s : State) : State :=
  if s.life.joining && s.ringSettled then
    (s.setLife { s.life with joining := false, joinedOnce := true }).stepDone 3
  else s

/-- The step STANDBY → IDLE: at once but for the first join of a ring lead (R133, R148). -/
def State.stepToIdle (s : State) : State :=
  if s.life.joining then s.joinStep
  else
    let s := (s.setLife { s.life with joining := true }).enterIdle
    if s.life.joinedOnce then (s.setLife { s.life with joining := false }).stepDone 3 else s.joinStep

/-- STANDBY_TO_IDLE (R148). -/
def execStandbyToIdle (s : State) : Host.Outcome State Fault Refusal :=
  if s.serving && s.power == 2 && s.obj 0x2100 3 == 2 then .next s.stepToIdle else .next s

/-- RING_FRAME_SEND (R367): the last ALIGN pair of the first discovery ends the step to IDLE (R133, R379). -/
def execRingFrameSend (s : State) : Host.Outcome State Fault Refusal := .next s.sendFrame.joinStep

/-- RING_LEAD_LISTEN_END (R376): a blocked lead discovers nothing, and its step ends. -/
def execRingLeadListenEnd (framesFound : Bool) (s : State) : Host.Outcome State Fault Refusal :=
  .next (s.listenEnd framesFound).joinStep

/-- RING_LEAVE_COMPLETE (R396). -/
def execRingLeaveComplete (s : State) : Host.Outcome State Fault Refusal := .next s.leaveComplete.joinStep

/-- RING_DISCOVERY_END (R379): the step STANDBY → IDLE ends where it waited for it (R133). -/
def execRingDiscoveryEnd (s : State) : Host.Outcome State Fault Refusal := .next s.discoveryEnd.joinStep

/-- IDLE_TO_RUN (R148). -/
def execIdleToRun (s : State) : Host.Outcome State Fault Refusal :=
  if s.serving && s.power == 3 && s.obj 0x2100 3 == 0 && s.obj 0x2100 1 == 4 then .next (s.stepDone 4) else .next s

/-- RUN_TO_IDLE (R148): once every rail has stopped. -/
def execRunToIdle (s : State) : Host.Outcome State Fault Refusal :=
  if s.serving && s.power == 4 && s.obj 0x2100 3 == 1 && !s.anyOnOrStopping then .next (s.stepDone 3) else .next s

/-- The STANDBY content of R35: the engine halts and the hardware PWM hold applies; what the Outline
controller drives prevails (R152). -/
def State.enterStandby (s : State) : State := s.haltEngine.pwmHold.driveOutline.driveStore

/-- IDLE_TO_STANDBY (R148). -/
def execIdleToStandby (s : State) : Host.Outcome State Fault Refusal :=
  if s.serving && s.power == 3 && s.obj 0x2100 3 == 3 && s.ring.leaving.isNone then
    .next ((s.enterStandby).stepDone 2)
  else .next s

/-- SLEEP or OFF is entered (R148): USB detaches, staging is flushed, a totals copy is written, and volatile memory is
zero-filled. -/
def State.powerDown (s : State) (target : Nat) : State :=
  let s := State.drainFifo 64 s.usbDetach.endKinds
  let s := (s.setSupply { s.supply with flushing := true }).forceFlush
  let s := ((State.flushNow flushBudget s).saveNow 4).wiped
  let s := (s.setLife { s.life with st := if target = 1 then .sleep else .off })
  (s.putObj 0x2100 1 target).putObj 0x2100 2 target

/-- The step STANDBY → SLEEP or OFF runs. -/
def State.poweringDown (s : State) : Bool := s.serving && s.power == 2 && s.obj 0x2100 3 == 4

/-- STANDBY_TO_SLEEP (R148). -/
def execStandbyToSleep (s : State) : Host.Outcome State Fault Refusal :=
  if s.poweringDown && s.life.downTo != 0 then .next (s.powerDown 1) else .next s

/-- STANDBY_TO_OFF (R148). -/
def execStandbyToOff (s : State) : Host.Outcome State Fault Refusal :=
  if s.poweringDown && s.life.downTo == 0 then .next (s.powerDown 0) else .next s

/-- A wake: the reset held by RESET_N, or released at once (R150). -/
def State.wakeUp (s : State) (held : Bool) : State :=
  let s := (s.setLife { s.life with st := .reset, resetKind := some 0x0A })
  if held then s else s.release

/-- SLEEP_WAKE (R150). -/
def execSleepWake (source : WakeSource) (s : State) : Host.Outcome State Fault Refusal :=
  if s.life.st = .sleep ∧ (source = .vbus → s.supply.vbus = true) then .next (s.wakeUp (source == .resetPin))
  else .next s

/-! ### Resets -/

/-- RESET_PIN (R103): a reset cause, and in SLEEP a wake. -/
def execResetPin (s : State) : Host.Outcome State Fault Refusal :=
  if s.life.st = .sleep then .next (s.wakeUp true) else .next (s.causeReset 3)

/-- RESET_EFFECT (R139). -/
def execResetEffect (s : State) : Host.Outcome State Fault Refusal := .next s.resetEffect

/-- RESET_RELEASE (R138): not while the junction holds the reset. -/
def execResetRelease (s : State) : Host.Outcome State Fault Refusal :=
  if s.life.st = .reset ∧ s.life.thermalHold = false ∧ (s.supply.vin || s.supply.vbus) = true then .next s.release
  else .next s

/-- The watchdog's reset: WATCHDOG_OUTLINE within 60 s of the last of either kind (R141). -/
def State.watchdogReset (s : State) : State :=
  let again := match s.life.lastWatchdog with | some t => decide (s.life.seconds < t + 60) | none => false
  let s := (s.setLife { s.life with lastWatchdog := some s.life.seconds })
  s.causeReset (if again then 6 else 5)

/-- WATCHDOG_EXPIRY (R141). -/
def execWatchdogExpiry (s : State) : Host.Outcome State Fault Refusal :=
  if s.clocked && s.life.resetKind.isNone then .next s.watchdogReset else .next s

/-- The junction at 165 °C (R142, R507). -/
def State.thermalReset (s : State) (tenths : Int) : State :=
  let s := s.putObj 0x5F00 7 tenths
  let s := if s.serving then State.drainFifo 64 (s.raise dvThermalReset (evData [evI 2 tenths])) else s
  (s.setLife { s.life with thermalHold := true }).causeReset 7

/-- THERMAL_RESET (R142). -/
def execThermalReset (junction : BitVec 16) (s : State) : Host.Outcome State Fault Refusal :=
  if s.clocked && !s.life.thermalHold && decide (1650 ≤ junction.toInt) then .next (s.thermalReset junction.toInt)
  else .next s

/-- THERMAL_RELEASE (R142). -/
def execThermalRelease (s : State) : Host.Outcome State Fault Refusal :=
  if s.life.thermalHold then
    let t := (s.setLife { s.life with thermalHold := false })
    .next (if s.life.st = .reset then t.release else t)
  else .next s

/-- The junction reading (R594): DV_TEMP_HIGH from 140 °C, ending below 135 °C. -/
def State.junction (s : State) (tenths : Int) : State :=
  let s := s.putObj 0x5F00 7 tenths
  if 1400 ≤ tenths then s.raise dvTempHigh (evData [evI 2 tenths])
  else if tenths < 1350 then s.endEvent dvTempHigh (evData [evI 2 tenths])
  else s

/-- JUNCTION_TEMPERATURE_HIGH (R594). -/
def execJunctionTemperatureHigh (junction : BitVec 16) (s : State) : Host.Outcome State Fault Refusal :=
  if s.serving then .next (s.junction junction.toInt) else .next s

/-! ### VIN, VBUS, VBAT and VPWM (R95, R115–R119) -/

/-- VIN is lost in IDLE or RUN while VBUS keeps the device running (R119). -/
def State.vinLost (s : State) : State :=
  let s := (s.setSupply { s.supply with vinLost := true }).setLife { s.life with joining := false }
  let s := ((s.putObj 0x2100 2 2).putObj 0x2100 3 0).raise dvVinLost (evData [evI 4 (s.obj 0x2130 1)])
  (s.leaveRing 0).enterStandby

/-- VIN becomes invalid (R115, R116, R119). -/
def State.vinFalls (s : State) : State :=
  let s := (s.setSupply { s.supply with vin := false })
  if !s.supply.vbus then s.supplyLost
  else
    let s := s.outlineResupply
    if s.serving && Nat.ble 3 (s.nat 0x2100 1) && !s.supply.vinLost then s.vinLost else s

/-- VIN_RISE (R115): valid above 3.9 V. -/
def execVinRise (mv : BitVec 16) (s : State) : Host.Outcome State Fault Refusal :=
  let s := s.putObj 0x2130 1 mv.toNat
  if 3900 < mv.toNat ∧ s.supply.vin = false then
    .next (s.setSupply { s.supply with vin := true }).supplyBack.outlineResupply
  else .next s

/-- VIN_FALL (R115): invalid below 3.8 V. -/
def execVinFall (mv : BitVec 16) (s : State) : Host.Outcome State Fault Refusal :=
  let s := s.putObj 0x2130 1 mv.toNat
  if mv.toNat < 3800 ∧ s.supply.vin = true then .next s.vinFalls else .next s

/-- VBUS_RISE (R115): the USB port attaches (R545). -/
def execVbusRise (mv : BitVec 16) (s : State) : Host.Outcome State Fault Refusal :=
  let s := s.putObj 0x2130 2 mv.toNat
  if 3900 < mv.toNat ∧ s.supply.vbus = false then
    .next (s.setSupply { s.supply with vbus := true }).supplyBack.usbAttach
  else .next s

/-- VBUS becomes invalid (R115, R545). -/
def State.vbusFalls (s : State) : State :=
  let s := (s.setSupply { s.supply with vbus := false })
  if !s.supply.vin then s.supplyLost else if s.serving then s.usbDetach else s

/-- VBUS_FALL (R115). -/
def execVbusFall (mv : BitVec 16) (s : State) : Host.Outcome State Fault Refusal :=
  let s := s.putObj 0x2130 2 mv.toNat
  if mv.toNat < 3800 ∧ s.supply.vbus = true then .next s.vbusFalls else .next s

/-- VIN has been valid again for 100 ms (R119). -/
def State.vinRestored (s : State) : State :=
  let s := (s.setSupply { s.supply with vinLost := false })
  let s := s.endEvent dvVinLost (evData [evI 4 (s.obj 0x2130 1)])
  if Nat.ble 3 (s.nat 0x2100 1) then (s.putObj 0x2100 2 (s.obj 0x2100 1)).enterIdle else s.nextStep

/-- VIN_RESTORED_TIMER (R119). -/
def execVinRestoredTimer (s : State) : Host.Outcome State Fault Refusal :=
  if s.serving && s.supply.vinLost && s.supply.vin then .next s.vinRestored else .next s

/-- VBAT_FALL (R117): without VIN and VBUS the retained domain loses its supply. -/
def execVbatFall (mv : BitVec 16) (s : State) : Host.Outcome State Fault Refusal :=
  let s := s.putObj 0x2130 3 mv.toNat
  if mv.toNat < 1800 then
    let s := (s.setSupply { s.supply with vbat := false })
    .next (if s.life.st = .unpowered then s.retainedGone else s)
  else .next s

/-- VBAT_RISE (R117). -/
def execVbatRise (mv : BitVec 16) (s : State) : Host.Outcome State Fault Refusal :=
  let s := s.putObj 0x2130 3 mv.toNat
  if 1800 ≤ mv.toNat then .next (s.setSupply { s.supply with vbat := true }) else .next s

/-- The VPWM band of 5F00:06. -/
def vpwmBand (mv : Nat) : Nat := if mv < 2700 then 0 else if mv ≤ 4000 then 1 else 2

/-- The VPWM reading; before the first, 5F00:05 and 5F00:06 read 0 (DESIGN CHOICE, log 142). -/
def State.putVpwm (s : State) (mv : Nat) : State := (s.putObj 0x5F00 5 mv).putObj 0x5F00 6 (vpwmBand mv)

/-- VPWM falls below 2.7 V: every output low, and each enabled rail raises RL_VPWM_LOW (R95). -/
def State.vpwmFalls (s : State) (mv : Nat) : State :=
  let s := (s.setSupply { s.supply with vpwm := false }).pwmHold
  let s := s.outlineResupply
  (railIds.filter s.isOn).foldl (fun (s : State) (r : RailId) =>
    s.raise (rlVpwmLow r.val) (evData [evI 4 mv])) s

/-- VPWM_LOW (R95). -/
def execVpwmLow (mv : BitVec 16) (s : State) : Host.Outcome State Fault Refusal :=
  let s := s.putVpwm mv.toNat
  if mv.toNat < 2700 ∧ s.supply.vpwm = true then .next (s.vpwmFalls mv.toNat) else .next s

/-- VPWM is back (R95, R486). -/
def State.vpwmRises (s : State) (mv : Nat) : State :=
  let s := (s.setSupply { s.supply with vpwm := true }).outlineResupply
  railIds.foldl (fun (s : State) (r : RailId) => s.endEvent (rlVpwmLow r.val) (evData [evI 4 mv])) s

/-- VPWM_RESTORED (R95). -/
def execVpwmRestored (mv : BitVec 16) (s : State) : Host.Outcome State Fault Refusal :=
  let s := s.putVpwm mv.toNat
  if 2700 ≤ mv.toNat ∧ s.supply.vpwm = false then .next (s.vpwmRises mv.toNat) else .next s

/-! ### Power-fail warning (R120–R126) -/

/-- A store in progress is aborted: the previous copy stays valid (R121). -/
def State.abortStore (s : State) : State :=
  match s.flash.store with
  | none => s
  | some op =>
    let s := (s.setFlash { s.flash with store := none })
    match op.ch with
    | some ch => s.answer ch (if op.restore then 0x1011 else 0x1010) op.area (some 0x08000020)
    | none => s

/-- The warning is raised (R121): DV_PFW staged, a store aborted, the totals copy begun, staging flushed. -/
def State.startWarning (s : State) (mask : Nat) : State :=
  let s := (s.setSupply { s.supply with pfw := true, pfwAt := s.life.up, pfwSources := mask, flushing := true })
  let s := ((s.putObj 0x2130 6 mask).bump 0x2130 8).raise dvPfw (evData [evU 1 mask])
  let s := (State.drainFifo 64 s).abortStore
  let s := (s.setEnergy { s.energy with due := [] })
  let s := if s.copyReady then s.beginCopy 2 else s
  s.forceFlush

/-- Step 5 of R121 has ended. -/
def State.flushComplete (s : State) (us : Nat) : State :=
  let s := (State.flushWrites flushBudget s).copyDone
  let s := (s.setSupply { s.supply with flushing := false })
  (s.putObj 0x2130 7 us).putBit 0x2130 6 7 true

/-- POWER_FAIL_FLUSH_COMPLETE (R121). -/
def execPowerFailFlushComplete (us : BitVec 16) (s : State) : Host.Outcome State Fault Refusal :=
  if s.serving && s.supply.pfw && s.supply.flushing then .next (s.flushComplete us.toNat) else .next s

/-- The warning clears (R124): suspended flash work goes on. -/
def State.endWarning (s : State) : State :=
  let d := evData [evU 4 ((s.life.up - s.supply.pfwAt : Nat) : Int), evU 1 s.supply.pfwSources]
  let s := (s.setSupply { s.supply with pfw := false, flushing := false })
  let s := (s.putObj 0x2130 6 ((s.nat 0x2130 6 / 128 * 128 : Nat) : Int)).raise dvPfwEnd d
  s.startErase.startSave.startWrite

end Sys2Proof.Machine
end

