-- ==== Sys2Proof/Machine/Ladder.lean ====
section
/-! DEFINITION. Clearing and acknowledging (R469–R473), Outline mode entered and left by the host and the Outline set
(R488, R489), the safety inputs and permit (R475–R483), the function ladder (R490–R492) and the power-cycle request
(R493). -/

namespace Sys2Proof.Machine

/-! ### Raising and ending -/

/-- EVENT_RAISE (R460): the fabric runs from the start of Survey (R495). -/
def execEventRaise (event : Fin 640) (data : BitVec 64) (s : State) : Host.Outcome State Fault Refusal :=
  if s.serving then .next (s.raise event.val data.toNat) else .next s

/-- The condition of an event has ended (R500); with that of CM_ERROR_PASSIVE the port is no longer error-passive (R60). -/
def State.conditionEnds (s : State) (event data : Nat) : State :=
  let s := s.endEvent event data
  if event = cmErrorPassive then s.setCan { s.can with passive := false } else s

/-- EVENT_CONDITION_END (R500). -/
def execEventConditionEnd (event : Fin 640) (data : BitVec 64) (s : State) : Host.Outcome State Fault Refusal :=
  if s.serving then .next (s.conditionEnds event.val data.toNat) else .next s

/-- FIFO_ENTRY_PROCESS (R461). -/
def execFifoEntryProcess (s : State) : Host.Outcome State Fault Refusal :=
  if s.serving then .next s.processFifo else .next s

/-- OVERFLOW_REQUEUE (R461). -/
def execOverflowRequeue (s : State) : Host.Outcome State Fault Refusal :=
  if s.serving then .next s.requeue else .next s

/-! ### Clearing and acknowledging -/

/-- The state with the uncleared sources a test keeps. -/
def State.keepUncleared (s : State) (keep : Uncleared → Bool) : State :=
  let s := (s.setFabric { s.fabric with uncleared := s.fabric.uncleared.filter keep })
  let s := s.putObj 0x2300 0x0E s.fabric.uncleared.length
  if (s.uncleared dvHkWatchdog).isNone then s.putBit 0x2300 0x0C 0 false else s

/-- A refusal of a write of 2300:02 (R469). -/
def State.clearRule (s : State) (arg : Nat) : Option Nat :=
  if arg = 0x0FFF then none
  else if 0x27F < arg then some 0x06090030
  else if s.standing arg then some 0x08000022
  else none

/-- Events cleared (R469): one, or every LATCHED one. -/
def State.clearEvents (s : State) (arg : Nat) : State :=
  if arg = 0x0FFF then s.keepUncleared fun (u : Uncleared) => u.standing
  else s.keepUncleared fun (u : Uncleared) => u.ev != arg || u.standing

/-- The most restrictive response among the uncleared events a test admits. -/
def State.worst (s : State) (f : Uncleared → Bool) : Nat :=
  (s.fabric.uncleared.filter f).foldl (fun (n : Nat) (u : Uncleared) => max n u.resp) 0

/-- An active response set; a change sets the RESPONSE flag (R473). -/
def State.putResponse (s : State) (sub v : Nat) : State :=
  if s.nat 0x2300 sub = v then s else (s.putObj 0x2300 sub v).interrupt 2

/-- The causes RESPONSE_OUTLINE and RESPONSE_SAFE_OFF end below OUTLINE (R488). -/
def State.dropResponseCauses (s : State) : State :=
  if s.deviceResponse < 6 then (s.putBit 0x2300 0x0C 5 false).putBit 0x2300 0x0C 6 false else s

/-- An acknowledgement (R470, R471). -/
def State.acknowledgeAll (s : State) : State :=
  let was := s.deviceResponse
  let s := railIds.foldl (fun (s : State) (r : RailId) =>
    s.putResponse (5 + r.val) (s.worst fun (u : Uncleared) => (s.raisedRails u.ev u.resp).contains r)) s
  let top := railIds.foldl (fun (n : Nat) (r : RailId) => max n (s.railResponse r)) 0
  let s := s.putResponse 1 (max top (s.worst fun (u : Uncleared) => (s.targets u.ev).isEmpty))
  let s := s.dropResponseCauses
  if 0 < was ∧ s.deviceResponse = 0 then s.emcyReset else s

/-- Interrupt flags cleared (R473). -/
def State.clearInterrupts (s : State) (flags : Nat) : State :=
  (maskList 4 flags).foldl (fun (s : State) (n : Nat) => s.putBit 0x2320 1 n false) s

/-- A refusal of an event response entry (R462): outside the permitted range, reserved bits, a reserved number. -/
def responseRule (e v : Nat) : Option Nat :=
  if 32 ≤ v then some 0x06090030
  else match eventInfo e with
    | none => if v = 0 then none else some 0x06090030
    | some i =>
      if i.kind = .trigger then (if v = 0 then none else some 0x06090030)
      else if i.lo ≤ v % 16 ∧ v % 16 ≤ i.hi then none else some 0x06090030

/-! ### Outline mode by the host (R488) -/

/-- A refusal of a write of 2300:04. -/
def State.outlineRule (s : State) (arg : Nat) : Option Nat :=
  if arg = 1 then (if s.fullService then none else some 0x08000022)
  else if arg = 2 then (if s.nat 0x2300 0x0C &&& 0x6F = 0 then none else some 0x08000022)
  else some 0x06090030

/-- Outline mode is left: outputs low, the engine reinitialised, the ring port joins (R488). -/
def State.leaveOutline (s : State) : State :=
  if s.outline.active then
    let ms := s.life.up - s.outline.since
    let s := (s.setOutline { s.outline with startedDrive := s.outline.drive, startedStore := s.outline.store })
    let s := s.lowStarted
    let s := (s.setOutline { s.outline with active := false, drive := false, store := false, supporting := false,
                                                  startedDrive := false, startedStore := false, coasting := false,
                                                  rampFrom := none })
    let s := (s.putBit 0x2300 0x0C 4 false).reinitEngine.joinRing
    s.raise dvOutlineExit (evData [evU 4 ms])
  else s.putBit 0x2300 0x0C 4 false

/-- 2300:04 (R488). -/
def State.outlineCommand (s : State) (arg : Nat) : State := if arg = 1 then s.enterOutline 5 else s.leaveOutline

/-! ### The Outline set (R489) -/

/-- The phases of the storage part of a set: those of the lowest-numbered STORE rail. -/
def State.storeMaskNow (s : State) : Nat := match s.storeRail with | some r => s.phaseMask r | none => 0

/-- A refusal of a write of 2340:01 (R489). -/
def State.outlineSetRule (s : State) (arg : Nat) : Option Nat :=
  let support := s.obj 0x2340 7 == 1
  let drive := s.bit 0x2340 2 0
  let store := s.bit 0x2340 2 1
  let safe := s.nat 0x2330 3
  if arg ≠ 1 then some 0x06090030
  else if s.power ≠ 2 ∧ s.power ≠ 3 then some 0x08000022
  else if s.flash.outlineOp.isSome = true then some 0x08000022
  else if support && (s.storeRail.isNone || s.obj 0x2340 8 == 0xFF || decide (s.obj 0x2340 0x0A ≤ s.obj 0x2340 9)) then
    some 0x06090030
  else if (drive && !s.driveConfigured) || (store && s.storeRail.isNone) then some 0x06090030
  else if (drive && 0x0E00 &&& safe != 0) || (store && s.storeMaskNow &&& safe != 0) then some 0x06090030
  else if store && !support then some 0x06090030
  else none

/-- The keys a commit copies (R489). -/
def outlineKeys : List (Nat × Nat) :=
  (List.range 10).map (fun (i : Nat) => (0x2340, 2 + i)) ++ [(0x2620, 1)]
    ++ (List.range 10).map fun (i : Nat) => (0x4110, 1 + i)

/-- The alternate of the two copies of a region: the one that is not the newest. -/
def alternate {α : Type} (v : Vector (Option α) 2) (seq : α → Nat) : Fin 2 :=
  match v[0], v[1] with
  | some a, some b => if seq a < seq b then 0 else 1
  | some _, none => 1
  | none, _ => 0

/-- The set a commit writes. -/
def State.outlineNow (s : State) : OutlineSet :=
  let phases := s.storeMaskNow ||| (if s.driveConfigured then 0x0E00 else 0)
  { seq := (match s.outlineSet with | some o => o.seq | none => 0) + 1
    values := outlineKeys.map fun (k : Nat × Nat) => (objKey k.1 k.2, s.obj k.1 k.2)
    storeMask := s.storeMaskNow
    codes := (maskList 12 phases).map fun (p : Nat) =>
      (p, (s.ocCode (Fin.ofNat 12 p) true).toNat, (s.ocCode (Fin.ofNat 12 p) false).toNat) }

/-- A commit begins: the alternate block is erased (R489, R614). -/
def State.commitOutline (s : State) (ch : Channel) (tag : Nat) : State :=
  let k := alternate s.flash.outline (fun (o : OutlineSet) => o.seq)
  let set := s.outlineNow
  (s.setFlash { s.flash with outline := s.flash.outline.set k none,
                                   outlineOp := some (⟨ch, 0x2340, 1, tag⟩, set) })

/-- OUTLINE_SET_COMMIT_COMPLETE (R489): the newer block stands alone. -/
def State.outlineCommitted (s : State) : State :=
  match s.flash.outlineOp with
  | none => s
  | some (_, set) =>
    let k := alternate s.flash.outline (fun (o : OutlineSet) => o.seq)
    let s := (s.setFlash { s.flash with
      outline := (Vector.replicate 2 none).set k (some set), outlineOp := none })
    (s.raise rcOutlineSet (evData [evU 4 set.seq])).startSave.startWrite

/-- OUTLINE_SET_COMMIT_COMPLETE (R489). -/
def execOutlineSetCommitComplete (s : State) : Host.Outcome State Fault Refusal :=
  if s.supply.pfw then .next s else .next s.outlineCommitted

/-! ### Safety inputs (R475–R481) -/

/-- The pin of a SAFE input. -/
def State.putSafePin (s : State) (b : Bool) (level : Bool) : State :=
  (s.setSafety (if b then { s.safety with pinB := level } else { s.safety with pinA := level }))

/-- SAFE_INPUT_FALL (R475, R495). -/
def execSafeInputFall (b : Bool) (s : State) : Host.Outcome State Fault Refusal :=
  let s := s.putSafePin b false
  if s.serving then .next s.safePath else .next s

/-- Safety status, 2330:02. -/
def State.safetyStatus (s : State) : Nat :=
  let a := s.safety
  natOf a.pinA + 2 * natOf a.pinB + 4 * natOf a.filtA + 8 * natOf a.filtB + 16 * natOf (a.filtA != a.filtB)
    + 32 * natOf (s.uncleared dvSafeDiscrepancy).isSome + 64 * natOf a.path + 128 * natOf a.permit

/-- DV_SAFE_PERMIT_LOST by the filtered levels (R480). -/
def State.permitLost (s : State) : State :=
  let d := evData [evU 1 s.safetyStatus]
  if s.safety.filtA && s.safety.filtB then s.endEvent dvSafePermitLost d else s.raise dvSafePermitLost d

/-- The stage of the re-arm sequence moves with the filtered levels (R481). -/
def State.rearm (s : State) : State :=
  let a := s.safety
  if s.obj 0x2330 8 = 1 ∧ a.filtA = false ∧ a.filtB = false then s.putObj 0x2330 8 2
  else if s.obj 0x2330 8 = 2 ∧ a.filtA = true ∧ a.filtB = true then
    (s.putObj 0x2330 8 0).endEvent dvSafeDiscrepancy (evData [evU 1 (natOf a.lowFirstB : Int)])
  else s

/-- A sample of both inputs (R478, R479): runs at a new level, and the discrepancy count over the filtered levels held
since the last sample. The filters take the pins at the first sample of Survey. -/
def State.sampleSafe (s : State) (a b : Bool) : State :=
  let f := s.safety
  if !f.seen then
    (s.setSafety { f with pinA := a, pinB := b, filtA := a, filtB := b, seen := true, lowFirstB := a && !b })
      |>.permitLost
  else
    let n := if f.filtA != f.filtB then f.count + 1 else 0
    (s.setSafety { f with pinA := a, pinB := b, count := n,
                                runA := if a != f.filtA then f.runA + 1 else 0,
                                runB := if b != f.filtB then f.runB + 1 else 0 }).putObj 0x2330 4 (min n 0xFFFF)

/-- SAFE_SAMPLE (R478). -/
def execSafeSample (a b : Bool) (s : State) : Host.Outcome State Fault Refusal :=
  if s.serving then .next (s.sampleSafe a b) else .next ((s.putSafePin false a).putSafePin true b)

/-- The end of a filtered disagreement (R479, R480): one that did not fault raises DV_SAFE_DISAGREE. -/
def State.endDisagree (s : State) : State :=
  let n := s.safety.count
  let faulted := s.safety.faulted
  let s := (s.setSafety { s.safety with count := 0, faulted := false }).putObj 0x2330 4 0
  if faulted then s else (s.bump 0x2330 5).raise dvSafeDisagree (evData [evU 2 n])

/-- Filtered levels change after three samples at the new level (R478–R481). -/
def State.filterSafe (s : State) : State :=
  let f := s.safety
  let wasApart := f.filtA != f.filtB
  let a := if 3 ≤ f.runA then !f.filtA else f.filtA
  let b := if 3 ≤ f.runB then !f.filtB else f.filtB
  let s := (s.setSafety { f with filtA := a, filtB := b, runA := if 3 ≤ f.runA then 0 else f.runA,
                                       runB := if 3 ≤ f.runB then 0 else f.runB,
                                       lowFirstB := if wasApart then f.lowFirstB else a && !b })
  let s := if wasApart && a == b then s.endDisagree else s
  s.rearm.permitLost

/-- SAFE_FILTER_CHANGE (R478). -/
def execSafeFilterChange (s : State) : Host.Outcome State Fault Refusal :=
  if s.serving && s.safety.seen && (Nat.ble 3 s.safety.runA || Nat.ble 3 s.safety.runB) then .next s.filterSafe
  else .next s

/-- A discrepancy fault (R479–R481). -/
def State.discrepancy (s : State) : State :=
  let s := (s.setSafety { s.safety with faulted := true })
  let s := (s.bump 0x2330 6).putObj 0x2330 8 1
  s.raise dvSafeDiscrepancy (evData [evU 1 (natOf s.safety.lowFirstB : Int)])

/-- DISCREPANCY_FAULT (R479): the count has reached T_d. -/
def execDiscrepancyFault (s : State) : Host.Outcome State Fault Refusal :=
  let f := s.safety
  if s.serving && f.filtA != f.filtB && !f.faulted && Nat.ble (10 * s.nat 0x2330 1) f.count then .next s.discrepancy
  else .next s

/-- The conditions of permit (R482); an input still low at its pin holds the path (R475). -/
def State.permitReady (s : State) : Bool :=
  s.fullService && s.safety.path && s.safety.seen && s.safety.filtA && s.safety.filtB && s.safety.pinA && s.safety.pinB
    && (s.uncleared dvSafeDiscrepancy).isNone && Nat.blt s.deviceResponse 7 && Nat.ble 2 s.power

/-- The path releases (R482, R473). -/
def State.grantPermit (s : State) : State :=
  (s.setSafety { s.safety with path := false, permit := true }).interrupt 3

/-- PERMIT_GRANT (R482). -/
def execPermitGrant (s : State) : Host.Outcome State Fault Refusal :=
  if s.permitReady then .next s.grantPermit else .next s

/-- A refusal of a write of 2330:03 (R477). -/
def State.safeMaskRule (s : State) (v : Nat) : Option Nat :=
  let flags := (s.outlineValue 0x2340 2).toNat
  let store := match s.outlineSet with | some o => o.storeMask | none => 0
  let parts := (if flags.testBit 0 then 0x0E00 else 0) ||| (if flags.testBit 1 then store else 0)
  if s.safety.path || s.anyOnOrStopping then some 0x08000022
  else if v &&& parts ≠ 0 then some 0x06090030
  else none

/-! ### Functions (R490–R492) -/

/-- The rail of a function 0–4. -/
def functionRail (f : Nat) : Option RailId := if h : f < 5 then some ⟨f, h⟩ else none

/-- Whether a channel is a CAN one. -/
def overCan (ch : Channel) : Bool := match ch with | .gsp => false | _ => true

/-- A refusal of a write of 2110:01 (R490–R492). -/
def State.functionRule (s : State) (ch : Channel) (f op : Nat) : Option Nat :=
  if 12 < f ∨ op = 0 ∨ 4 < op then some 0x06090030
  else if op = 4 then none
  else if op = 1 then
    if s.funcState f = 1 ∨ s.funcState f = 3 then some 0x08000022
    else match functionRail f with
      | some r => if s.onOrStopping r then some 0x08000022 else none
      | none => if f = 12 ∧ s.anyOnOrStopping = true then some 0x08000022 else none
  else if f = 8 ∧ overCan ch = true then some 0x08000022
  else if f = 9 ∧ overCan ch = false then some 0x08000022
  else if (f = 11 ∨ f = 12) ∧ s.anyOnOrStopping = true then some 0x08000022
  else none

/-- The transmit queue and the EMCY frames held are dropped, the latter counted (R54, R491). -/
def State.emptyTx (s : State) : State :=
  let n := s.can.emcyHeld.length
  (s.setCan { s.can with tx := [], emcyHeld := [] }).bumpBy 0x5F00 3 n

/-- The CAN controller restarted with its error counters at 0 (R491). -/
def State.restartCan (s : State) : State :=
  let s := s.emptyTx
  let ms := s.life.up - s.can.busOffAt
  let wasOff := s.can.busOff
  let s := (s.setCan { s.can with busOff := false, passive := false }).endEvent cmErrorPassive
  if wasOff then (s.endEvent cmBusOff).raise cmBusRecovered (evData [evU 4 ms]) else s

/-- The recorder flushed and its write position rebuilt (R491, R526). -/
def State.reinitRecorder (s : State) : State :=
  ((State.flushNow flushBudget s.forceFlush).rebuildLog).startErase.startWrite

/-- REINITIALISE by function (R491). -/
def State.reinitFunction (s : State) (f : Nat) : State :=
  match functionRail f with
  | some r => if r = railD then (s.resetRail r).resetDrive else s.resetRail r
  | none =>
    match f with
    | 5 => s.endKinds.restartDecimators
    | 6 => s.reinitRecorder
    | 7 =>
      if s.funcState 7 = 2 then s.resetRing
      else
        let s := (s.putFunc 7 3).resetRing
        if s.ring.leaving.isSome then s else s.putFunc 7 0
    | 8 => s.restartCan
    | 9 => if s.funcState 9 = 2 then s.usbDetach.endGsp else (s.usbDetach.endGsp).putFunc 9 3
    | 10 => (s.setAvs none)
    | 11 => s.resetMeridian
    | _ => s.reinitEngine

/-- A function's work in flight goes on to its defined end, or it is disabled at once. -/
def State.stopping (s : State) (f : Nat) (busy : Bool) : State := s.putFunc f (if busy then 1 else 2)

/-- DISABLE and DISABLE_HARD by function (R491). -/
def State.disableFunction (s : State) (f : Nat) (hard : Bool) : State :=
  if s.funcState f = 2 then s
  else match functionRail f with
    | some r =>
      let s := if hard then (s.hardStop r 2).putRailObj r 0x00 3 2
               else (s.softStop r 1).putRailObj r 0x00 3 (if s.railObj r 0x00 3 = 2 then 2 else 0)
      s.stopping f (s.rails[r].stop != .none)
    | none =>
      match f with
      | 5 => (s.closeMetrology.endKinds).putFunc 5 1
      | 6 => (s.putFunc 6 1).forceFlush
      | 7 =>
        let s := s.leaveRing 3
        s.stopping 7 s.ring.leaving.isSome
      | 9 => s.stopping 9 (s.obj 0x2510 4 != 0)
      | _ => s.putFunc f 1

/-- ENABLE by function (R492). -/
def State.enableFunction (s : State) (f : Nat) : State :=
  let was := s.funcState f
  let s := s.putFunc f 0
  match functionRail f with
  | some r =>
    if was = 1 ∧ s.rails[r].stop = .soft ∧ s.enableRule r = none then s.enable r else s
  | none =>
    match f with
    | 6 => s.startErase.startWrite
    | 7 => s.joinRing
    | 8 => s.pumpEmcy
    | 9 => s.usbAttach
    | 12 => s.startEngine
    | _ => s

/-- A command to a function accepted (R490). -/
def State.functionCommand (s : State) (f op : Nat) : State :=
  let s := (s.setLife { s.life with command := some f }).bump 0x2110 0x11
  let s := if op = 1 then s.reinitFunction f
           else if op = 4 then s.enableFunction f
           else s.disableFunction f (op == 3)
  s.raise dvFuncCommand (evData [evU 1 f, evU 1 op])

/-- The staging entries present at a disable are written (R542). -/
def State.recorderStopped (s : State) : State :=
  let s := State.flushNow flushBudget s
  if s.recorder.staging.isEmpty && s.recorder.writing.isNone then s.putFunc 6 2 else s

/-- The defined end of a disable (R492). -/
def State.functionEnds (s : State) (f : Nat) : State :=
  match functionRail f with
  | some r => if s.rails[r].stop = .none then s.putFunc f 2 else s
  | none =>
    match f with
    | 6 => s.recorderStopped
    | 7 => if s.ring.leaving.isNone then s.putFunc 7 2 else s
    | 8 => (s.setCan { s.can with tx := [] }).putFunc 8 2
    | 9 => (s.usbDetach.endGsp).putFunc 9 2
    | 11 => if s.meridian.queue.isEmpty then s.putFunc 11 2 else s
    | 12 => s.haltEngine.putFunc 12 2
    | _ => s.putFunc f 2

/-- FUNCTION_STOPPED (R492), and the end of the USB port's 20 ms of detachment (R491). -/
def execFunctionStopped (fn : Fin 13) (s : State) : Host.Outcome State Fault Refusal :=
  if s.serving && s.funcState fn.val == 1 then .next (s.functionEnds fn.val)
  else if s.serving && fn == 9 && s.funcState 9 == 3 then .next (s.putFunc 9 0).usbAttach
  else .next s

/-! ### Power cycle (R143, R493) -/

/-- A refusal of a write of 2110:02 (R493). -/
def State.powerCycleRule (s : State) (ms : Nat) : Option Nat :=
  if ms < 10 ∨ 10000 < ms then some 0x06090030
  else if s.obj 0x2110 0x10 ≠ 0 ∨ s.supply.pfw = true ∨ s.supply.pwrcycN = false then some 0x08000022
  else none

/-- A power-cycle request accepted: the flush begins (R493). -/
def State.powerCycle (s : State) (ms : Nat) : State :=
  let s := (s.setSupply { s.supply with pwrcycMs := ms }).putObj 0x2110 0x10 1
  (s.raise dvPowerCycle (evData [evU 2 ms])).forceFlush

/-- After the flush and the totals copy PWRCYC_N is asserted, and the request is marked (R143). -/
def State.assertCycle (s : State) : State :=
  let s := (State.drainFifo 64 s).forceFlush
  let s := (State.flushNow flushBudget s).saveNow 3
  ((s.setLife { s.life with powerCycle := true }).setSupply { s.supply with pwrcycN := false }).putObj 0x2110 0x10 2

/-- POWER_CYCLE_ASSERT (R143). -/
def execPowerCycleAssert (s : State) : Host.Outcome State Fault Refusal :=
  if s.serving && s.obj 0x2110 0x10 == 1 then .next s.assertCycle else .next s

/-- POWER_CYCLE_RELEASE (R104): where VBUS kept the device running, the request is complete (R143). -/
def execPowerCycleRelease (s : State) : Host.Outcome State Fault Refusal :=
  if s.supply.pwrcycN then .next s
  else
    let t := (s.setSupply { s.supply with pwrcycN := true })
    .next (if s.obj 0x2110 0x10 = 2 then
      (t.setLife { t.life with powerCycle := false }).putObj 0x2110 0x10 0 else t)

/-! ### Queued Graticule actions (R179) -/

/-- A SYNC frame is due to be produced (R71): its counter runs from 1 to 1019. -/
def State.produceSync (s : State) : State :=
  let top := s.nat 0x1019 0
  let n := if top = 0 then 0 else s.can.syncOut % top + 1
  (s.setCan { s.can with syncOut := n, tx := s.can.tx ++ [.sync (if top = 0 then none else some n)] })

/-- A target from the Graticule (R285, R290). -/
def State.applyGraticule (s : State) (r : RailId) : State :=
  if s.railObj r 0x10 2 = 3 then
    let s := s.putRailObj r 0x10 0x12 0
    (s.modRail r fun a => { a with profile := false, holding := false }).retarget r (s.railObj r 0x10 3)
  else s.bump (railIx r 0x40) 5

/-- A queued action is taken, in the state of the moment (R172, R181). -/
def State.graticuleAction (s : State) : State :=
  match s.meridian.queue with
  | [] => s
  | (n, v) :: rest =>
    let s := (s.setMeridian { s.meridian with queue := rest })
    let e := entryOf v
    match e.action with
    | 6 => if s.obj 0x1006 0 = 0 ∧ s.syncAllowed = true then s.produceSync else s
    | 7 => if s.railActions then s.applyGraticule (Fin.ofNat 5 e.target) else s
    | 8 => s.raise dvGratMark (evData [evU 1 n, evU 2 e.argument])
    | _ => s

/-- GRATICULE_SUPERVISOR_ACTION (R179). -/
def execGraticuleSupervisorAction (s : State) : Host.Outcome State Fault Refusal :=
  if s.serving then .next s.graticuleAction else .next s

end Sys2Proof.Machine
end

