-- ==== Sys2Proof/Machine/Operands.lean ====
section
/-! DEFINITION. The forms a command's operands take: values as bytes (R9, R611), action objects with their tag and
argument (R81), PDO mapping entries (R67), SDO frames (R62) and GSP frames (R547–R551). -/

namespace Sys2Proof.Machine

/-! ### Values -/

/-- What a write comes to: done, refused with an abort code, or answered when an operation it began is complete. -/
inductive WriteResult where
  | done
  | abort (code : Nat)
  | deferred
  deriving DecidableEq, Repr

/-- A refusal or success as a result. -/
def WriteResult.ofRule (r : Option Nat) : WriteResult := match r with | some c => .abort c | none => .done

/-- The abort code of a result. -/
def WriteResult.code (r : WriteResult) : Option Nat := match r with | .abort c => some c | _ => none

/-- Whether a type is signed. -/
def ObjType.signed (t : ObjType) : Bool := match t with | .i16 => true | .i32 => true | _ => false

/-- The number a value's bytes give under its type. -/
def ObjType.value (t : ObjType) (l : List Byte) : Int := if t.signed then leSigned l else leNat l

/-- The bytes of a number under a type. -/
def ObjType.bytes (t : ObjType) (v : Int) : List Byte := leInt t.size v

/-- A value is in the listed range of an object (R44). -/
def ObjRow.admits (r : ObjRow) (v : Int) : Bool := decide (r.lo ≤ v ∧ v ≤ r.hi) || r.extra.contains v

/-- The refusal of a value by its length (R611). -/
def ObjRow.lengthRule (r : ObjRow) (data : List Byte) : Option Nat :=
  match r.ty with
  | .dom => if decide (r.lo ≤ data.length) && decide ((data.length : Int) ≤ r.hi) then none else some 0x06070010
  | .str => none
  | t => if data.length ≠ t.size then some 0x06070010 else none

/-- The refusal of a value by its range (R44); of a string, by its number of characters (R611). -/
def ObjRow.rangeRule (r : ObjRow) (data : List Byte) : Option Nat :=
  match r.ty with
  | .dom => none
  | .str => if decide (r.lo ≤ data.length) && decide ((data.length : Int) ≤ r.hi) then none else some 0x06090030
  | t => if r.admits (t.value data) then none else some 0x06090030

/-! ### Action objects (R81–R84) -/

/-- The action objects. -/
def isAction (ix sub : Nat) : Bool :=
  (ix == 0x2020 && (sub == 1 || sub == 5)) || (ix == 0x2028 && sub == 0x42) || (ix == 0x2030 && sub == 2)
    || (ix == 0x2040 && (sub == 9 || sub == 0x0A)) || (ix == 0x2110 && (sub == 1 || sub == 2))
    || (ix == 0x2128 && sub == 5) || (ix == 0x2300 && (sub == 2 || sub == 3 || sub == 4)) || (ix == 0x2320 && sub == 2)
    || (ix == 0x2340 && sub == 1) || (ix == 0x2600 && sub == 1) || (ix == 0x2630 && sub == 5)
    || (Nat.ble 0x3000 ix && Nat.blt ix 0x3500 && ((ix % 256 == 0x10 && sub == 9) || (ix % 256 == 0x60 && sub == 3)))
    || (Nat.ble 0x3810 ix && Nat.blt ix 0x3820 && sub == 0x0E)
    || (Nat.ble 0x3820 ix && Nat.blt ix 0x3840 && sub == 2) || (Nat.ble 0x3850 ix && Nat.blt ix 0x3860 && sub == 2)
    || (ix == 0x5000 && sub == 0x1B) || (ix == 0x5068 && sub == 0x11) || (ix == 0x5070 && (sub == 1 || sub == 2))
    || (ix == 0x5800 && sub == 1)

/-- The tag of a value written to an action object. -/
def tagOf (v : Nat) : Nat := v % 65536

/-- The action argument. -/
def argOf (v : Nat) : Nat := v / 65536 % 65536

/-- The bytes of a tag and an argument. -/
def actionBytes (tag arg : Nat) : List Byte := leBytes 4 (tag + 65536 * arg)

/-! ### PDO mapping (R65–R67) -/

/-- A mapping entry: the object it names and its length in bytes. -/
structure MapEntry where
  ix : Nat
  sub : Nat
  size : Nat
  deriving DecidableEq, Repr

/-- The entry a mapping value holds. -/
def mapEntry (v : Nat) : MapEntry := ⟨v / 65536 % 65536, v / 256 % 256, v % 256 / 8⟩

/-- The entries of a PDO mapping record. -/
def State.mapping (s : State) (ix : Nat) : List MapEntry :=
  (List.range (s.nat ix 0)).map fun (i : Nat) => mapEntry (s.nat ix (i + 1))

/-- The data of a PDO cut into the values of its entries. -/
def cutValues (l : List MapEntry) (data : List Byte) : List (MapEntry × List Byte) :=
  match l with
  | [] => []
  | e :: rest => (e, data.take e.size) :: cutValues rest (data.drop e.size)

/-! ### SDO frames (R62) -/

/-- Byte `i` of a frame. -/
def byteAt (l : List Byte) (i : Nat) : Nat := ((l[i]?).getD 0).toNat

/-- The index and sub-index an SDO initiate or abort frame names. -/
def sdoPlace (l : List Byte) : Nat × Nat := (byteAt l 1 + 256 * byteAt l 2, byteAt l 3)

/-- The client command specifier. -/
def sdoCommand (l : List Byte) : Nat := byteAt l 0 / 32

/-- The toggle bit of a segment. -/
def sdoToggle (l : List Byte) : Bool := (byteAt l 0).testBit 4

/-- The last segment of a write. -/
def sdoLast (l : List Byte) : Bool := (byteAt l 0).testBit 0

/-- The data bytes of a download segment. -/
def sdoSegment (l : List Byte) : List Byte := slice l 1 (7 - byteAt l 0 / 2 % 8)

/-- The data of an expedited download: the bytes indicated, else as many as the type has. -/
def sdoExpedited (l : List Byte) : List Byte :=
  if (byteAt l 0).testBit 0 then slice l 4 (4 - byteAt l 0 / 4 % 4)
  else match findRow (sdoPlace l).1 (sdoPlace l).2 with
    | some r => slice l 4 (if r.ty.numeric then min 4 r.ty.size else 4)
    | none => slice l 4 4

/-- The initiate answer of a write. -/
def sdoWriteAnswer (ix sub : Nat) : List Byte := 0x60 :: leBytes 2 ix ++ leBytes 1 sub ++ leBytes 4 0

/-- The segment answer of a write. -/
def sdoSegmentAnswer (toggle : Bool) : List Byte := leBytes 8 (if toggle then 0x30 else 0x20)

/-- The initiate answer of a read: expedited up to 4 bytes, else with the size. -/
def sdoReadAnswer (ix sub : Nat) (data : List Byte) : List Byte :=
  if 1 ≤ data.length ∧ data.length ≤ 4 then
    leBytes 1 (0x43 + 4 * (4 - data.length)) ++ leBytes 2 ix ++ leBytes 1 sub ++ (data ++ leBytes 4 0).take 4
  else leBytes 1 0x41 ++ leBytes 2 ix ++ leBytes 1 sub ++ leBytes 4 data.length

/-- The segment answer of a read. -/
def sdoReadSegment (toggle last : Bool) (data : List Byte) : List Byte :=
  leBytes 1 (16 * natOf toggle + 2 * (7 - data.length) + natOf last) ++ (data ++ leBytes 7 0).take 7

/-! ### GSP frames (R547–R551) -/

/-- A decoded GSP frame whose CRC matches. -/
structure GspFrame where
  version : Nat
  seq : Nat
  type : Nat
  ix : Nat
  sub : Nat
  length : Nat
  payload : List Byte
  crc : Nat
  deriving DecidableEq, Repr

/-- The frame that decoded bytes give; none where they are discarded: too short, too long, or a CRC mismatch (R549). -/
def gspParse (l : List Byte) : Option GspFrame :=
  if l.length < 11 ∨ 523 < l.length then none
  else
    let body := l.take (l.length - 2)
    let crc := leNat (l.drop (l.length - 2))
    if crc16 body ≠ crc then none
    else some ⟨byteAt l 0, byteAt l 1 + 256 * byteAt l 2, byteAt l 3, byteAt l 4 + 256 * byteAt l 5, byteAt l 6,
      byteAt l 7 + 256 * byteAt l 8, body.drop 9, crc⟩

/-- LAST and OFFSET of a block segment's header, and its data (R555). -/
def GspFrame.segment (f : GspFrame) : Bool × Nat × List Byte :=
  ((byteAt f.payload 0).testBit 0, leNat (slice f.payload 4 4), f.payload.drop 8)

/-- The payload has the form its type asks for (R549, R555). -/
def GspFrame.fits (f : GspFrame) : Bool :=
  f.length == f.payload.length && Nat.ble f.length 512 &&
  match f.type with
  | 1 => f.length == 0
  | 3 => f.length == 8 && (f.payload.take 4).all (· == 0)
  | 4 => Nat.ble 8 f.length && Nat.blt (byteAt f.payload 0) 2 && (slice f.payload 1 3).all (· == 0)
  | 5 => f.length == 1 && Nat.ble (byteAt f.payload 0) 5 && f.ix == 0 && f.sub == 0
  | 6 => f.length == 0 && f.ix == 0 && f.sub == 0
  | 7 => f.length == 0 && f.ix == 0 && f.sub == 0
  | _ => true

/-- The NAK reason of a protocol error (R551). -/
def GspFrame.error (f : GspFrame) : Option Nat :=
  if f.version ≠ 1 then some 1
  else if f.type < 1 ∨ 7 < f.type then some 2
  else if !f.fits then some 3
  else none

/-- The request of a frame. -/
def GspFrame.request (f : GspFrame) : GspRequest :=
  ⟨f.seq, f.type, f.ix, f.sub, f.crc, if f.type = 3 ∨ f.type = 4 then f.segment.2.1 else 0, f.segment.1⟩

end Sys2Proof.Machine
end

