-- ==== Sys2Proof/Machine/Access.lean ====
section
/-! DEFINITION. Sessions and keys (R561–R566), the access map (R567–R570), the lifecycle (R571–R575), the firmware banks
(R576–R582) and the USB port (R543–R546, R560). -/

namespace Sys2Proof.Machine

/-! ### Sessions -/

/-- Sessions are admitted (R561). -/
def State.sessionsAdmitted (s : State) : Bool := s.lifecycle == 2 || s.lifecycle == 3

/-- The key of a level, where it is present. -/
def State.levelKey (s : State) (level : Nat) : Option (List Byte) :=
  if level = 2 then s.flash.technicianKey else if level = 3 then s.flash.oemKey else none

/-- A refusal of a challenge (R561, R563, R564). RPDOs are no client channel. -/
def State.challengeRule (s : State) (ch : Channel) (level : Nat) : Option Nat :=
  if level ≠ 2 ∧ level ≠ 3 then some 0x06090030
  else if !s.sessionsAdmitted || (s.client ch).locked || (s.levelKey level).isNone || ch == .rpdo then some 0x08000022
  else none

/-- A challenge (R563): an open session ends, and a nonce is drawn with the key of now. -/
def State.challenge (s : State) (ch : Channel) (level : Nat) : State :=
  let s := s.endSession ch 0
  let n := (Config.nonce s.clients.draws).toNat
  let key := (s.levelKey level).getD []
  let s := (s.setClients { s.clients with draws := s.clients.draws + 1 })
  s.modClient ch fun c => { c with nonce := some (n, level), challengeKey := key }

/-- The message of a response: nonce, level and serial number (R563). -/
def sessionMessage (nonce level serial : Nat) : List Byte := leBytes 16 nonce ++ leBytes 1 level ++ leBytes 8 serial

/-- The response that matches a nonce (R563). -/
def matchingM (key : List Byte) (nonce level : Nat) : List Byte :=
  (hmacSha256 key (sessionMessage nonce level Config.serialNumber.toNat)).take 16

/-- The level of a challenge. -/
def sessionLevel (level : Nat) : Level := if level = 3 then .oem else .technician

/-- 2020:07 one higher; past 255 it is free (log 4). -/
def failuresNext (n : Nat) : Nat := if n < 255 then n + 1 else (Config.counterPast (objKey 0x2020 7)).toNat % 256

/-- A response that does not match (R564). -/
def State.failSession (s : State) (ch : Channel) (level : Nat) : State :=
  let n := failuresNext (s.client ch).failures
  let s := s.modClient ch fun c => { c with nonce := none, failures := n, locked := c.locked || Nat.ble 5 n }
  s.raise rcSessionFail (evData [evU 1 level, evU 1 (channelCode ch), evU 1 n])

/-- A response that matches (R563). -/
def State.openSession (s : State) (ch : Channel) (level : Nat) (m : List Byte) : State :=
  let s := s.modClient ch fun c => { c with nonce := none, failures := 0, session := some (sessionLevel level),
                                            acceptedM := m, idle := 300000 }
  s.raise rcSessionOpen (evData [evU 1 level, evU 1 (channelCode ch)])

/-- 2020:03 (R563, R564). -/
def State.takeResponse (s : State) (ch : Channel) (m : List Byte) : State × WriteResult :=
  let c := s.client ch
  if c.session.isSome && c.acceptedM == m then (s, .done)
  else match c.nonce with
    | none => (s, .abort 0x08000022)
    | some (n, level) =>
      if matchingM c.challengeKey n level = m then (s.openSession ch level m, .done)
      else (s.failSession ch level, .abort 0x06010000)

/-- A request accepted on a channel restarts its idle time (R565). -/
def State.touch (s : State) (ch : Channel) : State :=
  if (s.client ch).session.isSome then s.modClient ch fun c => { c with idle := 300000 } else s

/-- NONCE_EXPIRY (R563). -/
def execNonceExpiry (ch : Channel) (s : State) : Host.Outcome State Fault Refusal :=
  .next (s.modClient ch fun c => { c with nonce := none })

/-- SESSION_IDLE_TIMEOUT (R565). -/
def execSessionIdleTimeout (ch : Channel) (s : State) : Host.Outcome State Fault Refusal := .next (s.endSession ch 1)

/-- SESSION_LOCKOUT_EXPIRY (R564). -/
def execSessionLockoutExpiry (ch : Channel) (s : State) : Host.Outcome State Fault Refusal :=
  .next (s.modClient ch fun c => { c with locked := false })

/-! ### Keys (R566) -/

/-- A refusal of a key. -/
def State.keyRule (s : State) (key : List Byte) : Option Nat :=
  if s.lifecycle = 0 ∨ s.lifecycle = 4 ∨ s.flash.keyOp.isSome = true then some 0x08000022
  else if key.all (· == 0) then some 0x06090030
  else none

/-- A key begins to be stored. -/
def State.writeKey (s : State) (ch : Channel) (oem : Bool) (key : List Byte) : State :=
  (s.setFlash { s.flash with keyOp := some ⟨ch, oem, key⟩ })

/-- The key is stored, and applies from the next challenge. -/
def State.keyStored (s : State) : State :=
  match s.flash.keyOp with
  | none => s
  | some op =>
    (s.setFlash { s.flash with
      keyOp := none, technicianKey := if op.oem then s.flash.technicianKey else some op.key,
      oemKey := if op.oem then some op.key else s.flash.oemKey }).startSave.startWrite

/-- KEY_STORE_COMPLETE (R566): not while a power-fail warning suspends it (R121). -/
def execKeyStoreComplete (s : State) : Host.Outcome State Fault Refusal :=
  if s.supply.pfw then .next s else .next s.keyStored

/-! ### Access map (R567–R570) -/

/-- The shadow entries. -/
def State.shadowMap (s : State) : List Nat := (List.range 64).map fun (i : Nat) => s.nat 0x2028 (2 + i)

/-- The objects no entry may name. -/
def mapProtected (ix : Nat) : Bool :=
  ix == 0x2020 || ix == 0x2028 || ix == 0x2030 || ix == 0x2040
    || (Nat.ble 0x3000 ix && Nat.blt ix 0x3500 && ix % 256 == 2)

/-- An object that may be written. -/
def writable (ix sub : Nat) : Bool :=
  match findRow ix sub with | some r => r.acc == .rw || r.acc == .wo | none => false

/-- An entry names an object that may be written; with SUB 0xFF, some sub-index of it. -/
def namesWritable (ix sub : Nat) : Bool := if sub = 0xFF then (List.range 255).any (writable ix) else writable ix sub

/-- A used entry is valid (R569). -/
def mapEntryValid (e : Nat) : Bool :=
  e / 2 ^ 28 == 0 && Nat.ble 1 (mapLevel e) && Nat.ble (mapLevel e) 3 && !mapProtected (e % 65536)
    && namesWritable (e % 65536) (bits e 23 16)

/-- A refusal of a commit (R569). -/
def State.mapRule (s : State) (arg : Nat) : Option Nat :=
  let used := mapUsed s.shadowMap
  if arg ≠ 1 then some 0x06090030
  else if !(used.all mapEntryValid && decide (used.map mapPlace).Nodup) then some 0x06090030
  else if s.flash.mapOp.isSome then some 0x08000022
  else none

/-- A commit begins to be written. -/
def State.commitMap (s : State) (ch : Channel) (tag : Nat) : State :=
  (s.setFlash { s.flash with mapOp := some (⟨ch, 0x2028, 0x42, tag⟩, s.shadowMap) })

/-- The committed map is stored, and takes effect at the next engine sample boundary; at once while there is none. -/
def State.mapCommitted (s : State) : State :=
  match s.flash.mapOp with
  | none => s
  | some (_, m) =>
    let s := (s.setFlash { s.flash with mapOp := none, mapStored := m, mapNext := some m })
    let s := if railIds.any s.hasBoundary then s else s.takeMap
    s.startSave.startWrite

/-- ACCESS_MAP_STORE_COMPLETE (R569). -/
def execAccessMapStoreComplete (s : State) : Host.Outcome State Fault Refusal :=
  if s.supply.pfw then .next s else .next s.mapCommitted

/-- The entry in force for an object (R568). -/
def State.mapFor (s : State) (ix sub : Nat) : Option Nat :=
  match s.flash.map.find? fun (e : Nat) => e % 65536 == ix && ix != 0 && bits e 23 16 == sub with
  | some e => some e
  | none => s.flash.map.find? fun (e : Nat) => e % 65536 == ix && ix != 0 && bits e 23 16 == 0xFF

/-- The write level of an object (R568). -/
def State.writeRank (s : State) (ix sub : Nat) : Nat :=
  match s.mapFor ix sub with
  | some e => mapLevel e
  | none => match findRow ix sub with | some r => r.lvl.rank | none => 0

/-- SERVICE_ONLY is set for an object, and the lifecycle is FIELD (R568). -/
def State.serviceOnly (s : State) (ix sub : Nat) : Bool :=
  s.lifecycle == 2 && match s.mapFor ix sub with | some e => e.testBit 27 | none => false

/-! ### Lifecycle (R571–R575) -/

/-- The level a transition asks for; none where the table has no such transition (R572). -/
def lifecycleLevel (cur goal : Nat) : Option Nat :=
  if cur = 0 ∧ goal = 1 then some 4
  else if cur = 1 ∧ goal = 2 then some 3
  else if (cur = 2 ∧ goal = 3) ∨ (cur = 3 ∧ goal = 2) then some 2
  else if cur < 4 ∧ goal = 4 then some (if cur = 0 then 4 else 3)
  else none

/-- The further condition of a transition (R572). -/
def State.lifecycleReady (s : State) (goal : Nat) : Bool :=
  if goal = 1 then s.storedCal.isSome
  else if goal = 2 ∧ s.lifecycle = 1 then
    s.flash.technicianKey.isSome && s.flash.oemKey.isSome && s.storedParams.isSome
  else true

/-- A block write, or a firmware download by any channel, is in progress. -/
def State.blockWriting (s : State) : Bool :=
  s.flash.download.isSome || match s.gsp.block with | some b => b.write | none => false

/-- A refusal of a transition (R572). -/
def State.lifecycleRule (s : State) (ch : Channel) (goal : Nat) : Option Nat :=
  if goal = 0 ∨ 4 < goal then some 0x06090030
  else if goal = s.lifecycle then none
  else if s.power ≠ 3 ∨ s.supply.pfw = true ∨ s.flash.store.isSome = true ∨ s.flash.calOp.isSome = true
      ∨ s.blockWriting = true then some 0x08000022
  else match lifecycleLevel s.lifecycle goal with
    | none => some 0x08000022
    | some l =>
      if !s.lifecycleReady goal then some 0x08000022
      else if (s.channelLevel ch).rank < l then some 0x06010000
      else none

/-- Both logs wiped; SEQ restarts at 1 (R515). -/
def State.wipeLogs (s : State) : State := (s.setRecorder { drops := s.recorder.drops })

/-- What entering RETIRED wipes (R144, R572). -/
def State.retire (s : State) : State :=
  let s := (((s.setOd (s.od.filter (fun (c : Nat × Int) => !retainedKey c.1))).setRtc {}).setRecorder {}).setEnergy {}
  let s := s.setFlash
    { s.flash with params := Vector.replicate 2 none, cal := Vector.replicate 2 none, outline := Vector.replicate 2 none,
                   technicianKey := none, oemKey := none, map := [], mapStored := [], mapNext := none,
                   service := ⟨0, [], []⟩ }
  (s.setLife { s.life with seconds := 0, millis := 0, lastWatchdog := none }).dropDomain 0x2030 5

/-- The sub-indices an entry of the map names. -/
def entrySubs (e : Nat) : List Nat :=
  if bits e 23 16 = 0xFF then (List.range 255).filter (writable (e % 65536)) else [bits e 23 16]

/-- The keys of the SERVICE_ONLY objects. -/
def State.serviceKeys (s : State) : List Nat :=
  ((mapUsed s.flash.map).filter fun (e : Nat) => e.testBit 27).flatMap fun (e : Nat) =>
    (entrySubs e).map (objKey (e % 65536))

/-- Whether a key is that of a number. -/
def numericKey (k : Nat) : Bool := match findRow (k / 256) (k % 256) with | some r => r.ty.numeric | none => false

/-- The stored bytes of a DOMAIN or string; empty where none are stored. -/
def State.storedDomain (s : State) (k : Nat) : List Byte :=
  match s.storedParams with | some c => (cellGet c.dom k).getD [] | none => []

/-- Entry into SERVICE: the stored values of the SERVICE_ONLY objects are saved (R574). -/
def State.saveService (s : State) : State :=
  let ks := s.serviceKeys
  (s.setFlash { s.flash with service :=
    ⟨0, (ks.filter numericKey).map (fun (k : Nat) => (k, s.storedObj (k / 256) (k % 256))),
     (ks.filter fun (k : Nat) => !numericKey k).map fun (k : Nat) => (k, s.storedDomain k)⟩ })

/-- A value laid into a stored copy; the COB-IDs that carry the node-ID are always listed. -/
def storedPut (od : List (Nat × Int)) (k : Nat) (v : Int) : List (Nat × Int) :=
  if cobKeys.any fun (c : Nat × Nat) => objKey c.1 c.2 == k then cellPut od k v else odPut od k v

/-- Return to FIELD: the saved values go back to the dictionary and the stored parameters (R574). -/
def State.restoreService (s : State) : State :=
  let v := s.flash.service
  let s := match s.storedParams with
    | none => s
    | some c =>
      let c : ParamCopy := { seq := c.seq + 1, od := v.od.foldl (fun l (x : Nat × Int) => storedPut l x.1 x.2) c.od,
                             dom := v.dom.foldl (fun l (x : Nat × List Byte) => cellPut l x.1 x.2) c.dom }
      let k := alternate s.flash.params fun (p : ParamCopy) => p.seq
      (s.setFlash { s.flash with params := (Vector.replicate 2 none).set k (some c) })
  (s.overlay v).setFlash { s.flash with service := ⟨0, [], []⟩ }

/-- The wipe of a transition (R572, R574). -/
def State.wipeFor (s : State) (old goal : Nat) : State :=
  if goal = 4 then s.retire
  else if goal = 1 ∨ old = 1 then s.wipeLogs
  else if goal = 3 then s.saveService.dropDomain 0x2030 5
  else s.restoreService.dropDomain 0x2030 5

/-- An accepted transition: RC_LIFECYCLE, the forced flush, the wipe, and a SOFTWARE reset (R572). -/
def State.lifecycleTo (s : State) (goal : Nat) : State :=
  let old := s.lifecycle
  if goal = old then s
  else
    let s := s.endKinds.raise rcLifecycle (evData [evU 1 old, evU 1 goal])
    let s := State.flushNow flushBudget (State.drainFifo 65 s).forceFlush
    let time := s.recordTime
    let s := (s.wipeFor old goal).putObj 0x2030 1 goal
    ((s.bump 0x2030 3).putObj 0x2030 4 time).causeReset 9

/-! ### Firmware (R576–R582) -/

/-- The active bank runs on trial (R580). -/
def State.onTrial (s : State) : Bool := s.bank (s.nat 0x2040 1) == 5

/-- A refusal of the erase of the inactive bank (R578); one erase or download at a time. -/
def State.firmwareRule (s : State) : Option Nat :=
  if s.onTrial || s.supply.pfw || s.flash.bankErase then some 0x08000022 else none

/-- The inactive bank begins to be erased. -/
def State.eraseBank (s : State) (data : List Byte) : State :=
  let b := s.otherBank
  let s := (s.putObj 0x2040 (4 + b) 0).putObj 0x2040 (6 + b) 0
  (s.setFlash { s.flash with banks := s.flash.banks.set (Fin.ofNat 2 b) data, bankErase := true,
                                   imageEnds := false, status := 0 }).putBank b 1

/-- The bytes of the inactive bank. -/
def State.bankImage (s : State) : List Byte := s.flash.banks[(Fin.ofNat 2 s.otherBank : Fin 2)]

/-- The first check of R577 that an image fails: the reason of RC_FW_IMAGE_REJECTED and the status of 1F57. -/
def State.imageFault (s : State) (img : List Byte) : Option (Nat × Nat) :=
  let size := leNat (slice img 12 4)
  let body := img.drop 128
  if img.length ≠ 128 + size ∨ 524160 < size ∨ size % 8 ≠ 0 then some (3, 2)
  else if crc32 body ≠ leNat (slice img 16 4) then some (1, 3)
  else if !(img.take 4 == [0x41, 0x48, 0x4E, 0x46]
      && ecdsaVerify (Config.vendorKeyX.toNat, Config.vendorKeyY.toNat) (img.take 64 ++ body) (beNat (slice img 64 32))
        (beNat (slice img 96 32))) then some (0, 4)
  else if leNat (slice img 8 4) < s.nat 0x2040 8 then some (2, 5)
  else none

/-- The image is whole: it is checked (R577). -/
def State.finishImage (s : State) : State × WriteResult :=
  let b := s.otherBank
  let img := s.bankImage
  let s := (s.setFlash { s.flash with download := none, imageEnds := false })
  match s.imageFault img with
  | some (reason, status) =>
    (((s.setFlash { s.flash with status := status }).putBank b 3).raise rcFwImageRejected
      (evData [evU 1 b, evU 1 reason]), .abort 0x06090030)
  | none =>
    ((((s.putBank b 2).putObj 0x2040 (4 + b) (leNat (slice img 4 4))).putObj 0x2040 (6 + b) (leNat (slice img 8 4))), .done)

/-- A piece of an image written to 1F50:01 (R577, R578). A power-fail warning suspends the programming of a further piece,
which is answered once it goes on (R121). -/
def State.downloadSegment (s : State) (ch : Channel) (data : List Byte) (first last : Bool) : State × WriteResult :=
  if first then
    if s.firmwareRule.isSome || (s.flash.download.isSome && s.flash.download != some ch) then (s, .abort 0x08000022)
    else
      let s := s.eraseBank data
      ((s.setFlash { s.flash with download := some ch, eraseFor := some ch, imageEnds := last }), .deferred)
  else if s.flash.download ≠ some ch then (s, .abort 0x08000022)
  else if s.supply.pfw then ((s.setFlash { s.flash with pieceHeld := some (data, last), eraseFor := some ch }), .deferred)
  else
    let k : Fin 2 := Fin.ofNat 2 s.otherBank
    let s := (s.setFlash { s.flash with banks := s.flash.banks.set k (s.flash.banks[k] ++ data) })
    if !last then (s, .done)
    else if s.flash.bankErase then
      ((s.setFlash { s.flash with eraseFor := some ch, imageEnds := true }), .deferred)
    else s.finishImage

/-- The erase of the inactive bank is over (R577): the first segment is answered; a bank cleared by 1F51 is EMPTY. -/
def State.bankErased (s : State) : State :=
  let ch := s.flash.eraseFor
  let ends := s.flash.imageEnds
  let s := (s.setFlash { s.flash with bankErase := false, eraseFor := none })
  if s.flash.download.isNone then (s.setFlash { s.flash with status := 1 }).putBank s.otherBank 0
  else
    let out := if ends then s.finishImage else (s, .done)
    let s := out.1
    let r := out.2
    match ch with | some ch => s.answer ch 0x1F50 1 r.code | none => s

/-- The programming that a warning suspended goes on, and its piece is answered (R124). -/
def State.resumePiece (s : State) : State :=
  match s.flash.pieceHeld, s.flash.download with
  | some piece, some ch =>
    let out := (s.setFlash { s.flash with pieceHeld := none }).downloadSegment ch piece.1 false piece.2
    match out.2 with
    | .deferred => out.1
    | r => out.1.answer ch 0x1F50 1 r.code
  | _, _ => s

/-- A refusal of a write of 1F51:01 (R578, R582). -/
def State.programRule (s : State) (v : Nat) : Option Nat :=
  if v = 0 ∨ v = 2 then some 0x08000022
  else if v = 3 ∧ s.flash.download.isSome = true then some 0x08000022
  else if v = 3 then s.firmwareRule
  else none

/-- A refusal of an activation (R579). -/
def State.activateRule (s : State) (arg : Nat) : Option Nat :=
  if arg ≠ 1 ∧ arg ≠ 2 then some 0x06090030
  else if arg - 1 = s.nat 0x2040 1 then none
  else if s.power ≠ 3 ∨ s.bank (arg - 1) ≠ 2 ∨ s.obj 0x2040 (5 + arg) < s.obj 0x2040 8 ∨ s.supply.pfw = true then
    some 0x08000022
  else none

/-- An accepted activation: a SOFTWARE reset, and the bank runs at the next bring-up (R579). -/
def State.activateBank (s : State) (arg : Nat) : State :=
  if arg - 1 = s.nat 0x2040 1 then s
  else (s.setFlash { s.flash with activateNext := some (arg - 1) }).causeReset 9

/-- The trial bank is confirmed (R580). -/
def State.confirmBank (s : State) : State :=
  if s.onTrial then
    let b := s.nat 0x2040 1
    ((s.putBank b 4).putObj 0x2040 8 (max (s.obj 0x2040 8) (s.obj 0x2040 (6 + b)))).putObj 0x2040 0x0B 0
  else s

/-- TRIAL_TIMEOUT (R580). -/
def execTrialTimeout (s : State) : Host.Outcome State Fault Refusal :=
  if s.fullService then .next s.confirmBank else .next s

/-! ### USB port (R543–R546, R560) -/

/-- The strings of the USB device descriptor: manufacturer, product, and the serial number in 16 upper-case hexadecimal
digits (R543). -/
def State.usbStrings (s : State) : List Byte × List Byte × List Byte :=
  let digit (n : Nat) : Byte := BitVec.ofNat 8 (if n < 10 then 48 + n else 55 + n)
  (([70, 111, 114, 102, 101, 121, 110] : List Byte), s.supply.usbIdentity.name,
    (List.range 16).map fun (i : Nat) => digit (Config.serialNumber.toNat / 16 ^ (15 - i) % 16))

/-- The device answers USB transactions: not while the PLL runs on the untrimmed RC reference (R24, R599, R600). -/
def State.usbAnswers (s : State) : Bool := s.clocks.ranOnCrystal || s.clocks.sofTrim

/-- USB_ADDRESS_SET (R543). -/
def execUsbAddressSet (s : State) : Host.Outcome State Fault Refusal :=
  if s.obj 0x2510 4 = 1 ∧ s.usbAnswers = true then .next (s.putObj 0x2510 4 2) else .next s

/-- The host configures the device (R562): a base-level GSP session begins. -/
def State.usbConfigure (s : State) : State :=
  let s := (s.setSupply { s.supply with usbConfigured := true })
  (s.freshGsp.putObj 0x2510 4 3).raise cmUsbAttach 0

/-- USB_CONFIGURED (R562). -/
def execUsbConfigured (s : State) : Host.Outcome State Fault Refusal :=
  if (s.obj 0x2510 4 = 1 ∨ s.obj 0x2510 4 = 2) ∧ s.usbAnswers = true then .next s.usbConfigure else .next s

/-- USB_DETACH (R545). -/
def execUsbDetach (s : State) : Host.Outcome State Fault Refusal := .next s.usbDetach

/-- USB_BUS_RESET (R509): the port is attached without an address. -/
def execUsbBusReset (s : State) : Host.Outcome State Fault Refusal :=
  if s.obj 0x2510 4 = 0 then .next s else .next (s.usbUnconfigure.putObj 0x2510 4 1)

/-- USB_SUSPEND (R546). -/
def execUsbSuspend (s : State) : Host.Outcome State Fault Refusal :=
  if s.obj 0x2510 4 = 0 ∨ s.obj 0x2510 4 = 4 then .next s
  else .next ((s.setSupply { s.supply with usbBefore := s.nat 0x2510 4 }).putObj 0x2510 4 4)

/-- USB_RESUME (R546). -/
def execUsbResume (s : State) : Host.Outcome State Fault Refusal :=
  if s.obj 0x2510 4 = 4 then .next (s.putObj 0x2510 4 s.supply.usbBefore) else .next s

/-- The host takes a frame from the bulk IN endpoint: a response first, else the oldest EVENT frame (R560). -/
def State.takeIn (s : State) : State :=
  match s.gsp.out with
  | _ :: rest => (s.setGsp { s.gsp with out := rest })
  | [] =>
    match s.gsp.events with
    | _ :: rest => (s.setGsp { s.gsp with events := rest }).bump 0x2510 0x0A
    | [] => s

/-- USB_IN_TRANSFER_COMPLETE (R560). -/
def execUsbInTransferComplete (s : State) : Host.Outcome State Fault Refusal :=
  if s.obj 0x2510 4 = 3 then .next s.takeIn else .next s

end Sys2Proof.Machine
end

