-- ==== Sys2Proof/Machine/LogOps.lean ====
section
/-! DEFINITION. What the recorder does at the ends of its flash work, log reads, log erases, the external log memory
(chapter 16), the RTC (R72, R73, R539–R541), and the stores of parameters and calibration (R77–R80, R418). -/

namespace Sys2Proof.Machine

/-! ### Staging and the internal log -/

/-- STAGING_ENTRY_ELIGIBLE (R518): the entry has waited 10 ms. -/
def execStagingEntryEligible (seq : BitVec 32) (s : State) : Host.Outcome State Fault Refusal :=
  .next ((s.setRecorder { s.recorder with staging := s.recorder.staging.map fun (e : Staged) =>
    if e.record.seq = seq.toNat then { e with eligible := true } else e }) : State).startWrite

/-- FLASH_GRANULE_COMPLETE (R520): the flash goes on with what waits for it. -/
def execFlashGranuleComplete (s : State) : Host.Outcome State Fault Refusal :=
  if s.recorder.writing.isSome then .next s.granuleDone.startSave else .next s.startWrite

/-- LOG_SECTOR_ERASE_COMPLETE (R524): not while a warning suspends the erase (R525). -/
def execLogSectorEraseComplete (s : State) : Host.Outcome State Fault Refusal :=
  if s.recorder.erasing && !s.supply.pfw then .next s.sectorErased.startSave else .next s

/-! ### Log erase (R534) -/

/-- A refusal of a write of 5800:01. -/
def State.logEraseRule (s : State) (arg : Nat) : Option Nat :=
  if arg = 0 ∨ 3 < arg then some 0x06090030
  else if (s.power ≠ 2 ∧ s.power ≠ 3) ∨ s.funcState 6 ≠ 0 ∨ s.recorder.hostErase.isSome = true then some 0x08000022
  else none

/-- RC_LOG_ERASED taken from the FIFO with its SEQ at once, held for the end of the erase. -/
def State.holdErased (s : State) : State × Option Record :=
  match s.fabric.fifo.getLast? with
  | none => (s, none)
  | some o =>
    let s := (s.setFabric { s.fabric with fifo := s.fabric.fifo.dropLast }).putObj 0x2320 3
      (s.fabric.fifo.length - 1 : Nat)
    let s := s.bump 0x2320 (6 + severityOf o.ev)
    let s := if o.secondary then s.bump 0x2320 0x0C else s
    let seq := s.recorder.seq + 1
    let keeps := s.recording
    let s := if keeps then (s.setRecorder { s.recorder with seq := seq }) else s
    let s := if 2 ≤ o.resp then (s.pushHistory (o.ev * 65536 + o.emcy)).queueEmcy (s.emcyFrame o (seq % 65536)) else s
    (s, if keeps then some (s.newRecord o seq) else none)

/-- What has been raised so far is taken from the FIFO and flushed. -/
def State.flushRaised (s : State) : State := State.flushNow flushBudget (State.drainFifo 64 s).forceFlush

/-- 5800:01: staging is flushed, and what the flush itself has raised; RC_LOG_ERASED takes its SEQ, and the erase begins
(R534). -/
def State.eraseLog (s : State) (arg : Nat) : State :=
  let s := s.flushRaised.flushRaised
  let out := (s.raise rcLogErased (evData [evU 1 ((arg : Int) - 1)])).holdErased
  let s := out.1
  let held := out.2
  (s.setRecorder { s.recorder with
    hostErase := some ⟨arg - 1, arg.testBit 0, arg.testBit 1, held⟩ })

/-- The internal log reads erased. -/
def State.emptyLog (s : State) : State :=
  ((s.setRecorder { s.recorder with log := [], pos := 0, wrapped := false, eraseSector := none, erasing := false,
                                          interrupted := none }) : State).bumpBy 0x5800 0x10 24

/-- The external log reads erased; what waited for it belonged to it. -/
def State.emptyExt (s : State) : State :=
  let n := (s.extSlots + 127) / 128
  (((s.setRecorder { s.recorder with extLog := [], extPos := 0, extErasing := false, extWaiting := [] }) :
    State).bumpBy 0x2520 1 (2 * n)).bumpBy 0x2520 4 n

/-- RC_LOG_ERASED is written as the first record, or waits for the sector under erase. -/
def State.writeErased (s : State) (rec : Record) : State :=
  let r := s.recorder
  if r.eraseSector.isNone && r.writing.isNone && (cellGet r.log r.pos).isNone then s.recordWritten rec
  else (s.setRecorder { r with staging := ⟨rec, s.life.up, true, false, false⟩ :: r.staging })

/-- The last sector of a log erase is erased (R534). -/
def State.logErased (s : State) : State :=
  match s.recorder.hostErase with
  | none => s
  | some h =>
    let s := if h.internal then s.emptyLog else s
    let s := if h.external && s.obj 0x5830 2 == 1 then s.emptyExt else s
    let s := (s.setRecorder { s.recorder with hostErase := none })
    let s := match h.record with | some r => s.writeErased r | none => s
    s.startErase.startWrite

/-- LOG_ERASE_COMPLETE (R534): an open log read holds the erase. -/
def execLogEraseComplete (s : State) : Host.Outcome State Fault Refusal :=
  if s.recorder.readers.isEmpty && !s.supply.pfw then .next s.logErased else .next s

/-! ### Reading the log (R529–R533) -/

/-- Data read by a channel; a log read that is not empty stays open until its last segment (R532). -/
def State.openRead (s : State) (ch : Channel) (data : List Byte) : State :=
  let s := (s.setClients { s.clients with readData := data }).touch ch
  if data.isEmpty then s else s.startRead ch

/-- LOG_READ_FROM_CURSOR (R529). -/
def execLogReadFromCursor (ch : Channel) (s : State) : Host.Outcome State Fault Refusal :=
  if s.serving then .next (s.openRead ch (s.recordsFrom (s.client ch).cursor)) else .next s

/-- LOG_READ_AT_CURSOR (R530). -/
def execLogReadAtCursor (ch : Channel) (s : State) : Host.Outcome State Fault Refusal :=
  if s.serving then
    .next ((s.setClients { s.clients with readData := s.recordAt (s.client ch).cursor }).touch ch)
  else .next s

/-- LOG_SNAPSHOT_READ (R531). -/
def execLogSnapshotRead (ch : Channel) (s : State) : Host.Outcome State Fault Refusal :=
  if s.serving then .next (s.openRead ch s.snapshot) else .next s

/-- A transfer that reads a log object. -/
def logRead (ix sub : Nat) : Bool := ix == 0x5810 && (sub == 5 || sub == 6)

/-- The open transfer of a channel is aborted (R532). -/
def State.abortRead (s : State) (ch : Channel) : State :=
  match ch with
  | .sdo =>
    match s.can.transfer with
    | .upload ix sub _ _ =>
      if logRead ix sub then
        (s.setCan { s.can with transfer := .none }).sendCan (.sdo (sdoAbort ix sub 0x08000022))
      else s
    | _ => s
  | .usdo n =>
    match cellGet s.can.usdo n.toNat with
    | some (.upload ix sub _ _) =>
      if logRead ix sub then
        (s.setCan { s.can with usdo := cellDrop s.can.usdo n.toNat }).sendCan
          (.usdo n.toNat ix sub (some 0x08000022) [])
      else s
    | _ => s
  | .gsp =>
    match s.gsp.block with
    | some b => if logRead b.ix b.sub then (s.setGsp { s.gsp with block := none, aborted := some 0x08000022 }) else s
    | none => s
  | .rpdo => s

/-- READ_DEFERRAL_TIMEOUT (R532): the oldest open read has lasted 10 s. -/
def execReadDeferralTimeout (s : State) : Host.Outcome State Fault Refusal :=
  match s.recorder.readers with
  | [] => .next s
  | ch :: _ => .next (((s.abortRead ch).bump 0x5810 7).endDeferral ch)

/-! ### External log memory (R535–R538) -/

/-- The memory's commands for one record: write enable, page program and status twice, a read-back, and the further
status polls, whose number the manual leaves open (log 10). -/
def State.writeCommands (s : State) : Nat := 7 + ((s.unstated 18) % 65536).toNat

/-- The external slot takes a record, or is skipped (R536). -/
def State.extWritten (s : State) (rec : Record) (ok : Bool) : State :=
  let r := s.recorder
  let slot : LogSlot := if ok then .record rec else .spoilt none
  let s := (s.setRecorder { r with extWaiting := r.extWaiting.drop 1, extLog := cellPut r.extLog r.extPos slot })
  let s := if ok then s
    else (s.bump 0x2520 2).raise cmSpiWriteFail (evData [evU 4 ((32 * r.extPos : Nat) : Int)])
  s.extAdvance

/-- EXTERNAL_LOG_WRITE_COMPLETE (R536). -/
def execExternalLogWriteComplete (readBackOk : Bool) (status : Byte) (s : State) : Host.Outcome State Fault Refusal :=
  match s.recorder.extWaiting with
  | [] => .next s
  | rec :: _ =>
    if s.obj 0x5830 2 = 1 ∧ s.recorder.extErasing = false then
      .next (((s.bumpBy 0x2520 1 s.writeCommands).tick.putObj 0x2520 3 status.toNat).extWritten rec readBackOk)
    else .next s

/-- EXTERNAL_SECTOR_ERASE_COMPLETE (R538). -/
def execExternalSectorEraseComplete (ms : BitVec 16) (s : State) : Host.Outcome State Fault Refusal :=
  if s.recorder.extErasing then
    let r := s.recorder
    let s := (s.setRecorder { r with extErasing := false, extLog := eraseSlots r.extLog (r.extPos / 128) })
    .next ((s.bump 0x2520 4).putObj 0x2520 5 ms.toNat)
  else .next s

/-! ### Calendar time (R72, R73, R539–R541) -/

/-- The RTC is set; RC_TIME_STEP for a first setting and for a change of more than 10 ms. Source 0 TIME, 1 GSP. -/
def State.setTime (s : State) (ms source : Nat) : State :=
  let was := s.recordTime
  let valid := s.rtc.valid
  let gap := if s.rtc.ms ≤ ms then ms - s.rtc.ms else s.rtc.ms - ms
  let s := (s.setRtc { s.rtc with ms := ms, frac := 0, valid := true })
  if valid && Nat.ble gap 10 then s
  else (s.bump 0x5820 5).raise rcTimeStep (evData [evU 6 was, evU 1 source, evU 1 (natOf valid : Int)])

/-- 10 000 000 of the trim accumulator, which counts thousandths here. -/
def trimFull : Nat := 10000000000

/-- RTC_TRIM_STEP (R541): one cycle of 1/32 768 s more, or one fewer. -/
def execRtcTrimStep (s : State) : Host.Outcome State Fault Refusal :=
  let v := s.obj 0x5820 3
  if v = 0 ∨ s.clocks.lse = false then .next s
  else
    let total := s.rtc.frac + (if 0 < v then 1000 else -1000)
    let carry := decide (32768 ≤ total)
    .next (s.setRtc { s.rtc with trimAcc := s.rtc.trimAcc - trimFull,
                                       frac := if carry then total - 32768 else total,
                                       ms := if carry then s.rtc.ms + 1 else s.rtc.ms })

/-- The RTC domain has a supply. -/
def State.rtcSupplied (s : State) : Bool := s.life.st != .unpowered || s.supply.vbat

/-- LSE_START (R540). -/
def execLseStart (s : State) : Host.Outcome State Fault Refusal :=
  if s.rtcSupplied then .next (s.setClocks { s.clocks with lse := true }) else .next s

/-- LSE_STOP_TIMEOUT (R540): time is not valid. -/
def execLseStopTimeout (s : State) : Host.Outcome State Fault Refusal :=
  .next ((s.setClocks { s.clocks with lse := false }).setRtc { s.rtc with valid := false })

/-! ### Stored parameters (R77–R80) -/

/-- A store is not possible now (R79): a warning, or a store under way. -/
def State.storeRule (s : State) (v signature : Nat) : Option Nat :=
  if v ≠ signature ∨ s.supply.pfw = true ∨ s.flash.store.isSome = true then some 0x08000020 else none

/-- The area of an object: 2 for 1000–1FFF and 2008, else 3 (R77). -/
def areaOf (ix : Nat) : Nat := if (0x1000 ≤ ix ∧ ix < 0x2000) ∨ ix = 0x2008 then 2 else 3

/-- An index whose objects are never stored with the parameters (R77), or have no value of their own. -/
def neverStored (ix : Nat) : Bool :=
  ix == 0x2020 || ix == 0x2028 || ix == 0x2030 || ix == 0x2040 || ix == 0x2110 || ix == 0x1003 || ix == 0x1010
    || ix == 0x1011 || (Nat.ble 0x1F50 ix && Nat.ble ix 0x1F5F) || (Nat.ble 0x5010 ix && Nat.ble ix 0x5020)
    || ix == 0x2340

/-- A volatile object. -/
def isVolatile (ix sub : Nat) : Bool :=
  (Nat.ble 0x3000 ix && Nat.blt ix 0x3500 && ix % 256 == 0 && sub == 3) || (ix == 0x2100 && sub == 1)
    || (Nat.ble 0x4000 ix && Nat.blt ix 0x40C0 && ix % 16 == 4 && sub == 1) || (ix == 0x5810 && sub == 1)
    || (ix == 0x4110 && (sub == 0x0B || sub == 0x0C)) || (ix == 0x5820 && sub == 1)

/-- An active Contour or Relief table (R336). -/
def activeTable (ix sub : Nat) : Bool :=
  sub == 3 && ((Nat.ble 0x3820 ix && Nat.blt ix 0x3840) || (Nat.ble 0x3850 ix && Nat.blt ix 0x3860))

/-- The object at a key is stored with the parameters of an area (R77); area 1 is areas 2 and 3. -/
def storable (area k : Nat) : Bool :=
  let ix := k / 256
  let sub := k % 256
  (area == 1 || areaOf ix == area) && !neverStored ix && !isVolatile ix sub && !isAction ix sub
    && (activeTable ix sub || match findRow ix sub with | some r => r.acc == .rw | none => false)

/-- The cells of two lists, those of the first prevailing. -/
def mergeCells {α : Type} (a b : List (Nat × α)) : List (Nat × α) :=
  a.foldl (fun (l : List (Nat × α)) (c : Nat × α) => cellPut l c.1 c.2) b

/-- The copy a store or a restore writes: the area as it is now, or at its defaults, and the rest as stored. -/
def State.nextCopy (s : State) (area : Nat) (restore : Bool) : ParamCopy :=
  let old : ParamCopy := s.storedParams.getD ⟨0, [], []⟩
  let restOd := old.od.filter fun (c : Nat × Int) => !storable area c.1
  let restDom := old.dom.filter fun (c : Nat × List Byte) => !storable area c.1
  if restore then ⟨old.seq + 1, restOd, restDom⟩
  else
    let od := mergeCells (s.od.filter fun (c : Nat × Int) => storable area c.1) restOd
    let cobs := (cobKeys.map fun (k : Nat × Nat) => objKey k.1 k.2).filter (storable area)
    ⟨old.seq + 1, cobs.foldl (fun (l : List (Nat × Int)) (k : Nat) => cellPut l k (odGet s.od k)) od,
      mergeCells (s.dom.filter fun (c : Nat × List Byte) => storable area c.1) restDom⟩

/-- A store or restore begins in the copy that is not active (R78, R80). -/
def State.startStore (s : State) (ch : Option Channel) (area : Nat) (restore : Bool) : State :=
  let k := alternate s.flash.params fun (p : ParamCopy) => p.seq
  (s.setFlash { s.flash with store := some ⟨ch, area, restore, s.nextCopy area restore⟩,
                                   params := s.flash.params.set k none })

/-- The new copy stands alone, and the write is answered (R78, R80). -/
def State.storeDone (s : State) (op : StoreOp) : State :=
  let k := alternate s.flash.params fun (p : ParamCopy) => p.seq
  let s := (s.setFlash { s.flash with store := none, params := (Vector.replicate 2 none).set k (some op.copy) })
  let s := if op.restore then s else s.raise rcParamStored (evData [evU 1 op.area, evU 4 op.copy.seq])
  let s := match op.ch with
    | some ch => s.answer ch (if op.restore then 0x1011 else 0x1010) op.area none
    | none => s
  s.startSave.startWrite

/-- The store under way ends, if it is of the kind. -/
def State.endStore (s : State) (restore : Bool) : State :=
  match s.flash.store with
  | none => s
  | some op => if op.restore = restore then s.storeDone op else s

/-! ### Stored calibration (R418) -/

/-- A refusal of a write of 5000:1B. -/
def State.calibrationRule (s : State) (arg : Nat) : Option Nat :=
  if arg ≠ 1 then some 0x06090030
  else if s.supply.pfw = true ∨ s.flash.calOp.isSome = true then some 0x08000022
  else none

/-- The calibration as the dictionary has it. -/
def State.calibrationNow (s : State) : ParamCopy :=
  ⟨(match s.storedCal with | some c => c.seq | none => 0) + 1,
   s.od.filter fun (c : Nat × Int) => (Nat.ble 0x5010 (c.1 / 256) && Nat.ble (c.1 / 256) 0x501B) || c.1 / 256 == 0x5020,
   []⟩

/-- A calibration store begins in the alternate half. -/
def State.storeCalibration (s : State) (ch : Channel) (tag : Nat) : State :=
  let k := alternate s.flash.cal fun (p : ParamCopy) => p.seq
  (s.setFlash { s.flash with calOp := some (⟨ch, 0x5000, 0x1B, tag⟩, s.calibrationNow),
                                   cal := s.flash.cal.set k none })

/-- The new half stands alone, and the write is answered. -/
def State.calibrationStored (s : State) : State :=
  match s.flash.calOp with
  | none => s
  | some (op, c) =>
    let k := alternate s.flash.cal fun (p : ParamCopy) => p.seq
    let s := (s.setFlash { s.flash with calOp := none, cal := (Vector.replicate 2 none).set k (some c) })
    let s := s.raise rcCalStored (evData [evU 4 c.seq])
    ((s.answer op.ch op.ix op.sub none).startSave).startWrite

end Sys2Proof.Machine
end

