-- ==== Sys2Proof/Machine/Flags.lean ====
section
/-! DEFINITION. What the dictionary reads: the status words, flags and values the device forms when they are read, and
the values it holds. -/

namespace Sys2Proof.Machine

/-- The number with the given bits, from bit 0 up. -/
def flagWord (l : List Bool) : Nat :=
  match l with
  | [] => 0
  | b :: rest => natOf b + 2 * flagWord rest

/-! ### Rails and phases -/

/-- A limit of the envelope is still moving in (R295). -/
def State.envelopeMoving (s : State) (r : RailId) : Bool :=
  let a := s.rails[r]
  a.running && (a.posLimit != s.posGoal r || a.negLimit != (s.env r 9 : Rat) || a.maxDuty != (s.env r 0x0B : Rat)
    || a.oldOv.isSome || decide (s.maxEff r * 65536 < (a.vr : Rat)))

/-- Status word, 3r40:01; RAMPING and AT_TARGET tell of V_r while the rail's phases switch. -/
def State.railStatus (s : State) (r : RailId) : Nat :=
  let a := s.rails[r]
  flagWord [s.isOn r, a.running, a.stop != .none, a.softStart, a.running && a.vr != s.goal r,
    a.running && a.vr == s.goal r, a.clamped,
    s.envelopeMoving r, a.hiccup, a.responseOff, s.railType r == 2 && a.negative,
    s.outline.active || s.outlineDriven r, a.derated, s.railObj r 0x10 2 == 4, a.window]

/-- The hardware hold or the safe-off path acts on a phase. -/
def State.phaseHold (s : State) (p : PhaseId) : Bool :=
  s.phaseHeld p || (s.safety.path && (s.nat 0x2330 3).testBit p.val)

/-- Status word, 400p7:01; bits [6] to [8] are kept as they change. -/
def State.phaseStatus (s : State) (p : PhaseId) : Nat :=
  let a := s.phases[p]
  let kept := s.nat (phaseIx p 7) 1
  flagWord [a.switching && s.inEnabledRail p, a.tripped, a.tripped && s.latches p, a.force != 0, s.outlineDrivenPhase p,
    s.phaseHold p, kept.testBit 6, kept.testBit 7, kept.testBit 8, !a.spread.isEmpty]

/-- Hold status, 4100:02. -/
def State.holdStatus (s : State) : Nat :=
  flagWord [!s.idleContent || !s.fullService, s.safety.path, !s.supply.vpwm]

/-- The mask of phases a test admits. -/
def phaseMaskOf (f : PhaseId → Bool) : Nat := flagWord (phaseIds.map f)

/-- The slots of a rail, 3r20:01 (R310). -/
def State.slotMask (s : State) (r : RailId) : Nat :=
  flagWord (slotIds.map fun k => s.obj (slotIx k) 1 == (r.val : Int))

/-- The slots assigned to some rail, 3800:03. -/
def State.slotsAssigned (s : State) : Nat := flagWord (slotIds.map fun k => s.obj (slotIx k) 1 != 0xFF)

/-! ### Device -/

/-- The PLL's reference is the crystal (2010:02), locked or not. -/
def State.onCrystal (s : State) : Bool := s.clocks.crystal && s.clocks.mode != 2

/-- Clock status, 2010:03: every bit is 0 at reset, and the oscillators that run through a reset are reported from the
start of Survey (log 124). -/
def State.clockStatus (s : State) : Nat :=
  flagWord [s.clocks.pll, s.clocks.crystal, s.clocks.sofTrim, s.serving && s.clocks.lse,
    s.serving && s.clocks.outlineClk]

/-- Supply flags, 2100:04. -/
def State.supplyFlags (s : State) : Nat := flagWord [s.supply.vin, s.supply.vbus, s.supply.vbat, s.busPowered]

/-- The seconds left of a trial, 2040:0C (R580). -/
def State.trialLeft (s : State) : Nat :=
  if !s.onTrial then 0 else if s.fullService then 600 - (s.life.up - s.nat 0x2120 4) / 1000 else 600

/-- The mask of joined positions, 2400:05 (R378). -/
def State.joinedMembers (s : State) : Nat := flagWord (positions.map fun p => (s.memberAt p).present)

/-- 2400:06: the running spanning rails of each position. -/
def State.runningSpans (s : State) : Nat :=
  positions.foldl (fun (v : Nat) p => v + (s.memberAt p).running % 16 * 16 ^ p.val) 0

/-- Recorder state, 5800:0D. -/
def State.recorderState (s : State) : Nat :=
  if s.recorder.hostErase.isSome then 3 else if s.funcState 6 = 1 then 1 else if s.funcState 6 = 2 then 2 else 0

/-- 5800:04; past the last SEQ of R515 its value is free (log 10). -/
def State.nextSeqRead (s : State) : Nat :=
  match s.nextSeq with | some n => n | none => (Config.unstated 1 s.recorder.seq).toNat % 2 ^ 32

/-- The CRC of an Outline set or of a calibration half, whose byte layout no rule gives: a free value of its sequence
number (log 10). -/
def freeCrc (place seq : Nat) : Nat := (Config.unstated place seq).toNat % 2 ^ 32

/-- An access map as the bytes of its 64 entries (2028:43). -/
def mapBytes (m : List Nat) : List Byte := (List.range 64).flatMap fun (i : Nat) => leBytes 4 (m.getD i 0)

/-- 1F56:01: the CRC field of a VERIFIED inactive image (R582). -/
def State.imageCrc (s : State) : Nat := if s.bank s.otherBank = 2 then leNat (slice s.bankImage 16 4) else 0

/-- 1F57:01. -/
def State.flashStatus (s : State) : Nat := natOf s.flash.bankErase + 2 * s.flash.status + 256 * s.otherBank

/-- What an action object reads (R84): an operation under way reads RUNNING in place of DONE. -/
def State.actionRead (s : State) (ix sub : Nat) : Nat :=
  let v := s.nat ix sub
  let running := match s.life.command with
    | some f => s.funcState f == 1 || s.funcState f == 3
    | none => false
  let busy := (ix == 0x2110 && sub == 1 && running) || (ix == 0x2110 && sub == 2 && s.obj 0x2110 0x10 != 0)
    || (ix == 0x5800 && sub == 1 && s.recorder.hostErase.isSome) || (ix == 0x2340 && sub == 1 && s.flash.outlineOp.isSome)
    || (ix == 0x2028 && sub == 0x42 && s.flash.mapOp.isSome) || (ix == 0x5000 && sub == 0x1B && s.flash.calOp.isSome)
  if bits v 23 16 = 0 ∧ busy = true then v + 0x10000 else v

/-! ### Values that are formed when they are read -/

/-- The values of the communication and device objects that are formed when they are read. -/
def State.deviceView (s : State) (ch : Channel) (ix sub : Nat) : Option Int :=
  let c := s.client ch
  match ix, sub with
  | 0x1001, 0 => some s.errorRegister
  | 0x1018, 3 => some ((Config.dieRevision.toNat * 65536 + Config.trimVersion.toNat : Nat) : Int)
  | 0x1018, 4 => some ((Config.serialNumber.toNat % 2 ^ 32 : Nat) : Int)
  | 0x1200, 1 => some (0x600 + s.obj 0x2008 5)
  | 0x1200, 2 => some (0x580 + s.obj 0x2008 5)
  | 0x1F51, 1 => some 1
  | 0x1F56, 1 => some s.imageCrc
  | 0x1F57, 1 => some s.flashStatus
  | 0x2000, 1 => some Config.serialNumber.toNat
  | 0x2000, 2 => some Config.dieRevision.toNat
  | 0x2000, 3 => some Config.packageRevision.toNat
  | 0x2000, 4 => some Config.trimVersion.toNat
  | 0x2010, 2 => some (natOf s.onCrystal)
  | 0x2010, 3 => some s.clockStatus
  | 0x2020, 4 => some (s.channelLevel ch).rank
  | 0x2020, 6 => some ((c.idle + 999) / 1000 : Nat)
  | 0x2020, 7 => some c.failures
  | 0x2020, 0x0A => some (flagWord [s.flash.technicianKey.isSome, s.flash.oemKey.isSome])
  | 0x2028, 1 => some (mapUsed s.flash.map).length
  | 0x2028, 0x43 => some (crc32 (mapBytes s.flash.map))
  | 0x2040, 0x0C => some s.trialLeft
  | 0x2100, 4 => some s.supplyFlags
  | 0x2300, 0x0B => some (flagWord [s.outline.active, s.outlineSet.isSome])
  | 0x2320, 3 => some s.fabric.fifo.length
  | 0x2330, 2 => some s.safetyStatus
  | 0x2340, 0x0C => some (match s.outlineSet with | some o => freeCrc 20 o.seq | none => 0)
  | 0x2340, 0x0D => some (natOf s.outlineSet.isSome)
  | 0x2400, 3 => some (natOf (s.position != 0))
  | 0x2400, 5 => some s.joinedMembers
  | 0x2400, 6 => some s.runningSpans
  | 0x2610, 8 => some s.gpioLevels
  | 0x2630, 6 => some s.tripLevels
  | 0x2630, 7 => some (phaseMaskOf fun p => s.phases[p].tripped && s.latches p)
  | _, _ => none

/-- Likewise for the rails, the phases and the engine. -/
def State.railView (s : State) (ix sub : Nat) : Option Int :=
  if h : 0x3000 ≤ ix ∧ ix < 0x3500 then
    let r : RailId := ⟨(ix - 0x3000) / 256, by omega⟩
    if ix % 256 = 0x20 ∧ sub = 1 then some (s.slotMask r)
    else if ix % 256 = 0x40 ∧ sub = 1 then some (s.railStatus r)
    else if ix = 0x3440 ∧ sub = 8 then some s.driveStatus
    else if ix % 256 = 0x50 ∧ sub = 0x0D then
      (if h : r.val < 4 then some (setBit (s.nat ix sub) 0 (s.dewHolds ⟨r.val, h⟩) : Nat) else none)
    else none
  else if h : 0x4000 ≤ ix ∧ ix < 0x40C0 then
    let p : PhaseId := ⟨(ix - 0x4000) / 16, by omega⟩
    if ix % 16 = 7 ∧ sub = 1 then some (s.phaseStatus p)
    else if ix % 16 = 5 ∧ sub = 0x0A then some (s.ocEffective p true)
    else if ix % 16 = 5 ∧ sub = 0x0B then some (s.ocEffective p false)
    else none
  else match ix, sub with
    | 0x3800, 2 => some (roundRat s.capacityLoad)
    | 0x3800, 3 => some s.slotsAssigned
    | 0x4100, 1 => some (if s.obj 0x2200 0x0C = 0 then 0 else s.meridian.base : Nat)
    | 0x4100, 2 => some s.holdStatus
    | 0x4100, 3 => some (phaseMaskOf fun p => s.phases[p].switching)
    | 0x4110, 0x0E => some s.activeEntry
    | _, _ =>
      if 0x3820 ≤ ix ∧ ix < 0x3840 ∧ sub = 4 then some (crc32 ((s.domain ix 3).getD (List.replicate 330 0))) else none

/-- Likewise for metrology, the recorder and the calendar. -/
def State.recorderView (s : State) (ch : Channel) (ix sub : Nat) : Option Int :=
  match ix, sub with
  | 0x5000, 0x1A => some s.metrologyState
  | 0x5000, 0x1C => some (match s.storedCal with | some c => freeCrc 19 c.seq | none => 0)
  | 0x5050, 0x0D => some s.pMax
  | 0x5800, 2 => some s.stagingUsed
  | 0x5800, 4 => some s.nextSeqRead
  | 0x5800, 0x0C => some s.recorder.pos
  | 0x5800, 0x0D => some s.recorderState
  | 0x5800, 0x0F => some (logRecords s.recorder.log).length
  | 0x5810, 1 => some (s.client ch).cursor
  | 0x5810, 2 => some (logRange s.recorder.log).1
  | 0x5810, 3 => some (logRange s.recorder.log).2
  | 0x5810, 4 => some (if s.obj 0x5830 2 = 1 then (logRange s.recorder.extLog).1 else 0 : Nat)
  | 0x5820, 1 => some s.rtc.ms
  | 0x5820, 2 => some (natOf s.rtc.valid)
  | 0x5820, 4 => some s.life.up
  | 0x5830, 6 => some s.recorder.extPos
  | 0x5830, 7 => some s.recorder.extWaiting.length
  | _, _ => none

/-- The number an object reads. -/
def State.readNumber (s : State) (ch : Channel) (ix sub : Nat) : Int :=
  if isAction ix sub then s.actionRead ix sub
  else match s.deviceView ch ix sub with
    | some v => v
    | none => match s.railView ix sub with
      | some v => v
      | none => (s.recorderView ch ix sub).getD (s.obj ix sub)

/-- The characters of a string. -/
def charBytes (t : String) : List Byte := t.toList.map fun (c : Char) => BitVec.ofNat 8 c.toNat

/-- A string of one character and up to 31 more. -/
def textBytes (t : Byte × List Byte) : List Byte := t.1 :: t.2.take 31

/-- The bytes a string or DOMAIN reads. -/
def State.readText (s : State) (ch : Channel) (ix sub : Nat) : List Byte :=
  match ix, sub with
  | 0x1008, 0 => charBytes "AN7412"
  | 0x1009, 0 => textBytes Config.hardwareVersion
  | 0x100A, 0 => textBytes (Config.softwareVersion (s.nat 0x2040 1))
  | 0x2000, 5 => charBytes "AN7412-QF144-T"
  | 0x2020, 2 => match (s.client ch).nonce with | some n => leBytes 16 n.1 | none => []
  | 0x2510, 3 => (s.domain ix sub).getD (charBytes "AN7412")
  | 0x5810, 5 => s.snapshot
  | 0x5810, 6 => s.recordsFrom (s.client ch).cursor
  | 0x5810, 8 => s.recordAt (s.client ch).cursor
  | _, _ =>
    (s.domain ix sub).getD (List.replicate
      (if 0x3820 ≤ ix ∧ ix < 0x3840 then 330 else if 0x3850 ≤ ix ∧ ix < 0x3860 then 129 else 0) 0)

/-! ### Reading -/

/-- A refusal of a read by the channel's level (R12, R55, R128); in RETIRED every object reads (R575). -/
def State.readLevelRule (s : State) (ch : Channel) (r : ObjRow) : Option Nat :=
  if (r.acc ≠ .ro ∧ r.acc ≠ .const) ∨ r.lvl = .base ∨ s.lifecycle = 4 then none
  else if !s.fullService then some 0x08000022
  else if (s.channelLevel ch).rank < r.lvl.rank then some 0x06010000
  else none

/-- A refusal of a read: no such object, a wo object, or the level (R12, R39, R43). -/
def State.readRule (s : State) (ch : Channel) (ix sub : Nat) : Option Nat :=
  match findRow ix sub with
  | none => some (if hasIndex ix then 0x06090011 else 0x06020000)
  | some r => if r.acc = .wo then some 0x06010001 else s.readLevelRule ch r

/-- The bytes an object reads. -/
def State.readBytes (s : State) (ch : Channel) (ix sub : Nat) : List Byte :=
  match findRow ix sub with
  | none => []
  | some r => if r.ty.numeric then r.ty.bytes (s.readNumber ch ix sub) else s.readText ch ix sub

/-- What reading changes: bit [7] of a slot status is cleared, and a pin is sampled afresh (R189). -/
def State.readEffect (s : State) (ix sub : Nat) : State :=
  if 0x3810 ≤ ix ∧ ix < 0x3820 ∧ sub = 0x0F then s.putBit ix sub 7 false
  else if ix = 0x2610 ∧ sub = 8 then s.tick
  else s

end Sys2Proof.Machine
end

