-- ==== Sys2Proof/Machine/Write.lean ====
section
/-! DEFINITION. Writing the dictionary (R39–R44, R128, R567–R570, R575, R611): the checks in their order, the rule of
each object, what an accepted write does, and the action objects with their tags (R81–R84). -/

namespace Sys2Proof.Machine

/-! ### Where a written value goes (R17) -/

/-- Configuration that the fast path takes at a boundary: of rails, phases, the engine and metrology, of the Meridian, the
ring, the relays, the trip inputs and the converters. -/
def fastKey (ix sub : Nat) : Bool :=
  ix == 0x2200 || ix == 0x2400 || ix == 0x2600 || (ix == 0x2630 && Nat.ble 1 sub && Nat.ble sub 4)
    || (Nat.ble 0x3000 ix && Nat.blt ix 0x3500 && [0, 2, 0x10, 0x30, 0x50].contains (ix % 256))
    || (Nat.ble 0x3800 ix && Nat.blt ix 0x3860)
    || (Nat.ble 0x4000 ix && Nat.blt ix 0x40C0 && ix % 16 != 4)
    || ix == 0x4110 || ix == 0x4120 || ix == 0x4130
    || (Nat.ble 0x5000 ix && Nat.ble ix 0x5060)

/-- A boundary at which the fast path takes a key will come: of its rail, of any rail, or of metrology. -/
def State.boundaryComes (s : State) (k : Nat) : Bool :=
  if Nat.ble 0x500000 k then s.metering
  else match s.keyRail k with
    | some r => s.hasBoundary r
    | none => railIds.any s.hasBoundary

/-- A value that the fast path works with at once. -/
def State.putNow (s : State) (ix sub : Nat) (v : Int) : State :=
  (s.setStale (cellDrop s.stale (objKey ix sub))).putObj ix sub v

/-- A configuration value written: at once, or kept from the fast path until its boundary (R17). -/
def State.putConfig (s : State) (ix sub : Nat) (v : Int) : State :=
  if fastKey ix sub && s.boundaryComes (objKey ix sub) then s.putFast ix sub v else s.putNow ix sub v

/-! ### Rules of the communication objects -/

/-- A mapping entry may be mapped: a numeric object, in its length, that an RPDO may write at OPERATOR or a TPDO may
read at OPEN (R65). -/
def State.mappable (s : State) (rx : Bool) (v : Nat) : Bool :=
  let e := mapEntry v
  match findRow e.ix e.sub with
  | none => false
  | some r =>
    r.ty.numeric && v % 256 == 8 * r.ty.size
      && (if rx then writable e.ix e.sub && Nat.ble (s.writeRank e.ix e.sub) 1
          else r.acc != .wo && (r.acc == .rw || r.lvl == .base))

/-- The bytes a PDO holds (R45, R65). -/
def State.pdoSize (s : State) : Nat := if s.can.fd then 64 else 8

/-- A refusal of a mapping count. R65 does not say whether the entry or the count is refused: the entries are held to it
when the count is written (DESIGN CHOICE, log 126). -/
def State.mapCountRule (s : State) (ix count : Nat) : Option Nat :=
  let vs := (List.range count).map fun (i : Nat) => s.nat ix (i + 1)
  if !(vs.all (s.mappable (Nat.blt ix 0x1A00))) then some 0x06040041
  else if s.pdoSize < (vs.map fun (v : Nat) => v % 256 / 8).sum then some 0x06040042
  else none

/-- An object is a PDO mapping record. -/
def isMapping (ix : Nat) : Bool := (Nat.ble 0x1600 ix && Nat.ble ix 0x1603) || (Nat.ble 0x1A00 ix && Nat.ble ix 0x1A03)

/-- A refusal of a write in 1000–1FFF (R66, R79, R80, R582). -/
def State.commRule (s : State) (ix sub : Nat) (v : Int) : Option Nat :=
  if isMapping ix then
    (if sub = 0 then s.mapCountRule ix v.toNat else if s.nat ix 0 ≠ 0 then some 0x08000022 else none)
  else if ix = 0x1010 then s.storeRule v.toNat 0x65766173
  else if ix = 0x1011 then s.storeRule v.toNat 0x64616F6C
  else if ix = 0x1F51 then s.programRule v.toNat
  else none

/-! ### Rules of the device objects -/

/-- A refusal of a write in 2000–2FFF; `t` is the state with the value in place. -/
def State.deviceRule (s t : State) (ix sub : Nat) (v : Int) : Option Nat :=
  if ix = 0x2100 then s.powerRule v.toNat
  else if ix = 0x2200 ∨ ix = 0x2210 ∨ ix = 0x2600 ∨ ix = 0x2610 then s.meridianRule t ix sub v
  else if 0x2310 ≤ ix ∧ ix < 0x2315 then responseRule ((ix - 0x2310) * 128 + sub - 1) v.toNat
  else if ix = 0x2330 ∧ sub = 3 then s.safeMaskRule v.toNat
  else if ix = 0x2400 ∧ (sub = 4 ∨ (9 ≤ sub ∧ sub ≤ 0x1E)) then
    (if s.obj 0x2400 2 = 0 ∨ s.obj 0x2400 2 = 1 then none else some 0x08000022)
  else if ix = 0x2500 then t.avsRule sub v
  else if ix = 0x2510 then (if s.lifecycle = 0 ∨ s.lifecycle = 1 then none else some 0x08000022)
  else if ix = 0x2620 then s.driveRule ix sub v
  else if ix = 0x2630 then (if v.toNat &&& 0xF00000FC = 0 then none else some 0x06090030)
  else none

/-! ### Rules of rails, phases and the engine -/

/-- A refusal of a target by its source (R285): the host's channels need SDO, an RPDO needs RPDO. -/
def State.targetRule (s : State) (ch : Channel) (r : RailId) : Option Nat :=
  if s.railObj r 0x10 2 = (if ch = .rpdo then 1 else 0) then none else some 0x08000022

/-- A refusal of a write of rail `r`'s objects. -/
def State.railWriteRule (s t : State) (ch : Channel) (r : RailId) (off sub : Nat) (v : Int) : Option Nat :=
  if off = 0x10 ∧ sub = 1 then s.targetRule ch r
  else if off = 0x50 then
    if h : r.val < 4 then
      match s.senseRule ⟨r.val, h⟩ sub v (s.railObj r 0x02 2) with
      | some c => some c
      | none => if sub = 6 then t.latencyRule else none
    else none
  else match s.railRule t r off sub v with
    | some c => some c
    | none => if r = railD then s.driveRule (railIx r off) sub v else none

/-- A refusal of a write of phase `p`'s objects. -/
def State.phaseWriteRule (s t : State) (p : PhaseId) (off sub : Nat) (v : Int) : Option Nat :=
  if off = 5 then s.currentRule p sub v
  else match s.pwmRule p off sub v with
    | some c => some c
    | none => if off = 0 ∧ sub = 2 then t.capacityRule else none

/-- A refusal of a write in 3000–4FFF. -/
def State.fastRule (s t : State) (ch : Channel) (ix sub : Nat) (v : Int) : Option Nat :=
  if h : 0x3000 ≤ ix ∧ ix < 0x3500 then s.railWriteRule t ch ⟨(ix - 0x3000) / 256, by omega⟩ (ix % 256) sub v
  else if 0x3800 ≤ ix ∧ ix < 0x3860 then s.harikRule t ix sub v
  else if h : 0x4000 ≤ ix ∧ ix < 0x40C0 then s.phaseWriteRule t ⟨(ix - 0x4000) / 16, by omega⟩ (ix % 16) sub v
  else if ix = 0x4110 then
    match s.maskRule sub v with
    | some c => some c
    | none => s.driveRule ix sub v
  else if ix = 0x4120 then (if s.adcOverload (sub - 1) v.toNat then some 0x06040047 else none)
  else if ix = 0x4130 ∧ 0x10 ≤ sub ∧ sub < 0x50 ∧ sub % 8 = 1 ∧ v = 0 then some 0x06090030
  else none

/-- A refusal of a write in 5000–5FFF. -/
def State.meterRule (s t : State) (ch : Channel) (ix sub : Nat) (v : Int) : Option Nat :=
  if ix = 0x5000 ∨ ix = 0x5060 then s.casupRule t ix sub v
  else if ix = 0x5050 then t.pulseRule sub
  else if ix = 0x5820 ∧ sub = 1 ∧ ch ≠ .gsp then some 0x08000022
  else if ix = 0x5830 ∧ sub = 4 ∧ v % 4096 ≠ 0 then some 0x06090030
  else none

/-- A refusal of a numeric value by the rules of its object. -/
def State.objectRule (s : State) (ch : Channel) (ix sub : Nat) (v : Int) : Option Nat :=
  let t := s.putObj ix sub v
  if ix < 0x2000 then s.commRule ix sub v
  else if ix < 0x3000 then s.deviceRule t ix sub v
  else if ix < 0x5000 then s.fastRule t ch ix sub v
  else s.meterRule t ch ix sub v

/-! ### What an accepted value does -/

/-- 1003:00 written: the error field is empty (R8). -/
def State.clearHistory (s : State) : State :=
  (List.range 9).foldl (fun (s : State) (k : Nat) => s.putObj 0x1003 k 0) s

/-- An envelope value (R295): at the next boundary, or at once while none comes. -/
def State.writeEnvelope (s : State) (r : RailId) (sub : Nat) (v : Int) (rank : Nat) : State :=
  let s := s.putFast (railIx r 0x02) sub v
  if s.hasBoundary r then
    s.modRail r fun a => { a with envPending := (a.envPending.filter fun c => c.1 != sub) ++ [(sub, rank)] }
  else ((s.takeEnvelope r sub rank).takeLimits r).applyTarget r false

/-- The target source (R284): a source that takes its targets from 3r10:01 has it as its latest target. -/
def State.writeSource (s : State) (r : RailId) (v : Int) : State :=
  let s := s.putRailObj r 0x10 2 v
  if v = 0 ∨ v = 1 then (s.modRail r fun a => { a with source := s.railObj r 0x10 1 }).applyTarget r false else s

/-- A rail's object written. -/
def State.writeRail (s : State) (r : RailId) (off sub : Nat) (v : Int) (rank : Nat) : State :=
  if off = 0 ∧ sub = 3 then s.writeEnable r v
  else if off = 2 then s.writeEnvelope r sub v rank
  else if off = 0x10 ∧ sub = 1 then s.acceptTarget r v
  else if off = 0x10 ∧ sub = 2 then s.writeSource r v
  else if r = railD ∧ off = 0 ∧ sub = 0x0B then s.writeDirection v
  else s.putConfig (railIx r off) sub v

/-- A write of 400p1:03 lets an edge that fell back adapt again (R244). -/
def State.writeAdaptation (s : State) (p : PhaseId) (v : Int) : State :=
  ((s.putConfig (phaseIx p 1) 3 v).modPhase p fun a =>
    { a with stoppedR := false, stoppedF := false, missR := 0, missF := 0 }).putBit (phaseIx p 7) 1 6 false

/-- A Graticule entry written, and armed by the rule of R176. -/
def State.writeEntry (s : State) (n : Fin 64) (v : Int) : State := (s.putObj 0x2210 (1 + n.val) v).armEntry n

/-- The ring port enabled or disabled (R375, R396). -/
def State.writeRing (s : State) (v : Int) : State :=
  if v = s.obj 0x2400 1 then s
  else if v = 1 then (s.putObj 0x2400 1 1).joinRing else (s.putObj 0x2400 1 0).leaveRing 1

/-- The mode of an auxiliary channel; OFF ends its events (R217). -/
def State.writeAuxMode (s : State) (c : AuxId) (v : Int) : State :=
  let s := s.putNow 0x4130 (0x10 + 8 * c.val) v
  if v = 0 then s.auxOff c else s

/-- A communication object written. -/
def State.writeComm (s : State) (ix sub : Nat) (v : Int) : State :=
  if ix = 0x1003 then s.clearHistory
  else if h : ix = 0x1016 ∧ 1 ≤ sub ∧ sub ≤ 4 then
    let n : Fin 4 := ⟨sub - 1, by omega⟩
    (s.setCan { s.can with monitored := s.can.monitored.set n false }).putObj ix sub v
  else if ix = 0x1F51 then (if v = 3 then s.eraseBank [] else s)
  else s.putObj ix sub v

/-- A device object written. -/
def State.writeDevice (s : State) (ix sub : Nat) (v : Int) : State :=
  if ix = 0x2100 then s.setPower v.toNat
  else if h : ix = 0x2210 ∧ 1 ≤ sub ∧ sub ≤ 0x40 then s.writeEntry ⟨sub - 1, by omega⟩ v
  else if ix = 0x2400 ∧ sub = 1 then s.writeRing v
  else if ix = 0x2620 ∧ sub = 1 then s.writeHallMap v
  else s.putConfig ix sub v

/-- A numeric object written. -/
def State.applyNumber (s : State) (ch : Channel) (ix sub : Nat) (v : Int) : State :=
  if ix < 0x2000 then s.writeComm ix sub v
  else if ix < 0x3000 then s.writeDevice ix sub v
  else if h : 0x3000 ≤ ix ∧ ix < 0x3500 then
    s.writeRail ⟨(ix - 0x3000) / 256, by omega⟩ (ix % 256) sub v (s.channelLevel ch).rank
  else if h : 0x4000 ≤ ix ∧ ix < 0x40C0 ∧ ix % 16 = 1 ∧ sub = 3 then s.writeAdaptation ⟨(ix - 0x4000) / 16, by omega⟩ v
  else if h : ix = 0x4130 ∧ 0x10 ≤ sub ∧ sub < 0x50 ∧ sub % 8 = 0 then s.writeAuxMode ⟨(sub - 0x10) / 8, by omega⟩ v
  else if ix = 0x4110 ∧ sub = 0x0B then s.applyDirection v
  else if ix = 0x4120 then (s.putConfig ix sub v).storeAdcLoads
  else if ix = 0x5810 ∧ sub = 1 then s.modClient ch fun c => { c with cursor := v.toNat }
  else if ix = 0x5820 ∧ sub = 1 then s.setTime v.toNat 1
  else if ix = 0x5820 ∧ sub = 3 then (s.setRtc { s.rtc with trimAcc := 0 }).putObj ix sub v
  else s.putConfig ix sub v

/-- A value of a numeric object that its level and range allow. -/
def State.writeNumber (s : State) (ch : Channel) (ix sub : Nat) (v : Int) : State × WriteResult :=
  match s.objectRule ch ix sub v with
  | some c => (s, .abort c)
  | none =>
    if ix = 0x1010 then (s.startStore (some ch) sub false, .deferred)
    else if ix = 0x1011 then (s.startStore (some ch) sub true, .deferred)
    else (s.applyNumber ch ix sub v, .done)

/-- A DOMAIN or string that its level and length allow. -/
def State.writeText (s : State) (ch : Channel) (ix sub : Nat) (data : List Byte) : State × WriteResult :=
  if ix = 0x1F50 then s.downloadSegment ch data true true
  else if ix = 0x2020 ∧ sub = 3 then s.takeResponse ch data
  else if ix = 0x2020 then
    match s.keyRule data with
    | some c => (s, .abort c)
    | none => (s.writeKey ch (sub == 9) data, .done)
  else if ix = 0x2030 then
    (if s.lifecycle = 3 then (s.putDomain ix sub data, .done) else (s, .abort 0x08000022))
  else if ix = 0x2510 then
    (if s.lifecycle = 0 ∨ s.lifecycle = 1 then (s.putDomain ix sub data, .done) else (s, .abort 0x08000022))
  else (s.putDomain ix sub data, .done)

/-! ### Action objects -/

/-- The one argument an action takes. -/
def onlyOne (arg : Nat) : Option Nat := if arg = 1 then none else some 0x06090030

/-- A refusal of a wet-hold override (R137). -/
def State.overrideRule (s : State) (arg : Nat) : Option Nat :=
  if arg ≠ 1 then some 0x06090030 else if s.stage = 1 then none else some 0x08000022

/-- A refusal of a profile command (R289). -/
def State.profileRule (s : State) (r : RailId) (arg : Nat) : Option Nat :=
  if arg = 1 then
    (if s.isOn r && (s.railObj r 0x10 2 == 0 || s.railObj r 0x10 2 == 1) then none else some 0x08000022)
  else if arg = 2 then none
  else some 0x06090030

/-- The shadow of a table: what has been written, else all 0. -/
def State.shadowTable (s : State) (ix : Nat) : List Byte :=
  (s.domain ix 1).getD (List.replicate (if ix < 0x3850 then 330 else 129) 0)

/-- A refusal of a table commit (R325, R329, R336). -/
def State.commitRule (s : State) (ix arg : Nat) : Option Nat :=
  if arg ≠ 1 then some 0x06090030
  else if (if ix < 0x3850 then contourValid (s.shadowTable ix) else reliefValid (s.shadowTable ix)) then none
  else some 0x06090030

/-- A refusal of an action by the rules of its object. -/
def State.actionRule (s : State) (ch : Channel) (ix sub arg : Nat) : Option Nat :=
  if h : 0x3000 ≤ ix ∧ ix < 0x3500 then
    (if ix % 256 = 0x10 then s.profileRule ⟨(ix - 0x3000) / 256, by omega⟩ arg else onlyOne arg)
  else if 0x3820 ≤ ix ∧ ix < 0x3860 then s.commitRule ix arg
  else match ix, sub with
    | 0x2020, 1 => s.challengeRule ch arg
    | 0x2028, 0x42 => s.mapRule arg
    | 0x2030, 2 => s.lifecycleRule ch arg
    | 0x2040, 9 => s.activateRule arg
    | 0x2110, 1 => s.functionRule ch (arg % 256) (arg / 256)
    | 0x2110, 2 => s.powerCycleRule arg
    | 0x2128, 5 => s.overrideRule arg
    | 0x2300, 2 => s.clearRule arg
    | 0x2300, 4 => s.outlineRule arg
    | 0x2320, 2 => if arg < 16 then none else some 0x06090030
    | 0x2340, 1 => s.outlineSetRule arg
    | 0x2600, 1 => if relayArgument arg then none else some 0x06090030
    | 0x2630, 5 => s.tripClearRule arg
    | 0x5000, 0x1B => s.calibrationRule arg
    | 0x5070, 1 => s.totalsRule arg
    | 0x5800, 1 => s.logEraseRule arg
    | _, _ => onlyOne arg

/-- A profile command (R289). -/
def State.profileCommand (s : State) (r : RailId) (arg : Nat) : State :=
  if arg = 1 then s.profileStep r 1 else s.profileAbort r

/-- A return to the primary table (R334): at the next boundary of the slot's rail, at once while none comes. -/
def State.returnToPrimary (s : State) (k : SlotId) : State :=
  let comes := s.boundaryComes (objKey (slotIx k) 1)
  if s.obj (slotIx k) 0x0D = 1 ∨ s.slots[k].safeDue = true then
    let s := s.modSlot k fun a => { a with returnDue := true }
    if comes then s else s.applyDue k
  else if s.fast (0x3840 + k.val) 4 = 2 then s.putObj (0x3840 + k.val) 6 0
  else s

/-- A relay command (R184). -/
def State.relayCommand (s : State) (arg : Nat) : State :=
  s.commandRelay (Fin.ofNat 4 arg) (arg.testBit 4) (arg.testBit 8)

/-- The counts of supply quality cleared (R454). -/
def State.clearCounts (s : State) : State := ((s.putObj 0x5068 2 0).putObj 0x5068 3 0).putObj 0x5068 4 0

/-- An accepted action. -/
def State.doAction (s : State) (ch : Channel) (ix sub tag arg : Nat) : State :=
  if h : 0x3000 ≤ ix ∧ ix < 0x3500 then
    let r : RailId := ⟨(ix - 0x3000) / 256, by omega⟩
    if ix % 256 = 0x10 then s.profileCommand r arg else s.resetDcEnergy r
  else if h : 0x3810 ≤ ix ∧ ix < 0x3820 then s.returnToPrimary ⟨ix - 0x3810, by omega⟩
  else if 0x3820 ≤ ix ∧ ix < 0x3860 then s.commitTable ix (s.shadowTable ix)
  else match ix, sub with
    | 0x2020, 1 => s.challenge ch arg
    | 0x2020, 5 => s.endSession ch 0
    | 0x2028, 0x42 => s.commitMap ch tag
    | 0x2030, 2 => s.lifecycleTo arg
    | 0x2040, 9 => s.activateBank arg
    | 0x2040, 0x0A => s.confirmBank
    | 0x2110, 1 => s.functionCommand (arg % 256) (arg / 256)
    | 0x2110, 2 => s.powerCycle arg
    | 0x2128, 5 => s.overrideWetHold
    | 0x2300, 2 => s.clearEvents arg
    | 0x2300, 3 => s.acknowledgeAll
    | 0x2300, 4 => s.outlineCommand arg
    | 0x2320, 2 => s.clearInterrupts arg
    | 0x2340, 1 => s.commitOutline ch tag
    | 0x2600, 1 => s.relayCommand arg
    | 0x2630, 5 => s.clearTrips arg
    | 0x5000, 0x1B => s.storeCalibration ch tag
    | 0x5068, 0x11 => s.clearCounts
    | 0x5070, 1 => s.requestSave 5
    | 0x5070, 2 => s.resetTotals
    | 0x5800, 1 => s.eraseLog arg
    | _, _ => s

/-! ### Admission -/

/-- Writes that Survey and wet hold allow (R128). -/
def surveyAdmits (ix sub : Nat) : Bool :=
  ix == 0x2020 || (ix == 0x2128 && sub == 5) || (ix == 0x2110 && sub == 2) || (ix == 0x5810 && sub == 1)

/-- RETIRED refuses every write but that of STANDBY, SLEEP or OFF to 2100:01 (R575). -/
def retiredAdmits (ix sub : Nat) (data : List Byte) : Bool :=
  ix == 0x2100 && sub == 1 && data.length == 1 && Nat.ble (leNat data) 2

/-- A refusal of a write before the rules of its object, in the order: the Cartouche identity, RETIRED, bring-up, access
mode, length, level, SERVICE_ONLY, range (R12, R36, R44, R128, R568, R575, R611; DEDUCED, log 31). The level is that of
the channel's session before full service too (R128, R137; R55 speaks of the base level: DESIGN CHOICE, log 125). -/
def State.admission (s : State) (ch : Channel) (row : ObjRow) (ix sub : Nat) (data : List Byte) : Option Nat :=
  let retired := s.lifecycle == 4
  if ix = 0x2000 then some 0x06010002
  else if retired && !retiredAdmits ix sub data then some 0x08000022
  else if !s.fullService && !surveyAdmits ix sub then some 0x08000022
  else if row.acc = .ro ∨ row.acc = .const then some 0x06010002
  else match row.lengthRule data with
    | some c => some c
    | none =>
      if !retired && Nat.blt (s.channelLevel ch).rank (s.writeRank ix sub) then some 0x06010000
      else if s.serviceOnly ix sub then some 0x08000022
      else row.rangeRule data

/-! ### A write -/

/-- A tag handled with the response given (R82); an RPDO is no client channel. -/
def State.remember (s : State) (ch : Channel) (tag : Nat) (code : Option Nat) : State :=
  s.modClient ch fun c => { c with tags := ((tag, code) :: c.tags).take 16 }

/-- The action that ends the client of its channel, whose memory then stays empty (R83). -/
def endsClient (ix sub : Nat) : Bool := ix == 0x2020 && sub == 5

/-- The action answers when its operation is complete (R418). -/
def answersLate (ix sub : Nat) : Bool := ix == 0x5000 && sub == 0x1B

/-- An action refused: the tag and REFUSED stand in the object (R82, R84). -/
def State.refuseAction (s : State) (ch : Channel) (ix sub tag code : Nat) : State × WriteResult :=
  ((s.remember ch tag (some code)).putObj ix sub ((tag + 0x20000 : Nat) : Int), .abort code)

/-- An action done, or begun. -/
def State.acceptAction (s : State) (ch : Channel) (ix sub tag arg : Nat) : State × WriteResult :=
  let s := s.touch ch
  let s := if endsClient ix sub then (s.remember ch tag none).doAction ch ix sub tag arg
           else (s.doAction ch ix sub tag arg).remember ch tag none
  (s.putObj ix sub tag, if answersLate ix sub then .deferred else .done)

/-- A write of an action object with a tag other than 0 (R81–R84). -/
def State.writeAction (s : State) (ch : Channel) (ix sub : Nat) (row : ObjRow) (data : List Byte) :
    State × WriteResult :=
  let tag := tagOf (leNat data)
  let arg := argOf (leNat data)
  match (s.client ch).tags.find? fun (c : Nat × Option Nat) => c.1 == tag with
  | some c => (s, .ofRule c.2)
  | none =>
    match s.admission ch row ix sub data with
    | some c => s.refuseAction ch ix sub tag c
    | none =>
      match s.actionRule ch ix sub arg with
      | some c => s.refuseAction ch ix sub tag c
      | none => s.acceptAction ch ix sub tag arg

/-- A write of an object that is no action. -/
def State.writeValue (s : State) (ch : Channel) (ix sub : Nat) (row : ObjRow) (data : List Byte) :
    State × WriteResult :=
  let out := if row.ty.numeric then s.writeNumber ch ix sub (row.ty.value data) else s.writeText ch ix sub data
  let s := out.1
  let r := out.2
  if r.code.isSome then (s, r) else (s.touch ch, r)

/-- The refusal of an address that names no object. -/
def missing (ix : Nat) : Nat := if hasIndex ix then 0x06090011 else 0x06020000

/-- A write of `data` to an object by a channel (R42–R44). -/
def State.writeObj (s : State) (ch : Channel) (ix sub : Nat) (data : List Byte) : State × WriteResult :=
  match findRow ix sub with
  | none => (s, .abort (missing ix))
  | some row =>
    if isAction ix sub && data.length == 4 && tagOf (leNat data) != 0 then s.writeAction ch ix sub row data
    else match s.admission ch row ix sub data with
      | some c => (s, .abort c)
      | none => if isAction ix sub then (s, .abort 0x06090030) else s.writeValue ch ix sub row data

/-! ### The channels that write -/

/-- The device takes frames from the bus: it serves, is not bus-off, and function 8 is enabled (R61, R492). -/
def State.listens (s : State) : Bool := s.serving && !s.can.busOff && s.funcState 8 == 0

/-- The CAN servers answer: a node-ID, and not NMT Stopped (R51, R54). -/
def State.canServes (s : State) : Bool := s.listens && s.nodeId.isSome && s.can.nmt != .stopped

/-- Clients with an open USDO transfer, but for one. -/
def State.otherTransfers (s : State) (client : Nat) : Nat :=
  (s.can.usdo.filter fun (c : Nat × Transfer) => c.1 != client).length

/-- A channel can send the device a request (R45, R64, R545). -/
def State.reaches (s : State) (ch : Channel) : Bool :=
  match ch with
  | .sdo => s.canServes && !s.can.fd
  | .usdo n => s.canServes && s.can.fd && Nat.blt (s.otherTransfers n.toNat) 4
  | .gsp => s.serving && s.obj 0x2510 4 == 3
  | .rpdo => s.listens && s.fullService && s.can.nmt == .operational

/-- The answer to a write recorded; a deferred one waits for its completion (R78). -/
def State.recordResult (s : State) (ch : Channel) (ix sub : Nat) (r : WriteResult) : State :=
  match r with
  | .deferred => s
  | .done => s.record ch ix sub none
  | .abort c => s.record ch ix sub (some c)

/-- A whole write by a channel, with its answer. -/
def State.hostWrite (s : State) (ch : Channel) (ix sub : Nat) (data : List Byte) : State :=
  if s.reaches ch then
    let out := s.writeObj ch ix sub data
    let t := out.1
    let r := out.2
    t.recordResult ch ix sub r
  else s

/-- A write of an action object. -/
def State.hostAction (s : State) (ch : Channel) (ix sub tag arg : Nat) : State :=
  s.hostWrite ch ix sub (actionBytes tag arg)

end Sys2Proof.Machine
end

