-- ==== Sys2Proof/Machine/HostRows.lean ====
section
/-! DEFINITION. The host's rows of the table: each is a write of its object over a client channel (R42, R81), checked and
applied like any other. -/

namespace Sys2Proof.Machine

/-! ### Operands as the objects take them -/

/-- The argument of 2110:01: function and operation (R490). -/
def functionArg (fn : Fin 13) (op : Nat) : Nat := fn.val + 256 * op

/-- The argument of 2600:01: relay, state and mode (R184). -/
def relayArg (relay : Fin 4) (closed : Bool) (mode : Nat) : Nat := relay.val + 16 * natOf closed + 256 * mode

/-- A number in the bytes of an object's type. -/
def typedBytes (ix sub v : Nat) : List Byte :=
  match findRow ix sub with | some r => r.ty.bytes v | none => []

/-- A refusal of a piece of an image by the checks of every write but that of length (R42, R128, R575, R577). -/
def State.pieceRule (s : State) (ch : Channel) : Option Nat :=
  if s.lifecycle = 4 ∨ s.fullService = false then some 0x08000022
  else if (s.channelLevel ch).rank < s.writeRank 0x1F50 1 then some 0x06010000
  else if s.serviceOnly 0x1F50 1 then some 0x08000022
  else none

/-- A piece of an image by a channel, checked and taken (R577). -/
def State.writePiece (s : State) (ch : Channel) (data : List Byte) (first last : Bool) : State × WriteResult :=
  match s.pieceRule ch with
  | some c => (s, .abort c)
  | none => (s.touch ch).downloadSegment ch data first last

/-- A piece of an image, with its answer. -/
def State.hostSegment (s : State) (ch : Channel) (data : List Byte) (first last : Bool) : State :=
  if s.reaches ch then
    let out := s.writePiece ch data first last
    out.1.recordResult ch 0x1F50 1 out.2
  else s

/-! ### Communication (R8, R42, R77, R80) -/

/-- OBJECT_WRITE (R42). -/
def execObjectWrite (ch : Channel) (ix : BitVec 16) (sub : BitVec 8) (data : List Byte) (s : State) : Host.Outcome State Fault Refusal :=
  .next (s.hostWrite ch ix.toNat sub.toNat data)

/-- ERROR_HISTORY_CLEAR (R8). -/
def execErrorHistoryClear (ch : Channel) (s : State) : Host.Outcome State Fault Refusal :=
  .next (s.hostWrite ch 0x1003 0 [0])

/-- STORE_PARAMETERS (R77). -/
def execStoreParameters (ch : Channel) (area : Fin 3) (s : State) : Host.Outcome State Fault Refusal :=
  .next (s.hostWrite ch 0x1010 (area.val + 1) (leBytes 4 0x65766173))

/-- RESTORE_DEFAULTS (R80). -/
def execRestoreDefaults (ch : Channel) (area : Fin 3) (s : State) : Host.Outcome State Fault Refusal :=
  .next (s.hostWrite ch 0x1011 (area.val + 1) (leBytes 4 0x64616F6C))

/-! ### Bring-up, power, and functions (R137, R147, R490–R493) -/

/-- WET_HOLD_OVERRIDE (R137). -/
def execWetHoldOverride (ch : Channel) (tag : BitVec 16) (s : State) : Host.Outcome State Fault Refusal :=
  .next (s.hostAction ch 0x2128 5 tag.toNat 1)

/-- POWER_STATE_WRITE (R147). -/
def execPowerStateWrite (ch : Channel) (state : Byte) (s : State) : Host.Outcome State Fault Refusal :=
  .next (s.hostWrite ch 0x2100 1 [state])

/-- FUNCTION_REINITIALISE (R491). -/
def execFunctionReinitialise (ch : Channel) (tag : BitVec 16) (fn : Fin 13) (s : State) : Host.Outcome State Fault Refusal :=
  .next (s.hostAction ch 0x2110 1 tag.toNat (functionArg fn 1))

/-- FUNCTION_DISABLE (R491). -/
def execFunctionDisable (ch : Channel) (tag : BitVec 16) (fn : Fin 13) (s : State) : Host.Outcome State Fault Refusal :=
  .next (s.hostAction ch 0x2110 1 tag.toNat (functionArg fn 2))

/-- FUNCTION_DISABLE_HARD (R490). -/
def execFunctionDisableHard (ch : Channel) (tag : BitVec 16) (fn : Fin 13) (s : State) : Host.Outcome State Fault Refusal :=
  .next (s.hostAction ch 0x2110 1 tag.toNat (functionArg fn 3))

/-- FUNCTION_ENABLE (R492). -/
def execFunctionEnable (ch : Channel) (tag : BitVec 16) (fn : Fin 13) (s : State) : Host.Outcome State Fault Refusal :=
  .next (s.hostAction ch 0x2110 1 tag.toNat (functionArg fn 4))

/-- POWER_CYCLE_REQUEST (R493). -/
def execPowerCycleRequest (ch : Channel) (tag : BitVec 16) (ms : BitVec 16) (s : State) : Host.Outcome State Fault Refusal :=
  .next (s.hostAction ch 0x2110 2 tag.toNat ms.toNat)

/-! ### Graticule, relays and pins (R176, R184, R187, R188) -/

/-- GRATICULE_ENTRY_WRITE (R176). -/
def execGraticuleEntryWrite (ch : Channel) (n : Fin 64) (value : BitVec 64) (s : State) : Host.Outcome State Fault Refusal :=
  .next (s.hostWrite ch 0x2210 (1 + n.val) (leBytes 8 value.toNat))

/-- RELAY_COMMAND_IMMEDIATE (R184). -/
def execRelayCommandImmediate (ch : Channel) (tag : BitVec 16) (relay : Fin 4) (closed : Bool) (s : State) : Host.Outcome State Fault Refusal :=
  .next (s.hostAction ch 0x2600 1 tag.toNat (relayArg relay closed 0))

/-- RELAY_COMMAND_AT_BEARING (R184). -/
def execRelayCommandAtBearing (ch : Channel) (tag : BitVec 16) (relay : Fin 4) (closed : Bool) (s : State) : Host.Outcome State Fault Refusal :=
  .next (s.hostAction ch 0x2600 1 tag.toNat (relayArg relay closed 1))

/-- GPIO_MODE_WRITE (R187). -/
def execGpioModeWrite (ch : Channel) (n : Fin 6) (mode : Byte) (s : State) : Host.Outcome State Fault Refusal :=
  .next (s.hostWrite ch 0x2610 (1 + n.val) [mode])

/-- GPIO_LEVEL_WRITE (R188). -/
def execGpioLevelWrite (ch : Channel) (levels : Byte) (s : State) : Host.Outcome State Fault Refusal :=
  .next (s.hostWrite ch 0x2610 7 [levels])

/-! ### Phases (R256, R258, R259) -/

/-- TRIP_CLEAR (R256). -/
def execTripClear (ch : Channel) (tag : BitVec 16) (phases : BitVec 12) (s : State) : Host.Outcome State Fault Refusal :=
  .next (s.hostAction ch 0x2630 5 tag.toNat phases.toNat)

/-- FORCE_BOTH_OFF (R258). -/
def execForceBothOff (ch : Channel) (p : PhaseId) (s : State) : Host.Outcome State Fault Refusal :=
  .next (s.hostWrite ch (phaseIx p 4) 1 [1])

/-- FORCE_HIGH_ON (R258). -/
def execForceHighOn (ch : Channel) (p : PhaseId) (s : State) : Host.Outcome State Fault Refusal :=
  .next (s.hostWrite ch (phaseIx p 4) 1 [2])

/-- FORCE_LOW_ON (R258). -/
def execForceLowOn (ch : Channel) (p : PhaseId) (s : State) : Host.Outcome State Fault Refusal :=
  .next (s.hostWrite ch (phaseIx p 4) 1 [3])

/-- FORCE_NONE (R259). -/
def execForceNone (ch : Channel) (p : PhaseId) (s : State) : Host.Outcome State Fault Refusal :=
  .next (s.hostWrite ch (phaseIx p 4) 1 [0])

/-! ### Rails and drive rail D (R277, R280, R281, R285, R289, R295, R354) -/

/-- RAIL_ENABLE_ON (R277). -/
def execRailEnableOn (ch : Channel) (r : RailId) (s : State) : Host.Outcome State Fault Refusal :=
  .next (s.hostWrite ch (railIx r 0) 3 [1])

/-- RAIL_SOFT_OFF (R280). -/
def execRailSoftOff (ch : Channel) (r : RailId) (s : State) : Host.Outcome State Fault Refusal :=
  .next (s.hostWrite ch (railIx r 0) 3 [0])

/-- RAIL_HARD_OFF (R281). -/
def execRailHardOff (ch : Channel) (r : RailId) (s : State) : Host.Outcome State Fault Refusal :=
  .next (s.hostWrite ch (railIx r 0) 3 [2])

/-- TARGET_WRITE (R285). -/
def execTargetWrite (ch : Channel) (r : RailId) (target : BitVec 32) (s : State) : Host.Outcome State Fault Refusal :=
  .next (s.hostWrite ch (railIx r 0x10) 1 (leBytes 4 target.toNat))

/-- PROFILE_START (R289). -/
def execProfileStart (ch : Channel) (r : RailId) (tag : BitVec 16) (s : State) : Host.Outcome State Fault Refusal :=
  .next (s.hostAction ch (railIx r 0x10) 9 tag.toNat 1)

/-- PROFILE_ABORT (R289). -/
def execProfileAbort (ch : Channel) (r : RailId) (tag : BitVec 16) (s : State) : Host.Outcome State Fault Refusal :=
  .next (s.hostAction ch (railIx r 0x10) 9 tag.toNat 2)

/-- ENVELOPE_WRITE (R295). -/
def execEnvelopeWrite (ch : Channel) (r : RailId) (sub : Fin 12) (value : BitVec 32) (s : State) : Host.Outcome State Fault Refusal :=
  .next (s.hostWrite ch (railIx r 0x02) (1 + sub.val) (typedBytes (railIx r 0x02) (1 + sub.val) value.toNat))

/-- DIRECTION_WRITE (R354). -/
def execDirectionWrite (ch : Channel) (direction : Byte) (s : State) : Host.Outcome State Fault Refusal :=
  .next (s.hostWrite ch 0x3400 0x0B [direction])

/-! ### Loop engine (R334, R336) -/

/-- RETURN_TO_PRIMARY (R334). -/
def execReturnToPrimary (ch : Channel) (k : SlotId) (tag : BitVec 16) (s : State) : Host.Outcome State Fault Refusal :=
  .next (s.hostAction ch (slotIx k) 0x0E tag.toNat 1)

/-- CONTOUR_COMMIT (R336). -/
def execContourCommit (ch : Channel) (k : SlotId) (safe : Bool) (tag : BitVec 16) (s : State) : Host.Outcome State Fault Refusal :=
  .next (s.hostAction ch ((if safe then 0x3830 else 0x3820) + k.val) 2 tag.toNat 1)

/-- RELIEF_COMMIT (R336). -/
def execReliefCommit (ch : Channel) (t : Fin 16) (tag : BitVec 16) (s : State) : Host.Outcome State Fault Refusal :=
  .next (s.hostAction ch (0x3850 + t.val) 2 tag.toNat 1)

/-! ### Ring port (R375, R396) -/

/-- RING_PORT_ENABLE (R375). -/
def execRingPortEnable (ch : Channel) (s : State) : Host.Outcome State Fault Refusal :=
  .next (s.hostWrite ch 0x2400 1 [1])

/-- RING_PORT_DISABLE (R396). -/
def execRingPortDisable (ch : Channel) (s : State) : Host.Outcome State Fault Refusal :=
  .next (s.hostWrite ch 0x2400 1 [0])

/-! ### Metrology, energy and supply quality (R418, R436, R439, R443, R454) -/

/-- CALIBRATION_STORE (R418). -/
def execCalibrationStore (ch : Channel) (tag : BitVec 16) (s : State) : Host.Outcome State Fault Refusal :=
  .next (s.hostAction ch 0x5000 0x1B tag.toNat 1)

/-- TOTALS_SAVE_NOW (R443). -/
def execTotalsSaveNow (ch : Channel) (tag : BitVec 16) (s : State) : Host.Outcome State Fault Refusal :=
  .next (s.hostAction ch 0x5070 1 tag.toNat 1)

/-- TOTALS_RESET (R436). -/
def execTotalsReset (ch : Channel) (tag : BitVec 16) (s : State) : Host.Outcome State Fault Refusal :=
  .next (s.hostAction ch 0x5070 2 tag.toNat 1)

/-- DC_ENERGY_RESET (R439). -/
def execDcEnergyReset (ch : Channel) (r : RailId) (tag : BitVec 16) (s : State) : Host.Outcome State Fault Refusal :=
  .next (s.hostAction ch (railIx r 0x60) 3 tag.toNat 1)

/-- SUPPLY_QUALITY_CLEAR_COUNTS (R454). -/
def execSupplyQualityClearCounts (ch : Channel) (tag : BitVec 16) (s : State) : Host.Outcome State Fault Refusal :=
  .next (s.hostAction ch 0x5068 0x11 tag.toNat 1)

/-! ### Events and Outline mode (R462, R469, R470, R473, R488, R489) -/

/-- EVENT_RESPONSE_WRITE (R462). -/
def execEventResponseWrite (ch : Channel) (event : Fin 640) (entry : Byte) (s : State) : Host.Outcome State Fault Refusal :=
  .next (s.hostWrite ch (0x2310 + event.val / 128) (event.val % 128 + 1) [entry])

/-- EVENT_CLEAR (R469). -/
def execEventClear (ch : Channel) (tag : BitVec 16) (event : Fin 640) (s : State) : Host.Outcome State Fault Refusal :=
  .next (s.hostAction ch 0x2300 2 tag.toNat event.val)

/-- EVENT_CLEAR_ALL (R469). -/
def execEventClearAll (ch : Channel) (tag : BitVec 16) (s : State) : Host.Outcome State Fault Refusal :=
  .next (s.hostAction ch 0x2300 2 tag.toNat 0x0FFF)

/-- ACKNOWLEDGE (R470). -/
def execAcknowledge (ch : Channel) (tag : BitVec 16) (s : State) : Host.Outcome State Fault Refusal :=
  .next (s.hostAction ch 0x2300 3 tag.toNat 1)

/-- INTERRUPT_CLEAR (R473). -/
def execInterruptClear (ch : Channel) (tag : BitVec 16) (flags : BitVec 4) (s : State) : Host.Outcome State Fault Refusal :=
  .next (s.hostAction ch 0x2320 2 tag.toNat flags.toNat)

/-- OUTLINE_ENTER (R488). -/
def execOutlineEnter (ch : Channel) (tag : BitVec 16) (s : State) : Host.Outcome State Fault Refusal :=
  .next (s.hostAction ch 0x2300 4 tag.toNat 1)

/-- OUTLINE_LEAVE (R488). -/
def execOutlineLeave (ch : Channel) (tag : BitVec 16) (s : State) : Host.Outcome State Fault Refusal :=
  .next (s.hostAction ch 0x2300 4 tag.toNat 2)

/-- OUTLINE_SET_COMMIT (R489). -/
def execOutlineSetCommit (ch : Channel) (tag : BitVec 16) (s : State) : Host.Outcome State Fault Refusal :=
  .next (s.hostAction ch 0x2340 1 tag.toNat 1)

/-! ### Log and calendar (R529, R534, R539, R541) -/

/-- LOG_ERASE (R534). -/
def execLogErase (ch : Channel) (tag : BitVec 16) (scope : Fin 3) (s : State) : Host.Outcome State Fault Refusal :=
  .next (s.hostAction ch 0x5800 1 tag.toNat (scope.val + 1))

/-- LOG_CURSOR_WRITE (R529). -/
def execLogCursorWrite (ch : Channel) (seq : BitVec 32) (s : State) : Host.Outcome State Fault Refusal :=
  .next (s.hostWrite ch 0x5810 1 (leBytes 4 seq.toNat))

/-- CALENDAR_TIME_WRITE (R539). -/
def execCalendarTimeWrite (ch : Channel) (time : BitVec 64) (s : State) : Host.Outcome State Fault Refusal :=
  .next (s.hostWrite ch 0x5820 1 (leBytes 8 time.toNat))

/-- RTC_TRIM_WRITE (R541). -/
def execRtcTrimWrite (ch : Channel) (trim : BitVec 16) (s : State) : Host.Outcome State Fault Refusal :=
  .next (s.hostWrite ch 0x5820 3 (leBytes 2 trim.toNat))

/-! ### Sessions, keys, the access map and the lifecycle (R563–R566, R569, R572) -/

/-- SESSION_CHALLENGE (R563). -/
def execSessionChallenge (ch : Channel) (tag : BitVec 16) (level : BitVec 16) (s : State) : Host.Outcome State Fault Refusal :=
  .next (s.hostAction ch 0x2020 1 tag.toNat level.toNat)

/-- SESSION_RESPONSE (R564). -/
def execSessionResponse (ch : Channel) (m : List Byte) (s : State) : Host.Outcome State Fault Refusal :=
  .next (s.hostWrite ch 0x2020 3 m)

/-- SESSION_CLOSE (R565). -/
def execSessionClose (ch : Channel) (tag : BitVec 16) (s : State) : Host.Outcome State Fault Refusal :=
  .next (s.hostAction ch 0x2020 5 tag.toNat 1)

/-- KEY_WRITE (R566). -/
def execKeyWrite (ch : Channel) (oem : Bool) (key : List Byte) (s : State) : Host.Outcome State Fault Refusal :=
  .next (s.hostWrite ch 0x2020 (if oem then 9 else 8) key)

/-- ACCESS_MAP_COMMIT (R569). -/
def execAccessMapCommit (ch : Channel) (tag : BitVec 16) (s : State) : Host.Outcome State Fault Refusal :=
  .next (s.hostAction ch 0x2028 0x42 tag.toNat 1)

/-- LIFECYCLE_TO_OEM_BUILD (R572). -/
def execLifecycleToOemBuild (ch : Channel) (tag : BitVec 16) (s : State) : Host.Outcome State Fault Refusal :=
  .next (s.hostAction ch 0x2030 2 tag.toNat 1)

/-- LIFECYCLE_TO_FIELD (R572). -/
def execLifecycleToField (ch : Channel) (tag : BitVec 16) (s : State) : Host.Outcome State Fault Refusal :=
  .next (s.hostAction ch 0x2030 2 tag.toNat 2)

/-- LIFECYCLE_TO_SERVICE (R574). -/
def execLifecycleToService (ch : Channel) (tag : BitVec 16) (s : State) : Host.Outcome State Fault Refusal :=
  .next (s.hostAction ch 0x2030 2 tag.toNat 3)

/-- LIFECYCLE_TO_RETIRED (R575). -/
def execLifecycleToRetired (ch : Channel) (tag : BitVec 16) (s : State) : Host.Outcome State Fault Refusal :=
  .next (s.hostAction ch 0x2030 2 tag.toNat 4)

/-! ### Firmware (R577–R582) -/

/-- FIRMWARE_DOWNLOAD (R577). -/
def execFirmwareDownload (ch : Channel) (data : List Byte) (first : Bool) (last : Bool) (s : State) : Host.Outcome State Fault Refusal :=
  .next (s.hostSegment ch data first last)

/-- PROGRAM_START (R582). -/
def execProgramStart (ch : Channel) (s : State) : Host.Outcome State Fault Refusal :=
  .next (s.hostWrite ch 0x1F51 1 [1])

/-- PROGRAM_CLEAR (R582). -/
def execProgramClear (ch : Channel) (s : State) : Host.Outcome State Fault Refusal :=
  .next (s.hostWrite ch 0x1F51 1 [3])

/-- ACTIVATE_BANK (R579). -/
def execActivateBank (ch : Channel) (tag : BitVec 16) (bankB : Bool) (s : State) : Host.Outcome State Fault Refusal :=
  .next (s.hostAction ch 0x2040 9 tag.toNat (if bankB then 2 else 1))

/-- CONFIRM_BANK (R580). -/
def execConfirmBank (ch : Channel) (tag : BitVec 16) (s : State) : Host.Outcome State Fault Refusal :=
  .next (s.hostAction ch 0x2040 0x0A tag.toNat 1)

end Sys2Proof.Machine
end

