-- ==== Sys2Proof/Machine/Can.lean ====
section
/-! DEFINITION. The CAN port (chapter 02): NMT, heartbeat and bus conditions (R52–R61), PDOs, SYNC and TIME (R65–R73),
EMCY and the transmit queue (R74), and LSS (R50). -/

namespace Sys2Proof.Machine

/-! ### NMT (R52–R57) -/

/-- The state with the CAN port changed. -/
def State.modCan (s : State) (f : Can → Can) : State := (s.setCan (f s.can))

/-- The device takes NMT, heartbeat, SDO, PDO, SYNC and TIME frames: without a node-ID it answers LSS only (R51). -/
def State.participates (s : State) : Bool := s.listens && s.nodeId.isSome

/-- A frame that stays in Stopped: heartbeat and LSS (R54). -/
def TxFrame.staysStopped (f : TxFrame) : Bool :=
  match f with | .heartbeat _ => true | .bootUp => true | .lss _ => true | _ => false

/-- The data of an EMCY frame. -/
def TxFrame.emcyData (f : TxFrame) : List (List Byte) := match f with | .emcy d => [d] | _ => []

/-- Every open SDO and USDO transfer ends without a frame, and no answer is owed (R54). -/
def State.endTransfers (s : State) : State :=
  let s := (s.abandonRead .sdo).abandonDownload .sdo
  let s := s.can.usdo.foldl (fun (s : State) (c : Nat × Transfer) =>
    (s.abandonRead (.usdo (BitVec.ofNat 7 c.1))).abandonDownload (.usdo (BitVec.ofNat 7 c.1))) s
  s.modCan fun c => { c with transfer := .none, usdo := [], usdoIdle := [], sdoOwed := none, usdoOwed := [], sdoWaiting := [],
                             usdoWaiting := [] }

/-- Operational is entered (R612). -/
def State.enterOperational (s : State) : State :=
  s.modCan fun c => { c with nmt := .operational, startHeld := false, tpdo := Vector.replicate 4 {} }

/-- RPDO values held are dropped where Operational is left. -/
def State.dropHeld (s : State) : State := s.modCan fun c => { c with rpdoHeld := Vector.replicate 4 [] }

/-- Pre-operational is entered: enabled rails soft-stop (R53, R54). TPDO frames that wait are still sent (DESIGN CHOICE,
log 104). -/
def State.enterPreOperational (s : State) : State :=
  ((s.dropHeld.modCan fun c => { c with nmt := .preOperational, startHeld := false }).softStopAll 3).pumpEmcy

/-- Stopped is entered (R54): rails soft-stop; only NMT, heartbeat and LSS remain; EMCY frames not yet sent are held. -/
def State.enterStopped (s : State) : State :=
  let s := s.endTransfers.dropHeld
  let emcy := s.can.tx.flatMap TxFrame.emcyData
  let s := s.modCan fun c => { c with nmt := .stopped, startHeld := false, tx := c.tx.filter TxFrame.staysStopped,
                                      emcyHeld := emcy ++ c.emcyHeld }
  s.softStopAll 3

/-- NMT Start (R54, R57): held until full service. -/
def State.nmtStart (s : State) : State :=
  if s.can.nmt == .operational then s
  else if s.fullService then
    let s := s.enterOperational
    s.pumpEmcy
  else s.modCan fun c => { c with startHeld := true }

/-- An NMT command is for this device: its node-ID, or 0 for all. -/
def State.nmtFor (s : State) (node : BitVec 7) : Bool :=
  s.participates && (node == 0 || s.nodeId == some node.toNat)

/-- NMT_START (R54). -/
def execNmtStart (node : BitVec 7) (s : State) : Host.Outcome State Fault Refusal :=
  if s.nmtFor node then .next s.nmtStart else .next s

/-- NMT_ENTER_PRE_OPERATIONAL (R54). -/
def execNmtEnterPreOperational (node : BitVec 7) (s : State) : Host.Outcome State Fault Refusal :=
  if s.nmtFor node then .next s.enterPreOperational else .next s

/-- NMT_STOP (R54). -/
def execNmtStop (node : BitVec 7) (s : State) : Host.Outcome State Fault Refusal :=
  if s.nmtFor node then .next s.enterStopped else .next s

/-- The objects of area 02 take their stored values, and their defaults where none is stored (R48, R54, R80). -/
def State.reloadComm (s : State) : State :=
  let stored := match s.storedParams with | some c => c.od | none => []
  let s := (s.setOd (s.od.filter fun (c : Nat × Int) => !storable 2 c.1))
  (s.overlay ⟨0, stored.filter (fun (c : Nat × Int) => storable 2 c.1), []⟩).loadNode

/-- The CAN channels lose their tags, and their sessions end with reason 2 (R83, R565). -/
def State.resetChannels (s : State) : State :=
  let chs := Channel.sdo :: s.clients.usdo.map fun (c : Nat × Client) => Channel.usdo (BitVec.ofNat 7 c.1)
  chs.foldl (fun (s : State) (ch : Channel) => (s.modClient ch fun c => { c with tags := [] }).endSession ch 2) s

/-- The port as NMT Reset communication leaves it, but for what the bus has done to it. -/
def State.freshPort (s : State) : State :=
  let fd := s.fullService && s.obj 0x2008 1 == 1
  s.modCan fun c => { c with nmt := .initialising, startHeld := false, fd := fd, monitored := Vector.replicate 4 false,
                             rpdoHeld := Vector.replicate 4 [], tpdo := Vector.replicate 4 {}, syncOut := 0, lss := {} }

/-- NMT Reset communication (R54). -/
def State.resetCommunication (s : State) : State :=
  let s := (s.softStopAll 3).endTransfers.emptyTx
  s.resetChannels.reloadComm.freshPort.bootUp

/-- NMT_RESET_COMMUNICATION (R54). -/
def execNmtResetCommunication (node : BitVec 7) (s : State) : Host.Outcome State Fault Refusal :=
  if s.nmtFor node then .next s.resetCommunication else .next s

/-- NMT_RESET_NODE (R54). -/
def execNmtResetNode (node : BitVec 7) (s : State) : Host.Outcome State Fault Refusal :=
  if s.nmtFor node then .next (s.causeReset 4) else .next s

/-! ### Heartbeat and the bus (R58–R61) -/

/-- The NMT state as the heartbeat carries it (R58). -/
def Nmt.code (n : Nmt) : Nat :=
  match n with | .initialising => 0 | .stopped => 4 | .operational => 5 | .preOperational => 0x7F

/-- Whether a frame is a heartbeat. -/
def TxFrame.isHeartbeat (f : TxFrame) : Bool := match f with | .heartbeat _ => true | _ => false

/-- A heartbeat is sent, in place of one that still waits. -/
def State.sendHeartbeat (s : State) : State :=
  (s.modCan fun c => { c with tx := c.tx.filter fun (f : TxFrame) => !f.isHeartbeat }).sendCan (.heartbeat s.can.nmt.code)

/-- HEARTBEAT_PERIOD_EXPIRY (R58): 0 in 1017 disables it. -/
def execHeartbeatPeriodExpiry (s : State) : Host.Outcome State Fault Refusal :=
  if s.serving && s.canSends && s.nat 0x1017 0 != 0 then .next s.sendHeartbeat else .next s

/-- The producer a consumer entry watches; none where it is disabled (R59). -/
def State.watched (s : State) (e : Fin 4) : Option Nat :=
  let v := s.nat 0x1016 (1 + e.val)
  if v % 65536 = 0 then none else some (bits v 23 16)

/-- The instance data of CM_HB_TIMEOUT (R509). -/
def State.entryData (s : State) (e : Fin 4) : Nat :=
  evData [evU 1 (e.val + 1 : Nat), evU 1 (bits (s.nat 0x1016 (1 + e.val)) 23 16 : Nat)]

/-- A heartbeat of a watched producer (R59). -/
def State.heardFrom (s : State) (node : Nat) : State :=
  (List.finRange 4).foldl (fun (s : State) (e : Fin 4) =>
    if s.watched e = some node then
      (s.modCan fun c => { c with monitored := c.monitored.set e true }).endEvent cmHbTimeout (s.entryData e)
    else s) s

/-- HEARTBEAT_RECEIVED (R59): from full service on. -/
def execHeartbeatReceived (node : BitVec 7) (_state : Byte) (s : State) : Host.Outcome State Fault Refusal :=
  if s.participates && s.fullService then .next (s.heardFrom node.toNat) else .next s

/-- A communication error applies 1029:01 (R60), once the boot-up message has been sent. -/
def State.commError (s : State) : State :=
  if s.can.nmt = .initialising then s
  else if s.obj 0x1029 1 = 0 then s.enterPreOperational
  else if s.obj 0x1029 1 = 2 then s.enterStopped
  else s

/-- A monitored producer is silent (R59). -/
def State.missed (s : State) (e : Fin 4) : State :=
  let s := s.modCan fun c => { c with monitored := c.monitored.set e false }
  (s.raise cmHbTimeout (s.entryData e)).commError

/-- HEARTBEAT_TIMEOUT (R59, R61). -/
def execHeartbeatTimeout (entry : Fin 4) (s : State) : Host.Outcome State Fault Refusal :=
  if s.serving && s.can.monitored[entry] && (s.watched entry).isSome then .next (s.missed entry) else .next s

/-- Bus-off (R60, R61). -/
def State.goBusOff (s : State) (tec : Nat) : State :=
  let s := s.modCan fun c => { c with busOff := true, busOffAt := s.life.up, passive := false }
  ((s.endEvent cmErrorPassive).raise cmBusOff (evData [evU 1 tec])).commError

/-- CAN_BUS_OFF (R61). -/
def execCanBusOff (tec : Nat) (_rec : Nat) (s : State) : Host.Outcome State Fault Refusal :=
  if s.serving && !s.can.busOff && s.funcState 8 == 0 then .next (s.goBusOff tec) else .next s

/-- The device is back on the bus (R61). -/
def State.rejoin (s : State) : State :=
  let ms := s.life.up - s.can.busOffAt
  let s := (s.modCan fun c => { c with busOff := false }).endEvent cmBusOff
  (s.raise cmBusRecovered (evData [evU 4 ms])).pumpEmcy

/-- CAN_BUS_RECOVERED (R61). -/
def execCanBusRecovered (s : State) : Host.Outcome State Fault Refusal :=
  if s.serving && s.can.busOff then .next s.rejoin else .next s

/-- CAN_ERROR_PASSIVE (R615). -/
def execCanErrorPassive (tec : Nat) (rec : Nat) (s : State) : Host.Outcome State Fault Refusal :=
  if s.serving && !s.can.busOff && !s.can.passive then
    .next ((s.modCan fun c => { c with passive := true }).raise cmErrorPassive (evData [evU 1 tec, evU 1 rec]))
  else .next s

/-- ERROR_PASSIVE_TIMEOUT (R60). -/
def execErrorPassiveTimeout (s : State) : Host.Outcome State Fault Refusal :=
  if s.serving && s.can.passive then .next s.commError else .next s

/-- CAN_RX_OVERRUN (R509). -/
def execCanRxOverrun (lost : BitVec 32) (s : State) : Host.Outcome State Fault Refusal :=
  if s.listens then .next (s.raise cmRxOverrun (evData [evU 4 lost.toNat])) else .next s

/-! ### RPDOs (R57, R66–R69, R613) -/

/-- An RPDO value is admitted on reception: its level, its range and the lifecycle (R613, R575). -/
def State.rpdoAdmits (s : State) (e : MapEntry) (raw : List Byte) : Bool :=
  s.lifecycle != 4 && Nat.ble (s.writeRank e.ix e.sub) 1
    && match findRow e.ix e.sub with
       | some r => (r.lengthRule raw).isNone && (r.rangeRule raw).isNone
       | none => false

/-- A target whose rail takes its targets from another source (R69, R285). -/
def State.strangeTarget (s : State) (k : Nat) : Bool :=
  Nat.ble 0x3000 (k / 256) && Nat.blt (k / 256) 0x3500 && k / 256 % 256 == 0x10 && k % 256 == 1
    && s.obj (k / 256) 2 != 1 && s.lifecycle != 4 && !s.serviceOnly (k / 256) (k % 256)

/-- An RPDO value written: refused ones are counted (R613, R285). -/
def State.writeRpdo (s : State) (c : Nat × List Byte) : State :=
  if s.strangeTarget c.1 then s.bump (c.1 / 256 + 0x30) 5
  else
    let out := s.writeObj .rpdo (c.1 / 256) (c.1 % 256) c.2
    let t := out.1
    let r := out.2
    if r.code.isSome then t.bump 0x5F00 9 else t

/-- The values of a frame that are admitted on reception; the others are counted (R613). -/
def State.takeRpdo (s : State) (l : List (MapEntry × List Byte)) : State × List (Nat × List Byte) :=
  l.foldl (fun (a : State × List (Nat × List Byte)) (c : MapEntry × List Byte) =>
    if s.rpdoAdmits c.1 c.2 then (a.1, a.2 ++ [(objKey c.1.ix c.1.sub, c.2)]) else (a.1.bump 0x5F00 9, a.2)) (s, [])

/-- An RPDO frame (R68, R509, R612). -/
def State.takeFrame (s : State) (n : Fin 4) (data : List Byte) : State :=
  let m := s.mapping (0x1600 + n.val)
  if m.isEmpty then s
  else if data.length < (m.map fun (e : MapEntry) => e.size).sum then
    s.raise cmRpdoLength (evData [evU 1 (n.val + 1 : Nat), evU 1 (data.length : Nat)])
  else
    let out := s.takeRpdo (cutValues m data)
    let s := out.1
    let l := out.2
    if s.nat (0x1400 + n.val) 2 ≤ 0xF0 then s.modCan fun c => { c with rpdoHeld := c.rpdoHeld.set n l }
    else l.foldl State.writeRpdo s

/-- RPDO_RECEIVED (R68): in Operational at full service (R55), on a valid RPDO. -/
def execRpdoReceived (n : Fin 4) (data : List Byte) (s : State) : Host.Outcome State Fault Refusal :=
  if s.reaches .rpdo && !s.bit (0x1400 + n.val) 1 31 then .next (s.takeFrame n data) else .next s

/-! ### TPDOs and SYNC (R67, R68, R70, R71, R612) -/

/-- The data of a TPDO now. -/
def State.sampleTpdo (s : State) (n : Nat) : List Byte :=
  (s.mapping (0x1A00 + n)).flatMap fun (e : MapEntry) => s.readBytes .sdo e.ix e.sub

/-- A TPDO may be sent: valid, with something mapped, in Operational at full service (R55, R612). -/
def State.tpdoRuns (s : State) (n : Nat) : Bool :=
  s.fullService && s.can.nmt == .operational && !s.bit (0x1800 + n) 1 31 && s.nat (0x1A00 + n) 0 != 0

/-- What a TPDO holds, changed. -/
def State.modTpdo (s : State) (n : Fin 4) (f : Tpdo → Tpdo) : State :=
  s.modCan fun c => { c with tpdo := c.tpdo.set n (f c.tpdo[n]) }

/-- A synchronous TPDO at a SYNC (R70, R612): every SYNC since Operational was entered counts, whatever the TPDO is then. -/
def State.syncTpdo (s : State) (n : Fin 4) : State :=
  let type := s.nat (0x1800 + n.val) 2
  let k := s.can.tpdo[n].count + 1
  let s := s.modTpdo n fun t => { t with count := k }
  let data := s.sampleTpdo n.val
  let due := if type = 0 then s.can.tpdo[n].lastSent != some data else k % type == 0
  if s.tpdoRuns n.val && Nat.ble type 0xF0 && due then s.sendCan (.tpdo n.val data true) else s

/-- A SYNC frame consumed (R55, R68, R70): TPDOs sample first, then the held RPDO values are written together. -/
def State.consumeSync (s : State) : State :=
  if s.fullService && s.can.nmt == .operational then
    let s := (List.finRange 4).foldl State.syncTpdo s
    let held := s.can.rpdoHeld.toList.flatten
    held.foldl State.writeRpdo s.dropHeld
  else s

/-- SYNC_RECEIVED (R68). -/
def execSyncReceived (_counter : Option Byte) (s : State) : Host.Outcome State Fault Refusal :=
  if s.participates then .next s.consumeSync else .next s

/-- SYNC_PERIOD_EXPIRY (R71). -/
def execSyncPeriodExpiry (s : State) : Host.Outcome State Fault Refusal :=
  if s.nat 0x1006 0 != 0 && s.syncAllowed then .next s.produceSync else .next s

/-- The queue without the first synchronous frame of a TPDO. -/
def dropSync (n : Nat) (l : List TxFrame) : List TxFrame :=
  match l with
  | [] => []
  | .tpdo k d true :: rest => if k = n then rest else .tpdo k d true :: dropSync n rest
  | f :: rest => f :: dropSync n rest

/-- TPDO_SYNC_WINDOW_EXPIRY (R70). -/
def execTpdoSyncWindowExpiry (n : Fin 4) (s : State) : Host.Outcome State Fault Refusal :=
  let l := dropSync n.val s.can.tx
  if s.nat 0x1007 0 != 0 && l.length != s.can.tx.length then
    .next ((s.modCan fun c => { c with tx := l }).bump 0x5F00 1)
  else .next s

/-- An event-type TPDO that may be sent (R612). -/
def State.eventTpdo (s : State) (n : Nat) : Bool := s.tpdoRuns n && Nat.blt 0xF0 (s.nat (0x1800 + n) 2)

/-- An event-type TPDO queued with its values of now. -/
def State.queueTpdo (s : State) (n : Fin 4) : State :=
  (s.modTpdo n fun t => { t with changed := false }).sendCan (.tpdo n.val (s.sampleTpdo n.val) false)

/-- A frame of an event-type TPDO waits. -/
def State.tpdoWaits (s : State) (n : Nat) : Bool :=
  s.can.tx.any fun (f : TxFrame) => match f with | .tpdo k _ false => k == n | _ => false

/-- TPDO_VALUE_CHANGE (R612): within the inhibit time the change waits. -/
def execTpdoValueChange (n : Fin 4) (s : State) : Host.Outcome State Fault Refusal :=
  if s.eventTpdo n.val then
    if s.can.tpdo[n].inhibited || (s.nat (0x1800 + n.val) 3 != 0 && s.tpdoWaits n.val) then
      .next (s.modTpdo n fun t => { t with changed := true })
    else .next (s.queueTpdo n)
  else .next s

/-- TPDO_INHIBIT_EXPIRY (R612). -/
def execTpdoInhibitExpiry (n : Fin 4) (s : State) : Host.Outcome State Fault Refusal :=
  let s := s.modTpdo n fun t => { t with inhibited := false }
  if s.eventTpdo n.val && s.can.tpdo[n].changed then .next (s.queueTpdo n) else .next s

/-- TPDO_EVENT_TIMER_EXPIRY (R612). -/
def execTpdoEventTimerExpiry (n : Fin 4) (s : State) : Host.Outcome State Fault Refusal :=
  if s.eventTpdo n.val && s.nat (0x1800 + n.val) 5 != 0 then .next (s.queueTpdo n) else .next s

/-! ### TIME and EMCY (R72–R74) -/

/-- A TIME message (R72). -/
def State.takeTime (s : State) (days ms : Nat) : State :=
  if days < 5844 then s.bump 0x5F00 2 else s.setTime ((days - 5844) * 86400000 + ms) 0

/-- TIME_RECEIVED (R72): from Survey on (R55), with bit 31 of 1012 set, and not in Stopped (R54). -/
def execTimeReceived (days : BitVec 16) (ms : BitVec 28) (s : State) : Host.Outcome State Fault Refusal :=
  if s.participates && s.can.nmt != .stopped && s.bit 0x1012 0 31 then .next (s.takeTime days.toNat ms.toNat)
  else .next s

/-- EMCY_INHIBIT_EXPIRY (R74). -/
def execEmcyInhibitExpiry (s : State) : Host.Outcome State Fault Refusal :=
  .next (s.modCan fun c => { c with emcyInhibited := false }).pumpEmcy

/-- The data-phase rate of a frame: USDO and PDO frames of the CiA 1301 mode are FD frames with bit-rate switching, and
every other frame is a classical one (R46). -/
def State.frameRate (s : State) (f : TxFrame) : Option Nat :=
  match f with
  | .tpdo _ _ _ => if s.can.fd then some s.can.dataRate else none
  | .usdo _ _ _ _ _ => some s.can.dataRate
  | _ => none

/-- What a frame that has been transmitted leaves behind. -/
def State.frameSent (s : State) (f : TxFrame) : State :=
  match f with
  | .emcy _ => (s.modCan fun c => { c with emcyInhibited := s.nat 0x1015 0 != 0 }).pumpEmcy
  | .sync _ => s.consumeSync
  | .tpdo n data sync =>
    let inhibit := !sync && s.nat (0x1800 + n) 3 != 0
    s.modTpdo (Fin.ofNat 4 n) fun t => { t with lastSent := some data, inhibited := t.inhibited || inhibit }
  | _ => s

/-- CAN_FRAME_TRANSMITTED (R74): the oldest frame that waits. A reset lets it complete (R87); bus-off does not (R61). -/
def execCanFrameTransmitted (s : State) : Host.Outcome State Fault Refusal :=
  match s.can.tx with
  | [] => .next s
  | f :: rest =>
    if s.serving && !s.can.busOff then
      .next ((s.modCan fun c => { c with tx := rest, sent := some (f, s.frameRate f) }).frameSent f)
    else .next s

/-! ### LSS (R50) -/

/-- An LSS answer; LSS needs no node-ID (R51). -/
def State.sendLss (s : State) (data : List Byte) : State :=
  if s.life.resetKind.isNone then s.modCan fun c => { c with tx := c.tx ++ [.lss ((data ++ leBytes 8 0).take 8)] } else s

/-- The LSS address: the four entries of 1018. -/
def State.lssAddress (s : State) (entry : Nat) : Nat := (s.readNumber .sdo 0x1018 (1 + entry)).toNat

/-- The LSS subordinate changed. -/
def State.modLss (s : State) (f : Lss → Lss) : State := s.modCan fun c => { c with lss := f c.lss }

/-- An LSS switch-state service. -/
def State.lssSwitch (s : State) (req : LssSwitch) : State :=
  match req with
  | .waiting => s.modLss fun l => { l with configuring := false }
  | .configuration => s.modLss fun l => { l with configuring := true }
  | .selective v p r n =>
    if [v.toNat, p.toNat, r.toNat, n.toNat] == (List.range 4).map s.lssAddress then
      (s.modLss fun l => { l with configuring := true }).sendLss [0x44]
    else s

/-- LSS_SWITCH_STATE (R50). -/
def execLssSwitchState (req : LssSwitch) (s : State) : Host.Outcome State Fault Refusal :=
  if s.listens then .next (s.lssSwitch req) else .next s

/-- The LSS configuration services act in the configuration state. -/
def State.lssConfigures (s : State) : Bool := s.listens && s.can.lss.configuring

/-- A node-ID that LSS may set: 1–127, or 0xFF for none. -/
def lssIdValid (id : Nat) : Bool := (Nat.ble 1 id && Nat.ble id 0x7F) || id == 0xFF

/-- LSS_CONFIGURE_NODE_ID (R50). -/
def execLssConfigureNodeId (id : Byte) (s : State) : Host.Outcome State Fault Refusal :=
  if s.lssConfigures then
    if lssIdValid id.toNat then .next ((s.modLss fun l => { l with nodeId := some id.toNat }).sendLss [0x11])
    else .next (s.sendLss [0x11, 1])
  else .next s

/-- A bit-timing index the device has (R48). -/
def bitIndexValid (v : Nat) : Bool := v == 0 || v == 2 || v == 3 || v == 4

/-- LSS_CONFIGURE_BIT_TIMING (R50). -/
def execLssConfigureBitTiming (selector : Byte) (timing : Byte) (s : State) : Host.Outcome State Fault Refusal :=
  if s.lssConfigures then
    if selector = 0 ∧ bitIndexValid timing.toNat = true then
      .next ((s.modLss fun l => { l with bitIndex := some timing.toNat }).sendLss [0x13])
    else .next (s.sendLss [0x13, 1])
  else .next s

/-- LSS_ACTIVATE_BIT_TIMING (R50). -/
def execLssActivateBitTiming (_delay : BitVec 16) (s : State) : Host.Outcome State Fault Refusal :=
  match s.can.lss.bitIndex with
  | some i =>
    if s.lssConfigures then
      .next ((s.modCan fun c => { c with bitIndex := i }).modLss fun l => { l with activated := true })
    else .next s
  | none => .next s

/-- A store is not possible now (R79, R128, R575). -/
def State.lssStoreRefused (s : State) : Bool :=
  !s.fullService || s.lifecycle == 4 || (s.storeRule 0 0).isSome

/-- An LSS store (R50): the values configured, and source LSS, with area 02. -/
def State.lssStore (s : State) : State :=
  let s := match s.can.lss.bitIndex with | some i => s.putObj 0x2008 2 i | none => s
  let s := match s.can.lss.nodeId with | some n => s.putObj 0x2008 7 n | none => s
  ((s.putObj 0x2008 4 1).startStore none 2 false).sendLss [0x17]

/-- LSS_STORE_CONFIGURATION (R50). -/
def execLssStoreConfiguration (s : State) : Host.Outcome State Fault Refusal :=
  if s.lssConfigures then
    if s.lssStoreRefused then .next (s.sendLss [0x17, 2]) else .next s.lssStore
  else .next s

/-- LSS_INQUIRE_IDENTITY (R50). -/
def execLssInquireIdentity (entry : Fin 4) (s : State) : Host.Outcome State Fault Refusal :=
  if s.lssConfigures then
    .next (s.sendLss (leBytes 1 (0x5A + entry.val) ++ leBytes 4 (s.lssAddress entry.val)))
  else .next s

/-- The bits of the LSS address that a fastscan asks for match. -/
def State.scanMatches (s : State) (id bit sub : Nat) : Bool :=
  sub == s.can.lss.fastPos && Nat.blt bit 32 && s.lssAddress sub / 2 ^ bit == id / 2 ^ bit

/-- A fastscan of a device without a node-ID, in the waiting state. -/
def State.fastscan (s : State) (id bit sub next : Nat) : State :=
  if bit = 0x80 then (s.modLss fun l => { l with fastPos := 0 }).sendLss [0x4F]
  else if s.scanMatches id bit sub then
    let s := if bit = 0 then
        s.modLss fun l => { l with fastPos := next, configuring := decide (next < sub) }
      else s
    s.sendLss [0x4F]
  else s

/-- LSS_FASTSCAN (R50). -/
def execLssFastscan (idNumber : BitVec 32) (bitCheck : Byte) (lssSub : Byte) (lssNext : Byte) (s : State) :
    Host.Outcome State Fault Refusal :=
  if s.listens && s.nodeId.isNone && !s.can.lss.configuring then
    .next (s.fastscan idNumber.toNat bitCheck.toNat lssSub.toNat lssNext.toNat)
  else .next s

end Sys2Proof.Machine
end

