-- ==== Sys2Proof/Machine/Sdo.lean ====
section
/-! DEFINITION. The SDO server (R62, CiA 301 mode) and the USDO server (R64, CiA 1301 mode). -/

namespace Sys2Proof.Machine

/-! ### The SDO server -/

/-- The data of a read by a channel, with what reading does; a log read stays open (R532). -/
def State.readFor (s : State) (ch : Channel) (ix sub : Nat) : State × List Byte :=
  let data := s.readBytes ch ix sub
  let s := (s.readEffect ix sub).touch ch
  if logRead ix sub && !data.isEmpty then (s.startRead ch, data) else (s, data)

/-- The open transfer ends: a log read, or a download that is abandoned (R532, R577). -/
def State.closeSdo (s : State) : State :=
  ((s.modCan fun c => { c with transfer := .none, sdoOwed := none }).abandonRead .sdo).abandonDownload .sdo

/-- An SDO answer. -/
def State.sendSdo (s : State) (frame : List Byte) : State := s.sendCan (.sdo frame)

/-- The answer to a write by its result; a deferred one is owed (R78). -/
def State.answerSdo (s : State) (ix sub : Nat) (r : WriteResult) (ok : List Byte) : State :=
  match r with
  | .done => s.sendSdo ok
  | .abort c => s.sendSdo (sdoAbort ix sub c)
  | .deferred => s.modCan fun c => { c with sdoOwed := some ok }

/-- A whole value written by the SDO server. -/
def State.sdoWrite (s : State) (ix sub : Nat) (data ok : List Byte) : State :=
  let out := s.writeObj .sdo ix sub data
  let s := out.1
  let r := out.2
  (s.recordResult .sdo ix sub r).answerSdo ix sub r ok

/-- A segmented write cannot begin: no such object, or one that is not written (R39). -/
def openRule (ix sub : Nat) : Option Nat :=
  match findRow ix sub with
  | none => some (missing ix)
  | some r => if r.acc = .ro ∨ r.acc = .const then some 0x06010002 else none

/-- An initiate download request: expedited, or the start of a segmented write. -/
def State.sdoOpenWrite (s : State) (frame : List Byte) : State :=
  let (ix, sub) := sdoPlace frame
  let b := byteAt frame 0
  let ok := sdoWriteAnswer ix sub
  if b.testBit 1 then s.sdoWrite ix sub (sdoExpedited frame) ok
  else match openRule ix sub with
    | some c => s.sendSdo (sdoAbort ix sub c)
    | none =>
      let size := if b.testBit 0 then some (leNat (slice frame 4 4)) else none
      (s.modCan fun c => { c with transfer := .download ix sub size [] false }).sendSdo ok

/-- An initiate upload request. -/
def State.sdoOpenRead (s : State) (frame : List Byte) : State :=
  let (ix, sub) := sdoPlace frame
  match s.readRule .sdo ix sub with
  | some c => s.sendSdo (sdoAbort ix sub c)
  | none =>
    let out := s.readFor .sdo ix sub
    let s := out.1
    let data := out.2
    let s := if 1 ≤ data.length ∧ data.length ≤ 4 then s
      else s.modCan fun c => { c with transfer := .upload ix sub data false }
    s.sendSdo (sdoReadAnswer ix sub data)

/-- The open transfer is aborted by the device. -/
def State.abortSdo (s : State) (ix sub code : Nat) : State := s.closeSdo.sendSdo (sdoAbort ix sub code)

/-- A segment of an image goes to the bank as it arrives (R577). -/
def State.sdoImage (s : State) (size : Option Nat) (data seg : List Byte) (toggle last : Bool) : State :=
  let out := s.writePiece .sdo seg data.isEmpty last
  let s := out.1
  let r := out.2
  let s := if last then s.recordResult .sdo 0x1F50 1 r else s
  match r with
  | .abort c => s.abortSdo 0x1F50 1 c
  | r =>
    (s.modCan fun c => { c with transfer := if last then .none
                                            else .download 0x1F50 1 size (data ++ seg) (!toggle) }).answerSdo
      0x1F50 1 r (sdoSegmentAnswer toggle)

/-- A download segment: more than the size said is refused, and the last segment applies the value. -/
def State.sdoDownload (s : State) (ix sub : Nat) (size : Option Nat) (data : List Byte) (toggle : Bool)
    (frame : List Byte) : State :=
  let seg := sdoSegment frame
  let last := sdoLast frame
  let all := data ++ seg
  let wrong := match size with
    | some n => Nat.blt n all.length || (last && n != all.length)
    | none => false
  if wrong then s.abortSdo ix sub 0x06070010
  else if ix = 0x1F50 then s.sdoImage size data seg toggle last
  else if last then
    (s.modCan fun c => { c with transfer := .none }).sdoWrite ix sub all (sdoSegmentAnswer toggle)
  else
    (s.modCan fun c => { c with transfer := .download ix sub size all (!toggle) }).sendSdo (sdoSegmentAnswer toggle)

/-- An upload segment: up to 7 bytes; the last one ends the transfer. -/
def State.sdoUpload (s : State) (ix sub : Nat) (rest : List Byte) (toggle : Bool) : State :=
  let last := Nat.ble rest.length 7
  let frame := sdoReadSegment toggle last (rest.take 7)
  if last then s.closeSdo.sendSdo frame
  else (s.modCan fun c => { c with transfer := .upload ix sub (rest.drop 7) (!toggle) }).sendSdo frame

/-- A request of a client: a segment belongs to the open transfer, and any other request aborts it (R62). -/
def State.sdoServe (s : State) (frame : List Byte) : State :=
  let ccs := sdoCommand frame
  if ccs = 4 then s.closeSdo
  else match s.can.transfer with
    | .download ix sub size data toggle =>
      if ccs ≠ 0 ∨ sdoToggle frame ≠ toggle ∨ s.can.sdoOwed.isSome = true then s.abortSdo ix sub 0x05040001
      else s.sdoDownload ix sub size data toggle frame
    | .upload ix sub rest toggle =>
      if ccs ≠ 3 ∨ sdoToggle frame ≠ toggle then s.abortSdo ix sub 0x05040001 else s.sdoUpload ix sub rest toggle
    | .none =>
      if s.can.sdoOwed.isSome then s.modCan fun c => { c with sdoWaiting := c.sdoWaiting ++ [frame] }
      else if ccs = 1 then s.sdoOpenWrite frame
      else if ccs = 2 then s.sdoOpenRead frame
      else
        let (ix, sub) := if ccs = 0 ∨ ccs = 3 then (0, 0) else sdoPlace frame
        s.sendSdo (sdoAbort ix sub 0x05040001)

/-- A frame on the server's COB-ID: 8 bytes, in CiA 301 mode (R45, R62). -/
def State.sdoRequest (s : State) (frame : List Byte) : State :=
  if s.canServes && !s.can.fd && frame.length == 8 then s.sdoServe frame else s

/-- SDO_DOWNLOAD_INITIATE (R62). -/
def execSdoDownloadInitiate (frame : List Byte) (s : State) : Host.Outcome State Fault Refusal :=
  .next (s.sdoRequest frame)

/-- SDO_DOWNLOAD_SEGMENT (R62). -/
def execSdoDownloadSegment (frame : List Byte) (s : State) : Host.Outcome State Fault Refusal :=
  .next (s.sdoRequest frame)

/-- SDO_UPLOAD_INITIATE (R62). -/
def execSdoUploadInitiate (frame : List Byte) (s : State) : Host.Outcome State Fault Refusal :=
  .next (s.sdoRequest frame)

/-- SDO_UPLOAD_SEGMENT (R62). -/
def execSdoUploadSegment (frame : List Byte) (s : State) : Host.Outcome State Fault Refusal :=
  .next (s.sdoRequest frame)

/-- SDO_ABORT_TRANSFER (R62). -/
def execSdoAbortTransfer (frame : List Byte) (s : State) : Host.Outcome State Fault Refusal :=
  .next (s.sdoRequest frame)

/-! ### The USDO server (R64) -/

/-- The data bytes of one USDO frame (CiA 1301; log 13). -/
def usdoBytes : Nat := 56

/-- The open transfer of a client. -/
def State.usdoTransfer (s : State) (n : BitVec 7) : Transfer := (cellGet s.can.usdo n.toNat).getD .none

/-- A client's transfer opened or continued. -/
def State.putUsdo (s : State) (n : BitVec 7) (t : Transfer) : State :=
  s.modCan fun c => { c with usdo := if t = .none then cellDrop c.usdo n.toNat else cellPut c.usdo n.toNat t,
                             usdoIdle := c.usdoIdle.filter (· != n.toNat) ++ (if t = .none then [] else [n.toNat]) }

/-- A client's transfer ends. -/
def State.closeUsdo (s : State) (n : BitVec 7) : State :=
  (((s.putUsdo n .none).modCan fun c => { c with usdoOwed := c.usdoOwed.erase n.toNat }).abandonRead (.usdo n)).abandonDownload
    (.usdo n)

/-- A USDO answer. -/
def State.sendUsdo (s : State) (n : BitVec 7) (ix sub : Nat) (abort : Option Nat) (data : List Byte) : State :=
  s.sendCan (.usdo n.toNat ix sub abort data)

/-- The answer to a write by its result. -/
def State.answerUsdo (s : State) (n : BitVec 7) (ix sub : Nat) (r : WriteResult) : State :=
  match r with
  | .deferred => s.modCan fun c => { c with usdoOwed := c.usdoOwed ++ [n.toNat] }
  | r => s.sendUsdo n ix sub r.code []

/-- A whole value written by a client. -/
def State.usdoWrite (s : State) (n : BitVec 7) (ix sub : Nat) (data : List Byte) : State :=
  let out := s.writeObj (.usdo n) ix sub data
  let s := out.1
  let r := out.2
  (s.recordResult (.usdo n) ix sub r).answerUsdo n ix sub r

/-- A piece of an image from a client (R577). -/
def State.usdoImage (s : State) (n : BitVec 7) (data piece : List Byte) (last : Bool) : State :=
  let out := s.writePiece (.usdo n) piece data.isEmpty last
  let s := out.1
  let r := out.2
  let s := if last then s.recordResult (.usdo n) 0x1F50 1 r else s
  match r with
  | .abort c => (s.closeUsdo n).sendUsdo n 0x1F50 1 (some c) []
  | r => (s.putUsdo n (if last then .none else .download 0x1F50 1 none (data ++ piece) false)).answerUsdo n 0x1F50 1 r

/-- The first frame of a segmented write. -/
def State.usdoOpenWrite (s : State) (n : BitVec 7) (ix sub : Nat) (data : List Byte) : State :=
  match openRule ix sub with
  | some c => s.sendUsdo n ix sub (some c) []
  | none =>
    if ix = 0x1F50 then s.usdoImage n [] data false
    else (s.putUsdo n (.download ix sub none data false)).sendUsdo n ix sub none []

/-- A further frame of a segmented write. -/
def State.usdoDownload (s : State) (n : BitVec 7) (ix sub : Nat) (data piece : List Byte) (last : Bool) : State :=
  if ix = 0x1F50 then s.usdoImage n data piece last
  else if last then (s.putUsdo n .none).usdoWrite n ix sub (data ++ piece)
  else (s.putUsdo n (.download ix sub none (data ++ piece) false)).sendUsdo n ix sub none []

/-- The next frame of a read: what fits one frame; the last one ends the transfer. -/
def State.usdoUpload (s : State) (n : BitVec 7) (ix sub : Nat) (rest : List Byte) : State :=
  let s := if rest.length ≤ usdoBytes then s.closeUsdo n
           else s.putUsdo n (.upload ix sub (rest.drop usdoBytes) false)
  s.sendUsdo n ix sub none (rest.take usdoBytes)

/-- A read. -/
def State.usdoRead (s : State) (n : BitVec 7) (ix sub : Nat) : State :=
  match s.readRule (.usdo n) ix sub with
  | some c => s.sendUsdo n ix sub (some c) []
  | none =>
    let out := s.readFor (.usdo n) ix sub
    let s := out.1
    let data := out.2
    s.usdoUpload n ix sub data

/-- A request of a client that has a transfer open: its next frame, else the transfer is aborted (R62). -/
def State.usdoContinue (s : State) (n : BitVec 7) (t : Transfer) (req : UsdoReq) : State :=
  match t, req with
  | .download ix sub _ data _, .downloadSegment piece last =>
    if s.can.usdoOwed.contains n.toNat then (s.closeUsdo n).sendUsdo n ix sub (some 0x05040001) []
    else s.usdoDownload n ix sub data piece last
  | .upload ix sub rest _, .uploadSegment => s.usdoUpload n ix sub rest
  | .download ix sub _ _ _, _ => (s.closeUsdo n).sendUsdo n ix sub (some 0x05040001) []
  | .upload ix sub _ _, _ => (s.closeUsdo n).sendUsdo n ix sub (some 0x05040001) []
  | .none, _ => s

/-- A request of a client without a transfer. -/
def State.usdoOpen (s : State) (n : BitVec 7) (req : UsdoReq) : State :=
  match req with
  | .download ix sub data => s.usdoWrite n ix.toNat sub.toNat data
  | .downloadOpen ix sub data => s.usdoOpenWrite n ix.toNat sub.toNat data
  | .upload ix sub => s.usdoRead n ix.toNat sub.toNat
  | .downloadSegment _ _ => s.sendUsdo n 0 0 (some 0x05040001) []
  | .uploadSegment => s.sendUsdo n 0 0 (some 0x05040001) []
  | .abort => s

/-- A request served. -/
def State.usdoServe (s : State) (n : BitVec 7) (req : UsdoReq) : State :=
  if req = .abort then s.closeUsdo n
  else if s.usdoTransfer n ≠ .none then s.usdoContinue n (s.usdoTransfer n) req
  else if s.can.usdoOwed.contains n.toNat then
    s.modCan fun c => { c with usdoWaiting := c.usdoWaiting ++ [(n, req)] }
  else s.usdoOpen n req

/-- USDO_REQUEST (R64): in CiA 1301 mode; a broadcast is ignored, and at most four transfers are open at once. -/
def execUsdoRequest (client : BitVec 7) (broadcast : Bool) (req : UsdoReq) (s : State) :
    Host.Outcome State Fault Refusal :=
  if s.reaches (.usdo client) && !broadcast then .next (s.usdoServe client req) else .next s

/-! ### The transfer timeout (R43) -/

/-- The object of an open transfer. -/
def Transfer.place (t : Transfer) : Option (Nat × Nat) :=
  match t with
  | .download ix sub _ _ _ => some (ix, sub)
  | .upload ix sub _ _ => some (ix, sub)
  | .none => Option.none

/-- The USDO transfer idle longest is aborted; one that waits for the device is not idle. -/
def State.usdoTimeout (s : State) : State :=
  match s.can.usdoIdle.find? fun (c : Nat) => !s.can.usdoOwed.contains c with
  | none => s
  | some c =>
    let n : BitVec 7 := BitVec.ofNat 7 c
    match (s.usdoTransfer n).place with
    | some (ix, sub) => (s.closeUsdo n).sendUsdo n ix sub (some 0x05040000) []
    | none => s

/-- A segmented transfer has been idle for more than 1000 ms: that of the SDO server, else that of the USDO client idle
longest. -/
def State.transferTimeout (s : State) : State :=
  match s.can.transfer.place with
  | some (ix, sub) => if s.can.sdoOwed.isSome then s else s.abortSdo ix sub 0x05040000
  | none => s.usdoTimeout

/-- SDO_TRANSFER_TIMEOUT (R43). -/
def execSdoTransferTimeout (s : State) : Host.Outcome State Fault Refusal := .next s.transferTimeout

/-! ### Requests that waited -/

/-- The CAN requests that came while an answer was awaited are served in their order. -/
def State.resumeCan (s : State) : State :=
  let sdo := s.can.sdoWaiting
  let usdo := s.can.usdoWaiting
  let s := s.modCan fun c => { c with sdoWaiting := [], usdoWaiting := [] }
  let s := sdo.foldl State.sdoServe s
  usdo.foldl (fun (s : State) (c : BitVec 7 × UsdoReq) => s.usdoServe c.1 c.2) s

end Sys2Proof.Machine
end

