-- ==== Sys2Proof/Machine/Gsp.lean ====
section
/-! DEFINITION. The GSP session over USB (R547–R560): frames checked, repeats answered from the cache, and the requests
by type; and the commands whose completion answers a request that waits. -/

namespace Sys2Proof.Machine

/-! ### Frames (R549–R554) -/

/-- The GSP session changed. -/
def State.modGsp (s : State) (f : Gsp → Gsp) : State := (s.setGsp (f s.gsp))

/-- A protocol refusal (R551). -/
def State.nak (s : State) (f : GspFrame) (reason : Nat) : State :=
  (s.modGsp fun g => { g with out := g.out ++ [gspFrame f.seq 0xFE f.ix f.sub (leBytes 1 reason)] }).bump 0x2510 8

/-- A dictionary refusal (R550). -/
def State.gspAbort (s : State) (f : GspFrame) (code : Nat) : State := s.gspRespond f.request 0xFF (leBytes 4 code)

/-- The answer to a write by its result; a deferred one stays outstanding (R554). -/
def State.gspAnswer (s : State) (f : GspFrame) (r : WriteResult) : State :=
  match r with
  | .deferred => s.modGsp fun g => { g with request := some f.request }
  | r => s.gspWritten f.request r.code

/-! ### Reads and writes (R550) -/

/-- READ. -/
def State.gspRead (s : State) (f : GspFrame) : State :=
  match s.readRule .gsp f.ix f.sub with
  | some c => s.gspAbort f c
  | none =>
    let data := s.readBytes .gsp f.ix f.sub
    if 512 < data.length then s.gspAbort f 0x06070010
    else ((s.readEffect f.ix f.sub).touch .gsp).gspRespond f.request 0x81 data

/-- A whole value written. -/
def State.gspWriteValue (s : State) (f : GspFrame) (data : List Byte) : State :=
  let out := s.writeObj .gsp f.ix f.sub data
  let s := out.1
  let r := out.2
  (s.recordResult .gsp f.ix f.sub r).gspAnswer f r

/-! ### Block transfers (R555–R558) -/

/-- The open block transfer is abandoned. -/
def State.closeBlock (s : State) : State :=
  ((s.modGsp fun g => { g with block := none, aborted := none }).abandonRead .gsp).abandonDownload .gsp

/-- A segment that does not open a transfer: an abandoned one is answered once, another object or direction is BUSY,
and another offset is BLOCK_ORDER. -/
def State.nextSegment (s : State) (f : GspFrame) (write : Bool) (go : GspBlock → State) : State :=
  match s.gsp.aborted with
  | some c => (s.modGsp fun g => { g with aborted := none }).gspAbort f c
  | none =>
    match s.gsp.block with
    | none => s.nak f 5
    | some b =>
      if b.write ≠ write ∨ b.ix ≠ f.ix ∨ b.sub ≠ f.sub then s.nak f 6
      else if f.segment.2.1 ≠ b.next then s.nak f 5
      else go b

/-- A segment of a block read sent. -/
def State.sendSegment (s : State) (f : GspFrame) (b : GspBlock) : State :=
  let chunk := slice b.data b.next 504
  let next := b.next + chunk.length
  let last := Nat.ble b.data.length next
  let s := if last then s.closeBlock else s.modGsp fun g => { g with block := some { b with next := next } }
  (s.touch .gsp).gspRespond f.request 0x83 (segmentHeader last b.next ++ chunk)

/-- BLOCK_READ (R556). -/
def State.gspBlockRead (s : State) (f : GspFrame) : State :=
  if f.segment.2.1 = 0 then
    let s := s.closeBlock
    match s.readRule .gsp f.ix f.sub with
    | some c => s.gspAbort f c
    | none =>
      let out := s.readFor .gsp f.ix f.sub
      let s := out.1
      let data := out.2
      s.sendSegment f ⟨false, f.ix, f.sub, data, 0⟩
  else s.nextSegment f false (s.sendSegment f)

/-- A segment of an image goes to the bank as it arrives (R577). -/
def State.gspImage (s : State) (f : GspFrame) (b : GspBlock) : State :=
  let (last, _, chunk) := f.segment
  let out := s.writePiece .gsp chunk (b.next == 0) last
  let s := out.1
  let r := out.2
  let s := if last then s.recordResult .gsp 0x1F50 1 r else s
  match r with
  | .abort c => s.closeBlock.gspAbort f c
  | r =>
    (s.modGsp fun g => { g with block := if last then none
                                         else some { b with next := b.next + chunk.length } }).gspAnswer f r

/-- A segment of a block write taken: the last one applies the whole value (R557). -/
def State.takeSegment (s : State) (f : GspFrame) (b : GspBlock) : State :=
  let (last, _, chunk) := f.segment
  if f.ix = 0x1F50 ∧ f.sub = 1 then s.gspImage f b
  else if last then (s.modGsp fun g => { g with block := none }).gspWriteValue f (b.data ++ chunk)
  else
    let b := { b with data := b.data ++ chunk, next := b.next + chunk.length }
    ((s.modGsp fun g => { g with block := some b }).touch .gsp).gspWritten f.request none

/-- BLOCK_WRITE (R557). -/
def State.gspBlockWrite (s : State) (f : GspFrame) : State :=
  if f.segment.2.1 = 0 then s.closeBlock.takeSegment f ⟨true, f.ix, f.sub, [], 0⟩
  else s.nextSegment f true (s.takeSegment f)

/-! ### Stream and PING (R549, R559) -/

/-- SUBSCRIBE. -/
def State.gspSubscribe (s : State) (f : GspFrame) : State :=
  let s := (s.putObj 0x2510 5 (byteAt f.payload 0)).touch .gsp
  s.gspRespond f.request 0x85 (leBytes 4 s.nextSeqRead)

/-- UNSUBSCRIBE. -/
def State.gspUnsubscribe (s : State) (f : GspFrame) : State :=
  let s := (s.modGsp fun g => { g with events := [] }).putObj 0x2510 5 0xFF
  (s.touch .gsp).gspRespond f.request 0x86 []

/-- PING. -/
def State.gspPing (s : State) (f : GspFrame) : State :=
  let data := leBytes 1 s.lifecycle ++ leBytes 1 s.power ++ leBytes 1 (s.channelLevel .gsp).rank ++ leBytes 1 s.stage
    ++ leBytes 4 (s.life.up / 1000)
  (s.touch .gsp).gspRespond f.request 0x87 data

/-! ### Serving -/

/-- A request executed, by its type. -/
def State.gspExecute (s : State) (f : GspFrame) : State :=
  match f.type with
  | 1 => s.gspRead f
  | 2 => s.gspWriteValue f f.payload
  | 3 => s.gspBlockRead f
  | 4 => s.gspBlockWrite f
  | 5 => s.gspSubscribe f
  | 6 => s.gspUnsubscribe f
  | _ => s.gspPing f

/-- A request served (R551, R553). -/
def State.gspServe (s : State) (f : GspFrame) : State :=
  match f.error with
  | some r => s.nak f r
  | none =>
    match s.gsp.cache.find? fun (c : Nat × Nat × List Byte) => c.1 == f.seq with
    | some c =>
      if c.2.1 = f.crc then (s.modGsp fun g => { g with out := g.out ++ [c.2.2] }).bump 0x2510 9 else s.nak f 4
    | none => s.gspExecute f

/-- A decoded frame: served, or held while a request is served, at most 4 (R554). -/
def State.gspDecoded (s : State) (bytes : List Byte) : State :=
  match gspParse bytes with
  | none => s.bump 0x2510 7
  | some f =>
    if s.gsp.request.isNone then s.gspServe f
    else if s.gsp.waiting.length < 4 then s.modGsp fun g => { g with waiting := g.waiting ++ [bytes] }
    else s.bump 0x2510 7

/-- What stands between two delimiters; an empty frame is ignored (R547, R549). -/
def State.gspFrameIn (s : State) (frame : List Byte) : State :=
  if frame.isEmpty || !s.reaches .gsp then s
  else
    let s := s.bump 0x2510 6
    match cobsDecode (frame ++ [0]) with
    | none => s.bump 0x2510 7
    | some bytes => s.gspDecoded bytes

/-- The frames that waited are served, until a request stays outstanding again. -/
def State.drainGsp (n : Nat) (s : State) : State :=
  match n with
  | 0 => s
  | m + 1 =>
    if s.gsp.request.isSome then s
    else match s.gsp.waiting with
      | [] => s
      | bytes :: rest => State.drainGsp m ((s.modGsp fun g => { g with waiting := rest }).gspDecoded bytes)

/-- The requests that waited for an answer are served (R554). -/
def State.resume (s : State) : State := State.drainGsp 4 s.resumeCan

/-! ### The rows -/

/-- GSP_READ (R550): a frame is served by the type it carries. -/
def execGspRead (frame : List Byte) (s : State) : Host.Outcome State Fault Refusal := .next (s.gspFrameIn frame)

/-- GSP_WRITE (R550). -/
def execGspWrite (frame : List Byte) (s : State) : Host.Outcome State Fault Refusal := .next (s.gspFrameIn frame)

/-- GSP_BLOCK_READ (R556). -/
def execGspBlockRead (frame : List Byte) (s : State) : Host.Outcome State Fault Refusal := .next (s.gspFrameIn frame)

/-- GSP_BLOCK_WRITE (R557). -/
def execGspBlockWrite (frame : List Byte) (s : State) : Host.Outcome State Fault Refusal := .next (s.gspFrameIn frame)

/-- GSP_SUBSCRIBE (R559). -/
def execGspSubscribe (frame : List Byte) (s : State) : Host.Outcome State Fault Refusal := .next (s.gspFrameIn frame)

/-- GSP_UNSUBSCRIBE (R559). -/
def execGspUnsubscribe (frame : List Byte) (s : State) : Host.Outcome State Fault Refusal := .next (s.gspFrameIn frame)

/-- GSP_PING (R549). -/
def execGspPing (frame : List Byte) (s : State) : Host.Outcome State Fault Refusal := .next (s.gspFrameIn frame)

/-- GSP_BLOCK_TIMEOUT (R558): a transfer that waits for the device is not late. -/
def execGspBlockTimeout (s : State) : Host.Outcome State Fault Refusal :=
  if s.gsp.block.isSome && s.gsp.request.isNone then
    .next (s.closeBlock.modGsp fun g => { g with aborted := some 0x05040000 })
  else .next s

/-! ### Completions that answer a write -/

/-- STORE_COMPLETE (R78). -/
def execStoreComplete (s : State) : Host.Outcome State Fault Refusal :=
  if s.supply.pfw then .next s else .next (s.endStore false).resume

/-- RESTORE_COMPLETE (R80). -/
def execRestoreComplete (s : State) : Host.Outcome State Fault Refusal :=
  if s.supply.pfw then .next s else .next (s.endStore true).resume

/-- CALIBRATION_STORE_COMPLETE (R418): not while a power-fail warning suspends it. -/
def execCalibrationStoreComplete (s : State) : Host.Outcome State Fault Refusal :=
  if s.supply.pfw then .next s else .next s.calibrationStored.resume

/-- BANK_ERASE_COMPLETE (R577). -/
def execBankEraseComplete (s : State) : Host.Outcome State Fault Refusal :=
  if s.flash.bankErase && !s.supply.pfw then .next s.bankErased.resume else .next s

/-! ### The power-fail warning and its sources (R120, R124, R456) -/

/-- A source of the warning acts: VIN reads below the threshold 2130:04, an interruption of the mains is in progress
(R456), or PFW_N is asserted, which the command says. -/
def State.sourceFires (s : State) (source : Fin 3) : Bool :=
  match source with
  | 0 => decide (s.obj 0x2130 1 < s.obj 0x2130 4)
  | 1 => s.energy.interruption.active
  | 2 => true

/-- A source of the warning is inactive: VIN reads 200 mV above the threshold or more, no interruption is in progress,
or PFW_N is deasserted, which the command says. -/
def State.sourceQuiet (s : State) (source : Fin 3) : Bool :=
  match source with
  | 0 => decide (s.obj 0x2130 4 + 200 ≤ s.obj 0x2130 1)
  | 1 => !s.energy.interruption.active
  | 2 => true

/-- An enabled source fires, from the start of Survey: the warning is raised, or the source joins it (R120, R121). -/
def State.fireWarning (s : State) (source : Fin 3) : State :=
  if s.serving && s.bit 0x2130 5 source.val then
    if s.supply.pfw then
      (s.setSupply { s.supply with pfwSources := s.supply.pfwSources ||| 2 ^ source.val }).putBit 0x2130 6 source.val true
    else (s.startWarning (2 ^ source.val)).resume
  else s

/-- POWER_FAIL_WARNING (R121). -/
def execPowerFailWarning (source : Fin 3) (s : State) : Host.Outcome State Fault Refusal :=
  .next (if s.sourceFires source then s.fireWarning source else s)

/-- POWER_FAIL_WARNING_CLEAR (R124): every enabled source is inactive. -/
def execPowerFailWarningClear (s : State) : Host.Outcome State Fault Refusal :=
  if s.serving && s.supply.pfw
      && (List.finRange 3).all (fun (k : Fin 3) => !s.bit 0x2130 5 k.val || s.sourceQuiet k) then .next s.endWarning.resumePiece
  else .next s

/-- An interruption that was not in progress before and is now fires the mains source (R456). -/
def State.mainsSource (s : State) (before : Bool) : State :=
  if !before && s.energy.interruption.active then s.fireWarning 1 else s

/-- HALF_CYCLE_PUBLICATION: MAINS bearing 0 or 32 768 is crossed (R420). -/
def execHalfCyclePublication (s : State) : Host.Outcome State Fault Refusal :=
  if s.metering then .next ((s.publish false).mainsSource s.energy.interruption.active) else .next s

/-- MAINS_ZERO_CROSSING (R160). -/
def execMainsZeroCrossing (period halfRms : Nat) (s : State) : Host.Outcome State Fault Refusal :=
  .next ((s.zeroCrossing period halfRms).mainsSource s.energy.interruption.active)

/-- PLL_LOCKED (R425). -/
def execPllLocked (s : State) : Host.Outcome State Fault Refusal :=
  if s.clocked && !s.clocks.pll then .next (s.pllLocks.mainsSource s.energy.interruption.active) else .next s

/-- CRYSTAL_QUALIFIED (R22): not in RC_ONLY, and once after a reset. -/
def execCrystalQualified (s : State) : Host.Outcome State Fault Refusal :=
  if s.clocked && s.clocks.mode != 2 && !s.clocks.ranOnCrystal then .next (s.ontoCrystal.mainsSource s.energy.interruption.active) else .next s

end Sys2Proof.Machine
end

