-- ==== Sys2Proof/Machine/Dispatch.lean ====
section
/-! DEFINITION. One arm per command: the name of its meaning. -/

namespace Sys2Proof.Machine

/-- The effect of a command on everything but the queue. -/
def exec (i : Instr) (s : State) : Host.Outcome State Fault Refusal :=
  match i with
  | .objectWrite ch ix sub data => Sys2Proof.Machine.execObjectWrite ch ix sub data s
  | .nmtStart node => Sys2Proof.Machine.execNmtStart node s
  | .nmtEnterPreOperational node => Sys2Proof.Machine.execNmtEnterPreOperational node s
  | .nmtStop node => Sys2Proof.Machine.execNmtStop node s
  | .nmtResetCommunication node => Sys2Proof.Machine.execNmtResetCommunication node s
  | .nmtResetNode node => Sys2Proof.Machine.execNmtResetNode node s
  | .heartbeatPeriodExpiry => Sys2Proof.Machine.execHeartbeatPeriodExpiry s
  | .heartbeatReceived node state => Sys2Proof.Machine.execHeartbeatReceived node state s
  | .heartbeatTimeout entry => Sys2Proof.Machine.execHeartbeatTimeout entry s
  | .canBusOff tec rec => Sys2Proof.Machine.execCanBusOff tec rec s
  | .canBusRecovered => Sys2Proof.Machine.execCanBusRecovered s
  | .canErrorPassive tec rec => Sys2Proof.Machine.execCanErrorPassive tec rec s
  | .errorPassiveTimeout => Sys2Proof.Machine.execErrorPassiveTimeout s
  | .canRxOverrun lost => Sys2Proof.Machine.execCanRxOverrun lost s
  | .sdoDownloadInitiate frame => Sys2Proof.Machine.execSdoDownloadInitiate frame s
  | .sdoDownloadSegment frame => Sys2Proof.Machine.execSdoDownloadSegment frame s
  | .sdoUploadInitiate frame => Sys2Proof.Machine.execSdoUploadInitiate frame s
  | .sdoUploadSegment frame => Sys2Proof.Machine.execSdoUploadSegment frame s
  | .sdoAbortTransfer frame => Sys2Proof.Machine.execSdoAbortTransfer frame s
  | .sdoTransferTimeout => Sys2Proof.Machine.execSdoTransferTimeout s
  | .usdoRequest client broadcast req => Sys2Proof.Machine.execUsdoRequest client broadcast req s
  | .rpdoReceived n data => Sys2Proof.Machine.execRpdoReceived n data s
  | .syncReceived counter => Sys2Proof.Machine.execSyncReceived counter s
  | .syncPeriodExpiry => Sys2Proof.Machine.execSyncPeriodExpiry s
  | .tpdoSyncWindowExpiry n => Sys2Proof.Machine.execTpdoSyncWindowExpiry n s
  | .tpdoValueChange n => Sys2Proof.Machine.execTpdoValueChange n s
  | .tpdoInhibitExpiry n => Sys2Proof.Machine.execTpdoInhibitExpiry n s
  | .tpdoEventTimerExpiry n => Sys2Proof.Machine.execTpdoEventTimerExpiry n s
  | .timeReceived days ms => Sys2Proof.Machine.execTimeReceived days ms s
  | .emcyInhibitExpiry => Sys2Proof.Machine.execEmcyInhibitExpiry s
  | .errorHistoryClear ch => Sys2Proof.Machine.execErrorHistoryClear ch s
  | .storeParameters ch area => Sys2Proof.Machine.execStoreParameters ch area s
  | .storeComplete => Sys2Proof.Machine.execStoreComplete s
  | .restoreDefaults ch area => Sys2Proof.Machine.execRestoreDefaults ch area s
  | .restoreComplete => Sys2Proof.Machine.execRestoreComplete s
  | .lssSwitchState req => Sys2Proof.Machine.execLssSwitchState req s
  | .lssConfigureNodeId id => Sys2Proof.Machine.execLssConfigureNodeId id s
  | .lssConfigureBitTiming selector timing => Sys2Proof.Machine.execLssConfigureBitTiming selector timing s
  | .lssActivateBitTiming delay => Sys2Proof.Machine.execLssActivateBitTiming delay s
  | .lssStoreConfiguration => Sys2Proof.Machine.execLssStoreConfiguration s
  | .lssInquireIdentity entry => Sys2Proof.Machine.execLssInquireIdentity entry s
  | .lssFastscan idNumber bitCheck lssSub lssNext => Sys2Proof.Machine.execLssFastscan idNumber bitCheck lssSub lssNext s
  | .crystalQualified => Sys2Proof.Machine.execCrystalQualified s
  | .crystalNotQualified => Sys2Proof.Machine.execCrystalNotQualified s
  | .crystalLoss => Sys2Proof.Machine.execCrystalLoss s
  | .pllLoss => Sys2Proof.Machine.execPllLoss s
  | .pllLockTimeout => Sys2Proof.Machine.execPllLockTimeout s
  | .usbStartOfFrame => Sys2Proof.Machine.execUsbStartOfFrame s
  | .vinRise mv => Sys2Proof.Machine.execVinRise mv s
  | .vinFall mv => Sys2Proof.Machine.execVinFall mv s
  | .vbusRise mv => Sys2Proof.Machine.execVbusRise mv s
  | .vbusFall mv => Sys2Proof.Machine.execVbusFall mv s
  | .vinRestoredTimer => Sys2Proof.Machine.execVinRestoredTimer s
  | .sleepWake source => Sys2Proof.Machine.execSleepWake source s
  | .resetPin => Sys2Proof.Machine.execResetPin s
  | .resetEffect => Sys2Proof.Machine.execResetEffect s
  | .resetRelease => Sys2Proof.Machine.execResetRelease s
  | .surveyStart strapCodes spiId => Sys2Proof.Machine.execSurveyStart strapCodes spiId s
  | .selfTestComplete analogOk => Sys2Proof.Machine.execSelfTestComplete analogOk s
  | .metrologySettled => Sys2Proof.Machine.execMetrologySettled s
  | .fullService => Sys2Proof.Machine.execFullService s
  | .dewCheckComplete readings => Sys2Proof.Machine.execDewCheckComplete readings s
  | .dewCheckRepeat => Sys2Proof.Machine.execDewCheckRepeat s
  | .wetHoldOverride ch tag => Sys2Proof.Machine.execWetHoldOverride ch tag s
  | .powerFailWarning source => Sys2Proof.Machine.execPowerFailWarning source s
  | .powerFailFlushComplete us => Sys2Proof.Machine.execPowerFailFlushComplete us s
  | .powerFailWarningClear => Sys2Proof.Machine.execPowerFailWarningClear s
  | .watchdogExpiry => Sys2Proof.Machine.execWatchdogExpiry s
  | .thermalReset junction => Sys2Proof.Machine.execThermalReset junction s
  | .thermalRelease => Sys2Proof.Machine.execThermalRelease s
  | .junctionTemperatureHigh junction => Sys2Proof.Machine.execJunctionTemperatureHigh junction s
  | .powerStateWrite ch state => Sys2Proof.Machine.execPowerStateWrite ch state s
  | .standbyToIdle => Sys2Proof.Machine.execStandbyToIdle s
  | .idleToRun => Sys2Proof.Machine.execIdleToRun s
  | .runToIdle => Sys2Proof.Machine.execRunToIdle s
  | .idleToStandby => Sys2Proof.Machine.execIdleToStandby s
  | .standbyToSleep => Sys2Proof.Machine.execStandbyToSleep s
  | .standbyToOff => Sys2Proof.Machine.execStandbyToOff s
  | .vpwmLow mv => Sys2Proof.Machine.execVpwmLow mv s
  | .vpwmRestored mv => Sys2Proof.Machine.execVpwmRestored mv s
  | .mainsZeroCrossing period halfRms => Sys2Proof.Machine.execMainsZeroCrossing period halfRms s
  | .mainsCrossingTimeout => Sys2Proof.Machine.execMainsCrossingTimeout s
  | .flywheelTimeout => Sys2Proof.Machine.execFlywheelTimeout s
  | .basePeriodStart => Sys2Proof.Machine.execBasePeriodStart s
  | .graticuleScan => Sys2Proof.Machine.execGraticuleScan s
  | .graticuleSupervisorAction => Sys2Proof.Machine.execGraticuleSupervisorAction s
  | .graticuleEntryWrite ch n value => Sys2Proof.Machine.execGraticuleEntryWrite ch n value s
  | .relayCommandImmediate ch tag relay closed => Sys2Proof.Machine.execRelayCommandImmediate ch tag relay closed s
  | .relayCommandAtBearing ch tag relay closed => Sys2Proof.Machine.execRelayCommandAtBearing ch tag relay closed s
  | .relayFeedbackTransition relay feedback => Sys2Proof.Machine.execRelayFeedbackTransition relay feedback s
  | .gpioModeWrite ch n mode => Sys2Proof.Machine.execGpioModeWrite ch n mode s
  | .gpioLevelWrite ch levels => Sys2Proof.Machine.execGpioLevelWrite ch levels s
  | .phaseCurrentTrigger p => Sys2Proof.Machine.execPhaseCurrentTrigger p s
  | .phaseCurrentConversionDone p code => Sys2Proof.Machine.execPhaseCurrentConversionDone p code s
  | .overcurrentCrossing p crossing => Sys2Proof.Machine.execOvercurrentCrossing p crossing s
  | .windowErrorReady r codes => Sys2Proof.Machine.execWindowErrorReady r codes s
  | .vsnsWindowTimeout r => Sys2Proof.Machine.execVsnsWindowTimeout r s
  | .vsnsMismatch r => Sys2Proof.Machine.execVsnsMismatch r s
  | .absoluteBlockComplete r codes => Sys2Proof.Machine.execAbsoluteBlockComplete r codes s
  | .vsnsOpen r code => Sys2Proof.Machine.execVsnsOpen r code s
  | .vsnsOpenEnd r => Sys2Proof.Machine.execVsnsOpenEnd r s
  | .auxResult c codes => Sys2Proof.Machine.execAuxResult c codes s
  | .auxTriggeredResult c code => Sys2Proof.Machine.execAuxTriggeredResult c code s
  | .pwmZero p => Sys2Proof.Machine.execPwmZero p s
  | .pwmMidUpdate p => Sys2Proof.Machine.execPwmMidUpdate p s
  | .pwmPeriod p => Sys2Proof.Machine.execPwmPeriod p s
  | .pwmCmpa p => Sys2Proof.Machine.execPwmCmpa p s
  | .pwmCmpb p => Sys2Proof.Machine.execPwmCmpb p s
  | .nodeTransition p falling edge => Sys2Proof.Machine.execNodeTransition p falling edge s
  | .deadTimeAdapt p falling => Sys2Proof.Machine.execDeadTimeAdapt p falling s
  | .nodeMissLimit p falling => Sys2Proof.Machine.execNodeMissLimit p falling s
  | .dtAdaptLimit p falling => Sys2Proof.Machine.execDtAdaptLimit p falling s
  | .tripInputActive t level => Sys2Proof.Machine.execTripInputActive t level s
  | .tripClear ch tag phases => Sys2Proof.Machine.execTripClear ch tag phases s
  | .forceBothOff ch p => Sys2Proof.Machine.execForceBothOff ch p s
  | .forceHighOn ch p => Sys2Proof.Machine.execForceHighOn ch p s
  | .forceLowOn ch p => Sys2Proof.Machine.execForceLowOn ch p s
  | .forceNone ch p => Sys2Proof.Machine.execForceNone ch p s
  | .railEnableOn ch r => Sys2Proof.Machine.execRailEnableOn ch r s
  | .railSoftOff ch r => Sys2Proof.Machine.execRailSoftOff ch r s
  | .railHardOff ch r => Sys2Proof.Machine.execRailHardOff ch r s
  | .engineSampleBoundary r => Sys2Proof.Machine.execEngineSampleBoundary r s
  | .targetWrite ch r target => Sys2Proof.Machine.execTargetWrite ch r target s
  | .profileStart ch r tag => Sys2Proof.Machine.execProfileStart ch r tag s
  | .profileAbort ch r tag => Sys2Proof.Machine.execProfileAbort ch r tag s
  | .profileStepHoldExpiry r => Sys2Proof.Machine.execProfileStepHoldExpiry r s
  | .envelopeWrite ch r sub value => Sys2Proof.Machine.execEnvelopeWrite ch r sub value s
  | .protectionConditionCounted r cond => Sys2Proof.Machine.execProtectionConditionCounted r cond s
  | .hiccupDelayExpiry r => Sys2Proof.Machine.execHiccupDelayExpiry r s
  | .hiccupResetTimeExpiry r => Sys2Proof.Machine.execHiccupResetTimeExpiry r s
  | .shedDwellExpiry r => Sys2Proof.Machine.execShedDwellExpiry r s
  | .avsVoltageWrite sel crcOk code => Sys2Proof.Machine.execAvsVoltageWrite sel crcOk code s
  | .avsVoltageRead sel crcOk => Sys2Proof.Machine.execAvsVoltageRead sel crcOk s
  | .avsVoutTransRateWrite sel crcOk code => Sys2Proof.Machine.execAvsVoutTransRateWrite sel crcOk code s
  | .avsVoutTransRateRead sel crcOk => Sys2Proof.Machine.execAvsVoutTransRateRead sel crcOk s
  | .avsCurrentRead sel crcOk => Sys2Proof.Machine.execAvsCurrentRead sel crcOk s
  | .avsTemperatureRead sel crcOk => Sys2Proof.Machine.execAvsTemperatureRead sel crcOk s
  | .avsResetVoltage sel crcOk => Sys2Proof.Machine.execAvsResetVoltage sel crcOk s
  | .avsPowerModeWrite sel crcOk code => Sys2Proof.Machine.execAvsPowerModeWrite sel crcOk code s
  | .avsPowerModeRead sel crcOk => Sys2Proof.Machine.execAvsPowerModeRead sel crcOk s
  | .avsStatusRead sel crcOk => Sys2Proof.Machine.execAvsStatusRead sel crcOk s
  | .oscillationDetection k => Sys2Proof.Machine.execOscillationDetection k s
  | .returnToPrimary ch k tag => Sys2Proof.Machine.execReturnToPrimary ch k tag s
  | .chatterDetection r => Sys2Proof.Machine.execChatterDetection r s
  | .contourCommit ch k safe tag => Sys2Proof.Machine.execContourCommit ch k safe tag s
  | .reliefCommit ch t tag => Sys2Proof.Machine.execReliefCommit ch t tag s
  | .sampleWatchdogExpiry r parity => Sys2Proof.Machine.execSampleWatchdogExpiry r parity s
  | .hallTransition code us => Sys2Proof.Machine.execHallTransition code us s
  | .zeroSpeedTimeout us => Sys2Proof.Machine.execZeroSpeedTimeout us s
  | .stallTimeout ms => Sys2Proof.Machine.execStallTimeout ms s
  | .directionWrite ch direction => Sys2Proof.Machine.execDirectionWrite ch direction s
  | .reversalSwitch => Sys2Proof.Machine.execReversalSwitch s
  | .outlineNoTransitionTimeout => Sys2Proof.Machine.execOutlineNoTransitionTimeout s
  | .outlineRestartTimeout => Sys2Proof.Machine.execOutlineRestartTimeout s
  | .outlineBusSupportCrossing pinMv => Sys2Proof.Machine.execOutlineBusSupportCrossing pinMv s
  | .encoderCount up => Sys2Proof.Machine.execEncoderCount up s
  | .encoderIndex => Sys2Proof.Machine.execEncoderIndex s
  | .ringFrameSend => Sys2Proof.Machine.execRingFrameSend s
  | .ringFrameReceived frame latencyPs => Sys2Proof.Machine.execRingFrameReceived frame latencyPs s
  | .ringLeadListenEnd framesFound => Sys2Proof.Machine.execRingLeadListenEnd framesFound s
  | .ringLock => Sys2Proof.Machine.execRingLock s
  | .ringNoLead => Sys2Proof.Machine.execRingNoLead s
  | .ringDiscoveryEnd => Sys2Proof.Machine.execRingDiscoveryEnd s
  | .ringMemberLost position => Sys2Proof.Machine.execRingMemberLost position s
  | .ringBreak => Sys2Proof.Machine.execRingBreak s
  | .ringLeadRecovery => Sys2Proof.Machine.execRingLeadRecovery s
  | .ringPortEnable ch => Sys2Proof.Machine.execRingPortEnable ch s
  | .ringPortDisable ch => Sys2Proof.Machine.execRingPortDisable ch s
  | .ringLeaveComplete => Sys2Proof.Machine.execRingLeaveComplete s
  | .decimatedSample sample => Sys2Proof.Machine.execDecimatedSample sample s
  | .coherentSample paths dt => Sys2Proof.Machine.execCoherentSample paths dt s
  | .halfCyclePublication => Sys2Proof.Machine.execHalfCyclePublication s
  | .sensorFaultDetected idx cause mv => Sys2Proof.Machine.execSensorFaultDetected idx cause mv s
  | .sensorFaultCleared idx => Sys2Proof.Machine.execSensorFaultCleared idx s
  | .calibrationStore ch tag => Sys2Proof.Machine.execCalibrationStore ch tag s
  | .calibrationStoreComplete => Sys2Proof.Machine.execCalibrationStoreComplete s
  | .periodicTotalsSave => Sys2Proof.Machine.execPeriodicTotalsSave s
  | .totalsSaveNow ch tag => Sys2Proof.Machine.execTotalsSaveNow ch tag s
  | .totalsReset ch tag => Sys2Proof.Machine.execTotalsReset ch tag s
  | .dcEnergyReset ch r tag => Sys2Proof.Machine.execDcEnergyReset ch r tag s
  | .totalsCopyComplete readBackOk => Sys2Proof.Machine.execTotalsCopyComplete readBackOk s
  | .energySectorEraseComplete => Sys2Proof.Machine.execEnergySectorEraseComplete s
  | .epulseStart e => Sys2Proof.Machine.execEpulseStart e s
  | .epulseEnd e => Sys2Proof.Machine.execEpulseEnd e s
  | .supplyQualityClearCounts ch tag => Sys2Proof.Machine.execSupplyQualityClearCounts ch tag s
  | .eventRaise event data => Sys2Proof.Machine.execEventRaise event data s
  | .eventConditionEnd event data => Sys2Proof.Machine.execEventConditionEnd event data s
  | .fifoEntryProcess => Sys2Proof.Machine.execFifoEntryProcess s
  | .overflowRequeue => Sys2Proof.Machine.execOverflowRequeue s
  | .eventResponseWrite ch event entry => Sys2Proof.Machine.execEventResponseWrite ch event entry s
  | .eventClear ch tag event => Sys2Proof.Machine.execEventClear ch tag event s
  | .eventClearAll ch tag => Sys2Proof.Machine.execEventClearAll ch tag s
  | .acknowledge ch tag => Sys2Proof.Machine.execAcknowledge ch tag s
  | .interruptClear ch tag flags => Sys2Proof.Machine.execInterruptClear ch tag flags s
  | .outlineEnter ch tag => Sys2Proof.Machine.execOutlineEnter ch tag s
  | .outlineLeave ch tag => Sys2Proof.Machine.execOutlineLeave ch tag s
  | .outlineSetCommit ch tag => Sys2Proof.Machine.execOutlineSetCommit ch tag s
  | .outlineSetCommitComplete => Sys2Proof.Machine.execOutlineSetCommitComplete s
  | .safeInputFall b => Sys2Proof.Machine.execSafeInputFall b s
  | .safeSample a b => Sys2Proof.Machine.execSafeSample a b s
  | .safeFilterChange => Sys2Proof.Machine.execSafeFilterChange s
  | .discrepancyFault => Sys2Proof.Machine.execDiscrepancyFault s
  | .permitGrant => Sys2Proof.Machine.execPermitGrant s
  | .functionReinitialise ch tag fn => Sys2Proof.Machine.execFunctionReinitialise ch tag fn s
  | .functionDisable ch tag fn => Sys2Proof.Machine.execFunctionDisable ch tag fn s
  | .functionDisableHard ch tag fn => Sys2Proof.Machine.execFunctionDisableHard ch tag fn s
  | .functionEnable ch tag fn => Sys2Proof.Machine.execFunctionEnable ch tag fn s
  | .functionStopped fn => Sys2Proof.Machine.execFunctionStopped fn s
  | .powerCycleRequest ch tag ms => Sys2Proof.Machine.execPowerCycleRequest ch tag ms s
  | .powerCycleAssert => Sys2Proof.Machine.execPowerCycleAssert s
  | .powerCycleRelease => Sys2Proof.Machine.execPowerCycleRelease s
  | .stagingEntryEligible seq => Sys2Proof.Machine.execStagingEntryEligible seq s
  | .flashGranuleComplete => Sys2Proof.Machine.execFlashGranuleComplete s
  | .logSectorEraseComplete => Sys2Proof.Machine.execLogSectorEraseComplete s
  | .logErase ch tag scope => Sys2Proof.Machine.execLogErase ch tag scope s
  | .logEraseComplete => Sys2Proof.Machine.execLogEraseComplete s
  | .logCursorWrite ch seq => Sys2Proof.Machine.execLogCursorWrite ch seq s
  | .logReadFromCursor ch => Sys2Proof.Machine.execLogReadFromCursor ch s
  | .logReadAtCursor ch => Sys2Proof.Machine.execLogReadAtCursor ch s
  | .logSnapshotRead ch => Sys2Proof.Machine.execLogSnapshotRead ch s
  | .readDeferralTimeout => Sys2Proof.Machine.execReadDeferralTimeout s
  | .externalLogWriteComplete readBackOk status => Sys2Proof.Machine.execExternalLogWriteComplete readBackOk status s
  | .calendarTimeWrite ch time => Sys2Proof.Machine.execCalendarTimeWrite ch time s
  | .rtcTrimWrite ch trim => Sys2Proof.Machine.execRtcTrimWrite ch trim s
  | .rtcTrimStep => Sys2Proof.Machine.execRtcTrimStep s
  | .lseStopTimeout => Sys2Proof.Machine.execLseStopTimeout s
  | .usbConfigured => Sys2Proof.Machine.execUsbConfigured s
  | .usbDetach => Sys2Proof.Machine.execUsbDetach s
  | .usbBusReset => Sys2Proof.Machine.execUsbBusReset s
  | .usbSuspend => Sys2Proof.Machine.execUsbSuspend s
  | .gspRead frame => Sys2Proof.Machine.execGspRead frame s
  | .gspWrite frame => Sys2Proof.Machine.execGspWrite frame s
  | .gspBlockRead frame => Sys2Proof.Machine.execGspBlockRead frame s
  | .gspBlockWrite frame => Sys2Proof.Machine.execGspBlockWrite frame s
  | .gspSubscribe frame => Sys2Proof.Machine.execGspSubscribe frame s
  | .gspUnsubscribe frame => Sys2Proof.Machine.execGspUnsubscribe frame s
  | .gspPing frame => Sys2Proof.Machine.execGspPing frame s
  | .gspBlockTimeout => Sys2Proof.Machine.execGspBlockTimeout s
  | .sessionChallenge ch tag level => Sys2Proof.Machine.execSessionChallenge ch tag level s
  | .sessionResponse ch m => Sys2Proof.Machine.execSessionResponse ch m s
  | .sessionClose ch tag => Sys2Proof.Machine.execSessionClose ch tag s
  | .sessionIdleTimeout ch => Sys2Proof.Machine.execSessionIdleTimeout ch s
  | .nonceExpiry ch => Sys2Proof.Machine.execNonceExpiry ch s
  | .sessionLockoutExpiry ch => Sys2Proof.Machine.execSessionLockoutExpiry ch s
  | .keyWrite ch oem key => Sys2Proof.Machine.execKeyWrite ch oem key s
  | .accessMapCommit ch tag => Sys2Proof.Machine.execAccessMapCommit ch tag s
  | .lifecycleToOemBuild ch tag => Sys2Proof.Machine.execLifecycleToOemBuild ch tag s
  | .lifecycleToField ch tag => Sys2Proof.Machine.execLifecycleToField ch tag s
  | .lifecycleToService ch tag => Sys2Proof.Machine.execLifecycleToService ch tag s
  | .lifecycleToRetired ch tag => Sys2Proof.Machine.execLifecycleToRetired ch tag s
  | .firmwareDownload ch data first last => Sys2Proof.Machine.execFirmwareDownload ch data first last s
  | .bankEraseComplete => Sys2Proof.Machine.execBankEraseComplete s
  | .programStart ch => Sys2Proof.Machine.execProgramStart ch s
  | .programClear ch => Sys2Proof.Machine.execProgramClear ch s
  | .activateBank ch tag bankB => Sys2Proof.Machine.execActivateBank ch tag bankB s
  | .confirmBank ch tag => Sys2Proof.Machine.execConfirmBank ch tag s
  | .trialTimeout => Sys2Proof.Machine.execTrialTimeout s
  | .frameReferenceTimeout => Sys2Proof.Machine.execFrameReferenceTimeout s
  | .canFrameTransmitted => Sys2Proof.Machine.execCanFrameTransmitted s
  | .vbatFall mv => Sys2Proof.Machine.execVbatFall mv s
  | .vbatRise mv => Sys2Proof.Machine.execVbatRise mv s
  | .lseStart => Sys2Proof.Machine.execLseStart s
  | .pllLocked => Sys2Proof.Machine.execPllLocked s
  | .externalSectorEraseComplete ms => Sys2Proof.Machine.execExternalSectorEraseComplete ms s
  | .accessMapStoreComplete => Sys2Proof.Machine.execAccessMapStoreComplete s
  | .keyStoreComplete => Sys2Proof.Machine.execKeyStoreComplete s
  | .usbResume => Sys2Proof.Machine.execUsbResume s
  | .usbAddressSet => Sys2Proof.Machine.execUsbAddressSet s
  | .usbInTransferComplete => Sys2Proof.Machine.execUsbInTransferComplete s
  | .referenceRisingEdge p => Sys2Proof.Machine.execReferenceRisingEdge p s

end Sys2Proof.Machine
end

