-- ==== Sys2Proof/Machine/Idle.lean ====
section
/-! DEFINITION. A millisecond that passes while no command waits (DESIGN CHOICE, log 2): the counters of time, and the
energy pulses whose gap has ended. -/

namespace Sys2Proof.Machine

/-- The monotonic seconds counter of the RTC domain (R117) counts while the domain's crystal runs (R21). -/
def State.tickSeconds (s : State) : State :=
  if s.clocks.lse && s.rtcSupplied then
    let l := s.life
    (s.setLife (if l.millis < 999 then { l with millis := l.millis + 1 }
                     else { l with millis := 0, seconds := l.seconds + 1 }))
  else s

/-- The RTC counts on while its crystal runs, in 1/32 768 ms, with its trim accumulator in thousandths (R539, R541). -/
def State.tickRtc (s : State) : State :=
  if s.clocks.lse && s.rtcSupplied then
    let r := s.rtc
    let trim := (s.obj 0x5820 3).natAbs
    let n := r.frac + 32768
    (s.setRtc { r with trimAcc := r.trimAcc + 32768 * trim,
                             ms := if n < 0 then r.ms else r.ms + 1, frac := if n < 0 then n else r.frac })
  else s

/-- The idle time of a client's session runs (R565). -/
def Client.tickIdle (c : Client) : Client := { c with idle := c.idle - 1 }

/-- The idle times of every channel. -/
def State.tickClients (s : State) : State :=
  let c := s.clients
  (s.setClients { c with sdo := c.sdo.tickIdle, gsp := c.gsp.tickIdle,
                               usdo := c.usdo.map fun (x : Nat × Client) => (x.1, x.2.tickIdle) })

/-- A millisecond of the running device (R514). -/
def State.tickRunning (s : State) : State :=
  if s.clocked then
    let s := (s.setLife { s.life with up := s.life.up + 1 }).tickClients
    (s.drainPulse 0).drainPulse 1
  else s

/-- A millisecond with no command. -/
def State.idle (s : State) : State := s.tickSeconds.tickRtc.tickRunning

end Sys2Proof.Machine
end

