-- ==== Sys2Proof/Machine/Pins.lean ====
section
/-! DEFINITION. The states of the pins (R99, R101, R472, R473), as a function of the device's state. -/

namespace Sys2Proof.Machine

/-- The pins the device drives or listens at, by the names of R90. -/
inductive Pin where
  | pwmH (p : PhaseId) | pwmL (p : PhaseId) | node (p : PhaseId) | isns (p : PhaseId)
  | vsnsP (r : VRailId) | vsnsN (r : VRailId) | vm (n : Fin 4) | imp (n : Fin 4) | imn (n : Fin 4) | aux (n : AuxId)
  | trip (n : Fin 4) | sensref | guard | nodeSel | hall (n : Fin 3) | enc (n : Fin 3) | rly (n : Fin 4)
  | epulse (e : Fin 2) | gpio (n : Fin 6) | ringIn | ringOut | canTx | canRx | avsClk | avsMdata | avsSdata
  | spiSck | spiMosi | spiCsN | spiMiso | usbDp | usbDm | safeA | safeB | safeoffN | intN | faultN | pfwN | pfwoN
  | pwrcycN | resetN
  deriving DecidableEq, Repr

/-- What the device does with a pin: high impedance, a pull of so many kΩ, driven to a level directly or through so
many kΩ, the 2.5 V of the sensor reference, the signal of the block behind it, or the closed ring bypass. -/
inductive PinDrive where
  | highZ
  | pull (up : Bool) (kohm : Nat)
  | level (high : Bool)
  | through (high : Bool) (kohm : Nat)
  | reference
  | port
  | bypass
  deriving DecidableEq, Repr

/-- A pin's state: what is driven, and whether the device takes what it sees there, as an input or to wake by. -/
structure PinState where
  drive : PinDrive
  listens : Bool := false
  deriving DecidableEq, Repr

/-- The columns of R99; IDLE and RUN outside Outline mode share one, in which every pin follows its function. -/
inductive PinColumn where
  | unpowered | reset | survey | sleep | standby | outline | running
  deriving DecidableEq, Repr

/-- The column that holds now. OFF takes the unpowered column (R151); the start of bring-up keeps that of reset until
Survey, and a reset takes it as it takes effect (DEDUCED, log 139). A bring-up that failed stays in Survey (R131). -/
def State.pinColumn (s : State) : PinColumn :=
  match s.life.st with
  | .unpowered | .off => .unpowered
  | .reset | .boot => .reset
  | .sleep => .sleep
  | .run =>
    if !s.fullService then .survey
    else if s.outline.active then .outline
    else if s.power = 3 ∨ s.power = 4 then .running
    else .standby

/-- An analog or digital input with no pull: high impedance, heard where the device is past reset and awake. -/
def inputPin (c : PinColumn) : PinState :=
  { drive := .highZ, listens := c != .unpowered && c != .reset && c != .sleep }

/-- A digital input with a pull: high impedance without power, heard past reset and awake. -/
def pulledPin (c : PinColumn) (up : Bool) (kohm : Nat) : PinState :=
  if c = .unpowered then { drive := .highZ } else { inputPin c with drive := .pull up kohm }

/-- An output that idles low until Survey and in SLEEP: a pull of 100 kΩ stands in for it without power. -/
def outputPin (c : PinColumn) (level : Bool) : PinState :=
  match c with
  | .unpowered => { drive := .pull false 100 }
  | .reset | .sleep => { drive := .level false }
  | _ => { drive := .level level }

/-- An open-drain output: low where asserted. -/
def openDrain (asserted : Bool) : PinState := { drive := if asserted then .level false else .highZ }

/-- FAULT_N is asserted (R472): the device's response has reached the level of 2300:0A, Outline mode is active, or the
safe-off path acts. -/
def State.faultAsserted (s : State) : Bool :=
  decide (s.obj 0x2300 0x0A ≤ s.obj 0x2300 1) || s.outline.active || s.safety.path

/-- INT_N is asserted (R473): a flag of 2320:01 is set. -/
def State.intAsserted (s : State) : Bool := s.obj 0x2320 1 != 0

/-- FAULT_N: low in reset, Survey, wet hold and SLEEP, and while asserted. -/
def State.faultPin (s : State) (c : PinColumn) : PinState :=
  match c with
  | .unpowered => openDrain false
  | .reset | .survey | .sleep => openDrain true
  | .standby | .outline | .running => openDrain s.faultAsserted

/-- An open-drain output that is released without power, in reset and in SLEEP. -/
def signalPin (c : PinColumn) (asserted : Bool) : PinState := openDrain (asserted && (inputPin c).listens)

/-- SAFEOFF_N follows the safe-off path from full service on. -/
def State.safeoffPin (s : State) (c : PinColumn) : PinState :=
  match c with
  | .unpowered => { drive := .highZ }
  | .reset | .survey | .sleep => { drive := .level false }
  | .standby | .outline | .running => { drive := .level (!s.safety.path) }

/-- The ring pins: the bypass is closed but where the port has opened it (R101). -/
def State.ringPin (s : State) (c : PinColumn) : PinState :=
  if c = .running ∧ s.ring.bypassClosed = false then { drive := .port, listens := true } else { drive := .bypass }

/-- CAN_TX: recessive until the boot-up message of Survey, and while the port is off the bus (R60, R491). -/
def State.canTxPin (s : State) (c : PinColumn) : PinState :=
  match c with
  | .unpowered => { drive := .highZ }
  | .reset | .sleep => { drive := .pull true 50 }
  | .survey | .standby | .outline | .running =>
    { drive := if s.can.nmt = .initialising ∨ s.can.busOff = true ∨ s.funcState 8 = 2 then .level true else .port }

/-- The guard: the dew check drives it while it runs (R133, R135). -/
def State.guardPin (s : State) (c : PinColumn) : PinState :=
  if c = .unpowered then { drive := .highZ }
  else if c = .survey ∧ s.life.dewRunning = true then { drive := .port }
  else { drive := .through false 1 }

/-- A GPIO pin by its mode in 2610 (R189, R190). -/
def State.gpioPin (s : State) (c : PinColumn) (n : Fin 6) : PinState :=
  if c = .unpowered ∨ c = .reset ∨ c = .survey ∨ c = .sleep then { drive := .highZ }
  else match s.gpioDriven n with
    | some l => { drive := .level l, listens := true }
    | none =>
      match s.nat 0x2610 (1 + n.val) with
      | 0 => { drive := .highZ }
      | 2 => { drive := .pull true 50, listens := true }
      | 3 => { drive := .pull false 50, listens := true }
      | _ => { drive := .highZ, listens := true }

/-- The state of each pin (R99). -/
def State.pin (s : State) (x : Pin) : PinState :=
  let c := s.pinColumn
  match x with
  | .pwmH p => outputPin c s.phases[p].outH
  | .pwmL p => outputPin c s.phases[p].outL
  | .node _ | .isns _ | .vsnsP _ | .vsnsN _ | .vm _ | .imp _ | .imn _ | .aux _ | .trip _ => inputPin c
  | .sensref =>
    match c with
    | .unpowered => { drive := .highZ }
    | .reset | .sleep => { drive := .through false 10 }
    | _ => { drive := .reference }
  | .guard => s.guardPin c
  | .nodeSel => { drive := .highZ, listens := c == .survey && s.can.nmt == .initialising }
  | .hall _ | .enc _ => if c = .sleep then { drive := .highZ } else pulledPin c true 50
  | .rly n => outputPin c (c != .survey && s.meridian.relays[n].energised)
  | .epulse e => outputPin c (s.pulseLevel e)
  | .gpio n => s.gpioPin c n
  | .ringIn | .ringOut => s.ringPin c
  | .canTx => s.canTxPin c
  | .canRx => { inputPin c with listens := (inputPin c).listens || c == .sleep }
  | .avsClk | .avsMdata => { inputPin c with listens := (inputPin c).listens && c != .survey }
  | .avsSdata =>
    match c with
    | .survey => { drive := .level true }
    | .unpowered | .reset | .sleep => { drive := .highZ }
    | _ => { drive := if s.funcState 10 = 2 then .level true else .port }
  | .spiSck | .spiMosi =>
    match c with
    | .unpowered | .reset => { drive := .highZ }
    | .sleep => { drive := .level false }
    | _ => { drive := .port }
  | .spiCsN =>
    match c with
    | .unpowered => { drive := .highZ }
    | .reset => { drive := .pull true 50 }
    | .sleep => { drive := .level true }
    | _ => { drive := .port }
  | .spiMiso => pulledPin c false 50
  | .usbDp | .usbDm => if s.obj 0x2510 4 = 0 then { drive := .highZ } else { drive := .port, listens := true }
  | .safeA | .safeB => pulledPin c false 100
  | .safeoffN => s.safeoffPin c
  | .intN => signalPin c s.intAsserted
  | .faultN => s.faultPin c
  | .pfwN => pulledPin c true 50
  | .pfwoN => signalPin c s.supply.pfw
  | .pwrcycN => openDrain !s.supply.pwrcycN
  | .resetN => if c = .unpowered then { drive := .highZ } else { drive := .pull true 50, listens := true }

end Sys2Proof.Machine
end

