-- ==== Sys2Proof/Safety.lean ====
section
/-! DEFINITION. What a safe run is, and the terms the statements use: the canonical form of the state, outputs that never
short a supply, what a command leaves as it is, and a command that completes. -/

namespace Sys2Proof

open Sys2Proof.Machine

/-- The lists of the state that hold sparse data have their canonical form: keys strictly ascending, and no entry of the
dictionary at its default. -/
def Safety.canonical (s : State) : Bool :=
  odWf s.od && cellsAscend s.dom && cellsAscend s.stale

/-- No phase has both of its outputs on (R239). -/
def Safety.noShoot (s : State) : Bool := phaseIds.all fun (p : PhaseId) => !(s.phases[p].outH && s.phases[p].outL)

/-- A run of steps from a state stays safe while its steps answer next states that are. -/
def Safety.safe (s : State) : Prop := Safety.canonical s = true ∧ Safety.noShoot s = true

/-! ### What a command leaves as it is -/

/-- The parts of the state other than the numeric objects of the dictionary. -/
inductive StatePart where
  | dom | stale | fabric | recorder | clients | avs | can | gsp | life | supply | clocks | rtc | safety | outline | flash
  | meridian | phases | adcs | vsense | aux | auxSequence | rails | slots | engine | drive | ring | metrology | energy
  | freeCount | pending
  deriving DecidableEq, Repr

/-- A part is the same in two states. -/
def StatePart.same (p : StatePart) (s t : State) : Prop :=
  match p with
  | .dom => t.dom = s.dom
  | .stale => t.stale = s.stale
  | .fabric => t.fabric = s.fabric
  | .recorder => t.recorder = s.recorder
  | .clients => t.clients = s.clients
  | .avs => t.avs = s.avs
  | .can => t.can = s.can
  | .gsp => t.gsp = s.gsp
  | .life => t.life = s.life
  | .supply => t.supply = s.supply
  | .clocks => t.clocks = s.clocks
  | .rtc => t.rtc = s.rtc
  | .safety => t.safety = s.safety
  | .outline => t.outline = s.outline
  | .flash => t.flash = s.flash
  | .meridian => t.meridian = s.meridian
  | .phases => t.phases = s.phases
  | .adcs => t.adcs = s.adcs
  | .vsense => t.vsense = s.vsense
  | .aux => t.aux = s.aux
  | .auxSequence => t.auxSequence = s.auxSequence
  | .rails => t.rails = s.rails
  | .slots => t.slots = s.slots
  | .engine => t.engine = s.engine
  | .drive => t.drive = s.drive
  | .ring => t.ring = s.ring
  | .metrology => t.metrology = s.metrology
  | .energy => t.energy = s.energy
  | .freeCount => t.freeCount = s.freeCount
  | .pending => t.pending = s.pending

/-- The group of objects an index belongs to: the communication area as 1000, the blocks of the rails as 30oo, of the
phases as 400o, of the slots as 3810–3850, the event response table
as 2310, and the energy register sets as 5040; any other index stands for itself (R39, R40). -/
def Safety.group (ix : Nat) : Nat :=
  if ix < 0x2000 then 0x1000
  else if 0x3000 ≤ ix ∧ ix < 0x3500 then 0x3000 + ix % 256
  else if 0x3810 ≤ ix ∧ ix < 0x3860 then ix - ix % 16
  else if 0x4000 ≤ ix ∧ ix < 0x40C0 then 0x4000 + ix % 16
  else if 0x2310 ≤ ix ∧ ix < 0x2315 then 0x2310
  else if 0x5040 ≤ ix ∧ ix < 0x5044 then 0x5040
  else ix

/-- What may change: parts of the state, and groups of numeric objects, or every object. -/
structure Extent where
  parts : List StatePart
  groups : List Nat
  every : Bool := false
  deriving DecidableEq, Repr

/-- What either extent holds. -/
def Extent.or (a b : Extent) : Extent := ⟨a.parts ++ b.parts, a.groups ++ b.groups, a.every || b.every⟩

/-- Between two states nothing outside the extent has changed. -/
def Safety.within (e : Extent) (s t : State) : Prop :=
  (∀ p : StatePart, p ∉ e.parts → p.same s t) ∧
  (e.every = false → ∀ ix sub : Nat, Safety.group ix ∉ e.groups → t.obj ix sub = s.obj ix sub)

/-! ### What each command may change -/

/-- A flush of the records and the totals (R121, R140). -/
def Extent.flushing : Extent := ⟨[.fabric, .recorder, .can, .gsp, .safety, .outline, .meridian, .phases, .rails,
  .drive, .ring, .energy, .freeCount], [0x1000, 0x2110, 0x2300, 0x2320, 0x2330, 0x2400, 0x2510, 0x2600, 0x3000,
  0x3010, 0x3020, 0x3040, 0x3800, 0x3810, 0x4006, 0x5068, 0x5070, 0x5800, 0x5F00], false⟩

/-- A raising with whatever response it carries (R460–R466). -/
def Extent.raising : Extent := ⟨[.fabric, .safety, .outline, .meridian, .phases, .rails, .drive, .ring], [0x2110,
  0x2300, 0x2320, 0x2330, 0x2400, 0x2600, 0x3000, 0x3010, 0x3020, 0x3040, 0x3800, 0x3810, 0x4006], false⟩

/-- Records on their way to the log (R519–R527). -/
def Extent.logging : Extent := ⟨[.fabric, .recorder, .gsp, .energy], [0x2300, 0x2320, 0x2510, 0x5800], false⟩

/-- The end of an event (R460). -/
def Extent.ending : Extent := ⟨[.fabric, .recorder], [0x2300, 0x2320, 0x5800], false⟩

/-- What each command may change (the frame of every row of the table): parts of the state, and groups of objects. -/
def Safety.extent (c : Instr) : Extent :=
  match c with
  | .objectWrite .. | .sdoDownloadInitiate .. | .sdoDownloadSegment .. | .sdoUploadInitiate .. | .sdoUploadSegment ..
    | .sdoAbortTransfer .. | .usdoRequest .. | .rpdoReceived .. | .syncReceived .. | .storeComplete ..
    | .restoreComplete .. | .powerFailWarning .. | .mainsZeroCrossing .. | .halfCyclePublication ..
    | .calibrationStoreComplete .. | .gspRead .. | .gspWrite .. | .gspBlockRead .. | .gspBlockWrite ..
    | .gspSubscribe .. | .gspUnsubscribe .. | .gspPing .. | .bankEraseComplete .. | .canFrameTransmitted ..
    | .pllLocked .. => Extent.flushing.or ⟨[.dom, .stale, .clients, .avs, .life, .supply, .clocks, .rtc, .flash, .aux,
    .slots, .engine, .metrology], [], true⟩
  | .nmtStart .. | .heartbeatPeriodExpiry .. | .syncPeriodExpiry .. | .tpdoValueChange .. | .tpdoInhibitExpiry ..
    | .tpdoEventTimerExpiry .. | .emcyInhibitExpiry .. | .lssSwitchState .. | .lssConfigureNodeId ..
    | .lssConfigureBitTiming .. | .lssActivateBitTiming .. | .lssInquireIdentity .. | .lssFastscan .. => ⟨[.can], [],
    false⟩
  | .nmtEnterPreOperational .. => ⟨[.can, .rails, .drive], [0x3000, 0x3010, 0x3040], false⟩
  | .nmtStop .. | .errorPassiveTimeout .. => ⟨[.recorder, .can, .flash, .rails, .drive], [0x2040, 0x3000, 0x3010,
    0x3040], false⟩
  | .nmtResetCommunication .. => Extent.raising.or ⟨[.dom, .recorder, .clients, .can, .gsp, .flash], [], true⟩
  | .nmtResetNode .. | .watchdogExpiry .. => Extent.ending.or ⟨[.can, .life, .ring, .energy], [0x5068], false⟩
  | .heartbeatReceived .. | .eventConditionEnd .. => Extent.ending.or ⟨[.can], [], false⟩
  | .heartbeatTimeout .. => Extent.raising.or ⟨[.recorder, .can, .flash], [0x2040], false⟩
  | .canBusOff .. => Extent.raising.or ⟨[.recorder, .can, .flash], [0x2040, 0x5800], false⟩
  | .canBusRecovered .. => Extent.raising.or ⟨[.recorder, .can], [0x5800], false⟩
  | .canErrorPassive .. | .graticuleSupervisorAction .. => Extent.raising.or ⟨[.can], [], false⟩
  | .canRxOverrun .. | .relayFeedbackTransition .. | .dtAdaptLimit .. | .profileStepHoldExpiry ..
    | .protectionConditionCounted .. | .chatterDetection .. | .sampleWatchdogExpiry .. | .stallTimeout ..
    | .ringLock .. | .ringNoLead .. | .ringMemberLost .. | .eventRaise .. | .discrepancyFault .. => Extent.raising
  | .sdoTransferTimeout .. => ⟨[.recorder, .can, .flash], [0x2040], false⟩
  | .tpdoSyncWindowExpiry .. => ⟨[.can], [0x5F00], false⟩
  | .timeReceived .. => Extent.raising.or ⟨[.rtc], [0x5820, 0x5F00], false⟩
  | .errorHistoryClear .. => ⟨[.clients], [0x1000], false⟩
  | .storeParameters .. | .restoreDefaults .. | .keyWrite .. => ⟨[.clients, .flash], [], false⟩
  | .lssStoreConfiguration .. => ⟨[.can, .flash], [0x2008], false⟩
  | .crystalQualified .. => Extent.flushing.or ⟨[.dom, .stale, .clients, .avs, .life, .supply, .clocks, .rtc, .flash,
    .aux, .slots, .engine, .metrology], [], true⟩
  | .crystalNotQualified .. | .pllLockTimeout .. | .selfTestComplete .. => Extent.raising.or ⟨[.life], [0x2120], false⟩
  | .crystalLoss .. => Extent.raising.or ⟨[.life, .clocks, .metrology], [0x2010, 0x2120], false⟩
  | .pllLoss .. => Extent.raising.or ⟨[.life, .clocks], [0x2010], false⟩
  | .usbStartOfFrame .. | .lseStart .. => ⟨[.clocks], [], false⟩
  | .vinRise .. => ⟨[.life, .supply, .outline, .phases], [0x2130, 0x4006], false⟩
  | .vinFall .. => Extent.flushing.or ⟨[.dom, .stale, .clients, .avs, .life, .supply, .clocks, .flash, .adcs, .vsense,
    .aux, .auxSequence, .slots, .engine, .metrology], [], true⟩
  | .vbusRise .. => ⟨[.life, .supply], [0x2130, 0x2510], false⟩
  | .vbusFall .. => Extent.flushing.or ⟨[.dom, .stale, .clients, .avs, .life, .supply, .clocks, .flash, .adcs, .vsense,
    .aux, .auxSequence, .slots, .engine, .metrology], [], true⟩
  | .vinRestoredTimer .. => Extent.ending.or ⟨[.life, .supply, .phases, .rails, .slots, .engine, .drive, .ring],
    [0x2100, 0x2400, 0x3000, 0x3010, 0x3040, 0x3800, 0x3810, 0x3840], false⟩
  | .sleepWake .. | .resetRelease .. | .thermalRelease .. => Extent.raising.or ⟨[.dom, .stale, .recorder, .clients,
    .avs, .can, .gsp, .life, .supply, .clocks, .rtc, .flash, .adcs, .vsense, .aux, .auxSequence, .slots, .engine,
    .metrology, .energy], [], true⟩
  | .resetPin .. => Extent.raising.or ⟨[.dom, .stale, .recorder, .clients, .avs, .can, .gsp, .life, .supply, .clocks,
    .rtc, .flash, .adcs, .vsense, .aux, .auxSequence, .slots, .engine, .metrology, .energy], [], true⟩
  | .resetEffect .. => Extent.raising.or ⟨[.dom, .stale, .recorder, .clients, .avs, .can, .gsp, .life, .supply, .clocks,
    .flash, .adcs, .vsense, .aux, .auxSequence, .slots, .engine, .metrology, .energy], [], true⟩
  | .surveyStart .. => Extent.raising.or ⟨[.recorder, .can, .life, .supply, .energy, .freeCount], [], true⟩
  | .metrologySettled .. => ⟨[.life, .metrology], [0x2120], false⟩
  | .fullService .. => ⟨[.can, .outline, .meridian, .phases], [0x2040, 0x2120, 0x2300, 0x4006], false⟩
  | .dewCheckComplete .. => Extent.raising.or ⟨[.recorder, .life], [0x2120, 0x2128, 0x5800], false⟩
  | .dewCheckRepeat .. => ⟨[.life], [], false⟩
  | .wetHoldOverride .. => Extent.raising.or ⟨[.recorder, .clients, .life], [0x2120, 0x2128, 0x5800], false⟩
  | .powerFailFlushComplete .. => Extent.logging.or ⟨[.supply], [0x2130, 0x5070], false⟩
  | .powerFailWarningClear .. => Extent.raising.or ⟨[.recorder, .clients, .can, .gsp, .supply, .flash, .energy],
    [0x2040, 0x2130], false⟩
  | .thermalReset .. => Extent.raising.or ⟨[.recorder, .can, .life, .energy, .freeCount], [0x1000, 0x5068, 0x5800,
    0x5F00], false⟩
  | .junctionTemperatureHigh .. => Extent.raising.or ⟨[.recorder], [0x5800, 0x5F00], false⟩
  | .powerStateWrite .. => ⟨[.clients, .life, .rails, .drive, .ring], [0x2100, 0x2400, 0x3000, 0x3010, 0x3040], false⟩
  | .standbyToIdle .. => Extent.ending.or ⟨[.life, .phases, .rails, .slots, .engine, .drive, .ring], [0x2100, 0x2400,
    0x3000, 0x3010, 0x3040, 0x3800, 0x3810, 0x3840], false⟩
  | .idleToRun .. | .runToIdle .. => ⟨[.life, .rails, .drive, .ring], [0x2100, 0x2400, 0x3000, 0x3010, 0x3040], false⟩
  | .idleToStandby .. => ⟨[.life, .phases, .rails, .drive, .ring], [0x2100, 0x2110, 0x2400, 0x3000, 0x3010, 0x3020,
    0x3040, 0x3800, 0x3810, 0x4006], false⟩
  | .standbyToSleep .. | .standbyToOff .. => Extent.flushing.or ⟨[.dom, .stale, .clients, .avs, .life, .supply, .clocks,
    .flash, .adcs, .vsense, .aux, .auxSequence, .slots, .engine, .metrology], [], true⟩
  | .vpwmLow .. => Extent.raising.or ⟨[.supply], [0x5F00], false⟩
  | .vpwmRestored .. => Extent.ending.or ⟨[.supply, .outline, .phases], [0x4006, 0x5F00], false⟩
  | .mainsCrossingTimeout .. | .flywheelTimeout .. | .basePeriodStart .. => Extent.raising.or ⟨[.recorder], [0x2200,
    0x5800], false⟩
  | .graticuleScan .. => Extent.raising.or ⟨[.auxSequence], [0x2200, 0x2210], false⟩
  | .graticuleEntryWrite .. => ⟨[.clients, .meridian], [0x2210], false⟩
  | .relayCommandImmediate .. | .relayCommandAtBearing .. => ⟨[.clients, .meridian], [0x2600], false⟩
  | .gpioModeWrite .. | .gpioLevelWrite .. => ⟨[.stale, .clients], [0x2610], false⟩
  | .phaseCurrentTrigger .. => ⟨[.adcs], [0x4120], false⟩
  | .phaseCurrentConversionDone .. => Extent.raising.or ⟨[.adcs], [0x4005], false⟩
  | .overcurrentCrossing .. | .nodeMissLimit .. => Extent.raising.or ⟨[], [0x4007], false⟩
  | .windowErrorReady .. => Extent.raising.or ⟨[.vsense, .slots], [0x3050, 0x3840, 0x4110], false⟩
  | .vsnsWindowTimeout .. | .vsnsMismatch .. => Extent.raising.or ⟨[.vsense], [], false⟩
  | .absoluteBlockComplete .. => ⟨[.vsense], [0x3048, 0x3050], false⟩
  | .vsnsOpen .. => Extent.raising.or ⟨[], [0x3050], false⟩
  | .vsnsOpenEnd .. => Extent.ending.or ⟨[], [0x3050], false⟩
  | .auxResult .. => Extent.raising.or ⟨[.recorder, .aux, .auxSequence], [0x4130, 0x5800], false⟩
  | .auxTriggeredResult .. => ⟨[.auxSequence], [0x4130], false⟩
  | .pwmZero .. => Extent.raising.or ⟨[.adcs, .vsense], [0x4001, 0x4002, 0x4007, 0x4120], false⟩
  | .pwmMidUpdate .. => Extent.raising.or ⟨[], [0x4002, 0x4007], false⟩
  | .pwmPeriod .. | .pwmCmpb .. => ⟨[.phases, .adcs, .vsense], [0x2320, 0x4120], false⟩
  | .pwmCmpa .. => ⟨[.phases, .adcs, .vsense], [0x2320, 0x4006, 0x4120], false⟩
  | .nodeTransition .. | .referenceRisingEdge .. => ⟨[.phases], [0x4006], false⟩
  | .deadTimeAdapt .. => ⟨[.phases], [], false⟩
  | .tripInputActive .. => Extent.raising.or ⟨[], [0x2630], false⟩
  | .tripClear .. => ⟨[.clients, .phases], [0x2630], false⟩
  | .forceBothOff .. | .forceHighOn .. | .forceLowOn .. | .forceNone .. => ⟨[.stale, .clients], [0x4004], false⟩
  | .railEnableOn .. | .railSoftOff .. | .railHardOff .. => ⟨[.clients, .phases, .rails, .drive], [0x2110, 0x3000,
    0x3010, 0x3020, 0x3040, 0x3048, 0x3810, 0x4007, 0x4110, 0x4120], false⟩
  | .engineSampleBoundary .. => Extent.raising.or ⟨[.dom, .stale, .recorder, .flash, .vsense, .slots, .engine, .energy],
    [0x3030, 0x3048, 0x3050, 0x3060, 0x3840, 0x4110, 0x5800], false⟩
  | .targetWrite .. | .profileStart .. | .profileAbort .. | .directionWrite .. | .sessionResponse .. =>
    Extent.raising.or ⟨[.clients], [], false⟩
  | .envelopeWrite .. => Extent.raising.or ⟨[.stale, .clients], [0x3002], false⟩
  | .hiccupDelayExpiry .. => ⟨[.phases, .rails, .drive], [0x3000, 0x3040, 0x3048, 0x4007, 0x4110, 0x4120], false⟩
  | .hiccupResetTimeExpiry .. => ⟨[], [0x3040], false⟩
  | .shedDwellExpiry .. => Extent.raising.or ⟨[], [0x3030], false⟩
  | .avsVoltageWrite .. | .avsResetVoltage .. => Extent.raising.or ⟨[.avs], [0x2500], false⟩
  | .avsVoltageRead .. | .avsVoutTransRateRead .. | .avsCurrentRead .. | .avsPowerModeWrite .. | .avsPowerModeRead ..
    | .avsStatusRead .. => ⟨[.avs], [0x2500], false⟩
  | .avsVoutTransRateWrite .. => ⟨[.stale, .avs], [0x2500, 0x3010], false⟩
  | .avsTemperatureRead .. => ⟨[.avs, .freeCount], [0x2500], false⟩
  | .oscillationDetection .. => Extent.raising.or ⟨[.slots], [0x3840], false⟩
  | .returnToPrimary .. => Extent.ending.or ⟨[.clients, .slots], [0x3810, 0x3840], false⟩
  | .contourCommit .. => ⟨[.dom, .clients, .engine], [0x3820, 0x3830], false⟩
  | .reliefCommit .. => ⟨[.dom, .clients, .engine], [0x3850], false⟩
  | .hallTransition .. => Extent.raising.or ⟨[], [0x2200, 0x2620, 0x3048], false⟩
  | .zeroSpeedTimeout .. => ⟨[], [0x3048], false⟩
  | .reversalSwitch .. => Extent.raising.or ⟨[], [0x3048, 0x4110], false⟩
  | .outlineNoTransitionTimeout .. => ⟨[.outline, .phases], [0x3040, 0x4006], false⟩
  | .outlineRestartTimeout .. | .outlineBusSupportCrossing .. => ⟨[.outline, .phases], [0x4006], false⟩
  | .encoderCount .. => ⟨[.meridian], [0x2200, 0x2620], false⟩
  | .encoderIndex .. => Extent.raising.or ⟨[], [0x2200, 0x2620], false⟩
  | .ringFrameSend .. | .ringDiscoveryEnd .. => Extent.raising.or ⟨[.recorder, .life, .freeCount], [0x2100, 0x5800],
    false⟩
  | .ringFrameReceived .. => Extent.raising.or ⟨[.recorder, .freeCount], [0x5800], false⟩
  | .ringLeadListenEnd .. => Extent.raising.or ⟨[.life], [0x2100], false⟩
  | .ringBreak .. | .safeSample .. | .safeFilterChange .. => Extent.raising.or ⟨[.recorder], [0x5800], false⟩
  | .ringLeadRecovery .. | .frameReferenceTimeout .. => ⟨[.ring], [0x2400], false⟩
  | .ringPortEnable .. | .ringPortDisable .. => ⟨[.clients, .ring], [0x2400], false⟩
  | .ringLeaveComplete .. => Extent.raising.or ⟨[.recorder, .life], [0x2100, 0x5800], false⟩
  | .decimatedSample .. => Extent.raising.or ⟨[.metrology], [0x5000], false⟩
  | .coherentSample .. => ⟨[.metrology, .freeCount], [], false⟩
  | .sensorFaultDetected .. => Extent.raising.or ⟨[.metrology], [], false⟩
  | .sensorFaultCleared .. => Extent.ending.or ⟨[.metrology, .freeCount], [], false⟩
  | .calibrationStore .. => ⟨[.clients, .flash], [0x5000], false⟩
  | .periodicTotalsSave .. | .epulseEnd .. => ⟨[.energy], [], false⟩
  | .totalsSaveNow .. => ⟨[.clients, .energy], [0x5070], false⟩
  | .totalsReset .. => Extent.raising.or ⟨[.clients, .energy], [0x5040, 0x5070], false⟩
  | .dcEnergyReset .. => ⟨[.clients, .energy], [0x3060], false⟩
  | .totalsCopyComplete .. => Extent.raising.or ⟨[.recorder, .energy], [0x5070], false⟩
  | .energySectorEraseComplete .. => ⟨[.recorder, .energy], [0x5070], false⟩
  | .epulseStart .. => Extent.raising.or ⟨[.energy], [0x5050], false⟩
  | .supplyQualityClearCounts .. => ⟨[.clients], [0x5068], false⟩
  | .fifoEntryProcess .. => Extent.ending.or ⟨[.can, .freeCount], [0x1000, 0x5F00], false⟩
  | .overflowRequeue .. => ⟨[.fabric], [0x2320], false⟩
  | .eventResponseWrite .. => ⟨[.stale, .clients], [0x2310], false⟩
  | .eventClear .. | .eventClearAll .. => ⟨[.fabric, .clients], [0x2300], false⟩
  | .acknowledge .. => ⟨[.clients, .can], [0x2300, 0x2320, 0x5F00], false⟩
  | .interruptClear .. => ⟨[.clients], [0x2320], false⟩
  | .outlineEnter .. | .outlineLeave .. => Extent.raising.or ⟨[.recorder, .clients, .slots, .engine], [0x3840, 0x5800],
    false⟩
  | .outlineSetCommit .. => ⟨[.clients, .flash], [0x2340], false⟩
  | .outlineSetCommitComplete .. | .accessMapStoreComplete .. => Extent.raising.or ⟨[.recorder, .flash, .energy], [],
    false⟩
  | .safeInputFall .. => ⟨[.safety, .meridian, .phases], [0x2320, 0x2330, 0x2600, 0x4006], false⟩
  | .permitGrant .. => ⟨[.safety], [0x2320], false⟩
  | .functionReinitialise .. | .functionDisable .. | .functionDisableHard .. | .functionEnable .. => (Extent.raising.or
    Extent.logging).or ⟨[.stale, .clients, .avs, .can, .life, .supply, .clocks, .flash, .slots, .engine, .metrology,
    .freeCount], [0x2040, 0x2200, 0x2620, 0x3048, 0x3840, 0x4001, 0x4002, 0x4007, 0x4110, 0x4120, 0x5000, 0x5030,
    0x5040, 0x5068, 0x5F00], false⟩
  | .functionStopped .. => Extent.raising.or ⟨[.recorder, .clients, .can, .gsp, .supply, .clocks, .flash], [0x2040,
    0x2510, 0x5800], false⟩
  | .powerCycleRequest .. => Extent.raising.or ⟨[.recorder, .clients, .supply], [], false⟩
  | .powerCycleAssert .. => (Extent.raising.or Extent.logging).or ⟨[.can, .life, .supply, .freeCount], [0x1000, 0x5070,
    0x5F00], false⟩
  | .powerCycleRelease .. => ⟨[.life, .supply], [0x2110], false⟩
  | .stagingEntryEligible .. => ⟨[.recorder], [], false⟩
  | .flashGranuleComplete .. => Extent.logging
  | .logSectorEraseComplete .. => Extent.raising.or ⟨[.recorder, .energy], [0x5800], false⟩
  | .logErase .. => Extent.raising.or ⟨[.recorder, .clients, .can, .gsp, .freeCount], [0x1000, 0x2510, 0x5800, 0x5F00],
    false⟩
  | .logEraseComplete .. => Extent.ending.or ⟨[.gsp], [0x2510, 0x2520], false⟩
  | .logCursorWrite .. | .logReadAtCursor .. | .nonceExpiry .. | .sessionLockoutExpiry .. => ⟨[.clients], [], false⟩
  | .logReadFromCursor .. | .logSnapshotRead .. => ⟨[.recorder, .clients], [], false⟩
  | .readDeferralTimeout .. => ⟨[.recorder, .can, .gsp], [0x5810], false⟩
  | .externalLogWriteComplete .. => Extent.raising.or ⟨[.recorder, .freeCount], [0x2520], false⟩
  | .calendarTimeWrite .. => Extent.raising.or ⟨[.clients, .rtc], [0x5820], false⟩
  | .rtcTrimWrite .. => ⟨[.clients, .rtc], [0x5820], false⟩
  | .rtcTrimStep .. => ⟨[.rtc], [], false⟩
  | .lseStopTimeout .. => ⟨[.clocks, .rtc], [], false⟩
  | .usbConfigured .. => Extent.raising.or ⟨[.recorder, .clients, .gsp, .supply, .flash], [0x2040, 0x2510], false⟩
  | .usbDetach .. | .usbBusReset .. => Extent.raising.or ⟨[.recorder, .clients, .gsp, .supply, .clocks, .flash],
    [0x2040, 0x2510], false⟩
  | .usbSuspend .. => ⟨[.supply], [0x2510], false⟩
  | .gspBlockTimeout .. => ⟨[.recorder, .gsp, .flash], [0x2040], false⟩
  | .sessionChallenge .. | .sessionClose .. => Extent.raising.or ⟨[.recorder, .clients, .gsp, .flash], [0x2020, 0x2040,
    0x2510], false⟩
  | .sessionIdleTimeout .. => Extent.raising.or ⟨[.recorder, .clients, .gsp, .flash], [0x2040, 0x2510], false⟩
  | .accessMapCommit .. => ⟨[.clients, .flash], [0x2028], false⟩
  | .lifecycleToOemBuild .. | .lifecycleToField .. | .lifecycleToService .. | .lifecycleToRetired .. =>
    Extent.flushing.or ⟨[.dom, .clients, .life, .rtc, .flash], [], true⟩
  | .firmwareDownload .. => Extent.raising.or ⟨[.clients, .flash], [0x2040], false⟩
  | .programStart .. | .programClear .. => ⟨[.clients, .flash], [0x2040], false⟩
  | .activateBank .. => Extent.ending.or ⟨[.clients, .can, .life, .flash, .ring, .energy], [0x2040, 0x5068], false⟩
  | .confirmBank .. => ⟨[.clients], [0x2040], false⟩
  | .trialTimeout .. => ⟨[], [0x2040], false⟩
  | .vbatFall .. => ⟨[.life, .supply, .clocks], [0x2130], false⟩
  | .vbatRise .. => ⟨[.supply], [0x2130], false⟩
  | .externalSectorEraseComplete .. => ⟨[.recorder], [0x2520], false⟩
  | .keyStoreComplete .. => ⟨[.recorder, .flash, .energy], [], false⟩
  | .usbResume .. | .usbAddressSet .. => ⟨[], [0x2510], false⟩
  | .usbInTransferComplete .. => ⟨[.gsp], [0x2510], false⟩

/-- A command completes: it answers a next state, and that state has the property. -/
def Safety.completes (c : Instr) (s : State) (P : State → Prop) : Prop := ∃ t, exec c s = .next t ∧ P t

/-- A command is ignored: it answers the state as it is. -/
def Safety.ignored (c : Instr) (s : State) : Prop := exec c s = .next s

/-- An event has an uncleared entry (R459). -/
def Safety.uncleared (s : State) (e : Nat) : Bool := s.fabric.uncleared.any fun (u : Uncleared) => u.ev == e

/-- What a raising of an event does at the least (R459, R463): with a response it leaves the event uncleared; with the
response NONE, of an event that is not uncleared, it is counted under its severity and the event stays as it is. -/
def Safety.raised (e : Nat) (s t : State) : Prop :=
  (s.responseOf e ≠ 0 → Safety.uncleared t e = true) ∧
  (Safety.uncleared s e = false → s.responseEntry e % 16 = 0 →
    Safety.uncleared t e = false ∧
      t.obj 0x2320 (6 + severityOf e) = countNext (objKey 0x2320 (6 + severityOf e)) (s.obj 0x2320 (6 + severityOf e)))

/-- What the end of a standing condition does at the least (R500): the event is no longer STANDING. -/
def Safety.ended (e : Nat) (s t : State) : Prop :=
  ∀ u, s.uncleared e = some u → u.standing = true → t.standing e = false ∧ Safety.uncleared t e = true

/-- The reaction to a communication error by 1029:01 (R60). -/
def Safety.commErrorActs (s t : State) : Prop :=
  (s.obj 0x1029 1 = 0 → s.can.nmt = .operational → t.can.nmt = .preOperational) ∧
  (s.obj 0x1029 1 = 2 → s.can.nmt ≠ .initialising → t.can.nmt = .stopped) ∧
  (s.obj 0x1029 1 = 1 → t.can.nmt = s.can.nmt)

/-- A write that is admitted: the channel reaches the device, the object is there, and neither the admission of R44 nor
the rules of the object refuse its value. -/
def Safety.admits (s : State) (ch : Channel) (ix sub : Nat) (data : List Byte) : Prop :=
  s.reaches ch = true ∧ ∃ row, findRow ix sub = some row ∧
    row.ty.numeric = true ∧ s.admission ch row ix sub data = none ∧
    s.objectRule ch ix sub (row.ty.value data) = none

/-- A write of a DOMAIN or string that is admitted, before the rules of its object. -/
def Safety.textAdmits (s : State) (ch : Channel) (ix sub : Nat) (data : List Byte) : Prop :=
  s.reaches ch = true ∧ ∃ row, findRow ix sub = some row ∧ row.ty.numeric = false ∧
    s.admission ch row ix sub data = none

/-- An action that is admitted, under a tag not yet handled (R81–R84). -/
def Safety.actionAdmits (s : State) (ch : Channel) (ix sub tag arg : Nat) : Prop :=
  s.reaches ch = true ∧ tag ≠ 0 ∧ tag < 65536 ∧ arg < 65536 ∧
    (∀ c ∈ (s.client ch).tags, c.1 ≠ tag) ∧ ∃ row, findRow ix sub = some row ∧
    s.admission ch row ix sub (actionBytes tag arg) = none ∧ s.actionRule ch ix sub arg = none

/-- A client of the SDO server may begin a request (R62): 8 bytes in CiA 301 mode, no transfer open and none owed. -/
def Safety.sdoTakes (s : State) (frame : List Byte) (command : Nat) : Prop :=
  s.canServes = true ∧ s.can.fd = false ∧ frame.length = 8 ∧ sdoCommand frame = command

/-- The GSP server takes a frame as a request (R547–R553): it decodes, carries no error, and its SEQ is not in the
cache. -/
def Safety.gspTakes (s : State) (frame : List Byte) (f : GspFrame) : Prop :=
  frame ≠ [] ∧ s.reaches .gsp = true ∧ s.gsp.request = none ∧ f.error = none ∧ (∀ c ∈ s.gsp.cache, c.1 ≠ f.seq) ∧
    ∃ bytes, cobsDecode (frame ++ [0]) = some bytes ∧ gspParse bytes = some f

/-- No request waits for the answer to an earlier one. -/
def Safety.nothingWaits (s : State) : Prop :=
  s.can.sdoWaiting = [] ∧ s.can.usdoWaiting = [] ∧ s.gsp.waiting = []

/-- A write was answered with success. -/
def Safety.done (t : State) (ch : Channel) (ix sub : Nat) : Prop := t.clients.answer = some ⟨ch, ix, sub, none⟩

/-- A write to 2300:02 that reaches its rule under a new tag (R81–R84, R469). -/
def Safety.clearReaches (s : State) (ch : Channel) (tag arg : Nat) : Prop :=
  s.reaches ch = true ∧ tag ≠ 0 ∧ (∀ c ∈ (s.client ch).tags, c.1 ≠ tag) ∧
    ∃ row, findRow 0x2300 2 = some row ∧ s.admission ch row 0x2300 2 (actionBytes tag arg) = none

/-- Every active response is the same (R465). -/
def Safety.sameResponses (s t : State) : Prop :=
  t.obj 0x2300 1 = s.obj 0x2300 1 ∧ ∀ r : RailId, t.obj 0x2300 (5 + r.val) = s.obj 0x2300 (5 + r.val)

/-- The rows that bring the server a GSP frame (R547). -/
def Safety.gspRows (frame : List Byte) : List Instr :=
  [.gspRead frame, .gspWrite frame, .gspBlockRead frame, .gspBlockWrite frame, .gspSubscribe frame,
    .gspUnsubscribe frame, .gspPing frame]

/-- The abort codes the device sends (R43). -/
def Safety.abortCodes : List Nat :=
  [0x05040001, 0x05040000, 0x06010000, 0x06010001, 0x06010002, 0x06020000, 0x06040041, 0x06040042, 0x06040047,
    0x06070010, 0x06090011, 0x06090030, 0x08000020, 0x08000022]

end Sys2Proof
end

