-- ==== Sys2Proof/Certificates/Slice0/Obligations.lean ====
section
/-! DEFINITION. The statements for the provers, from the numbered rules of the spec. -/

open Sys2Proof Sys2Proof.Machine

/-- O1. NMT commands (R54). -/
def Obligations.NmtCommandsSetTheState : Prop :=
  (∀ (node : BitVec 7) (s : State), s.nmtFor node = true → s.fullService = true → s.can.nmt ≠ .operational →
    Safety.completes (.nmtStart node) s fun t =>
      t.can.nmt = .operational ∧ t.can.startHeld = false ∧ ∀ n : Fin 4, t.can.tpdo[n] = {}) ∧
  (∀ (node : BitVec 7) (s : State), s.nmtFor node = true → s.fullService = false → s.can.nmt ≠ .operational →
    Safety.completes (.nmtStart node) s fun t => t.can = { s.can with startHeld := true }) ∧
  (∀ (node : BitVec 7) (s : State), Safety.canonical s = true → s.nmtFor node = true →
    Safety.completes (.nmtEnterPreOperational node) s fun t =>
      t.can.nmt = .preOperational ∧ ∀ r : RailId, t.isOn r = false) ∧
  (∀ (node : BitVec 7) (s : State), Safety.canonical s = true → s.nmtFor node = true →
    Safety.completes (.nmtStop node) s fun t =>
      t.can.nmt = .stopped ∧ t.can.transfer = .none ∧ (∀ f ∈ t.can.tx, f.staysStopped = true) ∧
        ∀ r : RailId, t.isOn r = false) ∧
  (∀ (node : BitVec 7) (s : State), s.nmtFor node = true →
    Safety.completes (.nmtResetCommunication node) s fun t =>
      t.can.nmt = (if t.nodeId.isSome then .preOperational else .initialising) ∧ t.can.lss = {} ∧
        t.can.transfer = .none ∧ t.can.tx = if t.nodeId.isSome then [.bootUp] else []) ∧
  (∀ (node : BitVec 7) (s : State), s.nmtFor node = true → s.life.resetKind = none →
    Safety.completes (.nmtResetNode node) s fun t => t.life.resetKind = some 4) ∧
  (∀ (node : BitVec 7) (s : State), s.nmtFor node = false →
    Safety.ignored (.nmtStart node) s ∧ Safety.ignored (.nmtEnterPreOperational node) s ∧
      Safety.ignored (.nmtStop node) s ∧ Safety.ignored (.nmtResetCommunication node) s ∧
      Safety.ignored (.nmtResetNode node) s)

/-- O2. Heartbeats and the bus (R58–R61, R615). -/
def Obligations.BusConditionsAct : Prop :=
  (∀ s : State, s.serving = true → s.canSends = true → s.nat 0x1017 0 ≠ 0 →
    Safety.completes .heartbeatPeriodExpiry s fun t =>
      t.can.tx = (s.can.tx.filter fun f => !f.isHeartbeat) ++ [.heartbeat s.can.nmt.code]) ∧
  (∀ s : State, s.nat 0x1017 0 = 0 → Safety.ignored .heartbeatPeriodExpiry s) ∧
  (∀ (node : BitVec 7) (b : Byte) (s : State), Safety.canonical s = true → s.participates = true → s.fullService = true →
    Safety.completes (.heartbeatReceived node b) s fun t =>
      ∀ e : Fin 4, t.can.monitored[e] = (decide (s.watched e = some node.toNat) || s.can.monitored[e])) ∧
  (∀ (e : Fin 4) (s : State), Safety.canonical s = true → s.serving = true → s.can.monitored[e] = true →
    (s.watched e).isSome = true →
    Safety.completes (.heartbeatTimeout e) s fun t =>
      t.can.monitored[e] = false ∧ (s.responseOf cmHbTimeout ≠ 0 → Safety.uncleared t cmHbTimeout = true) ∧
        Safety.commErrorActs s t) ∧
  (∀ (tec rec : Nat) (s : State), Safety.canonical s = true → s.serving = true → s.can.busOff = false →
    s.funcState 8 = 0 →
    Safety.completes (.canBusOff tec rec) s fun t =>
      t.can.busOff = true ∧ t.can.passive = false ∧
        (s.responseOf cmBusOff ≠ 0 → Safety.uncleared t cmBusOff = true) ∧ Safety.commErrorActs s t) ∧
  (∀ s : State, Safety.canonical s = true → s.serving = true → s.can.busOff = true →
    Safety.completes .canBusRecovered s fun t =>
      t.can.busOff = false ∧ (s.responseOf cmBusRecovered ≠ 0 → Safety.uncleared t cmBusRecovered = true)) ∧
  (∀ (tec rec : Nat) (s : State), Safety.canonical s = true → s.serving = true → s.can.busOff = false →
    s.can.passive = false →
    Safety.completes (.canErrorPassive tec rec) s fun t => t.can.passive = true ∧ Safety.raised cmErrorPassive s t) ∧
  (∀ s : State, s.serving = true → s.can.passive = true →
    Safety.completes .errorPassiveTimeout s fun t => Safety.commErrorActs s t) ∧
  (∀ (lost : BitVec 32) (s : State), Safety.canonical s = true → s.listens = true →
    Safety.completes (.canRxOverrun lost) s fun t => Safety.raised cmRxOverrun s t)

/-- O3. PDOs and SYNC (R68, R70, R71, R612, R613). -/
def Obligations.ProcessDataMoves : Prop :=
  (∀ (n : Fin 4) (data : List Byte) (s : State), Safety.canonical s = true → s.reaches .rpdo = true →
    s.bit (0x1400 + n.val) 1 31 = false → s.mapping (0x1600 + n.val) ≠ [] →
    data.length < ((s.mapping (0x1600 + n.val)).map fun e => e.size).sum →
    Safety.completes (.rpdoReceived n data) s fun t => Safety.raised cmRpdoLength s t) ∧
  (∀ (n : Fin 4) (data : List Byte) (s : State), Safety.canonical s = true → s.reaches .rpdo = true →
    s.bit (0x1400 + n.val) 1 31 = false → s.mapping (0x1600 + n.val) ≠ [] → ((s.mapping (0x1600 + n.val)).map fun e => e.size).sum ≤ data.length →
    s.nat (0x1400 + n.val) 2 ≤ 0xF0 →
    Safety.completes (.rpdoReceived n data) s fun t =>
      t.can.rpdoHeld[n] = ((cutValues (s.mapping (0x1600 + n.val)) data).filter fun c => s.rpdoAdmits c.1 c.2).map
        fun c => (objKey c.1.ix c.1.sub, c.2)) ∧
  (∀ (n : Fin 4) (data : List Byte) (s : State) (e : MapEntry), s.reaches .rpdo = true →
    s.bit (0x1400 + n.val) 1 31 = false → s.mapping (0x1600 + n.val) = [e] → e.size ≤ data.length → e.sub < 256 →
    0xF0 < s.nat (0x1400 + n.val) 2 → s.rpdoAdmits e (data.take e.size) = true →
    s.strangeTarget (objKey e.ix e.sub) = false → (s.writeObj .rpdo e.ix e.sub (data.take e.size)).2.code = none →
    Safety.completes (.rpdoReceived n data) s fun t => t = (s.writeObj .rpdo e.ix e.sub (data.take e.size)).1) ∧
  (∀ (counter : Option Byte) (s : State) (n : Fin 4), s.participates = true → s.canSends = true →
    s.can.rpdoHeld = Vector.replicate 4 [] → s.tpdoRuns n.val = true → 1 ≤ s.nat (0x1800 + n.val) 2 →
    s.nat (0x1800 + n.val) 2 ≤ 0xF0 → (s.can.tpdo[n].count + 1) % s.nat (0x1800 + n.val) 2 = 0 →
    Safety.completes (.syncReceived counter) s fun t =>
      TxFrame.tpdo n.val (s.sampleTpdo n.val) true ∈ t.can.tx ∧ t.can.tpdo[n].count = s.can.tpdo[n].count + 1) ∧
  (∀ s : State, s.nat 0x1006 0 ≠ 0 → s.syncAllowed = true → s.nat 0x1019 0 = 0 →
    Safety.completes .syncPeriodExpiry s fun t => t.can.tx = s.can.tx ++ [.sync none]) ∧
  (∀ s : State, s.nat 0x1006 0 ≠ 0 → s.syncAllowed = true → s.nat 0x1019 0 ≠ 0 →
    Safety.completes .syncPeriodExpiry s fun t =>
      t.can.tx = s.can.tx ++ [.sync (some (s.can.syncOut % s.nat 0x1019 0 + 1))]) ∧
  (∀ (n : Fin 4) (data : List Byte) (rest : List TxFrame) (s : State), Safety.canonical s = true → s.nat 0x1007 0 ≠ 0 →
    s.can.tx = .tpdo n.val data true :: rest →
    Safety.completes (.tpdoSyncWindowExpiry n) s fun t =>
      t.can.tx = rest ∧ t.obj 0x5F00 1 = countNext (objKey 0x5F00 1) (s.obj 0x5F00 1)) ∧
  (∀ (n : Fin 4) (s : State), s.eventTpdo n.val = true → s.canSends = true → s.can.tpdo[n].inhibited = false →
    s.nat (0x1800 + n.val) 3 = 0 →
    Safety.completes (.tpdoValueChange n) s fun t => t.can.tx = s.can.tx ++ [.tpdo n.val (s.sampleTpdo n.val) false]) ∧
  (∀ (n : Fin 4) (s : State), s.eventTpdo n.val = true → s.can.tpdo[n].inhibited = true →
    Safety.completes (.tpdoValueChange n) s fun t => t.can.tx = s.can.tx ∧ t.can.tpdo[n].changed = true) ∧
  (∀ (n : Fin 4) (s : State), s.eventTpdo n.val = true → s.canSends = true → s.can.tpdo[n].changed = true →
    Safety.completes (.tpdoInhibitExpiry n) s fun t =>
      t.can.tx = s.can.tx ++ [.tpdo n.val (s.sampleTpdo n.val) false] ∧ t.can.tpdo[n].changed = false ∧
        t.can.tpdo[n].inhibited = false) ∧
  (∀ (n : Fin 4) (s : State), s.can.tpdo[n].changed = false →
    Safety.completes (.tpdoInhibitExpiry n) s fun t => t.can.tx = s.can.tx ∧ t.can.tpdo[n].inhibited = false) ∧
  (∀ (n : Fin 4) (s : State), s.eventTpdo n.val = true → s.canSends = true → s.nat (0x1800 + n.val) 5 ≠ 0 →
    Safety.completes (.tpdoEventTimerExpiry n) s fun t =>
      t.can.tx = s.can.tx ++ [.tpdo n.val (s.sampleTpdo n.val) false])

/-- O4. TIME, EMCY and the transmit queue (R72, R74). -/
def Obligations.TimeAndTransmitQueueAct : Prop :=
  (∀ (days : BitVec 16) (ms : BitVec 28) (s : State), s.participates = true → s.can.nmt ≠ .stopped →
    s.bit 0x1012 0 31 = true → 5844 ≤ days.toNat →
    Safety.completes (.timeReceived days ms) s fun t =>
      t.rtc.ms = (days.toNat - 5844) * 86400000 + ms.toNat ∧ t.rtc.valid = true) ∧
  (∀ (days : BitVec 16) (ms : BitVec 28) (s : State), Safety.canonical s = true → s.participates = true →
    s.can.nmt ≠ .stopped → s.bit 0x1012 0 31 = true → days.toNat < 5844 →
    Safety.completes (.timeReceived days ms) s fun t =>
      t.rtc = s.rtc ∧ t.obj 0x5F00 2 = countNext (objKey 0x5F00 2) (s.obj 0x5F00 2)) ∧
  (∀ (f : List Byte) (rest : List (List Byte)) (s : State), s.canSends = true → s.can.nmt ≠ .stopped →
    s.can.tx.any TxFrame.isEmcy = false → s.can.emcyHeld = f :: rest →
    Safety.completes .emcyInhibitExpiry s fun t =>
      t.can.emcyInhibited = false ∧ t.can.tx = s.can.tx ++ [.emcy f] ∧ t.can.emcyHeld = rest) ∧
  (∀ s : State, s.can.emcyHeld = [] →
    Safety.completes .emcyInhibitExpiry s fun t => t.can = { s.can with emcyInhibited := false }) ∧
  (∀ (f : TxFrame) (rest : List TxFrame) (s : State), s.serving = true → s.can.busOff = false →
    s.can.tx = f :: rest → f.emcyData = [] → (∀ c, f ≠ .sync c) →
    Safety.completes .canFrameTransmitted s fun t => t.can.tx = rest) ∧
  (∀ (n : Fin 4) (data : List Byte) (sync : Bool) (rest : List TxFrame) (s : State), s.serving = true →
    s.can.busOff = false → s.can.tx = .tpdo n.val data sync :: rest →
    Safety.completes .canFrameTransmitted s fun t =>
      t.can.tpdo[n].lastSent = some data ∧
        t.can.tpdo[n].inhibited = (s.can.tpdo[n].inhibited || (!sync && s.nat (0x1800 + n.val) 3 != 0))) ∧
  (∀ (data : List Byte) (rest : List TxFrame) (s : State), s.serving = true → s.can.busOff = false →
    s.can.tx = .emcy data :: rest → s.nat 0x1015 0 ≠ 0 →
    Safety.completes .canFrameTransmitted s fun t => t.can.tx = rest ∧ t.can.emcyInhibited = true) ∧
  (∀ s : State, s.can.tx = [] → Safety.ignored .canFrameTransmitted s)

/-- O5. The LSS services (R50). -/
def Obligations.LssServicesAct : Prop :=
  (∀ s : State, s.listens = true →
    Safety.completes (.lssSwitchState .configuration) s fun t => t.can.lss.configuring = true) ∧
  (∀ s : State, s.listens = true →
    Safety.completes (.lssSwitchState .waiting) s fun t => t.can.lss.configuring = false) ∧
  (∀ (v p r n : BitVec 32) (s : State), s.listens = true →
    Safety.completes (.lssSwitchState (.selective v p r n)) s fun t =>
      t.can.lss.configuring = (s.can.lss.configuring ||
        [v.toNat, p.toNat, r.toNat, n.toNat] == (List.range 4).map s.lssAddress)) ∧
  (∀ (id : Byte) (s : State), s.lssConfigures = true → lssIdValid id.toNat = true →
    Safety.completes (.lssConfigureNodeId id) s fun t => t.can.lss.nodeId = some id.toNat) ∧
  (∀ (id : Byte) (s : State), s.lssConfigures = true → lssIdValid id.toNat = false →
    Safety.completes (.lssConfigureNodeId id) s fun t => t.can.lss = s.can.lss) ∧
  (∀ (timing : Byte) (s : State), s.lssConfigures = true → bitIndexValid timing.toNat = true →
    Safety.completes (.lssConfigureBitTiming 0 timing) s fun t => t.can.lss.bitIndex = some timing.toNat) ∧
  (∀ (delay : BitVec 16) (i : Nat) (s : State), s.lssConfigures = true → s.can.lss.bitIndex = some i →
    Safety.completes (.lssActivateBitTiming delay) s fun t => t.can.bitIndex = i) ∧
  (∀ (id i : Nat) (s : State), Safety.canonical s = true → s.lssConfigures = true → s.lssStoreRefused = false →
    s.can.lss.nodeId = some id → s.can.lss.bitIndex = some i →
    Safety.completes .lssStoreConfiguration s fun t =>
      t.obj 0x2008 7 = id ∧ t.obj 0x2008 2 = i ∧ t.obj 0x2008 4 = 1 ∧
        ∃ op, t.flash.store = some op ∧ op.area = 2 ∧ op.restore = false) ∧
  (∀ (entry : Fin 4) (s : State), s.lssConfigures = true → s.life.resetKind = none →
    Safety.completes (.lssInquireIdentity entry) s fun t =>
      t.can.tx = s.can.tx ++ [.lss ((leBytes 1 (0x5A + entry.val) ++ leBytes 4 (s.lssAddress entry.val) ++
        leBytes 8 0).take 8)]) ∧
  (∀ (id : BitVec 32) (sub next : Byte) (s : State), s.listens = true → s.nodeId = none →
    s.can.lss.configuring = false →
    Safety.completes (.lssFastscan id 0x80 sub next) s fun t => t.can.lss.fastPos = 0) ∧
  (∀ (id : BitVec 32) (sub next : Byte) (s : State), s.listens = true → s.nodeId = none →
    s.can.lss.configuring = false → s.scanMatches id.toNat 0 sub.toNat = true →
    Safety.completes (.lssFastscan id 0 sub next) s fun t =>
      t.can.lss.fastPos = next.toNat ∧ t.can.lss.configuring = decide (next.toNat < sub.toNat))

/-- O6. The SDO and USDO servers (R43, R62, R64). -/
def Obligations.SdoServersAnswer : Prop :=
  (∀ (frame : List Byte) (s : State), Safety.sdoTakes s frame 1 → s.can.transfer = .none → s.can.sdoOwed = none →
    (byteAt frame 0).testBit 1 = true →
    (s.writeObj .sdo (sdoPlace frame).1 (sdoPlace frame).2 (sdoExpedited frame)).2 = .done →
    (s.writeObj .sdo (sdoPlace frame).1 (sdoPlace frame).2 (sdoExpedited frame)).1.canSends = true →
    Safety.completes (.sdoDownloadInitiate frame) s fun t =>
      Safety.done t .sdo (sdoPlace frame).1 (sdoPlace frame).2 ∧
        t.od = (s.writeObj .sdo (sdoPlace frame).1 (sdoPlace frame).2 (sdoExpedited frame)).1.od ∧
        TxFrame.sdo (sdoWriteAnswer (sdoPlace frame).1 (sdoPlace frame).2) ∈ t.can.tx) ∧
  (∀ (frame : List Byte) (s : State), Safety.sdoTakes s frame 1 → s.can.transfer = .none → s.can.sdoOwed = none →
    (byteAt frame 0).testBit 1 = false → (byteAt frame 0).testBit 0 = true →
    openRule (sdoPlace frame).1 (sdoPlace frame).2 = none →
    Safety.completes (.sdoDownloadInitiate frame) s fun t =>
      t.can.transfer = .download (sdoPlace frame).1 (sdoPlace frame).2 (some (leNat (slice frame 4 4))) [] false) ∧
  (∀ (frame data : List Byte) (ix sub : Nat) (tog : Bool) (s : State), Safety.sdoTakes s frame 0 →
    s.can.transfer = .download ix sub none data tog → s.can.sdoOwed = none → sdoToggle frame = tog → ix ≠ 0x1F50 →
    sdoLast frame = false →
    Safety.completes (.sdoDownloadSegment frame) s fun t =>
      t.can.transfer = .download ix sub none (data ++ sdoSegment frame) (!tog)) ∧
  (∀ (frame data : List Byte) (ix sub : Nat) (tog : Bool) (s s' : State), Safety.sdoTakes s frame 0 →
    s.can.transfer = .download ix sub none data tog → s.can.sdoOwed = none → sdoToggle frame = tog → ix ≠ 0x1F50 →
    sdoLast frame = true → s' = s.setCan { s.can with transfer := .none } →
    (s'.writeObj .sdo ix sub (data ++ sdoSegment frame)).2 = .done →
    Safety.completes (.sdoDownloadSegment frame) s fun t =>
      Safety.done t .sdo ix sub ∧ t.od = (s'.writeObj .sdo ix sub (data ++ sdoSegment frame)).1.od) ∧
  (∀ (frame : List Byte) (s : State), Safety.canonical s = true → Safety.sdoTakes s frame 2 → s.canSends = true →
    s.can.transfer = .none → s.can.sdoOwed = none → s.readRule .sdo (sdoPlace frame).1 (sdoPlace frame).2 = none →
    Safety.completes (.sdoUploadInitiate frame) s fun t =>
      TxFrame.sdo (sdoReadAnswer (sdoPlace frame).1 (sdoPlace frame).2
        (s.readBytes .sdo (sdoPlace frame).1 (sdoPlace frame).2)) ∈ t.can.tx ∧
      (4 < (s.readBytes .sdo (sdoPlace frame).1 (sdoPlace frame).2).length → t.can.transfer =
        .upload (sdoPlace frame).1 (sdoPlace frame).2 (s.readBytes .sdo (sdoPlace frame).1 (sdoPlace frame).2) false)) ∧
  (∀ (frame rest : List Byte) (ix sub : Nat) (tog : Bool) (s : State), Safety.sdoTakes s frame 3 → s.canSends = true →
    s.can.transfer = .upload ix sub rest tog → sdoToggle frame = tog → 7 < rest.length →
    Safety.completes (.sdoUploadSegment frame) s fun t =>
      t.can.transfer = .upload ix sub (rest.drop 7) (!tog) ∧
        t.can.tx = s.can.tx ++ [.sdo (sdoReadSegment tog false (rest.take 7))]) ∧
  (∀ (frame rest : List Byte) (ix sub : Nat) (tog : Bool) (s : State), Safety.sdoTakes s frame 3 →
    s.can.transfer = .upload ix sub rest tog → sdoToggle frame = tog → rest.length ≤ 7 →
    Safety.completes (.sdoUploadSegment frame) s fun t => t.can.transfer = .none) ∧
  (∀ (frame : List Byte) (s : State), Safety.sdoTakes s frame 4 →
    Safety.completes (.sdoAbortTransfer frame) s fun t => t.can.transfer = .none ∧ t.can.sdoOwed = none) ∧
  (∀ (ix sub : Nat) (size : Option Nat) (data : List Byte) (tog : Bool) (s : State), Safety.canonical s = true →
    s.can.sdoOwed = none → s.can.transfer = .download ix sub size data tog → s.canSends = true →
    Safety.completes .sdoTransferTimeout s fun t =>
      t.can.transfer = .none ∧ t.can.tx = s.can.tx ++ [.sdo (sdoAbort ix sub 0x05040000)]) ∧
  (∀ (n : BitVec 7) (ix : BitVec 16) (sub : Byte) (data : List Byte) (s : State), s.reaches (.usdo n) = true →
    s.usdoTransfer n = .none → s.can.usdoOwed.contains n.toNat = false →
    (s.writeObj (.usdo n) ix.toNat sub.toNat data).2 = .done →
    (s.writeObj (.usdo n) ix.toNat sub.toNat data).1.canSends = true →
    Safety.completes (.usdoRequest n false (.download ix sub data)) s fun t =>
      Safety.done t (.usdo n) ix.toNat sub.toNat ∧ t.od = (s.writeObj (.usdo n) ix.toNat sub.toNat data).1.od ∧
        TxFrame.usdo n.toNat ix.toNat sub.toNat none [] ∈ t.can.tx) ∧
  (∀ (n : BitVec 7) (ix : BitVec 16) (sub : Byte) (s : State), Safety.canonical s = true → s.reaches (.usdo n) = true →
    s.canSends = true → s.usdoTransfer n = .none → s.can.usdoOwed.contains n.toNat = false →
    s.readRule (.usdo n) ix.toNat sub.toNat = none →
    (s.readBytes (.usdo n) ix.toNat sub.toNat).length ≤ usdoBytes →
    Safety.completes (.usdoRequest n false (.upload ix sub)) s fun t =>
      TxFrame.usdo n.toNat ix.toNat sub.toNat none (s.readBytes (.usdo n) ix.toNat sub.toNat) ∈ t.can.tx) ∧
  (∀ (n : BitVec 7) (req : UsdoReq) (s : State), Safety.ignored (.usdoRequest n true req) s)

/-- O7. The GSP server (R550–R559). -/
def Obligations.GspServerAnswers : Prop :=
  (∀ (frame : List Byte) (f : GspFrame) (s : State), Safety.gspTakes s frame f → f.type = 1 →
    (s.bump 0x2510 6).readRule .gsp f.ix f.sub = none →
    ((s.bump 0x2510 6).readBytes .gsp f.ix f.sub).length ≤ 512 →
    Safety.completes (.gspRead frame) s fun t =>
      t.gsp.out = s.gsp.out ++ [gspFrame f.seq 0x81 f.ix f.sub ((s.bump 0x2510 6).readBytes .gsp f.ix f.sub)]) ∧
  (∀ (frame : List Byte) (f : GspFrame) (s : State), Safety.gspTakes s frame f → f.type = 2 →
    ((s.bump 0x2510 6).writeObj .gsp f.ix f.sub f.payload).2 = .done →
    Safety.completes (.gspWrite frame) s fun t =>
      Safety.done t .gsp f.ix f.sub ∧ t.od = ((s.bump 0x2510 6).writeObj .gsp f.ix f.sub f.payload).1.od ∧
        gspFrame f.seq 0x82 f.ix f.sub [] ∈ t.gsp.out) ∧
  (∀ (frame : List Byte) (f : GspFrame) (s s' : State), Safety.gspTakes s frame f → f.type = 3 → f.segment.2.1 = 0 →
    s' = (s.bump 0x2510 6).closeBlock → s'.readRule .gsp f.ix f.sub = none →
    Safety.completes (.gspBlockRead frame) s fun t =>
      gspFrame f.seq 0x83 f.ix f.sub (segmentHeader (Nat.ble (s'.readBytes .gsp f.ix f.sub).length 504) 0 ++
        (s'.readBytes .gsp f.ix f.sub).take 504) ∈ t.gsp.out) ∧
  (∀ (frame : List Byte) (f : GspFrame) (s : State), Safety.gspTakes s frame f → f.type = 4 → f.segment.2.1 = 0 →
    f.segment.1 = false → f.ix ≠ 0x1F50 →
    Safety.completes (.gspBlockWrite frame) s fun t =>
      t.gsp.block = some ⟨true, f.ix, f.sub, f.segment.2.2, f.segment.2.2.length⟩) ∧
  (∀ (frame : List Byte) (f : GspFrame) (s : State), Safety.canonical s = true → Safety.gspTakes s frame f →
    f.type = 5 →
    Safety.completes (.gspSubscribe frame) s fun t => t.obj 0x2510 5 = byteAt f.payload 0) ∧
  (∀ (frame : List Byte) (f : GspFrame) (s : State), Safety.canonical s = true → Safety.gspTakes s frame f →
    f.type = 6 →
    Safety.completes (.gspUnsubscribe frame) s fun t => t.obj 0x2510 5 = 0xFF ∧ t.gsp.events = []) ∧
  (∀ (frame : List Byte) (f : GspFrame) (s : State), Safety.canonical s = true → Safety.gspTakes s frame f →
    f.type = 7 →
    Safety.completes (.gspPing frame) s fun t =>
      t.gsp.out = s.gsp.out ++ [gspFrame f.seq 0x87 f.ix f.sub (leBytes 1 s.lifecycle ++ leBytes 1 s.power ++
        leBytes 1 (s.channelLevel .gsp).rank ++ leBytes 1 s.stage ++ leBytes 4 (s.life.up / 1000))]) ∧
  (∀ (b : GspBlock) (s : State), s.gsp.block = some b → s.gsp.request = none →
    Safety.completes .gspBlockTimeout s fun t => t.gsp.block = none ∧ t.gsp.aborted = some 0x05040000) ∧
  (∀ (frame : List Byte) (s : State), Safety.canonical s = true → frame ≠ [] → s.reaches .gsp = true →
    cobsDecode (frame ++ [0]) = none →
    Safety.completes (.gspRead frame) s fun t =>
      t.gsp = s.gsp ∧ t.obj 0x2510 7 = countNext (objKey 0x2510 7) (s.obj 0x2510 7))

/-- O8. What the completion of flash work leaves (R78, R80, R121, R418, R489, R566, R569, R577). -/
def Obligations.FlashWorkCompletes : Prop :=
  (∀ (op : StoreOp) (s : State), s.supply.pfw = false → s.flash.store = some op → op.restore = false →
    Safety.nothingWaits s →
    Safety.completes .storeComplete s fun t => t.flash.store = none ∧ t.storedParams = some op.copy) ∧
  (∀ (op : StoreOp) (s : State), s.supply.pfw = false → s.flash.store = some op → op.restore = true →
    Safety.nothingWaits s →
    Safety.completes .restoreComplete s fun t => t.flash.store = none ∧ t.storedParams = some op.copy) ∧
  (∀ (op : ActionOp) (c : ParamCopy) (s : State), s.supply.pfw = false → s.flash.calOp = some (op, c) →
    Safety.nothingWaits s →
    Safety.completes .calibrationStoreComplete s fun t => t.flash.calOp = none ∧ t.storedCal = some c) ∧
  (∀ s : State, Safety.canonical s = true → s.flash.bankErase = true → s.supply.pfw = false →
    s.flash.download = none → Safety.nothingWaits s →
    Safety.completes .bankEraseComplete s fun t =>
      t.flash.bankErase = false ∧ t.obj 0x2040 (2 + s.otherBank) = 0) ∧
  (∀ (source : Fin 3) (s : State), Safety.canonical s = true → s.serving = true → s.bit 0x2130 5 source.val = true →
    (source = 0 → s.obj 0x2130 1 < s.obj 0x2130 4) → (source = 1 → s.energy.interruption.active = true) →
    s.supply.pfw = false → Safety.nothingWaits s →
    Safety.completes (.powerFailWarning source) s fun t =>
      t.supply.pfw = true ∧ t.supply.flushing = true ∧ t.supply.pfwSources = 2 ^ source.val ∧
        t.flash.store = none ∧ t.obj 0x2130 6 = (2 ^ source.val : Nat) ∧ t.fabric.fifo = []) ∧
  (∀ (source : Fin 3) (s : State), s.serving = true → s.bit 0x2130 5 source.val = true →
    (source = 0 → s.obj 0x2130 1 < s.obj 0x2130 4) → (source = 1 → s.energy.interruption.active = true) →
    s.supply.pfw = true →
    Safety.completes (.powerFailWarning source) s fun t =>
      t.supply.pfwSources = s.supply.pfwSources ||| 2 ^ source.val) ∧
  (∀ (op : ActionOp) (o : OutlineSet) (s : State), s.supply.pfw = false → s.flash.outlineOp = some (op, o) →
    Safety.completes .outlineSetCommitComplete s fun t => t.flash.outlineOp = none ∧ t.outlineSet = some o) ∧
  (∀ (op : ActionOp) (m : List Nat) (s : State), s.supply.pfw = false → s.flash.mapOp = some (op, m) →
    Safety.completes .accessMapStoreComplete s fun t => t.flash.mapOp = none ∧ t.flash.mapStored = m) ∧
  (∀ (op : KeyOp) (s : State), s.supply.pfw = false → s.flash.keyOp = some op →
    Safety.completes .keyStoreComplete s fun t => t.flash.keyOp = none ∧
      (if op.oem then t.flash.oemKey else t.flash.technicianKey) = some op.key)

/-- O9. The clocks (R22–R24, R130, R425, R507, R540). -/
def Obligations.ClockEventsAct : Prop :=
  (∀ s : State, s.clocked = true → s.clocks.mode ≠ 2 → s.clocks.ranOnCrystal = false →
    Safety.completes .crystalQualified s fun t =>
      t.clocks.crystal = true ∧ t.clocks.ranOnCrystal = true ∧ t.life.settling = true) ∧
  (∀ s : State, s.clocks.mode = 2 → Safety.ignored .crystalQualified s) ∧
  (∀ s : State, s.serving = true → s.clocks.ranOnCrystal = false → s.life.settling = false →
    s.metrology.settled = false → s.clocks.mode = 0 →
    Safety.completes .crystalNotQualified s fun t =>
      t.life.settling = true ∧ (s.responseOf dvXtalNotQualified ≠ 0 → Safety.uncleared t dvXtalNotQualified = true)) ∧
  (∀ s : State, Safety.canonical s = true → s.serving = true → s.clocks.ranOnCrystal = false → s.life.settling = false →
    s.metrology.settled = false → s.clocks.mode = 1 → s.stage ≠ 2 → s.stage ≠ 3 →
    Safety.completes .crystalNotQualified s fun t => t.obj 0x2120 1 = 3 ∧ t.life.failedBoot = true) ∧
  (∀ s : State, Safety.canonical s = true → s.serving = true → s.clocks.crystal = true →
    Safety.completes .crystalLoss s fun t =>
      t.clocks.crystal = false ∧ t.metrology.reduced = true ∧ t.outline.active = true ∧
        t.obj 0x2010 5 = countNext (objKey 0x2010 5) (s.obj 0x2010 5) ∧
        (s.responseOf dvXtalLoss ≠ 0 → Safety.uncleared t dvXtalLoss = true)) ∧
  (∀ s : State, Safety.canonical s = true → s.serving = true → s.clocks.pll = true →
    Safety.completes .pllLoss s fun t =>
      t.clocks.pll = false ∧ t.obj 0x2010 5 = countNext (objKey 0x2010 5) (s.obj 0x2010 5) ∧
        (s.responseOf dvPllLoss ≠ 0 → Safety.uncleared t dvPllLoss = true)) ∧
  (∀ s : State, Safety.canonical s = true → s.clocked = true → s.clocks.pll = false →
    Safety.completes .pllLocked s fun t => t.clocks.pll = true ∧ t.bit 0x2120 2 0 = true) ∧
  (∀ s : State, Safety.canonical s = true → s.serving = true → s.clocks.pll = false → s.bit 0x2120 2 0 = false →
    s.stage ≠ 2 → s.stage ≠ 3 →
    Safety.completes .pllLockTimeout s fun t => t.obj 0x2120 1 = 3 ∧ t.life.failedBoot = true) ∧
  (∀ s : State, Safety.canonical s = true → s.clocked = true → s.serving = false → s.clocks.crystal = true →
    Safety.completes .crystalLoss s fun t =>
      t.clocks.crystal = false ∧ t.metrology.reduced = true ∧
        t.obj 0x2010 5 = countNext (objKey 0x2010 5) (s.obj 0x2010 5) ∧ ∃ d, (dvXtalLoss, d) ∈ t.life.bootEvents) ∧
  (∀ s : State, s.serving = true → s.obj 0x2510 4 ≠ 0 → s.clocks.crystal = false →
    Safety.completes .usbStartOfFrame s fun t => t.clocks.sofTrim = true) ∧
  (∀ s : State, s.rtcSupplied = true → Safety.completes .lseStart s fun t => t.clocks.lse = true) ∧
  (∀ s : State, Safety.completes .lseStopTimeout s fun t => t.clocks.lse = false ∧ t.rtc.valid = false)

/-- O10. Supply levels (R95, R115–R119). -/
def Obligations.SupplyLevelsAct : Prop :=
  (∀ (mv : BitVec 16) (s : State), Safety.canonical s = true → 3900 < mv.toNat → s.supply.vin = false →
    Safety.completes (.vinRise mv) s fun t =>
      t.supply.vin = true ∧ t.obj 0x2130 1 = mv.toNat ∧ (s.life.st = .unpowered → t.life.st = .reset)) ∧
  (∀ (mv : BitVec 16) (s : State), mv.toNat ≤ 3900 →
    Safety.completes (.vinRise mv) s fun t => t = s.putObj 0x2130 1 mv.toNat) ∧
  (∀ (mv : BitVec 16) (s : State), mv.toNat < 3800 → s.supply.vin = true → s.supply.vbus = false →
    Safety.completes (.vinFall mv) s fun t => t.supply.vin = false ∧ t.life.st = .unpowered) ∧
  (∀ (mv : BitVec 16) (s : State), Safety.canonical s = true → mv.toNat < 3800 → s.supply.vin = true →
    s.supply.vbus = true → s.serving = true → 3 ≤ s.nat 0x2100 1 → s.supply.vinLost = false →
    Safety.completes (.vinFall mv) s fun t =>
      t.supply.vin = false ∧ t.supply.vinLost = true ∧ t.obj 0x2100 2 = 2 ∧
        (s.responseOf dvVinLost ≠ 0 → Safety.uncleared t dvVinLost = true)) ∧
  (∀ (mv : BitVec 16) (s : State), Safety.canonical s = true → 3900 < mv.toNat → s.supply.vbus = false →
    s.serving = true → s.funcState 9 = 0 → s.obj 0x2510 4 = 0 →
    Safety.completes (.vbusRise mv) s fun t =>
      t.supply.vbus = true ∧ t.obj 0x2130 2 = mv.toNat ∧ t.obj 0x2510 4 = 1) ∧
  (∀ (mv : BitVec 16) (s : State), mv.toNat < 3800 → s.supply.vbus = true → s.supply.vin = false →
    Safety.completes (.vbusFall mv) s fun t => t.supply.vbus = false ∧ t.life.st = .unpowered) ∧
  (∀ (mv : BitVec 16) (s : State), Safety.canonical s = true → mv.toNat < 3800 → s.supply.vbus = true →
    s.supply.vin = true → s.serving = true →
    Safety.completes (.vbusFall mv) s fun t => t.supply.vbus = false ∧ t.obj 0x2510 4 = 0) ∧
  (∀ s : State, Safety.canonical s = true → s.serving = true → s.supply.vinLost = true → s.supply.vin = true →
    3 ≤ s.nat 0x2100 1 →
    Safety.completes .vinRestoredTimer s fun t => t.supply.vinLost = false ∧ t.obj 0x2100 2 = s.obj 0x2100 1) ∧
  (∀ (mv : BitVec 16) (s : State), mv.toNat < 1800 →
    Safety.completes (.vbatFall mv) s fun t =>
      t.supply.vbat = false ∧ (s.life.st = .unpowered → t.life.retainedValid = false)) ∧
  (∀ (mv : BitVec 16) (s : State), 1800 ≤ mv.toNat →
    Safety.completes (.vbatRise mv) s fun t => t.supply.vbat = true) ∧
  (∀ (mv : BitVec 16) (s : State), Safety.canonical s = true → mv.toNat < 2700 → s.supply.vpwm = true →
    Safety.completes (.vpwmLow mv) s fun t =>
      t.supply.vpwm = false ∧ t.obj 0x5F00 5 = mv.toNat ∧ t.obj 0x5F00 6 = 0 ∧
        ∀ r : RailId, s.isOn r = true → s.responseOf (rlVpwmLow r.val) ≠ 0 →
          Safety.uncleared t (rlVpwmLow r.val) = true) ∧
  (∀ (mv : BitVec 16) (s : State), mv.toNat < 2700 → s.supply.vpwm = true → s.anyOn = false → s.outline.active = false →
    s.outline.startedDrive = false → s.outline.startedStore = false → Safety.canonical s = true →
    Safety.completes (.vpwmLow mv) s fun t =>
      ∀ p : PhaseId, t.phases[p].outH = false ∧ t.phases[p].outL = false ∧ t.phases[p].switching = false) ∧
  (∀ (mv : BitVec 16) (s : State), Safety.canonical s = true → 2700 ≤ mv.toNat → s.supply.vpwm = false →
    Safety.completes (.vpwmRestored mv) s fun t => t.supply.vpwm = true ∧ t.obj 0x5F00 5 = mv.toNat)

/-- O11. Resets (R103, R124, R138–R142, R594). -/
def Obligations.ResetsAct : Prop :=
  (∀ s : State, s.life.st = .run → s.life.resetKind = none →
    Safety.completes .resetPin s fun t => t.life.resetKind = some 3) ∧
  (∀ s : State, s.life.st = .sleep →
    Safety.completes .resetPin s fun t => t.life.st = .reset ∧ t.life.resetKind = some 0x0A) ∧
  (∀ (k : Nat) (s : State), s.clocked = true → s.life.resetKind = some k →
    Safety.completes .resetEffect s fun t =>
      t.life.st = .reset ∧ t.life.resetKind = some k ∧ t.phases = Vector.replicate 12 {} ∧
        t.ring.bypassClosed = true) ∧
  (∀ s : State, s.life.st = .reset → s.life.thermalHold = false → s.supply.vin = true →
    Safety.completes .resetRelease s fun t =>
      t.life.st = .boot ∧ t.life.resetKind = none ∧ t.life.retainedValid = true ∧ t.life.up = 0) ∧
  (∀ s : State, s.clocked = true → s.life.resetKind = none →
    Safety.completes .watchdogExpiry s fun t =>
      t.life.lastWatchdog = some s.life.seconds ∧
        t.life.resetKind = some (if ∃ n, s.life.lastWatchdog = some n ∧ s.life.seconds < n + 60 then 6 else 5)) ∧
  (∀ (j : BitVec 16) (s : State), s.clocked = true → s.life.resetKind = none → s.life.thermalHold = false →
    1650 ≤ j.toInt →
    Safety.completes (.thermalReset j) s fun t => t.life.thermalHold = true ∧ t.life.resetKind = some 7) ∧
  (∀ s : State, s.life.thermalHold = true → s.life.st = .reset →
    Safety.completes .thermalRelease s fun t => t.life.thermalHold = false ∧ t.life.st = .boot) ∧
  (∀ (j : BitVec 16) (s : State), Safety.canonical s = true → s.serving = true → 1400 ≤ j.toInt →
    Safety.completes (.junctionTemperatureHigh j) s fun t =>
      t.obj 0x5F00 7 = j.toInt ∧ (s.responseOf dvTempHigh ≠ 0 → Safety.uncleared t dvTempHigh = true)) ∧
  (∀ (j : BitVec 16) (s : State), Safety.canonical s = true → s.serving = true → j.toInt < 1350 →
    Safety.completes (.junctionTemperatureHigh j) s fun t => t.obj 0x5F00 7 = j.toInt ∧ Safety.ended dvTempHigh s t) ∧
  (∀ (us : BitVec 16) (s : State), Safety.canonical s = true → s.serving = true → s.supply.pfw = true →
    s.supply.flushing = true →
    Safety.completes (.powerFailFlushComplete us) s fun t =>
      t.supply.flushing = false ∧ t.obj 0x2130 7 = us.toNat) ∧
  (∀ s : State, Safety.canonical s = true → s.serving = true → s.supply.pfw = true →
    (s.bit 0x2130 5 0 = true → s.obj 0x2130 4 + 200 ≤ s.obj 0x2130 1) →
    (s.bit 0x2130 5 1 = true → s.energy.interruption.active = false) →
    Safety.completes .powerFailWarningClear s fun t =>
      t.supply.pfw = false ∧ (s.responseOf dvPfwEnd ≠ 0 → Safety.uncleared t dvPfwEnd = true))

/-- O12. Survey, the dew check and wet hold (R55, R127, R135, R136, R137). -/
def Obligations.BringUpGoesOn : Prop :=
  (∀ (codes : List (BitVec 12)) (spi : BitVec 24) (s : State), Safety.canonical s = true → s.life.st = .boot →
    s.life.resetKind = none →
    Safety.completes (.surveyStart codes spi) s fun t =>
      t.life.st = .run ∧ t.life.up = 45 ∧ t.obj 0x2120 3 = 45 ∧
        (if t.obj 0x2128 1 = 1 then t.life.dewRunning = true
         else t.bit 0x2120 2 5 = true ∧ t.bit 0x2120 2 6 = true) ∧
        if t.nodeId.isSome = true then t.can.nmt = .preOperational ∧ TxFrame.bootUp ∈ t.can.tx
        else t.can.nmt = .initialising) ∧
  (∀ (readings : List (BitVec 16)) (s : State), Safety.canonical s = true → s.serving = true →
    s.life.dewRunning = true →
    (highestReading (maskList 12 (s.nat 0x2128 2)) readings).1 ≤ s.nat 0x2128 3 →
    Safety.completes (.dewCheckComplete readings) s fun t =>
      t.life.dewRunning = false ∧ t.bit 0x2120 2 5 = true ∧ t.stage ≠ 1 ∧
        t.obj 0x2128 4 = (highestReading (maskList 12 (s.nat 0x2128 2)) readings).1) ∧
  (∀ (readings : List (BitVec 16)) (s : State), Safety.canonical s = true → s.serving = true →
    s.life.dewRunning = true →
    s.nat 0x2128 3 < (highestReading (maskList 12 (s.nat 0x2128 2)) readings).1 →
    Safety.completes (.dewCheckComplete readings) s fun t =>
      t.life.dewRunning = false ∧ t.obj 0x2120 1 = (if s.stage = 0 then 1 else s.obj 0x2120 1) ∧
        t.obj 0x2128 4 = (highestReading (maskList 12 (s.nat 0x2128 2)) readings).1 ∧
        t.obj 0x2128 7 = (highestReading (maskList 12 (s.nat 0x2128 2)) readings).2 ∧
        t.obj 0x2128 6 = countNext (objKey 0x2128 6) (s.obj 0x2128 6)) ∧
  (∀ (readings : List (BitVec 16)) (s : State), Safety.canonical s = true → s.serving = true →
    s.life.dewRunning = true → s.stage = 0 → s.standing dvWetHold = false →
    s.nat 0x2128 3 < (highestReading (maskList 12 (s.nat 0x2128 2)) readings).1 →
    Safety.completes (.dewCheckComplete readings) s fun t =>
      t.life.dewRunning = false ∧ t.obj 0x2120 1 = 1 ∧ t.life.wetSince = s.life.up ∧
        (s.responseOf dvWetHold ≠ 0 → Safety.uncleared t dvWetHold = true)) ∧
  (∀ s : State, s.serving = true → s.standing dvWetHold = true → s.life.dewRunning = false →
    Safety.completes .dewCheckRepeat s fun t => t.life.dewRunning = true) ∧
  (∀ (ch : Channel) (tag : BitVec 16) (s : State), Safety.canonical s = true →
    Safety.actionAdmits s ch 0x2128 5 tag.toNat 1 →
    Safety.completes (.wetHoldOverride ch tag) s fun t =>
      Safety.done t ch 0x2128 5 ∧ t.bit 0x2120 2 5 = true ∧ t.obj 0x2120 1 = 0 ∧ t.life.dewRunning = false ∧
        t.obj 0x2128 5 = tag.toNat)

/-- O13. Power states (R147–R151). -/
def Obligations.PowerStatesChange : Prop :=
  (∀ s : State, Safety.canonical s = true → s.serving = true → s.power = 2 → s.obj 0x2100 3 = 2 →
    s.life.joining = false → (s.life.joinedOnce = true ∨ s.isRingLead = false) →
    Safety.completes .standbyToIdle s fun t =>
      t.obj 0x2100 2 = 3 ∧ ∀ p : PhaseId, t.phases[p].counting = true) ∧
  (∀ s : State, Safety.canonical s = true → s.serving = true → s.power = 2 → s.obj 0x2100 3 = 2 →
    s.life.joining = false → s.life.joinedOnce = false → s.isRingLead = true → s.obj 0x2400 1 = 1 →
    s.funcState 7 = 0 → s.outline.active = false → s.ring.joined = false → s.ring.leaving = none →
    s.obj 0x2400 2 ≠ 6 →
    Safety.completes .standbyToIdle s fun t =>
      t.obj 0x2400 2 = 1 ∧ t.obj 0x2100 2 = 2 ∧ t.obj 0x2100 3 = 2 ∧ ∀ p : PhaseId, t.phases[p].counting = true) ∧
  (∀ s : State, Safety.canonical s = true → s.serving = true → s.power = 3 → s.obj 0x2100 3 = 0 → s.obj 0x2100 1 = 4 →
    Safety.completes .idleToRun s fun t => t.obj 0x2100 2 = 4) ∧
  (∀ s : State, Safety.canonical s = true → s.serving = true → s.power = 4 → s.obj 0x2100 3 = 1 →
    s.anyOnOrStopping = false →
    Safety.completes .runToIdle s fun t => t.obj 0x2100 2 = 3) ∧
  (∀ s : State, Safety.canonical s = true → s.serving = true → s.power = 3 → s.obj 0x2100 3 = 3 →
    s.ring.leaving = none →
    Safety.completes .idleToStandby s fun t =>
      t.obj 0x2100 2 = 2 ∧ ∀ p : PhaseId, t.phases[p].switching = false) ∧
  (∀ s : State, Safety.canonical s = true → s.poweringDown = true → s.life.downTo ≠ 0 →
    Safety.completes .standbyToSleep s fun t =>
      t.life.st = .sleep ∧ t.obj 0x2100 1 = 1 ∧ t.obj 0x2100 2 = 1) ∧
  (∀ s : State, Safety.canonical s = true → s.poweringDown = true → s.life.downTo = 0 →
    Safety.completes .standbyToOff s fun t => t.life.st = .off ∧ t.obj 0x2100 1 = 0 ∧ t.obj 0x2100 2 = 0) ∧
  (∀ s : State, s.life.st = .sleep →
    Safety.completes (.sleepWake .resetPin) s fun t => t.life.st = .reset ∧ t.life.resetKind = some 0x0A) ∧
  (∀ (source : WakeSource) (s : State), s.life.st = .sleep → source ≠ .resetPin →
    (source = .vbus → s.supply.vbus = true) →
    Safety.completes (.sleepWake source) s fun t => t.life.st = .boot) ∧
  (∀ (ch : Channel) (v : Byte) (s : State), Safety.canonical s = true → Safety.admits s ch 0x2100 1 [v] →
    v.toNat = 4 → s.power = 2 → s.obj 0x2100 3 = 0 → s.upAllowed = true → s.supply.vinLost = false →
    Safety.completes (.powerStateWrite ch v) s fun t =>
      Safety.done t ch 0x2100 1 ∧ t.obj 0x2100 1 = 4 ∧ t.obj 0x2100 3 = 2) ∧
  (∀ (ch : Channel) (v : Byte) (s : State), Safety.canonical s = true → Safety.admits s ch 0x2100 1 [v] →
    v.toNat < 4 → s.power = 4 → s.obj 0x2100 3 = 0 → s.supply.vinLost = false →
    Safety.completes (.powerStateWrite ch v) s fun t =>
      Safety.done t ch 0x2100 1 ∧ t.obj 0x2100 1 = v.toNat ∧ t.obj 0x2100 3 = 1 ∧ ∀ r : RailId, t.isOn r = false) ∧
  (∀ (ch : Channel) (v : Byte) (s : State), Safety.canonical s = true → Safety.admits s ch 0x2100 1 [v] →
    v.toNat ≤ 1 → s.power = 2 → s.obj 0x2100 3 = 0 →
    Safety.completes (.powerStateWrite ch v) s fun t =>
      Safety.done t ch 0x2100 1 ∧ t.obj 0x2100 1 = v.toNat ∧ t.obj 0x2100 3 = 4 ∧ t.life.downTo = v.toNat)

/-- O14. The Meridian and the Graticule (R157, R160–R163, R174, R178, R179, R184, R185). -/
def Obligations.MeridianRuns : Prop :=
  (∀ (period rms : Nat) (s : State), Safety.canonical s = true → s.serving = true → s.tracker ≠ 1 →
    s.nat 0x5060 1 ≤ 5 * rms → s.meridian.qualified = 7 → inLockRange period = true →
    periodsAgree s.meridian.lastPeriod period = true →
    Safety.completes (.mainsZeroCrossing period rms) s fun t =>
      t.obj 0x2200 1 = 1 ∧ t.obj 0x2200 0x0B = milliHertz period ∧ t.obj 0x2200 0x0E % 65536 = 0 ∧
        t.obj 0x2200 0x14 = asSigned 16 ((65536 - s.bearing chMains) % 65536)) ∧
  (∀ (period rms : Nat) (s : State), s.serving = true → s.tracker = 1 → s.nat 0x5060 1 ≤ 5 * rms →
    inLockRange period = true →
    Safety.completes (.mainsZeroCrossing period rms) s fun t =>
      t.meridian.lastPeriod = period ∧ t.meridian.outside = 0 ∧
        ((s.meridian.mains ≤ period → s.meridian.mains ≤ t.meridian.mains ∧ t.meridian.mains ≤ period) ∧
          ((period : Rat) ≤ s.meridian.mains → (period : Rat) ≤ t.meridian.mains ∧ t.meridian.mains ≤ s.meridian.mains)) ∧
        -1 / 100 ≤ t.meridian.rate ∧ t.meridian.rate ≤ 1 / 100) ∧
  (∀ (period rms : Nat) (s : State), s.serving = true → s.tracker ≠ 1 → 5 * rms < s.nat 0x5060 1 →
    Safety.completes (.mainsZeroCrossing period rms) s fun t => t.meridian.qualified = 0 ∧ t.od = s.od) ∧
  (∀ s : State, Safety.canonical s = true → s.tracker = 1 → s.obj 0x2200 5 ≠ 0 →
    Safety.completes .mainsCrossingTimeout s fun t =>
      t.obj 0x2200 1 = 2 ∧ (s.responseOf dvMerFlywheel ≠ 0 → Safety.uncleared t dvMerFlywheel = true)) ∧
  (∀ s : State, Safety.canonical s = true → s.tracker = 2 →
    Safety.completes .flywheelTimeout s fun t =>
      t.obj 0x2200 1 = 0 ∧ (s.responseOf dvMerTimer ≠ 0 → Safety.uncleared t dvMerTimer = true)) ∧
  (∀ s : State, s.serving = true → s.ringFollower = false →
    Safety.completes .basePeriodStart s fun t =>
      t.meridian.index = (s.meridian.index + 1) % max 1 (s.fastNat 0x2200 7) ∧
        399 * s.meridian.base ≤ 400 * t.meridian.base ∧ 400 * t.meridian.base ≤ 401 * s.meridian.base) ∧
  (∀ (i : Fin 4) (closed : Bool) (s : State), Safety.canonical s = true → s.fullService = true →
    s.meridian.relays[i].due = some closed → s.meridian.relays[i].waiting = none →
    Safety.completes .graticuleScan s fun t =>
      t.meridian.scans = s.meridian.scans + 1 ∧ t.meridian.prev = t.meridian.acc ∧
        t.meridian.trail = Vector.replicate 4 [] ∧
        t.meridian.relays[i].energised = closed ∧ t.meridian.relays[i].due = none) ∧
  (∀ (i : Fin 4) (us : Nat) (before after : BitVec 32) (s : State), Safety.canonical s = true →
    s.meridian.relays[i].measuring = some true →
    ((before.toNat : Int) ≤ s.fast 0x2600 (0x1D + i.val) ∧ s.fast 0x2600 (0x1D + i.val) < after.toNat ∨
      (after.toNat : Int) ≤ s.fast 0x2600 (0x1D + i.val) ∧ s.fast 0x2600 (0x1D + i.val) < before.toNat) →
    s.fast 0x2600 (0x0A + i.val) ≠ 0 → s.fastBit 0x2600 (0x16 + i.val) 0 = true → 500 ≤ us → us ≤ 50000 →
    s.obj 0x2600 (0x0E + i.val) - 2000 ≤ us → (us : Int) ≤ s.obj 0x2600 (0x0E + i.val) + 2000 →
    Safety.completes (.relayFeedbackTransition i ⟨us, before, after⟩) s fun t =>
      t.meridian.relays[i].measuring = none ∧
        t.obj 0x2600 (0x0E + i.val) = roundDiv (3 * s.obj 0x2600 (0x0E + i.val) + us) 4) ∧
  (∀ (i : Fin 4) (us : Nat) (before after : BitVec 32) (s : State),
    (before.toNat : Int) ≤ s.fast 0x2600 (0x1D + i.val) → (after.toNat : Int) ≤ s.fast 0x2600 (0x1D + i.val) →
    Safety.ignored (.relayFeedbackTransition i ⟨us, before, after⟩) s) ∧
  (∀ (up : Bool) (s : State), Safety.canonical s = true →
    Safety.completes (.encoderCount up) s fun t =>
      t.meridian.encCount = s.meridian.encCount + (if up then 1 else -1) ∧
        t.obj 0x2620 8 = t.meridian.encCount % (cycle : Int)) ∧
  (∀ s : State, Safety.canonical s = true →
    Safety.completes .encoderIndex s fun t => t.obj 0x2620 8 = 0 ∧ t.bit 0x2200 0x10 2 = true) ∧
  (∀ (n v : Nat) (rest : List (Nat × Nat)) (s : State), Safety.canonical s = true → s.serving = true →
    s.meridian.queue = (n, v) :: rest → (entryOf v).action = 8 →
    Safety.completes .graticuleSupervisorAction s fun t => Safety.raised dvGratMark s t) ∧
  (∀ (n v : Nat) (rest : List (Nat × Nat)) (s : State), s.serving = true → s.meridian.queue = (n, v) :: rest →
    (entryOf v).action = 6 → s.obj 0x1006 0 = 0 → s.syncAllowed = true → s.nat 0x1019 0 = 0 →
    Safety.completes .graticuleSupervisorAction s fun t =>
      t.meridian.queue = rest ∧ t.can.tx = s.can.tx ++ [.sync none])

/-- O15. The event fabric, FAULT_N and INT_N (R460, R461, R463, R468–R470, R472, R473, R497, R500). -/
def Obligations.EventFabricActs : Prop :=
  (∀ (event : Fin 640) (data : BitVec 64) (i : EventInfo) (s : State), Safety.canonical s = true → s.serving = true →
    eventInfo event.val = some i → i.kind ≠ .trigger →
    Safety.completes (.eventRaise event data) s fun t => Safety.raised event.val s t) ∧
  (∀ (event : Fin 640) (data : BitVec 64) (i : EventInfo) (s : State), eventInfo event.val = some i →
    i.kind = .trigger → Safety.uncleared s event.val = false → Safety.ignored (.eventRaise event data) s) ∧
  (∀ (event : Fin 640) (data : BitVec 64) (s : State), Safety.canonical s = true → s.serving = true →
    Safety.completes (.eventConditionEnd event data) s fun t => Safety.ended event.val s t) ∧
  (∀ (o : Occurrence) (rest : List Occurrence) (s : State), Safety.canonical s = true → s.serving = true →
    s.fabric.fifo = o :: rest → s.recording = false → o.resp < 2 → o.secondary = false →
    Safety.completes .fifoEntryProcess s fun t =>
      t.fabric.fifo = rest ∧ t.obj 0x2320 3 = rest.length ∧
        t.obj 0x2320 (6 + severityOf o.ev) = countNext (objKey 0x2320 (6 + severityOf o.ev))
          (s.obj 0x2320 (6 + severityOf o.ev))) ∧
  (∀ (o : Occurrence) (rest : List Occurrence) (s : State), s.serving = true → s.fabric.fifo = o :: rest →
    s.recording = true → Safety.canonical s = true → s.recorder.staging = [] → s.recorder.overflowDue = false →
    s.stagingUsed < 56 → severityOf o.ev < 4 →
    Safety.completes .fifoEntryProcess s fun t =>
      t.fabric.fifo = rest ∧ t.recorder.seq = s.recorder.seq + 1 ∧
        t.recorder.staging = [⟨s.newRecord o (s.recorder.seq + 1), o.up, false, false, false⟩]) ∧
  (∀ (l : List (Nat × Nat)) (s : State), ∃ ranked : List (Nat × Nat), ranked.Perm l ∧
    s.raiseAll l = ranked.foldl (fun s x => s.raise x.1 x.2) s ∧
    ranked.Pairwise fun x y => s.responseOf y.1 < s.responseOf x.1 ∨
      (s.responseOf y.1 = s.responseOf x.1 ∧ x.1 ≤ y.1)) ∧
  (∀ s : State, s.fullService = true → (s.pin .faultN).drive =
    if s.obj 0x2300 0x0A ≤ s.obj 0x2300 1 ∨ s.outline.active = true ∨ s.safety.path = true then .level false
    else .highZ) ∧
  (∀ s : State, (s.life.st = .reset ∨ s.life.st = .boot ∨ s.life.st = .sleep ∨
      (s.life.st = .run ∧ s.fullService = false)) → (s.pin .faultN).drive = .level false) ∧
  (∀ s : State, s.life.st = .run →
    (s.pin .intN).drive = if s.obj 0x2320 1 = 0 then .highZ else .level false) ∧
  (∀ (e : Nat) (s : State), Safety.canonical s = true → s.serving = true → s.fabric.overflow = [e] →
    s.fabric.fifo.length < 64 → s.responseOf e ≠ 0 →
    Safety.completes .overflowRequeue s fun t =>
      t.fabric.overflow = [] ∧
        ∃ o, t.fabric.fifo = s.fabric.fifo ++ [o] ∧ o.ev = e ∧ o.resp = s.responseOf e ∧ o.overflow = true) ∧
  (∀ (ch : Channel) (tag : BitVec 16) (event : Fin 640) (s : State),
    Safety.actionAdmits s ch 0x2300 2 tag.toNat event.val →
    Safety.completes (.eventClear ch tag event) s fun t =>
      Safety.done t ch 0x2300 2 ∧ Safety.uncleared t event.val = false ∧
        ∀ u ∈ s.fabric.uncleared, u.ev ≠ event.val → u ∈ t.fabric.uncleared) ∧
  (∀ (ch : Channel) (tag : BitVec 16) (s : State), Safety.actionAdmits s ch 0x2300 2 tag.toNat 0x0FFF →
    Safety.completes (.eventClearAll ch tag) s fun t =>
      Safety.done t ch 0x2300 2 ∧ t.fabric.uncleared = s.fabric.uncleared.filter fun u => u.standing) ∧
  (∀ (ch : Channel) (tag : BitVec 16) (s : State), Safety.canonical s = true →
    Safety.actionAdmits s ch 0x2300 3 tag.toNat 1 → s.fabric.uncleared = [] →
    Safety.completes (.acknowledge ch tag) s fun t =>
      Safety.done t ch 0x2300 3 ∧ t.deviceResponse = 0 ∧ ∀ r : RailId, t.railResponse r = 0) ∧
  (∀ (ch : Channel) (tag : BitVec 16) (flags : BitVec 4) (s : State), Safety.canonical s = true →
    Safety.actionAdmits s ch 0x2320 2 tag.toNat flags.toNat →
    Safety.completes (.interruptClear ch tag flags) s fun t =>
      Safety.done t ch 0x2320 2 ∧
        ∀ n : Fin 4, t.bit 0x2320 1 n.val = (s.bit 0x2320 1 n.val && !flags.toNat.testBit n.val)) ∧
  (∀ (ch : Channel) (event : Fin 640) (entry : Byte) (s : State), Safety.canonical s = true →
    Safety.admits s ch (0x2310 + event.val / 128) (event.val % 128 + 1) [entry] →
    Safety.completes (.eventResponseWrite ch event entry) s fun t =>
      Safety.done t ch (0x2310 + event.val / 128) (event.val % 128 + 1) ∧ t.responseEntry event.val = entry.toNat)

/-- O16. The SAFE inputs, the safe-off path and Outline mode (R475–R482, R484, R488, R489). -/
def Obligations.SafetyPathActs : Prop :=
  (∀ (b : Bool) (s : State), s.serving = true →
    Safety.completes (.safeInputFall b) s fun t =>
      (if b then t.safety.pinB else t.safety.pinA) = false ∧ t.safety.path = true ∧ t.safety.permit = false) ∧
  (∀ (b : Bool) (s : State), Safety.canonical s = true → s.serving = true →
    Safety.completes (.safeInputFall b) s fun t =>
      ∀ p : PhaseId, (s.nat 0x2330 3).testBit p.val = true → t.phases[p].outH = false ∧ t.phases[p].outL = false) ∧
  (∀ (a b : Bool) (s : State), s.serving = true → s.safety.seen = true →
    Safety.completes (.safeSample a b) s fun t =>
      t.safety.pinA = a ∧ t.safety.pinB = b ∧
        t.safety.runA = (if a = s.safety.filtA then 0 else s.safety.runA + 1) ∧
        t.safety.runB = (if b = s.safety.filtB then 0 else s.safety.runB + 1) ∧
        t.safety.count = (if s.safety.filtA = s.safety.filtB then 0 else s.safety.count + 1)) ∧
  (∀ s : State, s.serving = true → s.safety.seen = true → 3 ≤ s.safety.runA → s.safety.runB < 3 →
    Safety.completes .safeFilterChange s fun t =>
      t.safety.filtA = (!s.safety.filtA) ∧ t.safety.filtB = s.safety.filtB) ∧
  (∀ s : State, Safety.canonical s = true → s.serving = true → s.safety.filtA ≠ s.safety.filtB →
    s.safety.faulted = false → 10 * s.nat 0x2330 1 ≤ s.safety.count →
    Safety.completes .discrepancyFault s fun t =>
      t.safety.faulted = true ∧ (s.responseOf dvSafeDiscrepancy ≠ 0 → Safety.uncleared t dvSafeDiscrepancy = true)) ∧
  (∀ s : State, s.permitReady = true →
    Safety.completes .permitGrant s fun t => t.safety.path = false ∧ t.safety.permit = true) ∧
  (∀ s : State, s.permitReady = false → Safety.ignored .permitGrant s) ∧
  (∀ (ch : Channel) (tag : BitVec 16) (s : State), Safety.actionAdmits s ch 0x2300 4 tag.toNat 1 →
    Safety.completes (.outlineEnter ch tag) s fun t => Safety.done t ch 0x2300 4 ∧ t.outline.active = true) ∧
  (∀ (ch : Channel) (tag : BitVec 16) (s : State), Safety.canonical s = true →
    Safety.actionAdmits s ch 0x2300 4 tag.toNat 2 → s.responseOf dvOutlineExit < 6 →
    Safety.completes (.outlineLeave ch tag) s fun t => Safety.done t ch 0x2300 4 ∧ t.outline.active = false) ∧
  (∀ (ch : Channel) (tag : BitVec 16) (s : State), Safety.actionAdmits s ch 0x2340 1 tag.toNat 1 →
    Safety.completes (.outlineSetCommit ch tag) s fun t =>
      Safety.done t ch 0x2340 1 ∧ t.flash.outlineOp = some (⟨ch, 0x2340, 1, tag.toNat⟩, s.outlineNow))

/-- O17. The function ladder and the power cycle (R143, R490–R493). -/
def Obligations.FunctionLadderActs : Prop :=
  (∀ (ch : Channel) (tag : BitVec 16) (s : State), Safety.actionAdmits s ch 0x2110 1 tag.toNat (functionArg 10 1) →
    Safety.completes (.functionReinitialise ch tag 10) s fun t =>
      Safety.done t ch 0x2110 1 ∧ t.avs = none ∧ t.life.command = some 10) ∧
  (∀ (ch : Channel) (tag : BitVec 16) (s : State), Safety.canonical s = true →
    Safety.actionAdmits s ch 0x2110 1 tag.toNat (functionArg 10 2) → s.funcState 10 = 0 →
    s.responseOf dvFuncCommand < 4 →
    Safety.completes (.functionDisable ch tag 10) s fun t => Safety.done t ch 0x2110 1 ∧ t.funcState 10 = 1) ∧
  (∀ (ch : Channel) (tag : BitVec 16) (r : RailId) (s : State), Safety.canonical s = true →
    Safety.actionAdmits s ch 0x2110 1 tag.toNat (functionArg ⟨r.val, by omega⟩ 3) → s.funcState r.val ≠ 2 →
    s.responseOf dvFuncCommand < 4 →
    Safety.completes (.functionDisableHard ch tag ⟨r.val, by omega⟩) s fun t =>
      Safety.done t ch 0x2110 1 ∧ t.isOn r = false ∧
        (s.rails[r].running = true → t.rails[r].stop ≠ .soft)) ∧
  (∀ (ch : Channel) (tag : BitVec 16) (s : State), Safety.canonical s = true →
    Safety.actionAdmits s ch 0x2110 1 tag.toNat (functionArg 10 4) → s.responseOf dvFuncCommand < 4 →
    Safety.completes (.functionEnable ch tag 10) s fun t => Safety.done t ch 0x2110 1 ∧ t.funcState 10 = 0) ∧
  (∀ s : State, Safety.canonical s = true → s.serving = true → s.funcState 10 = 1 →
    Safety.completes (.functionStopped 10) s fun t => t.funcState 10 = 2) ∧
  (∀ (r : RailId) (s : State), Safety.canonical s = true → s.serving = true → s.funcState r.val = 1 →
    s.rails[r].stop = .none →
    Safety.completes (.functionStopped ⟨r.val, by omega⟩) s fun t => t.funcState r.val = 2) ∧
  (∀ s : State, Safety.canonical s = true → s.serving = true → s.funcState 9 = 3 →
    Safety.completes (.functionStopped 9) s fun t => t.funcState 9 = 0) ∧
  (∀ (ch : Channel) (tag ms : BitVec 16) (s : State), Safety.canonical s = true →
    Safety.actionAdmits s ch 0x2110 2 tag.toNat ms.toNat → s.responseOf dvPowerCycle < 4 →
    Safety.completes (.powerCycleRequest ch tag ms) s fun t =>
      Safety.done t ch 0x2110 2 ∧ t.supply.pwrcycMs = ms.toNat ∧ t.obj 0x2110 0x10 = 1) ∧
  (∀ s : State, Safety.canonical s = true → s.serving = true → s.obj 0x2110 0x10 = 1 →
    Safety.completes .powerCycleAssert s fun t =>
      t.supply.pwrcycN = false ∧ t.life.powerCycle = true ∧ t.obj 0x2110 0x10 = 2) ∧
  (∀ s : State, Safety.canonical s = true → s.supply.pwrcycN = false → s.obj 0x2110 0x10 = 2 →
    Safety.completes .powerCycleRelease s fun t =>
      t.supply.pwrcycN = true ∧ t.life.powerCycle = false ∧ t.obj 0x2110 0x10 = 0)

/-- O18. The sensing front ends (R195, R199, R204, R208–R212, R215, R216, R218, R255). -/
def Obligations.SensingFrontEndsAct : Prop :=
  (∀ (p : PhaseId) (s : State), s.phaseSensed p = true → s.adcs[s.adcOf p].length ≤ 8 →
    Safety.completes (.phaseCurrentTrigger p) s fun t =>
      t.adcs = s.adcs.set (s.adcOf p) (s.adcs[s.adcOf p] ++ [p.val])) ∧
  (∀ (p : PhaseId) (s : State), (s.phaseSensed p = false ∨ 8 < s.adcs[s.adcOf p].length) →
    Safety.ignored (.phaseCurrentTrigger p) s) ∧
  (∀ (p : PhaseId) (code : BitVec 12) (rest : List Nat) (s : State), Safety.canonical s = true →
    s.adcs[s.adcOf p] = p.val :: rest →
    Safety.completes (.phaseCurrentConversionDone p code) s fun t =>
      t.adcs = s.adcs.set (s.adcOf p) rest ∧ t.phaseObj p 5 8 = code.toNat ∧
        t.phaseObj p 5 7 = roundRat (s.isnsCurrent p (code.toNat * (25 / 64 : Rat)))) ∧
  (∀ (p : PhaseId) (positive : Bool) (clocks : Nat) (s : State), Safety.canonical s = true → s.phaseSensed p = true →
    s.fastNat (phaseIx p 5) 5 ≤ clocks → s.outlineDrivenPhase p = false → s.fastNat (phaseIx p 5) 6 = 2 →
    (if positive then s.phases[p].ocPos else s.phases[p].ocNeg) = false →
    Safety.completes (.overcurrentCrossing p ⟨positive, clocks⟩) s fun t =>
      t.phases[p].tripped = true ∧ t.phases[p].tripOc = true ∧
        Safety.raised (if positive then phOcPos p.val else phOcNeg p.val) s t) ∧
  (∀ (p : PhaseId) (positive : Bool) (clocks : Nat) (s : State), Safety.canonical s = true → s.phaseSensed p = true →
    s.fastNat (phaseIx p 5) 5 ≤ clocks → (s.outlineDrivenPhase p = true ∨ s.fastNat (phaseIx p 5) 6 = 1) →
    (if positive then s.phases[p].ocPos else s.phases[p].ocNeg) = false →
    Safety.completes (.overcurrentCrossing p ⟨positive, clocks⟩) s fun t =>
      (if positive then t.phases[p].limitPos else t.phases[p].limitNeg) = true ∧ t.bit (phaseIx p 7) 1 8 = true ∧
        Safety.raised (if positive then phOcPos p.val else phOcNeg p.val) s t) ∧
  (∀ (p : PhaseId) (positive : Bool) (clocks : Nat) (s : State),
    (s.phaseSensed p = false ∨ clocks < s.fastNat (phaseIx p 5) 5) →
    Safety.ignored (.overcurrentCrossing p ⟨positive, clocks⟩) s) ∧
  (∀ (r : VRailId) (codes : List (BitVec 9)) (s : State), Safety.canonical s = true →
    s.errorSensed (vrail r) = true → (s.triggerPhase (vrail r)).isSome = true →
    Safety.completes (.windowErrorReady r codes) s fun t =>
      t.vsense[r].error =
          meanRat ((codes.take (s.fastNat (railIx (vrail r) 0x50) 6)).map BitVec.toInt) * (5 / 4 : Rat) ∧
        t.railObj (vrail r) 0x50 8 = roundRat (t.vsense[r].error * s.rho r)) ∧
  (∀ (r : VRailId) (s : State), Safety.canonical s = true → s.vsense[r].saturated = true →
    s.vsense[r].windowRaised = false →
    Safety.completes (.vsnsWindowTimeout r) s fun t =>
      t.vsense[r].windowRaised = true ∧ Safety.raised (rlVsnsWindow r.val) s t) ∧
  (∀ (r : VRailId) (s : State), Safety.canonical s = true → 64 ≤ s.vsense[r].mismatch →
    Safety.completes (.vsnsMismatch r) s fun t =>
      t.vsense[r].mismatch = 0 ∧ Safety.raised (rlVsnsMismatch r.val) s t) ∧
  (∀ (r : VRailId) (codes block : List (BitVec 14)) (last : BitVec 14) (s : State), Safety.canonical s = true →
    s.serving = true → s.dewHolds r = false → s.fastNat (railIx (vrail r) 0x50) 0x0B ≤ codes.length →
    block = codes.take (s.fastNat (railIx (vrail r) 0x50) 0x0B) → block.getLast? = some last →
    Safety.completes (.absoluteBlockComplete r codes) s fun t =>
      t.railObj (vrail r) 0x50 9 = last.toNat ∧
        t.vsense[r].pin = meanRat (block.map fun (c : BitVec 14) => (c.toNat : Int)) * 2000 / 16384 ∧
        t.railObj (vrail r) 0x48 1 =
          roundRat ((t.vsense[r].pin - (s.fast (railIx (vrail r) 0x50) 3 : Rat) / 1000) * s.rho r)) ∧
  (∀ (r : VRailId) (codes : List (BitVec 14)) (s : State), s.dewHolds r = true →
    Safety.ignored (.absoluteBlockComplete r codes) s) ∧
  (∀ (r : VRailId) (code : BitVec 14) (s : State), Safety.canonical s = true → s.serving = true →
    s.dewHolds r = false → 1900 * 16384 < 2000 * code.toNat →
    Safety.completes (.vsnsOpen r code) s fun t =>
      t.railObj (vrail r) 0x50 9 = code.toNat ∧ t.bit (railIx (vrail r) 0x50) 0x0D 2 = true ∧
        Safety.raised (rlVsnsOpen r.val) s t) ∧
  (∀ (r : VRailId) (code : BitVec 14) (s : State), 2000 * code.toNat ≤ 1900 * 16384 →
    Safety.ignored (.vsnsOpen r code) s) ∧
  (∀ (r : VRailId) (s : State), Safety.canonical s = true → 2000 * s.nat (railIx (vrail r) 0x50) 9 < 1800 * 16384 →
    Safety.completes (.vsnsOpenEnd r) s fun t =>
      t.bit (railIx (vrail r) 0x50) 0x0D 2 = false ∧ Safety.ended (rlVsnsOpen r.val) s t) ∧
  (∀ (c : AuxId) (codes : List (BitVec 12)) (s : State), Safety.canonical s = true → s.serving = true →
    s.auxNext = some c.val → s.fastNat 0x4130 2 ≤ codes.length →
    Safety.completes (.auxResult c codes) s fun t =>
      t.aux[c].seen = true ∧ t.auxSequence.last = c.val ∧
        t.obj 0x4130 (0x16 + 8 * c.val) = s.auxValue c (s.auxObj c 0).toNat
          (meanRat ((codes.take (s.fastNat 0x4130 2)).map fun (x : BitVec 12) => (x.toNat : Int)))) ∧
  (∀ (c : AuxId) (code : BitVec 12) (rest : List Nat) (s : State), Safety.canonical s = true →
    s.auxSequence.requests = c.val :: rest →
    Safety.completes (.auxTriggeredResult c code) s fun t =>
      t.auxSequence.requests = rest ∧
        t.obj 0x4130 (0x17 + 8 * c.val) = s.auxValue c (s.auxObj c 0).toNat code.toNat)

/-- O19. The PWM generator (R225, R232–R234, R236, R239, R240, R242–R245, R254, R256, R258–R260). -/
def Obligations.PwmGeneratorActs : Prop :=
  (∀ (p : PhaseId) (s : State), Safety.canonical s = true → s.phases[p].counting = true →
    s.zeroDue p = true → s.phases[p].spread.drop 1 = [] → s.wantedShift p = s.phases[p].aim →
    Safety.completes (.pwmZero p) s fun t =>
      t.phases[p].period = s.meridian.base * s.divider p ∧
        t.phaseObj p 7 2 = ((s.meridian.base * s.divider p : Nat) : Int) ∧
        t.phaseObj p 1 4 = s.deadTime p false ∧ t.phaseObj p 1 5 = s.deadTime p true ∧
        t.phases[p].ocPos = false ∧ t.phases[p].ocNeg = false ∧ t.phases[p].tripOc = false) ∧
  (∀ (p : PhaseId) (s : State), s.phases[p].counting = true → s.midUpdate p = true →
    s.phases[p].switching = false → s.responseOf (phForceApplied p.val) < 4 →
    Safety.completes (.pwmMidUpdate p) s fun t => t.phases[p].force = s.nat (phaseIx p 4) 1) ∧
  (∀ (p : PhaseId) (s : State), Safety.canonical s = true → s.phases[p].counting = true → s.midUpdate p = true →
    s.phases[p].switching = false → s.phases[p].force = s.nat (phaseIx p 4) 1 →
    Safety.completes (.pwmMidUpdate p) s fun t => t.phases[p].mask = s.maskState p) ∧
  (∀ (p : PhaseId) (s : State), Safety.canonical s = true → s.phases[p].counting = true →
    Safety.completes (.pwmPeriod p) s fun t =>
      t.phases[p].prescale[1] =
          (if s.fastNat (phaseIx p 3) 2 ≤ s.phases[p].prescale[1] + 1 then 0 else s.phases[p].prescale[1] + 1) ∧
        (s.fastNat (phaseIx p 3) 2 ≤ s.phases[p].prescale[1] + 1 → (s.fastNat (phaseIx p 3) 5).testBit 5 = true →
          t.bit 0x2320 1 1 = true)) ∧
  (∀ (p : PhaseId) (s : State), Safety.canonical s = true → s.phases[p].counting = true →
    s.phases[p].switching = true → s.phases[p].rise < s.phases[p].fall → s.phases[p].fall < s.phases[p].period →
    Safety.completes (.pwmCmpa p) s fun t =>
      t.phases[p].reference = false ∧ t.phases[p].prescale[2] =
        (if s.fastNat (phaseIx p 3) 3 ≤ s.phases[p].prescale[2] + 1 then 0 else s.phases[p].prescale[2] + 1)) ∧
  (∀ (p : PhaseId) (s : State), s.phases[p].counting = true →
    s.fastNat (phaseIx p 3) 6 < s.phases[p].period →
    Safety.completes (.pwmCmpb p) s fun t => t.phases[p].prescale[3] =
      (if s.fastNat (phaseIx p 3) 4 ≤ s.phases[p].prescale[3] + 1 then 0 else s.phases[p].prescale[3] + 1)) ∧
  (∀ (p : PhaseId) (s : State), s.phases[p].period ≤ s.fastNat (phaseIx p 3) 6 → Safety.ignored (.pwmCmpb p) s) ∧
  (∀ (p : PhaseId) (s : State), s.phases[p].counting = true → s.phases[p].switching = true → s.upDown p = true →
    s.phases[p].risen = false → s.phases[p].rise < s.phases[p].fall →
    Safety.completes (.referenceRisingEdge p) s fun t =>
      t.phases[p].reference = (!s.phases[p].limitPos) ∧ t.phases[p].limitNeg = false ∧ t.phases[p].risen = true) ∧
  (∀ (p : PhaseId) (s : State), s.phases[p].fall ≤ s.phases[p].rise → Safety.ignored (.referenceRisingEdge p) s) ∧
  (∀ (p : PhaseId) (falling : Bool) (steps mv : BitVec 12) (s : State), Safety.canonical s = true →
    (if falling then s.phases[p].windowF else s.phases[p].windowR) = true →
    (s.fast (phaseIx p 6) 1 = 2 ∨ (s.fast (phaseIx p 6) 1 = 1 ∧
      if falling then (mv.toNat : Rat) ≤ s.nodeThreshold p - 25 / 2 else s.nodeThreshold p + 25 / 2 ≤ (mv.toNat : Rat))) →
    Safety.completes (.nodeTransition p falling ⟨steps, mv⟩) s fun t =>
      (if falling then t.phases[p].nodeF else t.phases[p].nodeR) = some (steps.toNat : Int) ∧
        (if falling then t.phases[p].missF else t.phases[p].missR) = 0 ∧
        t.phaseObj p 6 (if falling then 8 else 7) = steps.toNat) ∧
  (∀ (p : PhaseId) (falling : Bool) (steps mv : BitVec 12) (s : State),
    (if falling then s.phases[p].windowF else s.phases[p].windowR) = false →
    Safety.ignored (.nodeTransition p falling ⟨steps, mv⟩) s) ∧
  (∀ (p : PhaseId) (falling : Bool) (s : State), s.adapts p falling = true → s.fast (phaseIx p 6) 1 ≠ 0 →
    s.fastNat (phaseIx p 6) 6 ≤ (if falling then s.phases[p].sinceAdaptF else s.phases[p].sinceAdaptR) →
    Safety.completes (.deadTimeAdapt p falling) s fun t =>
      (if falling then t.phases[p].nextF else t.phases[p].nextR) =
        (clampInt (adaptStep (s.applied p falling)
          (if falling then s.phases[p].nodeF else s.phases[p].nodeR) (s.fast (phaseIx p 6) 5))
          (s.fast (phaseIx p 6) 3) (s.fast (phaseIx p 6) 4)).toNat) ∧
  (∀ (p : PhaseId) (falling : Bool) (s : State), Safety.canonical s = true →
    8 ≤ (if falling then s.phases[p].missF else s.phases[p].missR) →
    Safety.completes (.nodeMissLimit p falling) s fun t =>
      (if falling then t.phases[p].stoppedF else t.phases[p].stoppedR) = true ∧
        t.bit (phaseIx p 7) 1 6 = true ∧ Safety.raised (phNodeMiss p.val) s t) ∧
  (∀ (p : PhaseId) (falling : Bool) (s : State), Safety.canonical s = true →
    64 ≤ (if falling then s.phases[p].limitF else s.phases[p].limitR) →
    (if falling then s.phases[p].limitRaisedF else s.phases[p].limitRaisedR) = false →
    Safety.completes (.dtAdaptLimit p falling) s fun t => Safety.raised (phDtAdaptLimit p.val) s t) ∧
  (∀ (i : Fin 4) (high : Bool) (clocks : Nat) (s : State), Safety.canonical s = true → s.serving = true →
    (s.fastNat 0x2630 (1 + i.val)).testBit 0 = true → bits (s.fastNat 0x2630 (1 + i.val)) 15 8 ≤ clocks →
    high = (!(s.fastNat 0x2630 (1 + i.val)).testBit 1) →
    Safety.completes (.tripInputActive i ⟨high, clocks⟩) s fun t =>
      t.bit 0x2630 6 i.val = true ∧
        t.obj 0x2630 (8 + i.val) = countNext (objKey 0x2630 (8 + i.val)) (s.obj 0x2630 (8 + i.val)) ∧
        ∀ p : PhaseId, (s.fastNat 0x2630 (1 + i.val)).testBit (16 + p.val) = true → t.phases[p].tripped = true) ∧
  (∀ (i : Fin 4) (high : Bool) (clocks : Nat) (s : State), Safety.canonical s = true → s.serving = true →
    (s.fastNat 0x2630 (1 + i.val)).testBit 0 = true → bits (s.fastNat 0x2630 (1 + i.val)) 15 8 ≤ clocks →
    high = (s.fastNat 0x2630 (1 + i.val)).testBit 1 →
    Safety.completes (.tripInputActive i ⟨high, clocks⟩) s fun t =>
      t.bit 0x2630 6 i.val = false ∧ t.phases = s.phases) ∧
  (∀ (i : Fin 4) (high : Bool) (clocks : Nat) (s : State), ((s.fastNat 0x2630 (1 + i.val)).testBit 0 = false ∨
      clocks < bits (s.fastNat 0x2630 (1 + i.val)) 15 8) →
    Safety.ignored (.tripInputActive i ⟨high, clocks⟩) s) ∧
  (∀ (ch : Channel) (tag : BitVec 16) (phases : BitVec 12) (s : State),
    Safety.actionAdmits s ch 0x2630 5 tag.toNat phases.toNat →
    Safety.completes (.tripClear ch tag phases) s fun t =>
      Safety.done t ch 0x2630 5 ∧ ∀ p : PhaseId, phases.toNat.testBit p.val = true → s.phases[p].tripped = true →
        t.phases[p].tripClear = true) ∧
  (∀ (ch : Channel) (p : PhaseId) (s : State), Safety.canonical s = true → Safety.admits s ch (phaseIx p 4) 1 [1] →
    Safety.completes (.forceBothOff ch p) s fun t =>
      Safety.done t ch (phaseIx p 4) 1 ∧ t.phaseObj p 4 1 = 1) ∧
  (∀ (ch : Channel) (p : PhaseId) (s : State), Safety.canonical s = true → Safety.admits s ch (phaseIx p 4) 1 [2] →
    Safety.completes (.forceHighOn ch p) s fun t =>
      Safety.done t ch (phaseIx p 4) 1 ∧ t.phaseObj p 4 1 = 2) ∧
  (∀ (ch : Channel) (p : PhaseId) (s : State), Safety.canonical s = true → Safety.admits s ch (phaseIx p 4) 1 [3] →
    Safety.completes (.forceLowOn ch p) s fun t =>
      Safety.done t ch (phaseIx p 4) 1 ∧ t.phaseObj p 4 1 = 3) ∧
  (∀ (ch : Channel) (p : PhaseId) (s : State), Safety.canonical s = true → Safety.admits s ch (phaseIx p 4) 1 [0] →
    Safety.completes (.forceNone ch p) s fun t =>
      Safety.done t ch (phaseIx p 4) 1 ∧ t.phaseObj p 4 1 = 0)

/-- O20. Rails at their boundaries, their protection and their profiles (R17, R288–R290, R297–R299, R302, R303, R356). -/
def Obligations.RailsRun : Prop :=
  (∀ (r : RailId) (s : State), s.hasBoundary r = false → Safety.ignored (.engineSampleBoundary r) s) ∧
  (∀ (r : RailId) (s : State), s.hasBoundary r = true →
    Safety.completes (.engineSampleBoundary r) s fun t =>
      t.rails[r].envPending = [] ∧ ∀ sub : Nat, t.fast (railIx r 0x02) sub = t.obj (railIx r 0x02) sub) ∧
  (∀ (r : RailId) (s : State), Safety.canonical s = true → s.hasBoundary r = true → s.stale = [] →
    s.flash.mapNext = none → s.rails[r].envPending = [] → s.clampedTarget r = s.rails[r].source →
    s.rails[r].starting = false → s.rails[r].running = true → s.rails[r].stop = .none → s.rails[r].holding = false →
    s.drive.reversing = false → s.ledSpan r = none →
    Safety.completes (.engineSampleBoundary r) s fun t =>
      t.rails[r].vr = rampStep s.rails[r].vr (s.clampedTarget r * 65536)
        (roundRat (s.upRate r * (s.sampleMs r * 65536))) (roundRat (s.downRate r * (s.sampleMs r * 65536)))) ∧
  (∀ (r : VRailId) (s : State), s.rails[vrail r].dwell = true → s.rails[vrail r].running = true →
    s.rails[vrail r].stop = .none → s.nat (railIx (vrail r) 0x30) 9 % 2 = 1 → s.rails[vrail r].window = false →
    Safety.completes (.shedDwellExpiry r) s fun t =>
      t.rails[vrail r].shedDue = true ∧ t.activePhases (vrail r) = s.activePhases (vrail r)) ∧
  (∀ (r : VRailId) (p : PhaseId) (s : State), Safety.canonical s = true → s.rails[vrail r].dwell = true →
    s.rails[vrail r].running = true → s.rails[vrail r].stop = .none → s.nat (railIx (vrail r) 0x30) 9 % 2 = 0 →
    (s.activePhases (vrail r)).getLast? = some p → s.currentMode (vrail r) = true →
    s.responseOf (rlPhaseShed r.val) < 4 →
    Safety.completes (.shedDwellExpiry r) s fun t =>
      t.phases[p].active = false ∧ t.phases[p].shedding = true ∧ t.phases[p].shedLeft = 4 ∧
        Safety.raised (rlPhaseShed r.val) s t) ∧
  (∀ (r : RailId) (cond : Fin 4) (s : State), Safety.canonical s = true → (cond = 3 → r = railD) →
    s.isOn r = true → s.rails[r].stop = .none → s.rails[r].running = true → 0 ≤ s.rails[r].held[cond] →
    (s.env r 7 : Rat) ≤ s.rails[r].held[cond] → min 255 (s.railObj r 0x40 4 + 1) ≤ s.railObj r 0x00 8 →
    s.responseOf (rlHiccup r.val) < 4 →
    Safety.completes (.protectionConditionCounted r cond) s fun t =>
      t.rails[r].hiccup = true ∧ t.railObj r 0x40 4 = min 255 (s.railObj r 0x40 4 + 1) ∧
        (t.rails[r].stop = .hard ∨ t.rails[r].running = false) ∧ Safety.raised (rlHiccup r.val) s t) ∧
  (∀ (r : RailId) (cond : Fin 4) (s : State), Safety.canonical s = true → (cond = 3 → r = railD) →
    s.isOn r = true → s.rails[r].stop = .none → s.rails[r].running = true → 0 ≤ s.rails[r].held[cond] →
    (s.env r 7 : Rat) ≤ s.rails[r].held[cond] → s.railObj r 0x00 8 < min 255 (s.railObj r 0x40 4 + 1) →
    Safety.completes (.protectionConditionCounted r cond) s fun t =>
      t.isOn r = false ∧ (t.rails[r].stop = .hard ∨ t.rails[r].running = false) ∧
        Safety.raised (s.faultData r cond (s.nat (railIx r 0x00) 0x11)).1 s t) ∧
  (∀ (r : RailId) (s : State), r ≠ railD → Safety.ignored (.protectionConditionCounted r 3) s) ∧
  (∀ (r : RailId) (s : State), Safety.canonical s = true → s.rails[r].hiccup = true → s.enableRule r = none →
    Safety.completes (.hiccupDelayExpiry r) s fun t =>
      t.rails[r].hiccup = false ∧ t.rails[r].starting = true ∧ t.isOn r = true) ∧
  (∀ (r : RailId) (code : Nat) (s : State), Safety.canonical s = true → s.rails[r].hiccup = true →
    s.enableRule r = some code →
    Safety.completes (.hiccupDelayExpiry r) s fun t =>
      t.rails[r].hiccup = false ∧ t.isOn r = false ∧ t.railObj r 0x40 6 = 7) ∧
  (∀ (r : RailId) (s : State), Safety.canonical s = true → s.isOn r = true → s.rails[r].running = true →
    s.rails[r].softStart = false → s.rails[r].stop = .none →
    Safety.completes (.hiccupResetTimeExpiry r) s fun t => t.railObj r 0x40 4 = 0) ∧
  (∀ (r : RailId) (v : Int) (s : State), Safety.canonical s = true → s.rails[r].profile = true →
    s.rails[r].vr = s.goal r → s.profileTarget r (s.nat (railIx r 0x10) 0x12 + 1) = some v →
    s.responseOf (rlTargetClamp r.val) < 4 →
    Safety.completes (.profileStepHoldExpiry r) s fun t =>
      t.railObj r 0x10 0x12 = ((s.nat (railIx r 0x10) 0x12 + 1 : Nat) : Int) ∧ t.railObj r 0x10 1 = v ∧
        t.rails[r].source = v ∧ t.rails[r].profile = true) ∧
  (∀ (r : RailId) (s : State), Safety.canonical s = true → s.rails[r].profile = true →
    s.rails[r].vr = s.goal r → s.profileTarget r (s.nat (railIx r 0x10) 0x12 + 1) = none →
    Safety.completes (.profileStepHoldExpiry r) s fun t =>
      t.railObj r 0x10 0x12 = 0 ∧ t.rails[r].profile = false)

/-- O21. What the host writes of a rail (R277, R280, R281, R285, R289, R290, R295, R354). -/
def Obligations.RailRowsAct : Prop :=
  (∀ (ch : Channel) (r : RailId) (s : State), Safety.canonical s = true → Safety.admits s ch (railIx r 0) 3 [1] →
    s.railObj r 0 3 ≠ 1 →
    Safety.completes (.railEnableOn ch r) s fun t =>
      Safety.done t ch (railIx r 0) 3 ∧ t.isOn r = true ∧ t.rails[r].starting = true ∧ t.rails[r].stop = .none) ∧
  (∀ (ch : Channel) (r : RailId) (s : State), Safety.canonical s = true → Safety.admits s ch (railIx r 0) 3 [0] →
    s.railObj r 0 3 = 1 → s.rails[r].stop = .none →
    Safety.completes (.railSoftOff ch r) s fun t =>
      Safety.done t ch (railIx r 0) 3 ∧ t.railObj r 0 3 = 0 ∧ t.rails[r].starting = false ∧
        t.rails[r].stop = (if s.rails[r].running = true then .soft else .none) ∧ t.railObj r 0x10 7 = 0 ∧
        t.railObj r 0x40 6 = 1) ∧
  (∀ (ch : Channel) (r : RailId) (s : State), Safety.canonical s = true → Safety.admits s ch (railIx r 0) 3 [2] →
    s.railObj r 0 3 = 1 →
    Safety.completes (.railHardOff ch r) s fun t =>
      Safety.done t ch (railIx r 0) 3 ∧ t.railObj r 0 3 = 2 ∧ t.rails[r].starting = false ∧
        (t.rails[r].stop = .hard ∨ t.rails[r].running = false) ∧ t.railObj r 0x40 6 = 2) ∧
  (∀ (ch : Channel) (r : RailId) (target : BitVec 32) (s : State), Safety.canonical s = true →
    Safety.admits s ch (railIx r 0x10) 1 (leBytes 4 target.toNat) → s.responseOf (rlTargetClamp r.val) < 4 →
    Safety.completes (.targetWrite ch r target) s fun t =>
      Safety.done t ch (railIx r 0x10) 1 ∧ t.railObj r 0x10 1 = target.toInt ∧ t.rails[r].source = target.toInt ∧
        t.rails[r].profile = false) ∧
  (∀ (ch : Channel) (r : RailId) (sub : Fin 12) (value : BitVec 32) (row : ObjRow) (s : State),
    Safety.canonical s = true → findRow (railIx r 0x02) (1 + sub.val) = some row →
    Safety.admits s ch (railIx r 0x02) (1 + sub.val) (row.ty.bytes value.toNat) → s.hasBoundary r = true →
    Safety.completes (.envelopeWrite ch r sub value) s fun t =>
      Safety.done t ch (railIx r 0x02) (1 + sub.val) ∧
        t.railObj r 0x02 (1 + sub.val) = row.ty.value (row.ty.bytes value.toNat) ∧
        (1 + sub.val, (s.channelLevel ch).rank) ∈ t.rails[r].envPending ∧
        t.fast (railIx r 0x02) (1 + sub.val) = s.fast (railIx r 0x02) (1 + sub.val)) ∧
  (∀ (ch : Channel) (v : Byte) (s : State), Safety.canonical s = true → Safety.admits s ch 0x3400 0x0B [v] →
    s.isOn railD = false →
    Safety.completes (.directionWrite ch v) s fun t =>
      Safety.done t ch 0x3400 0x0B ∧ t.obj 0x3400 0x0B = v.toNat ∧ t.obj 0x4110 0x0B = s.obj 0x4110 0x0B) ∧
  (∀ (ch : Channel) (v : Byte) (s : State), Safety.canonical s = true → Safety.admits s ch 0x3400 0x0B [v] →
    s.isOn railD = true → s.rails[railD].stop = .none → s.rails[railD].hiccup = false →
    (v.toNat : Int) ≠ s.obj 0x4110 0x0B →
    Safety.completes (.directionWrite ch v) s fun t =>
      Safety.done t ch 0x3400 0x0B ∧ t.obj 0x3400 0x0B = v.toNat ∧ t.drive.reversing = true ∧
        t.railObj railD 0x10 7 = 0) ∧
  (∀ (ch : Channel) (r : RailId) (tag : BitVec 16) (v : Int) (s : State), Safety.canonical s = true →
    Safety.actionAdmits s ch (railIx r 0x10) 9 tag.toNat 1 → s.profileTarget r 1 = some v →
    s.responseOf (rlTargetClamp r.val) < 4 →
    Safety.completes (.profileStart ch r tag) s fun t =>
      Safety.done t ch (railIx r 0x10) 9 ∧ t.railObj r 0x10 0x12 = 1 ∧ t.railObj r 0x10 1 = v ∧
        t.rails[r].source = v ∧ t.rails[r].profile = true) ∧
  (∀ (ch : Channel) (r : RailId) (tag : BitVec 16) (s : State), Safety.canonical s = true →
    Safety.actionAdmits s ch (railIx r 0x10) 9 tag.toNat 2 → s.rails[r].profile = true →
    Safety.completes (.profileAbort ch r tag) s fun t =>
      Safety.done t ch (railIx r 0x10) 9 ∧ t.railObj r 0x10 0x12 = 0 ∧ t.rails[r].profile = false ∧
        t.rails[r].holding = true)

/-- O22. The AVSBus subordinate (R291, R292). -/
def Obligations.AvsCommandsAct : Prop :=
  (∀ (sel : BitVec 4) (code : BitVec 16) (write : Option (BitVec 16)) (s : State), s.avsOn = true →
    Safety.completes (.avsVoltageWrite sel false write) s (fun t => t.avs = some ⟨ackCrc, none⟩) ∧
    Safety.completes (.avsVoltageRead sel false) s (fun t => t.avs = some ⟨ackCrc, none⟩) ∧
    Safety.completes (.avsVoutTransRateWrite sel false write) s (fun t => t.avs = some ⟨ackCrc, none⟩) ∧
    Safety.completes (.avsVoutTransRateRead sel false) s (fun t => t.avs = some ⟨ackCrc, none⟩) ∧
    Safety.completes (.avsCurrentRead sel false) s (fun t => t.avs = some ⟨ackCrc, none⟩) ∧
    Safety.completes (.avsTemperatureRead sel false) s (fun t => t.avs = some ⟨ackCrc, none⟩) ∧
    Safety.completes (.avsResetVoltage sel false) s (fun t => t.avs = some ⟨ackCrc, none⟩) ∧
    Safety.completes (.avsPowerModeWrite sel false code) s (fun t => t.avs = some ⟨ackCrc, none⟩) ∧
    Safety.completes (.avsPowerModeRead sel false) s (fun t => t.avs = some ⟨ackCrc, none⟩) ∧
    Safety.completes (.avsStatusRead sel false) s (fun t => t.avs = some ⟨ackCrc, none⟩)) ∧
  (∀ (sel : BitVec 4) (code : BitVec 16) (r : VRailId) (s : State), Safety.canonical s = true → s.avsOn = true →
    s.avsRail sel.toNat = some r → s.avsSource r = true → s.responseOf (rlTargetClamp r.val) < 4 →
    Safety.completes (.avsVoltageWrite sel true (some code)) s fun t =>
      t.avs = some ⟨ackTaken, none⟩ ∧ t.railObj (vrail r) 0x10 1 = code.toNat * s.avsScale sel.toNat ∧
        t.rails[vrail r].source = code.toNat * s.avsScale sel.toNat ∧ t.rails[vrail r].profile = false) ∧
  (∀ (sel : BitVec 4) (code : BitVec 16) (r : VRailId) (s : State), Safety.canonical s = true → s.avsOn = true →
    s.avsRail sel.toNat = some r → s.avsSource r = false →
    Safety.completes (.avsVoltageWrite sel true (some code)) s fun t =>
      t.avs = some ⟨ackIdle, none⟩ ∧ t.obj 0x2500 0x14 = countNext (objKey 0x2500 0x14) (s.obj 0x2500 0x14) ∧
        t.railObj (vrail r) 0x10 1 = s.railObj (vrail r) 0x10 1) ∧
  (∀ (sel : BitVec 4) (s : State), Safety.canonical s = true → s.avsOn = true →
    Safety.completes (.avsVoltageWrite sel true none) s (fun t => t.avs = some ⟨ackInvalid, none⟩ ∧
      t.rails = s.rails) ∧
    Safety.completes (.avsVoutTransRateWrite sel true none) s (fun t => t.avs = some ⟨ackInvalid, none⟩ ∧
      t.rails = s.rails)) ∧
  (∀ (sel : BitVec 4) (r : VRailId) (s : State), Safety.canonical s = true → s.avsOn = true →
    s.avsRail sel.toNat = some r →
    Safety.completes (.avsVoltageRead sel true) s fun t =>
      t.avs = some ⟨ackTaken, some (avsCode (s.railObj (vrail r) 0x48 1) (s.avsScale sel.toNat))⟩) ∧
  (∀ (sel : BitVec 4) (code : BitVec 16) (r : VRailId) (s : State), Safety.canonical s = true → s.avsOn = true →
    s.avsRail sel.toNat = some r → s.avsSource r = true → code.toNat / 256 ≠ 0 → code.toNat % 256 ≠ 0 →
    Safety.completes (.avsVoutTransRateWrite sel true (some code)) s fun t =>
      t.avs = some ⟨ackTaken, none⟩ ∧
        t.railObj (vrail r) 0x10 4 = 1000 * ((code.toNat / 256 : Nat) : Int) * s.avsScale sel.toNat ∧
        t.railObj (vrail r) 0x10 5 = 1000 * ((code.toNat % 256 : Nat) : Int) * s.avsScale sel.toNat) ∧
  (∀ (sel : BitVec 4) (r : VRailId) (s : State), Safety.canonical s = true → s.avsOn = true →
    s.avsRail sel.toNat = some r →
    Safety.completes (.avsVoutTransRateRead sel true) s fun t =>
      t.avs = some ⟨ackTaken, some (256 * avsRateCode (s.upRate (vrail r)) (s.avsScale sel.toNat)
        + avsRateCode (s.downRate (vrail r)) (s.avsScale sel.toNat))⟩) ∧
  (∀ (sel : BitVec 4) (r : VRailId) (s : State), Safety.canonical s = true → s.avsOn = true →
    s.avsRail sel.toNat = some r →
    Safety.completes (.avsCurrentRead sel true) s fun t =>
      t.avs = some ⟨ackTaken,
        some (avsCode (s.railObj (vrail r) 0x48 2) (s.obj 0x2500 (0x0A + sel.toNat)))⟩) ∧
  (∀ (sel : BitVec 4) (r : VRailId) (s : State), Safety.canonical s = true → s.avsOn = true →
    s.avsRail sel.toNat = some r →
    Safety.completes (.avsTemperatureRead sel true) s fun t =>
      t.avs = some ⟨ackTaken, some (s.avsTemperature sel.toNat)⟩) ∧
  (∀ (sel : BitVec 4) (r : VRailId) (s : State), Safety.canonical s = true → s.avsOn = true →
    s.avsRail sel.toNat = some r → s.avsSource r = true → s.responseOf (rlTargetClamp r.val) < 4 →
    Safety.completes (.avsResetVoltage sel true) s fun t =>
      t.avs = some ⟨ackTaken, none⟩ ∧
        t.railObj (vrail r) 0x10 1 = s.storedObj (railIx (vrail r) 0x10) 1 ∧
        t.rails[vrail r].source = s.storedObj (railIx (vrail r) 0x10) 1) ∧
  (∀ (sel : BitVec 4) (code : BitVec 16) (r : VRailId) (s : State), Safety.canonical s = true → s.avsOn = true →
    s.avsRail sel.toNat = some r →
    Safety.completes (.avsPowerModeWrite sel true code) s fun t => t.avs = some ⟨ackTaken, none⟩) ∧
  (∀ (sel : BitVec 4) (r : VRailId) (s : State), Safety.canonical s = true → s.avsOn = true →
    s.avsRail sel.toNat = some r →
    Safety.completes (.avsPowerModeRead sel true) s fun t =>
      t.avs = some ⟨ackTaken, some (if s.isOn (vrail r) then 0 else 3)⟩) ∧
  (∀ (sel : BitVec 4) (r : VRailId) (s : State), Safety.canonical s = true → s.avsOn = true →
    s.avsRail sel.toNat = some r →
    Safety.completes (.avsStatusRead sel true) s fun t => t.avs = some ⟨ackTaken, some (s.avsStatus r)⟩)

/-- O23. The loop engine's detectors, watchdog and tables (R333–R337). -/
def Obligations.LoopEngineActs : Prop :=
  (∀ (k : SlotId) (s : State), Safety.canonical s = true → s.slots[k].detected = true →
    Safety.completes (.oscillationDetection k) s fun t =>
      t.slots[k].detected = false ∧ t.obj (0x3840 + k.val) 6 = 0 ∧
        t.obj (0x3840 + k.val) 5 = countNext (objKey (0x3840 + k.val) 5) (s.obj (0x3840 + k.val) 5) ∧
        (s.fastNat (0x3840 + k.val) 4 = 1 → Safety.raised (hkOsc k.val) s t) ∧
        (s.fastNat (0x3840 + k.val) 4 = 2 → t.slots[k].safeDue = true ∧ Safety.raised (hkSafeContour k.val) s t) ∧
        (s.fastNat (0x3840 + k.val) 4 = 3 → Safety.raised (hkOscTrip k.val) s t)) ∧
  (∀ (r : RailId) (s : State), Safety.canonical s = true → s.fastNat 0x3800 (9 + r.val) / 65536 ≠ 0 →
    s.fastNat 0x3800 (9 + r.val) / 65536 ≤ s.rails[r].chatterCount → s.rails[r].chatterRaised = false →
    Safety.completes (.chatterDetection r) s fun t =>
      t.rails[r].chatterRaised = true ∧ Safety.raised (rlChatter r.val) s t) ∧
  (∀ (r : RailId) (parity : Bool) (s : State), Safety.canonical s = true → s.obj 0x3800 1 = 1 →
    (parity = true ∨ s.onOrStopping r = true) →
    Safety.completes (.sampleWatchdogExpiry r parity) s fun t =>
      t.obj 0x3800 1 = 2 ∧ t.outline.active = true ∧
        (s.responseOf dvHkWatchdog ≠ 0 → Safety.uncleared t dvHkWatchdog = true)) ∧
  (∀ (r : RailId) (parity : Bool) (s : State), s.obj 0x3800 1 ≠ 1 → Safety.ignored (.sampleWatchdogExpiry r parity) s) ∧
  (∀ (ch : Channel) (k : SlotId) (tag : BitVec 16) (s : State),
    Safety.actionAdmits s ch (slotIx k) 0x0E tag.toNat 1 → s.boundaryComes (objKey (slotIx k) 1) = true →
    s.obj (slotIx k) 0x0D = 1 →
    Safety.completes (.returnToPrimary ch k tag) s fun t =>
      Safety.done t ch (slotIx k) 0x0E ∧ t.slots[k].returnDue = true ∧ t.slots[k].safeDue = s.slots[k].safeDue) ∧
  (∀ (ch : Channel) (k : SlotId) (safe : Bool) (tag : BitVec 16) (s : State), Safety.canonical s = true →
    Safety.actionAdmits s ch ((if safe then 0x3830 else 0x3820) + k.val) 2 tag.toNat 1 →
    (s.obj 0x3800 1 ≠ 1 ∨ s.tableUsers ((if safe then 0x3830 else 0x3820) + k.val) = []) →
    Safety.completes (.contourCommit ch k safe tag) s fun t =>
      Safety.done t ch ((if safe then 0x3830 else 0x3820) + k.val) 2 ∧
        t.domain ((if safe then 0x3830 else 0x3820) + k.val) 3 =
          some (s.shadowTable ((if safe then 0x3830 else 0x3820) + k.val))) ∧
  (∀ (ch : Channel) (k : SlotId) (safe : Bool) (tag : BitVec 16) (s : State),
    Safety.actionAdmits s ch ((if safe then 0x3830 else 0x3820) + k.val) 2 tag.toNat 1 → s.obj 0x3800 1 = 1 →
    s.tableUsers ((if safe then 0x3830 else 0x3820) + k.val) ≠ [] →
    Safety.completes (.contourCommit ch k safe tag) s fun t =>
      Safety.done t ch ((if safe then 0x3830 else 0x3820) + k.val) 2 ∧ t.dom = s.dom ∧
        ((if safe then 0x3830 else 0x3820) + k.val, s.shadowTable ((if safe then 0x3830 else 0x3820) + k.val),
          s.tableUsers ((if safe then 0x3830 else 0x3820) + k.val)) ∈ t.engine.pending) ∧
  (∀ (ch : Channel) (n : Fin 16) (tag : BitVec 16) (s : State), Safety.canonical s = true →
    Safety.actionAdmits s ch (0x3850 + n.val) 2 tag.toNat 1 →
    (s.obj 0x3800 1 ≠ 1 ∨ s.tableUsers (0x3850 + n.val) = []) →
    Safety.completes (.reliefCommit ch n tag) s fun t =>
      Safety.done t ch (0x3850 + n.val) 2 ∧
        t.domain (0x3850 + n.val) 3 = some (s.shadowTable (0x3850 + n.val))) ∧
  (∀ (ch : Channel) (n : Fin 16) (tag : BitVec 16) (s : State),
    Safety.actionAdmits s ch (0x3850 + n.val) 2 tag.toNat 1 → s.obj 0x3800 1 = 1 →
    s.tableUsers (0x3850 + n.val) ≠ [] →
    Safety.completes (.reliefCommit ch n tag) s fun t =>
      Safety.done t ch (0x3850 + n.val) 2 ∧ t.dom = s.dom ∧
        (0x3850 + n.val, s.shadowTable (0x3850 + n.val), s.tableUsers (0x3850 + n.val)) ∈ t.engine.pending)

/-- O24. Drive rail D (R342–R344, R354, R357, R359, R360, R487). -/
def Obligations.DriveRailActs : Prop :=
  (∀ (code : BitVec 3) (us : Nat) (s : State), s.serving = false → Safety.ignored (.hallTransition code us) s) ∧
  (∀ (code : BitVec 3) (us n m : Nat) (s : State), Safety.canonical s = true → s.serving = true →
    s.drive.sector = some m → s.sectorOf code.toNat = some n → m < 6 → n = (m + 1) % 6 →
    Safety.completes (.hallTransition code us) s fun t =>
      t.drive.sector = some n ∧ t.drive.forward = true ∧ t.obj 0x2620 7 = code.toNat ∧
        t.drive.intervals = (if s.drive.timing = true then (us :: s.drive.intervals).take 6 else s.drive.intervals)) ∧
  (∀ (code : BitVec 3) (us n m : Nat) (s : State), Safety.canonical s = true → s.serving = true →
    s.drive.sector = some m → s.sectorOf code.toNat = some n → n < 6 → m = (n + 1) % 6 →
    Safety.completes (.hallTransition code us) s fun t =>
      t.drive.sector = some n ∧ t.drive.forward = false ∧ t.obj 0x2620 7 = code.toNat) ∧
  (∀ (code : BitVec 3) (us : Nat) (s : State), Safety.canonical s = true → s.serving = true →
    s.drive.hall ≠ code.toNat → s.sectorOf code.toNat = none →
    Safety.completes (.hallTransition code us) s fun t =>
      t.obj 0x2620 7 = code.toNat ∧ t.obj 0x2620 9 = countNext (objKey 0x2620 9) (s.obj 0x2620 9) ∧
        Safety.raised (rlHallIllegal 4) s t) ∧
  (∀ (code : BitVec 3) (us n m : Nat) (s : State), Safety.canonical s = true → s.serving = true →
    s.drive.sector = some m → s.sectorOf code.toNat = some n → n ≠ m → n ≠ (m + 1) % 6 → m ≠ (n + 1) % 6 →
    Safety.completes (.hallTransition code us) s fun t =>
      t.obj 0x2620 7 = code.toNat ∧ t.obj 0x2620 0x0A = countNext (objKey 0x2620 0x0A) (s.obj 0x2620 0x0A) ∧
        Safety.raised (rlHallSequence 4) s t) ∧
  (∀ (us : Nat) (s : State), Safety.canonical s = true → s.obj 0x3400 0x10 * 1000 < us →
    Safety.completes (.zeroSpeedTimeout us) s fun t => t.obj 0x3448 5 = 0 ∧ t.obj 0x3448 1 = 0) ∧
  (∀ s : State, Safety.canonical s = true → s.drive.reversing = true → s.rails[railD].running = true →
    s.rails[railD].vr = 0 → ((s.obj 0x3448 1).natAbs : Int) ≤ s.obj 0x3400 0x0F →
    s.responseOf (rlTargetClamp 4) < 4 →
    Safety.completes .reversalSwitch s fun t =>
      t.obj 0x4110 0x0B = s.obj 0x3400 0x0B ∧ t.drive.reversing = false ∧
        t.obj 0x3440 7 = countNext (objKey 0x3440 7) (s.obj 0x3440 7)) ∧
  (∀ s : State, s.drive.reversing = false → Safety.ignored .reversalSwitch s) ∧
  (∀ (ms : BitVec 32) (s : State), Safety.canonical s = true → s.isOn railD = true →
    s.rails[railD].running = true → s.rails[railD].stop = .none → 0 < s.rails[railD].demand → s.drive.hold = 0 →
    s.obj 0x3400 0x11 ≤ ms.toNat → min 255 (s.obj 0x3440 4 + 1) ≤ s.obj 0x3400 8 →
    s.responseOf (rlHiccup 4) < 4 →
    Safety.completes (.stallTimeout ms) s fun t =>
      t.rails[railD].hiccup = true ∧ t.obj 0x3440 4 = min 255 (s.obj 0x3440 4 + 1) ∧
        (t.rails[railD].stop = .hard ∨ t.rails[railD].running = false) ∧ Safety.raised (rlHiccup 4) s t) ∧
  (∀ s : State, Safety.canonical s = true → s.outlineTurns = true → s.outlineSupply = true →
    s.outline.coasting = false →
    Safety.completes .outlineNoTransitionTimeout s fun t =>
      t.outline.coasting = true ∧ t.obj 0x3440 9 = countNext (objKey 0x3440 9) (s.obj 0x3440 9) ∧
        ∀ p : PhaseId, 9 ≤ p.val → t.phases[p].outlineWant = 0 ∧ (s.hasUpdates p = false →
          t.phases[p].outH = false ∧ (s.phases[p].tripped = false → t.phases[p].outL = false))) ∧
  (∀ s : State, s.outlineTurns = true → s.outline.coasting = true →
    Safety.completes .outlineRestartTimeout s fun t => t.outline.coasting = false) ∧
  (∀ (mv : BitVec 12) (s : State), s.outline.active = true → s.outline.store = true →
    (mv.toNat : Int) < s.outlineValue 0x2340 9 →
    Safety.completes (.outlineBusSupportCrossing mv) s fun t => t.outline.supporting = true) ∧
  (∀ (mv : BitVec 12) (s : State), s.outline.active = true → s.outline.store = true →
    s.outlineValue 0x2340 9 ≤ (mv.toNat : Int) → s.outlineValue 0x2340 0x0A < (mv.toNat : Int) →
    Safety.completes (.outlineBusSupportCrossing mv) s fun t => t.outline.supporting = false) ∧
  (∀ (mv : BitVec 12) (s : State), s.outline.active = true → s.outline.store = false →
    Safety.ignored (.outlineBusSupportCrossing mv) s)

/-- O25. The Tropo ring (R367, R370, R375–R379, R386, R396, R398, R399). -/
def Obligations.TropoRingActs : Prop :=
  (∀ s : State, Safety.canonical s = true → s.isRingLead = true → s.ringActive = true → s.ring.joined = false →
    s.obj 0x2400 2 = 1 → s.responseOf trDupPosition < 4 →
    Safety.completes (.ringLeadListenEnd true) s fun t =>
      t.obj 0x2400 2 = 6 ∧ Safety.raised trDupPosition s t) ∧
  (∀ s : State, Safety.canonical s = true → s.isRingLead = true → s.ringActive = true → s.ring.joined = false →
    s.obj 0x2400 2 = 1 →
    Safety.completes (.ringLeadListenEnd false) s fun t =>
      t.obj 0x2400 2 = 3 ∧ t.ring.joined = true ∧ t.ring.bypassClosed = false ∧
        t.obj 0x2400 0x23 = countNext (objKey 0x2400 0x23) (s.obj 0x2400 0x23)) ∧
  (∀ s : State, Safety.canonical s = true → s.isRingLead = false → s.ringActive = true → s.ring.joined = false →
    s.obj 0x2400 2 = 2 → 8 ≤ s.ring.good → s.responseOf trJoined < 4 →
    Safety.completes .ringLock s fun t =>
      t.obj 0x2400 2 = 3 ∧ t.ring.joined = true ∧ t.ring.bypassClosed = false ∧ Safety.raised trJoined s t) ∧
  (∀ s : State, s.ring.good < 8 → Safety.ignored .ringLock s) ∧
  (∀ s : State, Safety.canonical s = true → s.isRingLead = false → s.ringActive = true → s.ring.joined = false →
    s.obj 0x2400 2 = 2 → s.ring.noLead = false → s.responseOf trNoLead < 4 →
    Safety.completes .ringNoLead s fun t => t.ring.noLead = true ∧ Safety.raised trNoLead s t) ∧
  (∀ s : State, Safety.canonical s = true → s.isRingLead = true → s.ring.joined = true → s.obj 0x2400 2 = 3 →
    s.ring.alignDue = [] → (∀ p : Fin 8, p ≠ s.position → (s.memberAt p).present = false) →
    (∀ e ∈ [trUp, trMemberMissing, trBypassChain, trSpanConfig], s.responseOf e < 4) →
    Safety.completes .ringDiscoveryEnd s fun t =>
      (t.obj 0x2400 2 = 4 ∨ s.life.joining = true) ∧ (s.responseOf trUp ≠ 0 → Safety.uncleared t trUp = true)) ∧
  (∀ (p : Fin 8) (s : State), Safety.canonical s = true → s.isRingLead = true → s.ring.joined = true →
    s.obj 0x2400 2 = 3 → s.ring.alignDue = [] → p ≠ s.position → (s.memberAt p).present = true →
    Safety.completes .ringDiscoveryEnd s fun t =>
      t.obj 0x2400 2 = 3 ∧ t.ring.alignDue =
          (positions.filter fun p => (s.memberAt p).present && p != s.position).map Fin.val) ∧
  (∀ (q : Nat) (f : RingFrame) (s : State), Safety.canonical s = true → s.isRingLead = true → s.ring.joined = true →
    s.obj 0x2400 2 = 3 → s.ring.alignDue = [q] → s.ring.sendSeq % 2 = 1 → s.ring.sent = some f → f.kind = 2 →
    (∀ e ∈ [trUp, trMemberMissing, trBypassChain, trSpanConfig], s.responseOf e < 4) →
    Safety.completes .ringFrameSend s fun t =>
      (t.obj 0x2400 2 = 4 ∨ s.life.joining = true) ∧ (s.responseOf trUp ≠ 0 → Safety.uncleared t trUp = true)) ∧
  (∀ (p : BitVec 3) (s : State), Safety.canonical s = true → s.ring.joined = true →
    s.ring.members[(Fin.ofNat 8 p.toNat : Fin 8)].present = true →
    2 ≤ s.ring.members[(Fin.ofNat 8 p.toNat : Fin 8)].missed → s.responseOf trMemberLost < 4 →
    Safety.completes (.ringMemberLost p) s fun t =>
      t.ring.members[(Fin.ofNat 8 p.toNat : Fin 8)].present = false ∧
        t.ring.members[(Fin.ofNat 8 p.toNat : Fin 8)].running = 0 ∧ Safety.raised trMemberLost s t) ∧
  (∀ s : State, Safety.canonical s = true → s.ring.joined = true → 8 ≤ s.ring.bad → s.obj 0x2400 2 ≠ 5 →
    s.ring.leaving = none → s.responseOf trBreak < 4 →
    Safety.completes .ringBreak s fun t =>
      t.obj 0x2400 2 = 5 ∧ t.obj 0x2400 0x22 = countNext (objKey 0x2400 0x22) (s.obj 0x2400 0x22) ∧
        t.ring.joined = s.isRingLead ∧ (s.responseOf trBreak ≠ 0 → Safety.uncleared t trBreak = true)) ∧
  (∀ s : State, s.ring.bad < 8 → Safety.ignored .ringBreak s) ∧
  (∀ s : State, Safety.canonical s = true → s.isRingLead = true → s.ring.joined = true → s.obj 0x2400 2 = 5 →
    8 ≤ s.ring.good → s.obj 0x2400 0x20 = 1 →
    Safety.completes .ringLeadRecovery s fun t =>
      t.obj 0x2400 2 = 3 ∧ t.ring.members = Vector.replicate 8 {} ∧ t.ring.pass = 0) ∧
  (∀ (reason : Nat) (s : State), Safety.canonical s = true → s.ring.leaving = some reason →
    s.ring.faultSent = true → s.ring.rejoin = false → s.responseOf trLeft < 4 →
    Safety.completes .ringLeaveComplete s fun t =>
      t.ring.joined = false ∧ t.ring.bypassClosed = true ∧ t.ring.leaving = none ∧
        t.obj 0x2400 2 = (if s.obj 0x2400 1 = 1 then 1 else 0) ∧ Safety.raised trLeft s t) ∧
  (∀ s : State, s.isRingLead = true → s.ring.joined = true → s.ring.lateJoin = 0 →
    (s.obj 0x2400 2 = 3 → s.ring.alignDue = []) →
    Safety.completes .ringFrameSend s fun t =>
      t.ring.sent = some s.leadFrame ∧ t.ring.sendSeq = (s.ring.sendSeq + 1) % 16 ∧
        t.ring.faultSent = s.ring.leaving.isSome) ∧
  (∀ s : State, s.isRingLead = false → Safety.ignored .ringFrameSend s) ∧
  (∀ (f : RingFrame) (ps : BitVec 32) (s : State), Safety.canonical s = true → s.ring.joined = true →
    s.obj 0x2400 2 ≠ 6 → s.frameGood f = false →
    Safety.completes (.ringFrameReceived f ps) s fun t =>
      t.ring.bad = s.ring.bad + 1 ∧ t.ring.good = 0 ∧ t.ring.lastSeq = some f.seq.toNat ∧
        t.obj 0x2400 0x21 = countNext (objKey 0x2400 0x21) (s.obj 0x2400 0x21)) ∧
  (∀ (f : RingFrame) (ps : BitVec 32) (s : State), Safety.canonical s = true → s.ringActive = true →
    s.ring.joined = false → s.obj 0x2400 2 = 2 → s.frameGood f = true → s.ring.noLead = false →
    f.token.toNat / 32 ≠ s.position.val →
    Safety.completes (.ringFrameReceived f ps) s fun t =>
      t.ring.good = s.ring.good + 1 ∧ t.ring.bad = 0 ∧ t.ring.lastSeq = some f.seq.toNat ∧ t.obj 0x2400 2 = 2) ∧
  (∀ (f : RingFrame) (ps : BitVec 32) (s : State), Safety.canonical s = true → s.isRingLead = false →
    s.ring.joined = true → s.obj 0x2400 2 ≠ 6 → s.frameGood f = true → f.kind = 0 →
    f.token.toNat / 32 ≠ s.position.val →
    Safety.completes (.ringFrameReceived f ps) s fun t =>
      t.ring.bearing = f.bearing.toNat ∧ t.ring.epoch = f.epoch.toNat ∧ t.ring.sent.isSome = true) ∧
  (∀ s : State, Safety.canonical s = true → s.ring.joined = true →
    Safety.completes .frameReferenceTimeout s fun t =>
      t.ring.bad = s.ring.bad + 1 ∧ t.ring.good = 0 ∧
        t.obj 0x2400 0x21 = countNext (objKey 0x2400 0x21) (s.obj 0x2400 0x21)) ∧
  (∀ (ch : Channel) (s : State), Safety.canonical s = true → Safety.admits s ch 0x2400 1 [1] → s.obj 0x2400 1 = 0 →
    s.ring.joined = false → s.ring.leaving = none → s.obj 0x2400 2 = 0 → (s.power = 3 ∨ s.power = 4) →
    s.serving = true → s.outline.active = false → s.funcState 7 = 0 →
    Safety.completes (.ringPortEnable ch) s fun t =>
      Safety.done t ch 0x2400 1 ∧ t.obj 0x2400 1 = 1 ∧ t.obj 0x2400 2 = (if s.isRingLead = true then 1 else 2)) ∧
  (∀ (ch : Channel) (s : State), Safety.canonical s = true → Safety.admits s ch 0x2400 1 [0] → s.obj 0x2400 1 = 1 →
    s.ring.joined = true → s.ring.leaving = none →
    Safety.completes (.ringPortDisable ch) s fun t =>
      Safety.done t ch 0x2400 1 ∧ t.obj 0x2400 1 = 0 ∧ t.obj 0x2400 2 = 7 ∧ t.ring.leaving = some 1)

/-- O26. The metrology unit (R408, R411–R413, R415, R418, R420, R423, R454). -/
def Obligations.MetrologyActs : Prop :=
  (∀ (x : DecimatedSample) (s : State), (s.metering = false ∨ s.metrology.discard ≠ 0) →
    Safety.ignored (.decimatedSample x) s) ∧
  (∀ (v : Fin 4) (x : Int) (s : State), Safety.canonical s = true → s.metering = true → s.metrology.discard = 0 →
    s.vEnabled v = true →
    968750 ≤ mag x → s.metrology.voltage[v].clipped = false → s.metrology.voltage[v].clippedBefore = false →
    Safety.completes (.decimatedSample (.voltage v x)) s fun t =>
      t.metrology.voltage[v].clipped = true ∧ Safety.raised (mtVClip v.val) s t) ∧
  (∀ (i : Fin 4) (h l : Int) (oh ol : Bool) (s : State), s.metering = true → s.metrology.discard = 0 →
    s.iMode i ≠ 0 →
    Safety.completes (.decimatedSample (.current i h l oh ol)) s fun t =>
      t.metrology.current[i].high = (selectRange s.metrology.current[i] (s.pinVolts i true h) oh).high ∧
        t.metrology.current[i].hold = (selectRange s.metrology.current[i] (s.pinVolts i true h) oh).hold) ∧
  (∀ (pins : CoherentPins) (dt : Nat) (s : State), s.metering = true → s.metrology.discard ≠ 0 →
    Safety.completes (.coherentSample pins dt) s fun t =>
      t.metrology = { s.metrology with discard := s.metrology.discard - dt }) ∧
  (∀ (pins : CoherentPins) (dt : Nat) (s : State), s.metering = true → s.metrology.discard = 0 →
    Safety.completes (.coherentSample pins dt) s fun t =>
      t.metrology.half = s.metrology.half + 1 ∧ t.metrology.dtSum = s.metrology.dtSum + dt ∧
        ∃ x, t.metrology.window = (x :: s.metrology.window).take 256 ∧ x.dt = dt ∧
          (∀ v : Fin 4, x.v[v] = s.scaleVoltage v pins.vm[v]) ∧
          ∀ i : Fin 4, x.i[i] = s.currentSample i pins.imHigh[i] pins.imLow[i]) ∧
  (∀ (pins : CoherentPins) (dt : Nat) (s : State), s.metering = false → Safety.ignored (.coherentSample pins dt) s) ∧
  (∀ s : State, Safety.canonical s = true → s.metering = true →
    Safety.completes .halfCyclePublication s fun t =>
      t.obj 0x5030 5 = countNext (objKey 0x5030 5) (s.obj 0x5030 5) ∧
        t.obj 0x5030 4 = s.qualityWord s.channelsChange ∧ t.metrology.half = 0 ∧ t.metrology.dtSum = 0) ∧
  (∀ s : State, s.metering = false → Safety.ignored .halfCyclePublication s) ∧
  (∀ (i : Fin 4) (cause : Fin 3) (mv : BitVec 16) (s : State), Safety.canonical s = true → s.metering = true →
    cause ≠ 2 → s.iMode i ≠ 0 → (mv.toNat < 100 ∨ 2400 < mv.toNat) →
    Safety.completes (.sensorFaultDetected i cause mv) s fun t =>
      t.metrology.current[i].fault = s.metrology.current[i].fault ||| 2 ^ cause.val ∧
        Safety.raised (mtISensorFault i.val) s t) ∧
  (∀ (i : Fin 4) (s : State), Safety.canonical s = true →
    Safety.completes (.sensorFaultCleared i) s fun t =>
      t.metrology.current[i].fault = 0 ∧ Safety.ended (mtISensorFault i.val) s t) ∧
  (∀ (ch : Channel) (tag : BitVec 16) (s : State), Safety.canonical s = true →
    Safety.actionAdmits s ch 0x5000 0x1B tag.toNat 1 →
    Safety.completes (.calibrationStore ch tag) s fun t =>
      t.flash.calOp = some (⟨ch, 0x5000, 0x1B, tag.toNat⟩, s.calibrationNow) ∧
        t.actionRead 0x5000 0x1B = tag.toNat + 0x10000 ∧ t.clients.answer = s.clients.answer) ∧
  (∀ (ch : Channel) (tag : BitVec 16) (s : State), Safety.canonical s = true →
    Safety.actionAdmits s ch 0x5068 0x11 tag.toNat 1 →
    Safety.completes (.supplyQualityClearCounts ch tag) s fun t =>
      Safety.done t ch 0x5068 0x11 ∧ t.obj 0x5068 2 = 0 ∧ t.obj 0x5068 3 = 0 ∧ t.obj 0x5068 4 = 0)

/-- O27. Energy totals and pulse outputs (R436, R439, R442, R443, R446, R447). -/
def Obligations.EnergyTotalsAct : Prop :=
  (∀ s : State, s.serving = true → s.energy.due = [] → s.supply.pfw = false → s.flashOp = false →
    s.copyReady = true →
    Safety.completes .periodicTotalsSave s fun t =>
      t.energy.save = some ⟨s.totalsCopy 1, copySlot s.energy.nextCopy, false⟩ ∧
        t.energy.nextCopy = s.energy.nextCopy + 1 ∧ t.energy.due = []) ∧
  (∀ s : State, s.serving = true → s.supply.pfw = true →
    Safety.completes .periodicTotalsSave s fun t => t.energy.due = s.energy.due ++ [1]) ∧
  (∀ s : State, s.serving = false → Safety.ignored .periodicTotalsSave s) ∧
  (∀ (op : SaveOp) (s : State), Safety.canonical s = true → s.energy.save = some op → s.energy.due = [] →
    Safety.completes (.totalsCopyComplete true) s fun t =>
      t.energy.save = none ∧ t.energy.copies = cellPut s.energy.copies op.slot op.copy ∧
        t.obj 0x5070 3 = op.copy.seq ∧ t.obj 0x5070 4 = op.copy.time ∧ t.obj 0x5070 5 = op.copy.trigger) ∧
  (∀ (op : SaveOp) (s : State), s.energy.save = some op → s.energy.due = [] → op.retry = false →
    (op.slot + 1) % 8 ≠ 0 → cellGet s.energy.copies (op.slot + 1) = none →
    cellGet s.energy.spoilt (op.slot + 1) = none → cellsAscend s.energy.spoilt = true →
    Safety.completes (.totalsCopyComplete false) s fun t =>
      t.energy.save = some { op with slot := op.slot + 1, retry := true } ∧
        t.energy.spoilt = cellPut s.energy.spoilt op.slot op.copy.seq) ∧
  (∀ (op : SaveOp) (s : State), Safety.canonical s = true → s.energy.save = some op → s.energy.due = [] →
    op.retry = true →
    Safety.completes (.totalsCopyComplete false) s fun t =>
      t.energy.save = none ∧ Safety.raised rcTotalsSaveFail s t) ∧
  (∀ (k : Nat) (s : State), Safety.canonical s = true → s.energy.eraseSector = some k → s.energy.erasing = true →
    s.supply.pfw = false → s.energy.due = [] →
    Safety.completes .energySectorEraseComplete s fun t =>
      t.energy.eraseSector = none ∧ t.energy.erasing = false ∧
        (∀ c ∈ t.energy.copies, c.1 / 8 ≠ k) ∧
        t.obj 0x5070 6 = countNext (objKey 0x5070 6) (s.obj 0x5070 6)) ∧
  (∀ (e : Fin 2) (x : Nat) (rest : List Nat) (s : State), Safety.canonical s = true →
    s.energy.pulses[e].owed = x :: rest → s.pulseFree e = true →
    Safety.completes (.epulseStart e) s fun t =>
      t.energy.pulses[e].on = true ∧ t.energy.pulses[e].owed = rest ∧
        t.obj 0x5050 (9 + e.val) = countNext (objKey 0x5050 (9 + e.val)) (s.obj 0x5050 (9 + e.val))) ∧
  (∀ (e : Fin 2) (x : Nat) (rest : List Nat) (s : State), Safety.canonical s = true →
    s.energy.pulses[e].owed = x :: rest → s.pulseFree e = false → s.obj 0x5050 (0x0B + e.val) < 0xFFFE →
    Safety.completes (.epulseStart e) s fun t =>
      t.energy.pulses[e].on = s.energy.pulses[e].on ∧ t.energy.pulses[e].owed = rest ∧
        t.obj 0x5050 (0x0B + e.val) = s.obj 0x5050 (0x0B + e.val) + 1) ∧
  (∀ (e : Fin 2) (s : State), s.energy.pulses[e].on = true →
    Safety.completes (.epulseEnd e) s fun t =>
      t.energy.pulses[e].on = false ∧
        t.energy.pulses[e].gapUntil = s.life.up + s.nat 0x5050 (5 + e.val)) ∧
  (∀ (ch : Channel) (tag : BitVec 16) (s : State), Safety.actionAdmits s ch 0x5070 1 tag.toNat 1 →
    s.energy.due = [] → s.supply.pfw = false → s.flashOp = false → s.copyReady = true →
    Safety.completes (.totalsSaveNow ch tag) s fun t =>
      Safety.done t ch 0x5070 1 ∧ t.energy.save = some ⟨s.totalsCopy 5, copySlot s.energy.nextCopy, false⟩) ∧
  (∀ (ch : Channel) (tag : BitVec 16) (s : State), Safety.canonical s = true →
    Safety.actionAdmits s ch 0x5070 2 tag.toNat 1 →
    Safety.completes (.totalsReset ch tag) s fun t =>
      Safety.done t ch 0x5070 2 ∧ Safety.raised rcTotalsReset s t ∧
        ∀ (k : Fin 4) (j : Fin 9), t.obj (0x5040 + k.val) (j.val + 1) = 0) ∧
  (∀ (ch : Channel) (r : RailId) (tag : BitVec 16) (s : State), Safety.canonical s = true →
    Safety.actionAdmits s ch (railIx r 0x60) 3 tag.toNat 1 →
    Safety.completes (.dcEnergyReset ch r tag) s fun t =>
      Safety.done t ch (railIx r 0x60) 3 ∧ t.railObj r 0x60 1 = 0 ∧ t.railObj r 0x60 2 = 0)

/-- O28. The recorder, the log and its readers, the external log, and calendar time (R518, R520, R524, R529–R532, R534,
R536, R538, R539, R541). -/
def Obligations.RecorderAndClockAct : Prop :=
  (∀ (seq : BitVec 32) (s : State), s.recorder.writing.isSome = true →
    Safety.completes (.stagingEntryEligible seq) s fun t =>
      ∀ e ∈ t.recorder.staging, e.record.seq = seq.toNat → e.eligible = true) ∧
  (∀ (seq : BitVec 32) (e : Staged) (s : State), s.recorder.staging = [e] → e.record.seq = seq.toNat →
    s.recorder.writing = none → s.recorder.erasing = false → s.recorder.eraseSector = none →
    s.recorder.hostErase = none → cellGet s.recorder.log s.recorder.pos = none → s.flashBusy = false →
    s.supply.pfw = false → s.writesHeld = false →
    Safety.completes (.stagingEntryEligible seq) s fun t =>
      t.recorder.writing = some ({ e with eligible := true }, 0) ∧ t.recorder.staging = [] ∧
        t.recorder.interrupted = some s.recorder.pos) ∧
  (∀ (e : Staged) (g : Nat) (s : State), s.recorder.writing = some (e, g) → g < 3 →
    Safety.completes .flashGranuleComplete s fun t =>
      t.recorder.writing = some (e, g + 1) ∧ t.recorder.log = s.recorder.log) ∧
  (∀ (e : Staged) (s : State), Safety.canonical s = true → s.recorder.writing = some (e, 3) →
    Safety.completes .flashGranuleComplete s fun t =>
      cellGet t.recorder.log s.recorder.pos = some (.record e.record) ∧
        t.obj 0x5800 0x0B = countNext (objKey 0x5800 0x0B) (s.obj 0x5800 0x0B)) ∧
  (∀ (k : Nat) (s : State), Safety.canonical s = true → s.recorder.erasing = true → s.supply.pfw = false →
    s.recorder.eraseSector = some k →
    Safety.completes .logSectorEraseComplete s fun t =>
      t.recorder.log = eraseSlots s.recorder.log k ∧ t.recorder.pos = k * 128 ∧ t.recorder.erasing = false ∧
        t.obj 0x5800 0x10 = countNext (objKey 0x5800 0x10) (s.obj 0x5800 0x10)) ∧
  (∀ s : State, s.supply.pfw = true → Safety.ignored .logSectorEraseComplete s) ∧
  (∀ (ch : Channel) (tag : BitVec 16) (scope : Fin 3) (s : State),
    Safety.actionAdmits s ch 0x5800 1 tag.toNat (scope.val + 1) →
    Safety.completes (.logErase ch tag scope) s fun t =>
      Safety.done t ch 0x5800 1 ∧ ∃ h, t.recorder.hostErase = some h ∧ h.scope = scope.val ∧
        h.internal = (scope.val + 1).testBit 0 ∧ h.external = (scope.val + 1).testBit 1) ∧
  (∀ (h : HostErase) (s : State), s.recorder.hostErase = some h → s.recorder.readers = [] → s.supply.pfw = false →
    h.internal = true → h.record = none →
    Safety.completes .logEraseComplete s fun t =>
      t.recorder.hostErase = none ∧ t.recorder.log = [] ∧ t.recorder.pos = 0) ∧
  (∀ s : State, s.recorder.readers ≠ [] → Safety.ignored .logEraseComplete s) ∧
  (∀ (ch : Channel) (seq : BitVec 32) (s : State), Safety.admits s ch 0x5810 1 (leBytes 4 seq.toNat) → ch ≠ .rpdo →
    Safety.completes (.logCursorWrite ch seq) s fun t =>
      Safety.done t ch 0x5810 1 ∧ (t.client ch).cursor = seq.toNat) ∧
  (∀ (ch : Channel) (s : State), s.serving = true →
    Safety.completes (.logReadFromCursor ch) s fun t =>
      t.clients.readData = s.recordsFrom (s.client ch).cursor ∧
        (s.recordsFrom (s.client ch).cursor ≠ [] → ch ∈ t.recorder.readers)) ∧
  (∀ (ch : Channel) (s : State), s.serving = true →
    Safety.completes (.logReadAtCursor ch) s fun t =>
      t.clients.readData = s.recordAt (s.client ch).cursor ∧ t.recorder = s.recorder) ∧
  (∀ (ch : Channel) (s : State), s.serving = true →
    Safety.completes (.logSnapshotRead ch) s fun t =>
      t.clients.readData = s.snapshot ∧ ch ∈ t.recorder.readers) ∧
  (∀ (ch : Channel) (rest : List Channel) (s : State), Safety.canonical s = true → s.recorder.readers = ch :: rest →
    Safety.completes .readDeferralTimeout s fun t =>
      t.recorder.readers = rest ∧ t.obj 0x5810 7 = countNext (objKey 0x5810 7) (s.obj 0x5810 7)) ∧
  (∀ (rec : Record) (rest : List Record) (status : Byte) (s : State), Safety.canonical s = true →
    s.recorder.extWaiting = rec :: rest → s.obj 0x5830 2 = 1 → s.recorder.extErasing = false →
    Safety.completes (.externalLogWriteComplete true status) s fun t =>
      t.recorder.extWaiting = rest ∧ t.recorder.extLog = cellPut s.recorder.extLog s.recorder.extPos (.record rec) ∧
        t.obj 0x2520 3 = status.toNat) ∧
  (∀ (rec : Record) (rest : List Record) (status : Byte) (s : State), Safety.canonical s = true →
    s.recorder.extWaiting = rec :: rest → s.obj 0x5830 2 = 1 → s.recorder.extErasing = false →
    Safety.completes (.externalLogWriteComplete false status) s fun t =>
      t.recorder.extWaiting = rest ∧ t.obj 0x2520 2 = countNext (objKey 0x2520 2) (s.obj 0x2520 2) ∧
        Safety.raised cmSpiWriteFail s t) ∧
  (∀ (ms : BitVec 16) (s : State), Safety.canonical s = true → s.recorder.extErasing = true →
    Safety.completes (.externalSectorEraseComplete ms) s fun t =>
      t.recorder.extErasing = false ∧ t.recorder.extLog = eraseSlots s.recorder.extLog (s.recorder.extPos / 128) ∧
        t.obj 0x2520 4 = countNext (objKey 0x2520 4) (s.obj 0x2520 4) ∧ t.obj 0x2520 5 = ms.toNat) ∧
  (∀ (time : BitVec 64) (s : State), Safety.admits s .gsp 0x5820 1 (leBytes 8 time.toNat) →
    Safety.completes (.calendarTimeWrite .gsp time) s fun t =>
      Safety.done t .gsp 0x5820 1 ∧ t.rtc.ms = time.toNat ∧ t.rtc.frac = 0 ∧ t.rtc.valid = true) ∧
  (∀ (ch : Channel) (trim : BitVec 16) (s : State), Safety.canonical s = true →
    Safety.admits s ch 0x5820 3 (leBytes 2 trim.toNat) →
    Safety.completes (.rtcTrimWrite ch trim) s fun t =>
      Safety.done t ch 0x5820 3 ∧ t.obj 0x5820 3 = trim.toInt ∧ t.rtc.trimAcc = 0) ∧
  (∀ s : State, s.obj 0x5820 3 ≠ 0 → s.clocks.lse = true →
    Safety.completes .rtcTrimStep s fun t =>
      t.rtc.trimAcc = s.rtc.trimAcc - trimFull ∧
        32768 * t.rtc.ms + t.rtc.frac = 32768 * s.rtc.ms + s.rtc.frac + (if 0 < s.obj 0x5820 3 then 1000 else -1000)) ∧
  (∀ s : State, s.obj 0x5820 3 = 0 → Safety.ignored .rtcTrimStep s)

/-- O29. The USB port and sessions (R543, R545, R546, R560–R566, R569). -/
def Obligations.PortsAndSessionsAct : Prop :=
  (∀ s : State, Safety.canonical s = true → s.obj 0x2510 4 = 1 →
    (s.clocks.ranOnCrystal = true ∨ s.clocks.sofTrim = true) →
    Safety.completes .usbAddressSet s fun t => t.obj 0x2510 4 = 2) ∧
  (∀ s : State, s.obj 0x2510 4 ≠ 1 → Safety.ignored .usbAddressSet s) ∧
  (∀ s : State, Safety.canonical s = true → (s.obj 0x2510 4 = 1 ∨ s.obj 0x2510 4 = 2) →
    (s.clocks.ranOnCrystal = true ∨ s.clocks.sofTrim = true) →
    Safety.completes .usbConfigured s fun t =>
      t.obj 0x2510 4 = 3 ∧ t.supply.usbConfigured = true ∧ t.clients.gsp = {} ∧ Safety.raised cmUsbAttach s t) ∧
  (∀ s : State, Safety.canonical s = true → s.obj 0x2510 4 ≠ 0 →
    Safety.completes .usbDetach s fun t => t.obj 0x2510 4 = 0 ∧ t.supply.usbConfigured = false) ∧
  (∀ s : State, Safety.canonical s = true → s.obj 0x2510 4 ≠ 0 →
    Safety.completes .usbBusReset s fun t => t.obj 0x2510 4 = 1 ∧ t.supply.usbConfigured = false) ∧
  (∀ s : State, s.obj 0x2510 4 = 0 →
    Safety.ignored .usbDetach s ∧ Safety.ignored .usbBusReset s ∧ Safety.ignored .usbSuspend s) ∧
  (∀ s : State, Safety.canonical s = true → s.obj 0x2510 4 ≠ 0 → s.obj 0x2510 4 ≠ 4 →
    Safety.completes .usbSuspend s fun t => t.obj 0x2510 4 = 4 ∧ t.supply.usbBefore = s.nat 0x2510 4) ∧
  (∀ s : State, Safety.canonical s = true → s.obj 0x2510 4 = 4 →
    Safety.completes .usbResume s fun t => t.obj 0x2510 4 = s.supply.usbBefore) ∧
  (∀ (f : List Byte) (rest : List (List Byte)) (s : State), s.obj 0x2510 4 = 3 → s.gsp.out = f :: rest →
    Safety.completes .usbInTransferComplete s fun t => t.gsp.out = rest ∧ t.gsp.events = s.gsp.events) ∧
  (∀ (f : List Byte) (rest : List (List Byte)) (s : State), Safety.canonical s = true → s.obj 0x2510 4 = 3 →
    s.gsp.out = [] → s.gsp.events = f :: rest →
    Safety.completes .usbInTransferComplete s fun t =>
      t.gsp.events = rest ∧ t.obj 0x2510 0x0A = countNext (objKey 0x2510 0x0A) (s.obj 0x2510 0x0A)) ∧
  (∀ (ch : Channel) (s : State), ch ≠ .rpdo →
    Safety.completes (.nonceExpiry ch) s fun t => (t.client ch).nonce = none) ∧
  (∀ (ch : Channel) (s : State), ch ≠ .rpdo →
    Safety.completes (.sessionLockoutExpiry ch) s fun t => (t.client ch).locked = false) ∧
  (∀ (ch : Channel) (l : Level) (s : State), Safety.canonical s = true → (s.client ch).session = some l →
    Safety.completes (.sessionIdleTimeout ch) s fun t =>
      (t.client ch).session = none ∧ Safety.raised rcSessionClose s t) ∧
  (∀ (ch : Channel) (tag level : BitVec 16) (s : State),
    Safety.actionAdmits s ch 0x2020 1 tag.toNat level.toNat →
    Safety.completes (.sessionChallenge ch tag level) s fun t =>
      Safety.done t ch 0x2020 1 ∧ (t.client ch).session = none ∧
        (t.client ch).nonce = some ((Config.nonce s.clients.draws).toNat, level.toNat) ∧
        (t.client ch).challengeKey = (s.levelKey level.toNat).getD [] ∧
        t.clients.draws = s.clients.draws + 1) ∧
  (∀ (ch : Channel) (m : List Byte) (n level : Nat) (s : State), Safety.canonical s = true →
    Safety.textAdmits s ch 0x2020 3 m → (s.client ch).session = none → (s.client ch).nonce = some (n, level) →
    matchingM (s.client ch).challengeKey n level = m →
    Safety.completes (.sessionResponse ch m) s fun t =>
      Safety.done t ch 0x2020 3 ∧ (t.client ch).session = some (sessionLevel level) ∧
        (t.client ch).nonce = none ∧ (t.client ch).failures = 0 ∧ (t.client ch).idle = 300000 ∧
        Safety.raised rcSessionOpen s t) ∧
  (∀ (ch : Channel) (m : List Byte) (n level : Nat) (s : State), Safety.canonical s = true →
    Safety.textAdmits s ch 0x2020 3 m → (s.client ch).session = none → (s.client ch).nonce = some (n, level) →
    matchingM (s.client ch).challengeKey n level ≠ m →
    Safety.completes (.sessionResponse ch m) s fun t =>
      t.clients.answer = some ⟨ch, 0x2020, 3, some 0x06010000⟩ ∧ (t.client ch).session = none ∧
        (t.client ch).nonce = none ∧ (t.client ch).failures = failuresNext (s.client ch).failures ∧
        (5 ≤ failuresNext (s.client ch).failures → (t.client ch).locked = true) ∧
        Safety.raised rcSessionFail s t) ∧
  (∀ (ch : Channel) (tag : BitVec 16) (l : Level) (s : State), Safety.canonical s = true →
    Safety.actionAdmits s ch 0x2020 5 tag.toNat 1 → (s.client ch).session = some l →
    Safety.completes (.sessionClose ch tag) s fun t =>
      Safety.done t ch 0x2020 5 ∧ (t.client ch).session = none ∧ Safety.raised rcSessionClose s t) ∧
  (∀ (ch : Channel) (oem : Bool) (key : List Byte) (s : State),
    Safety.textAdmits s ch 0x2020 (if oem then 9 else 8) key → s.keyRule key = none →
    Safety.completes (.keyWrite ch oem key) s fun t =>
      Safety.done t ch 0x2020 (if oem then 9 else 8) ∧ t.flash.keyOp = some ⟨ch, oem, key⟩) ∧
  (∀ (ch : Channel) (tag : BitVec 16) (s : State), Safety.actionAdmits s ch 0x2028 0x42 tag.toNat 1 →
    Safety.completes (.accessMapCommit ch tag) s fun t =>
      Safety.done t ch 0x2028 0x42 ∧ t.flash.mapOp = some (⟨ch, 0x2028, 0x42, tag.toNat⟩, s.shadowMap))

/-- O30. The lifecycle, the firmware banks, and stores of parameters (R77, R80, R572, R577, R579, R580, R582). -/
def Obligations.LifecycleAndFirmwareAct : Prop :=
  (∀ (ch : Channel) (tag : BitVec 16) (s : State), Safety.canonical s = true →
    Safety.actionAdmits s ch 0x2030 2 tag.toNat 1 → s.lifecycle ≠ 1 → s.life.resetKind = none →
    Safety.completes (.lifecycleToOemBuild ch tag) s fun t =>
      Safety.done t ch 0x2030 2 ∧ t.obj 0x2030 1 = 1 ∧ t.life.resetKind = some 9) ∧
  (∀ (ch : Channel) (tag : BitVec 16) (s : State), Safety.canonical s = true →
    Safety.actionAdmits s ch 0x2030 2 tag.toNat 2 → s.lifecycle ≠ 2 → s.life.resetKind = none →
    Safety.completes (.lifecycleToField ch tag) s fun t =>
      Safety.done t ch 0x2030 2 ∧ t.obj 0x2030 1 = 2 ∧ t.life.resetKind = some 9) ∧
  (∀ (ch : Channel) (tag : BitVec 16) (s : State), Safety.canonical s = true →
    Safety.actionAdmits s ch 0x2030 2 tag.toNat 3 → s.lifecycle ≠ 3 → s.life.resetKind = none →
    Safety.completes (.lifecycleToService ch tag) s fun t =>
      Safety.done t ch 0x2030 2 ∧ t.obj 0x2030 1 = 3 ∧ t.life.resetKind = some 9) ∧
  (∀ (ch : Channel) (tag : BitVec 16) (s : State), Safety.canonical s = true →
    Safety.actionAdmits s ch 0x2030 2 tag.toNat 4 → s.lifecycle ≠ 4 → s.life.resetKind = none →
    Safety.completes (.lifecycleToRetired ch tag) s fun t =>
      Safety.done t ch 0x2030 2 ∧ t.obj 0x2030 1 = 4 ∧ t.life.resetKind = some 9 ∧
        t.flash.technicianKey = none ∧ t.flash.oemKey = none) ∧
  (∀ (ch : Channel) (data : List Byte) (last : Bool) (s : State), Safety.canonical s = true →
    s.reaches ch = true → s.pieceRule ch = none → s.firmwareRule = none → s.flash.download = none →
    Safety.completes (.firmwareDownload ch data true last) s fun t =>
      t.flash.download = some ch ∧ t.flash.bankErase = true ∧
        t.flash.banks[(Fin.ofNat 2 s.otherBank : Fin 2)] = data ∧ t.obj 0x2040 (2 + s.otherBank) = 1 ∧
        t.clients.answer = s.clients.answer) ∧
  (∀ (ch : Channel) (data : List Byte) (s : State), s.reaches ch = true → s.pieceRule ch = none →
    s.flash.download = some ch →
    Safety.completes (.firmwareDownload ch data false false) s fun t =>
      Safety.done t ch 0x1F50 1 ∧ t.flash.banks[(Fin.ofNat 2 s.otherBank : Fin 2)] =
        s.flash.banks[(Fin.ofNat 2 s.otherBank : Fin 2)] ++ data) ∧
  (∀ (ch : Channel) (s : State), Safety.admits s ch 0x1F51 1 [1] →
    Safety.completes (.programStart ch) s fun t => Safety.done t ch 0x1F51 1 ∧ t.flash = s.flash) ∧
  (∀ (ch : Channel) (s : State), Safety.canonical s = true → Safety.admits s ch 0x1F51 1 [3] →
    Safety.completes (.programClear ch) s fun t =>
      Safety.done t ch 0x1F51 1 ∧ t.flash.bankErase = true ∧ t.obj 0x2040 (2 + s.otherBank) = 1 ∧
        t.flash.banks[(Fin.ofNat 2 s.otherBank : Fin 2)] = []) ∧
  (∀ (ch : Channel) (tag : BitVec 16) (bankB : Bool) (s : State),
    Safety.actionAdmits s ch 0x2040 9 tag.toNat (if bankB then 2 else 1) → s.nat 0x2040 1 ≠ natOf bankB →
    s.life.resetKind = none →
    Safety.completes (.activateBank ch tag bankB) s fun t =>
      Safety.done t ch 0x2040 9 ∧ t.flash.activateNext = some (natOf bankB) ∧ t.life.resetKind = some 9) ∧
  (∀ (ch : Channel) (tag : BitVec 16) (bankB : Bool) (s : State),
    Safety.actionAdmits s ch 0x2040 9 tag.toNat (if bankB then 2 else 1) → s.nat 0x2040 1 = natOf bankB →
    Safety.completes (.activateBank ch tag bankB) s fun t =>
      Safety.done t ch 0x2040 9 ∧ t.flash = s.flash ∧ t.life = s.life) ∧
  (∀ (ch : Channel) (tag : BitVec 16) (s : State), Safety.canonical s = true →
    Safety.actionAdmits s ch 0x2040 0x0A tag.toNat 1 → s.onTrial = true → s.nat 0x2040 1 < 2 →
    Safety.completes (.confirmBank ch tag) s fun t =>
      Safety.done t ch 0x2040 0x0A ∧ t.obj 0x2040 (2 + s.nat 0x2040 1) = 4 ∧ t.obj 0x2040 0x0B = 0 ∧
        t.obj 0x2040 8 = max (s.obj 0x2040 8) (s.obj 0x2040 (6 + s.nat 0x2040 1))) ∧
  (∀ s : State, Safety.canonical s = true → s.fullService = true → s.onTrial = true → s.nat 0x2040 1 < 2 →
    Safety.completes .trialTimeout s fun t =>
      t.obj 0x2040 (2 + s.nat 0x2040 1) = 4 ∧ t.obj 0x2040 0x0B = 0 ∧
        t.obj 0x2040 8 = max (s.obj 0x2040 8) (s.obj 0x2040 (6 + s.nat 0x2040 1))) ∧
  (∀ s : State, s.fullService = false → Safety.ignored .trialTimeout s) ∧
  (∀ (ch : Channel) (area : Fin 3) (s : State), Safety.admits s ch 0x1010 (area.val + 1) (leBytes 4 0x65766173) →
    Safety.completes (.storeParameters ch area) s fun t =>
      t.flash.store = some ⟨some ch, area.val + 1, false, s.nextCopy (area.val + 1) false⟩ ∧
        t.clients.answer = s.clients.answer) ∧
  (∀ (ch : Channel) (area : Fin 3) (s : State), Safety.admits s ch 0x1011 (area.val + 1) (leBytes 4 0x64616F6C) →
    Safety.completes (.restoreDefaults ch area) s fun t =>
      t.flash.store = some ⟨some ch, area.val + 1, true, s.nextCopy (area.val + 1) true⟩ ∧
        t.clients.answer = s.clients.answer)

/-- O31. Writes of plain objects: their admission and their refusal (R8, R42–R44, R176, R184, R187, R188). -/
def Obligations.ObjectsAreWritten : Prop :=
  (∀ (ch : Channel) (ix : BitVec 16) (sub : BitVec 8) (data : List Byte) (row : ObjRow) (s : State),
    Safety.canonical s = true → Safety.admits s ch ix.toNat sub.toNat data → isAction ix.toNat sub.toNat = false →
    findRow ix.toNat sub.toNat = some row → 0x2000 ≤ ix.toNat → ix.toNat < 0x3000 → ix.toNat ≠ 0x2100 →
    ix.toNat ≠ 0x2210 → ix.toNat ≠ 0x2400 →
    Safety.completes (.objectWrite ch ix sub data) s fun t =>
      Safety.done t ch ix.toNat sub.toNat ∧ t.obj ix.toNat sub.toNat = row.ty.value data) ∧
  (∀ (ch : Channel) (ix : BitVec 16) (sub : BitVec 8) (data : List Byte) (row : ObjRow) (code : Nat) (s : State),
    s.reaches ch = true → findRow ix.toNat sub.toNat = some row → isAction ix.toNat sub.toNat = false →
    s.admission ch row ix.toNat sub.toNat data = some code →
    Safety.completes (.objectWrite ch ix sub data) s fun t =>
      t = s.record ch ix.toNat sub.toNat (some code)) ∧
  (∀ (ch : Channel) (ix : BitVec 16) (sub : BitVec 8) (data : List Byte) (s : State),
    s.reaches ch = true → findRow ix.toNat sub.toNat = none →
    Safety.completes (.objectWrite ch ix sub data) s fun t =>
      t = s.record ch ix.toNat sub.toNat (some (if hasIndex ix.toNat = true then 0x06090011 else 0x06020000))) ∧
  (∀ (ch : Channel) (ix : BitVec 16) (sub : BitVec 8) (data : List Byte) (s : State), s.reaches ch = false →
    Safety.ignored (.objectWrite ch ix sub data) s) ∧
  (∀ (ch : Channel) (s : State), Safety.canonical s = true → Safety.admits s ch 0x1003 0 [0] →
    Safety.completes (.errorHistoryClear ch) s fun t =>
      Safety.done t ch 0x1003 0 ∧ ∀ k : Fin 9, t.obj 0x1003 k.val = 0) ∧
  (∀ (ch : Channel) (n : Fin 64) (v : BitVec 64) (s : State), Safety.canonical s = true →
    Safety.admits s ch 0x2210 (1 + n.val) (leBytes 8 v.toNat) →
    Safety.completes (.graticuleEntryWrite ch n v) s fun t =>
      Safety.done t ch 0x2210 (1 + n.val) ∧ t.obj 0x2210 (1 + n.val) = v.toNat ∧
        t.meridian.arming[n].skip = 0 ∧ t.meridian.arming[n].place = t.firingBearing (t.entry n)) ∧
  (∀ (ch : Channel) (tag : BitVec 16) (relay : Fin 4) (closed : Bool) (s : State),
    Safety.actionAdmits s ch 0x2600 1 tag.toNat (relayArg relay closed 0) →
    Safety.completes (.relayCommandImmediate ch tag relay closed) s fun t =>
      Safety.done t ch 0x2600 1 ∧ t.meridian.relays[relay].due = some closed) ∧
  (∀ (ch : Channel) (tag : BitVec 16) (relay : Fin 4) (closed : Bool) (s : State),
    Safety.actionAdmits s ch 0x2600 1 tag.toNat (relayArg relay closed 1) →
    Safety.completes (.relayCommandAtBearing ch tag relay closed) s fun t =>
      Safety.done t ch 0x2600 1 ∧ t.meridian.relays[relay].waiting = some closed) ∧
  (∀ (ch : Channel) (n : Fin 6) (mode : Byte) (s : State), Safety.canonical s = true →
    Safety.admits s ch 0x2610 (1 + n.val) [mode] →
    Safety.completes (.gpioModeWrite ch n mode) s fun t =>
      Safety.done t ch 0x2610 (1 + n.val) ∧ t.obj 0x2610 (1 + n.val) = mode.toNat) ∧
  (∀ (ch : Channel) (levels : Byte) (s : State), Safety.canonical s = true → Safety.admits s ch 0x2610 7 [levels] →
    Safety.completes (.gpioLevelWrite ch levels) s fun t =>
      Safety.done t ch 0x2610 7 ∧ t.obj 0x2610 7 = levels.toNat)

/-- O32. A step takes the command at the front of the queue and executes it with the queue's rest (the block's queue is
the model's own; the order first in, first out, is that of its senders). -/
def Obligations.StepRunsTheCommandInFront : Prop :=
  ∀ (c : Instr) (rest : List Instr) (s : State), s.pending = c :: rest → step s = exec c (s.setPending rest)

/-- O33. On an empty queue a millisecond passes (DESIGN CHOICE, log 2): the clocks of the device count, and nothing
else changes. -/
def Obligations.AnEmptyQueueIdles : Prop :=
  (∀ s : State, s.pending = [] → ∃ t, step s = .next t ∧ t.pending = []) ∧
  (∀ s t : State, Safety.canonical s = true → s.pending = [] → step s = .next t →
    Safety.within ⟨[.life, .rtc, .clients, .energy], [0x5050], false⟩ s t ∧
      (s.clocked = true → t.life.up = s.life.up + 1) ∧ (s.clocked = false → t.life.up = s.life.up))

/-- O34. After a power-on reset the device is in STANDBY, no rail is on, no output is high, the safe-off path holds its
phases low, no permit is granted, the ring port is bypassed with its state WAITING, or OFF where it is disabled, and every
numeric object but those of the reset's own record and of the active bank is at its default (R99, R146, R401,
R482). -/
def Obligations.ResetLeavesEverythingAtItsDefault : Prop :=
  State.reset.pending = [] ∧ State.reset.obj 0x2100 1 = 2 ∧ State.reset.safety.path = true ∧
  State.reset.safety.permit = false ∧ State.reset.ring.bypassClosed = true ∧
  State.reset.obj 0x2400 2 = (if State.reset.obj 0x2400 1 = 0 then 0 else 1) ∧
  (∀ r : RailId, State.reset.isOn r = false ∧ State.reset.rails[r].stop = .none) ∧
  (∀ p : PhaseId, State.reset.phases[p].outH = false ∧ State.reset.phases[p].outL = false) ∧
  (∀ r : Fin 4, State.reset.meridian.relays[r].energised = false) ∧
  (∀ ix sub : Nat, sub < 256 → (ix, sub) ∉ [(0x2040, 2), (0x2138, 1), (0x2138, 2), (0x2138, 0x11)] →
    State.reset.obj ix sub = objDefault ix sub)

/-- O35. The state after reset is safe: its lists are canonical and no phase has both outputs on (R239). -/
def Obligations.ResetIsSafe : Prop := Safety.safe State.reset

/-- O36. A step from any safe state that answers a next state answers a safe one: the dictionary keeps its canonical
form, and no phase ever has both of its outputs on (R239, R240). -/
def Obligations.StepsStaySafe : Prop := ∀ s t : State, Safety.safe s → step s = .next t → Safety.safe t

/-- O37. Every command answers a next state from every state, and changes nothing outside its extent: no part of the
state, and no object of the dictionary, that the table `Safety.extent` does not name for it. -/
def Obligations.EveryCommandStaysInItsExtent : Prop :=
  (∀ (c : Instr) (s : State), ∃ t, exec c s = .next t) ∧
  (∀ (c : Instr) (s t : State), Safety.canonical s = true → exec c s = .next t →
    Safety.within (Safety.extent c) s t)

/-- O38. COBS: what is sent decodes to what was encoded, and the delimiter stands at the end of a frame only (R547). -/
def Obligations.CobsFramesDecode : Prop :=
  ∀ l : List Byte, cobsDecode (cobsEncode l) = some l ∧ ∃ body : List Byte, cobsEncode l = body ++ [0] ∧ 0 ∉ body

/-- O39. Every GSP frame the device lays out decodes, passes its CRC, and gives back each of its fields (R547). -/
def Obligations.GspFramesParse : Prop :=
  ∀ (seq ix : BitVec 16) (type sub : Byte) (payload : List Byte), payload.length ≤ 512 →
    ∃ bytes f, cobsDecode (gspFrame seq.toNat type.toNat ix.toNat sub.toNat payload) = some bytes ∧
      gspParse bytes = some f ∧ bytes.length = 11 + payload.length ∧ f.version = 1 ∧ f.seq = seq.toNat ∧
      f.type = type.toNat ∧ f.ix = ix.toNat ∧ f.sub = sub.toNat ∧ f.length = payload.length ∧ f.payload = payload

/-- O40. A frame that is no valid COBS, decodes to fewer than 11 or more than 523 bytes, or carries another CRC than its
own, is discarded without a reply and counted in 2510:07 (R549). -/
def Obligations.BadGspFramesAreDiscarded : Prop :=
  (∀ (body : List Byte) (crc : BitVec 16), crc.toNat ≠ crc16 body →
    gspParse (body ++ leBytes 2 crc.toNat) = none) ∧
  (∀ l : List Byte, l.length < 11 ∨ 523 < l.length → gspParse l = none) ∧
  (∀ (frame : List Byte) (c : Instr) (s : State), Safety.canonical s = true → frame ≠ [] → s.reaches .gsp = true →
    c ∈ Safety.gspRows frame → (cobsDecode (frame ++ [0])).bind gspParse = none →
    Safety.completes c s fun t => t.gsp = s.gsp ∧ t.can = s.can ∧ t.clients = s.clients ∧
      t.obj 0x2510 7 = countNext (objKey 0x2510 7) (s.obj 0x2510 7))

/-- O41. No row of the table gives its command bits: a word spells no command, and placing one changes nothing. -/
def Obligations.WordsSpellNoCommand : Prop :=
  ∀ (nbits w : Nat) (s : State), decodeTableWord nbits w = none ∧ s.withFetchWord nbits w = s

/-- O42. A read of 5810:08 (R530). -/
def Obligations.ReadAtTheCursor : Prop :=
  (∀ (ch : Channel) (r : Record) (s : State), s.serving = true → r ∈ s.readerRecords (s.client ch).cursor →
    r.seq = (s.client ch).cursor →
    Safety.completes (.logReadAtCursor ch) s fun t => t.clients.readData = r.bytes) ∧
  (∀ (ch : Channel) (s : State), s.serving = true →
    (∀ r ∈ s.readerRecords (s.client ch).cursor, r.seq ≠ (s.client ch).cursor) →
    Safety.completes (.logReadAtCursor ch) s fun t => t.clients.readData = [])

/-- O43. The CRC of GSP frames, and the length of a frame (R548). -/
def Obligations.GspCrcAndLength : Prop :=
  crc16 [] = 0xFFFF ∧
  (∀ (l : List Byte) (b : Byte), crc16 (l ++ [b]) =
    ((List.range 8).foldl (fun (c : BitVec 16) _ => if c.msb then (c <<< 1) ^^^ 0x1021#16 else c <<< 1)
      (BitVec.ofNat 16 (crc16 l) ^^^ (BitVec.setWidth 16 b <<< 8))).toNat) ∧
  crc16 [0x31, 0x32, 0x33, 0x34, 0x35, 0x36, 0x37, 0x38, 0x39] = 0x29B1 ∧
  (∀ l : List Byte, l.length ≤ 523 → (cobsEncode l).length ≤ 526 + 1)

/-- O44. A write to 2300:02 clears events (R469). -/
def Obligations.EventsAreCleared : Prop :=
  (∀ (ch : Channel) (tag arg : BitVec 16) (s : State), Safety.canonical s = true →
    Safety.clearReaches s ch tag.toNat arg.toNat → arg.toNat < 0x280 → s.standing arg.toNat = false →
    Safety.completes (.objectWrite ch 0x2300 2 (actionBytes tag.toNat arg.toNat)) s fun t =>
      Safety.done t ch 0x2300 2 ∧ Safety.uncleared t arg.toNat = false ∧
      (Safety.uncleared s arg.toNat = false → t.fabric = s.fabric) ∧
      (∀ u : Uncleared, u.ev ≠ arg.toNat → (u ∈ t.fabric.uncleared ↔ u ∈ s.fabric.uncleared)) ∧
      Safety.sameResponses s t) ∧
  (∀ (ch : Channel) (tag arg : BitVec 16) (s : State), Safety.canonical s = true →
    Safety.clearReaches s ch tag.toNat arg.toNat → arg.toNat < 0x280 → s.standing arg.toNat = true →
    Safety.completes (.objectWrite ch 0x2300 2 (actionBytes tag.toNat arg.toNat)) s fun t =>
      t.clients.answer = some ⟨ch, 0x2300, 2, some 0x08000022⟩ ∧ t.fabric = s.fabric ∧ Safety.sameResponses s t) ∧
  (∀ (ch : Channel) (tag : BitVec 16) (s : State), Safety.canonical s = true →
    Safety.clearReaches s ch tag.toNat 0x0FFF →
    Safety.completes (.objectWrite ch 0x2300 2 (actionBytes tag.toNat 0x0FFF)) s fun t =>
      Safety.done t ch 0x2300 2 ∧
      (∀ u : Uncleared, u ∈ t.fabric.uncleared ↔ u ∈ s.fabric.uncleared ∧ u.standing = true) ∧
      Safety.sameResponses s t) ∧
  (∀ (ch : Channel) (tag arg : BitVec 16) (s : State), Safety.canonical s = true →
    Safety.clearReaches s ch tag.toNat arg.toNat → 0x280 ≤ arg.toNat → arg.toNat ≠ 0x0FFF →
    Safety.completes (.objectWrite ch 0x2300 2 (actionBytes tag.toNat arg.toNat)) s fun t =>
      t.clients.answer = some ⟨ch, 0x2300, 2, some 0x06090030⟩ ∧ t.fabric = s.fabric ∧ Safety.sameResponses s t)

/-- O45. The Hall map (R342). -/
def Obligations.HallMapsAreOneToOne : Prop :=
  (∀ (s : State) (h : Fin 8) (n : Nat), n = bits (s.nat 0x2620 1) (3 * h.val + 2) (3 * h.val) →
    (n < 6 → s.sectorOf h.val = some n) ∧ (6 ≤ n → s.sectorOf h.val = none)) ∧
  objDefault 0x2620 1 = 0x00EEC287 ∧
  (∀ s : State, s.obj 0x2620 1 = 0x00EEC287 →
    [1, 3, 2, 6, 4, 5].map s.sectorOf = [some 0, some 1, some 2, some 3, some 4, some 5] ∧
      s.sectorOf 0 = none ∧ s.sectorOf 7 = none) ∧
  (∀ (ch : Channel) (data : List Byte) (row : ObjRow) (sub : Fin 2) (s : State), s.reaches ch = true →
    findRow 0x2620 (1 + 2 * sub.val) = some row → s.admission ch row 0x2620 (1 + 2 * sub.val) data = none →
    s.onOrStopping railD = true →
    Safety.completes (.objectWrite ch 0x2620 (BitVec.ofNat 8 (1 + 2 * sub.val)) data) s fun t =>
      t = s.record ch 0x2620 (1 + 2 * sub.val) (some 0x08000022)) ∧
  (∀ (ch : Channel) (data : List Byte) (row : ObjRow) (n : Fin 6) (s : State), s.reaches ch = true →
    findRow 0x2620 1 = some row → s.admission ch row 0x2620 1 data = none → s.onOrStopping railD = false →
    ((∀ h : Fin 8, bits (leNat data) (3 * h.val + 2) (3 * h.val) ≠ n.val) ∨
      ∃ h k : Fin 8, h ≠ k ∧ bits (leNat data) (3 * h.val + 2) (3 * h.val) = n.val ∧
        bits (leNat data) (3 * k.val + 2) (3 * k.val) = n.val) →
    Safety.completes (.objectWrite ch 0x2620 1 data) s fun t =>
      t = s.record ch 0x2620 1 (some 0x06090030))

/-- O46. The CRC of ring frames: its division, what it covers, and how a follower forwards it (R369). -/
def Obligations.RingCrcIsForwarded : Prop :=
  ringCrc [] = 0 ∧
  (∀ (l : List Bool) (b : Bool), ringCrc (l ++ [b]) =
    if (ringCrc l).msb ≠ b then (ringCrc l <<< 1) ^^^ 0x07#8 else ringCrc l <<< 1) ∧
  (∀ f : RingFrame, frameCrc f = ringCrc (frameBits f) ∧ (frameBits f).length = 104 ∧
    ∀ n : Fin 104, (frameBits f)[n.val]? = some ((f.token ++ f.command ++ f.shareB ++ f.shareA ++ f.fault ++ f.epoch ++
      f.bearing ++ f.seq ++ f.kind).getLsbD n.val)) ∧
  (∀ (s : State) (f : RingFrame), (s.forwardFrame f).crc = frameCrc (s.forwardFrame f) ^^^ frameCrc f ^^^ f.crc) ∧
  (∀ (s : State) (f : RingFrame), f.crc ≠ frameCrc f → (s.forwardFrame f).crc ≠ frameCrc (s.forwardFrame f))

/-- O47. A read of 5810:06, and the cursors of the channels (R529). -/
def Obligations.ReadFromTheCursor : Prop :=
  (∀ (ch : Channel) (s : State), s.serving = true →
    Safety.completes (.logReadFromCursor ch) s fun t =>
      ∃ rs : List Record, t.clients.readData = rs.flatMap Record.bytes ∧ rs.length ≤ 16 ∧
        t.clients.readData.length ≤ 512 ∧ rs.Pairwise (fun a b => a.seq < b.seq) ∧
        (∀ r ∈ rs, r ∈ s.readerRecords (s.client ch).cursor ∧ (s.client ch).cursor ≤ r.seq) ∧
        (∀ r ∈ s.readerRecords (s.client ch).cursor, (s.client ch).cursor ≤ r.seq →
          r ∈ rs ∨ (rs.length = 16 ∧ ∀ q ∈ rs, q.seq < r.seq)) ∧
        (t.client ch).cursor = (s.client ch).cursor) ∧
  (∀ (ch other : Channel) (v : BitVec 32) (s : State), other ≠ ch →
    Safety.completes (.logCursorWrite ch v) s fun t => (t.client other).cursor = (s.client other).cursor) ∧
  ({} : Client).cursor = 1 ∧ (∀ s : State, (s.freshGsp.client .gsp).cursor = 1)

/-- O48. The slot of a totals copy (R441). -/
def Obligations.TotalsCopiesAlternate : Prop :=
  (∀ n : Nat, copySlot n < 16 ∧ 512 * copySlot n = 4096 * (n % 2) + 512 * (n / 2 % 8)) ∧
  (∀ n : Nat, copySlot (n + 1) / 8 ≠ copySlot n / 8) ∧
  (∀ (s : State) (trigger : Nat), ∃ op, (s.beginCopy trigger).energy.save = some op ∧
    op.slot = copySlot s.energy.nextCopy ∧ op.copy.seq = s.energy.nextCopy ∧
    (s.beginCopy trigger).energy.nextCopy = s.energy.nextCopy + 1)

/-- O49. The layout of a record, and its flags (R511, R512). -/
def Obligations.RecordsHaveTheirLayout : Prop :=
  (∀ r : Record, r.bytes.length = 32) ∧
  (∀ r : Record, r.seq < 2 ^ 32 → r.time < 2 ^ 48 → r.ev < 0x280 → r.respSev < 256 → r.flags < 256 → r.reps < 256 →
    r.aux < 256 → r.data < 2 ^ 64 →
    leNat (slice r.bytes 0 4) = r.seq ∧ leNat (slice r.bytes 4 6) = r.time ∧ leNat (slice r.bytes 10 2) = r.ev ∧
    leNat (slice r.bytes 12 1) = r.respSev ∧ leNat (slice r.bytes 13 1) = r.flags ∧
    leNat (slice r.bytes 14 1) = r.reps ∧ leNat (slice r.bytes 15 1) = r.aux ∧ leNat (slice r.bytes 16 8) = r.data ∧
    leNat (slice r.bytes 24 4) = crc32 (slice r.bytes 0 24) ∧
    BitVec.ofNat 32 (leNat (slice r.bytes 28 4)) = ~~~ BitVec.ofNat 32 r.seq) ∧
  (∀ (valid secondary overflow direct end_ restored : Bool) (n : Nat),
    (recordFlags valid secondary overflow direct end_ restored).testBit n =
      ([valid, secondary, overflow, direct, end_, restored].getD n false))

/-- O50. A ramp step of V_r goes towards the applied target by no more than its rate, and never past it (R288). -/
def Obligations.RampsNeverOvershoot : Prop :=
  ∀ vr goal up down : Int, 0 ≤ up → 0 ≤ down →
    (vr ≤ goal → vr ≤ rampStep vr goal up down ∧ rampStep vr goal up down ≤ goal ∧
      rampStep vr goal up down ≤ vr + up ∧ (vr + up ≤ goal → rampStep vr goal up down = vr + up)) ∧
    (goal ≤ vr → goal ≤ rampStep vr goal up down ∧ rampStep vr goal up down ≤ vr ∧
      vr - down ≤ rampStep vr goal up down ∧ (goal ≤ vr - down → rampStep vr goal up down = vr - down))

/-- O51. An adaptation moves a dead time by one step at most, and keeps it within its limits (R243). -/
def Obligations.DeadTimesAdaptByOneStep : Prop :=
  (∀ dt t m : Int, (0 ≤ t → t < dt → t + m < dt → adaptStep dt (some t) m = dt - 1) ∧
    (0 ≤ t → t < dt → dt < t + m → adaptStep dt (some t) m = dt + 1) ∧
    (0 ≤ t → t < dt → t + m = dt → adaptStep dt (some t) m = dt) ∧
    (0 ≤ t → dt ≤ t → adaptStep dt (some t) m = dt - 1) ∧ (t < 0 → adaptStep dt (some t) m = dt) ∧
    adaptStep dt none m = dt) ∧
  (∀ (p : PhaseId) (falling : Bool) (s : State), s.adaptDue p falling = true →
    0 ≤ s.fast (phaseIx p 6) 3 → s.fast (phaseIx p 6) 3 ≤ s.fast (phaseIx p 6) 4 →
    Safety.completes (.deadTimeAdapt p falling) s fun t =>
      s.fast (phaseIx p 6) 3 ≤ (if falling then t.phases[p].nextF else t.phases[p].nextR : Nat) ∧
        (if falling then t.phases[p].nextF else t.phases[p].nextR : Nat) ≤ s.fast (phaseIx p 6) 4)

/-- O52. The results of an engine stage share the smallest exponent from −32 at which their mantissas fit in 24 bits,
each rounded to nearest; a stage that would need more than +31 saturates there (R320). -/
def Obligations.StagesShareTheSmallestExponent : Prop :=
  (∀ xs : List Rat, (blockFloat xs).2 = false → ∃ e : Int, -32 ≤ e ∧ e ≤ 31 ∧
    (blockFloat xs).1 = xs.map (fun x => (roundRat (x / pow2 e) : Rat) * pow2 e) ∧
    (∀ x ∈ xs, (roundRat (x / pow2 e)).natAbs < 2 ^ 23) ∧
    (∀ d : Int, -32 ≤ d → d < e → ∃ x ∈ xs, 2 ^ 23 ≤ (roundRat (x / pow2 d)).natAbs)) ∧
  (∀ xs : List Rat, (blockFloat xs).2 = true →
    (∃ x ∈ xs, 2 ^ 23 ≤ (roundRat (x / pow2 31)).natAbs) ∧
    (blockFloat xs).1.length = xs.length ∧
    ∀ y ∈ (blockFloat xs).1, ∃ m : Int, m.natAbs < 2 ^ 23 ∧ y = m * pow2 31) ∧
  (∀ n d : Int, 0 < d → (2 * (n - d * roundDiv n d)).natAbs ≤ d.natAbs ∧
    ((2 * (n - d * roundDiv n d)).natAbs = d.natAbs → n.natAbs < (d * roundDiv n d).natAbs))

/-- O53. The lowest output among a rail's computed slots wins, the lower slot on equal values; the winner is named in
3r20:02 and marked in its status (R327). -/
def Obligations.LowestOutputWins : Prop :=
  (∀ (r : RailId) (k : SlotId) (s : State), Safety.canonical s = true → k ∈ s.computedSlots r →
    (s.select r).2 ≤ s.obj (slotIx k) 0x10) ∧
  (∀ (r : RailId) (s : State), Safety.canonical s = true → s.computedSlots r ≠ [] →
    ∃ k ∈ s.computedSlots r, (s.select r).2 = s.obj (slotIx k) 0x10 ∧ (s.select r).1.railObj r 0x20 2 = k.val ∧
      (s.select r).1.bit (slotIx k) 0x0F 1 = true ∧
      ∀ j ∈ s.computedSlots r, s.obj (slotIx j) 0x10 = s.obj (slotIx k) 0x10 → k ≤ j) ∧
  (∀ (r : RailId) (s : State), Safety.canonical s = true → s.computedSlots r = [] →
    (s.select r).1.railObj r 0x20 2 = 0xFF)

/-- O54. A raising never lowers an active response, and raises those of its targets, and of the device, to its own
response at the least (R465). -/
def Obligations.ActiveResponsesOnlyRise : Prop :=
  ∀ (event : Fin 640) (data : BitVec 64) (s : State), Safety.canonical s = true →
    Safety.completes (.eventRaise event data) s fun t =>
      (∀ r : RailId, s.railResponse r ≤ t.railResponse r) ∧ s.deviceResponse ≤ t.deviceResponse ∧
      (∀ i : EventInfo, eventInfo event.val = some i → i.kind ≠ .trigger → s.standing event.val = false →
        s.serving = true → s.responseOf event.val ≤ t.deviceResponse ∧
          ∀ r ∈ s.raisedRails event.val (s.responseOf event.val), s.responseOf event.val ≤ t.railResponse r)

/-- O55. A raising that acts on no rail enters the pending FIFO; with the FIFO full its source is marked in the
overflow map and counted; with the response NONE it takes no entry and is counted under its severity (R461, R463). -/
def Obligations.RaisingsEnterTheFifo : Prop :=
  ∀ (event : Fin 640) (data : BitVec 64) (i : EventInfo) (s : State), Safety.canonical s = true → s.serving = true →
    eventInfo event.val = some i → i.kind ≠ .trigger → s.standing event.val = false →
    s.responseOf event.val < 4 →
    Safety.completes (.eventRaise event data) s fun t =>
      (s.responseOf event.val ≠ 0 → s.fabric.fifo.length < 64 →
        ∃ o : Occurrence, t.fabric.fifo = s.fabric.fifo ++ [o] ∧ o.ev = event.val ∧
          o.resp = s.responseOf event.val ∧ o.data = data.toNat ∧ o.overflow = false ∧
          t.fabric.overflow = s.fabric.overflow) ∧
      (s.responseOf event.val ≠ 0 → 64 ≤ s.fabric.fifo.length →
        t.fabric.fifo = s.fabric.fifo ∧ event.val ∈ t.fabric.overflow ∧
          t.obj 0x2320 5 = countNext (objKey 0x2320 5) (s.obj 0x2320 5)) ∧
      (s.responseOf event.val = 0 → t.fabric = s.fabric ∧
        t.obj 0x2320 (6 + i.sev) = countNext (objKey 0x2320 (6 + i.sev)) (s.obj 0x2320 (6 + i.sev)))

/-- O56. An action object handles a tag once: a remembered tag is answered as it was and changes nothing else; a new one
is remembered with its answer, refused or done, and the object shows it (R82, R84). -/
def Obligations.TagsAreHandledOnce : Prop :=
  (∀ (ch : Channel) (ix : BitVec 16) (sub : BitVec 8) (tag arg : BitVec 16) (row : ObjRow) (c : Nat × Option Nat)
      (s : State), s.reaches ch = true → findRow ix.toNat sub.toNat = some row → isAction ix.toNat sub.toNat = true →
    tag ≠ 0 → (s.client ch).tags.find? (fun d => d.1 == tag.toNat) = some c →
    Safety.completes (.objectWrite ch ix sub (actionBytes tag.toNat arg.toNat)) s fun t =>
      t = s.record ch ix.toNat sub.toNat c.2) ∧
  (∀ (ch : Channel) (ix : BitVec 16) (sub : BitVec 8) (tag arg : BitVec 16) (row : ObjRow) (code : Nat) (s : State),
    Safety.canonical s = true → ch ≠ .rpdo → s.reaches ch = true → findRow ix.toNat sub.toNat = some row →
    isAction ix.toNat sub.toNat = true → tag ≠ 0 → (∀ c ∈ (s.client ch).tags, c.1 ≠ tag.toNat) →
    (s.admission ch row ix.toNat sub.toNat (actionBytes tag.toNat arg.toNat)).or
      (s.actionRule ch ix.toNat sub.toNat arg.toNat) = some code →
    Safety.completes (.objectWrite ch ix sub (actionBytes tag.toNat arg.toNat)) s fun t =>
      t.clients.answer = some ⟨ch, ix.toNat, sub.toNat, some code⟩ ∧
      (t.client ch).tags = ((tag.toNat, some code) :: (s.client ch).tags).take 16 ∧
      t.obj ix.toNat sub.toNat = tag.toNat + 0x20000 ∧
      ∀ ix' sub' : Nat, sub' < 256 → (ix', sub') ≠ (ix.toNat, sub.toNat) → t.obj ix' sub' = s.obj ix' sub') ∧
  (∀ (ch : Channel) (ix : BitVec 16) (sub : BitVec 8) (tag arg : BitVec 16) (s : State),
    Safety.canonical s = true → ch ≠ .rpdo → isAction ix.toNat sub.toNat = true → tag ≠ 0 →
    Safety.actionAdmits s ch ix.toNat sub.toNat tag.toNat arg.toNat → (ix.toNat, sub.toNat) ≠ (0x5000, 0x1B) →
    (ix.toNat, sub.toNat) ≠ (0x2020, 5) →
    Safety.completes (.objectWrite ch ix sub (actionBytes tag.toNat arg.toNat)) s fun t =>
      Safety.done t ch ix.toNat sub.toNat ∧ (t.client ch).tags.head? = some (tag.toNat, none) ∧
      (t.client ch).tags.length ≤ 16 ∧ t.obj ix.toNat sub.toNat = tag.toNat)

/-- O57. A write is answered with success or with one of the listed abort codes, whatever the object, the data and the
state, as long as the answers remembered with tags are (R43). -/
def Obligations.RefusalsUseTheListedCodes : Prop :=
  ∀ (ch : Channel) (ix : BitVec 16) (sub : BitVec 8) (data : List Byte) (s : State),
    (∀ c ∈ (s.client ch).tags, ∀ code : Nat, c.2 = some code → code ∈ Safety.abortCodes) →
    Safety.completes (.objectWrite ch ix sub data) s fun t =>
      t.clients.answer = s.clients.answer ∨
        ∃ a, t.clients.answer = some a ∧ ∀ code : Nat, a.abort = some code → code ∈ Safety.abortCodes

/-- O58. Before full service a write is refused with 0x08000022, but for those of the session objects, the wet-hold
override, the power-cycle request and the log cursor (R128), and of the Cartouche identity, which no lifecycle state lets
be written (R36). -/
def Obligations.SurveyRefusesWrites : Prop :=
  (∀ (ch : Channel) (ix : BitVec 16) (sub : BitVec 8) (data : List Byte) (row : ObjRow) (s : State),
    s.reaches ch = true → s.fullService = false → findRow ix.toNat sub.toNat = some row →
    isAction ix.toNat sub.toNat = false → ix ≠ 0x2000 → ix ≠ 0x2020 → (ix.toNat, sub.toNat) ≠ (0x5810, 1) →
    Safety.completes (.objectWrite ch ix sub data) s fun t =>
      t = s.record ch ix.toNat sub.toNat (some 0x08000022)) ∧
  (∀ (ch : Channel) (ix : BitVec 16) (sub : BitVec 8) (tag arg : BitVec 16) (row : ObjRow) (s : State),
    s.reaches ch = true → s.fullService = false → findRow ix.toNat sub.toNat = some row →
    isAction ix.toNat sub.toNat = true → tag ≠ 0 →
    (∀ c ∈ (s.client ch).tags, c.1 ≠ tag.toNat) → ix ≠ 0x2020 → (ix.toNat, sub.toNat) ≠ (0x2128, 5) →
    (ix.toNat, sub.toNat) ≠ (0x2110, 2) →
    Safety.completes (.objectWrite ch ix sub (actionBytes tag.toNat arg.toNat)) s fun t =>
      t.clients.answer = some ⟨ch, ix.toNat, sub.toNat, some 0x08000022⟩ ∧ t.fabric = s.fabric ∧ t.rails = s.rails ∧
        t.life = s.life)

/-- O59. A write of a plain object changes that object, its channel and the fast path's copy of it, and nothing else, done
or refused (R42, R43); one of the Hall map also the sector and ELEC, and no object of another group than 2200 and 2620
(R155, R342). -/
def Obligations.PlainWritesChangeOneObject : Prop :=
  (∀ (ch : Channel) (ix : BitVec 16) (sub : BitVec 8) (data : List Byte) (row : ObjRow) (s : State),
    Safety.canonical s = true → findRow ix.toNat sub.toNat = some row → row.ty.numeric = true →
    isAction ix.toNat sub.toNat = false → 0x2000 ≤ ix.toNat → ix.toNat < 0x3000 → ix.toNat ≠ 0x2100 →
    ix.toNat ≠ 0x2210 → ix.toNat ≠ 0x2400 → (ix.toNat, sub.toNat) ≠ (0x2620, 1) →
    Safety.completes (.objectWrite ch ix sub data) s fun t =>
      Safety.within ⟨[.clients, .stale], [], true⟩ s t ∧
        ∀ ix' sub' : Nat, sub' < 256 → (ix', sub') ≠ (ix.toNat, sub.toNat) → t.obj ix' sub' = s.obj ix' sub') ∧
  (∀ (ch : Channel) (data : List Byte) (s : State), Safety.canonical s = true →
    Safety.completes (.objectWrite ch 0x2620 1 data) s fun t =>
      Safety.within ⟨[.clients, .stale, .drive, .meridian], [0x2200, 0x2620], false⟩ s t ∧
        ∀ sub' : Nat, sub' < 256 → sub' ≠ 1 → t.obj 0x2620 sub' = s.obj 0x2620 sub')

/-- O60. The checks of bring-up, its failure and full service (R130–R132, R425). -/
def Obligations.BringUpChecksComplete : Prop :=
  (∀ s : State, Safety.canonical s = true → s.serving = true → s.bit 0x2120 2 3 = false →
    s.storedParams.isSome = true → s.storedCal.isSome = true →
    Safety.completes (.selfTestComplete true) s fun t =>
      t.bit 0x2120 2 1 = true ∧ t.bit 0x2120 2 2 = true ∧ t.bit 0x2120 2 3 = true ∧ t.stage = s.stage) ∧
  (∀ (analogOk : Bool) (s : State), Safety.canonical s = true → s.serving = true → s.bit 0x2120 2 3 = false →
    (s.storedParams = none ∨ s.storedCal = none ∨ analogOk = false) → s.stage ≠ 2 → s.stage ≠ 3 →
    Safety.completes (.selfTestComplete analogOk) s fun t =>
      t.obj 0x2120 1 = 3 ∧ t.life.failedBoot = true ∧ (s.storedParams.isSome = true → t.bit 0x2120 2 1 = true) ∧
        (s.storedCal.isSome = true → t.bit 0x2120 2 2 = true) ∧ (analogOk = true → t.bit 0x2120 2 3 = true) ∧
        (s.outlineSet.isSome = true → t.outline.active = true) ∧
        (s.responseOf dvBringupFail ≠ 0 → Safety.uncleared t dvBringupFail = true)) ∧
  (∀ s : State, Safety.canonical s = true → s.serving = true → s.life.settling = true →
    ((∃ seen, s.life.settleSeen = some seen ∧ seen ≤ s.life.settleFrom + 25 ∧ 8 ≤ s.life.settleCount) ∨
      ((∀ seen, s.life.settleSeen = some seen → s.life.settleFrom + 25 < seen) ∧
        s.life.settleFrom + 160 ≤ s.life.up)) →
    Safety.completes .metrologySettled s fun t =>
      t.life.settling = false ∧ t.metrology.settled = true ∧ t.bit 0x2120 2 4 = true ∧
        (s.clocks.crystal = true → t.metrology.reduced = false ∧ t.bit 0x2120 2 7 = false)) ∧
  (∀ s : State, Safety.canonical s = true → s.serving = true → s.stage = 0 → s.nat 0x2120 2 % 64 = 63 →
    Safety.completes .fullService s fun t =>
      t.obj 0x2120 1 = 2 ∧ t.obj 0x2120 4 = s.life.up ∧ t.fullService = true ∧ t.can.startHeld = false ∧
        t.can.nmt = (if s.can.startHeld = true then .operational else s.can.nmt) ∧
        (s.outline.active = false → t.outline.startedDrive = false ∧ t.outline.startedStore = false) ∧
        t.can.fd = (s.obj 0x2008 1 == 1) ∧ ∀ n : Fin 64, t.meridian.arming[n].skip = 0)
end

