-- ==== Sys2Proof/Laws/State.lean ====
section
/-! SUPPORT. What replacing one field of the state does to every field, so that no proof unfolds a record update. -/

namespace Sys2Proof.Machine

@[simp] theorem State.setOd_fields (s : State) (v : List (Nat × Int)) :
    (s.setOd v).od = v ∧ (s.setOd v).dom = s.dom ∧ (s.setOd v).stale = s.stale ∧ (s.setOd v).fabric = s.fabric ∧
      (s.setOd v).recorder = s.recorder ∧ (s.setOd v).clients = s.clients ∧ (s.setOd v).avs = s.avs ∧
      (s.setOd v).can = s.can ∧ (s.setOd v).gsp = s.gsp ∧ (s.setOd v).life = s.life ∧ (s.setOd v).supply = s.supply ∧
      (s.setOd v).clocks = s.clocks ∧ (s.setOd v).rtc = s.rtc ∧ (s.setOd v).safety = s.safety ∧
      (s.setOd v).outline = s.outline ∧ (s.setOd v).flash = s.flash ∧ (s.setOd v).meridian = s.meridian ∧
      (s.setOd v).phases = s.phases ∧ (s.setOd v).adcs = s.adcs ∧ (s.setOd v).vsense = s.vsense ∧
      (s.setOd v).aux = s.aux ∧ (s.setOd v).auxSequence = s.auxSequence ∧ (s.setOd v).rails = s.rails ∧
      (s.setOd v).slots = s.slots ∧ (s.setOd v).engine = s.engine ∧ (s.setOd v).drive = s.drive ∧
      (s.setOd v).ring = s.ring ∧ (s.setOd v).metrology = s.metrology ∧ (s.setOd v).energy = s.energy ∧
      (s.setOd v).freeCount = s.freeCount ∧ (s.setOd v).pending = s.pending :=
  ⟨rfl, rfl, rfl, rfl, rfl, rfl, rfl, rfl, rfl, rfl, rfl, rfl, rfl, rfl, rfl, rfl, rfl, rfl, rfl, rfl, rfl, rfl, rfl, rfl, rfl, rfl, rfl, rfl, rfl, rfl, rfl⟩

@[simp] theorem State.setDom_fields (s : State) (v : List (Nat × List Byte)) :
    (s.setDom v).od = s.od ∧ (s.setDom v).dom = v ∧ (s.setDom v).stale = s.stale ∧ (s.setDom v).fabric = s.fabric ∧
      (s.setDom v).recorder = s.recorder ∧ (s.setDom v).clients = s.clients ∧ (s.setDom v).avs = s.avs ∧
      (s.setDom v).can = s.can ∧ (s.setDom v).gsp = s.gsp ∧ (s.setDom v).life = s.life ∧
      (s.setDom v).supply = s.supply ∧ (s.setDom v).clocks = s.clocks ∧ (s.setDom v).rtc = s.rtc ∧
      (s.setDom v).safety = s.safety ∧ (s.setDom v).outline = s.outline ∧ (s.setDom v).flash = s.flash ∧
      (s.setDom v).meridian = s.meridian ∧ (s.setDom v).phases = s.phases ∧ (s.setDom v).adcs = s.adcs ∧
      (s.setDom v).vsense = s.vsense ∧ (s.setDom v).aux = s.aux ∧ (s.setDom v).auxSequence = s.auxSequence ∧
      (s.setDom v).rails = s.rails ∧ (s.setDom v).slots = s.slots ∧ (s.setDom v).engine = s.engine ∧
      (s.setDom v).drive = s.drive ∧ (s.setDom v).ring = s.ring ∧ (s.setDom v).metrology = s.metrology ∧
      (s.setDom v).energy = s.energy ∧ (s.setDom v).freeCount = s.freeCount ∧ (s.setDom v).pending = s.pending :=
  ⟨rfl, rfl, rfl, rfl, rfl, rfl, rfl, rfl, rfl, rfl, rfl, rfl, rfl, rfl, rfl, rfl, rfl, rfl, rfl, rfl, rfl, rfl, rfl, rfl, rfl, rfl, rfl, rfl, rfl, rfl, rfl⟩

@[simp] theorem State.setStale_fields (s : State) (v : List (Nat × Int)) :
    (s.setStale v).od = s.od ∧ (s.setStale v).dom = s.dom ∧ (s.setStale v).stale = v ∧
      (s.setStale v).fabric = s.fabric ∧ (s.setStale v).recorder = s.recorder ∧ (s.setStale v).clients = s.clients ∧
      (s.setStale v).avs = s.avs ∧ (s.setStale v).can = s.can ∧ (s.setStale v).gsp = s.gsp ∧
      (s.setStale v).life = s.life ∧ (s.setStale v).supply = s.supply ∧ (s.setStale v).clocks = s.clocks ∧
      (s.setStale v).rtc = s.rtc ∧ (s.setStale v).safety = s.safety ∧ (s.setStale v).outline = s.outline ∧
      (s.setStale v).flash = s.flash ∧ (s.setStale v).meridian = s.meridian ∧ (s.setStale v).phases = s.phases ∧
      (s.setStale v).adcs = s.adcs ∧ (s.setStale v).vsense = s.vsense ∧ (s.setStale v).aux = s.aux ∧
      (s.setStale v).auxSequence = s.auxSequence ∧ (s.setStale v).rails = s.rails ∧ (s.setStale v).slots = s.slots ∧
      (s.setStale v).engine = s.engine ∧ (s.setStale v).drive = s.drive ∧ (s.setStale v).ring = s.ring ∧
      (s.setStale v).metrology = s.metrology ∧ (s.setStale v).energy = s.energy ∧
      (s.setStale v).freeCount = s.freeCount ∧ (s.setStale v).pending = s.pending :=
  ⟨rfl, rfl, rfl, rfl, rfl, rfl, rfl, rfl, rfl, rfl, rfl, rfl, rfl, rfl, rfl, rfl, rfl, rfl, rfl, rfl, rfl, rfl, rfl, rfl, rfl, rfl, rfl, rfl, rfl, rfl, rfl⟩

@[simp] theorem State.setFabric_fields (s : State) (v : Fabric) :
    (s.setFabric v).od = s.od ∧ (s.setFabric v).dom = s.dom ∧ (s.setFabric v).stale = s.stale ∧
      (s.setFabric v).fabric = v ∧ (s.setFabric v).recorder = s.recorder ∧ (s.setFabric v).clients = s.clients ∧
      (s.setFabric v).avs = s.avs ∧ (s.setFabric v).can = s.can ∧ (s.setFabric v).gsp = s.gsp ∧
      (s.setFabric v).life = s.life ∧ (s.setFabric v).supply = s.supply ∧ (s.setFabric v).clocks = s.clocks ∧
      (s.setFabric v).rtc = s.rtc ∧ (s.setFabric v).safety = s.safety ∧ (s.setFabric v).outline = s.outline ∧
      (s.setFabric v).flash = s.flash ∧ (s.setFabric v).meridian = s.meridian ∧ (s.setFabric v).phases = s.phases ∧
      (s.setFabric v).adcs = s.adcs ∧ (s.setFabric v).vsense = s.vsense ∧ (s.setFabric v).aux = s.aux ∧
      (s.setFabric v).auxSequence = s.auxSequence ∧ (s.setFabric v).rails = s.rails ∧
      (s.setFabric v).slots = s.slots ∧ (s.setFabric v).engine = s.engine ∧ (s.setFabric v).drive = s.drive ∧
      (s.setFabric v).ring = s.ring ∧ (s.setFabric v).metrology = s.metrology ∧ (s.setFabric v).energy = s.energy ∧
      (s.setFabric v).freeCount = s.freeCount ∧ (s.setFabric v).pending = s.pending :=
  ⟨rfl, rfl, rfl, rfl, rfl, rfl, rfl, rfl, rfl, rfl, rfl, rfl, rfl, rfl, rfl, rfl, rfl, rfl, rfl, rfl, rfl, rfl, rfl, rfl, rfl, rfl, rfl, rfl, rfl, rfl, rfl⟩

@[simp] theorem State.setRecorder_fields (s : State) (v : Recorder) :
    (s.setRecorder v).od = s.od ∧ (s.setRecorder v).dom = s.dom ∧ (s.setRecorder v).stale = s.stale ∧
      (s.setRecorder v).fabric = s.fabric ∧ (s.setRecorder v).recorder = v ∧ (s.setRecorder v).clients = s.clients ∧
      (s.setRecorder v).avs = s.avs ∧ (s.setRecorder v).can = s.can ∧ (s.setRecorder v).gsp = s.gsp ∧
      (s.setRecorder v).life = s.life ∧ (s.setRecorder v).supply = s.supply ∧ (s.setRecorder v).clocks = s.clocks ∧
      (s.setRecorder v).rtc = s.rtc ∧ (s.setRecorder v).safety = s.safety ∧ (s.setRecorder v).outline = s.outline ∧
      (s.setRecorder v).flash = s.flash ∧ (s.setRecorder v).meridian = s.meridian ∧
      (s.setRecorder v).phases = s.phases ∧ (s.setRecorder v).adcs = s.adcs ∧ (s.setRecorder v).vsense = s.vsense ∧
      (s.setRecorder v).aux = s.aux ∧ (s.setRecorder v).auxSequence = s.auxSequence ∧
      (s.setRecorder v).rails = s.rails ∧ (s.setRecorder v).slots = s.slots ∧ (s.setRecorder v).engine = s.engine ∧
      (s.setRecorder v).drive = s.drive ∧ (s.setRecorder v).ring = s.ring ∧
      (s.setRecorder v).metrology = s.metrology ∧ (s.setRecorder v).energy = s.energy ∧
      (s.setRecorder v).freeCount = s.freeCount ∧ (s.setRecorder v).pending = s.pending :=
  ⟨rfl, rfl, rfl, rfl, rfl, rfl, rfl, rfl, rfl, rfl, rfl, rfl, rfl, rfl, rfl, rfl, rfl, rfl, rfl, rfl, rfl, rfl, rfl, rfl, rfl, rfl, rfl, rfl, rfl, rfl, rfl⟩

@[simp] theorem State.setClients_fields (s : State) (v : Clients) :
    (s.setClients v).od = s.od ∧ (s.setClients v).dom = s.dom ∧ (s.setClients v).stale = s.stale ∧
      (s.setClients v).fabric = s.fabric ∧ (s.setClients v).recorder = s.recorder ∧ (s.setClients v).clients = v ∧
      (s.setClients v).avs = s.avs ∧ (s.setClients v).can = s.can ∧ (s.setClients v).gsp = s.gsp ∧
      (s.setClients v).life = s.life ∧ (s.setClients v).supply = s.supply ∧ (s.setClients v).clocks = s.clocks ∧
      (s.setClients v).rtc = s.rtc ∧ (s.setClients v).safety = s.safety ∧ (s.setClients v).outline = s.outline ∧
      (s.setClients v).flash = s.flash ∧ (s.setClients v).meridian = s.meridian ∧
      (s.setClients v).phases = s.phases ∧ (s.setClients v).adcs = s.adcs ∧ (s.setClients v).vsense = s.vsense ∧
      (s.setClients v).aux = s.aux ∧ (s.setClients v).auxSequence = s.auxSequence ∧
      (s.setClients v).rails = s.rails ∧ (s.setClients v).slots = s.slots ∧ (s.setClients v).engine = s.engine ∧
      (s.setClients v).drive = s.drive ∧ (s.setClients v).ring = s.ring ∧ (s.setClients v).metrology = s.metrology ∧
      (s.setClients v).energy = s.energy ∧ (s.setClients v).freeCount = s.freeCount ∧
      (s.setClients v).pending = s.pending :=
  ⟨rfl, rfl, rfl, rfl, rfl, rfl, rfl, rfl, rfl, rfl, rfl, rfl, rfl, rfl, rfl, rfl, rfl, rfl, rfl, rfl, rfl, rfl, rfl, rfl, rfl, rfl, rfl, rfl, rfl, rfl, rfl⟩

@[simp] theorem State.setAvs_fields (s : State) (v : Option AvsReply) :
    (s.setAvs v).od = s.od ∧ (s.setAvs v).dom = s.dom ∧ (s.setAvs v).stale = s.stale ∧
      (s.setAvs v).fabric = s.fabric ∧ (s.setAvs v).recorder = s.recorder ∧ (s.setAvs v).clients = s.clients ∧
      (s.setAvs v).avs = v ∧ (s.setAvs v).can = s.can ∧ (s.setAvs v).gsp = s.gsp ∧ (s.setAvs v).life = s.life ∧
      (s.setAvs v).supply = s.supply ∧ (s.setAvs v).clocks = s.clocks ∧ (s.setAvs v).rtc = s.rtc ∧
      (s.setAvs v).safety = s.safety ∧ (s.setAvs v).outline = s.outline ∧ (s.setAvs v).flash = s.flash ∧
      (s.setAvs v).meridian = s.meridian ∧ (s.setAvs v).phases = s.phases ∧ (s.setAvs v).adcs = s.adcs ∧
      (s.setAvs v).vsense = s.vsense ∧ (s.setAvs v).aux = s.aux ∧ (s.setAvs v).auxSequence = s.auxSequence ∧
      (s.setAvs v).rails = s.rails ∧ (s.setAvs v).slots = s.slots ∧ (s.setAvs v).engine = s.engine ∧
      (s.setAvs v).drive = s.drive ∧ (s.setAvs v).ring = s.ring ∧ (s.setAvs v).metrology = s.metrology ∧
      (s.setAvs v).energy = s.energy ∧ (s.setAvs v).freeCount = s.freeCount ∧ (s.setAvs v).pending = s.pending :=
  ⟨rfl, rfl, rfl, rfl, rfl, rfl, rfl, rfl, rfl, rfl, rfl, rfl, rfl, rfl, rfl, rfl, rfl, rfl, rfl, rfl, rfl, rfl, rfl, rfl, rfl, rfl, rfl, rfl, rfl, rfl, rfl⟩

@[simp] theorem State.setCan_fields (s : State) (v : Can) :
    (s.setCan v).od = s.od ∧ (s.setCan v).dom = s.dom ∧ (s.setCan v).stale = s.stale ∧
      (s.setCan v).fabric = s.fabric ∧ (s.setCan v).recorder = s.recorder ∧ (s.setCan v).clients = s.clients ∧
      (s.setCan v).avs = s.avs ∧ (s.setCan v).can = v ∧ (s.setCan v).gsp = s.gsp ∧ (s.setCan v).life = s.life ∧
      (s.setCan v).supply = s.supply ∧ (s.setCan v).clocks = s.clocks ∧ (s.setCan v).rtc = s.rtc ∧
      (s.setCan v).safety = s.safety ∧ (s.setCan v).outline = s.outline ∧ (s.setCan v).flash = s.flash ∧
      (s.setCan v).meridian = s.meridian ∧ (s.setCan v).phases = s.phases ∧ (s.setCan v).adcs = s.adcs ∧
      (s.setCan v).vsense = s.vsense ∧ (s.setCan v).aux = s.aux ∧ (s.setCan v).auxSequence = s.auxSequence ∧
      (s.setCan v).rails = s.rails ∧ (s.setCan v).slots = s.slots ∧ (s.setCan v).engine = s.engine ∧
      (s.setCan v).drive = s.drive ∧ (s.setCan v).ring = s.ring ∧ (s.setCan v).metrology = s.metrology ∧
      (s.setCan v).energy = s.energy ∧ (s.setCan v).freeCount = s.freeCount ∧ (s.setCan v).pending = s.pending :=
  ⟨rfl, rfl, rfl, rfl, rfl, rfl, rfl, rfl, rfl, rfl, rfl, rfl, rfl, rfl, rfl, rfl, rfl, rfl, rfl, rfl, rfl, rfl, rfl, rfl, rfl, rfl, rfl, rfl, rfl, rfl, rfl⟩

@[simp] theorem State.setGsp_fields (s : State) (v : Gsp) :
    (s.setGsp v).od = s.od ∧ (s.setGsp v).dom = s.dom ∧ (s.setGsp v).stale = s.stale ∧
      (s.setGsp v).fabric = s.fabric ∧ (s.setGsp v).recorder = s.recorder ∧ (s.setGsp v).clients = s.clients ∧
      (s.setGsp v).avs = s.avs ∧ (s.setGsp v).can = s.can ∧ (s.setGsp v).gsp = v ∧ (s.setGsp v).life = s.life ∧
      (s.setGsp v).supply = s.supply ∧ (s.setGsp v).clocks = s.clocks ∧ (s.setGsp v).rtc = s.rtc ∧
      (s.setGsp v).safety = s.safety ∧ (s.setGsp v).outline = s.outline ∧ (s.setGsp v).flash = s.flash ∧
      (s.setGsp v).meridian = s.meridian ∧ (s.setGsp v).phases = s.phases ∧ (s.setGsp v).adcs = s.adcs ∧
      (s.setGsp v).vsense = s.vsense ∧ (s.setGsp v).aux = s.aux ∧ (s.setGsp v).auxSequence = s.auxSequence ∧
      (s.setGsp v).rails = s.rails ∧ (s.setGsp v).slots = s.slots ∧ (s.setGsp v).engine = s.engine ∧
      (s.setGsp v).drive = s.drive ∧ (s.setGsp v).ring = s.ring ∧ (s.setGsp v).metrology = s.metrology ∧
      (s.setGsp v).energy = s.energy ∧ (s.setGsp v).freeCount = s.freeCount ∧ (s.setGsp v).pending = s.pending :=
  ⟨rfl, rfl, rfl, rfl, rfl, rfl, rfl, rfl, rfl, rfl, rfl, rfl, rfl, rfl, rfl, rfl, rfl, rfl, rfl, rfl, rfl, rfl, rfl, rfl, rfl, rfl, rfl, rfl, rfl, rfl, rfl⟩

@[simp] theorem State.setLife_fields (s : State) (v : Life) :
    (s.setLife v).od = s.od ∧ (s.setLife v).dom = s.dom ∧ (s.setLife v).stale = s.stale ∧
      (s.setLife v).fabric = s.fabric ∧ (s.setLife v).recorder = s.recorder ∧ (s.setLife v).clients = s.clients ∧
      (s.setLife v).avs = s.avs ∧ (s.setLife v).can = s.can ∧ (s.setLife v).gsp = s.gsp ∧ (s.setLife v).life = v ∧
      (s.setLife v).supply = s.supply ∧ (s.setLife v).clocks = s.clocks ∧ (s.setLife v).rtc = s.rtc ∧
      (s.setLife v).safety = s.safety ∧ (s.setLife v).outline = s.outline ∧ (s.setLife v).flash = s.flash ∧
      (s.setLife v).meridian = s.meridian ∧ (s.setLife v).phases = s.phases ∧ (s.setLife v).adcs = s.adcs ∧
      (s.setLife v).vsense = s.vsense ∧ (s.setLife v).aux = s.aux ∧ (s.setLife v).auxSequence = s.auxSequence ∧
      (s.setLife v).rails = s.rails ∧ (s.setLife v).slots = s.slots ∧ (s.setLife v).engine = s.engine ∧
      (s.setLife v).drive = s.drive ∧ (s.setLife v).ring = s.ring ∧ (s.setLife v).metrology = s.metrology ∧
      (s.setLife v).energy = s.energy ∧ (s.setLife v).freeCount = s.freeCount ∧ (s.setLife v).pending = s.pending :=
  ⟨rfl, rfl, rfl, rfl, rfl, rfl, rfl, rfl, rfl, rfl, rfl, rfl, rfl, rfl, rfl, rfl, rfl, rfl, rfl, rfl, rfl, rfl, rfl, rfl, rfl, rfl, rfl, rfl, rfl, rfl, rfl⟩

@[simp] theorem State.setSupply_fields (s : State) (v : Supply) :
    (s.setSupply v).od = s.od ∧ (s.setSupply v).dom = s.dom ∧ (s.setSupply v).stale = s.stale ∧
      (s.setSupply v).fabric = s.fabric ∧ (s.setSupply v).recorder = s.recorder ∧
      (s.setSupply v).clients = s.clients ∧ (s.setSupply v).avs = s.avs ∧ (s.setSupply v).can = s.can ∧
      (s.setSupply v).gsp = s.gsp ∧ (s.setSupply v).life = s.life ∧ (s.setSupply v).supply = v ∧
      (s.setSupply v).clocks = s.clocks ∧ (s.setSupply v).rtc = s.rtc ∧ (s.setSupply v).safety = s.safety ∧
      (s.setSupply v).outline = s.outline ∧ (s.setSupply v).flash = s.flash ∧ (s.setSupply v).meridian = s.meridian ∧
      (s.setSupply v).phases = s.phases ∧ (s.setSupply v).adcs = s.adcs ∧ (s.setSupply v).vsense = s.vsense ∧
      (s.setSupply v).aux = s.aux ∧ (s.setSupply v).auxSequence = s.auxSequence ∧ (s.setSupply v).rails = s.rails ∧
      (s.setSupply v).slots = s.slots ∧ (s.setSupply v).engine = s.engine ∧ (s.setSupply v).drive = s.drive ∧
      (s.setSupply v).ring = s.ring ∧ (s.setSupply v).metrology = s.metrology ∧ (s.setSupply v).energy = s.energy ∧
      (s.setSupply v).freeCount = s.freeCount ∧ (s.setSupply v).pending = s.pending :=
  ⟨rfl, rfl, rfl, rfl, rfl, rfl, rfl, rfl, rfl, rfl, rfl, rfl, rfl, rfl, rfl, rfl, rfl, rfl, rfl, rfl, rfl, rfl, rfl, rfl, rfl, rfl, rfl, rfl, rfl, rfl, rfl⟩

@[simp] theorem State.setClocks_fields (s : State) (v : Clocks) :
    (s.setClocks v).od = s.od ∧ (s.setClocks v).dom = s.dom ∧ (s.setClocks v).stale = s.stale ∧
      (s.setClocks v).fabric = s.fabric ∧ (s.setClocks v).recorder = s.recorder ∧
      (s.setClocks v).clients = s.clients ∧ (s.setClocks v).avs = s.avs ∧ (s.setClocks v).can = s.can ∧
      (s.setClocks v).gsp = s.gsp ∧ (s.setClocks v).life = s.life ∧ (s.setClocks v).supply = s.supply ∧
      (s.setClocks v).clocks = v ∧ (s.setClocks v).rtc = s.rtc ∧ (s.setClocks v).safety = s.safety ∧
      (s.setClocks v).outline = s.outline ∧ (s.setClocks v).flash = s.flash ∧ (s.setClocks v).meridian = s.meridian ∧
      (s.setClocks v).phases = s.phases ∧ (s.setClocks v).adcs = s.adcs ∧ (s.setClocks v).vsense = s.vsense ∧
      (s.setClocks v).aux = s.aux ∧ (s.setClocks v).auxSequence = s.auxSequence ∧ (s.setClocks v).rails = s.rails ∧
      (s.setClocks v).slots = s.slots ∧ (s.setClocks v).engine = s.engine ∧ (s.setClocks v).drive = s.drive ∧
      (s.setClocks v).ring = s.ring ∧ (s.setClocks v).metrology = s.metrology ∧ (s.setClocks v).energy = s.energy ∧
      (s.setClocks v).freeCount = s.freeCount ∧ (s.setClocks v).pending = s.pending :=
  ⟨rfl, rfl, rfl, rfl, rfl, rfl, rfl, rfl, rfl, rfl, rfl, rfl, rfl, rfl, rfl, rfl, rfl, rfl, rfl, rfl, rfl, rfl, rfl, rfl, rfl, rfl, rfl, rfl, rfl, rfl, rfl⟩

@[simp] theorem State.setRtc_fields (s : State) (v : Rtc) :
    (s.setRtc v).od = s.od ∧ (s.setRtc v).dom = s.dom ∧ (s.setRtc v).stale = s.stale ∧
      (s.setRtc v).fabric = s.fabric ∧ (s.setRtc v).recorder = s.recorder ∧ (s.setRtc v).clients = s.clients ∧
      (s.setRtc v).avs = s.avs ∧ (s.setRtc v).can = s.can ∧ (s.setRtc v).gsp = s.gsp ∧ (s.setRtc v).life = s.life ∧
      (s.setRtc v).supply = s.supply ∧ (s.setRtc v).clocks = s.clocks ∧ (s.setRtc v).rtc = v ∧
      (s.setRtc v).safety = s.safety ∧ (s.setRtc v).outline = s.outline ∧ (s.setRtc v).flash = s.flash ∧
      (s.setRtc v).meridian = s.meridian ∧ (s.setRtc v).phases = s.phases ∧ (s.setRtc v).adcs = s.adcs ∧
      (s.setRtc v).vsense = s.vsense ∧ (s.setRtc v).aux = s.aux ∧ (s.setRtc v).auxSequence = s.auxSequence ∧
      (s.setRtc v).rails = s.rails ∧ (s.setRtc v).slots = s.slots ∧ (s.setRtc v).engine = s.engine ∧
      (s.setRtc v).drive = s.drive ∧ (s.setRtc v).ring = s.ring ∧ (s.setRtc v).metrology = s.metrology ∧
      (s.setRtc v).energy = s.energy ∧ (s.setRtc v).freeCount = s.freeCount ∧ (s.setRtc v).pending = s.pending :=
  ⟨rfl, rfl, rfl, rfl, rfl, rfl, rfl, rfl, rfl, rfl, rfl, rfl, rfl, rfl, rfl, rfl, rfl, rfl, rfl, rfl, rfl, rfl, rfl, rfl, rfl, rfl, rfl, rfl, rfl, rfl, rfl⟩

@[simp] theorem State.setSafety_fields (s : State) (v : Safety) :
    (s.setSafety v).od = s.od ∧ (s.setSafety v).dom = s.dom ∧ (s.setSafety v).stale = s.stale ∧
      (s.setSafety v).fabric = s.fabric ∧ (s.setSafety v).recorder = s.recorder ∧
      (s.setSafety v).clients = s.clients ∧ (s.setSafety v).avs = s.avs ∧ (s.setSafety v).can = s.can ∧
      (s.setSafety v).gsp = s.gsp ∧ (s.setSafety v).life = s.life ∧ (s.setSafety v).supply = s.supply ∧
      (s.setSafety v).clocks = s.clocks ∧ (s.setSafety v).rtc = s.rtc ∧ (s.setSafety v).safety = v ∧
      (s.setSafety v).outline = s.outline ∧ (s.setSafety v).flash = s.flash ∧ (s.setSafety v).meridian = s.meridian ∧
      (s.setSafety v).phases = s.phases ∧ (s.setSafety v).adcs = s.adcs ∧ (s.setSafety v).vsense = s.vsense ∧
      (s.setSafety v).aux = s.aux ∧ (s.setSafety v).auxSequence = s.auxSequence ∧ (s.setSafety v).rails = s.rails ∧
      (s.setSafety v).slots = s.slots ∧ (s.setSafety v).engine = s.engine ∧ (s.setSafety v).drive = s.drive ∧
      (s.setSafety v).ring = s.ring ∧ (s.setSafety v).metrology = s.metrology ∧ (s.setSafety v).energy = s.energy ∧
      (s.setSafety v).freeCount = s.freeCount ∧ (s.setSafety v).pending = s.pending :=
  ⟨rfl, rfl, rfl, rfl, rfl, rfl, rfl, rfl, rfl, rfl, rfl, rfl, rfl, rfl, rfl, rfl, rfl, rfl, rfl, rfl, rfl, rfl, rfl, rfl, rfl, rfl, rfl, rfl, rfl, rfl, rfl⟩

@[simp] theorem State.setOutline_fields (s : State) (v : Outline) :
    (s.setOutline v).od = s.od ∧ (s.setOutline v).dom = s.dom ∧ (s.setOutline v).stale = s.stale ∧
      (s.setOutline v).fabric = s.fabric ∧ (s.setOutline v).recorder = s.recorder ∧
      (s.setOutline v).clients = s.clients ∧ (s.setOutline v).avs = s.avs ∧ (s.setOutline v).can = s.can ∧
      (s.setOutline v).gsp = s.gsp ∧ (s.setOutline v).life = s.life ∧ (s.setOutline v).supply = s.supply ∧
      (s.setOutline v).clocks = s.clocks ∧ (s.setOutline v).rtc = s.rtc ∧ (s.setOutline v).safety = s.safety ∧
      (s.setOutline v).outline = v ∧ (s.setOutline v).flash = s.flash ∧ (s.setOutline v).meridian = s.meridian ∧
      (s.setOutline v).phases = s.phases ∧ (s.setOutline v).adcs = s.adcs ∧ (s.setOutline v).vsense = s.vsense ∧
      (s.setOutline v).aux = s.aux ∧ (s.setOutline v).auxSequence = s.auxSequence ∧
      (s.setOutline v).rails = s.rails ∧ (s.setOutline v).slots = s.slots ∧ (s.setOutline v).engine = s.engine ∧
      (s.setOutline v).drive = s.drive ∧ (s.setOutline v).ring = s.ring ∧ (s.setOutline v).metrology = s.metrology ∧
      (s.setOutline v).energy = s.energy ∧ (s.setOutline v).freeCount = s.freeCount ∧
      (s.setOutline v).pending = s.pending :=
  ⟨rfl, rfl, rfl, rfl, rfl, rfl, rfl, rfl, rfl, rfl, rfl, rfl, rfl, rfl, rfl, rfl, rfl, rfl, rfl, rfl, rfl, rfl, rfl, rfl, rfl, rfl, rfl, rfl, rfl, rfl, rfl⟩

@[simp] theorem State.setFlash_fields (s : State) (v : Flash) :
    (s.setFlash v).od = s.od ∧ (s.setFlash v).dom = s.dom ∧ (s.setFlash v).stale = s.stale ∧
      (s.setFlash v).fabric = s.fabric ∧ (s.setFlash v).recorder = s.recorder ∧ (s.setFlash v).clients = s.clients ∧
      (s.setFlash v).avs = s.avs ∧ (s.setFlash v).can = s.can ∧ (s.setFlash v).gsp = s.gsp ∧
      (s.setFlash v).life = s.life ∧ (s.setFlash v).supply = s.supply ∧ (s.setFlash v).clocks = s.clocks ∧
      (s.setFlash v).rtc = s.rtc ∧ (s.setFlash v).safety = s.safety ∧ (s.setFlash v).outline = s.outline ∧
      (s.setFlash v).flash = v ∧ (s.setFlash v).meridian = s.meridian ∧ (s.setFlash v).phases = s.phases ∧
      (s.setFlash v).adcs = s.adcs ∧ (s.setFlash v).vsense = s.vsense ∧ (s.setFlash v).aux = s.aux ∧
      (s.setFlash v).auxSequence = s.auxSequence ∧ (s.setFlash v).rails = s.rails ∧ (s.setFlash v).slots = s.slots ∧
      (s.setFlash v).engine = s.engine ∧ (s.setFlash v).drive = s.drive ∧ (s.setFlash v).ring = s.ring ∧
      (s.setFlash v).metrology = s.metrology ∧ (s.setFlash v).energy = s.energy ∧
      (s.setFlash v).freeCount = s.freeCount ∧ (s.setFlash v).pending = s.pending :=
  ⟨rfl, rfl, rfl, rfl, rfl, rfl, rfl, rfl, rfl, rfl, rfl, rfl, rfl, rfl, rfl, rfl, rfl, rfl, rfl, rfl, rfl, rfl, rfl, rfl, rfl, rfl, rfl, rfl, rfl, rfl, rfl⟩

@[simp] theorem State.setMeridian_fields (s : State) (v : Meridian) :
    (s.setMeridian v).od = s.od ∧ (s.setMeridian v).dom = s.dom ∧ (s.setMeridian v).stale = s.stale ∧
      (s.setMeridian v).fabric = s.fabric ∧ (s.setMeridian v).recorder = s.recorder ∧
      (s.setMeridian v).clients = s.clients ∧ (s.setMeridian v).avs = s.avs ∧ (s.setMeridian v).can = s.can ∧
      (s.setMeridian v).gsp = s.gsp ∧ (s.setMeridian v).life = s.life ∧ (s.setMeridian v).supply = s.supply ∧
      (s.setMeridian v).clocks = s.clocks ∧ (s.setMeridian v).rtc = s.rtc ∧ (s.setMeridian v).safety = s.safety ∧
      (s.setMeridian v).outline = s.outline ∧ (s.setMeridian v).flash = s.flash ∧ (s.setMeridian v).meridian = v ∧
      (s.setMeridian v).phases = s.phases ∧ (s.setMeridian v).adcs = s.adcs ∧ (s.setMeridian v).vsense = s.vsense ∧
      (s.setMeridian v).aux = s.aux ∧ (s.setMeridian v).auxSequence = s.auxSequence ∧
      (s.setMeridian v).rails = s.rails ∧ (s.setMeridian v).slots = s.slots ∧ (s.setMeridian v).engine = s.engine ∧
      (s.setMeridian v).drive = s.drive ∧ (s.setMeridian v).ring = s.ring ∧
      (s.setMeridian v).metrology = s.metrology ∧ (s.setMeridian v).energy = s.energy ∧
      (s.setMeridian v).freeCount = s.freeCount ∧ (s.setMeridian v).pending = s.pending :=
  ⟨rfl, rfl, rfl, rfl, rfl, rfl, rfl, rfl, rfl, rfl, rfl, rfl, rfl, rfl, rfl, rfl, rfl, rfl, rfl, rfl, rfl, rfl, rfl, rfl, rfl, rfl, rfl, rfl, rfl, rfl, rfl⟩

@[simp] theorem State.setPhases_fields (s : State) (v : Vector Phase 12) :
    (s.setPhases v).od = s.od ∧ (s.setPhases v).dom = s.dom ∧ (s.setPhases v).stale = s.stale ∧
      (s.setPhases v).fabric = s.fabric ∧ (s.setPhases v).recorder = s.recorder ∧
      (s.setPhases v).clients = s.clients ∧ (s.setPhases v).avs = s.avs ∧ (s.setPhases v).can = s.can ∧
      (s.setPhases v).gsp = s.gsp ∧ (s.setPhases v).life = s.life ∧ (s.setPhases v).supply = s.supply ∧
      (s.setPhases v).clocks = s.clocks ∧ (s.setPhases v).rtc = s.rtc ∧ (s.setPhases v).safety = s.safety ∧
      (s.setPhases v).outline = s.outline ∧ (s.setPhases v).flash = s.flash ∧ (s.setPhases v).meridian = s.meridian ∧
      (s.setPhases v).phases = v ∧ (s.setPhases v).adcs = s.adcs ∧ (s.setPhases v).vsense = s.vsense ∧
      (s.setPhases v).aux = s.aux ∧ (s.setPhases v).auxSequence = s.auxSequence ∧ (s.setPhases v).rails = s.rails ∧
      (s.setPhases v).slots = s.slots ∧ (s.setPhases v).engine = s.engine ∧ (s.setPhases v).drive = s.drive ∧
      (s.setPhases v).ring = s.ring ∧ (s.setPhases v).metrology = s.metrology ∧ (s.setPhases v).energy = s.energy ∧
      (s.setPhases v).freeCount = s.freeCount ∧ (s.setPhases v).pending = s.pending :=
  ⟨rfl, rfl, rfl, rfl, rfl, rfl, rfl, rfl, rfl, rfl, rfl, rfl, rfl, rfl, rfl, rfl, rfl, rfl, rfl, rfl, rfl, rfl, rfl, rfl, rfl, rfl, rfl, rfl, rfl, rfl, rfl⟩

@[simp] theorem State.setAdcs_fields (s : State) (v : Vector (List Nat) 3) :
    (s.setAdcs v).od = s.od ∧ (s.setAdcs v).dom = s.dom ∧ (s.setAdcs v).stale = s.stale ∧
      (s.setAdcs v).fabric = s.fabric ∧ (s.setAdcs v).recorder = s.recorder ∧ (s.setAdcs v).clients = s.clients ∧
      (s.setAdcs v).avs = s.avs ∧ (s.setAdcs v).can = s.can ∧ (s.setAdcs v).gsp = s.gsp ∧
      (s.setAdcs v).life = s.life ∧ (s.setAdcs v).supply = s.supply ∧ (s.setAdcs v).clocks = s.clocks ∧
      (s.setAdcs v).rtc = s.rtc ∧ (s.setAdcs v).safety = s.safety ∧ (s.setAdcs v).outline = s.outline ∧
      (s.setAdcs v).flash = s.flash ∧ (s.setAdcs v).meridian = s.meridian ∧ (s.setAdcs v).phases = s.phases ∧
      (s.setAdcs v).adcs = v ∧ (s.setAdcs v).vsense = s.vsense ∧ (s.setAdcs v).aux = s.aux ∧
      (s.setAdcs v).auxSequence = s.auxSequence ∧ (s.setAdcs v).rails = s.rails ∧ (s.setAdcs v).slots = s.slots ∧
      (s.setAdcs v).engine = s.engine ∧ (s.setAdcs v).drive = s.drive ∧ (s.setAdcs v).ring = s.ring ∧
      (s.setAdcs v).metrology = s.metrology ∧ (s.setAdcs v).energy = s.energy ∧
      (s.setAdcs v).freeCount = s.freeCount ∧ (s.setAdcs v).pending = s.pending :=
  ⟨rfl, rfl, rfl, rfl, rfl, rfl, rfl, rfl, rfl, rfl, rfl, rfl, rfl, rfl, rfl, rfl, rfl, rfl, rfl, rfl, rfl, rfl, rfl, rfl, rfl, rfl, rfl, rfl, rfl, rfl, rfl⟩

@[simp] theorem State.setVsense_fields (s : State) (v : Vector VSense 4) :
    (s.setVsense v).od = s.od ∧ (s.setVsense v).dom = s.dom ∧ (s.setVsense v).stale = s.stale ∧
      (s.setVsense v).fabric = s.fabric ∧ (s.setVsense v).recorder = s.recorder ∧
      (s.setVsense v).clients = s.clients ∧ (s.setVsense v).avs = s.avs ∧ (s.setVsense v).can = s.can ∧
      (s.setVsense v).gsp = s.gsp ∧ (s.setVsense v).life = s.life ∧ (s.setVsense v).supply = s.supply ∧
      (s.setVsense v).clocks = s.clocks ∧ (s.setVsense v).rtc = s.rtc ∧ (s.setVsense v).safety = s.safety ∧
      (s.setVsense v).outline = s.outline ∧ (s.setVsense v).flash = s.flash ∧ (s.setVsense v).meridian = s.meridian ∧
      (s.setVsense v).phases = s.phases ∧ (s.setVsense v).adcs = s.adcs ∧ (s.setVsense v).vsense = v ∧
      (s.setVsense v).aux = s.aux ∧ (s.setVsense v).auxSequence = s.auxSequence ∧ (s.setVsense v).rails = s.rails ∧
      (s.setVsense v).slots = s.slots ∧ (s.setVsense v).engine = s.engine ∧ (s.setVsense v).drive = s.drive ∧
      (s.setVsense v).ring = s.ring ∧ (s.setVsense v).metrology = s.metrology ∧ (s.setVsense v).energy = s.energy ∧
      (s.setVsense v).freeCount = s.freeCount ∧ (s.setVsense v).pending = s.pending :=
  ⟨rfl, rfl, rfl, rfl, rfl, rfl, rfl, rfl, rfl, rfl, rfl, rfl, rfl, rfl, rfl, rfl, rfl, rfl, rfl, rfl, rfl, rfl, rfl, rfl, rfl, rfl, rfl, rfl, rfl, rfl, rfl⟩

@[simp] theorem State.setAux_fields (s : State) (v : Vector Aux 8) :
    (s.setAux v).od = s.od ∧ (s.setAux v).dom = s.dom ∧ (s.setAux v).stale = s.stale ∧
      (s.setAux v).fabric = s.fabric ∧ (s.setAux v).recorder = s.recorder ∧ (s.setAux v).clients = s.clients ∧
      (s.setAux v).avs = s.avs ∧ (s.setAux v).can = s.can ∧ (s.setAux v).gsp = s.gsp ∧ (s.setAux v).life = s.life ∧
      (s.setAux v).supply = s.supply ∧ (s.setAux v).clocks = s.clocks ∧ (s.setAux v).rtc = s.rtc ∧
      (s.setAux v).safety = s.safety ∧ (s.setAux v).outline = s.outline ∧ (s.setAux v).flash = s.flash ∧
      (s.setAux v).meridian = s.meridian ∧ (s.setAux v).phases = s.phases ∧ (s.setAux v).adcs = s.adcs ∧
      (s.setAux v).vsense = s.vsense ∧ (s.setAux v).aux = v ∧ (s.setAux v).auxSequence = s.auxSequence ∧
      (s.setAux v).rails = s.rails ∧ (s.setAux v).slots = s.slots ∧ (s.setAux v).engine = s.engine ∧
      (s.setAux v).drive = s.drive ∧ (s.setAux v).ring = s.ring ∧ (s.setAux v).metrology = s.metrology ∧
      (s.setAux v).energy = s.energy ∧ (s.setAux v).freeCount = s.freeCount ∧ (s.setAux v).pending = s.pending :=
  ⟨rfl, rfl, rfl, rfl, rfl, rfl, rfl, rfl, rfl, rfl, rfl, rfl, rfl, rfl, rfl, rfl, rfl, rfl, rfl, rfl, rfl, rfl, rfl, rfl, rfl, rfl, rfl, rfl, rfl, rfl, rfl⟩

@[simp] theorem State.setAuxSequence_fields (s : State) (v : AuxSequence) :
    (s.setAuxSequence v).od = s.od ∧ (s.setAuxSequence v).dom = s.dom ∧ (s.setAuxSequence v).stale = s.stale ∧
      (s.setAuxSequence v).fabric = s.fabric ∧ (s.setAuxSequence v).recorder = s.recorder ∧
      (s.setAuxSequence v).clients = s.clients ∧ (s.setAuxSequence v).avs = s.avs ∧
      (s.setAuxSequence v).can = s.can ∧ (s.setAuxSequence v).gsp = s.gsp ∧ (s.setAuxSequence v).life = s.life ∧
      (s.setAuxSequence v).supply = s.supply ∧ (s.setAuxSequence v).clocks = s.clocks ∧
      (s.setAuxSequence v).rtc = s.rtc ∧ (s.setAuxSequence v).safety = s.safety ∧
      (s.setAuxSequence v).outline = s.outline ∧ (s.setAuxSequence v).flash = s.flash ∧
      (s.setAuxSequence v).meridian = s.meridian ∧ (s.setAuxSequence v).phases = s.phases ∧
      (s.setAuxSequence v).adcs = s.adcs ∧ (s.setAuxSequence v).vsense = s.vsense ∧
      (s.setAuxSequence v).aux = s.aux ∧ (s.setAuxSequence v).auxSequence = v ∧
      (s.setAuxSequence v).rails = s.rails ∧ (s.setAuxSequence v).slots = s.slots ∧
      (s.setAuxSequence v).engine = s.engine ∧ (s.setAuxSequence v).drive = s.drive ∧
      (s.setAuxSequence v).ring = s.ring ∧ (s.setAuxSequence v).metrology = s.metrology ∧
      (s.setAuxSequence v).energy = s.energy ∧ (s.setAuxSequence v).freeCount = s.freeCount ∧
      (s.setAuxSequence v).pending = s.pending :=
  ⟨rfl, rfl, rfl, rfl, rfl, rfl, rfl, rfl, rfl, rfl, rfl, rfl, rfl, rfl, rfl, rfl, rfl, rfl, rfl, rfl, rfl, rfl, rfl, rfl, rfl, rfl, rfl, rfl, rfl, rfl, rfl⟩

@[simp] theorem State.setRails_fields (s : State) (v : Vector Rail 5) :
    (s.setRails v).od = s.od ∧ (s.setRails v).dom = s.dom ∧ (s.setRails v).stale = s.stale ∧
      (s.setRails v).fabric = s.fabric ∧ (s.setRails v).recorder = s.recorder ∧ (s.setRails v).clients = s.clients ∧
      (s.setRails v).avs = s.avs ∧ (s.setRails v).can = s.can ∧ (s.setRails v).gsp = s.gsp ∧
      (s.setRails v).life = s.life ∧ (s.setRails v).supply = s.supply ∧ (s.setRails v).clocks = s.clocks ∧
      (s.setRails v).rtc = s.rtc ∧ (s.setRails v).safety = s.safety ∧ (s.setRails v).outline = s.outline ∧
      (s.setRails v).flash = s.flash ∧ (s.setRails v).meridian = s.meridian ∧ (s.setRails v).phases = s.phases ∧
      (s.setRails v).adcs = s.adcs ∧ (s.setRails v).vsense = s.vsense ∧ (s.setRails v).aux = s.aux ∧
      (s.setRails v).auxSequence = s.auxSequence ∧ (s.setRails v).rails = v ∧ (s.setRails v).slots = s.slots ∧
      (s.setRails v).engine = s.engine ∧ (s.setRails v).drive = s.drive ∧ (s.setRails v).ring = s.ring ∧
      (s.setRails v).metrology = s.metrology ∧ (s.setRails v).energy = s.energy ∧
      (s.setRails v).freeCount = s.freeCount ∧ (s.setRails v).pending = s.pending :=
  ⟨rfl, rfl, rfl, rfl, rfl, rfl, rfl, rfl, rfl, rfl, rfl, rfl, rfl, rfl, rfl, rfl, rfl, rfl, rfl, rfl, rfl, rfl, rfl, rfl, rfl, rfl, rfl, rfl, rfl, rfl, rfl⟩

@[simp] theorem State.setSlots_fields (s : State) (v : Vector Slot 16) :
    (s.setSlots v).od = s.od ∧ (s.setSlots v).dom = s.dom ∧ (s.setSlots v).stale = s.stale ∧
      (s.setSlots v).fabric = s.fabric ∧ (s.setSlots v).recorder = s.recorder ∧ (s.setSlots v).clients = s.clients ∧
      (s.setSlots v).avs = s.avs ∧ (s.setSlots v).can = s.can ∧ (s.setSlots v).gsp = s.gsp ∧
      (s.setSlots v).life = s.life ∧ (s.setSlots v).supply = s.supply ∧ (s.setSlots v).clocks = s.clocks ∧
      (s.setSlots v).rtc = s.rtc ∧ (s.setSlots v).safety = s.safety ∧ (s.setSlots v).outline = s.outline ∧
      (s.setSlots v).flash = s.flash ∧ (s.setSlots v).meridian = s.meridian ∧ (s.setSlots v).phases = s.phases ∧
      (s.setSlots v).adcs = s.adcs ∧ (s.setSlots v).vsense = s.vsense ∧ (s.setSlots v).aux = s.aux ∧
      (s.setSlots v).auxSequence = s.auxSequence ∧ (s.setSlots v).rails = s.rails ∧ (s.setSlots v).slots = v ∧
      (s.setSlots v).engine = s.engine ∧ (s.setSlots v).drive = s.drive ∧ (s.setSlots v).ring = s.ring ∧
      (s.setSlots v).metrology = s.metrology ∧ (s.setSlots v).energy = s.energy ∧
      (s.setSlots v).freeCount = s.freeCount ∧ (s.setSlots v).pending = s.pending :=
  ⟨rfl, rfl, rfl, rfl, rfl, rfl, rfl, rfl, rfl, rfl, rfl, rfl, rfl, rfl, rfl, rfl, rfl, rfl, rfl, rfl, rfl, rfl, rfl, rfl, rfl, rfl, rfl, rfl, rfl, rfl, rfl⟩

@[simp] theorem State.setEngine_fields (s : State) (v : Engine) :
    (s.setEngine v).od = s.od ∧ (s.setEngine v).dom = s.dom ∧ (s.setEngine v).stale = s.stale ∧
      (s.setEngine v).fabric = s.fabric ∧ (s.setEngine v).recorder = s.recorder ∧
      (s.setEngine v).clients = s.clients ∧ (s.setEngine v).avs = s.avs ∧ (s.setEngine v).can = s.can ∧
      (s.setEngine v).gsp = s.gsp ∧ (s.setEngine v).life = s.life ∧ (s.setEngine v).supply = s.supply ∧
      (s.setEngine v).clocks = s.clocks ∧ (s.setEngine v).rtc = s.rtc ∧ (s.setEngine v).safety = s.safety ∧
      (s.setEngine v).outline = s.outline ∧ (s.setEngine v).flash = s.flash ∧ (s.setEngine v).meridian = s.meridian ∧
      (s.setEngine v).phases = s.phases ∧ (s.setEngine v).adcs = s.adcs ∧ (s.setEngine v).vsense = s.vsense ∧
      (s.setEngine v).aux = s.aux ∧ (s.setEngine v).auxSequence = s.auxSequence ∧ (s.setEngine v).rails = s.rails ∧
      (s.setEngine v).slots = s.slots ∧ (s.setEngine v).engine = v ∧ (s.setEngine v).drive = s.drive ∧
      (s.setEngine v).ring = s.ring ∧ (s.setEngine v).metrology = s.metrology ∧ (s.setEngine v).energy = s.energy ∧
      (s.setEngine v).freeCount = s.freeCount ∧ (s.setEngine v).pending = s.pending :=
  ⟨rfl, rfl, rfl, rfl, rfl, rfl, rfl, rfl, rfl, rfl, rfl, rfl, rfl, rfl, rfl, rfl, rfl, rfl, rfl, rfl, rfl, rfl, rfl, rfl, rfl, rfl, rfl, rfl, rfl, rfl, rfl⟩

@[simp] theorem State.setDrive_fields (s : State) (v : Drive) :
    (s.setDrive v).od = s.od ∧ (s.setDrive v).dom = s.dom ∧ (s.setDrive v).stale = s.stale ∧
      (s.setDrive v).fabric = s.fabric ∧ (s.setDrive v).recorder = s.recorder ∧ (s.setDrive v).clients = s.clients ∧
      (s.setDrive v).avs = s.avs ∧ (s.setDrive v).can = s.can ∧ (s.setDrive v).gsp = s.gsp ∧
      (s.setDrive v).life = s.life ∧ (s.setDrive v).supply = s.supply ∧ (s.setDrive v).clocks = s.clocks ∧
      (s.setDrive v).rtc = s.rtc ∧ (s.setDrive v).safety = s.safety ∧ (s.setDrive v).outline = s.outline ∧
      (s.setDrive v).flash = s.flash ∧ (s.setDrive v).meridian = s.meridian ∧ (s.setDrive v).phases = s.phases ∧
      (s.setDrive v).adcs = s.adcs ∧ (s.setDrive v).vsense = s.vsense ∧ (s.setDrive v).aux = s.aux ∧
      (s.setDrive v).auxSequence = s.auxSequence ∧ (s.setDrive v).rails = s.rails ∧ (s.setDrive v).slots = s.slots ∧
      (s.setDrive v).engine = s.engine ∧ (s.setDrive v).drive = v ∧ (s.setDrive v).ring = s.ring ∧
      (s.setDrive v).metrology = s.metrology ∧ (s.setDrive v).energy = s.energy ∧
      (s.setDrive v).freeCount = s.freeCount ∧ (s.setDrive v).pending = s.pending :=
  ⟨rfl, rfl, rfl, rfl, rfl, rfl, rfl, rfl, rfl, rfl, rfl, rfl, rfl, rfl, rfl, rfl, rfl, rfl, rfl, rfl, rfl, rfl, rfl, rfl, rfl, rfl, rfl, rfl, rfl, rfl, rfl⟩

@[simp] theorem State.setRing_fields (s : State) (v : Ring) :
    (s.setRing v).od = s.od ∧ (s.setRing v).dom = s.dom ∧ (s.setRing v).stale = s.stale ∧
      (s.setRing v).fabric = s.fabric ∧ (s.setRing v).recorder = s.recorder ∧ (s.setRing v).clients = s.clients ∧
      (s.setRing v).avs = s.avs ∧ (s.setRing v).can = s.can ∧ (s.setRing v).gsp = s.gsp ∧
      (s.setRing v).life = s.life ∧ (s.setRing v).supply = s.supply ∧ (s.setRing v).clocks = s.clocks ∧
      (s.setRing v).rtc = s.rtc ∧ (s.setRing v).safety = s.safety ∧ (s.setRing v).outline = s.outline ∧
      (s.setRing v).flash = s.flash ∧ (s.setRing v).meridian = s.meridian ∧ (s.setRing v).phases = s.phases ∧
      (s.setRing v).adcs = s.adcs ∧ (s.setRing v).vsense = s.vsense ∧ (s.setRing v).aux = s.aux ∧
      (s.setRing v).auxSequence = s.auxSequence ∧ (s.setRing v).rails = s.rails ∧ (s.setRing v).slots = s.slots ∧
      (s.setRing v).engine = s.engine ∧ (s.setRing v).drive = s.drive ∧ (s.setRing v).ring = v ∧
      (s.setRing v).metrology = s.metrology ∧ (s.setRing v).energy = s.energy ∧
      (s.setRing v).freeCount = s.freeCount ∧ (s.setRing v).pending = s.pending :=
  ⟨rfl, rfl, rfl, rfl, rfl, rfl, rfl, rfl, rfl, rfl, rfl, rfl, rfl, rfl, rfl, rfl, rfl, rfl, rfl, rfl, rfl, rfl, rfl, rfl, rfl, rfl, rfl, rfl, rfl, rfl, rfl⟩

@[simp] theorem State.setMetrology_fields (s : State) (v : Metrology) :
    (s.setMetrology v).od = s.od ∧ (s.setMetrology v).dom = s.dom ∧ (s.setMetrology v).stale = s.stale ∧
      (s.setMetrology v).fabric = s.fabric ∧ (s.setMetrology v).recorder = s.recorder ∧
      (s.setMetrology v).clients = s.clients ∧ (s.setMetrology v).avs = s.avs ∧ (s.setMetrology v).can = s.can ∧
      (s.setMetrology v).gsp = s.gsp ∧ (s.setMetrology v).life = s.life ∧ (s.setMetrology v).supply = s.supply ∧
      (s.setMetrology v).clocks = s.clocks ∧ (s.setMetrology v).rtc = s.rtc ∧ (s.setMetrology v).safety = s.safety ∧
      (s.setMetrology v).outline = s.outline ∧ (s.setMetrology v).flash = s.flash ∧
      (s.setMetrology v).meridian = s.meridian ∧ (s.setMetrology v).phases = s.phases ∧
      (s.setMetrology v).adcs = s.adcs ∧ (s.setMetrology v).vsense = s.vsense ∧ (s.setMetrology v).aux = s.aux ∧
      (s.setMetrology v).auxSequence = s.auxSequence ∧ (s.setMetrology v).rails = s.rails ∧
      (s.setMetrology v).slots = s.slots ∧ (s.setMetrology v).engine = s.engine ∧
      (s.setMetrology v).drive = s.drive ∧ (s.setMetrology v).ring = s.ring ∧ (s.setMetrology v).metrology = v ∧
      (s.setMetrology v).energy = s.energy ∧ (s.setMetrology v).freeCount = s.freeCount ∧
      (s.setMetrology v).pending = s.pending :=
  ⟨rfl, rfl, rfl, rfl, rfl, rfl, rfl, rfl, rfl, rfl, rfl, rfl, rfl, rfl, rfl, rfl, rfl, rfl, rfl, rfl, rfl, rfl, rfl, rfl, rfl, rfl, rfl, rfl, rfl, rfl, rfl⟩

@[simp] theorem State.setEnergy_fields (s : State) (v : Energy) :
    (s.setEnergy v).od = s.od ∧ (s.setEnergy v).dom = s.dom ∧ (s.setEnergy v).stale = s.stale ∧
      (s.setEnergy v).fabric = s.fabric ∧ (s.setEnergy v).recorder = s.recorder ∧
      (s.setEnergy v).clients = s.clients ∧ (s.setEnergy v).avs = s.avs ∧ (s.setEnergy v).can = s.can ∧
      (s.setEnergy v).gsp = s.gsp ∧ (s.setEnergy v).life = s.life ∧ (s.setEnergy v).supply = s.supply ∧
      (s.setEnergy v).clocks = s.clocks ∧ (s.setEnergy v).rtc = s.rtc ∧ (s.setEnergy v).safety = s.safety ∧
      (s.setEnergy v).outline = s.outline ∧ (s.setEnergy v).flash = s.flash ∧ (s.setEnergy v).meridian = s.meridian ∧
      (s.setEnergy v).phases = s.phases ∧ (s.setEnergy v).adcs = s.adcs ∧ (s.setEnergy v).vsense = s.vsense ∧
      (s.setEnergy v).aux = s.aux ∧ (s.setEnergy v).auxSequence = s.auxSequence ∧ (s.setEnergy v).rails = s.rails ∧
      (s.setEnergy v).slots = s.slots ∧ (s.setEnergy v).engine = s.engine ∧ (s.setEnergy v).drive = s.drive ∧
      (s.setEnergy v).ring = s.ring ∧ (s.setEnergy v).metrology = s.metrology ∧ (s.setEnergy v).energy = v ∧
      (s.setEnergy v).freeCount = s.freeCount ∧ (s.setEnergy v).pending = s.pending :=
  ⟨rfl, rfl, rfl, rfl, rfl, rfl, rfl, rfl, rfl, rfl, rfl, rfl, rfl, rfl, rfl, rfl, rfl, rfl, rfl, rfl, rfl, rfl, rfl, rfl, rfl, rfl, rfl, rfl, rfl, rfl, rfl⟩

@[simp] theorem State.setFreeCount_fields (s : State) (v : Nat) :
    (s.setFreeCount v).od = s.od ∧ (s.setFreeCount v).dom = s.dom ∧ (s.setFreeCount v).stale = s.stale ∧
      (s.setFreeCount v).fabric = s.fabric ∧ (s.setFreeCount v).recorder = s.recorder ∧
      (s.setFreeCount v).clients = s.clients ∧ (s.setFreeCount v).avs = s.avs ∧ (s.setFreeCount v).can = s.can ∧
      (s.setFreeCount v).gsp = s.gsp ∧ (s.setFreeCount v).life = s.life ∧ (s.setFreeCount v).supply = s.supply ∧
      (s.setFreeCount v).clocks = s.clocks ∧ (s.setFreeCount v).rtc = s.rtc ∧ (s.setFreeCount v).safety = s.safety ∧
      (s.setFreeCount v).outline = s.outline ∧ (s.setFreeCount v).flash = s.flash ∧
      (s.setFreeCount v).meridian = s.meridian ∧ (s.setFreeCount v).phases = s.phases ∧
      (s.setFreeCount v).adcs = s.adcs ∧ (s.setFreeCount v).vsense = s.vsense ∧ (s.setFreeCount v).aux = s.aux ∧
      (s.setFreeCount v).auxSequence = s.auxSequence ∧ (s.setFreeCount v).rails = s.rails ∧
      (s.setFreeCount v).slots = s.slots ∧ (s.setFreeCount v).engine = s.engine ∧
      (s.setFreeCount v).drive = s.drive ∧ (s.setFreeCount v).ring = s.ring ∧
      (s.setFreeCount v).metrology = s.metrology ∧ (s.setFreeCount v).energy = s.energy ∧
      (s.setFreeCount v).freeCount = v ∧ (s.setFreeCount v).pending = s.pending :=
  ⟨rfl, rfl, rfl, rfl, rfl, rfl, rfl, rfl, rfl, rfl, rfl, rfl, rfl, rfl, rfl, rfl, rfl, rfl, rfl, rfl, rfl, rfl, rfl, rfl, rfl, rfl, rfl, rfl, rfl, rfl, rfl⟩

@[simp] theorem State.setPending_fields (s : State) (v : List Instr) :
    (s.setPending v).od = s.od ∧ (s.setPending v).dom = s.dom ∧ (s.setPending v).stale = s.stale ∧
      (s.setPending v).fabric = s.fabric ∧ (s.setPending v).recorder = s.recorder ∧
      (s.setPending v).clients = s.clients ∧ (s.setPending v).avs = s.avs ∧ (s.setPending v).can = s.can ∧
      (s.setPending v).gsp = s.gsp ∧ (s.setPending v).life = s.life ∧ (s.setPending v).supply = s.supply ∧
      (s.setPending v).clocks = s.clocks ∧ (s.setPending v).rtc = s.rtc ∧ (s.setPending v).safety = s.safety ∧
      (s.setPending v).outline = s.outline ∧ (s.setPending v).flash = s.flash ∧
      (s.setPending v).meridian = s.meridian ∧ (s.setPending v).phases = s.phases ∧ (s.setPending v).adcs = s.adcs ∧
      (s.setPending v).vsense = s.vsense ∧ (s.setPending v).aux = s.aux ∧
      (s.setPending v).auxSequence = s.auxSequence ∧ (s.setPending v).rails = s.rails ∧
      (s.setPending v).slots = s.slots ∧ (s.setPending v).engine = s.engine ∧ (s.setPending v).drive = s.drive ∧
      (s.setPending v).ring = s.ring ∧ (s.setPending v).metrology = s.metrology ∧
      (s.setPending v).energy = s.energy ∧ (s.setPending v).freeCount = s.freeCount ∧ (s.setPending v).pending = v :=
  ⟨rfl, rfl, rfl, rfl, rfl, rfl, rfl, rfl, rfl, rfl, rfl, rfl, rfl, rfl, rfl, rfl, rfl, rfl, rfl, rfl, rfl, rfl, rfl, rfl, rfl, rfl, rfl, rfl, rfl, rfl, rfl⟩

end Sys2Proof.Machine
end

