-- ==== Sys2Proof/Laws/Keeps.lean ====
section
/-! SUPPORT. What every operation keeps: the canonical lists, outputs that never short a supply, and all that lies outside
the extent of the operation, given as a mask of parts and groups of objects. -/

set_option Elab.async false

namespace Sys2Proof.Machine

/-! ### Cells -/

theorem cellsAscend_cons {α : Type} (c : Nat × α) (l : List (Nat × α)) :
    cellsAscend (c :: l) = true ↔ cellsAscend l = true ∧ ∀ d ∈ l, c.1 < d.1 := by
  obtain ⟨k, v⟩ := c
  induction l generalizing k v with
  | nil => simp [cellsAscend]
  | cons d l ih =>
    obtain ⟨j, w⟩ := d
    simp only [cellsAscend, Bool.and_eq_true, Nat.blt_eq]
    rw [ih j w]
    constructor
    · rintro ⟨h1, h2, h3⟩
      refine ⟨⟨h2, h3⟩, ?_⟩
      intro x hx
      rcases List.mem_cons.1 hx with rfl | hx
      · exact h1
      · exact Nat.lt_trans h1 (h3 x hx)
    · rintro ⟨⟨h2, h3⟩, h4⟩
      exact ⟨h4 (j, w) (List.mem_cons_self ..), h2, h3⟩
theorem mem_cellPut {α : Type} (l : List (Nat × α)) (k : Nat) (v : α) (d : Nat × α) (h : d ∈ cellPut l k v) :
    d = (k, v) ∨ d ∈ l := by
  induction l with
  | nil => simp [cellPut] at h; exact .inl h
  | cons c l ih =>
    obtain ⟨i, w⟩ := c
    unfold cellPut at h
    split at h
    · rcases List.mem_cons.1 h with h | h
      · exact .inl h
      · exact .inr (List.mem_cons_of_mem _ h)
    · split at h
      · rcases List.mem_cons.1 h with h | h
        · exact .inl h
        · exact .inr h
      · rcases List.mem_cons.1 h with h | h
        · exact .inr (h ▸ List.mem_cons_self ..)
        · rcases ih h with h | h
          · exact .inl h
          · exact .inr (List.mem_cons_of_mem _ h)
theorem mem_cellDrop {α : Type} (l : List (Nat × α)) (k : Nat) (d : Nat × α) (h : d ∈ cellDrop l k) : d ∈ l := by
  induction l with
  | nil => simp [cellDrop] at h
  | cons c l ih =>
    obtain ⟨i, w⟩ := c
    unfold cellDrop at h
    split at h
    · exact List.mem_cons_of_mem _ h
    · split at h
      · exact h
      · rcases List.mem_cons.1 h with h | h
        · exact h ▸ List.mem_cons_self ..
        · exact List.mem_cons_of_mem _ (ih h)
theorem cellPut_ascend {α : Type} (l : List (Nat × α)) (k : Nat) (v : α) (h : cellsAscend l = true) :
    cellsAscend (cellPut l k v) = true := by
  induction l with
  | nil => rfl
  | cons c l ih =>
    obtain ⟨i, w⟩ := c
    have hc := (cellsAscend_cons _ _).1 h
    unfold cellPut
    split
    · next he => subst he; exact (cellsAscend_cons _ _).2 ⟨hc.1, hc.2⟩
    · split
      · next hne hlt =>
        refine (cellsAscend_cons _ _).2 ⟨h, ?_⟩
        intro d hd
        rcases List.mem_cons.1 hd with rfl | hd
        · exact hlt
        · exact Nat.lt_trans hlt (hc.2 d hd)
      · next hne hlt =>
        refine (cellsAscend_cons _ _).2 ⟨ih hc.1, ?_⟩
        intro d hd
        rcases mem_cellPut _ _ _ _ hd with rfl | hd
        · show i < k; omega
        · exact hc.2 d hd
theorem cellDrop_ascend {α : Type} (l : List (Nat × α)) (k : Nat) (h : cellsAscend l = true) :
    cellsAscend (cellDrop l k) = true := by
  induction l with
  | nil => rfl
  | cons c l ih =>
    obtain ⟨i, w⟩ := c
    have hc := (cellsAscend_cons _ _).1 h
    unfold cellDrop
    split
    · exact hc.1
    · split
      · exact h
      · exact (cellsAscend_cons _ _).2 ⟨ih hc.1, fun d hd => hc.2 d (mem_cellDrop _ _ _ hd)⟩
theorem filter_ascend {α : Type} (l : List (Nat × α)) (f : Nat × α → Bool) (h : cellsAscend l = true) :
    cellsAscend (l.filter f) = true := by
  induction l with
  | nil => rfl
  | cons c l ih =>
    have hc := (cellsAscend_cons _ _).1 h
    rw [List.filter_cons]
    split
    · exact (cellsAscend_cons _ _).2 ⟨ih hc.1, fun d hd => hc.2 d (List.mem_filter.1 hd).1⟩
    · exact ih hc.1
theorem odPut_wf (od : List (Nat × Int)) (k : Nat) (v : Int) (h : odWf od = true) : odWf (odPut od k v) = true := by
  unfold odWf at *
  simp only [Bool.and_eq_true, List.all_eq_true, bne_iff_ne, ne_eq] at *
  obtain ⟨h1, h2⟩ := h
  unfold odPut
  split
  · exact ⟨cellDrop_ascend _ _ h1, fun d hd => h2 d (mem_cellDrop _ _ _ hd)⟩
  · next hv =>
    refine ⟨cellPut_ascend _ _ _ h1, fun d hd => ?_⟩
    rcases mem_cellPut _ _ _ _ hd with rfl | hd
    · exact hv
    · exact h2 d hd
theorem filter_wf (od : List (Nat × Int)) (f : Nat × Int → Bool) (h : odWf od = true) : odWf (od.filter f) = true := by
  unfold odWf at *
  simp only [Bool.and_eq_true, List.all_eq_true] at *
  exact ⟨filter_ascend _ _ h.1, fun d hd => h.2 d (List.mem_filter.1 hd).1⟩

/-! ### Masks -/

end Sys2Proof.Machine

namespace Sys2Proof

open Sys2Proof.Machine

/-- The position of a part in a mask; position 0 stands for every object, 31 for the groups not listed. -/
def StatePart.bit (p : StatePart) : Nat :=
  match p with
  | .dom => 1
  | .stale => 2
  | .fabric => 3
  | .recorder => 4
  | .clients => 5
  | .avs => 6
  | .can => 7
  | .gsp => 8
  | .life => 9
  | .supply => 10
  | .clocks => 11
  | .rtc => 12
  | .safety => 13
  | .outline => 14
  | .flash => 15
  | .meridian => 16
  | .phases => 17
  | .adcs => 18
  | .vsense => 19
  | .aux => 20
  | .auxSequence => 21
  | .rails => 22
  | .slots => 23
  | .engine => 24
  | .drive => 25
  | .ring => 26
  | .metrology => 27
  | .energy => 28
  | .freeCount => 29
  | .pending => 30

theorem StatePart.same_refl (p : StatePart) (s : State) : p.same s s := by cases p <;> rfl

theorem StatePart.same_trans {p : StatePart} {a b c : State} (h : p.same a b) (k : p.same b c) : p.same a c := by
  cases p <;> exact Eq.trans k h

end Sys2Proof

namespace Sys2Proof.Machine

/-- The groups of objects that some operation writes by name, at positions 32 on. -/
def groupList : List Nat := [0x1000, 0x2008, 0x2010, 0x2020, 0x2028, 0x2030, 0x2040, 0x2100, 0x2110, 0x2120, 0x2128, 0x2130,
  0x2138, 0x2200, 0x2210, 0x2300, 0x2310, 0x2320, 0x2330, 0x2340, 0x2400, 0x2500, 0x2510, 0x2520,
  0x2600, 0x2610, 0x2620, 0x2630, 0x3000, 0x3002, 0x3010, 0x3020, 0x3030, 0x3040, 0x3048, 0x3050,
  0x3060, 0x3800, 0x3810, 0x3820, 0x3830, 0x3840, 0x3850, 0x4001, 0x4002, 0x4004, 0x4005, 0x4006,
  0x4007, 0x4110, 0x4120, 0x4130, 0x5000, 0x5030, 0x5040, 0x5050, 0x5068, 0x5070, 0x5800, 0x5810,
  0x5820, 0x5830, 0x5F00]

/-- The position of a group, counted from `n` along a list. -/
def groupBit (l : List Nat) (g n : Nat) : Nat :=
  match l with
  | [] => 31
  | h :: rest => if h = g then n else groupBit rest g (n + 1)

/-- The position of an index. -/
def siteOf (ix : Nat) : Nat := groupBit groupList (Safety.group ix) 32

/-- A mask admits a write to an index. -/
def siteIn (W ix : Nat) : Bool := W.testBit 0 || W.testBit (siteOf ix)

/-- Every position of the first mask is one of the second. -/
def maskLe (m W : Nat) : Bool := Nat.beq (Nat.land m W) m

theorem maskLe_bit {m W : Nat} (h : maskLe m W = true) (i : Nat) (hi : W.testBit i = false) : m.testBit i = false := by
  have e : m &&& W = m := Nat.eq_of_beq_eq_true h
  rw [← e, Nat.testBit_and, hi, Bool.and_false]

theorem maskLe_has {m W : Nat} (h : maskLe m W = true) (i : Nat) (hi : m.testBit i = true) : W.testBit i = true := by
  cases hw : W.testBit i with
  | true => rfl
  | false => rw [maskLe_bit h i hw] at hi; exact hi

theorem maskLe_trans {a b c : Nat} (h : maskLe a b = true) (k : maskLe b c = true) : maskLe a c = true := by
  have e : a &&& b = a := Nat.eq_of_beq_eq_true h
  have f : b &&& c = b := Nat.eq_of_beq_eq_true k
  unfold maskLe
  show Nat.beq (a &&& c) a = true
  rw [← e, Nat.and_assoc, f, e]
  exact Nat.beq_refl a

theorem maskLe_refl (m : Nat) : maskLe m m = true := by
  unfold maskLe
  show Nat.beq (m &&& m) m = true
  rw [Nat.and_self]
  exact Nat.beq_refl m

theorem siteIn_mono {m W ix : Nat} (h : maskLe m W = true) (hi : siteIn m ix = true) : siteIn W ix = true := by
  cases hw : siteIn W ix with
  | true => rfl
  | false =>
    unfold siteIn at hi hw
    rw [Bool.or_eq_false_iff] at hw
    rw [maskLe_bit h _ hw.1, maskLe_bit h _ hw.2] at hi
    exact hi

theorem siteIn_all {W ix : Nat} (h : W.testBit 0 = true) : siteIn W ix = true := by
  unfold siteIn
  rw [h, Bool.true_or]

theorem group_railIx (r : RailId) (off : Nat) (h : off < 256) : Safety.group (railIx r off) = 0x3000 + off := by
  have := r.isLt
  unfold Safety.group railIx
  rw [if_neg (by omega), if_pos (by omega)]
  omega

theorem group_phaseIx (p : PhaseId) (off : Nat) (h : off < 16) : Safety.group (phaseIx p off) = 0x4000 + off := by
  have := p.isLt
  unfold Safety.group phaseIx
  rw [if_neg (by omega), if_neg (by omega), if_neg (by omega), if_pos (by omega)]
  omega

theorem group_slotIx (k : SlotId) (n : Nat) (h : n < 5) : Safety.group (0x3810 + 16 * n + k.val) = 0x3810 + 16 * n := by
  have := k.isLt
  unfold Safety.group
  rw [if_neg (by omega), if_neg (by omega), if_pos (by omega)]
  omega

/-- The position of a group by its base index. -/
def bitIn (W g : Nat) : Bool := W.testBit (groupBit groupList g 32)

theorem bitIn_mono {m W g : Nat} (h : maskLe m W = true) (k : bitIn m g = true) : bitIn W g = true :=
  maskLe_has h _ k

theorem siteIn_group {W ix g : Nat} (e : Safety.group ix = g) (h : bitIn W g = true) : siteIn W ix = true := by
  subst e
  show (W.testBit 0 || bitIn W (Safety.group ix)) = true
  rw [h, Bool.or_true]

theorem siteIn_rail {W : Nat} (r : RailId) (off : Nat) (h : off < 256) (k : bitIn W (0x3000 + off) = true) :
    siteIn W (railIx r off) = true := siteIn_group (group_railIx r off h) k

theorem siteIn_phase {W : Nat} (p : PhaseId) (off : Nat) (h : off < 16) (k : bitIn W (0x4000 + off) = true) :
    siteIn W (phaseIx p off) = true := siteIn_group (group_phaseIx p off h) k

theorem site_slot {m W : Nat} (n : Nat) (k : SlotId) (hW : maskLe m W = true)
    (h : (n = 0x3810 ∧ m.testBit 70 = true) ∨ (n = 0x3840 ∧ m.testBit 73 = true)) : siteIn W (n + k.val) = true := by
  rcases h with ⟨e, h⟩ | ⟨e, h⟩ <;> subst e
  · exact siteIn_group (group_slotIx k 0 (by decide)) (maskLe_has hW _ h)
  · exact siteIn_group (group_slotIx k 3 (by decide)) (maskLe_has hW _ h)

theorem site_slotIx {m W : Nat} (k : SlotId) (hW : maskLe m W = true) (h : m.testBit 70 = true) :
    siteIn W (slotIx k) = true := site_slot 0x3810 k hW (.inl ⟨rfl, h⟩)

theorem site_1000 {m W : Nat} (hW : maskLe m W = true) (h : m.testBit 32 = true) : siteIn W 0x1000 = true :=
  siteIn_mono hW (by unfold siteIn; rw [show siteOf 0x1000 = 32 from rfl, h, Bool.or_true])

theorem site_1003 {m W : Nat} (hW : maskLe m W = true) (h : m.testBit 32 = true) : siteIn W 0x1003 = true :=
  siteIn_mono hW (by unfold siteIn; rw [show siteOf 0x1003 = 32 from rfl, h, Bool.or_true])

theorem site_2008 {m W : Nat} (hW : maskLe m W = true) (h : m.testBit 33 = true) : siteIn W 0x2008 = true :=
  siteIn_mono hW (by unfold siteIn; rw [show siteOf 0x2008 = 33 from rfl, h, Bool.or_true])

theorem site_2010 {m W : Nat} (hW : maskLe m W = true) (h : m.testBit 34 = true) : siteIn W 0x2010 = true :=
  siteIn_mono hW (by unfold siteIn; rw [show siteOf 0x2010 = 34 from rfl, h, Bool.or_true])

theorem site_2020 {m W : Nat} (hW : maskLe m W = true) (h : m.testBit 35 = true) : siteIn W 0x2020 = true :=
  siteIn_mono hW (by unfold siteIn; rw [show siteOf 0x2020 = 35 from rfl, h, Bool.or_true])

theorem site_2028 {m W : Nat} (hW : maskLe m W = true) (h : m.testBit 36 = true) : siteIn W 0x2028 = true :=
  siteIn_mono hW (by unfold siteIn; rw [show siteOf 0x2028 = 36 from rfl, h, Bool.or_true])

theorem site_2030 {m W : Nat} (hW : maskLe m W = true) (h : m.testBit 37 = true) : siteIn W 0x2030 = true :=
  siteIn_mono hW (by unfold siteIn; rw [show siteOf 0x2030 = 37 from rfl, h, Bool.or_true])

theorem site_2040 {m W : Nat} (hW : maskLe m W = true) (h : m.testBit 38 = true) : siteIn W 0x2040 = true :=
  siteIn_mono hW (by unfold siteIn; rw [show siteOf 0x2040 = 38 from rfl, h, Bool.or_true])

theorem site_2100 {m W : Nat} (hW : maskLe m W = true) (h : m.testBit 39 = true) : siteIn W 0x2100 = true :=
  siteIn_mono hW (by unfold siteIn; rw [show siteOf 0x2100 = 39 from rfl, h, Bool.or_true])

theorem site_2110 {m W : Nat} (hW : maskLe m W = true) (h : m.testBit 40 = true) : siteIn W 0x2110 = true :=
  siteIn_mono hW (by unfold siteIn; rw [show siteOf 0x2110 = 40 from rfl, h, Bool.or_true])

theorem site_2120 {m W : Nat} (hW : maskLe m W = true) (h : m.testBit 41 = true) : siteIn W 0x2120 = true :=
  siteIn_mono hW (by unfold siteIn; rw [show siteOf 0x2120 = 41 from rfl, h, Bool.or_true])

theorem site_2128 {m W : Nat} (hW : maskLe m W = true) (h : m.testBit 42 = true) : siteIn W 0x2128 = true :=
  siteIn_mono hW (by unfold siteIn; rw [show siteOf 0x2128 = 42 from rfl, h, Bool.or_true])

theorem site_2130 {m W : Nat} (hW : maskLe m W = true) (h : m.testBit 43 = true) : siteIn W 0x2130 = true :=
  siteIn_mono hW (by unfold siteIn; rw [show siteOf 0x2130 = 43 from rfl, h, Bool.or_true])

theorem site_2138 {m W : Nat} (hW : maskLe m W = true) (h : m.testBit 44 = true) : siteIn W 0x2138 = true :=
  siteIn_mono hW (by unfold siteIn; rw [show siteOf 0x2138 = 44 from rfl, h, Bool.or_true])

theorem site_2200 {m W : Nat} (hW : maskLe m W = true) (h : m.testBit 45 = true) : siteIn W 0x2200 = true :=
  siteIn_mono hW (by unfold siteIn; rw [show siteOf 0x2200 = 45 from rfl, h, Bool.or_true])

theorem site_2210 {m W : Nat} (hW : maskLe m W = true) (h : m.testBit 46 = true) : siteIn W 0x2210 = true :=
  siteIn_mono hW (by unfold siteIn; rw [show siteOf 0x2210 = 46 from rfl, h, Bool.or_true])

theorem site_2300 {m W : Nat} (hW : maskLe m W = true) (h : m.testBit 47 = true) : siteIn W 0x2300 = true :=
  siteIn_mono hW (by unfold siteIn; rw [show siteOf 0x2300 = 47 from rfl, h, Bool.or_true])

theorem site_2320 {m W : Nat} (hW : maskLe m W = true) (h : m.testBit 49 = true) : siteIn W 0x2320 = true :=
  siteIn_mono hW (by unfold siteIn; rw [show siteOf 0x2320 = 49 from rfl, h, Bool.or_true])

theorem site_2330 {m W : Nat} (hW : maskLe m W = true) (h : m.testBit 50 = true) : siteIn W 0x2330 = true :=
  siteIn_mono hW (by unfold siteIn; rw [show siteOf 0x2330 = 50 from rfl, h, Bool.or_true])

theorem site_2340 {m W : Nat} (hW : maskLe m W = true) (h : m.testBit 51 = true) : siteIn W 0x2340 = true :=
  siteIn_mono hW (by unfold siteIn; rw [show siteOf 0x2340 = 51 from rfl, h, Bool.or_true])

theorem site_2400 {m W : Nat} (hW : maskLe m W = true) (h : m.testBit 52 = true) : siteIn W 0x2400 = true :=
  siteIn_mono hW (by unfold siteIn; rw [show siteOf 0x2400 = 52 from rfl, h, Bool.or_true])

theorem site_2500 {m W : Nat} (hW : maskLe m W = true) (h : m.testBit 53 = true) : siteIn W 0x2500 = true :=
  siteIn_mono hW (by unfold siteIn; rw [show siteOf 0x2500 = 53 from rfl, h, Bool.or_true])

theorem site_2510 {m W : Nat} (hW : maskLe m W = true) (h : m.testBit 54 = true) : siteIn W 0x2510 = true :=
  siteIn_mono hW (by unfold siteIn; rw [show siteOf 0x2510 = 54 from rfl, h, Bool.or_true])

theorem site_2520 {m W : Nat} (hW : maskLe m W = true) (h : m.testBit 55 = true) : siteIn W 0x2520 = true :=
  siteIn_mono hW (by unfold siteIn; rw [show siteOf 0x2520 = 55 from rfl, h, Bool.or_true])

theorem site_2600 {m W : Nat} (hW : maskLe m W = true) (h : m.testBit 56 = true) : siteIn W 0x2600 = true :=
  siteIn_mono hW (by unfold siteIn; rw [show siteOf 0x2600 = 56 from rfl, h, Bool.or_true])

theorem site_2610 {m W : Nat} (hW : maskLe m W = true) (h : m.testBit 57 = true) : siteIn W 0x2610 = true :=
  siteIn_mono hW (by unfold siteIn; rw [show siteOf 0x2610 = 57 from rfl, h, Bool.or_true])

theorem site_2620 {m W : Nat} (hW : maskLe m W = true) (h : m.testBit 58 = true) : siteIn W 0x2620 = true :=
  siteIn_mono hW (by unfold siteIn; rw [show siteOf 0x2620 = 58 from rfl, h, Bool.or_true])

theorem site_2630 {m W : Nat} (hW : maskLe m W = true) (h : m.testBit 59 = true) : siteIn W 0x2630 = true :=
  siteIn_mono hW (by unfold siteIn; rw [show siteOf 0x2630 = 59 from rfl, h, Bool.or_true])

theorem site_3400 {m W : Nat} (hW : maskLe m W = true) (h : m.testBit 60 = true) : siteIn W 0x3400 = true :=
  siteIn_mono hW (by unfold siteIn; rw [show siteOf 0x3400 = 60 from rfl, h, Bool.or_true])

theorem site_3440 {m W : Nat} (hW : maskLe m W = true) (h : m.testBit 65 = true) : siteIn W 0x3440 = true :=
  siteIn_mono hW (by unfold siteIn; rw [show siteOf 0x3440 = 65 from rfl, h, Bool.or_true])

theorem site_3448 {m W : Nat} (hW : maskLe m W = true) (h : m.testBit 66 = true) : siteIn W 0x3448 = true :=
  siteIn_mono hW (by unfold siteIn; rw [show siteOf 0x3448 = 66 from rfl, h, Bool.or_true])

theorem site_3800 {m W : Nat} (hW : maskLe m W = true) (h : m.testBit 69 = true) : siteIn W 0x3800 = true :=
  siteIn_mono hW (by unfold siteIn; rw [show siteOf 0x3800 = 69 from rfl, h, Bool.or_true])

theorem site_4110 {m W : Nat} (hW : maskLe m W = true) (h : m.testBit 81 = true) : siteIn W 0x4110 = true :=
  siteIn_mono hW (by unfold siteIn; rw [show siteOf 0x4110 = 81 from rfl, h, Bool.or_true])

theorem site_4120 {m W : Nat} (hW : maskLe m W = true) (h : m.testBit 82 = true) : siteIn W 0x4120 = true :=
  siteIn_mono hW (by unfold siteIn; rw [show siteOf 0x4120 = 82 from rfl, h, Bool.or_true])

theorem site_4130 {m W : Nat} (hW : maskLe m W = true) (h : m.testBit 83 = true) : siteIn W 0x4130 = true :=
  siteIn_mono hW (by unfold siteIn; rw [show siteOf 0x4130 = 83 from rfl, h, Bool.or_true])

theorem site_5000 {m W : Nat} (hW : maskLe m W = true) (h : m.testBit 84 = true) : siteIn W 0x5000 = true :=
  siteIn_mono hW (by unfold siteIn; rw [show siteOf 0x5000 = 84 from rfl, h, Bool.or_true])

theorem site_5030 {m W : Nat} (hW : maskLe m W = true) (h : m.testBit 85 = true) : siteIn W 0x5030 = true :=
  siteIn_mono hW (by unfold siteIn; rw [show siteOf 0x5030 = 85 from rfl, h, Bool.or_true])

theorem site_5040 {m W : Nat} (hW : maskLe m W = true) (h : m.testBit 86 = true) : siteIn W 0x5040 = true :=
  siteIn_mono hW (by unfold siteIn; rw [show siteOf 0x5040 = 86 from rfl, h, Bool.or_true])

theorem site_5043 {m W : Nat} (hW : maskLe m W = true) (h : m.testBit 86 = true) : siteIn W 0x5043 = true :=
  siteIn_mono hW (by unfold siteIn; rw [show siteOf 0x5043 = 86 from rfl, h, Bool.or_true])

theorem site_5050 {m W : Nat} (hW : maskLe m W = true) (h : m.testBit 87 = true) : siteIn W 0x5050 = true :=
  siteIn_mono hW (by unfold siteIn; rw [show siteOf 0x5050 = 87 from rfl, h, Bool.or_true])

theorem site_5068 {m W : Nat} (hW : maskLe m W = true) (h : m.testBit 88 = true) : siteIn W 0x5068 = true :=
  siteIn_mono hW (by unfold siteIn; rw [show siteOf 0x5068 = 88 from rfl, h, Bool.or_true])

theorem site_5070 {m W : Nat} (hW : maskLe m W = true) (h : m.testBit 89 = true) : siteIn W 0x5070 = true :=
  siteIn_mono hW (by unfold siteIn; rw [show siteOf 0x5070 = 89 from rfl, h, Bool.or_true])

theorem site_5800 {m W : Nat} (hW : maskLe m W = true) (h : m.testBit 90 = true) : siteIn W 0x5800 = true :=
  siteIn_mono hW (by unfold siteIn; rw [show siteOf 0x5800 = 90 from rfl, h, Bool.or_true])

theorem site_5810 {m W : Nat} (hW : maskLe m W = true) (h : m.testBit 91 = true) : siteIn W 0x5810 = true :=
  siteIn_mono hW (by unfold siteIn; rw [show siteOf 0x5810 = 91 from rfl, h, Bool.or_true])

theorem site_5820 {m W : Nat} (hW : maskLe m W = true) (h : m.testBit 92 = true) : siteIn W 0x5820 = true :=
  siteIn_mono hW (by unfold siteIn; rw [show siteOf 0x5820 = 92 from rfl, h, Bool.or_true])

theorem site_5830 {m W : Nat} (hW : maskLe m W = true) (h : m.testBit 93 = true) : siteIn W 0x5830 = true :=
  siteIn_mono hW (by unfold siteIn; rw [show siteOf 0x5830 = 93 from rfl, h, Bool.or_true])

theorem site_5f00 {m W : Nat} (hW : maskLe m W = true) (h : m.testBit 94 = true) : siteIn W 0x5F00 = true :=
  siteIn_mono hW (by unfold siteIn; rw [show siteOf 0x5F00 = 94 from rfl, h, Bool.or_true])

theorem site_railbit_00 {m W : Nat} (hW : maskLe m W = true) (h : m.testBit 60 = true) :
    0x00 < 256 ∧ bitIn W (0x3000 + 0x00) = true := ⟨by decide, bitIn_mono hW h⟩

theorem site_rail_00 {m W : Nat} (r : RailId) (hW : maskLe m W = true) (h : m.testBit 60 = true) :
    siteIn W (railIx r 0x00) = true := siteIn_rail r _ (by decide) (bitIn_mono hW h)

theorem site_railbit_02 {m W : Nat} (hW : maskLe m W = true) (h : m.testBit 61 = true) :
    0x02 < 256 ∧ bitIn W (0x3000 + 0x02) = true := ⟨by decide, bitIn_mono hW h⟩

theorem site_rail_02 {m W : Nat} (r : RailId) (hW : maskLe m W = true) (h : m.testBit 61 = true) :
    siteIn W (railIx r 0x02) = true := siteIn_rail r _ (by decide) (bitIn_mono hW h)

theorem site_railbit_10 {m W : Nat} (hW : maskLe m W = true) (h : m.testBit 62 = true) :
    0x10 < 256 ∧ bitIn W (0x3000 + 0x10) = true := ⟨by decide, bitIn_mono hW h⟩

theorem site_rail_10 {m W : Nat} (r : RailId) (hW : maskLe m W = true) (h : m.testBit 62 = true) :
    siteIn W (railIx r 0x10) = true := siteIn_rail r _ (by decide) (bitIn_mono hW h)

theorem site_railbit_20 {m W : Nat} (hW : maskLe m W = true) (h : m.testBit 63 = true) :
    0x20 < 256 ∧ bitIn W (0x3000 + 0x20) = true := ⟨by decide, bitIn_mono hW h⟩

theorem site_rail_20 {m W : Nat} (r : RailId) (hW : maskLe m W = true) (h : m.testBit 63 = true) :
    siteIn W (railIx r 0x20) = true := siteIn_rail r _ (by decide) (bitIn_mono hW h)

theorem site_railbit_30 {m W : Nat} (hW : maskLe m W = true) (h : m.testBit 64 = true) :
    0x30 < 256 ∧ bitIn W (0x3000 + 0x30) = true := ⟨by decide, bitIn_mono hW h⟩

theorem site_rail_30 {m W : Nat} (r : RailId) (hW : maskLe m W = true) (h : m.testBit 64 = true) :
    siteIn W (railIx r 0x30) = true := siteIn_rail r _ (by decide) (bitIn_mono hW h)

theorem site_railbit_40 {m W : Nat} (hW : maskLe m W = true) (h : m.testBit 65 = true) :
    0x40 < 256 ∧ bitIn W (0x3000 + 0x40) = true := ⟨by decide, bitIn_mono hW h⟩

theorem site_rail_40 {m W : Nat} (r : RailId) (hW : maskLe m W = true) (h : m.testBit 65 = true) :
    siteIn W (railIx r 0x40) = true := siteIn_rail r _ (by decide) (bitIn_mono hW h)

theorem site_railbit_48 {m W : Nat} (hW : maskLe m W = true) (h : m.testBit 66 = true) :
    0x48 < 256 ∧ bitIn W (0x3000 + 0x48) = true := ⟨by decide, bitIn_mono hW h⟩

theorem site_rail_48 {m W : Nat} (r : RailId) (hW : maskLe m W = true) (h : m.testBit 66 = true) :
    siteIn W (railIx r 0x48) = true := siteIn_rail r _ (by decide) (bitIn_mono hW h)

theorem site_railbit_50 {m W : Nat} (hW : maskLe m W = true) (h : m.testBit 67 = true) :
    0x50 < 256 ∧ bitIn W (0x3000 + 0x50) = true := ⟨by decide, bitIn_mono hW h⟩

theorem site_rail_50 {m W : Nat} (r : RailId) (hW : maskLe m W = true) (h : m.testBit 67 = true) :
    siteIn W (railIx r 0x50) = true := siteIn_rail r _ (by decide) (bitIn_mono hW h)

theorem site_railbit_60 {m W : Nat} (hW : maskLe m W = true) (h : m.testBit 68 = true) :
    0x60 < 256 ∧ bitIn W (0x3000 + 0x60) = true := ⟨by decide, bitIn_mono hW h⟩

theorem site_rail_60 {m W : Nat} (r : RailId) (hW : maskLe m W = true) (h : m.testBit 68 = true) :
    siteIn W (railIx r 0x60) = true := siteIn_rail r _ (by decide) (bitIn_mono hW h)

theorem site_phasebit_1 {m W : Nat} (hW : maskLe m W = true) (h : m.testBit 75 = true) :
    0x1 < 16 ∧ bitIn W (0x4000 + 0x1) = true := ⟨by decide, bitIn_mono hW h⟩

theorem site_phase_1 {m W : Nat} (p : PhaseId) (hW : maskLe m W = true) (h : m.testBit 75 = true) :
    siteIn W (phaseIx p 0x1) = true := siteIn_phase p _ (by decide) (bitIn_mono hW h)

theorem site_phasebit_2 {m W : Nat} (hW : maskLe m W = true) (h : m.testBit 76 = true) :
    0x2 < 16 ∧ bitIn W (0x4000 + 0x2) = true := ⟨by decide, bitIn_mono hW h⟩

theorem site_phase_2 {m W : Nat} (p : PhaseId) (hW : maskLe m W = true) (h : m.testBit 76 = true) :
    siteIn W (phaseIx p 0x2) = true := siteIn_phase p _ (by decide) (bitIn_mono hW h)

theorem site_phasebit_5 {m W : Nat} (hW : maskLe m W = true) (h : m.testBit 78 = true) :
    0x5 < 16 ∧ bitIn W (0x4000 + 0x5) = true := ⟨by decide, bitIn_mono hW h⟩

theorem site_phase_5 {m W : Nat} (p : PhaseId) (hW : maskLe m W = true) (h : m.testBit 78 = true) :
    siteIn W (phaseIx p 0x5) = true := siteIn_phase p _ (by decide) (bitIn_mono hW h)

theorem site_phasebit_6 {m W : Nat} (hW : maskLe m W = true) (h : m.testBit 79 = true) :
    0x6 < 16 ∧ bitIn W (0x4000 + 0x6) = true := ⟨by decide, bitIn_mono hW h⟩

theorem site_phase_6 {m W : Nat} (p : PhaseId) (hW : maskLe m W = true) (h : m.testBit 79 = true) :
    siteIn W (phaseIx p 0x6) = true := siteIn_phase p _ (by decide) (bitIn_mono hW h)

theorem site_phasebit_7 {m W : Nat} (hW : maskLe m W = true) (h : m.testBit 80 = true) :
    0x7 < 16 ∧ bitIn W (0x4000 + 0x7) = true := ⟨by decide, bitIn_mono hW h⟩

theorem site_phase_7 {m W : Nat} (p : PhaseId) (hW : maskLe m W = true) (h : m.testBit 80 = true) :
    siteIn W (phaseIx p 0x7) = true := siteIn_phase p _ (by decide) (bitIn_mono hW h)

/-! ### The relation -/

/-- What an operation with the mask keeps. -/
structure Keeps (W : Nat) (s t : State) : Prop where
  canonical : Safety.canonical s = true → Safety.canonical t = true
  noShoot : Safety.noShoot s = true → Safety.noShoot t = true
  parts : ∀ p : StatePart, W.testBit p.bit = false → p.same s t
  objs : Safety.canonical s = true → ∀ k : Nat, siteIn W (k / 256) = false → odGet t.od k = odGet s.od k

theorem Keeps.refl (W : Nat) (s : State) : Keeps W s s := ⟨id, id, fun p _ => p.same_refl s, fun _ _ _ => rfl⟩

theorem Keeps.trans {W : Nat} {a b c : State} (h : Keeps W a b) (k : Keeps W b c) : Keeps W a c :=
  ⟨fun x => k.canonical (h.canonical x), fun x => k.noShoot (h.noShoot x),
    fun p hp => StatePart.same_trans (h.parts p hp) (k.parts p hp), fun c x hx => (k.objs (h.canonical c) x hx).trans (h.objs c x hx)⟩

theorem Keeps.mono {m W : Nat} {a b : State} (hW : maskLe m W = true) (h : Keeps m a b) : Keeps W a b :=
  ⟨h.canonical, h.noShoot, fun p hp => h.parts p (maskLe_bit hW _ hp), fun c x hx => h.objs c x (by
    cases e : siteIn m (x / 256) with
    | false => rfl
    | true => exact absurd (siteIn_mono hW e) (by rw [hx]; exact Bool.false_ne_true))⟩

/-- One operation more. -/
theorem Keeps.step {m W : Nat} {a b c : State} (h : Keeps m b c) (hW : maskLe m W = true) (k : Keeps W a b) :
    Keeps W a c := k.trans (h.mono hW)

theorem Keeps.foldl {α : Type} {W : Nat} {x s : State} (f : State → α → State) (l : List α) (hs : Keeps W x s)
    (h : ∀ s a, Keeps W s (f s a)) : Keeps W x (l.foldl f s) := by
  induction l generalizing s with
  | nil => exact hs
  | cons a l ih => exact ih (hs.trans (h s a))

theorem Keeps.foldl_mem {α : Type} {W : Nat} {x s : State} (f : State → α → State) (l : List α) (hs : Keeps W x s)
    (h : ∀ s a, a ∈ l → Keeps W s (f s a)) : Keeps W x (l.foldl f s) := by
  induction l generalizing s with
  | nil => exact hs
  | cons a l ih =>
    exact ih (hs.trans (h s a (List.mem_cons_self ..))) (fun s b hb => h s b (List.mem_cons_of_mem _ hb))

theorem Keeps.foldl_fst {α β : Type} {W : Nat} {x : State} {s : State × β} (f : State × β → α → State × β)
    (l : List α) (hs : Keeps W x s.1) (h : ∀ s a, Keeps W s.1 (f s a).1) : Keeps W x (l.foldl f s).1 := by
  induction l generalizing s with
  | nil => exact hs
  | cons a l ih => exact ih (hs.trans (h s a))

theorem Keeps.ite {W : Nat} {x a b : State} {c : Prop} [Decidable c] (ha : Keeps W x a) (hb : Keeps W x b) :
    Keeps W x (if c then a else b) := by
  split <;> assumption

theorem apart_ite {c : Prop} [Decidable c] {a b : Bool × Bool} (ha : (a.1 && a.2) = false)
    (hb : (b.1 && b.2) = false) : ((if c then a else b).1 && (if c then a else b).2) = false := by
  split <;> assumption

theorem Safety.noShoot_iff (s : State) :
    Safety.noShoot s = true ↔ ∀ p : PhaseId, (s.phases[p].outH && s.phases[p].outL) = false := by
  simp only [Safety.noShoot, phaseIds, List.all_eq_true, List.mem_finRange, true_implies, Bool.not_eq_true']

/-- A change of one part alone. -/
theorem Keeps.part {s t : State} (q : StatePart) (h1 : Safety.canonical s = true → Safety.canonical t = true)
    (h2 : Safety.noShoot s = true → Safety.noShoot t = true) (h3 : t.od = s.od)
    (h4 : ∀ p : StatePart, p ≠ q → p.same s t) : Keeps (2 ^ q.bit) s t :=
  ⟨h1, h2, fun p hp => h4 p (by
    intro e
    subst e
    rw [Nat.testBit_two_pow_self] at hp
    exact Bool.false_ne_true hp.symm), fun _ _ _ => by rw [h3]⟩

theorem State.setPhases_keeps {W : Nat} {x s : State} (v : Vector Phase 12) (hW : maskLe 0x20000 W = true)
    (hk : Keeps W x s) (h : Safety.noShoot s = true → Safety.noShoot (s.setPhases v) = true) :
    Keeps W x (s.setPhases v) :=
  have e : Keeps 0x20000 s (s.setPhases v) :=
    Keeps.part .phases id h rfl (fun p hp => by cases p <;> first | rfl | exact absurd rfl hp)
  e.step hW hk

theorem State.modPhase_keeps {W : Nat} {x s : State} (p : PhaseId) (f : Phase → Phase) (hW : maskLe 0x20000 W = true)
    (hk : Keeps W x s) (h : ∀ a, (a.outH && a.outL) = false → ((f a).outH && (f a).outL) = false) :
    Keeps W x (s.modPhase p f) := by
  refine State.setPhases_keeps _ hW hk ?_
  rw [Safety.noShoot_iff, Safety.noShoot_iff]
  intro hn q
  show (((s.phases.set p.val (f s.phases[p]) p.isLt)[q.val]'q.isLt).outH &&
    ((s.phases.set p.val (f s.phases[p]) p.isLt)[q.val]'q.isLt).outL) = false
  rw [Vector.getElem_set]
  split
  · exact h _ (hn p)
  · exact hn q

theorem State.mapPhases_keeps {W : Nat} {x s : State} (f : PhaseId → Phase → Phase) (hW : maskLe 0x20000 W = true)
    (hk : Keeps W x s) (h : ∀ p a, (a.outH && a.outL) = false → ((f p a).outH && (f p a).outL) = false) :
    Keeps W x (s.mapPhases f) := by
  refine State.setPhases_keeps _ hW hk ?_
  rw [Safety.noShoot_iff, Safety.noShoot_iff]
  intro hn q
  show (((Vector.ofFn fun p => f p s.phases[p])[q.val]'q.isLt).outH &&
    ((Vector.ofFn fun p => f p s.phases[p])[q.val]'q.isLt).outL) = false
  rw [Vector.getElem_ofFn]
  exact h _ _ (hn _)

theorem cellGet_put_ne {α : Type} (l : List (Nat × α)) (k j : Nat) (v : α) (h : j ≠ k) :
    cellGet (cellPut l k v) j = cellGet l j := by
  induction l with
  | nil =>
    simp only [cellPut, cellGet]
    rw [if_neg (Ne.symm h)]
    exact ite_self _
  | cons c l ih =>
    obtain ⟨i, w⟩ := c
    unfold cellPut
    split
    · next e =>
      subst e
      simp only [cellGet]
      rw [if_neg (Ne.symm h), if_neg (Ne.symm h)]
    · split
      · next hne hlt =>
        simp only [cellGet]
        rw [if_neg (Ne.symm h)]
        split
        · next hj => rw [if_neg (by omega), if_pos (by omega)]
        · rfl
      · next hne hlt =>
        simp only [cellGet]
        rw [ih]

theorem cellGet_put {α : Type} (l : List (Nat × α)) (k : Nat) (v : α) : cellGet (cellPut l k v) k = some v := by
  induction l with
  | nil => simp only [cellPut, cellGet, if_true]
  | cons c l ih =>
    obtain ⟨i, w⟩ := c
    unfold cellPut
    split
    · simp only [cellGet, if_true]
    · split
      · simp only [cellGet, if_true]
      · next h1 h2 =>
        simp only [cellGet]
        rw [if_neg h1, if_neg h2, ih]

theorem cellGet_drop {α : Type} (l : List (Nat × α)) (k : Nat) (hl : cellsAscend l = true) :
    cellGet (cellDrop l k) k = none := by
  induction l with
  | nil => rfl
  | cons c l ih =>
    obtain ⟨i, w⟩ := c
    have hc := (cellsAscend_cons _ _).1 hl
    unfold cellDrop
    split
    · next e =>
      subst e
      cases l with
      | nil => rfl
      | cons d l =>
        obtain ⟨m, x⟩ := d
        have hm : i < m := hc.2 (m, x) (List.mem_cons_self ..)
        simp only [cellGet]
        rw [if_neg (by omega), if_pos (by omega)]
    · split
      · next h1 h2 =>
        simp only [cellGet]
        rw [if_neg h1, if_pos h2]
      · next h1 h2 =>
        simp only [cellGet]
        rw [if_neg h1, if_neg h2, ih hc.1]

theorem cellGet_drop_ne {α : Type} (l : List (Nat × α)) (k j : Nat) (h : j ≠ k) (hl : cellsAscend l = true) :
    cellGet (cellDrop l k) j = cellGet l j := by
  induction l with
  | nil => rfl
  | cons c l ih =>
    obtain ⟨i, w⟩ := c
    have hc := (cellsAscend_cons _ _).1 hl
    unfold cellDrop
    split
    · next e =>
      subst e
      simp only [cellGet]
      rw [if_neg (Ne.symm h)]
      split
      · next hj =>
        cases l with
        | nil => rfl
        | cons d l =>
          obtain ⟨m, x⟩ := d
          have := hc.2 (m, x) (List.mem_cons_self ..)
          simp only [cellGet]
          rw [if_neg (by simp only at this; omega), if_pos (by simp only at this; omega)]
      · rfl
    · split
      · rfl
      · simp only [cellGet]
        rw [ih hc.1]

theorem cellGet_filter {α : Type} (l : List (Nat × α)) (f : Nat × α → Bool) (k : Nat) (h : ∀ v, f (k, v) = true)
    (hl : cellsAscend l = true) : cellGet (l.filter f) k = cellGet l k := by
  induction l with
  | nil => rfl
  | cons c l ih =>
    obtain ⟨i, w⟩ := c
    have hc := (cellsAscend_cons _ _).1 hl
    rw [List.filter_cons]
    split
    · simp only [cellGet]
      rw [ih hc.1]
    · next hf =>
      rw [ih hc.1]
      have hik : i ≠ k := by
        intro e
        subst e
        exact hf (h w)
      simp only [cellGet]
      rw [if_neg hik]
      split
      · next hj =>
        cases l with
        | nil => rfl
        | cons d l =>
          obtain ⟨m, x⟩ := d
          have hm : i < m := hc.2 (m, x) (List.mem_cons_self ..)
          simp only [cellGet]
          rw [if_neg (by omega), if_pos (by omega)]
      · rfl

theorem odGet_filter (od : List (Nat × Int)) (f : Nat × Int → Bool) (k : Nat) (h : ∀ v, f (k, v) = true)
    (hl : cellsAscend od = true) : odGet (od.filter f) k = odGet od k := by
  unfold odGet
  rw [cellGet_filter _ _ _ h hl]

theorem odGet_put (od : List (Nat × Int)) (k : Nat) (v : Int) (h : cellsAscend od = true) : odGet (odPut od k v) k = v := by
  unfold odPut
  split
  · next e =>
    unfold odGet
    rw [cellGet_drop _ _ h]
    exact e.symm
  · unfold odGet
    rw [cellGet_put]

theorem odGet_put_ne (od : List (Nat × Int)) (k j : Nat) (v : Int) (hj : j ≠ k) (h : cellsAscend od = true) :
    odGet (odPut od k v) j = odGet od j := by
  unfold odPut
  split
  · unfold odGet
    rw [cellGet_drop_ne _ _ _ hj h]
  · unfold odGet
    rw [cellGet_put_ne _ _ _ _ hj]

theorem Safety.canonical_od {s : State} (h : Safety.canonical s = true) : cellsAscend s.od = true := by
  unfold Safety.canonical odWf at h
  simp only [Bool.and_eq_true] at h
  exact h.1.1.1

/-- A write of the dictionary's numeric cells. -/
theorem State.setOd_keeps {W : Nat} {x s : State} (l : List (Nat × Int)) (h : Keeps W x s)
    (hl : odWf s.od = true → odWf l = true)
    (ho : cellsAscend s.od = true → ∀ k, siteIn W (k / 256) = false → odGet l k = odGet s.od k) :
    Keeps W x (s.setOd l) := by
  refine h.trans ⟨?_, id, fun p _ => by cases p <;> rfl, fun c k hk => ho (Safety.canonical_od c) k hk⟩
  unfold Safety.canonical
  simp only [Bool.and_eq_true]
  exact fun h => ⟨⟨hl h.1.1, h.1.2⟩, h.2⟩

theorem objKey_div (ix sub : Nat) : objKey ix sub / 256 = ix := by
  unfold objKey
  omega

theorem State.putObj_keeps {W : Nat} {x s : State} (ix sub : Nat) (v : Int) (hi : siteIn W ix = true) (h : Keeps W x s) :
    Keeps W x (s.putObj ix sub v) := by
  refine State.setOd_keeps _ h (odPut_wf _ _ _) (fun c k hk => odGet_put_ne _ _ _ _ ?_ c)
  intro e
  rw [e, objKey_div, hi] at hk
  exact Bool.false_ne_true hk.symm

theorem State.setDom_keeps {W : Nat} {x s : State} (v : List (Nat × List Byte)) (hW : maskLe 0x2 W = true) (h : Keeps W x s)
    (hl : cellsAscend s.dom = true → cellsAscend v = true) : Keeps W x (s.setDom v) := by
  refine h.trans ⟨?_, id, fun p hp => ?_, fun _ _ _ => rfl⟩
  · unfold Safety.canonical
    simp only [Bool.and_eq_true]
    exact fun h => ⟨⟨h.1.1, hl h.1.2⟩, h.2⟩
  · cases p <;> first | rfl | exact absurd ((maskLe_has hW 1 rfl).symm.trans hp) Bool.noConfusion

theorem State.setStale_keeps {W : Nat} {x s : State} (v : List (Nat × Int)) (hW : maskLe 0x4 W = true) (h : Keeps W x s)
    (hl : cellsAscend s.stale = true → cellsAscend v = true) : Keeps W x (s.setStale v) := by
  refine h.trans ⟨?_, id, fun p hp => ?_, fun _ _ _ => rfl⟩
  · unfold Safety.canonical
    simp only [Bool.and_eq_true]
    exact fun h => ⟨h.1, hl h.2⟩
  · cases p <;> first | rfl | exact absurd ((maskLe_has hW 2 rfl).symm.trans hp) Bool.noConfusion

theorem State.setFabric_keeps {W : Nat} {x s : State} (v : Fabric) (hW : maskLe 0x8 W = true) (h : Keeps W x s) :
    Keeps W x (s.setFabric v) :=
  have e : Keeps 0x8 s (s.setFabric v) :=
    Keeps.part .fabric id id rfl (fun p hp => by cases p <;> first | rfl | exact absurd rfl hp)
  e.step hW h

theorem State.setRecorder_keeps {W : Nat} {x s : State} (v : Recorder) (hW : maskLe 0x10 W = true) (h : Keeps W x s) :
    Keeps W x (s.setRecorder v) :=
  have e : Keeps 0x10 s (s.setRecorder v) :=
    Keeps.part .recorder id id rfl (fun p hp => by cases p <;> first | rfl | exact absurd rfl hp)
  e.step hW h

theorem State.setClients_keeps {W : Nat} {x s : State} (v : Clients) (hW : maskLe 0x20 W = true) (h : Keeps W x s) :
    Keeps W x (s.setClients v) :=
  have e : Keeps 0x20 s (s.setClients v) :=
    Keeps.part .clients id id rfl (fun p hp => by cases p <;> first | rfl | exact absurd rfl hp)
  e.step hW h

theorem State.setAvs_keeps {W : Nat} {x s : State} (v : Option AvsReply) (hW : maskLe 0x40 W = true) (h : Keeps W x s) :
    Keeps W x (s.setAvs v) :=
  have e : Keeps 0x40 s (s.setAvs v) :=
    Keeps.part .avs id id rfl (fun p hp => by cases p <;> first | rfl | exact absurd rfl hp)
  e.step hW h

theorem State.setCan_keeps {W : Nat} {x s : State} (v : Can) (hW : maskLe 0x80 W = true) (h : Keeps W x s) :
    Keeps W x (s.setCan v) :=
  have e : Keeps 0x80 s (s.setCan v) :=
    Keeps.part .can id id rfl (fun p hp => by cases p <;> first | rfl | exact absurd rfl hp)
  e.step hW h

theorem State.setGsp_keeps {W : Nat} {x s : State} (v : Gsp) (hW : maskLe 0x100 W = true) (h : Keeps W x s) :
    Keeps W x (s.setGsp v) :=
  have e : Keeps 0x100 s (s.setGsp v) :=
    Keeps.part .gsp id id rfl (fun p hp => by cases p <;> first | rfl | exact absurd rfl hp)
  e.step hW h

theorem State.setLife_keeps {W : Nat} {x s : State} (v : Life) (hW : maskLe 0x200 W = true) (h : Keeps W x s) :
    Keeps W x (s.setLife v) :=
  have e : Keeps 0x200 s (s.setLife v) :=
    Keeps.part .life id id rfl (fun p hp => by cases p <;> first | rfl | exact absurd rfl hp)
  e.step hW h

theorem State.setSupply_keeps {W : Nat} {x s : State} (v : Supply) (hW : maskLe 0x400 W = true) (h : Keeps W x s) :
    Keeps W x (s.setSupply v) :=
  have e : Keeps 0x400 s (s.setSupply v) :=
    Keeps.part .supply id id rfl (fun p hp => by cases p <;> first | rfl | exact absurd rfl hp)
  e.step hW h

theorem State.setClocks_keeps {W : Nat} {x s : State} (v : Clocks) (hW : maskLe 0x800 W = true) (h : Keeps W x s) :
    Keeps W x (s.setClocks v) :=
  have e : Keeps 0x800 s (s.setClocks v) :=
    Keeps.part .clocks id id rfl (fun p hp => by cases p <;> first | rfl | exact absurd rfl hp)
  e.step hW h

theorem State.setRtc_keeps {W : Nat} {x s : State} (v : Rtc) (hW : maskLe 0x1000 W = true) (h : Keeps W x s) :
    Keeps W x (s.setRtc v) :=
  have e : Keeps 0x1000 s (s.setRtc v) :=
    Keeps.part .rtc id id rfl (fun p hp => by cases p <;> first | rfl | exact absurd rfl hp)
  e.step hW h

theorem State.setSafety_keeps {W : Nat} {x s : State} (v : Safety) (hW : maskLe 0x2000 W = true) (h : Keeps W x s) :
    Keeps W x (s.setSafety v) :=
  have e : Keeps 0x2000 s (s.setSafety v) :=
    Keeps.part .safety id id rfl (fun p hp => by cases p <;> first | rfl | exact absurd rfl hp)
  e.step hW h

theorem State.setOutline_keeps {W : Nat} {x s : State} (v : Outline) (hW : maskLe 0x4000 W = true) (h : Keeps W x s) :
    Keeps W x (s.setOutline v) :=
  have e : Keeps 0x4000 s (s.setOutline v) :=
    Keeps.part .outline id id rfl (fun p hp => by cases p <;> first | rfl | exact absurd rfl hp)
  e.step hW h

theorem State.setFlash_keeps {W : Nat} {x s : State} (v : Flash) (hW : maskLe 0x8000 W = true) (h : Keeps W x s) :
    Keeps W x (s.setFlash v) :=
  have e : Keeps 0x8000 s (s.setFlash v) :=
    Keeps.part .flash id id rfl (fun p hp => by cases p <;> first | rfl | exact absurd rfl hp)
  e.step hW h

theorem State.setMeridian_keeps {W : Nat} {x s : State} (v : Meridian) (hW : maskLe 0x10000 W = true) (h : Keeps W x s) :
    Keeps W x (s.setMeridian v) :=
  have e : Keeps 0x10000 s (s.setMeridian v) :=
    Keeps.part .meridian id id rfl (fun p hp => by cases p <;> first | rfl | exact absurd rfl hp)
  e.step hW h

theorem State.setAdcs_keeps {W : Nat} {x s : State} (v : Vector (List Nat) 3) (hW : maskLe 0x40000 W = true) (h : Keeps W x s) :
    Keeps W x (s.setAdcs v) :=
  have e : Keeps 0x40000 s (s.setAdcs v) :=
    Keeps.part .adcs id id rfl (fun p hp => by cases p <;> first | rfl | exact absurd rfl hp)
  e.step hW h

theorem State.setVsense_keeps {W : Nat} {x s : State} (v : Vector VSense 4) (hW : maskLe 0x80000 W = true) (h : Keeps W x s) :
    Keeps W x (s.setVsense v) :=
  have e : Keeps 0x80000 s (s.setVsense v) :=
    Keeps.part .vsense id id rfl (fun p hp => by cases p <;> first | rfl | exact absurd rfl hp)
  e.step hW h

theorem State.setAux_keeps {W : Nat} {x s : State} (v : Vector Aux 8) (hW : maskLe 0x100000 W = true) (h : Keeps W x s) :
    Keeps W x (s.setAux v) :=
  have e : Keeps 0x100000 s (s.setAux v) :=
    Keeps.part .aux id id rfl (fun p hp => by cases p <;> first | rfl | exact absurd rfl hp)
  e.step hW h

theorem State.setAuxSequence_keeps {W : Nat} {x s : State} (v : AuxSequence) (hW : maskLe 0x200000 W = true) (h : Keeps W x s) :
    Keeps W x (s.setAuxSequence v) :=
  have e : Keeps 0x200000 s (s.setAuxSequence v) :=
    Keeps.part .auxSequence id id rfl (fun p hp => by cases p <;> first | rfl | exact absurd rfl hp)
  e.step hW h

theorem State.setRails_keeps {W : Nat} {x s : State} (v : Vector Rail 5) (hW : maskLe 0x400000 W = true) (h : Keeps W x s) :
    Keeps W x (s.setRails v) :=
  have e : Keeps 0x400000 s (s.setRails v) :=
    Keeps.part .rails id id rfl (fun p hp => by cases p <;> first | rfl | exact absurd rfl hp)
  e.step hW h

theorem State.setSlots_keeps {W : Nat} {x s : State} (v : Vector Slot 16) (hW : maskLe 0x800000 W = true) (h : Keeps W x s) :
    Keeps W x (s.setSlots v) :=
  have e : Keeps 0x800000 s (s.setSlots v) :=
    Keeps.part .slots id id rfl (fun p hp => by cases p <;> first | rfl | exact absurd rfl hp)
  e.step hW h

theorem State.setEngine_keeps {W : Nat} {x s : State} (v : Engine) (hW : maskLe 0x1000000 W = true) (h : Keeps W x s) :
    Keeps W x (s.setEngine v) :=
  have e : Keeps 0x1000000 s (s.setEngine v) :=
    Keeps.part .engine id id rfl (fun p hp => by cases p <;> first | rfl | exact absurd rfl hp)
  e.step hW h

theorem State.setDrive_keeps {W : Nat} {x s : State} (v : Drive) (hW : maskLe 0x2000000 W = true) (h : Keeps W x s) :
    Keeps W x (s.setDrive v) :=
  have e : Keeps 0x2000000 s (s.setDrive v) :=
    Keeps.part .drive id id rfl (fun p hp => by cases p <;> first | rfl | exact absurd rfl hp)
  e.step hW h

theorem State.setRing_keeps {W : Nat} {x s : State} (v : Ring) (hW : maskLe 0x4000000 W = true) (h : Keeps W x s) :
    Keeps W x (s.setRing v) :=
  have e : Keeps 0x4000000 s (s.setRing v) :=
    Keeps.part .ring id id rfl (fun p hp => by cases p <;> first | rfl | exact absurd rfl hp)
  e.step hW h

theorem State.setMetrology_keeps {W : Nat} {x s : State} (v : Metrology) (hW : maskLe 0x8000000 W = true) (h : Keeps W x s) :
    Keeps W x (s.setMetrology v) :=
  have e : Keeps 0x8000000 s (s.setMetrology v) :=
    Keeps.part .metrology id id rfl (fun p hp => by cases p <;> first | rfl | exact absurd rfl hp)
  e.step hW h

theorem State.setEnergy_keeps {W : Nat} {x s : State} (v : Energy) (hW : maskLe 0x10000000 W = true) (h : Keeps W x s) :
    Keeps W x (s.setEnergy v) :=
  have e : Keeps 0x10000000 s (s.setEnergy v) :=
    Keeps.part .energy id id rfl (fun p hp => by cases p <;> first | rfl | exact absurd rfl hp)
  e.step hW h

theorem State.setFreeCount_keeps {W : Nat} {x s : State} (v : Nat) (hW : maskLe 0x20000000 W = true) (h : Keeps W x s) :
    Keeps W x (s.setFreeCount v) :=
  have e : Keeps 0x20000000 s (s.setFreeCount v) :=
    Keeps.part .freeCount id id rfl (fun p hp => by cases p <;> first | rfl | exact absurd rfl hp)
  e.step hW h

/-- Whatever next state an outcome holds, it keeps what `Keeps` says. -/
structure Keeps.Out (W : Nat) (s : State) (o : Host.Outcome State Fault Refusal) : Prop where
  next : ∀ t, o = .next t → Keeps W s t

theorem Keeps.out_next {W : Nat} {s t : State} (k : Keeps W s t) : Keeps.Out W s (.next t) := by
  constructor
  intro u h
  cases h
  exact k

theorem Keeps.out_ite {W : Nat} {x : State} {a b : Host.Outcome State Fault Refusal} {c : Prop} [Decidable c]
    (ha : Keeps.Out W x a) (hb : Keeps.Out W x b) : Keeps.Out W x (if c then a else b) := by
  split <;> assumption

end Sys2Proof.Machine
end

