-- ==== Sys2Proof/Laws/KeepsOps.lean ====
section
/-! SUPPORT. What the operations of Machine/Ops.lean keep. -/

namespace Sys2Proof.Machine

theorem State.putFast_keeps {W : Nat} {s₀ s : State} (ix sub : Nat) (v : Int) (hi : siteIn W ix = true) (hW : maskLe 0x4 W = true) (hk : Keeps W s₀ s) :
    Keeps W s₀ (State.putFast s ix sub v) := by
  unfold State.putFast
  refine State.putObj_keeps _ _ _ hi ?_
  split
  · exact hk
  · exact State.setStale_keeps _ hW hk (cellPut_ascend _ _ _)

theorem State.putBit_keeps {W : Nat} {s₀ s : State} (ix sub n : Nat) (b : Bool) (hi : siteIn W ix = true) (hk : Keeps W s₀ s) :
    Keeps W s₀ (State.putBit s ix sub n b) := by
  unfold State.putBit
  repeat' first
    | with_reducible assumption
    | with_reducible exact Keeps.refl _ _
    | with_reducible exact Bool.false_and _
    | intro _
    | with_reducible refine Keeps.foldl _ _ ?_ (fun _ _ => ?_)
    | with_reducible refine State.putObj_keeps _ _ _ ?_ ?_
    | with_reducible refine Keeps.ite ?_ ?_
    | dsimp only
    | split

theorem State.bump_keeps {W : Nat} {s₀ s : State} (ix sub : Nat) (hi : siteIn W ix = true) (hk : Keeps W s₀ s) :
    Keeps W s₀ (State.bump s ix sub) := by
  unfold State.bump
  repeat' first
    | with_reducible assumption
    | with_reducible exact Keeps.refl _ _
    | with_reducible exact Bool.false_and _
    | intro _
    | with_reducible refine Keeps.foldl _ _ ?_ (fun _ _ => ?_)
    | with_reducible refine State.putObj_keeps _ _ _ ?_ ?_
    | with_reducible refine Keeps.ite ?_ ?_
    | dsimp only
    | split

theorem State.bumpBy_keeps {W : Nat} {s₀ s : State} (ix sub n : Nat) (hi : siteIn W ix = true) (hk : Keeps W s₀ s) :
    Keeps W s₀ (State.bumpBy s ix sub n) := by
  unfold State.bumpBy
  repeat' first
    | with_reducible assumption
    | with_reducible exact Keeps.refl _ _
    | with_reducible exact Bool.false_and _
    | intro _
    | with_reducible refine Keeps.foldl _ _ ?_ (fun _ _ => ?_)
    | with_reducible refine State.putObj_keeps _ _ _ ?_ ?_
    | with_reducible refine Keeps.ite ?_ ?_
    | dsimp only
    | split

theorem State.putDomain_keeps {W : Nat} {s₀ s : State} (ix sub : Nat) (v : List Byte) (hW : maskLe 0x2 W = true) (hk : Keeps W s₀ s) :
    Keeps W s₀ (State.putDomain s ix sub v) := by
  exact State.setDom_keeps _ hW hk (cellPut_ascend _ _ _)

theorem State.dropDomain_keeps {W : Nat} {s₀ s : State} (ix sub : Nat) (hW : maskLe 0x2 W = true) (hk : Keeps W s₀ s) :
    Keeps W s₀ (State.dropDomain s ix sub) := by
  exact State.setDom_keeps _ hW hk (cellDrop_ascend _ _)

theorem State.modRail_keeps {W : Nat} {s₀ s : State} (r : RailId) (f : Rail → Rail) (hW : maskLe 0x400000 W = true) (hk : Keeps W s₀ s) :
    Keeps W s₀ (State.modRail s r f) := by
  unfold State.modRail
  repeat' first
    | with_reducible assumption
    | with_reducible exact Keeps.refl _ _
    | with_reducible exact Bool.false_and _
    | intro _
    | with_reducible refine Keeps.foldl _ _ ?_ (fun _ _ => ?_)
    | with_reducible refine State.setRails_keeps _ (maskLe_trans (by decide) hW) ?_
    | with_reducible refine Keeps.ite ?_ ?_
    | dsimp only
    | split

theorem State.modSlot_keeps {W : Nat} {s₀ s : State} (k : SlotId) (f : Slot → Slot) (hW : maskLe 0x800000 W = true) (hk : Keeps W s₀ s) :
    Keeps W s₀ (State.modSlot s k f) := by
  unfold State.modSlot
  repeat' first
    | with_reducible assumption
    | with_reducible exact Keeps.refl _ _
    | with_reducible exact Bool.false_and _
    | intro _
    | with_reducible refine Keeps.foldl _ _ ?_ (fun _ _ => ?_)
    | with_reducible refine State.setSlots_keeps _ (maskLe_trans (by decide) hW) ?_
    | with_reducible refine Keeps.ite ?_ ?_
    | dsimp only
    | split

theorem State.modAux_keeps {W : Nat} {s₀ s : State} (c : AuxId) (f : Aux → Aux) (hW : maskLe 0x100000 W = true) (hk : Keeps W s₀ s) :
    Keeps W s₀ (State.modAux s c f) := by
  unfold State.modAux
  repeat' first
    | with_reducible assumption
    | with_reducible exact Keeps.refl _ _
    | with_reducible exact Bool.false_and _
    | intro _
    | with_reducible refine Keeps.foldl _ _ ?_ (fun _ _ => ?_)
    | with_reducible refine State.setAux_keeps _ (maskLe_trans (by decide) hW) ?_
    | with_reducible refine Keeps.ite ?_ ?_
    | dsimp only
    | split

theorem State.modVSense_keeps {W : Nat} {s₀ s : State} (r : VRailId) (f : VSense → VSense) (hW : maskLe 0x80000 W = true) (hk : Keeps W s₀ s) :
    Keeps W s₀ (State.modVSense s r f) := by
  unfold State.modVSense
  repeat' first
    | with_reducible assumption
    | with_reducible exact Keeps.refl _ _
    | with_reducible exact Bool.false_and _
    | intro _
    | with_reducible refine Keeps.foldl _ _ ?_ (fun _ _ => ?_)
    | with_reducible refine State.setVsense_keeps _ (maskLe_trans (by decide) hW) ?_
    | with_reducible refine Keeps.ite ?_ ?_
    | dsimp only
    | split

theorem State.putRailObj_keeps {W : Nat} {s₀ s : State} (r : RailId) (off sub : Nat) (v : Int) (hi : off < 256 ∧ bitIn W (0x3000 + off) = true) (hk : Keeps W s₀ s) :
    Keeps W s₀ (State.putRailObj s r off sub v) := by
  exact State.putObj_keeps _ _ _ (siteIn_rail r off hi.1 hi.2) hk

theorem State.putPhaseObj_keeps {W : Nat} {s₀ s : State} (p : PhaseId) (off sub : Nat) (v : Int) (hi : off < 16 ∧ bitIn W (0x4000 + off) = true) (hk : Keeps W s₀ s) :
    Keeps W s₀ (State.putPhaseObj s p off sub v) := by
  exact State.putObj_keeps _ _ _ (siteIn_phase p off hi.1 hi.2) hk

theorem State.tick_keeps {W : Nat} {s₀ s : State} (hW : maskLe 0x20000000 W = true) (hk : Keeps W s₀ s) :
    Keeps W s₀ (State.tick s) := by
  unfold State.tick
  repeat' first
    | with_reducible assumption
    | with_reducible exact Keeps.refl _ _
    | with_reducible exact Bool.false_and _
    | intro _
    | with_reducible refine Keeps.foldl _ _ ?_ (fun _ _ => ?_)
    | with_reducible refine State.setFreeCount_keeps _ (maskLe_trans (by decide) hW) ?_
    | with_reducible refine Keeps.ite ?_ ?_
    | dsimp only
    | split

end Sys2Proof.Machine
end

