-- ==== Sys2Proof/Laws/KeepsFabric.lean ====
section
/-! SUPPORT. What the operations of Machine/Fabric.lean keep. -/

namespace Sys2Proof.Machine

theorem State.putFunc_keeps {W : Nat} {s₀ s : State} (f : Nat) (v : Nat) (hW : maskLe 0x10000000000 W = true) (hk : Keeps W s₀ s) :
    Keeps W s₀ (State.putFunc s f v) := by
  unfold State.putFunc
  repeat' first
    | with_reducible assumption
    | with_reducible exact site_2110 hW (by decide)
    | with_reducible exact Keeps.refl _ _
    | with_reducible exact Bool.false_and _
    | intro _
    | with_reducible refine Keeps.foldl _ _ ?_ (fun _ _ => ?_)
    | with_reducible refine State.putObj_keeps _ _ _ ?_ ?_
    | with_reducible refine Keeps.ite ?_ ?_
    | dsimp only
    | split

theorem State.idleSlots_keeps {W : Nat} {s₀ s : State} (r : RailId) (hW : maskLe 0x408000000000000000 W = true) (hk : Keeps W s₀ s) :
    Keeps W s₀ (State.idleSlots s r) := by
  unfold State.idleSlots
  repeat' first
    | with_reducible assumption
    | with_reducible exact site_railbit_20 hW (by decide)
    | with_reducible exact site_slot _ _ hW (by decide)
    | with_reducible exact site_slotIx _ hW (by decide)
    | with_reducible exact Keeps.refl _ _
    | with_reducible exact Bool.false_and _
    | intro _
    | with_reducible refine Keeps.foldl _ _ ?_ (fun _ _ => ?_)
    | with_reducible refine State.putObj_keeps _ _ _ ?_ ?_
    | with_reducible refine State.putRailObj_keeps _ _ _ _ ?_  ?_
    | with_reducible refine Keeps.ite ?_ ?_
    | dsimp only
    | split

theorem State.endStop_keeps {W : Nat} {s₀ s : State} (r : RailId) (hW : maskLe 0x428000010000420000 W = true) (hk : Keeps W s₀ s) :
    Keeps W s₀ (State.endStop s r) := by
  unfold State.endStop
  repeat' first
    | with_reducible assumption
    | with_reducible exact site_railbit_40 hW (by decide)
    | with_reducible exact Keeps.refl _ _
    | with_reducible exact Bool.false_and _
    | intro _
    | with_reducible refine Keeps.foldl _ _ ?_ (fun _ _ => ?_)
    | with_reducible refine State.modPhase_keeps _ _ (maskLe_trans (by decide) hW) ?_ (fun _ h => ?_)
    | with_reducible refine State.modRail_keeps _ _ (maskLe_trans (by decide) hW) ?_
    | with_reducible refine State.putRailObj_keeps _ _ _ _ ?_  ?_
    | with_reducible refine State.putFunc_keeps _ _ (maskLe_trans (by decide) hW) ?_
    | with_reducible refine State.idleSlots_keeps _ (maskLe_trans (by decide) hW) ?_
    | with_reducible refine Keeps.ite ?_ ?_
    | dsimp only
    | split

theorem State.settleStop_keeps {W : Nat} {s₀ s : State} (r : RailId) (hW : maskLe 0x428000010000420000 W = true) (hk : Keeps W s₀ s) :
    Keeps W s₀ (State.settleStop s r) := by
  unfold State.settleStop
  repeat' first
    | with_reducible assumption
    | with_reducible exact Keeps.refl _ _
    | with_reducible exact Bool.false_and _
    | intro _
    | with_reducible refine Keeps.foldl _ _ ?_ (fun _ _ => ?_)
    | with_reducible refine State.endStop_keeps _ (maskLe_trans (by decide) hW) ?_
    | with_reducible refine Keeps.ite ?_ ?_
    | dsimp only
    | split

theorem State.stopCommon_keeps {W : Nat} {s₀ s : State} (r : RailId) (cause : Nat) (hW : maskLe 0x24000000002400000 W = true) (hk : Keeps W s₀ s) :
    Keeps W s₀ (State.stopCommon s r cause) := by
  unfold State.stopCommon
  repeat' first
    | with_reducible assumption
    | with_reducible exact site_railbit_10 hW (by decide)
    | with_reducible exact site_railbit_40 hW (by decide)
    | with_reducible exact Keeps.refl _ _
    | with_reducible exact Bool.false_and _
    | intro _
    | with_reducible refine Keeps.foldl _ _ ?_ (fun _ _ => ?_)
    | with_reducible refine State.setDrive_keeps _ (maskLe_trans (by decide) hW) ?_
    | with_reducible refine State.modRail_keeps _ _ (maskLe_trans (by decide) hW) ?_
    | with_reducible refine State.putRailObj_keeps _ _ _ _ ?_  ?_
    | with_reducible refine Keeps.ite ?_ ?_
    | dsimp only
    | split

theorem State.hardStop_keeps {W : Nat} {s₀ s : State} (r : RailId) (cause : Nat) (hW : maskLe 0x42C000010002420000 W = true) (hk : Keeps W s₀ s) :
    Keeps W s₀ (State.hardStop s r cause) := by
  unfold State.hardStop
  repeat' first
    | with_reducible assumption
    | with_reducible exact Keeps.refl _ _
    | with_reducible exact Bool.false_and _
    | intro _
    | with_reducible refine Keeps.foldl _ _ ?_ (fun _ _ => ?_)
    | with_reducible refine State.modPhase_keeps _ _ (maskLe_trans (by decide) hW) ?_ (fun _ h => ?_)
    | with_reducible refine State.modRail_keeps _ _ (maskLe_trans (by decide) hW) ?_
    | with_reducible refine State.settleStop_keeps _ (maskLe_trans (by decide) hW) ?_
    | with_reducible refine State.stopCommon_keeps _ _ (maskLe_trans (by decide) hW) ?_
    | with_reducible refine Keeps.ite ?_ ?_
    | dsimp only
    | split

theorem State.softStop_keeps {W : Nat} {s₀ s : State} (r : RailId) (cause : Nat) (hW : maskLe 0x24000000002400000 W = true) (hk : Keeps W s₀ s) :
    Keeps W s₀ (State.softStop s r cause) := by
  unfold State.softStop
  repeat' first
    | with_reducible assumption
    | with_reducible exact site_railbit_10 hW (by decide)
    | with_reducible exact Keeps.refl _ _
    | with_reducible exact Bool.false_and _
    | intro _
    | with_reducible refine Keeps.foldl _ _ ?_ (fun _ _ => ?_)
    | with_reducible refine State.modRail_keeps _ _ (maskLe_trans (by decide) hW) ?_
    | with_reducible refine State.putRailObj_keeps _ _ _ _ ?_  ?_
    | with_reducible refine State.stopCommon_keeps _ _ (maskLe_trans (by decide) hW) ?_
    | with_reducible refine Keeps.ite ?_ ?_
    | dsimp only
    | split

theorem State.softStopAll_keeps {W : Nat} {s₀ s : State} (cause : Nat) (hW : maskLe 0x25000000002400000 W = true) (hk : Keeps W s₀ s) :
    Keeps W s₀ (State.softStopAll s cause) := by
  unfold State.softStopAll
  repeat' first
    | with_reducible assumption
    | with_reducible exact site_railbit_00 hW (by decide)
    | with_reducible exact Keeps.refl _ _
    | with_reducible exact Bool.false_and _
    | intro _
    | with_reducible refine Keeps.foldl _ _ ?_ (fun _ _ => ?_)
    | with_reducible refine State.putRailObj_keeps _ _ _ _ ?_  ?_
    | with_reducible refine State.softStop_keeps _ _ (maskLe_trans (by decide) hW) ?_
    | with_reducible refine Keeps.ite ?_ ?_
    | dsimp only
    | split

theorem State.closeWindow_keeps {W : Nat} {s₀ s : State} (p : PhaseId) (falling : Bool) (hW : maskLe 0x80000000000000020000 W = true) (hk : Keeps W s₀ s) :
    Keeps W s₀ (State.closeWindow s p falling) := by
  unfold State.closeWindow
  repeat' first
    | with_reducible assumption
    | with_reducible exact site_phasebit_6 hW (by decide)
    | with_reducible exact site_phase_6 _ hW (by decide)
    | with_reducible exact Keeps.refl _ _
    | with_reducible exact Bool.false_and _
    | intro _
    | with_reducible refine Keeps.foldl _ _ ?_ (fun _ _ => ?_)
    | with_reducible refine State.bump_keeps _ _ ?_  ?_
    | with_reducible refine State.modPhase_keeps _ _ (maskLe_trans (by decide) hW) ?_ (fun _ h => ?_)
    | with_reducible refine State.putPhaseObj_keeps _ _ _ _ ?_  ?_
    | with_reducible refine Keeps.ite ?_ ?_
    | dsimp only
    | split

theorem State.putOutputs_keeps {W : Nat} {s₀ s : State} (p : PhaseId) (h l : Bool) (hi : (h && l) = false) (hW : maskLe 0x80000000000000020000 W = true) (hk : Keeps W s₀ s) :
    Keeps W s₀ (State.putOutputs s p h l) := by
  have h1 : Keeps W s₀ ((s.closeWindow p false).closeWindow p true) :=
    State.closeWindow_keeps _ _ (maskLe_trans (by decide) hW) (State.closeWindow_keeps _ _ (maskLe_trans (by decide) hW) hk)
  unfold State.putOutputs
  dsimp only
  refine State.modPhase_keeps _ _ (maskLe_trans (by decide) hW) ?_ (fun _ _ => hi)
  split
  · exact h1
  · exact hk

theorem State.phaseLow_keeps {W : Nat} {s₀ s : State} (p : PhaseId) (hW : maskLe 0x80000000000000020000 W = true) (hk : Keeps W s₀ s) :
    Keeps W s₀ (State.phaseLow s p) := by
  unfold State.phaseLow
  repeat' first
    | with_reducible assumption
    | with_reducible exact Keeps.refl _ _
    | with_reducible exact Bool.false_and _
    | intro _
    | with_reducible refine Keeps.foldl _ _ ?_ (fun _ _ => ?_)
    | with_reducible refine State.modPhase_keeps _ _ (maskLe_trans (by decide) hW) ?_ (fun _ h => ?_)
    | with_reducible refine State.putOutputs_keeps _ _ _ ?_ (maskLe_trans (by decide) hW) ?_
    | with_reducible refine Keeps.ite ?_ ?_
    | dsimp only
    | split

theorem State.pwmHold_keeps {W : Nat} {s₀ s : State} (hW : maskLe 0x80428000010000420000 W = true) (hk : Keeps W s₀ s) :
    Keeps W s₀ (State.pwmHold s) := by
  unfold State.pwmHold
  repeat' first
    | with_reducible assumption
    | with_reducible exact Keeps.refl _ _
    | with_reducible exact Bool.false_and _
    | intro _
    | with_reducible refine Keeps.foldl _ _ ?_ (fun _ _ => ?_)
    | with_reducible refine State.settleStop_keeps _ (maskLe_trans (by decide) hW) ?_
    | with_reducible refine State.phaseLow_keeps _ (maskLe_trans (by decide) hW) ?_
    | with_reducible refine Keeps.ite ?_ ?_
    | dsimp only
    | split

theorem State.relayWord_keeps {W : Nat} {s₀ s : State} (hW : maskLe 0x100000000000000 W = true) (hk : Keeps W s₀ s) :
    Keeps W s₀ (State.relayWord s) := by
  unfold State.relayWord
  repeat' first
    | with_reducible assumption
    | with_reducible exact site_2600 hW (by decide)
    | with_reducible exact Keeps.refl _ _
    | with_reducible exact Bool.false_and _
    | intro _
    | with_reducible refine Keeps.foldl _ _ ?_ (fun _ _ => ?_)
    | with_reducible refine State.putObj_keeps _ _ _ ?_ ?_
    | with_reducible refine Keeps.ite ?_ ?_
    | dsimp only
    | split

theorem State.driveRelay_keeps {W : Nat} {s₀ s : State} (i : Fin 4) (closed : Bool) (hW : maskLe 0x100000000010000 W = true) (hk : Keeps W s₀ s) :
    Keeps W s₀ (State.driveRelay s i closed) := by
  unfold State.driveRelay
  repeat' first
    | with_reducible assumption
    | with_reducible exact Keeps.refl _ _
    | with_reducible exact Bool.false_and _
    | intro _
    | with_reducible refine Keeps.foldl _ _ ?_ (fun _ _ => ?_)
    | with_reducible refine State.setMeridian_keeps _ (maskLe_trans (by decide) hW) ?_
    | with_reducible refine State.relayWord_keeps  (maskLe_trans (by decide) hW) ?_
    | with_reducible refine Keeps.ite ?_ ?_
    | dsimp only
    | split

theorem State.safeRelays_keeps {W : Nat} {s₀ s : State} (hW : maskLe 0x100000000010000 W = true) (hk : Keeps W s₀ s) :
    Keeps W s₀ (State.safeRelays s) := by
  unfold State.safeRelays
  repeat' first
    | with_reducible assumption
    | with_reducible exact Keeps.refl _ _
    | with_reducible exact Bool.false_and _
    | intro _
    | with_reducible refine Keeps.foldl _ _ ?_ (fun _ _ => ?_)
    | with_reducible refine State.driveRelay_keeps _ _ (maskLe_trans (by decide) hW) ?_
    | with_reducible refine Keeps.ite ?_ ?_
    | dsimp only
    | split

theorem State.interrupt_keeps {W : Nat} {s₀ s : State} (n : Nat) (hW : maskLe 0x2000000000000 W = true) (hk : Keeps W s₀ s) :
    Keeps W s₀ (State.interrupt s n) := by
  unfold State.interrupt
  repeat' first
    | with_reducible assumption
    | with_reducible exact site_2320 hW (by decide)
    | with_reducible exact Keeps.refl _ _
    | with_reducible exact Bool.false_and _
    | intro _
    | with_reducible refine Keeps.foldl _ _ ?_ (fun _ _ => ?_)
    | with_reducible refine State.putBit_keeps _ _ _ _ ?_  ?_
    | with_reducible refine Keeps.ite ?_ ?_
    | dsimp only
    | split

theorem State.safePath_keeps {W : Nat} {s₀ s : State} (hW : maskLe 0x80000106000000032000 W = true) (hk : Keeps W s₀ s) :
    Keeps W s₀ (State.safePath s) := by
  unfold State.safePath
  repeat' first
    | with_reducible assumption
    | with_reducible exact site_2330 hW (by decide)
    | with_reducible exact Keeps.refl _ _
    | with_reducible exact Bool.false_and _
    | intro _
    | with_reducible refine Keeps.foldl _ _ ?_ (fun _ _ => ?_)
    | with_reducible refine State.setSafety_keeps _ (maskLe_trans (by decide) hW) ?_
    | with_reducible refine State.bump_keeps _ _ ?_  ?_
    | with_reducible refine State.putOutputs_keeps _ _ _ ?_ (maskLe_trans (by decide) hW) ?_
    | with_reducible refine State.safeRelays_keeps  (maskLe_trans (by decide) hW) ?_
    | with_reducible refine State.interrupt_keeps _ (maskLe_trans (by decide) hW) ?_
    | with_reducible refine Keeps.ite ?_ ?_
    | dsimp only
    | split

theorem State.leaveRing_keeps {W : Nat} {s₀ s : State} (reason : Nat) (hW : maskLe 0x10000004000000 W = true) (hk : Keeps W s₀ s) :
    Keeps W s₀ (State.leaveRing s reason) := by
  unfold State.leaveRing
  repeat' first
    | with_reducible assumption
    | with_reducible exact site_2400 hW (by decide)
    | with_reducible exact Keeps.refl _ _
    | with_reducible exact Bool.false_and _
    | intro _
    | with_reducible refine Keeps.foldl _ _ ?_ (fun _ _ => ?_)
    | with_reducible refine State.setRing_keeps _ (maskLe_trans (by decide) hW) ?_
    | with_reducible refine State.putObj_keeps _ _ _ ?_ ?_
    | with_reducible refine Keeps.ite ?_ ?_
    | dsimp only
    | split

theorem State.riseResponses_keeps {W : Nat} {s₀ s : State} (e resp : Nat) (hW : maskLe 0x2800000000000 W = true) (hk : Keeps W s₀ s) :
    Keeps W s₀ (State.riseResponses s e resp) := by
  unfold State.riseResponses
  repeat' first
    | with_reducible assumption
    | with_reducible exact site_2300 hW (by decide)
    | with_reducible exact Keeps.refl _ _
    | with_reducible exact Bool.false_and _
    | intro _
    | with_reducible refine Keeps.foldl _ _ ?_ (fun _ _ => ?_)
    | with_reducible refine State.putObj_keeps _ _ _ ?_ ?_
    | with_reducible refine State.interrupt_keeps _ (maskLe_trans (by decide) hW) ?_
    | with_reducible refine Keeps.ite ?_ ?_
    | dsimp only
    | split

theorem State.enqueue_keeps {W : Nat} {s₀ s : State} (o : Occurrence) (hW : maskLe 0x2000000000008 W = true) (hk : Keeps W s₀ s) :
    Keeps W s₀ (State.enqueue s o) := by
  unfold State.enqueue
  repeat' first
    | with_reducible assumption
    | with_reducible exact site_2320 hW (by decide)
    | with_reducible exact Keeps.refl _ _
    | with_reducible exact Bool.false_and _
    | intro _
    | with_reducible refine Keeps.foldl _ _ ?_ (fun _ _ => ?_)
    | with_reducible refine State.setFabric_keeps _ (maskLe_trans (by decide) hW) ?_
    | with_reducible refine State.putObj_keeps _ _ _ ?_ ?_
    | with_reducible refine State.bump_keeps _ _ ?_  ?_
    | with_reducible refine Keeps.ite ?_ ?_
    | dsimp only
    | split

theorem State.raiseCore_keeps {W : Nat} {s₀ s : State} (e data : Nat) (restored : Bool) (hW : maskLe 0x2800000000008 W = true) (hk : Keeps W s₀ s) :
    Keeps W s₀ (State.raiseCore s e data restored) := by
  unfold State.raiseCore
  repeat' first
    | with_reducible assumption
    | with_reducible exact site_2300 hW (by decide)
    | with_reducible exact site_2320 hW (by decide)
    | with_reducible exact Keeps.refl _ _
    | with_reducible exact Bool.false_and _
    | intro _
    | with_reducible refine Keeps.foldl _ _ ?_ (fun _ _ => ?_)
    | with_reducible refine State.setFabric_keeps _ (maskLe_trans (by decide) hW) ?_
    | with_reducible refine State.putObj_keeps _ _ _ ?_ ?_
    | with_reducible refine State.bump_keeps _ _ ?_  ?_
    | with_reducible refine State.interrupt_keeps _ (maskLe_trans (by decide) hW) ?_
    | with_reducible refine State.riseResponses_keeps _ _ (maskLe_trans (by decide) hW) ?_
    | with_reducible refine State.enqueue_keeps _ (maskLe_trans (by decide) hW) ?_
    | with_reducible refine Keeps.ite ?_ ?_
    | dsimp only
    | split

theorem State.drivePhase_keeps {W : Nat} {s₀ s : State} (p : PhaseId) (hW : maskLe 0x80000000000000020000 W = true) (hk : Keeps W s₀ s) :
    Keeps W s₀ (State.drivePhase s p) := by
  have hl : ((s.levels p).1 && (s.levels p).2) = false := by
    unfold State.levels Phase.maskLevels
    dsimp only
    repeat' first
      | with_reducible refine apart_ite ?_ ?_
      | with_reducible exact Bool.false_and _
      | with_reducible exact Bool.and_false _
      | exact Bool.and_not_self _
      | split
  have hp := State.putOutputs_keeps p _ _ hl (W := W) (maskLe_trans (by decide) hW) hk
  unfold State.drivePhase
  dsimp only
  (repeat' split) <;> first
    | exact hp
    | exact State.modPhase_keeps _ _ (maskLe_trans (by decide) hW) hp (fun _ h => h)

theorem State.takeOutline_keeps {W : Nat} {s₀ s : State} (p : PhaseId) (hW : maskLe 0x20000 W = true) (hk : Keeps W s₀ s) :
    Keeps W s₀ (State.takeOutline s p) := by
  unfold State.takeOutline
  repeat' first
    | with_reducible assumption
    | with_reducible exact Keeps.refl _ _
    | with_reducible exact Bool.false_and _
    | intro _
    | with_reducible refine Keeps.foldl _ _ ?_ (fun _ _ => ?_)
    | with_reducible refine State.modPhase_keeps _ _ (maskLe_trans (by decide) hW) ?_ (fun _ h => ?_)
    | with_reducible refine Keeps.ite ?_ ?_
    | dsimp only
    | split

theorem State.settleOutline_keeps {W : Nat} {s₀ s : State} (p : PhaseId) (hW : maskLe 0x80000000000000020000 W = true) (hk : Keeps W s₀ s) :
    Keeps W s₀ (State.settleOutline s p) := by
  unfold State.settleOutline
  repeat' first
    | with_reducible assumption
    | with_reducible exact Keeps.refl _ _
    | with_reducible exact Bool.false_and _
    | intro _
    | with_reducible refine Keeps.foldl _ _ ?_ (fun _ _ => ?_)
    | with_reducible refine State.drivePhase_keeps _ (maskLe_trans (by decide) hW) ?_
    | with_reducible refine State.takeOutline_keeps _ (maskLe_trans (by decide) hW) ?_
    | with_reducible refine Keeps.ite ?_ ?_
    | dsimp only
    | split

theorem State.outlinePhase_keeps {W : Nat} {s₀ s : State} (p : PhaseId) (state : Nat) (duty : Int) (hW : maskLe 0x80000000000000020000 W = true) (hk : Keeps W s₀ s) :
    Keeps W s₀ (State.outlinePhase s p state duty) := by
  unfold State.outlinePhase
  repeat' first
    | with_reducible assumption
    | with_reducible exact Keeps.refl _ _
    | with_reducible exact Bool.false_and _
    | intro _
    | with_reducible refine Keeps.foldl _ _ ?_ (fun _ _ => ?_)
    | with_reducible refine State.modPhase_keeps _ _ (maskLe_trans (by decide) hW) ?_ (fun _ h => ?_)
    | with_reducible refine State.settleOutline_keeps _ (maskLe_trans (by decide) hW) ?_
    | with_reducible refine Keeps.ite ?_ ?_
    | dsimp only
    | split

theorem State.settleOutlines_keeps {W : Nat} {s₀ s : State} (hW : maskLe 0x80000000000000020000 W = true) (hk : Keeps W s₀ s) :
    Keeps W s₀ (State.settleOutlines s) := by
  unfold State.settleOutlines
  repeat' first
    | with_reducible assumption
    | with_reducible exact Keeps.refl _ _
    | with_reducible exact Bool.false_and _
    | intro _
    | with_reducible refine Keeps.foldl _ _ ?_ (fun _ _ => ?_)
    | with_reducible refine State.settleOutline_keeps _ (maskLe_trans (by decide) hW) ?_
    | with_reducible refine Keeps.ite ?_ ?_
    | dsimp only
    | split

theorem State.driveOutline_keeps {W : Nat} {s₀ s : State} (hW : maskLe 0x80000000000000020000 W = true) (hk : Keeps W s₀ s) :
    Keeps W s₀ (State.driveOutline s) := by
  unfold State.driveOutline
  repeat' first
    | with_reducible assumption
    | with_reducible exact Keeps.refl _ _
    | with_reducible exact Bool.false_and _
    | intro _
    | with_reducible refine Keeps.foldl _ _ ?_ (fun _ _ => ?_)
    | with_reducible refine State.outlinePhase_keeps _ _ _ (maskLe_trans (by decide) hW) ?_
    | with_reducible refine Keeps.ite ?_ ?_
    | dsimp only
    | split

theorem State.driveStore_keeps {W : Nat} {s₀ s : State} (hW : maskLe 0x80000000000000020000 W = true) (hk : Keeps W s₀ s) :
    Keeps W s₀ (State.driveStore s) := by
  unfold State.driveStore
  repeat' first
    | with_reducible assumption
    | with_reducible exact Keeps.refl _ _
    | with_reducible exact Bool.false_and _
    | intro _
    | with_reducible refine Keeps.foldl _ _ ?_ (fun _ _ => ?_)
    | with_reducible refine State.outlinePhase_keeps _ _ _ (maskLe_trans (by decide) hW) ?_
    | with_reducible refine Keeps.ite ?_ ?_
    | dsimp only
    | split

theorem State.startTurning_keeps {W : Nat} {s₀ s : State} (hW : maskLe 0x80000000000000024000 W = true) (hk : Keeps W s₀ s) :
    Keeps W s₀ (State.startTurning s) := by
  unfold State.startTurning
  repeat' first
    | with_reducible assumption
    | with_reducible exact Keeps.refl _ _
    | with_reducible exact Bool.false_and _
    | intro _
    | with_reducible refine Keeps.foldl _ _ ?_ (fun _ _ => ?_)
    | with_reducible refine State.setOutline_keeps _ (maskLe_trans (by decide) hW) ?_
    | with_reducible refine State.settleOutlines_keeps  (maskLe_trans (by decide) hW) ?_
    | with_reducible refine State.driveOutline_keeps  (maskLe_trans (by decide) hW) ?_
    | with_reducible refine State.driveStore_keeps  (maskLe_trans (by decide) hW) ?_
    | with_reducible refine Keeps.ite ?_ ?_
    | dsimp only
    | split

theorem State.enterOutline_keeps {W : Nat} {s₀ s : State} (cause : Nat) (hW : maskLe 0x8062D012810006424008 W = true) (hk : Keeps W s₀ s) :
    Keeps W s₀ (State.enterOutline s cause) := by
  unfold State.enterOutline
  repeat' first
    | with_reducible assumption
    | with_reducible exact site_railbit_00 hW (by decide)
    | with_reducible exact site_railbit_40 hW (by decide)
    | with_reducible exact site_3800 hW (by decide)
    | with_reducible exact site_2300 hW (by decide)
    | with_reducible exact Keeps.refl _ _
    | with_reducible exact Bool.false_and _
    | intro _
    | with_reducible refine Keeps.foldl _ _ ?_ (fun _ _ => ?_)
    | with_reducible refine State.setOutline_keeps _ (maskLe_trans (by decide) hW) ?_
    | with_reducible refine State.putObj_keeps _ _ _ ?_ ?_
    | with_reducible refine State.putBit_keeps _ _ _ _ ?_  ?_
    | with_reducible refine State.putRailObj_keeps _ _ _ _ ?_  ?_
    | with_reducible refine State.hardStop_keeps _ _ (maskLe_trans (by decide) hW) ?_
    | with_reducible refine State.leaveRing_keeps _ (maskLe_trans (by decide) hW) ?_
    | with_reducible refine State.raiseCore_keeps _ _ _ (maskLe_trans (by decide) hW) ?_
    | with_reducible refine State.startTurning_keeps  (maskLe_trans (by decide) hW) ?_
    | with_reducible refine Keeps.ite ?_ ?_
    | dsimp only
    | split

theorem State.respond_keeps {W : Nat} {s₀ s : State} (e resp : Nat) (acts : List RailId) (hW : maskLe 0x8062D116810006436008 W = true) (hk : Keeps W s₀ s) :
    Keeps W s₀ (State.respond s e resp acts) := by
  unfold State.respond
  repeat' first
    | with_reducible assumption
    | with_reducible exact site_railbit_00 hW (by decide)
    | with_reducible exact Keeps.refl _ _
    | with_reducible exact Bool.false_and _
    | intro _
    | with_reducible refine Keeps.foldl _ _ ?_ (fun _ _ => ?_)
    | with_reducible refine State.modRail_keeps _ _ (maskLe_trans (by decide) hW) ?_
    | with_reducible refine State.putRailObj_keeps _ _ _ _ ?_  ?_
    | with_reducible refine State.hardStop_keeps _ _ (maskLe_trans (by decide) hW) ?_
    | with_reducible refine State.softStop_keeps _ _ (maskLe_trans (by decide) hW) ?_
    | with_reducible refine State.safePath_keeps  (maskLe_trans (by decide) hW) ?_
    | with_reducible refine State.enterOutline_keeps _ (maskLe_trans (by decide) hW) ?_
    | with_reducible refine Keeps.ite ?_ ?_
    | dsimp only
    | split

theorem State.raise_keeps {W : Nat} {s₀ s : State} (e data : Nat) (hW : maskLe 0x8062D116810006436008 W = true) (hk : Keeps W s₀ s) :
    Keeps W s₀ (State.raise s e data) := by
  unfold State.raise
  repeat' first
    | with_reducible assumption
    | with_reducible exact Keeps.refl _ _
    | with_reducible exact Bool.false_and _
    | intro _
    | with_reducible refine Keeps.foldl _ _ ?_ (fun _ _ => ?_)
    | with_reducible refine State.raiseCore_keeps _ _ _ (maskLe_trans (by decide) hW) ?_
    | with_reducible refine State.respond_keeps _ _ _ (maskLe_trans (by decide) hW) ?_
    | with_reducible refine Keeps.ite ?_ ?_
    | dsimp only
    | split

theorem State.raiseAll_keeps {W : Nat} {s₀ s : State} (l : List (Nat × Nat)) (hW : maskLe 0x8062D116810006436008 W = true) (hk : Keeps W s₀ s) :
    Keeps W s₀ (State.raiseAll s l) := by
  unfold State.raiseAll
  repeat' first
    | with_reducible assumption
    | with_reducible exact Keeps.refl _ _
    | with_reducible exact Bool.false_and _
    | intro _
    | with_reducible refine Keeps.foldl _ _ ?_ (fun _ _ => ?_)
    | with_reducible refine State.raise_keeps _ _ (maskLe_trans (by decide) hW) ?_
    | with_reducible refine Keeps.ite ?_ ?_
    | dsimp only
    | split

end Sys2Proof.Machine
end

