-- ==== Sys2Proof/Laws/KeepsRecorder.lean ====
section
/-! SUPPORT. What the operations of Machine/Recorder.lean keep. -/

namespace Sys2Proof.Machine

theorem State.pumpEmcy_keeps {W : Nat} {s₀ s : State} (hW : maskLe 0x80 W = true) (hk : Keeps W s₀ s) :
    Keeps W s₀ (State.pumpEmcy s) := by
  unfold State.pumpEmcy
  repeat' first
    | with_reducible assumption
    | with_reducible exact Keeps.refl _ _
    | with_reducible exact Bool.false_and _
    | intro _
    | with_reducible refine Keeps.foldl _ _ ?_ (fun _ _ => ?_)
    | with_reducible refine State.setCan_keeps _ (maskLe_trans (by decide) hW) ?_
    | with_reducible refine Keeps.ite ?_ ?_
    | dsimp only
    | split

theorem State.queueEmcy_keeps {W : Nat} {s₀ s : State} (f : List Byte) (hW : maskLe 0x400000000000000000000080 W = true) (hk : Keeps W s₀ s) :
    Keeps W s₀ (State.queueEmcy s f) := by
  unfold State.queueEmcy
  repeat' first
    | with_reducible assumption
    | with_reducible exact site_5f00 hW (by decide)
    | with_reducible exact Keeps.refl _ _
    | with_reducible exact Bool.false_and _
    | intro _
    | with_reducible refine Keeps.foldl _ _ ?_ (fun _ _ => ?_)
    | with_reducible refine State.setCan_keeps _ (maskLe_trans (by decide) hW) ?_
    | with_reducible refine State.bump_keeps _ _ ?_  ?_
    | with_reducible refine State.pumpEmcy_keeps  (maskLe_trans (by decide) hW) ?_
    | with_reducible refine Keeps.ite ?_ ?_
    | dsimp only
    | split

theorem State.pushHistory_keeps {W : Nat} {s₀ s : State} (v : Nat) (hW : maskLe 0x100000000 W = true) (hk : Keeps W s₀ s) :
    Keeps W s₀ (State.pushHistory s v) := by
  unfold State.pushHistory
  repeat' first
    | with_reducible assumption
    | with_reducible exact site_1003 hW (by decide)
    | with_reducible exact Keeps.refl _ _
    | with_reducible exact Bool.false_and _
    | intro _
    | with_reducible refine Keeps.foldl _ _ ?_ (fun _ _ => ?_)
    | with_reducible refine State.putObj_keeps _ _ _ ?_ ?_
    | with_reducible refine Keeps.ite ?_ ?_
    | dsimp only
    | split

theorem State.emcyReset_keeps {W : Nat} {s₀ s : State} (hW : maskLe 0x400000000000000000000080 W = true) (hk : Keeps W s₀ s) :
    Keeps W s₀ (State.emcyReset s) := by
  unfold State.emcyReset
  repeat' first
    | with_reducible assumption
    | with_reducible exact Keeps.refl _ _
    | with_reducible exact Bool.false_and _
    | intro _
    | with_reducible refine Keeps.foldl _ _ ?_ (fun _ _ => ?_)
    | with_reducible refine State.queueEmcy_keeps _ (maskLe_trans (by decide) hW) ?_
    | with_reducible refine Keeps.ite ?_ ?_
    | dsimp only
    | split

theorem State.startWrite_keeps {W : Nat} {s₀ s : State} (hW : maskLe 0x10 W = true) (hk : Keeps W s₀ s) :
    Keeps W s₀ (State.startWrite s) := by
  unfold State.startWrite
  repeat' first
    | with_reducible assumption
    | with_reducible exact Keeps.refl _ _
    | with_reducible exact Bool.false_and _
    | intro _
    | with_reducible refine Keeps.foldl _ _ ?_ (fun _ _ => ?_)
    | with_reducible refine State.setRecorder_keeps _ (maskLe_trans (by decide) hW) ?_
    | with_reducible refine Keeps.ite ?_ ?_
    | dsimp only
    | split

theorem State.startErase_keeps {W : Nat} {s₀ s : State} (hW : maskLe 0x10 W = true) (hk : Keeps W s₀ s) :
    Keeps W s₀ (State.startErase s) := by
  unfold State.startErase
  repeat' first
    | with_reducible assumption
    | with_reducible exact Keeps.refl _ _
    | with_reducible exact Bool.false_and _
    | intro _
    | with_reducible refine Keeps.foldl _ _ ?_ (fun _ _ => ?_)
    | with_reducible refine State.setRecorder_keeps _ (maskLe_trans (by decide) hW) ?_
    | with_reducible refine Keeps.ite ?_ ?_
    | dsimp only
    | split

theorem State.raiseOverflow_keeps {W : Nat} {s₀ s : State} (restored : Bool) (hW : maskLe 0x2800000000018 W = true) (hk : Keeps W s₀ s) :
    Keeps W s₀ (State.raiseOverflow s restored) := by
  unfold State.raiseOverflow
  repeat' first
    | with_reducible assumption
    | with_reducible exact Keeps.refl _ _
    | with_reducible exact Bool.false_and _
    | intro _
    | with_reducible refine Keeps.foldl _ _ ?_ (fun _ _ => ?_)
    | with_reducible refine State.setRecorder_keeps _ (maskLe_trans (by decide) hW) ?_
    | with_reducible refine State.raiseCore_keeps _ _ _ (maskLe_trans (by decide) hW) ?_
    | with_reducible refine Keeps.ite ?_ ?_
    | dsimp only
    | split

theorem State.checkOverflow_keeps {W : Nat} {s₀ s : State} (hW : maskLe 0x2800000000018 W = true) (hk : Keeps W s₀ s) :
    Keeps W s₀ (State.checkOverflow s) := by
  unfold State.checkOverflow
  repeat' first
    | with_reducible assumption
    | with_reducible exact Keeps.refl _ _
    | with_reducible exact Bool.false_and _
    | intro _
    | with_reducible refine Keeps.foldl _ _ ?_ (fun _ _ => ?_)
    | with_reducible refine State.raiseOverflow_keeps _ (maskLe_trans (by decide) hW) ?_
    | with_reducible refine Keeps.ite ?_ ?_
    | dsimp only
    | split

theorem State.stagingChanged_keeps {W : Nat} {s₀ s : State} (hW : maskLe 0x40000000002800000000018 W = true) (hk : Keeps W s₀ s) :
    Keeps W s₀ (State.stagingChanged s) := by
  unfold State.stagingChanged
  repeat' first
    | with_reducible assumption
    | with_reducible exact site_5800 hW (by decide)
    | with_reducible exact Keeps.refl _ _
    | with_reducible exact Bool.false_and _
    | intro _
    | with_reducible refine Keeps.foldl _ _ ?_ (fun _ _ => ?_)
    | with_reducible refine State.putObj_keeps _ _ _ ?_ ?_
    | with_reducible refine State.startWrite_keeps  (maskLe_trans (by decide) hW) ?_
    | with_reducible refine State.checkOverflow_keeps  (maskLe_trans (by decide) hW) ?_
    | with_reducible refine Keeps.ite ?_ ?_
    | dsimp only
    | split

theorem State.dropRecord_keeps {W : Nat} {s₀ s : State} (sev : Fin 6) (hW : maskLe 0x40000000000000000000010 W = true) (hk : Keeps W s₀ s) :
    Keeps W s₀ (State.dropRecord s sev) := by
  unfold State.dropRecord
  repeat' first
    | with_reducible assumption
    | with_reducible exact site_5800 hW (by decide)
    | with_reducible exact Keeps.refl _ _
    | with_reducible exact Bool.false_and _
    | intro _
    | with_reducible refine Keeps.foldl _ _ ?_ (fun _ _ => ?_)
    | with_reducible refine State.setRecorder_keeps _ (maskLe_trans (by decide) hW) ?_
    | with_reducible refine State.bump_keeps _ _ ?_  ?_
    | with_reducible refine Keeps.ite ?_ ?_
    | dsimp only
    | split

theorem State.enterStaged_keeps {W : Nat} {s₀ s : State} (e : Staged) (hW : maskLe 0x40000000002800000000018 W = true) (hk : Keeps W s₀ s) :
    Keeps W s₀ (State.enterStaged s e) := by
  unfold State.enterStaged
  repeat' first
    | with_reducible assumption
    | with_reducible exact Keeps.refl _ _
    | with_reducible exact Bool.false_and _
    | intro _
    | with_reducible refine Keeps.foldl _ _ ?_ (fun _ _ => ?_)
    | with_reducible refine State.setRecorder_keeps _ (maskLe_trans (by decide) hW) ?_
    | with_reducible refine State.stagingChanged_keeps  (maskLe_trans (by decide) hW) ?_
    | with_reducible refine State.dropRecord_keeps _ (maskLe_trans (by decide) hW) ?_
    | with_reducible refine Keeps.ite ?_ ?_
    | dsimp only
    | split

theorem State.takeRecord_keeps {W : Nat} {s₀ s : State} (o : Occurrence) (hW : maskLe 0x40000000002800000000018 W = true) (hk : Keeps W s₀ s) :
    Keeps W s₀ (State.takeRecord s o).1 := by
  unfold State.takeRecord
  repeat' first
    | with_reducible assumption
    | with_reducible exact site_5800 hW (by decide)
    | with_reducible exact Keeps.refl _ _
    | with_reducible exact Bool.false_and _
    | intro _
    | with_reducible refine Keeps.foldl _ _ ?_ (fun _ _ => ?_)
    | with_reducible refine State.setRecorder_keeps _ (maskLe_trans (by decide) hW) ?_
    | with_reducible refine State.bump_keeps _ _ ?_  ?_
    | with_reducible refine State.enterStaged_keeps _ (maskLe_trans (by decide) hW) ?_
    | with_reducible refine Keeps.ite ?_ ?_
    | dsimp only
    | split

theorem State.takeOccurrence_keeps {W : Nat} {s₀ s : State} (o : Occurrence) (hW : maskLe 0x440000000002800120000098 W = true) (hk : Keeps W s₀ s) :
    Keeps W s₀ (State.takeOccurrence s o) := by
  unfold State.takeOccurrence
  repeat' first
    | with_reducible assumption
    | with_reducible exact site_2320 hW (by decide)
    | with_reducible exact Keeps.refl _ _
    | with_reducible exact Bool.false_and _
    | intro _
    | with_reducible refine Keeps.foldl _ _ ?_ (fun _ _ => ?_)
    | with_reducible refine State.bump_keeps _ _ ?_  ?_
    | with_reducible refine State.tick_keeps  (maskLe_trans (by decide) hW) ?_
    | with_reducible refine State.queueEmcy_keeps _ (maskLe_trans (by decide) hW) ?_
    | with_reducible refine State.pushHistory_keeps _ (maskLe_trans (by decide) hW) ?_
    | with_reducible refine State.takeRecord_keeps _ (maskLe_trans (by decide) hW) ?_
    | with_reducible refine Keeps.ite ?_ ?_
    | dsimp only
    | split

theorem State.processFifo_keeps {W : Nat} {s₀ s : State} (hW : maskLe 0x440000000002800120000098 W = true) (hk : Keeps W s₀ s) :
    Keeps W s₀ (State.processFifo s) := by
  unfold State.processFifo
  repeat' first
    | with_reducible assumption
    | with_reducible exact site_2320 hW (by decide)
    | with_reducible exact Keeps.refl _ _
    | with_reducible exact Bool.false_and _
    | intro _
    | with_reducible refine Keeps.foldl _ _ ?_ (fun _ _ => ?_)
    | with_reducible refine State.setFabric_keeps _ (maskLe_trans (by decide) hW) ?_
    | with_reducible refine State.putObj_keeps _ _ _ ?_ ?_
    | with_reducible refine State.takeOccurrence_keeps _ (maskLe_trans (by decide) hW) ?_
    | with_reducible refine Keeps.ite ?_ ?_
    | dsimp only
    | split

theorem State.requeueOne_keeps {W : Nat} {s₀ s : State} (e : Nat) (hW : maskLe 0x2000000000008 W = true) (hk : Keeps W s₀ s) :
    Keeps W s₀ (State.requeueOne s e) := by
  unfold State.requeueOne
  repeat' first
    | with_reducible assumption
    | with_reducible exact Keeps.refl _ _
    | with_reducible exact Bool.false_and _
    | intro _
    | with_reducible refine Keeps.foldl _ _ ?_ (fun _ _ => ?_)
    | with_reducible refine State.setFabric_keeps _ (maskLe_trans (by decide) hW) ?_
    | with_reducible refine State.enqueue_keeps _ (maskLe_trans (by decide) hW) ?_
    | with_reducible refine Keeps.ite ?_ ?_
    | dsimp only
    | split

theorem State.requeue_keeps {W : Nat} {s₀ s : State} (hW : maskLe 0x2000000000008 W = true) (hk : Keeps W s₀ s) :
    Keeps W s₀ (State.requeue s) := by
  unfold State.requeue
  repeat' first
    | with_reducible assumption
    | with_reducible exact Keeps.refl _ _
    | with_reducible exact Bool.false_and _
    | intro _
    | with_reducible refine Keeps.foldl _ _ ?_ (fun _ _ => ?_)
    | with_reducible refine State.requeueOne_keeps _ (maskLe_trans (by decide) hW) ?_
    | with_reducible refine Keeps.ite ?_ ?_
    | dsimp only
    | split

theorem State.endWith_keeps {W : Nat} {s₀ s : State} (e time data reps aux : Nat) (hW : maskLe 0x40000000002800000000018 W = true) (hk : Keeps W s₀ s) :
    Keeps W s₀ (State.endWith s e time data reps aux) := by
  unfold State.endWith
  repeat' first
    | with_reducible assumption
    | with_reducible exact Keeps.refl _ _
    | with_reducible exact Bool.false_and _
    | intro _
    | with_reducible refine Keeps.foldl _ _ ?_ (fun _ _ => ?_)
    | with_reducible refine State.setFabric_keeps _ (maskLe_trans (by decide) hW) ?_
    | with_reducible refine State.setRecorder_keeps _ (maskLe_trans (by decide) hW) ?_
    | with_reducible refine State.enterStaged_keeps _ (maskLe_trans (by decide) hW) ?_
    | with_reducible refine Keeps.ite ?_ ?_
    | dsimp only
    | split

theorem State.endEvent_keeps {W : Nat} {s₀ s : State} (e : Nat) (data : Nat) (hW : maskLe 0x40000000002800000000018 W = true) (hk : Keeps W s₀ s) :
    Keeps W s₀ (State.endEvent s e data) := by
  unfold State.endEvent
  repeat' first
    | with_reducible assumption
    | with_reducible exact Keeps.refl _ _
    | with_reducible exact Bool.false_and _
    | intro _
    | with_reducible refine Keeps.foldl _ _ ?_ (fun _ _ => ?_)
    | with_reducible refine State.endWith_keeps _ _ _ _ _ (maskLe_trans (by decide) hW) ?_
    | with_reducible refine Keeps.ite ?_ ?_
    | dsimp only
    | split

theorem State.streamRecord_keeps {W : Nat} {s₀ s : State} (r : Record) (hW : maskLe 0x40000000000100 W = true) (hk : Keeps W s₀ s) :
    Keeps W s₀ (State.streamRecord s r) := by
  unfold State.streamRecord
  repeat' first
    | with_reducible assumption
    | with_reducible exact site_2510 hW (by decide)
    | with_reducible exact Keeps.refl _ _
    | with_reducible exact Bool.false_and _
    | intro _
    | with_reducible refine Keeps.foldl _ _ ?_ (fun _ _ => ?_)
    | with_reducible refine State.setGsp_keeps _ (maskLe_trans (by decide) hW) ?_
    | with_reducible refine State.bump_keeps _ _ ?_  ?_
    | with_reducible refine Keeps.ite ?_ ?_
    | dsimp only
    | split

theorem State.queueExternal_keeps {W : Nat} {s₀ s : State} (r : Record) (hW : maskLe 0x10 W = true) (hk : Keeps W s₀ s) :
    Keeps W s₀ (State.queueExternal s r) := by
  unfold State.queueExternal
  repeat' first
    | with_reducible assumption
    | with_reducible exact Keeps.refl _ _
    | with_reducible exact Bool.false_and _
    | intro _
    | with_reducible refine Keeps.foldl _ _ ?_ (fun _ _ => ?_)
    | with_reducible refine State.setRecorder_keeps _ (maskLe_trans (by decide) hW) ?_
    | with_reducible refine Keeps.ite ?_ ?_
    | dsimp only
    | split

theorem State.advance_keeps {W : Nat} {s₀ s : State} (hW : maskLe 0x10 W = true) (hk : Keeps W s₀ s) :
    Keeps W s₀ (State.advance s) := by
  unfold State.advance
  repeat' first
    | with_reducible assumption
    | with_reducible exact Keeps.refl _ _
    | with_reducible exact Bool.false_and _
    | intro _
    | with_reducible refine Keeps.foldl _ _ ?_ (fun _ _ => ?_)
    | with_reducible refine State.setRecorder_keeps _ (maskLe_trans (by decide) hW) ?_
    | with_reducible refine Keeps.ite ?_ ?_
    | dsimp only
    | split

theorem State.slotWritten_keeps {W : Nat} {s₀ s : State} (rec : Record) (hW : maskLe 0x10 W = true) (hk : Keeps W s₀ s) :
    Keeps W s₀ (State.slotWritten s rec) := by
  unfold State.slotWritten
  repeat' first
    | with_reducible assumption
    | with_reducible exact Keeps.refl _ _
    | with_reducible exact Bool.false_and _
    | intro _
    | with_reducible refine Keeps.foldl _ _ ?_ (fun _ _ => ?_)
    | with_reducible refine State.setRecorder_keeps _ (maskLe_trans (by decide) hW) ?_
    | with_reducible refine State.advance_keeps  (maskLe_trans (by decide) hW) ?_
    | with_reducible refine Keeps.ite ?_ ?_
    | dsimp only
    | split

theorem State.recordWritten_keeps {W : Nat} {s₀ s : State} (rec : Record) (hW : maskLe 0x40000000042800000000118 W = true) (hk : Keeps W s₀ s) :
    Keeps W s₀ (State.recordWritten s rec) := by
  unfold State.recordWritten
  repeat' first
    | with_reducible assumption
    | with_reducible exact site_5800 hW (by decide)
    | with_reducible exact Keeps.refl _ _
    | with_reducible exact Bool.false_and _
    | intro _
    | with_reducible refine Keeps.foldl _ _ ?_ (fun _ _ => ?_)
    | with_reducible refine State.bump_keeps _ _ ?_  ?_
    | with_reducible refine State.startErase_keeps  (maskLe_trans (by decide) hW) ?_
    | with_reducible refine State.stagingChanged_keeps  (maskLe_trans (by decide) hW) ?_
    | with_reducible refine State.streamRecord_keeps _ (maskLe_trans (by decide) hW) ?_
    | with_reducible refine State.queueExternal_keeps _ (maskLe_trans (by decide) hW) ?_
    | with_reducible refine State.slotWritten_keeps _ (maskLe_trans (by decide) hW) ?_
    | with_reducible refine Keeps.ite ?_ ?_
    | dsimp only
    | split

theorem State.granuleDone_keeps {W : Nat} {s₀ s : State} (hW : maskLe 0x40000000042800000000118 W = true) (hk : Keeps W s₀ s) :
    Keeps W s₀ (State.granuleDone s) := by
  unfold State.granuleDone
  repeat' first
    | with_reducible assumption
    | with_reducible exact Keeps.refl _ _
    | with_reducible exact Bool.false_and _
    | intro _
    | with_reducible refine Keeps.foldl _ _ ?_ (fun _ _ => ?_)
    | with_reducible refine State.setRecorder_keeps _ (maskLe_trans (by decide) hW) ?_
    | with_reducible refine State.startWrite_keeps  (maskLe_trans (by decide) hW) ?_
    | with_reducible refine State.recordWritten_keeps _ (maskLe_trans (by decide) hW) ?_
    | with_reducible refine Keeps.ite ?_ ?_
    | dsimp only
    | split

theorem State.sectorErased_keeps {W : Nat} {s₀ s : State} (hW : maskLe 0x4008062D116810006436018 W = true) (hk : Keeps W s₀ s) :
    Keeps W s₀ (State.sectorErased s) := by
  unfold State.sectorErased
  repeat' first
    | with_reducible assumption
    | with_reducible exact site_5800 hW (by decide)
    | with_reducible exact Keeps.refl _ _
    | with_reducible exact Bool.false_and _
    | intro _
    | with_reducible refine Keeps.foldl _ _ ?_ (fun _ _ => ?_)
    | with_reducible refine State.setRecorder_keeps _ (maskLe_trans (by decide) hW) ?_
    | with_reducible refine State.bump_keeps _ _ ?_  ?_
    | with_reducible refine State.raise_keeps _ _ (maskLe_trans (by decide) hW) ?_
    | with_reducible refine State.startWrite_keeps  (maskLe_trans (by decide) hW) ?_
    | with_reducible refine Keeps.ite ?_ ?_
    | dsimp only
    | split

theorem State.forceFlush_keeps {W : Nat} {s₀ s : State} (hW : maskLe 0x10 W = true) (hk : Keeps W s₀ s) :
    Keeps W s₀ (State.forceFlush s) := by
  unfold State.forceFlush
  repeat' first
    | with_reducible assumption
    | with_reducible exact Keeps.refl _ _
    | with_reducible exact Bool.false_and _
    | intro _
    | with_reducible refine Keeps.foldl _ _ ?_ (fun _ _ => ?_)
    | with_reducible refine State.setRecorder_keeps _ (maskLe_trans (by decide) hW) ?_
    | with_reducible refine State.startWrite_keeps  (maskLe_trans (by decide) hW) ?_
    | with_reducible refine Keeps.ite ?_ ?_
    | dsimp only
    | split

theorem State.flushNow_keeps {W : Nat} (n : Nat) {s₀ s : State} (hW : maskLe 0x4008062D156810006436118 W = true) (hk : Keeps W s₀ s) :
    Keeps W s₀ (State.flushNow n s) := by
  induction n generalizing s with
  | zero => exact hk
  | succ m ih =>
    unfold State.flushNow
    (repeat' split) <;> first | exact hk | exact ih (State.granuleDone_keeps (maskLe_trans (by decide) hW) hk) | exact ih (State.sectorErased_keeps (maskLe_trans (by decide) hW) hk)

theorem State.flushWrites_keeps {W : Nat} (n : Nat) {s₀ s : State} (hW : maskLe 0x40000000042800000000118 W = true) (hk : Keeps W s₀ s) :
    Keeps W s₀ (State.flushWrites n s) := by
  induction n generalizing s with
  | zero => exact hk
  | succ m ih =>
    unfold State.flushWrites
    (repeat' split) <;> first | exact hk | exact ih (State.granuleDone_keeps (maskLe_trans (by decide) hW) hk)

theorem State.cutFlush_keeps {W : Nat} {s₀ s : State} (hW : maskLe 0x10 W = true) (hk : Keeps W s₀ s) :
    Keeps W s₀ (State.cutFlush s) := by
  unfold State.cutFlush
  repeat' first
    | with_reducible assumption
    | with_reducible exact Keeps.refl _ _
    | with_reducible exact Bool.false_and _
    | intro _
    | with_reducible refine Keeps.foldl _ _ ?_ (fun _ _ => ?_)
    | with_reducible refine State.setRecorder_keeps _ (maskLe_trans (by decide) hW) ?_
    | with_reducible refine State.slotWritten_keeps _ (maskLe_trans (by decide) hW) ?_
    | with_reducible refine Keeps.ite ?_ ?_
    | dsimp only
    | split

theorem State.rebuildLog_keeps {W : Nat} {s₀ s : State} (hW : maskLe 0x10 W = true) (hk : Keeps W s₀ s) :
    Keeps W s₀ (State.rebuildLog s) := by
  unfold State.rebuildLog
  repeat' first
    | with_reducible assumption
    | with_reducible exact Keeps.refl _ _
    | with_reducible exact Bool.false_and _
    | intro _
    | with_reducible refine Keeps.foldl _ _ ?_ (fun _ _ => ?_)
    | with_reducible refine State.setRecorder_keeps _ (maskLe_trans (by decide) hW) ?_
    | with_reducible refine Keeps.ite ?_ ?_
    | dsimp only
    | split

theorem State.spoilWrite_keeps {W : Nat} {s₀ s : State} (hW : maskLe 0x20000010 W = true) (hk : Keeps W s₀ s) :
    Keeps W s₀ (State.spoilWrite s) := by
  unfold State.spoilWrite
  repeat' first
    | with_reducible assumption
    | with_reducible exact Keeps.refl _ _
    | with_reducible exact Bool.false_and _
    | intro _
    | with_reducible refine Keeps.foldl _ _ ?_ (fun _ _ => ?_)
    | with_reducible refine State.setRecorder_keeps _ (maskLe_trans (by decide) hW) ?_
    | with_reducible refine State.tick_keeps  (maskLe_trans (by decide) hW) ?_
    | with_reducible refine Keeps.ite ?_ ?_
    | dsimp only
    | split

theorem State.startRead_keeps {W : Nat} {s₀ s : State} (ch : Channel) (hW : maskLe 0x10 W = true) (hk : Keeps W s₀ s) :
    Keeps W s₀ (State.startRead s ch) := by
  unfold State.startRead
  repeat' first
    | with_reducible assumption
    | with_reducible exact Keeps.refl _ _
    | with_reducible exact Bool.false_and _
    | intro _
    | with_reducible refine Keeps.foldl _ _ ?_ (fun _ _ => ?_)
    | with_reducible refine State.setRecorder_keeps _ (maskLe_trans (by decide) hW) ?_
    | with_reducible refine Keeps.ite ?_ ?_
    | dsimp only
    | split

theorem State.endDeferral_keeps {W : Nat} {s₀ s : State} (ch : Channel) (hW : maskLe 0x10 W = true) (hk : Keeps W s₀ s) :
    Keeps W s₀ (State.endDeferral s ch) := by
  unfold State.endDeferral
  repeat' first
    | with_reducible assumption
    | with_reducible exact Keeps.refl _ _
    | with_reducible exact Bool.false_and _
    | intro _
    | with_reducible refine Keeps.foldl _ _ ?_ (fun _ _ => ?_)
    | with_reducible refine State.setRecorder_keeps _ (maskLe_trans (by decide) hW) ?_
    | with_reducible refine State.startErase_keeps  (maskLe_trans (by decide) hW) ?_
    | with_reducible refine Keeps.ite ?_ ?_
    | dsimp only
    | split

theorem State.extAdvance_keeps {W : Nat} {s₀ s : State} (hW : maskLe 0x80000000000010 W = true) (hk : Keeps W s₀ s) :
    Keeps W s₀ (State.extAdvance s) := by
  unfold State.extAdvance
  repeat' first
    | with_reducible assumption
    | with_reducible exact site_2520 hW (by decide)
    | with_reducible exact Keeps.refl _ _
    | with_reducible exact Bool.false_and _
    | intro _
    | with_reducible refine Keeps.foldl _ _ ?_ (fun _ _ => ?_)
    | with_reducible refine State.setRecorder_keeps _ (maskLe_trans (by decide) hW) ?_
    | with_reducible refine State.bumpBy_keeps _ _ _ ?_  ?_
    | with_reducible refine Keeps.ite ?_ ?_
    | dsimp only
    | split

theorem State.rebuildExt_keeps {W : Nat} {s₀ s : State} (hW : maskLe 0x80000000000010 W = true) (hk : Keeps W s₀ s) :
    Keeps W s₀ (State.rebuildExt s) := by
  unfold State.rebuildExt
  repeat' first
    | with_reducible assumption
    | with_reducible exact site_2520 hW (by decide)
    | with_reducible exact Keeps.refl _ _
    | with_reducible exact Bool.false_and _
    | intro _
    | with_reducible refine Keeps.foldl _ _ ?_ (fun _ _ => ?_)
    | with_reducible refine State.setRecorder_keeps _ (maskLe_trans (by decide) hW) ?_
    | with_reducible refine State.bumpBy_keeps _ _ _ ?_  ?_
    | with_reducible refine Keeps.ite ?_ ?_
    | dsimp only
    | split

end Sys2Proof.Machine
end

