-- ==== Sys2Proof/Laws/KeepsSense.lean ====
section
/-! SUPPORT. What the operations of Machine/Sense.lean keep. -/

namespace Sys2Proof.Machine

theorem State.errorTrigger_keeps {W : Nat} {s₀ s : State} (p : PhaseId) (k : Nat) (hW : maskLe 0x80000 W = true) (hk : Keeps W s₀ s) :
    Keeps W s₀ (State.errorTrigger s p k) := by
  unfold State.errorTrigger
  repeat' first
    | with_reducible assumption
    | with_reducible exact Keeps.refl _ _
    | with_reducible exact Bool.false_and _
    | intro _
    | with_reducible refine Keeps.foldl _ _ ?_ (fun _ _ => ?_)
    | with_reducible refine State.modVSense_keeps _ _ (maskLe_trans (by decide) hW) ?_
    | with_reducible refine Keeps.ite ?_ ?_
    | dsimp only
    | split

theorem State.currentTrigger_keeps {W : Nat} {s₀ s : State} (p : PhaseId) (hW : maskLe 0x400000000000000040000 W = true) (hk : Keeps W s₀ s) :
    Keeps W s₀ (State.currentTrigger s p) := by
  unfold State.currentTrigger
  repeat' first
    | with_reducible assumption
    | with_reducible exact site_4120 hW (by decide)
    | with_reducible exact Keeps.refl _ _
    | with_reducible exact Bool.false_and _
    | intro _
    | with_reducible refine Keeps.foldl _ _ ?_ (fun _ _ => ?_)
    | with_reducible refine State.setAdcs_keeps _ (maskLe_trans (by decide) hW) ?_
    | with_reducible refine State.putObj_keeps _ _ _ ?_ ?_
    | with_reducible refine Keeps.ite ?_ ?_
    | dsimp only
    | split

theorem execPhaseCurrentTrigger_keeps (p : PhaseId) (s : State) : Keeps.Out 0x400000000000000040000 s (execPhaseCurrentTrigger p s) := by
  unfold execPhaseCurrentTrigger
  repeat' first
    | with_reducible refine Keeps.out_next ?_
    | with_reducible refine Keeps.out_ite ?_ ?_
    | with_reducible assumption
    | with_reducible exact Keeps.refl _ _
    | with_reducible exact Bool.false_and _
    | intro _
    | with_reducible refine Keeps.foldl _ _ ?_ (fun _ _ => ?_)
    | with_reducible refine State.currentTrigger_keeps _ (by decide) ?_
    | with_reducible refine Keeps.ite ?_ ?_
    | dsimp only
    | split

theorem State.takeCurrent_keeps {W : Nat} {s₀ s : State} (p : PhaseId) (code : Nat) (hW : maskLe 0xC062D116810006436008 W = true) (hk : Keeps W s₀ s) :
    Keeps W s₀ (State.takeCurrent s p code) := by
  unfold State.takeCurrent
  repeat' first
    | with_reducible assumption
    | with_reducible exact site_phasebit_5 hW (by decide)
    | with_reducible exact site_phase_5 _ hW (by decide)
    | with_reducible exact Keeps.refl _ _
    | with_reducible exact Bool.false_and _
    | intro _
    | with_reducible refine Keeps.foldl _ _ ?_ (fun _ _ => ?_)
    | with_reducible refine State.bump_keeps _ _ ?_  ?_
    | with_reducible refine State.modPhase_keeps _ _ (maskLe_trans (by decide) hW) ?_ (fun _ h => ?_)
    | with_reducible refine State.putPhaseObj_keeps _ _ _ _ ?_  ?_
    | with_reducible refine State.raise_keeps _ _ (maskLe_trans (by decide) hW) ?_
    | with_reducible refine Keeps.ite ?_ ?_
    | dsimp only
    | split

theorem State.setReference_keeps {W : Nat} {s₀ s : State} (r : VRailId) (hW : maskLe 0x80000000000080000 W = true) (hk : Keeps W s₀ s) :
    Keeps W s₀ (State.setReference s r) := by
  unfold State.setReference
  repeat' first
    | with_reducible assumption
    | with_reducible exact site_railbit_50 hW (by decide)
    | with_reducible exact Keeps.refl _ _
    | with_reducible exact Bool.false_and _
    | intro _
    | with_reducible refine Keeps.foldl _ _ ?_ (fun _ _ => ?_)
    | with_reducible refine State.modVSense_keeps _ _ (maskLe_trans (by decide) hW) ?_
    | with_reducible refine State.putRailObj_keeps _ _ _ _ ?_  ?_
    | with_reducible refine Keeps.ite ?_ ?_
    | dsimp only
    | split

theorem State.windowError_keeps {W : Nat} {s₀ s : State} (r : VRailId) (codes : List (BitVec 9)) (hW : maskLe 0x80000000000080000 W = true) (hk : Keeps W s₀ s) :
    Keeps W s₀ (State.windowError s r codes) := by
  unfold State.windowError
  repeat' first
    | with_reducible assumption
    | with_reducible exact site_railbit_50 hW (by decide)
    | with_reducible exact site_rail_50 _ hW (by decide)
    | with_reducible exact Keeps.refl _ _
    | with_reducible exact Bool.false_and _
    | intro _
    | with_reducible refine Keeps.foldl _ _ ?_ (fun _ _ => ?_)
    | with_reducible refine State.putBit_keeps _ _ _ _ ?_  ?_
    | with_reducible refine State.bump_keeps _ _ ?_  ?_
    | with_reducible refine State.modVSense_keeps _ _ (maskLe_trans (by decide) hW) ?_
    | with_reducible refine State.putRailObj_keeps _ _ _ _ ?_  ?_
    | with_reducible refine Keeps.ite ?_ ?_
    | dsimp only
    | split

theorem execVsnsWindowTimeout_keeps (r : VRailId) (s : State) : Keeps.Out 0x8062D1168100064B6008 s (execVsnsWindowTimeout r s) := by
  unfold execVsnsWindowTimeout
  repeat' first
    | with_reducible refine Keeps.out_next ?_
    | with_reducible refine Keeps.out_ite ?_ ?_
    | with_reducible assumption
    | with_reducible exact Keeps.refl _ _
    | with_reducible exact Bool.false_and _
    | intro _
    | with_reducible refine Keeps.foldl _ _ ?_ (fun _ _ => ?_)
    | with_reducible refine State.modVSense_keeps _ _ (by decide) ?_
    | with_reducible refine State.raise_keeps _ _ (by decide) ?_
    | with_reducible refine Keeps.ite ?_ ?_
    | dsimp only
    | split

theorem execVsnsMismatch_keeps (r : VRailId) (s : State) : Keeps.Out 0x8062D1168100064B6008 s (execVsnsMismatch r s) := by
  unfold execVsnsMismatch
  repeat' first
    | with_reducible refine Keeps.out_next ?_
    | with_reducible refine Keeps.out_ite ?_ ?_
    | with_reducible assumption
    | with_reducible exact Keeps.refl _ _
    | with_reducible exact Bool.false_and _
    | intro _
    | with_reducible refine Keeps.foldl _ _ ?_ (fun _ _ => ?_)
    | with_reducible refine State.modVSense_keeps _ _ (by decide) ?_
    | with_reducible refine State.raise_keeps _ _ (by decide) ?_
    | with_reducible refine Keeps.ite ?_ ?_
    | dsimp only
    | split

theorem State.absoluteBlock_keeps {W : Nat} {s₀ s : State} (r : VRailId) (codes : List (BitVec 14)) (hW : maskLe 0xC0000000000080000 W = true) (hk : Keeps W s₀ s) :
    Keeps W s₀ (State.absoluteBlock s r codes) := by
  unfold State.absoluteBlock
  repeat' first
    | with_reducible assumption
    | with_reducible exact site_railbit_48 hW (by decide)
    | with_reducible exact site_railbit_50 hW (by decide)
    | with_reducible exact Keeps.refl _ _
    | with_reducible exact Bool.false_and _
    | intro _
    | with_reducible refine Keeps.foldl _ _ ?_ (fun _ _ => ?_)
    | with_reducible refine State.modVSense_keeps _ _ (maskLe_trans (by decide) hW) ?_
    | with_reducible refine State.putRailObj_keeps _ _ _ _ ?_  ?_
    | with_reducible refine Keeps.ite ?_ ?_
    | dsimp only
    | split

theorem execAbsoluteBlockComplete_keeps (r : VRailId) (codes : List (BitVec 14)) (s : State) : Keeps.Out 0xC0000000000080000 s (execAbsoluteBlockComplete r codes s) := by
  unfold execAbsoluteBlockComplete
  repeat' first
    | with_reducible refine Keeps.out_next ?_
    | with_reducible refine Keeps.out_ite ?_ ?_
    | with_reducible assumption
    | with_reducible exact Keeps.refl _ _
    | with_reducible exact Bool.false_and _
    | intro _
    | with_reducible refine Keeps.foldl _ _ ?_ (fun _ _ => ?_)
    | with_reducible refine State.absoluteBlock_keeps _ _ (by decide) ?_
    | with_reducible refine Keeps.ite ?_ ?_
    | dsimp only
    | split

theorem execVsnsOpen_keeps (r : VRailId) (code : BitVec 14) (s : State) : Keeps.Out 0x806AD116810006436008 s (execVsnsOpen r code s) := by
  unfold execVsnsOpen
  repeat' first
    | with_reducible refine Keeps.out_next ?_
    | with_reducible refine Keeps.out_ite ?_ ?_
    | with_reducible assumption
    | with_reducible exact site_railbit_50 (maskLe_refl _) (by decide)
    | with_reducible exact site_rail_50 _ (maskLe_refl _) (by decide)
    | with_reducible exact Keeps.refl _ _
    | with_reducible exact Bool.false_and _
    | intro _
    | with_reducible refine Keeps.foldl _ _ ?_ (fun _ _ => ?_)
    | with_reducible refine State.putBit_keeps _ _ _ _ ?_  ?_
    | with_reducible refine State.putRailObj_keeps _ _ _ _ ?_  ?_
    | with_reducible refine State.raise_keeps _ _ (by decide) ?_
    | with_reducible refine Keeps.ite ?_ ?_
    | dsimp only
    | split

theorem execVsnsOpenEnd_keeps (r : VRailId) (s : State) : Keeps.Out 0x40000080002800000000018 s (execVsnsOpenEnd r s) := by
  unfold execVsnsOpenEnd
  repeat' first
    | with_reducible refine Keeps.out_next ?_
    | with_reducible refine Keeps.out_ite ?_ ?_
    | with_reducible assumption
    | with_reducible exact site_rail_50 _ (maskLe_refl _) (by decide)
    | with_reducible exact Keeps.refl _ _
    | with_reducible exact Bool.false_and _
    | intro _
    | with_reducible refine Keeps.foldl _ _ ?_ (fun _ _ => ?_)
    | with_reducible refine State.putBit_keeps _ _ _ _ ?_  ?_
    | with_reducible refine State.endEvent_keeps _ _ (by decide) ?_
    | with_reducible refine Keeps.ite ?_ ?_
    | dsimp only
    | split

theorem State.auxThresholds_keeps {W : Nat} {s₀ s : State} (c : AuxId) (v : Int) (hW : maskLe 0x4008062D116810006536018 W = true) (hk : Keeps W s₀ s) :
    Keeps W s₀ (State.auxThresholds s c v) := by
  unfold State.auxThresholds
  repeat' first
    | with_reducible assumption
    | with_reducible exact Keeps.refl _ _
    | with_reducible exact Bool.false_and _
    | intro _
    | with_reducible refine Keeps.foldl _ _ ?_ (fun _ _ => ?_)
    | with_reducible refine State.modAux_keeps _ _ (maskLe_trans (by decide) hW) ?_
    | with_reducible refine State.raise_keeps _ _ (maskLe_trans (by decide) hW) ?_
    | with_reducible refine State.endEvent_keeps _ _ (maskLe_trans (by decide) hW) ?_
    | with_reducible refine Keeps.ite ?_ ?_
    | dsimp only
    | split

theorem State.auxResult_keeps {W : Nat} {s₀ s : State} (c : AuxId) (codes : List (BitVec 12)) (hW : maskLe 0x4088062D116810006736018 W = true) (hk : Keeps W s₀ s) :
    Keeps W s₀ (State.auxResult s c codes) := by
  unfold State.auxResult
  repeat' first
    | with_reducible assumption
    | with_reducible exact site_4130 hW (by decide)
    | with_reducible exact Keeps.refl _ _
    | with_reducible exact Bool.false_and _
    | intro _
    | with_reducible refine Keeps.foldl _ _ ?_ (fun _ _ => ?_)
    | with_reducible refine State.setAuxSequence_keeps _ (maskLe_trans (by decide) hW) ?_
    | with_reducible refine State.putObj_keeps _ _ _ ?_ ?_
    | with_reducible refine State.modAux_keeps _ _ (maskLe_trans (by decide) hW) ?_
    | with_reducible refine State.auxThresholds_keeps _ _ (maskLe_trans (by decide) hW) ?_
    | with_reducible refine Keeps.ite ?_ ?_
    | dsimp only
    | split

theorem execAuxResult_keeps (c : AuxId) (codes : List (BitVec 12)) (s : State) : Keeps.Out 0x4088062D116810006736018 s (execAuxResult c codes s) := by
  unfold execAuxResult
  repeat' first
    | with_reducible refine Keeps.out_next ?_
    | with_reducible refine Keeps.out_ite ?_ ?_
    | with_reducible assumption
    | with_reducible exact Keeps.refl _ _
    | with_reducible exact Bool.false_and _
    | intro _
    | with_reducible refine Keeps.foldl _ _ ?_ (fun _ _ => ?_)
    | with_reducible refine State.auxResult_keeps _ _ (by decide) ?_
    | with_reducible refine Keeps.ite ?_ ?_
    | dsimp only
    | split

theorem execAuxTriggeredResult_keeps (c : AuxId) (code : BitVec 12) (s : State) : Keeps.Out 0x800000000000000200000 s (execAuxTriggeredResult c code s) := by
  unfold execAuxTriggeredResult
  repeat' first
    | with_reducible refine Keeps.out_next ?_
    | with_reducible refine Keeps.out_ite ?_ ?_
    | with_reducible assumption
    | with_reducible exact site_4130 (maskLe_refl _) (by decide)
    | with_reducible exact Keeps.refl _ _
    | with_reducible exact Bool.false_and _
    | intro _
    | with_reducible refine Keeps.foldl _ _ ?_ (fun _ _ => ?_)
    | with_reducible refine State.setAuxSequence_keeps _ (by decide) ?_
    | with_reducible refine State.putObj_keeps _ _ _ ?_ ?_
    | with_reducible refine Keeps.ite ?_ ?_
    | dsimp only
    | split

theorem State.auxOff_keeps {W : Nat} {s₀ s : State} (c : AuxId) (hW : maskLe 0x40000000002800000100018 W = true) (hk : Keeps W s₀ s) :
    Keeps W s₀ (State.auxOff s c) := by
  unfold State.auxOff
  repeat' first
    | with_reducible assumption
    | with_reducible exact Keeps.refl _ _
    | with_reducible exact Bool.false_and _
    | intro _
    | with_reducible refine Keeps.foldl _ _ ?_ (fun _ _ => ?_)
    | with_reducible refine State.modAux_keeps _ _ (maskLe_trans (by decide) hW) ?_
    | with_reducible refine State.endEvent_keeps _ _ (maskLe_trans (by decide) hW) ?_
    | with_reducible refine Keeps.ite ?_ ?_
    | dsimp only
    | split

end Sys2Proof.Machine
end

