-- ==== Sys2Proof/Laws/KeepsPwm.lean ====
section
/-! SUPPORT. What the operations of Machine/Pwm.lean keep. -/

namespace Sys2Proof.Machine

theorem State.fireTrigger_keeps {W : Nat} {s₀ s : State} (p : PhaseId) (k : Fin 4) (hW : maskLe 0x4000000020000000E0000 W = true) (hk : Keeps W s₀ s) :
    Keeps W s₀ (State.fireTrigger s p k) := by
  unfold State.fireTrigger
  repeat' first
    | with_reducible assumption
    | with_reducible exact Keeps.refl _ _
    | with_reducible exact Bool.false_and _
    | intro _
    | with_reducible refine Keeps.foldl _ _ ?_ (fun _ _ => ?_)
    | with_reducible refine State.modPhase_keeps _ _ (maskLe_trans (by decide) hW) ?_ (fun _ h => ?_)
    | with_reducible refine State.interrupt_keeps _ (maskLe_trans (by decide) hW) ?_
    | with_reducible refine State.errorTrigger_keeps _ _ (maskLe_trans (by decide) hW) ?_
    | with_reducible refine State.currentTrigger_keeps _ (maskLe_trans (by decide) hW) ?_
    | with_reducible refine Keeps.ite ?_ ?_
    | dsimp only
    | split

theorem State.takeSettings_keeps {W : Nat} {s₀ s : State} (p : PhaseId) (hW : maskLe 0x20000 W = true) (hk : Keeps W s₀ s) :
    Keeps W s₀ (State.takeSettings s p) := by
  unfold State.takeSettings
  repeat' first
    | with_reducible assumption
    | with_reducible exact Keeps.refl _ _
    | with_reducible exact Bool.false_and _
    | intro _
    | with_reducible refine Keeps.foldl _ _ ?_ (fun _ _ => ?_)
    | with_reducible refine State.modPhase_keeps _ _ (maskLe_trans (by decide) hW) ?_ (fun _ h => ?_)
    | with_reducible refine Keeps.ite ?_ ?_
    | dsimp only
    | split

theorem State.emit_keeps {W : Nat} {s₀ s : State} (p : PhaseId) (w : Int) (again : Bool) (hW : maskLe 0x19062D116810006436008 W = true) (hk : Keeps W s₀ s) :
    Keeps W s₀ (State.emit s p w again) := by
  unfold State.emit
  repeat' first
    | with_reducible assumption
    | with_reducible exact site_phasebit_7 hW (by decide)
    | with_reducible exact site_phase_2 _ hW (by decide)
    | with_reducible exact site_phase_7 _ hW (by decide)
    | with_reducible exact Keeps.refl _ _
    | with_reducible exact Bool.false_and _
    | intro _
    | with_reducible refine Keeps.foldl _ _ ?_ (fun _ _ => ?_)
    | with_reducible refine State.putObj_keeps _ _ _ ?_ ?_
    | with_reducible refine State.putBit_keeps _ _ _ _ ?_  ?_
    | with_reducible refine State.bump_keeps _ _ ?_  ?_
    | with_reducible refine State.modPhase_keeps _ _ (maskLe_trans (by decide) hW) ?_ (fun _ h => ?_)
    | with_reducible refine State.putPhaseObj_keeps _ _ _ _ ?_  ?_
    | with_reducible refine State.raise_keeps _ _ (maskLe_trans (by decide) hW) ?_
    | with_reducible refine Keeps.ite ?_ ?_
    | dsimp only
    | split

theorem State.emitNone_keeps {W : Nat} {s₀ s : State} (p : PhaseId) (hW : maskLe 0x100000000000000020000 W = true) (hk : Keeps W s₀ s) :
    Keeps W s₀ (State.emitNone s p) := by
  unfold State.emitNone
  repeat' first
    | with_reducible assumption
    | with_reducible exact site_phase_7 _ hW (by decide)
    | with_reducible exact Keeps.refl _ _
    | with_reducible exact Bool.false_and _
    | intro _
    | with_reducible refine Keeps.foldl _ _ ?_ (fun _ _ => ?_)
    | with_reducible refine State.putBit_keeps _ _ _ _ ?_  ?_
    | with_reducible refine State.modPhase_keeps _ _ (maskLe_trans (by decide) hW) ?_ (fun _ h => ?_)
    | with_reducible refine Keeps.ite ?_ ?_
    | dsimp only
    | split

theorem State.trip_keeps {W : Nat} {s₀ s : State} (p : PhaseId) (hW : maskLe 0x80000000000000020000 W = true) (hk : Keeps W s₀ s) :
    Keeps W s₀ (State.trip s p) := by
  unfold State.trip
  repeat' first
    | with_reducible assumption
    | with_reducible exact Keeps.refl _ _
    | with_reducible exact Bool.false_and _
    | intro _
    | with_reducible refine Keeps.foldl _ _ ?_ (fun _ _ => ?_)
    | with_reducible refine State.modPhase_keeps _ _ (maskLe_trans (by decide) hW) ?_ (fun _ h => ?_)
    | with_reducible refine State.drivePhase_keeps _ (maskLe_trans (by decide) hW) ?_
    | with_reducible refine Keeps.ite ?_ ?_
    | dsimp only
    | split

theorem State.raiseTrips_keeps {W : Nat} {s₀ s : State} (l : List (PhaseId × Fin 4)) (hW : maskLe 0x8062D116810006436008 W = true) (hk : Keeps W s₀ s) :
    Keeps W s₀ (State.raiseTrips s l) := by
  unfold State.raiseTrips
  repeat' first
    | with_reducible assumption
    | with_reducible exact Keeps.refl _ _
    | with_reducible exact Bool.false_and _
    | intro _
    | with_reducible refine Keeps.foldl _ _ ?_ (fun _ _ => ?_)
    | with_reducible refine State.modPhase_keeps _ _ (maskLe_trans (by decide) hW) ?_ (fun _ h => ?_)
    | with_reducible refine State.raiseAll_keeps _ (maskLe_trans (by decide) hW) ?_
    | with_reducible refine Keeps.ite ?_ ?_
    | dsimp only
    | split

theorem State.tripZero_keeps {W : Nat} {s₀ s : State} (p : PhaseId) (hW : maskLe 0x9062D116810006436008 W = true) (hk : Keeps W s₀ s) :
    Keeps W s₀ (State.tripZero s p) := by
  unfold State.tripZero
  repeat' first
    | with_reducible assumption
    | with_reducible exact site_phase_2 _ hW (by decide)
    | with_reducible exact Keeps.refl _ _
    | with_reducible exact Bool.false_and _
    | intro _
    | with_reducible refine Keeps.foldl _ _ ?_ (fun _ _ => ?_)
    | with_reducible refine State.putObj_keeps _ _ _ ?_ ?_
    | with_reducible refine State.modPhase_keeps _ _ (maskLe_trans (by decide) hW) ?_ (fun _ h => ?_)
    | with_reducible refine State.raiseTrips_keeps _ (maskLe_trans (by decide) hW) ?_
    | with_reducible refine Keeps.ite ?_ ?_
    | dsimp only
    | split

theorem State.takePeriod_keeps {W : Nat} {s₀ s : State} (p : PhaseId) (hW : maskLe 0x100000000000000020000 W = true) (hk : Keeps W s₀ s) :
    Keeps W s₀ (State.takePeriod s p) := by
  unfold State.takePeriod
  repeat' first
    | with_reducible assumption
    | with_reducible exact site_phasebit_7 hW (by decide)
    | with_reducible exact Keeps.refl _ _
    | with_reducible exact Bool.false_and _
    | intro _
    | with_reducible refine Keeps.foldl _ _ ?_ (fun _ _ => ?_)
    | with_reducible refine State.modPhase_keeps _ _ (maskLe_trans (by decide) hW) ?_ (fun _ h => ?_)
    | with_reducible refine State.putPhaseObj_keeps _ _ _ _ ?_  ?_
    | with_reducible refine Keeps.ite ?_ ?_
    | dsimp only
    | split

theorem State.takeDeadTimes_keeps {W : Nat} {s₀ s : State} (p : PhaseId) (hW : maskLe 0x8000000000000020000 W = true) (hk : Keeps W s₀ s) :
    Keeps W s₀ (State.takeDeadTimes s p) := by
  unfold State.takeDeadTimes
  repeat' first
    | with_reducible assumption
    | with_reducible exact site_phasebit_1 hW (by decide)
    | with_reducible exact Keeps.refl _ _
    | with_reducible exact Bool.false_and _
    | intro _
    | with_reducible refine Keeps.foldl _ _ ?_ (fun _ _ => ?_)
    | with_reducible refine State.modPhase_keeps _ _ (maskLe_trans (by decide) hW) ?_ (fun _ h => ?_)
    | with_reducible refine State.putPhaseObj_keeps _ _ _ _ ?_  ?_
    | with_reducible refine Keeps.ite ?_ ?_
    | dsimp only
    | split

theorem State.takeForce_keeps {W : Nat} {s₀ s : State} (p : PhaseId) (hW : maskLe 0x9062D116810006436008 W = true) (hk : Keeps W s₀ s) :
    Keeps W s₀ (State.takeForce s p) := by
  unfold State.takeForce
  repeat' first
    | with_reducible assumption
    | with_reducible exact site_phase_2 _ hW (by decide)
    | with_reducible exact Keeps.refl _ _
    | with_reducible exact Bool.false_and _
    | intro _
    | with_reducible refine Keeps.foldl _ _ ?_ (fun _ _ => ?_)
    | with_reducible refine State.putObj_keeps _ _ _ ?_ ?_
    | with_reducible refine State.modPhase_keeps _ _ (maskLe_trans (by decide) hW) ?_ (fun _ h => ?_)
    | with_reducible refine State.raise_keeps _ _ (maskLe_trans (by decide) hW) ?_
    | with_reducible refine Keeps.ite ?_ ?_
    | dsimp only
    | split

theorem State.takeMask_keeps {W : Nat} {s₀ s : State} (p : PhaseId) (hW : maskLe 0x2020000 W = true) (hk : Keeps W s₀ s) :
    Keeps W s₀ (State.takeMask s p) := by
  unfold State.takeMask
  repeat' first
    | with_reducible assumption
    | with_reducible exact Keeps.refl _ _
    | with_reducible exact Bool.false_and _
    | intro _
    | with_reducible refine Keeps.foldl _ _ ?_ (fun _ _ => ?_)
    | with_reducible refine State.setDrive_keeps _ (maskLe_trans (by decide) hW) ?_
    | with_reducible refine State.modPhase_keeps _ _ (maskLe_trans (by decide) hW) ?_ (fun _ h => ?_)
    | with_reducible refine Keeps.ite ?_ ?_
    | dsimp only
    | split

theorem State.takeSwitching_keeps {W : Nat} {s₀ s : State} (p : PhaseId) (zero : Bool) (hW : maskLe 0x80428000010000420000 W = true) (hk : Keeps W s₀ s) :
    Keeps W s₀ (State.takeSwitching s p zero) := by
  unfold State.takeSwitching
  repeat' first
    | with_reducible assumption
    | with_reducible exact Keeps.refl _ _
    | with_reducible exact Bool.false_and _
    | intro _
    | with_reducible refine Keeps.foldl _ _ ?_ (fun _ _ => ?_)
    | with_reducible refine State.modPhase_keeps _ _ (maskLe_trans (by decide) hW) ?_ (fun _ h => ?_)
    | with_reducible refine State.settleStop_keeps _ (maskLe_trans (by decide) hW) ?_
    | with_reducible refine State.drivePhase_keeps _ (maskLe_trans (by decide) hW) ?_
    | with_reducible refine Keeps.ite ?_ ?_
    | dsimp only
    | split

theorem State.endPeriod_keeps {W : Nat} {s₀ s : State} (p : PhaseId) (hW : maskLe 0x100000000000000020000 W = true) (hk : Keeps W s₀ s) :
    Keeps W s₀ (State.endPeriod s p) := by
  unfold State.endPeriod
  repeat' first
    | with_reducible assumption
    | with_reducible exact site_phase_7 _ hW (by decide)
    | with_reducible exact Keeps.refl _ _
    | with_reducible exact Bool.false_and _
    | intro _
    | with_reducible refine Keeps.foldl _ _ ?_ (fun _ _ => ?_)
    | with_reducible refine State.putBit_keeps _ _ _ _ ?_  ?_
    | with_reducible refine State.modPhase_keeps _ _ (maskLe_trans (by decide) hW) ?_ (fun _ h => ?_)
    | with_reducible refine Keeps.ite ?_ ?_
    | dsimp only
    | split

theorem State.openPeriod_keeps {W : Nat} {s₀ s : State} (p : PhaseId) (hW : maskLe 0x19062D116810006436008 W = true) (hk : Keeps W s₀ s) :
    Keeps W s₀ (State.openPeriod s p) := by
  unfold State.openPeriod
  repeat' first
    | with_reducible assumption
    | with_reducible exact Keeps.refl _ _
    | with_reducible exact Bool.false_and _
    | intro _
    | with_reducible refine Keeps.foldl _ _ ?_ (fun _ _ => ?_)
    | with_reducible refine State.modPhase_keeps _ _ (maskLe_trans (by decide) hW) ?_ (fun _ h => ?_)
    | with_reducible refine State.emit_keeps _ _ _ (maskLe_trans (by decide) hW) ?_
    | with_reducible refine State.emitNone_keeps _ (maskLe_trans (by decide) hW) ?_
    | exact h
    | with_reducible refine Keeps.ite ?_ ?_
    | dsimp only
    | split

theorem State.startReference_keeps {W : Nat} {s₀ s : State} (p : PhaseId) (hW : maskLe 0x20000 W = true) (hk : Keeps W s₀ s) :
    Keeps W s₀ (State.startReference s p) := by
  unfold State.startReference
  repeat' first
    | with_reducible assumption
    | with_reducible exact Keeps.refl _ _
    | with_reducible exact Bool.false_and _
    | intro _
    | with_reducible refine Keeps.foldl _ _ ?_ (fun _ _ => ?_)
    | with_reducible refine State.modPhase_keeps _ _ (maskLe_trans (by decide) hW) ?_ (fun _ h => ?_)
    | with_reducible refine Keeps.ite ?_ ?_
    | dsimp only
    | split

theorem State.pwmZero_keeps {W : Nat} {s₀ s : State} (p : PhaseId) (hW : maskLe 0x59862D1168100064F6008 W = true) (hk : Keeps W s₀ s) :
    Keeps W s₀ (State.pwmZero s p) := by
  unfold State.pwmZero
  repeat' first
    | with_reducible assumption
    | with_reducible exact Keeps.refl _ _
    | with_reducible exact Bool.false_and _
    | intro _
    | with_reducible refine Keeps.foldl _ _ ?_ (fun _ _ => ?_)
    | with_reducible refine State.drivePhase_keeps _ (maskLe_trans (by decide) hW) ?_
    | with_reducible refine State.takeOutline_keeps _ (maskLe_trans (by decide) hW) ?_
    | with_reducible refine State.fireTrigger_keeps _ _ (maskLe_trans (by decide) hW) ?_
    | with_reducible refine State.takeSettings_keeps _ (maskLe_trans (by decide) hW) ?_
    | with_reducible refine State.tripZero_keeps _ (maskLe_trans (by decide) hW) ?_
    | with_reducible refine State.takePeriod_keeps _ (maskLe_trans (by decide) hW) ?_
    | with_reducible refine State.takeDeadTimes_keeps _ (maskLe_trans (by decide) hW) ?_
    | with_reducible refine State.takeForce_keeps _ (maskLe_trans (by decide) hW) ?_
    | with_reducible refine State.takeMask_keeps _ (maskLe_trans (by decide) hW) ?_
    | with_reducible refine State.takeSwitching_keeps _ _ (maskLe_trans (by decide) hW) ?_
    | with_reducible refine State.endPeriod_keeps _ (maskLe_trans (by decide) hW) ?_
    | with_reducible refine State.openPeriod_keeps _ (maskLe_trans (by decide) hW) ?_
    | with_reducible refine State.startReference_keeps _ (maskLe_trans (by decide) hW) ?_
    | with_reducible refine Keeps.ite ?_ ?_
    | dsimp only
    | split

theorem State.closePeriod_keeps {W : Nat} {s₀ s : State} (p : PhaseId) (hW : maskLe 0x19062D116810006436008 W = true) (hk : Keeps W s₀ s) :
    Keeps W s₀ (State.closePeriod s p) := by
  unfold State.closePeriod
  repeat' first
    | with_reducible assumption
    | with_reducible exact Keeps.refl _ _
    | with_reducible exact Bool.false_and _
    | intro _
    | with_reducible refine Keeps.foldl _ _ ?_ (fun _ _ => ?_)
    | with_reducible refine State.modPhase_keeps _ _ (maskLe_trans (by decide) hW) ?_ (fun _ h => ?_)
    | with_reducible refine State.emit_keeps _ _ _ (maskLe_trans (by decide) hW) ?_
    | exact h
    | with_reducible refine Keeps.ite ?_ ?_
    | dsimp only
    | split

theorem State.pwmMid_keeps {W : Nat} {s₀ s : State} (p : PhaseId) (hW : maskLe 0x19062D116810006436008 W = true) (hk : Keeps W s₀ s) :
    Keeps W s₀ (State.pwmMid s p) := by
  unfold State.pwmMid
  repeat' first
    | with_reducible assumption
    | with_reducible exact Keeps.refl _ _
    | with_reducible exact Bool.false_and _
    | intro _
    | with_reducible refine Keeps.foldl _ _ ?_ (fun _ _ => ?_)
    | with_reducible refine State.drivePhase_keeps _ (maskLe_trans (by decide) hW) ?_
    | with_reducible refine State.takeOutline_keeps _ (maskLe_trans (by decide) hW) ?_
    | with_reducible refine State.takeForce_keeps _ (maskLe_trans (by decide) hW) ?_
    | with_reducible refine State.takeMask_keeps _ (maskLe_trans (by decide) hW) ?_
    | with_reducible refine State.takeSwitching_keeps _ _ (maskLe_trans (by decide) hW) ?_
    | with_reducible refine State.closePeriod_keeps _ (maskLe_trans (by decide) hW) ?_
    | with_reducible refine Keeps.ite ?_ ?_
    | dsimp only
    | split

theorem execPwmMidUpdate_keeps (p : PhaseId) (s : State) : Keeps.Out 0x19062D116810006436008 s (execPwmMidUpdate p s) := by
  unfold execPwmMidUpdate
  repeat' first
    | with_reducible refine Keeps.out_next ?_
    | with_reducible refine Keeps.out_ite ?_ ?_
    | with_reducible assumption
    | with_reducible exact Keeps.refl _ _
    | with_reducible exact Bool.false_and _
    | intro _
    | with_reducible refine Keeps.foldl _ _ ?_ (fun _ _ => ?_)
    | with_reducible refine State.pwmMid_keeps _ (by decide) ?_
    | with_reducible refine Keeps.ite ?_ ?_
    | dsimp only
    | split

theorem execPwmPeriod_keeps (p : PhaseId) (s : State) : Keeps.Out 0x4000000020000000E0000 s (execPwmPeriod p s) := by
  unfold execPwmPeriod
  repeat' first
    | with_reducible refine Keeps.out_next ?_
    | with_reducible refine Keeps.out_ite ?_ ?_
    | with_reducible assumption
    | with_reducible exact Keeps.refl _ _
    | with_reducible exact Bool.false_and _
    | intro _
    | with_reducible refine Keeps.foldl _ _ ?_ (fun _ _ => ?_)
    | with_reducible refine State.fireTrigger_keeps _ _ (by decide) ?_
    | with_reducible refine Keeps.ite ?_ ?_
    | dsimp only
    | split

theorem State.pwmCmpa_keeps {W : Nat} {s₀ s : State} (p : PhaseId) (hW : maskLe 0x4800000020000000E0000 W = true) (hk : Keeps W s₀ s) :
    Keeps W s₀ (State.pwmCmpa s p) := by
  unfold State.pwmCmpa
  repeat' first
    | with_reducible assumption
    | with_reducible exact Keeps.refl _ _
    | with_reducible exact Bool.false_and _
    | intro _
    | with_reducible refine Keeps.foldl _ _ ?_ (fun _ _ => ?_)
    | with_reducible refine State.modPhase_keeps _ _ (maskLe_trans (by decide) hW) ?_ (fun _ h => ?_)
    | with_reducible refine State.drivePhase_keeps _ (maskLe_trans (by decide) hW) ?_
    | with_reducible refine State.fireTrigger_keeps _ _ (maskLe_trans (by decide) hW) ?_
    | with_reducible refine Keeps.ite ?_ ?_
    | dsimp only
    | split

theorem execPwmCmpa_keeps (p : PhaseId) (s : State) : Keeps.Out 0x4800000020000000E0000 s (execPwmCmpa p s) := by
  unfold execPwmCmpa
  repeat' first
    | with_reducible refine Keeps.out_next ?_
    | with_reducible refine Keeps.out_ite ?_ ?_
    | with_reducible assumption
    | with_reducible exact Keeps.refl _ _
    | with_reducible exact Bool.false_and _
    | intro _
    | with_reducible refine Keeps.foldl _ _ ?_ (fun _ _ => ?_)
    | with_reducible refine State.pwmCmpa_keeps _ (by decide) ?_
    | with_reducible refine Keeps.ite ?_ ?_
    | dsimp only
    | split

theorem execPwmCmpb_keeps (p : PhaseId) (s : State) : Keeps.Out 0x4000000020000000E0000 s (execPwmCmpb p s) := by
  unfold execPwmCmpb
  repeat' first
    | with_reducible refine Keeps.out_next ?_
    | with_reducible refine Keeps.out_ite ?_ ?_
    | with_reducible assumption
    | with_reducible exact Keeps.refl _ _
    | with_reducible exact Bool.false_and _
    | intro _
    | with_reducible refine Keeps.foldl _ _ ?_ (fun _ _ => ?_)
    | with_reducible refine State.fireTrigger_keeps _ _ (by decide) ?_
    | with_reducible refine Keeps.ite ?_ ?_
    | dsimp only
    | split

theorem State.referenceRises_keeps {W : Nat} {s₀ s : State} (p : PhaseId) (hW : maskLe 0x80000000000000020000 W = true) (hk : Keeps W s₀ s) :
    Keeps W s₀ (State.referenceRises s p) := by
  unfold State.referenceRises
  repeat' first
    | with_reducible assumption
    | with_reducible exact Keeps.refl _ _
    | with_reducible exact Bool.false_and _
    | intro _
    | with_reducible refine Keeps.foldl _ _ ?_ (fun _ _ => ?_)
    | with_reducible refine State.modPhase_keeps _ _ (maskLe_trans (by decide) hW) ?_ (fun _ h => ?_)
    | with_reducible refine State.drivePhase_keeps _ (maskLe_trans (by decide) hW) ?_
    | with_reducible refine Keeps.ite ?_ ?_
    | dsimp only
    | split

theorem execReferenceRisingEdge_keeps (p : PhaseId) (s : State) : Keeps.Out 0x80000000000000020000 s (execReferenceRisingEdge p s) := by
  unfold execReferenceRisingEdge
  repeat' first
    | with_reducible refine Keeps.out_next ?_
    | with_reducible refine Keeps.out_ite ?_ ?_
    | with_reducible assumption
    | with_reducible exact Keeps.refl _ _
    | with_reducible exact Bool.false_and _
    | intro _
    | with_reducible refine Keeps.foldl _ _ ?_ (fun _ _ => ?_)
    | with_reducible refine State.referenceRises_keeps _ (by decide) ?_
    | with_reducible refine Keeps.ite ?_ ?_
    | dsimp only
    | split

theorem execNodeTransition_keeps (p : PhaseId) (falling : Bool) (edge : NodeEdge) (s : State) : Keeps.Out 0x80000000000000020000 s (execNodeTransition p falling edge s) := by
  unfold execNodeTransition
  repeat' first
    | with_reducible refine Keeps.out_next ?_
    | with_reducible refine Keeps.out_ite ?_ ?_
    | with_reducible assumption
    | with_reducible exact site_phasebit_6 (maskLe_refl _) (by decide)
    | with_reducible exact Keeps.refl _ _
    | with_reducible exact Bool.false_and _
    | intro _
    | with_reducible refine Keeps.foldl _ _ ?_ (fun _ _ => ?_)
    | with_reducible refine State.modPhase_keeps _ _ (by decide) ?_ (fun _ h => ?_)
    | with_reducible refine State.putPhaseObj_keeps _ _ _ _ ?_  ?_
    | with_reducible refine Keeps.ite ?_ ?_
    | dsimp only
    | split

theorem State.adapt_keeps {W : Nat} {s₀ s : State} (p : PhaseId) (falling : Bool) (hW : maskLe 0x20000 W = true) (hk : Keeps W s₀ s) :
    Keeps W s₀ (State.adapt s p falling) := by
  unfold State.adapt
  repeat' first
    | with_reducible assumption
    | with_reducible exact Keeps.refl _ _
    | with_reducible exact Bool.false_and _
    | intro _
    | with_reducible refine Keeps.foldl _ _ ?_ (fun _ _ => ?_)
    | with_reducible refine State.modPhase_keeps _ _ (maskLe_trans (by decide) hW) ?_ (fun _ h => ?_)
    | with_reducible refine Keeps.ite ?_ ?_
    | dsimp only
    | split

theorem execDeadTimeAdapt_keeps (p : PhaseId) (falling : Bool) (s : State) : Keeps.Out 0x20000 s (execDeadTimeAdapt p falling s) := by
  unfold execDeadTimeAdapt
  repeat' first
    | with_reducible refine Keeps.out_next ?_
    | with_reducible refine Keeps.out_ite ?_ ?_
    | with_reducible assumption
    | with_reducible exact Keeps.refl _ _
    | with_reducible exact Bool.false_and _
    | intro _
    | with_reducible refine Keeps.foldl _ _ ?_ (fun _ _ => ?_)
    | with_reducible refine State.adapt_keeps _ _ (by decide) ?_
    | with_reducible refine Keeps.ite ?_ ?_
    | dsimp only
    | split

theorem execNodeMissLimit_keeps (p : PhaseId) (falling : Bool) (s : State) : Keeps.Out 0x18062D116810006436008 s (execNodeMissLimit p falling s) := by
  unfold execNodeMissLimit
  repeat' first
    | with_reducible refine Keeps.out_next ?_
    | with_reducible refine Keeps.out_ite ?_ ?_
    | with_reducible assumption
    | with_reducible exact site_phase_7 _ (maskLe_refl _) (by decide)
    | with_reducible exact Keeps.refl _ _
    | with_reducible exact Bool.false_and _
    | intro _
    | with_reducible refine Keeps.foldl _ _ ?_ (fun _ _ => ?_)
    | with_reducible refine State.putBit_keeps _ _ _ _ ?_  ?_
    | with_reducible refine State.modPhase_keeps _ _ (by decide) ?_ (fun _ h => ?_)
    | with_reducible refine State.raise_keeps _ _ (by decide) ?_
    | with_reducible refine Keeps.ite ?_ ?_
    | dsimp only
    | split

theorem execDtAdaptLimit_keeps (p : PhaseId) (falling : Bool) (s : State) : Keeps.Out 0x8062D116810006436008 s (execDtAdaptLimit p falling s) := by
  unfold execDtAdaptLimit
  repeat' first
    | with_reducible refine Keeps.out_next ?_
    | with_reducible refine Keeps.out_ite ?_ ?_
    | with_reducible assumption
    | with_reducible exact Keeps.refl _ _
    | with_reducible exact Bool.false_and _
    | intro _
    | with_reducible refine Keeps.foldl _ _ ?_ (fun _ _ => ?_)
    | with_reducible refine State.modPhase_keeps _ _ (by decide) ?_ (fun _ h => ?_)
    | with_reducible refine State.raise_keeps _ _ (by decide) ?_
    | with_reducible refine Keeps.ite ?_ ?_
    | dsimp only
    | split

theorem State.restartAdaptation_keeps {W : Nat} {s₀ s : State} (p : PhaseId) (hW : maskLe 0x100000000000000020000 W = true) (hk : Keeps W s₀ s) :
    Keeps W s₀ (State.restartAdaptation s p) := by
  unfold State.restartAdaptation
  repeat' first
    | with_reducible assumption
    | with_reducible exact site_phase_7 _ hW (by decide)
    | with_reducible exact Keeps.refl _ _
    | with_reducible exact Bool.false_and _
    | intro _
    | with_reducible refine Keeps.foldl _ _ ?_ (fun _ _ => ?_)
    | with_reducible refine State.putBit_keeps _ _ _ _ ?_  ?_
    | with_reducible refine State.modPhase_keeps _ _ (maskLe_trans (by decide) hW) ?_ (fun _ h => ?_)
    | with_reducible refine Keeps.ite ?_ ?_
    | dsimp only
    | split

theorem State.overcurrent_keeps {W : Nat} {s₀ s : State} (p : PhaseId) (positive : Bool) (clocks : Nat) (hW : maskLe 0x18062D116810006436008 W = true) (hk : Keeps W s₀ s) :
    Keeps W s₀ (State.overcurrent s p positive clocks) := by
  unfold State.overcurrent
  repeat' first
    | with_reducible assumption
    | with_reducible exact site_phase_7 _ hW (by decide)
    | with_reducible exact Keeps.refl _ _
    | with_reducible exact Bool.false_and _
    | intro _
    | with_reducible refine Keeps.foldl _ _ ?_ (fun _ _ => ?_)
    | with_reducible refine State.putBit_keeps _ _ _ _ ?_  ?_
    | with_reducible refine State.modPhase_keeps _ _ (maskLe_trans (by decide) hW) ?_ (fun _ h => ?_)
    | with_reducible refine State.drivePhase_keeps _ (maskLe_trans (by decide) hW) ?_
    | with_reducible refine State.raise_keeps _ _ (maskLe_trans (by decide) hW) ?_
    | with_reducible refine State.trip_keeps _ (maskLe_trans (by decide) hW) ?_
    | with_reducible refine Keeps.ite ?_ ?_
    | dsimp only
    | split

theorem execOvercurrentCrossing_keeps (p : PhaseId) (crossing : Crossing) (s : State) : Keeps.Out 0x18062D116810006436008 s (execOvercurrentCrossing p crossing s) := by
  unfold execOvercurrentCrossing
  repeat' first
    | with_reducible refine Keeps.out_next ?_
    | with_reducible refine Keeps.out_ite ?_ ?_
    | with_reducible assumption
    | with_reducible exact Keeps.refl _ _
    | with_reducible exact Bool.false_and _
    | intro _
    | with_reducible refine Keeps.foldl _ _ ?_ (fun _ _ => ?_)
    | with_reducible refine State.overcurrent_keeps _ _ _ (by decide) ?_
    | with_reducible refine Keeps.ite ?_ ?_
    | dsimp only
    | split

theorem State.tripInput_keeps {W : Nat} {s₀ s : State} (t : Fin 4) (high : Bool) (clocks : Nat) (hW : maskLe 0x8062D916810006436008 W = true) (hk : Keeps W s₀ s) :
    Keeps W s₀ (State.tripInput s t high clocks) := by
  unfold State.tripInput
  repeat' first
    | with_reducible assumption
    | with_reducible exact site_2630 hW (by decide)
    | with_reducible exact Keeps.refl _ _
    | with_reducible exact Bool.false_and _
    | intro _
    | with_reducible refine Keeps.foldl _ _ ?_ (fun _ _ => ?_)
    | with_reducible refine State.putBit_keeps _ _ _ _ ?_  ?_
    | with_reducible refine State.bump_keeps _ _ ?_  ?_
    | with_reducible refine State.trip_keeps _ (maskLe_trans (by decide) hW) ?_
    | with_reducible refine State.raiseTrips_keeps _ (maskLe_trans (by decide) hW) ?_
    | with_reducible refine Keeps.ite ?_ ?_
    | dsimp only
    | split

theorem execTripInputActive_keeps (t : Fin 4) (level : TripLevel) (s : State) : Keeps.Out 0x8062D916810006436008 s (execTripInputActive t level s) := by
  unfold execTripInputActive
  repeat' first
    | with_reducible refine Keeps.out_next ?_
    | with_reducible refine Keeps.out_ite ?_ ?_
    | with_reducible assumption
    | with_reducible exact Keeps.refl _ _
    | with_reducible exact Bool.false_and _
    | intro _
    | with_reducible refine Keeps.foldl _ _ ?_ (fun _ _ => ?_)
    | with_reducible refine State.tripInput_keeps _ _ _ (by decide) ?_
    | with_reducible refine Keeps.ite ?_ ?_
    | dsimp only
    | split

theorem State.clearTrips_keeps {W : Nat} {s₀ s : State} (phases : Nat) (hW : maskLe 0x20000 W = true) (hk : Keeps W s₀ s) :
    Keeps W s₀ (State.clearTrips s phases) := by
  unfold State.clearTrips
  repeat' first
    | with_reducible assumption
    | with_reducible exact Keeps.refl _ _
    | with_reducible exact Bool.false_and _
    | intro _
    | with_reducible refine Keeps.foldl _ _ ?_ (fun _ _ => ?_)
    | with_reducible refine State.mapPhases_keeps _ (maskLe_trans (by decide) hW) ?_ (fun _ _ h => ?_)
    | with_reducible refine Keeps.ite ?_ ?_
    | dsimp only
    | split

theorem State.resetPhase_keeps {W : Nat} {s₀ s : State} (p : PhaseId) (hW : maskLe 0x118000000000000020000 W = true) (hk : Keeps W s₀ s) :
    Keeps W s₀ (State.resetPhase s p) := by
  unfold State.resetPhase
  repeat' first
    | with_reducible assumption
    | with_reducible exact site_phasebit_1 hW (by decide)
    | with_reducible exact site_phase_2 _ hW (by decide)
    | with_reducible exact Keeps.refl _ _
    | with_reducible exact Bool.false_and _
    | intro _
    | with_reducible refine Keeps.foldl _ _ ?_ (fun _ _ => ?_)
    | with_reducible refine State.putObj_keeps _ _ _ ?_ ?_
    | with_reducible refine State.modPhase_keeps _ _ (maskLe_trans (by decide) hW) ?_ (fun _ h => ?_)
    | with_reducible refine State.putPhaseObj_keeps _ _ _ _ ?_  ?_
    | with_reducible refine State.restartAdaptation_keeps _ (maskLe_trans (by decide) hW) ?_
    | with_reducible refine Keeps.ite ?_ ?_
    | dsimp only
    | split

theorem State.storeAdcLoads_keeps {W : Nat} {s₀ s : State} (hW : maskLe 0x400000000000000000000 W = true) (hk : Keeps W s₀ s) :
    Keeps W s₀ (State.storeAdcLoads s) := by
  unfold State.storeAdcLoads
  repeat' first
    | with_reducible assumption
    | with_reducible exact site_4120 hW (by decide)
    | with_reducible exact Keeps.refl _ _
    | with_reducible exact Bool.false_and _
    | intro _
    | with_reducible refine Keeps.foldl _ _ ?_ (fun _ _ => ?_)
    | with_reducible refine State.putObj_keeps _ _ _ ?_ ?_
    | with_reducible refine Keeps.ite ?_ ?_
    | dsimp only
    | split

end Sys2Proof.Machine
end

