-- ==== Sys2Proof/Laws/KeepsRails.lean ====
section
/-! SUPPORT. What the operations of Machine/Rails.lean keep. -/

namespace Sys2Proof.Machine

theorem State.applyTarget_keeps {W : Nat} {s₀ s : State} (r : RailId) (fresh : Bool) (hW : maskLe 0x8062D116810006436008 W = true) (hk : Keeps W s₀ s) :
    Keeps W s₀ (State.applyTarget s r fresh) := by
  unfold State.applyTarget
  repeat' first
    | with_reducible assumption
    | with_reducible exact site_railbit_10 hW (by decide)
    | with_reducible exact Keeps.refl _ _
    | with_reducible exact Bool.false_and _
    | intro _
    | with_reducible refine Keeps.foldl _ _ ?_ (fun _ _ => ?_)
    | with_reducible refine State.modRail_keeps _ _ (maskLe_trans (by decide) hW) ?_
    | with_reducible refine State.putRailObj_keeps _ _ _ _ ?_  ?_
    | with_reducible refine State.raise_keeps _ _ (maskLe_trans (by decide) hW) ?_
    | with_reducible refine Keeps.ite ?_ ?_
    | dsimp only
    | split

theorem State.retarget_keeps {W : Nat} {s₀ s : State} (r : RailId) (v : Int) (hW : maskLe 0x8062D116810006436008 W = true) (hk : Keeps W s₀ s) :
    Keeps W s₀ (State.retarget s r v) := by
  unfold State.retarget
  repeat' first
    | with_reducible assumption
    | with_reducible exact Keeps.refl _ _
    | with_reducible exact Bool.false_and _
    | intro _
    | with_reducible refine Keeps.foldl _ _ ?_ (fun _ _ => ?_)
    | with_reducible refine State.modRail_keeps _ _ (maskLe_trans (by decide) hW) ?_
    | with_reducible refine State.applyTarget_keeps _ _ (maskLe_trans (by decide) hW) ?_
    | with_reducible refine Keeps.ite ?_ ?_
    | dsimp only
    | split

theorem State.setVr_keeps {W : Nat} {s₀ s : State} (r : RailId) (vr : Int) (hW : maskLe 0x4000000000400000 W = true) (hk : Keeps W s₀ s) :
    Keeps W s₀ (State.setVr s r vr) := by
  unfold State.setVr
  repeat' first
    | with_reducible assumption
    | with_reducible exact site_railbit_10 hW (by decide)
    | with_reducible exact Keeps.refl _ _
    | with_reducible exact Bool.false_and _
    | intro _
    | with_reducible refine Keeps.foldl _ _ ?_ (fun _ _ => ?_)
    | with_reducible refine State.modRail_keeps _ _ (maskLe_trans (by decide) hW) ?_
    | with_reducible refine State.putRailObj_keeps _ _ _ _ ?_  ?_
    | with_reducible refine Keeps.ite ?_ ?_
    | dsimp only
    | split

theorem State.ramp_keeps {W : Nat} {s₀ s : State} (r : RailId) (hW : maskLe 0x4000000000400000 W = true) (hk : Keeps W s₀ s) :
    Keeps W s₀ (State.ramp s r) := by
  unfold State.ramp
  repeat' first
    | with_reducible assumption
    | with_reducible exact Keeps.refl _ _
    | with_reducible exact Bool.false_and _
    | intro _
    | with_reducible refine Keeps.foldl _ _ ?_ (fun _ _ => ?_)
    | with_reducible refine State.modRail_keeps _ _ (maskLe_trans (by decide) hW) ?_
    | with_reducible refine State.setVr_keeps _ _ (maskLe_trans (by decide) hW) ?_
    | with_reducible refine Keeps.ite ?_ ?_
    | dsimp only
    | split

theorem State.takeEnvelope_keeps {W : Nat} {s₀ s : State} (r : RailId) (sub level : Nat) (hW : maskLe 0x8062D116810006436008 W = true) (hk : Keeps W s₀ s) :
    Keeps W s₀ (State.takeEnvelope s r sub level) := by
  unfold State.takeEnvelope
  repeat' first
    | with_reducible assumption
    | with_reducible exact Keeps.refl _ _
    | with_reducible exact Bool.false_and _
    | intro _
    | with_reducible refine Keeps.foldl _ _ ?_ (fun _ _ => ?_)
    | with_reducible refine State.modRail_keeps _ _ (maskLe_trans (by decide) hW) ?_
    | with_reducible refine State.raise_keeps _ _ (maskLe_trans (by decide) hW) ?_
    | with_reducible refine Keeps.ite ?_ ?_
    | dsimp only
    | split

theorem State.freshen_keeps {W : Nat} {s₀ s : State} (r : RailId) (hW : maskLe 0x4 W = true) (hk : Keeps W s₀ s) :
    Keeps W s₀ (State.freshen s r) := by
  exact State.setStale_keeps _ hW hk (filter_ascend _ _)

theorem State.moveLimits_keeps {W : Nat} {s₀ s : State} (r : RailId) (hW : maskLe 0x400000 W = true) (hk : Keeps W s₀ s) :
    Keeps W s₀ (State.moveLimits s r) := by
  unfold State.moveLimits
  repeat' first
    | with_reducible assumption
    | with_reducible exact Keeps.refl _ _
    | with_reducible exact Bool.false_and _
    | intro _
    | with_reducible refine Keeps.foldl _ _ ?_ (fun _ _ => ?_)
    | with_reducible refine State.modRail_keeps _ _ (maskLe_trans (by decide) hW) ?_
    | with_reducible refine Keeps.ite ?_ ?_
    | dsimp only
    | split

theorem State.envelopeBoundary_keeps {W : Nat} {s₀ s : State} (r : RailId) (hW : maskLe 0x8062D11681000643600C W = true) (hk : Keeps W s₀ s) :
    Keeps W s₀ (State.envelopeBoundary s r) := by
  unfold State.envelopeBoundary
  repeat' first
    | with_reducible assumption
    | with_reducible exact Keeps.refl _ _
    | with_reducible exact Bool.false_and _
    | intro _
    | with_reducible refine Keeps.foldl _ _ ?_ (fun _ _ => ?_)
    | with_reducible refine State.modRail_keeps _ _ (maskLe_trans (by decide) hW) ?_
    | with_reducible refine State.applyTarget_keeps _ _ (maskLe_trans (by decide) hW) ?_
    | with_reducible refine State.takeEnvelope_keeps _ _ _ (maskLe_trans (by decide) hW) ?_
    | with_reducible refine State.freshen_keeps _ (maskLe_trans (by decide) hW) ?_
    | with_reducible refine State.moveLimits_keeps _ (maskLe_trans (by decide) hW) ?_
    | with_reducible refine Keeps.ite ?_ ?_
    | dsimp only
    | split

theorem State.setDuty_keeps {W : Nat} {s₀ s : State} (p : PhaseId) (d : Rat) (hW : maskLe 0x20000 W = true) (hk : Keeps W s₀ s) :
    Keeps W s₀ (State.setDuty s p d) := by
  unfold State.setDuty
  repeat' first
    | with_reducible assumption
    | with_reducible exact Keeps.refl _ _
    | with_reducible exact Bool.false_and _
    | intro _
    | with_reducible refine Keeps.foldl _ _ ?_ (fun _ _ => ?_)
    | with_reducible refine State.modPhase_keeps _ _ (maskLe_trans (by decide) hW) ?_ (fun _ h => ?_)
    | with_reducible refine Keeps.ite ?_ ?_
    | dsimp only
    | split

theorem State.regulate_keeps {W : Nat} {s₀ s : State} (r : RailId) (p : PhaseId) (integrate : Bool) (hW : maskLe 0x20000 W = true) (hk : Keeps W s₀ s) :
    Keeps W s₀ (State.regulate s r p integrate) := by
  unfold State.regulate
  repeat' first
    | with_reducible assumption
    | with_reducible exact Keeps.refl _ _
    | with_reducible exact Bool.false_and _
    | intro _
    | with_reducible refine Keeps.foldl _ _ ?_ (fun _ _ => ?_)
    | with_reducible refine State.modPhase_keeps _ _ (maskLe_trans (by decide) hW) ?_ (fun _ h => ?_)
    | with_reducible refine State.setDuty_keeps _ _ (maskLe_trans (by decide) hW) ?_
    | with_reducible refine Keeps.ite ?_ ?_
    | dsimp only
    | split

theorem State.conversionDone_keeps {W : Nat} {s₀ s : State} (p : PhaseId) (code : Nat) (hW : maskLe 0xC062D116810006476008 W = true) (hk : Keeps W s₀ s) :
    Keeps W s₀ (State.conversionDone s p code) := by
  unfold State.conversionDone
  repeat' first
    | with_reducible assumption
    | with_reducible exact Keeps.refl _ _
    | with_reducible exact Bool.false_and _
    | intro _
    | with_reducible refine Keeps.foldl _ _ ?_ (fun _ _ => ?_)
    | with_reducible refine State.setAdcs_keeps _ (maskLe_trans (by decide) hW) ?_
    | with_reducible refine State.takeCurrent_keeps _ _ (maskLe_trans (by decide) hW) ?_
    | with_reducible refine State.regulate_keeps _ _ _ (maskLe_trans (by decide) hW) ?_
    | with_reducible refine Keeps.ite ?_ ?_
    | dsimp only
    | split

theorem execPhaseCurrentConversionDone_keeps (p : PhaseId) (code : BitVec 12) (s : State) : Keeps.Out 0xC062D116810006476008 s (execPhaseCurrentConversionDone p code s) := by
  unfold execPhaseCurrentConversionDone
  repeat' first
    | with_reducible refine Keeps.out_next ?_
    | with_reducible refine Keeps.out_ite ?_ ?_
    | with_reducible assumption
    | with_reducible exact Keeps.refl _ _
    | with_reducible exact Bool.false_and _
    | intro _
    | with_reducible refine Keeps.foldl _ _ ?_ (fun _ _ => ?_)
    | with_reducible refine State.conversionDone_keeps _ _ (by decide) ?_
    | with_reducible refine Keeps.ite ?_ ?_
    | dsimp only
    | split

theorem State.trimPhase_keeps {W : Nat} {s₀ s : State} (r : RailId) (p : PhaseId) (hW : maskLe 0x20000 W = true) (hk : Keeps W s₀ s) :
    Keeps W s₀ (State.trimPhase s r p) := by
  unfold State.trimPhase
  repeat' first
    | with_reducible assumption
    | with_reducible exact Keeps.refl _ _
    | with_reducible exact Bool.false_and _
    | intro _
    | with_reducible refine Keeps.foldl _ _ ?_ (fun _ _ => ?_)
    | with_reducible refine State.modPhase_keeps _ _ (maskLe_trans (by decide) hW) ?_ (fun _ h => ?_)
    | with_reducible refine State.setDuty_keeps _ _ (maskLe_trans (by decide) hW) ?_
    | with_reducible refine Keeps.ite ?_ ?_
    | dsimp only
    | split

theorem State.shareDemand_keeps {W : Nat} {s₀ s : State} (r : RailId) (demand : Int) (hW : maskLe 0x420000 W = true) (hk : Keeps W s₀ s) :
    Keeps W s₀ (State.shareDemand s r demand) := by
  unfold State.shareDemand
  repeat' first
    | with_reducible assumption
    | with_reducible exact Keeps.refl _ _
    | with_reducible exact Bool.false_and _
    | intro _
    | with_reducible refine Keeps.foldl _ _ ?_ (fun _ _ => ?_)
    | with_reducible refine State.modPhase_keeps _ _ (maskLe_trans (by decide) hW) ?_ (fun _ h => ?_)
    | with_reducible refine State.modRail_keeps _ _ (maskLe_trans (by decide) hW) ?_
    | with_reducible refine State.regulate_keeps _ _ _ (maskLe_trans (by decide) hW) ?_
    | with_reducible refine Keeps.ite ?_ ?_
    | dsimp only
    | split

theorem State.phaseZero_keeps {W : Nat} {s₀ s : State} (p : PhaseId) (hW : maskLe 0x59862D1168100064F6008 W = true) (hk : Keeps W s₀ s) :
    Keeps W s₀ (State.phaseZero s p) := by
  unfold State.phaseZero
  repeat' first
    | with_reducible assumption
    | with_reducible exact Keeps.refl _ _
    | with_reducible exact Bool.false_and _
    | intro _
    | with_reducible refine Keeps.foldl _ _ ?_ (fun _ _ => ?_)
    | with_reducible refine State.pwmZero_keeps _ (maskLe_trans (by decide) hW) ?_
    | with_reducible refine State.trimPhase_keeps _ _ (maskLe_trans (by decide) hW) ?_
    | with_reducible refine State.shareDemand_keeps _ _ (maskLe_trans (by decide) hW) ?_
    | with_reducible refine Keeps.ite ?_ ?_
    | dsimp only
    | split

theorem execPwmZero_keeps (p : PhaseId) (s : State) : Keeps.Out 0x59862D1168100064F6008 s (execPwmZero p s) := by
  unfold execPwmZero
  repeat' first
    | with_reducible refine Keeps.out_next ?_
    | with_reducible refine Keeps.out_ite ?_ ?_
    | with_reducible assumption
    | with_reducible exact Keeps.refl _ _
    | with_reducible exact Bool.false_and _
    | intro _
    | with_reducible refine Keeps.foldl _ _ ?_ (fun _ _ => ?_)
    | with_reducible refine State.phaseZero_keeps _ (by decide) ?_
    | with_reducible refine Keeps.ite ?_ ?_
    | dsimp only
    | split

theorem State.distribute_keeps {W : Nat} {s₀ s : State} (r : RailId) (demand : Int) (hW : maskLe 0x20000000000420000 W = true) (hk : Keeps W s₀ s) :
    Keeps W s₀ (State.distribute s r demand) := by
  unfold State.distribute
  repeat' first
    | with_reducible assumption
    | with_reducible exact site_rail_40 _ hW (by decide)
    | with_reducible exact Keeps.refl _ _
    | with_reducible exact Bool.false_and _
    | intro _
    | with_reducible refine Keeps.foldl _ _ ?_ (fun _ _ => ?_)
    | with_reducible refine State.bump_keeps _ _ ?_  ?_
    | with_reducible refine State.modRail_keeps _ _ (maskLe_trans (by decide) hW) ?_
    | with_reducible refine State.setDuty_keeps _ _ (maskLe_trans (by decide) hW) ?_
    | with_reducible refine State.shareDemand_keeps _ _ (maskLe_trans (by decide) hW) ?_
    | with_reducible refine Keeps.ite ?_ ?_
    | dsimp only
    | split

theorem State.measureRail_keeps {W : Nat} {s₀ s : State} (r : RailId) (remote : Rat) (hW : maskLe 0x40000000000000000 W = true) (hk : Keeps W s₀ s) :
    Keeps W s₀ (State.measureRail s r remote) := by
  unfold State.measureRail
  repeat' first
    | with_reducible assumption
    | with_reducible exact site_railbit_48 hW (by decide)
    | with_reducible exact Keeps.refl _ _
    | with_reducible exact Bool.false_and _
    | intro _
    | with_reducible refine Keeps.foldl _ _ ?_ (fun _ _ => ?_)
    | with_reducible refine State.putRailObj_keeps _ _ _ _ ?_  ?_
    | with_reducible refine Keeps.ite ?_ ?_
    | dsimp only
    | split

theorem State.interleave_keeps {W : Nat} {s₀ s : State} (r : RailId) (hW : maskLe 0x20000 W = true) (hk : Keeps W s₀ s) :
    Keeps W s₀ (State.interleave s r) := by
  unfold State.interleave
  repeat' first
    | with_reducible assumption
    | with_reducible exact Keeps.refl _ _
    | with_reducible exact Bool.false_and _
    | intro _
    | with_reducible refine Keeps.foldl _ _ ?_ (fun _ _ => ?_)
    | with_reducible refine State.modPhase_keeps _ _ (maskLe_trans (by decide) hW) ?_ (fun _ h => ?_)
    | with_reducible refine Keeps.ite ?_ ?_
    | dsimp only
    | split

theorem State.activeChanged_keeps {W : Nat} {s₀ s : State} (r : RailId) (hW : maskLe 0x30000000000020000 W = true) (hk : Keeps W s₀ s) :
    Keeps W s₀ (State.activeChanged s r) := by
  unfold State.activeChanged
  repeat' first
    | with_reducible assumption
    | with_reducible exact site_railbit_30 hW (by decide)
    | with_reducible exact site_railbit_40 hW (by decide)
    | with_reducible exact Keeps.refl _ _
    | with_reducible exact Bool.false_and _
    | intro _
    | with_reducible refine Keeps.foldl _ _ ?_ (fun _ _ => ?_)
    | with_reducible refine State.modPhase_keeps _ _ (maskLe_trans (by decide) hW) ?_ (fun _ h => ?_)
    | with_reducible refine State.putRailObj_keeps _ _ _ _ ?_  ?_
    | with_reducible refine State.interleave_keeps _ (maskLe_trans (by decide) hW) ?_
    | with_reducible refine Keeps.ite ?_ ?_
    | dsimp only
    | split

theorem State.addPhases_keeps {W : Nat} {s₀ s : State} (r : RailId) (n cause : Nat) (hW : maskLe 0x8063D116810006436008 W = true) (hk : Keeps W s₀ s) :
    Keeps W s₀ (State.addPhases s r n cause) := by
  unfold State.addPhases
  repeat' first
    | with_reducible assumption
    | with_reducible exact Keeps.refl _ _
    | with_reducible exact Bool.false_and _
    | intro _
    | with_reducible refine Keeps.foldl _ _ ?_ (fun _ _ => ?_)
    | with_reducible refine State.modPhase_keeps _ _ (maskLe_trans (by decide) hW) ?_ (fun _ h => ?_)
    | with_reducible refine State.modRail_keeps _ _ (maskLe_trans (by decide) hW) ?_
    | with_reducible refine State.raise_keeps _ _ (maskLe_trans (by decide) hW) ?_
    | with_reducible refine State.activeChanged_keeps _ (maskLe_trans (by decide) hW) ?_
    | with_reducible refine Keeps.ite ?_ ?_
    | dsimp only
    | split

theorem State.shedPhase_keeps {W : Nat} {s₀ s : State} (r : RailId) (hW : maskLe 0x8063D116810006436008 W = true) (hk : Keeps W s₀ s) :
    Keeps W s₀ (State.shedPhase s r) := by
  unfold State.shedPhase
  repeat' first
    | with_reducible assumption
    | with_reducible exact Keeps.refl _ _
    | with_reducible exact Bool.false_and _
    | intro _
    | with_reducible refine Keeps.foldl _ _ ?_ (fun _ _ => ?_)
    | with_reducible refine State.modPhase_keeps _ _ (maskLe_trans (by decide) hW) ?_ (fun _ h => ?_)
    | with_reducible refine State.modRail_keeps _ _ (maskLe_trans (by decide) hW) ?_
    | with_reducible refine State.raise_keeps _ _ (maskLe_trans (by decide) hW) ?_
    | with_reducible refine State.activeChanged_keeps _ (maskLe_trans (by decide) hW) ?_
    | with_reducible refine Keeps.ite ?_ ?_
    | dsimp only
    | split

theorem State.shedBoundary_keeps {W : Nat} {s₀ s : State} (r : RailId) (hW : maskLe 0x8063D116810006436008 W = true) (hk : Keeps W s₀ s) :
    Keeps W s₀ (State.shedBoundary s r) := by
  unfold State.shedBoundary
  repeat' first
    | with_reducible assumption
    | with_reducible exact Keeps.refl _ _
    | with_reducible exact Bool.false_and _
    | intro _
    | with_reducible refine Keeps.foldl _ _ ?_ (fun _ _ => ?_)
    | with_reducible refine State.modRail_keeps _ _ (maskLe_trans (by decide) hW) ?_
    | with_reducible refine State.addPhases_keeps _ _ _ (maskLe_trans (by decide) hW) ?_
    | with_reducible refine State.shedPhase_keeps _ (maskLe_trans (by decide) hW) ?_
    | with_reducible refine Keeps.ite ?_ ?_
    | dsimp only
    | split

theorem State.shedDwell_keeps {W : Nat} {s₀ s : State} (r : RailId) (hW : maskLe 0x8063D116810006436008 W = true) (hk : Keeps W s₀ s) :
    Keeps W s₀ (State.shedDwell s r) := by
  unfold State.shedDwell
  repeat' first
    | with_reducible assumption
    | with_reducible exact Keeps.refl _ _
    | with_reducible exact Bool.false_and _
    | intro _
    | with_reducible refine Keeps.foldl _ _ ?_ (fun _ _ => ?_)
    | with_reducible refine State.modRail_keeps _ _ (maskLe_trans (by decide) hW) ?_
    | with_reducible refine State.shedPhase_keeps _ (maskLe_trans (by decide) hW) ?_
    | with_reducible refine Keeps.ite ?_ ?_
    | dsimp only
    | split

theorem execShedDwellExpiry_keeps (r : VRailId) (s : State) : Keeps.Out 0x8063D116810006436008 s (execShedDwellExpiry r s) := by
  unfold execShedDwellExpiry
  repeat' first
    | with_reducible refine Keeps.out_next ?_
    | with_reducible refine Keeps.out_ite ?_ ?_
    | with_reducible assumption
    | with_reducible exact Keeps.refl _ _
    | with_reducible exact Bool.false_and _
    | intro _
    | with_reducible refine Keeps.foldl _ _ ?_ (fun _ _ => ?_)
    | with_reducible refine State.shedDwell_keeps _ (by decide) ?_
    | with_reducible refine Keeps.ite ?_ ?_
    | dsimp only
    | split

theorem State.applyDirection_keeps {W : Nat} {s₀ s : State} (v : Int) (hW : maskLe 0x200040000000000000000 W = true) (hk : Keeps W s₀ s) :
    Keeps W s₀ (State.applyDirection s v) := by
  unfold State.applyDirection
  repeat' first
    | with_reducible assumption
    | with_reducible exact site_3448 hW (by decide)
    | with_reducible exact site_4110 hW (by decide)
    | with_reducible exact Keeps.refl _ _
    | with_reducible exact Bool.false_and _
    | intro _
    | with_reducible refine Keeps.foldl _ _ ?_ (fun _ _ => ?_)
    | with_reducible refine State.putObj_keeps _ _ _ ?_ ?_
    | with_reducible refine Keeps.ite ?_ ?_
    | dsimp only
    | split

theorem State.startDrive_keeps {W : Nat} {s₀ s : State} (hW : maskLe 0x200040000000002000000 W = true) (hk : Keeps W s₀ s) :
    Keeps W s₀ (State.startDrive s) := by
  unfold State.startDrive
  repeat' first
    | with_reducible assumption
    | with_reducible exact site_4110 hW (by decide)
    | with_reducible exact Keeps.refl _ _
    | with_reducible exact Bool.false_and _
    | intro _
    | with_reducible refine Keeps.foldl _ _ ?_ (fun _ _ => ?_)
    | with_reducible refine State.setDrive_keeps _ (maskLe_trans (by decide) hW) ?_
    | with_reducible refine State.putObj_keeps _ _ _ ?_ ?_
    | with_reducible refine State.applyDirection_keeps _ (maskLe_trans (by decide) hW) ?_
    | with_reducible refine Keeps.ite ?_ ?_
    | dsimp only
    | split

theorem State.enable_keeps {W : Nat} {s₀ s : State} (r : RailId) (hW : maskLe 0x700041000000002420000 W = true) (hk : Keeps W s₀ s) :
    Keeps W s₀ (State.enable s r) := by
  unfold State.enable
  repeat' first
    | with_reducible assumption
    | with_reducible exact site_railbit_00 hW (by decide)
    | with_reducible exact Keeps.refl _ _
    | with_reducible exact Bool.false_and _
    | intro _
    | with_reducible refine Keeps.foldl _ _ ?_ (fun _ _ => ?_)
    | with_reducible refine State.modPhase_keeps _ _ (maskLe_trans (by decide) hW) ?_ (fun _ h => ?_)
    | with_reducible refine State.modRail_keeps _ _ (maskLe_trans (by decide) hW) ?_
    | with_reducible refine State.putRailObj_keeps _ _ _ _ ?_  ?_
    | with_reducible refine State.restartAdaptation_keeps _ (maskLe_trans (by decide) hW) ?_
    | with_reducible refine State.storeAdcLoads_keeps  (maskLe_trans (by decide) hW) ?_
    | with_reducible refine State.startDrive_keeps  (maskLe_trans (by decide) hW) ?_
    | with_reducible refine Keeps.ite ?_ ?_
    | dsimp only
    | split

theorem State.beginRun_keeps {W : Nat} {s₀ s : State} (r : RailId) (hW : maskLe 0x34000000000C20000 W = true) (hk : Keeps W s₀ s) :
    Keeps W s₀ (State.beginRun s r) := by
  unfold State.beginRun
  repeat' first
    | with_reducible assumption
    | with_reducible exact Keeps.refl _ _
    | with_reducible exact Bool.false_and _
    | intro _
    | with_reducible refine Keeps.foldl _ _ ?_ (fun _ _ => ?_)
    | with_reducible refine State.modPhase_keeps _ _ (maskLe_trans (by decide) hW) ?_ (fun _ h => ?_)
    | with_reducible refine State.modRail_keeps _ _ (maskLe_trans (by decide) hW) ?_
    | with_reducible refine State.modSlot_keeps _ _ (maskLe_trans (by decide) hW) ?_
    | with_reducible refine State.setVr_keeps _ _ (maskLe_trans (by decide) hW) ?_
    | with_reducible refine State.activeChanged_keeps _ (maskLe_trans (by decide) hW) ?_
    | with_reducible refine Keeps.ite ?_ ?_
    | dsimp only
    | split

theorem State.writeEnable_keeps {W : Nat} {s₀ s : State} (r : RailId) (v : Int) (hW : maskLe 0x70046D000010002420000 W = true) (hk : Keeps W s₀ s) :
    Keeps W s₀ (State.writeEnable s r v) := by
  unfold State.writeEnable
  repeat' first
    | with_reducible assumption
    | with_reducible exact site_railbit_00 hW (by decide)
    | with_reducible exact Keeps.refl _ _
    | with_reducible exact Bool.false_and _
    | intro _
    | with_reducible refine Keeps.foldl _ _ ?_ (fun _ _ => ?_)
    | with_reducible refine State.putRailObj_keeps _ _ _ _ ?_  ?_
    | with_reducible refine State.hardStop_keeps _ _ (maskLe_trans (by decide) hW) ?_
    | with_reducible refine State.softStop_keeps _ _ (maskLe_trans (by decide) hW) ?_
    | with_reducible refine State.enable_keeps _ (maskLe_trans (by decide) hW) ?_
    | with_reducible refine Keeps.ite ?_ ?_
    | dsimp only
    | split

theorem State.checkProtection_keeps {W : Nat} {s₀ s : State} (r : RailId) (conds : List Bool) (hW : maskLe 0x400000 W = true) (hk : Keeps W s₀ s) :
    Keeps W s₀ (State.checkProtection s r conds) := by
  unfold State.checkProtection
  repeat' first
    | with_reducible assumption
    | with_reducible exact Keeps.refl _ _
    | with_reducible exact Bool.false_and _
    | intro _
    | with_reducible refine Keeps.foldl _ _ ?_ (fun _ _ => ?_)
    | with_reducible refine State.modRail_keeps _ _ (maskLe_trans (by decide) hW) ?_
    | with_reducible refine Keeps.ite ?_ ?_
    | dsimp only
    | split

theorem State.countCondition_keeps {W : Nat} {s₀ s : State} (r : RailId) (cond : Fin 4) (ms : Nat) (hW : maskLe 0x8062D116810006436008 W = true) (hk : Keeps W s₀ s) :
    Keeps W s₀ (State.countCondition s r cond ms) := by
  unfold State.countCondition
  repeat' first
    | with_reducible assumption
    | with_reducible exact site_railbit_00 hW (by decide)
    | with_reducible exact site_railbit_40 hW (by decide)
    | with_reducible exact Keeps.refl _ _
    | with_reducible exact Bool.false_and _
    | intro _
    | with_reducible refine Keeps.foldl _ _ ?_ (fun _ _ => ?_)
    | with_reducible refine State.modRail_keeps _ _ (maskLe_trans (by decide) hW) ?_
    | with_reducible refine State.putRailObj_keeps _ _ _ _ ?_  ?_
    | with_reducible refine State.hardStop_keeps _ _ (maskLe_trans (by decide) hW) ?_
    | with_reducible refine State.raise_keeps _ _ (maskLe_trans (by decide) hW) ?_
    | with_reducible refine Keeps.ite ?_ ?_
    | dsimp only
    | split

theorem execProtectionConditionCounted_keeps (r : RailId) (cond : Fin 4) (s : State) : Keeps.Out 0x8062D116810006436008 s (execProtectionConditionCounted r cond s) := by
  unfold execProtectionConditionCounted
  repeat' first
    | with_reducible refine Keeps.out_next ?_
    | with_reducible refine Keeps.out_ite ?_ ?_
    | with_reducible assumption
    | with_reducible exact Keeps.refl _ _
    | with_reducible exact Bool.false_and _
    | intro _
    | with_reducible refine Keeps.foldl _ _ ?_ (fun _ _ => ?_)
    | with_reducible refine State.countCondition_keeps _ _ _ (by decide) ?_
    | with_reducible refine Keeps.ite ?_ ?_
    | dsimp only
    | split

theorem State.hiccupOver_keeps {W : Nat} {s₀ s : State} (r : RailId) (hW : maskLe 0x700061000000002420000 W = true) (hk : Keeps W s₀ s) :
    Keeps W s₀ (State.hiccupOver s r) := by
  unfold State.hiccupOver
  repeat' first
    | with_reducible assumption
    | with_reducible exact site_railbit_00 hW (by decide)
    | with_reducible exact site_railbit_40 hW (by decide)
    | with_reducible exact Keeps.refl _ _
    | with_reducible exact Bool.false_and _
    | intro _
    | with_reducible refine Keeps.foldl _ _ ?_ (fun _ _ => ?_)
    | with_reducible refine State.modRail_keeps _ _ (maskLe_trans (by decide) hW) ?_
    | with_reducible refine State.putRailObj_keeps _ _ _ _ ?_  ?_
    | with_reducible refine State.enable_keeps _ (maskLe_trans (by decide) hW) ?_
    | with_reducible refine Keeps.ite ?_ ?_
    | dsimp only
    | split

theorem execHiccupDelayExpiry_keeps (r : RailId) (s : State) : Keeps.Out 0x700061000000002420000 s (execHiccupDelayExpiry r s) := by
  unfold execHiccupDelayExpiry
  repeat' first
    | with_reducible refine Keeps.out_next ?_
    | with_reducible refine Keeps.out_ite ?_ ?_
    | with_reducible assumption
    | with_reducible exact Keeps.refl _ _
    | with_reducible exact Bool.false_and _
    | intro _
    | with_reducible refine Keeps.foldl _ _ ?_ (fun _ _ => ?_)
    | with_reducible refine State.hiccupOver_keeps _ (by decide) ?_
    | with_reducible refine Keeps.ite ?_ ?_
    | dsimp only
    | split

theorem execHiccupResetTimeExpiry_keeps (r : RailId) (s : State) : Keeps.Out 0x20000000000000000 s (execHiccupResetTimeExpiry r s) := by
  unfold execHiccupResetTimeExpiry
  repeat' first
    | with_reducible refine Keeps.out_next ?_
    | with_reducible refine Keeps.out_ite ?_ ?_
    | with_reducible assumption
    | with_reducible exact site_railbit_40 (maskLe_refl _) (by decide)
    | with_reducible exact Keeps.refl _ _
    | with_reducible exact Bool.false_and _
    | intro _
    | with_reducible refine Keeps.foldl _ _ ?_ (fun _ _ => ?_)
    | with_reducible refine State.putRailObj_keeps _ _ _ _ ?_  ?_
    | with_reducible refine Keeps.ite ?_ ?_
    | dsimp only
    | split

theorem State.profileStep_keeps {W : Nat} {s₀ s : State} (r : RailId) (i : Nat) (hW : maskLe 0x8062D116810006436008 W = true) (hk : Keeps W s₀ s) :
    Keeps W s₀ (State.profileStep s r i) := by
  unfold State.profileStep
  repeat' first
    | with_reducible assumption
    | with_reducible exact site_railbit_10 hW (by decide)
    | with_reducible exact Keeps.refl _ _
    | with_reducible exact Bool.false_and _
    | intro _
    | with_reducible refine Keeps.foldl _ _ ?_ (fun _ _ => ?_)
    | with_reducible refine State.modRail_keeps _ _ (maskLe_trans (by decide) hW) ?_
    | with_reducible refine State.putRailObj_keeps _ _ _ _ ?_  ?_
    | with_reducible refine State.retarget_keeps _ _ (maskLe_trans (by decide) hW) ?_
    | with_reducible refine Keeps.ite ?_ ?_
    | dsimp only
    | split

theorem State.profileAbort_keeps {W : Nat} {s₀ s : State} (r : RailId) (hW : maskLe 0x4000000000400000 W = true) (hk : Keeps W s₀ s) :
    Keeps W s₀ (State.profileAbort s r) := by
  unfold State.profileAbort
  repeat' first
    | with_reducible assumption
    | with_reducible exact site_railbit_10 hW (by decide)
    | with_reducible exact Keeps.refl _ _
    | with_reducible exact Bool.false_and _
    | intro _
    | with_reducible refine Keeps.foldl _ _ ?_ (fun _ _ => ?_)
    | with_reducible refine State.modRail_keeps _ _ (maskLe_trans (by decide) hW) ?_
    | with_reducible refine State.putRailObj_keeps _ _ _ _ ?_  ?_
    | with_reducible refine Keeps.ite ?_ ?_
    | dsimp only
    | split

theorem execProfileStepHoldExpiry_keeps (r : RailId) (s : State) : Keeps.Out 0x8062D116810006436008 s (execProfileStepHoldExpiry r s) := by
  unfold execProfileStepHoldExpiry
  repeat' first
    | with_reducible refine Keeps.out_next ?_
    | with_reducible refine Keeps.out_ite ?_ ?_
    | with_reducible assumption
    | with_reducible exact Keeps.refl _ _
    | with_reducible exact Bool.false_and _
    | intro _
    | with_reducible refine Keeps.foldl _ _ ?_ (fun _ _ => ?_)
    | with_reducible refine State.profileStep_keeps _ _ (by decide) ?_
    | with_reducible refine Keeps.ite ?_ ?_
    | dsimp only
    | split

theorem State.acceptTarget_keeps {W : Nat} {s₀ s : State} (r : RailId) (v : Int) (hW : maskLe 0x8062D116810006436008 W = true) (hk : Keeps W s₀ s) :
    Keeps W s₀ (State.acceptTarget s r v) := by
  unfold State.acceptTarget
  repeat' first
    | with_reducible assumption
    | with_reducible exact site_railbit_10 hW (by decide)
    | with_reducible exact Keeps.refl _ _
    | with_reducible exact Bool.false_and _
    | intro _
    | with_reducible refine Keeps.foldl _ _ ?_ (fun _ _ => ?_)
    | with_reducible refine State.modRail_keeps _ _ (maskLe_trans (by decide) hW) ?_
    | with_reducible refine State.putRailObj_keeps _ _ _ _ ?_  ?_
    | with_reducible refine State.retarget_keeps _ _ (maskLe_trans (by decide) hW) ?_
    | with_reducible refine Keeps.ite ?_ ?_
    | dsimp only
    | split

theorem State.takeLimits_keeps {W : Nat} {s₀ s : State} (r : RailId) (hW : maskLe 0x400004 W = true) (hk : Keeps W s₀ s) :
    Keeps W s₀ (State.takeLimits s r) := by
  unfold State.takeLimits
  repeat' first
    | with_reducible assumption
    | with_reducible exact Keeps.refl _ _
    | with_reducible exact Bool.false_and _
    | intro _
    | with_reducible refine Keeps.foldl _ _ ?_ (fun _ _ => ?_)
    | with_reducible refine State.modRail_keeps _ _ (maskLe_trans (by decide) hW) ?_
    | with_reducible refine State.freshen_keeps _ (maskLe_trans (by decide) hW) ?_
    | with_reducible refine Keeps.ite ?_ ?_
    | dsimp only
    | split

theorem State.resetRail_keeps {W : Nat} {s₀ s : State} (r : RailId) (hW : maskLe 0x118024000000000420004 W = true) (hk : Keeps W s₀ s) :
    Keeps W s₀ (State.resetRail s r) := by
  unfold State.resetRail
  repeat' first
    | with_reducible assumption
    | with_reducible exact site_railbit_10 hW (by decide)
    | with_reducible exact site_railbit_40 hW (by decide)
    | with_reducible exact Keeps.refl _ _
    | with_reducible exact Bool.false_and _
    | intro _
    | with_reducible refine Keeps.foldl _ _ ?_ (fun _ _ => ?_)
    | with_reducible refine State.modPhase_keeps _ _ (maskLe_trans (by decide) hW) ?_ (fun _ h => ?_)
    | with_reducible refine State.modRail_keeps _ _ (maskLe_trans (by decide) hW) ?_
    | with_reducible refine State.putRailObj_keeps _ _ _ _ ?_  ?_
    | with_reducible refine State.resetPhase_keeps _ (maskLe_trans (by decide) hW) ?_
    | with_reducible refine State.setVr_keeps _ _ (maskLe_trans (by decide) hW) ?_
    | with_reducible refine State.takeLimits_keeps _ (maskLe_trans (by decide) hW) ?_
    | with_reducible refine Keeps.ite ?_ ?_
    | dsimp only
    | split

end Sys2Proof.Machine
end

