-- ==== Sys2Proof/Laws/KeepsCasup.lean ====
section
/-! SUPPORT. What the operations of Machine/Casup.lean keep. -/

namespace Sys2Proof.Machine

theorem State.modCurrent_keeps {W : Nat} {s₀ s : State} (i : Fin 4) (f : CurrentPath → CurrentPath) (hW : maskLe 0x8000000 W = true) (hk : Keeps W s₀ s) :
    Keeps W s₀ (State.modCurrent s i f) := by
  unfold State.modCurrent
  repeat' first
    | with_reducible assumption
    | with_reducible exact Keeps.refl _ _
    | with_reducible exact Bool.false_and _
    | intro _
    | with_reducible refine Keeps.foldl _ _ ?_ (fun _ _ => ?_)
    | with_reducible refine State.setMetrology_keeps _ (maskLe_trans (by decide) hW) ?_
    | with_reducible refine Keeps.ite ?_ ?_
    | dsimp only
    | split

theorem State.reportRange_keeps {W : Nat} {s₀ s : State} (hW : maskLe 0x1000000000000000000000 W = true) (hk : Keeps W s₀ s) :
    Keeps W s₀ (State.reportRange s) := by
  unfold State.reportRange
  repeat' first
    | with_reducible assumption
    | with_reducible exact site_5000 hW (by decide)
    | with_reducible exact Keeps.refl _ _
    | with_reducible exact Bool.false_and _
    | intro _
    | with_reducible refine Keeps.foldl _ _ ?_ (fun _ _ => ?_)
    | with_reducible refine State.putObj_keeps _ _ _ ?_ ?_
    | with_reducible refine Keeps.ite ?_ ?_
    | dsimp only
    | split

theorem State.decimatedVoltage_keeps {W : Nat} {s₀ s : State} (v : Fin 4) (x : Int) (hW : maskLe 0x8062D11681000E436008 W = true) (hk : Keeps W s₀ s) :
    Keeps W s₀ (State.decimatedVoltage s v x) := by
  unfold State.decimatedVoltage
  repeat' first
    | with_reducible assumption
    | with_reducible exact Keeps.refl _ _
    | with_reducible exact Bool.false_and _
    | intro _
    | with_reducible refine Keeps.foldl _ _ ?_ (fun _ _ => ?_)
    | with_reducible refine State.setMetrology_keeps _ (maskLe_trans (by decide) hW) ?_
    | with_reducible refine State.raise_keeps _ _ (maskLe_trans (by decide) hW) ?_
    | with_reducible refine Keeps.ite ?_ ?_
    | dsimp only
    | split

theorem State.decimatedCurrent_keeps {W : Nat} {s₀ s : State} (i : Fin 4) (high low : Int) (overH overL : Bool) (hW : maskLe 0x108062D11681000E436008 W = true) (hk : Keeps W s₀ s) :
    Keeps W s₀ (State.decimatedCurrent s i high low overH overL) := by
  unfold State.decimatedCurrent
  repeat' first
    | with_reducible assumption
    | with_reducible exact Keeps.refl _ _
    | with_reducible exact Bool.false_and _
    | intro _
    | with_reducible refine Keeps.foldl _ _ ?_ (fun _ _ => ?_)
    | with_reducible refine State.raise_keeps _ _ (maskLe_trans (by decide) hW) ?_
    | with_reducible refine State.modCurrent_keeps _ _ (maskLe_trans (by decide) hW) ?_
    | with_reducible refine State.reportRange_keeps  (maskLe_trans (by decide) hW) ?_
    | with_reducible refine Keeps.ite ?_ ?_
    | dsimp only
    | split

theorem State.decimated_keeps {W : Nat} {s₀ s : State} (x : DecimatedSample) (hW : maskLe 0x108062D11681000E436008 W = true) (hk : Keeps W s₀ s) :
    Keeps W s₀ (State.decimated s x) := by
  unfold State.decimated
  repeat' first
    | with_reducible assumption
    | with_reducible exact Keeps.refl _ _
    | with_reducible exact Bool.false_and _
    | intro _
    | with_reducible refine Keeps.foldl _ _ ?_ (fun _ _ => ?_)
    | with_reducible refine State.decimatedVoltage_keeps _ _ (maskLe_trans (by decide) hW) ?_
    | with_reducible refine State.decimatedCurrent_keeps _ _ _ _ _ (maskLe_trans (by decide) hW) ?_
    | with_reducible refine Keeps.ite ?_ ?_
    | dsimp only
    | split

theorem execDecimatedSample_keeps (sample : DecimatedSample) (s : State) : Keeps.Out 0x108062D11681000E436008 s (execDecimatedSample sample s) := by
  unfold execDecimatedSample
  repeat' first
    | with_reducible refine Keeps.out_next ?_
    | with_reducible refine Keeps.out_ite ?_ ?_
    | with_reducible assumption
    | with_reducible exact Keeps.refl _ _
    | with_reducible exact Bool.false_and _
    | intro _
    | with_reducible refine Keeps.foldl _ _ ?_ (fun _ _ => ?_)
    | with_reducible refine State.decimated_keeps _ (by decide) ?_
    | with_reducible refine Keeps.ite ?_ ?_
    | dsimp only
    | split

theorem State.coherent_keeps {W : Nat} {s₀ s : State} (pins : CoherentPins) (dt : Nat) (hW : maskLe 0x28000000 W = true) (hk : Keeps W s₀ s) :
    Keeps W s₀ (State.coherent s pins dt) := by
  unfold State.coherent
  repeat' first
    | with_reducible assumption
    | with_reducible exact Keeps.refl _ _
    | with_reducible exact Bool.false_and _
    | intro _
    | with_reducible refine Keeps.foldl _ _ ?_ (fun _ _ => ?_)
    | with_reducible refine State.setMetrology_keeps _ (maskLe_trans (by decide) hW) ?_
    | with_reducible refine State.tick_keeps  (maskLe_trans (by decide) hW) ?_
    | with_reducible refine Keeps.ite ?_ ?_
    | dsimp only
    | split

theorem execCoherentSample_keeps (paths : CoherentPins) (dt : Nat) (s : State) : Keeps.Out 0x28000000 s (execCoherentSample paths dt s) := by
  unfold execCoherentSample
  repeat' first
    | with_reducible refine Keeps.out_next ?_
    | with_reducible refine Keeps.out_ite ?_ ?_
    | with_reducible assumption
    | with_reducible exact Keeps.refl _ _
    | with_reducible exact Bool.false_and _
    | intro _
    | with_reducible refine Keeps.foldl _ _ ?_ (fun _ _ => ?_)
    | with_reducible refine State.coherent_keeps _ _ (by decide) ?_
    | with_reducible refine Keeps.ite ?_ ?_
    | dsimp only
    | split

theorem State.publishChannel_keeps {W : Nat} {s₀ s : State} (k : Fin 4) (hW : maskLe 0x2000000000000000000000 W = true) (hk : Keeps W s₀ s) :
    Keeps W s₀ (State.publishChannel s k) := by
  unfold State.publishChannel
  repeat' first
    | with_reducible assumption
    | with_reducible exact site_5030 hW (by decide)
    | with_reducible exact Keeps.refl _ _
    | with_reducible exact Bool.false_and _
    | intro _
    | with_reducible refine Keeps.foldl _ _ ?_ (fun _ _ => ?_)
    | with_reducible refine State.putObj_keeps _ _ _ ?_ ?_
    | with_reducible refine Keeps.ite ?_ ?_
    | dsimp only
    | split

theorem State.crossCheck_keeps {W : Nat} {s₀ s : State} (i : Fin 4) (hW : maskLe 0x108062D11681000E436008 W = true) (hk : Keeps W s₀ s) :
    Keeps W s₀ (State.crossCheck s i) := by
  unfold State.crossCheck
  repeat' first
    | with_reducible assumption
    | with_reducible exact site_5000 hW (by decide)
    | with_reducible exact Keeps.refl _ _
    | with_reducible exact Bool.false_and _
    | intro _
    | with_reducible refine Keeps.foldl _ _ ?_ (fun _ _ => ?_)
    | with_reducible refine State.bump_keeps _ _ ?_  ?_
    | with_reducible refine State.raise_keeps _ _ (maskLe_trans (by decide) hW) ?_
    | with_reducible refine State.modCurrent_keeps _ _ (maskLe_trans (by decide) hW) ?_
    | with_reducible refine Keeps.ite ?_ ?_
    | dsimp only
    | split

theorem State.updateTc_keeps {W : Nat} {s₀ s : State} (i : Fin 4) (hW : maskLe 0x8062D11681000E436008 W = true) (hk : Keeps W s₀ s) :
    Keeps W s₀ (State.updateTc s i) := by
  unfold State.updateTc
  repeat' first
    | with_reducible assumption
    | with_reducible exact Keeps.refl _ _
    | with_reducible exact Bool.false_and _
    | intro _
    | with_reducible refine Keeps.foldl _ _ ?_ (fun _ _ => ?_)
    | with_reducible refine State.raise_keeps _ _ (maskLe_trans (by decide) hW) ?_
    | with_reducible refine State.modCurrent_keeps _ _ (maskLe_trans (by decide) hW) ?_
    | with_reducible refine Keeps.ite ?_ ?_
    | dsimp only
    | split

theorem State.sensorFault_keeps {W : Nat} {s₀ s : State} (i : Fin 4) (cause mv : Nat) (hW : maskLe 0x8062D11681000E436008 W = true) (hk : Keeps W s₀ s) :
    Keeps W s₀ (State.sensorFault s i cause mv) := by
  unfold State.sensorFault
  repeat' first
    | with_reducible assumption
    | with_reducible exact Keeps.refl _ _
    | with_reducible exact Bool.false_and _
    | intro _
    | with_reducible refine Keeps.foldl _ _ ?_ (fun _ _ => ?_)
    | with_reducible refine State.raise_keeps _ _ (maskLe_trans (by decide) hW) ?_
    | with_reducible refine State.modCurrent_keeps _ _ (maskLe_trans (by decide) hW) ?_
    | with_reducible refine Keeps.ite ?_ ?_
    | dsimp only
    | split

theorem execSensorFaultDetected_keeps (i : Fin 4) (cause : Fin 3) (mv : BitVec 16) (s : State) : Keeps.Out 0x8062D11681000E436008 s (execSensorFaultDetected i cause mv s) := by
  unfold execSensorFaultDetected
  repeat' first
    | with_reducible refine Keeps.out_next ?_
    | with_reducible refine Keeps.out_ite ?_ ?_
    | with_reducible assumption
    | with_reducible exact Keeps.refl _ _
    | with_reducible exact Bool.false_and _
    | intro _
    | with_reducible refine Keeps.foldl _ _ ?_ (fun _ _ => ?_)
    | with_reducible refine State.sensorFault_keeps _ _ _ (by decide) ?_
    | with_reducible refine Keeps.ite ?_ ?_
    | dsimp only
    | split

theorem State.sensorClear_keeps {W : Nat} {s₀ s : State} (i : Fin 4) (hW : maskLe 0x40000000002800028000018 W = true) (hk : Keeps W s₀ s) :
    Keeps W s₀ (State.sensorClear s i) := by
  unfold State.sensorClear
  repeat' first
    | with_reducible assumption
    | with_reducible exact Keeps.refl _ _
    | with_reducible exact Bool.false_and _
    | intro _
    | with_reducible refine Keeps.foldl _ _ ?_ (fun _ _ => ?_)
    | with_reducible refine State.tick_keeps  (maskLe_trans (by decide) hW) ?_
    | with_reducible refine State.endEvent_keeps _ _ (maskLe_trans (by decide) hW) ?_
    | with_reducible refine State.modCurrent_keeps _ _ (maskLe_trans (by decide) hW) ?_
    | with_reducible refine Keeps.ite ?_ ?_
    | dsimp only
    | split

theorem execSensorFaultCleared_keeps (i : Fin 4) (s : State) : Keeps.Out 0x40000000002800028000018 s (execSensorFaultCleared i s) := by
  unfold execSensorFaultCleared
  repeat' first
    | with_reducible refine Keeps.out_next ?_
    | with_reducible refine Keeps.out_ite ?_ ?_
    | with_reducible assumption
    | with_reducible exact Keeps.refl _ _
    | with_reducible exact Bool.false_and _
    | intro _
    | with_reducible refine Keeps.foldl _ _ ?_ (fun _ _ => ?_)
    | with_reducible refine State.sensorClear_keeps _ (by decide) ?_
    | with_reducible refine Keeps.ite ?_ ?_
    | dsimp only
    | split

theorem State.restartDecimators_keeps {W : Nat} {s₀ s : State} (hW : maskLe 0x1000000000000008000000 W = true) (hk : Keeps W s₀ s) :
    Keeps W s₀ (State.restartDecimators s) := by
  unfold State.restartDecimators
  repeat' first
    | with_reducible assumption
    | with_reducible exact Keeps.refl _ _
    | with_reducible exact Bool.false_and _
    | intro _
    | with_reducible refine Keeps.foldl _ _ ?_ (fun _ _ => ?_)
    | with_reducible refine State.setMetrology_keeps _ (maskLe_trans (by decide) hW) ?_
    | with_reducible refine State.reportRange_keeps  (maskLe_trans (by decide) hW) ?_
    | with_reducible refine Keeps.ite ?_ ?_
    | dsimp only
    | split

end Sys2Proof.Machine
end

