-- ==== Sys2Proof/Laws/KeepsEnergy.lean ====
section
/-! SUPPORT. What the operations of Machine/Energy.lean keep. -/

namespace Sys2Proof.Machine

theorem State.addEnergy_keeps {W : Nat} {s₀ s : State} (ix sub inc : Nat) (hi : siteIn W ix = true) (hW : maskLe 0x10000000 W = true) (hk : Keeps W s₀ s) :
    Keeps W s₀ (State.addEnergy s ix sub inc) := by
  unfold State.addEnergy
  repeat' first
    | with_reducible assumption
    | with_reducible exact Keeps.refl _ _
    | with_reducible exact Bool.false_and _
    | intro _
    | with_reducible refine Keeps.foldl _ _ ?_ (fun _ _ => ?_)
    | with_reducible refine State.setEnergy_keeps _ (maskLe_trans (by decide) hW) ?_
    | with_reducible refine State.putObj_keeps _ _ _ ?_ ?_
    | with_reducible refine Keeps.ite ?_ ?_
    | dsimp only
    | split

theorem State.addSet_keeps {W : Nat} {s₀ s : State} (ix : Nat) (incs : List (Nat × Nat)) (hi : siteIn W ix = true) (hW : maskLe 0x4000000000000010000000 W = true) (hk : Keeps W s₀ s) :
    Keeps W s₀ (State.addSet s ix incs) := by
  unfold State.addSet
  repeat' first
    | with_reducible assumption
    | with_reducible exact Keeps.refl _ _
    | with_reducible exact Bool.false_and _
    | intro _
    | with_reducible refine Keeps.foldl _ _ ?_ (fun _ _ => ?_)
    | with_reducible refine State.addEnergy_keeps _ _ _ ?_ (maskLe_trans (by decide) hW) ?_
    | with_reducible refine Keeps.ite ?_ ?_
    | dsimp only
    | split

theorem State.energyUpdate_keeps {W : Nat} {s₀ s : State} (flagged : Bool) (hW : maskLe 0x4000000000000010000000 W = true) (hk : Keeps W s₀ s) :
    Keeps W s₀ (State.energyUpdate s flagged) := by
  unfold State.energyUpdate
  refine State.addSet_keeps _ _ (site_5043 hW (by decide)) (maskLe_trans (by decide) hW)
    (Keeps.foldl_mem _ _ hk (fun t c hmem => ?_))
  have hg : Safety.group (0x5040 + c.2) = 0x5040 := by
    have h := List.snd_lt_of_mem_zipIdx hmem
    have e : s.netEnergies.length = 3 := rfl
    unfold Safety.group
    (repeat' split) <;> omega
  exact State.addSet_keeps _ _ (siteIn_group hg (bitIn_mono hW (by decide))) (maskLe_trans (by decide) hW) (Keeps.refl _ _)

theorem State.modPulse_keeps {W : Nat} {s₀ s : State} (e : Fin 2) (f : Pulse → Pulse) (hW : maskLe 0x10000000 W = true) (hk : Keeps W s₀ s) :
    Keeps W s₀ (State.modPulse s e f) := by
  unfold State.modPulse
  repeat' first
    | with_reducible assumption
    | with_reducible exact Keeps.refl _ _
    | with_reducible exact Bool.false_and _
    | intro _
    | with_reducible refine Keeps.foldl _ _ ?_ (fun _ _ => ?_)
    | with_reducible refine State.setEnergy_keeps _ (maskLe_trans (by decide) hW) ?_
    | with_reducible refine Keeps.ite ?_ ?_
    | dsimp only
    | split

theorem State.owePulses_keeps {W : Nat} {s₀ s : State} (incs : List (Nat × Nat)) (e : Fin 2) (hW : maskLe 0x10000000 W = true) (hk : Keeps W s₀ s) :
    Keeps W s₀ (State.owePulses s incs e) := by
  unfold State.owePulses
  repeat' first
    | with_reducible assumption
    | with_reducible exact Keeps.refl _ _
    | with_reducible exact Bool.false_and _
    | intro _
    | with_reducible refine Keeps.foldl _ _ ?_ (fun _ _ => ?_)
    | with_reducible refine State.modPulse_keeps _ _ (maskLe_trans (by decide) hW) ?_
    | with_reducible refine Keeps.ite ?_ ?_
    | dsimp only
    | split

theorem State.emitPulse_keeps {W : Nat} {s₀ s : State} (e : Fin 2) (hW : maskLe 0x8000000000000010000000 W = true) (hk : Keeps W s₀ s) :
    Keeps W s₀ (State.emitPulse s e) := by
  unfold State.emitPulse
  repeat' first
    | with_reducible assumption
    | with_reducible exact site_5050 hW (by decide)
    | with_reducible exact Keeps.refl _ _
    | with_reducible exact Bool.false_and _
    | intro _
    | with_reducible refine Keeps.foldl _ _ ?_ (fun _ _ => ?_)
    | with_reducible refine State.bump_keeps _ _ ?_  ?_
    | with_reducible refine State.modPulse_keeps _ _ (maskLe_trans (by decide) hW) ?_
    | with_reducible refine Keeps.ite ?_ ?_
    | dsimp only
    | split

theorem State.backlogPulse_keeps {W : Nat} {s₀ s : State} (e : Fin 2) (hW : maskLe 0x808062D116810006436008 W = true) (hk : Keeps W s₀ s) :
    Keeps W s₀ (State.backlogPulse s e) := by
  unfold State.backlogPulse
  repeat' first
    | with_reducible assumption
    | with_reducible exact site_5050 hW (by decide)
    | with_reducible exact Keeps.refl _ _
    | with_reducible exact Bool.false_and _
    | intro _
    | with_reducible refine Keeps.foldl _ _ ?_ (fun _ _ => ?_)
    | with_reducible refine State.putObj_keeps _ _ _ ?_ ?_
    | with_reducible refine State.raise_keeps _ _ (maskLe_trans (by decide) hW) ?_
    | with_reducible refine Keeps.ite ?_ ?_
    | dsimp only
    | split

theorem State.drainPulse_keeps {W : Nat} {s₀ s : State} (e : Fin 2) (hW : maskLe 0x8000000000000010000000 W = true) (hk : Keeps W s₀ s) :
    Keeps W s₀ (State.drainPulse s e) := by
  unfold State.drainPulse
  repeat' first
    | with_reducible assumption
    | with_reducible exact site_5050 hW (by decide)
    | with_reducible exact Keeps.refl _ _
    | with_reducible exact Bool.false_and _
    | intro _
    | with_reducible refine Keeps.foldl _ _ ?_ (fun _ _ => ?_)
    | with_reducible refine State.putObj_keeps _ _ _ ?_ ?_
    | with_reducible refine State.emitPulse_keeps _ (maskLe_trans (by decide) hW) ?_
    | with_reducible refine Keeps.ite ?_ ?_
    | dsimp only
    | split

theorem State.pulseStart_keeps {W : Nat} {s₀ s : State} (e : Fin 2) (hW : maskLe 0x808062D116810016436008 W = true) (hk : Keeps W s₀ s) :
    Keeps W s₀ (State.pulseStart s e) := by
  unfold State.pulseStart
  repeat' first
    | with_reducible assumption
    | with_reducible exact Keeps.refl _ _
    | with_reducible exact Bool.false_and _
    | intro _
    | with_reducible refine Keeps.foldl _ _ ?_ (fun _ _ => ?_)
    | with_reducible refine State.modPulse_keeps _ _ (maskLe_trans (by decide) hW) ?_
    | with_reducible refine State.emitPulse_keeps _ (maskLe_trans (by decide) hW) ?_
    | with_reducible refine State.backlogPulse_keeps _ (maskLe_trans (by decide) hW) ?_
    | with_reducible refine State.drainPulse_keeps _ (maskLe_trans (by decide) hW) ?_
    | with_reducible refine Keeps.ite ?_ ?_
    | dsimp only
    | split

theorem execEpulseStart_keeps (e : Fin 2) (s : State) : Keeps.Out 0x808062D116810016436008 s (execEpulseStart e s) := by
  unfold execEpulseStart
  repeat' first
    | with_reducible refine Keeps.out_next ?_
    | with_reducible refine Keeps.out_ite ?_ ?_
    | with_reducible assumption
    | with_reducible exact Keeps.refl _ _
    | with_reducible exact Bool.false_and _
    | intro _
    | with_reducible refine Keeps.foldl _ _ ?_ (fun _ _ => ?_)
    | with_reducible refine State.pulseStart_keeps _ (by decide) ?_
    | with_reducible refine Keeps.ite ?_ ?_
    | dsimp only
    | split

theorem State.pulseEnd_keeps {W : Nat} {s₀ s : State} (e : Fin 2) (hW : maskLe 0x10000000 W = true) (hk : Keeps W s₀ s) :
    Keeps W s₀ (State.pulseEnd s e) := by
  unfold State.pulseEnd
  repeat' first
    | with_reducible assumption
    | with_reducible exact Keeps.refl _ _
    | with_reducible exact Bool.false_and _
    | intro _
    | with_reducible refine Keeps.foldl _ _ ?_ (fun _ _ => ?_)
    | with_reducible refine State.modPulse_keeps _ _ (maskLe_trans (by decide) hW) ?_
    | with_reducible refine Keeps.ite ?_ ?_
    | dsimp only
    | split

theorem execEpulseEnd_keeps (e : Fin 2) (s : State) : Keeps.Out 0x10000000 s (execEpulseEnd e s) := by
  unfold execEpulseEnd
  repeat' first
    | with_reducible refine Keeps.out_next ?_
    | with_reducible refine Keeps.out_ite ?_ ?_
    | with_reducible assumption
    | with_reducible exact Keeps.refl _ _
    | with_reducible exact Bool.false_and _
    | intro _
    | with_reducible refine Keeps.foldl _ _ ?_ (fun _ _ => ?_)
    | with_reducible refine State.pulseEnd_keeps _ (by decide) ?_
    | with_reducible refine Keeps.ite ?_ ?_
    | dsimp only
    | split

theorem State.putQuality_keeps {W : Nat} {s₀ s : State} (k : QualityKind) (q : Quality) (hW : maskLe 0x10000000 W = true) (hk : Keeps W s₀ s) :
    Keeps W s₀ (State.putQuality s k q) := by
  unfold State.putQuality
  repeat' first
    | with_reducible assumption
    | with_reducible exact Keeps.refl _ _
    | with_reducible exact Bool.false_and _
    | intro _
    | with_reducible refine Keeps.foldl _ _ ?_ (fun _ _ => ?_)
    | with_reducible refine State.setEnergy_keeps _ (maskLe_trans (by decide) hW) ?_
    | with_reducible refine Keeps.ite ?_ ?_
    | dsimp only
    | split

theorem State.reportQuality_keeps {W : Nat} {s₀ s : State} (hW : maskLe 0x10000000000000000000000 W = true) (hk : Keeps W s₀ s) :
    Keeps W s₀ (State.reportQuality s) := by
  unfold State.reportQuality
  repeat' first
    | with_reducible assumption
    | with_reducible exact site_5068 hW (by decide)
    | with_reducible exact Keeps.refl _ _
    | with_reducible exact Bool.false_and _
    | intro _
    | with_reducible refine Keeps.foldl _ _ ?_ (fun _ _ => ?_)
    | with_reducible refine State.putObj_keeps _ _ _ ?_ ?_
    | with_reducible refine Keeps.ite ?_ ?_
    | dsimp only
    | split

theorem State.extendKind_keeps {W : Nat} {s₀ s : State} (k : QualityKind) (evaluated flagged : Bool) (hW : maskLe 0x10000000 W = true) (hk : Keeps W s₀ s) :
    Keeps W s₀ (State.extendKind s k evaluated flagged) := by
  unfold State.extendKind
  repeat' first
    | with_reducible assumption
    | with_reducible exact Keeps.refl _ _
    | with_reducible exact Bool.false_and _
    | intro _
    | with_reducible refine Keeps.foldl _ _ ?_ (fun _ _ => ?_)
    | with_reducible refine State.putQuality_keeps _ _ (maskLe_trans (by decide) hW) ?_
    | with_reducible refine Keeps.ite ?_ ?_
    | dsimp only
    | split

theorem State.startKind_keeps {W : Nat} {s₀ s : State} (k : QualityKind) (flagged : Bool) (hW : maskLe 0x8062D116810016436008 W = true) (hk : Keeps W s₀ s) :
    Keeps W s₀ (State.startKind s k flagged) := by
  unfold State.startKind
  repeat' first
    | with_reducible assumption
    | with_reducible exact Keeps.refl _ _
    | with_reducible exact Bool.false_and _
    | intro _
    | with_reducible refine Keeps.foldl _ _ ?_ (fun _ _ => ?_)
    | with_reducible refine State.raise_keeps _ _ (maskLe_trans (by decide) hW) ?_
    | with_reducible refine State.putQuality_keeps _ _ (maskLe_trans (by decide) hW) ?_
    | exact h
    | with_reducible refine Keeps.ite ?_ ?_
    | dsimp only
    | split

theorem State.endKind_keeps {W : Nat} {s₀ s : State} (k : QualityKind) (early : Bool) (hW : maskLe 0x50000000002800010000018 W = true) (hk : Keeps W s₀ s) :
    Keeps W s₀ (State.endKind s k early) := by
  unfold State.endKind
  repeat' first
    | with_reducible assumption
    | with_reducible exact site_5068 hW (by decide)
    | with_reducible exact Keeps.refl _ _
    | with_reducible exact Bool.false_and _
    | intro _
    | with_reducible refine Keeps.foldl _ _ ?_ (fun _ _ => ?_)
    | with_reducible refine State.putObj_keeps _ _ _ ?_ ?_
    | with_reducible refine State.bump_keeps _ _ ?_  ?_
    | with_reducible refine State.endWith_keeps _ _ _ _ _ (maskLe_trans (by decide) hW) ?_
    | with_reducible refine State.putQuality_keeps _ _ (maskLe_trans (by decide) hW) ?_
    | exact h
    | with_reducible refine Keeps.ite ?_ ?_
    | dsimp only
    | split

theorem State.endKinds_keeps {W : Nat} {s₀ s : State} (hW : maskLe 0x50000000002800010000018 W = true) (hk : Keeps W s₀ s) :
    Keeps W s₀ (State.endKinds s) := by
  unfold State.endKinds
  repeat' first
    | with_reducible assumption
    | with_reducible exact Keeps.refl _ _
    | with_reducible exact Bool.false_and _
    | intro _
    | with_reducible refine Keeps.foldl _ _ ?_ (fun _ _ => ?_)
    | with_reducible refine State.reportQuality_keeps  (maskLe_trans (by decide) hW) ?_
    | with_reducible refine State.endKind_keeps _ _ (maskLe_trans (by decide) hW) ?_
    | with_reducible refine Keeps.ite ?_ ?_
    | dsimp only
    | split

theorem State.evaluateKind_keeps {W : Nat} {s₀ s : State} (k : QualityKind) (flagged : Bool) (hW : maskLe 0x5008062D116810016436018 W = true) (hk : Keeps W s₀ s) :
    Keeps W s₀ (State.evaluateKind s k flagged) := by
  unfold State.evaluateKind
  repeat' first
    | with_reducible assumption
    | with_reducible exact Keeps.refl _ _
    | with_reducible exact Bool.false_and _
    | intro _
    | with_reducible refine Keeps.foldl _ _ ?_ (fun _ _ => ?_)
    | with_reducible refine State.extendKind_keeps _ _ _ (maskLe_trans (by decide) hW) ?_
    | with_reducible refine State.startKind_keeps _ _ (maskLe_trans (by decide) hW) ?_
    | with_reducible refine State.endKind_keeps _ _ (maskLe_trans (by decide) hW) ?_
    | with_reducible refine Keeps.ite ?_ ?_
    | dsimp only
    | split

theorem State.evaluateQuality_keeps {W : Nat} {s₀ s : State} (flagged : Bool) (hW : maskLe 0x5008062D116810016436018 W = true) (hk : Keeps W s₀ s) :
    Keeps W s₀ (State.evaluateQuality s flagged) := by
  unfold State.evaluateQuality
  repeat' first
    | with_reducible assumption
    | with_reducible exact Keeps.refl _ _
    | with_reducible exact Bool.false_and _
    | intro _
    | with_reducible refine Keeps.foldl _ _ ?_ (fun _ _ => ?_)
    | with_reducible refine State.setEnergy_keeps _ (maskLe_trans (by decide) hW) ?_
    | with_reducible refine State.reportQuality_keeps  (maskLe_trans (by decide) hW) ?_
    | with_reducible refine State.evaluateKind_keeps _ _ (maskLe_trans (by decide) hW) ?_
    | with_reducible refine Keeps.ite ?_ ?_
    | dsimp only
    | split

theorem State.freshMetrology_keeps {W : Nat} {s₀ s : State} (hW : maskLe 0x4 W = true) (hk : Keeps W s₀ s) :
    Keeps W s₀ (State.freshMetrology s) := by
  unfold State.freshMetrology
  repeat' first
    | with_reducible assumption
    | with_reducible exact Keeps.refl _ _
    | with_reducible exact Bool.false_and _
    | intro _
    | with_reducible refine Keeps.foldl _ _ ?_ (fun _ _ => ?_)
    | with_reducible exact filter_ascend _ _ h
    | with_reducible exact cellDrop_ascend _ _ h
    | with_reducible exact filter_wf _ _ h
    | with_reducible refine State.setStale_keeps _ (maskLe_trans (by decide) hW) ?_ (fun h => ?_)
    | with_reducible refine Keeps.ite ?_ ?_
    | dsimp only
    | split

theorem State.newHalfCycle_keeps {W : Nat} {s₀ s : State} (emptied : Bool) (hW : maskLe 0x8000000 W = true) (hk : Keeps W s₀ s) :
    Keeps W s₀ (State.newHalfCycle s emptied) := by
  unfold State.newHalfCycle
  repeat' first
    | with_reducible assumption
    | with_reducible exact Keeps.refl _ _
    | with_reducible exact Bool.false_and _
    | intro _
    | with_reducible refine Keeps.foldl _ _ ?_ (fun _ _ => ?_)
    | with_reducible refine State.setMetrology_keeps _ (maskLe_trans (by decide) hW) ?_
    | with_reducible refine Keeps.ite ?_ ?_
    | dsimp only
    | split

theorem State.publish_keeps {W : Nat} {s₀ s : State} (early : Bool) (hW : maskLe 0x5708062D11681003E43601C W = true) (hk : Keeps W s₀ s) :
    Keeps W s₀ (State.publish s early) := by
  unfold State.publish
  repeat' first
    | with_reducible assumption
    | with_reducible exact site_5030 hW (by decide)
    | with_reducible exact Keeps.refl _ _
    | with_reducible exact Bool.false_and _
    | intro _
    | with_reducible refine Keeps.foldl _ _ ?_ (fun _ _ => ?_)
    | with_reducible refine State.putObj_keeps _ _ _ ?_ ?_
    | with_reducible refine State.bump_keeps _ _ ?_  ?_
    | with_reducible refine State.tick_keeps  (maskLe_trans (by decide) hW) ?_
    | with_reducible refine State.reportRange_keeps  (maskLe_trans (by decide) hW) ?_
    | with_reducible refine State.publishChannel_keeps _ (maskLe_trans (by decide) hW) ?_
    | with_reducible refine State.crossCheck_keeps _ (maskLe_trans (by decide) hW) ?_
    | with_reducible refine State.updateTc_keeps _ (maskLe_trans (by decide) hW) ?_
    | with_reducible refine State.energyUpdate_keeps _ (maskLe_trans (by decide) hW) ?_
    | with_reducible refine State.owePulses_keeps _ _ (maskLe_trans (by decide) hW) ?_
    | with_reducible refine State.evaluateQuality_keeps _ (maskLe_trans (by decide) hW) ?_
    | with_reducible refine State.freshMetrology_keeps  (maskLe_trans (by decide) hW) ?_
    | with_reducible refine State.newHalfCycle_keeps _ (maskLe_trans (by decide) hW) ?_
    | with_reducible refine Keeps.ite ?_ ?_
    | dsimp only
    | split

theorem State.closeMetrology_keeps {W : Nat} {s₀ s : State} (hW : maskLe 0x5708062D11681003E43601C W = true) (hk : Keeps W s₀ s) :
    Keeps W s₀ (State.closeMetrology s) := by
  unfold State.closeMetrology
  repeat' first
    | with_reducible assumption
    | with_reducible exact Keeps.refl _ _
    | with_reducible exact Bool.false_and _
    | intro _
    | with_reducible refine Keeps.foldl _ _ ?_ (fun _ _ => ?_)
    | with_reducible refine State.publish_keeps _ (maskLe_trans (by decide) hW) ?_
    | with_reducible refine Keeps.ite ?_ ?_
    | dsimp only
    | split

theorem State.dcEnergy_keeps {W : Nat} {s₀ s : State} (r : RailId) (hW : maskLe 0x100000000010000000 W = true) (hk : Keeps W s₀ s) :
    Keeps W s₀ (State.dcEnergy s r) := by
  unfold State.dcEnergy
  repeat' first
    | with_reducible assumption
    | with_reducible exact site_rail_60 _ hW (by decide)
    | with_reducible exact Keeps.refl _ _
    | with_reducible exact Bool.false_and _
    | intro _
    | with_reducible refine Keeps.foldl _ _ ?_ (fun _ _ => ?_)
    | with_reducible refine State.addEnergy_keeps _ _ _ ?_ (maskLe_trans (by decide) hW) ?_
    | with_reducible refine Keeps.ite ?_ ?_
    | dsimp only
    | split

theorem State.zeroEnergy_keeps {W : Nat} {s₀ s : State} (ix n : Nat) (hi : siteIn W ix = true) (hW : maskLe 0x10000000 W = true) (hk : Keeps W s₀ s) :
    Keeps W s₀ (State.zeroEnergy s ix n) := by
  unfold State.zeroEnergy
  repeat' first
    | with_reducible assumption
    | with_reducible exact Keeps.refl _ _
    | with_reducible exact Bool.false_and _
    | intro _
    | with_reducible refine Keeps.foldl _ _ ?_ (fun _ _ => ?_)
    | with_reducible refine State.setEnergy_keeps _ (maskLe_trans (by decide) hW) ?_
    | with_reducible refine State.putObj_keeps _ _ _ ?_ ?_
    | with_reducible refine Keeps.ite ?_ ?_
    | dsimp only
    | split

theorem State.resetDcEnergy_keeps {W : Nat} {s₀ s : State} (r : RailId) (hW : maskLe 0x100000000010000000 W = true) (hk : Keeps W s₀ s) :
    Keeps W s₀ (State.resetDcEnergy s r) := by
  unfold State.resetDcEnergy
  repeat' first
    | with_reducible assumption
    | with_reducible exact site_rail_60 _ hW (by decide)
    | with_reducible exact Keeps.refl _ _
    | with_reducible exact Bool.false_and _
    | intro _
    | with_reducible refine Keeps.foldl _ _ ?_ (fun _ _ => ?_)
    | with_reducible refine State.zeroEnergy_keeps _ _ ?_ (maskLe_trans (by decide) hW) ?_
    | with_reducible refine Keeps.ite ?_ ?_
    | dsimp only
    | split

theorem State.beginCopy_keeps {W : Nat} {s₀ s : State} (trigger : Nat) (hW : maskLe 0x10000000 W = true) (hk : Keeps W s₀ s) :
    Keeps W s₀ (State.beginCopy s trigger) := by
  unfold State.beginCopy
  repeat' first
    | with_reducible assumption
    | with_reducible exact Keeps.refl _ _
    | with_reducible exact Bool.false_and _
    | intro _
    | with_reducible refine Keeps.foldl _ _ ?_ (fun _ _ => ?_)
    | with_reducible refine State.setEnergy_keeps _ (maskLe_trans (by decide) hW) ?_
    | with_reducible refine Keeps.ite ?_ ?_
    | dsimp only
    | split

theorem State.checkSector_keeps {W : Nat} {s₀ s : State} (hW : maskLe 0x10000000 W = true) (hk : Keeps W s₀ s) :
    Keeps W s₀ (State.checkSector s) := by
  unfold State.checkSector
  repeat' first
    | with_reducible assumption
    | with_reducible exact Keeps.refl _ _
    | with_reducible exact Bool.false_and _
    | intro _
    | with_reducible refine Keeps.foldl _ _ ?_ (fun _ _ => ?_)
    | with_reducible refine State.setEnergy_keeps _ (maskLe_trans (by decide) hW) ?_
    | with_reducible refine Keeps.ite ?_ ?_
    | dsimp only
    | split

theorem State.startEnergyErase_keeps {W : Nat} {s₀ s : State} (hW : maskLe 0x10000000 W = true) (hk : Keeps W s₀ s) :
    Keeps W s₀ (State.startEnergyErase s) := by
  unfold State.startEnergyErase
  repeat' first
    | with_reducible assumption
    | with_reducible exact Keeps.refl _ _
    | with_reducible exact Bool.false_and _
    | intro _
    | with_reducible refine Keeps.foldl _ _ ?_ (fun _ _ => ?_)
    | with_reducible refine State.setEnergy_keeps _ (maskLe_trans (by decide) hW) ?_
    | with_reducible refine Keeps.ite ?_ ?_
    | dsimp only
    | split

theorem State.startSave_keeps {W : Nat} {s₀ s : State} (hW : maskLe 0x10000000 W = true) (hk : Keeps W s₀ s) :
    Keeps W s₀ (State.startSave s) := by
  unfold State.startSave
  repeat' first
    | with_reducible assumption
    | with_reducible exact Keeps.refl _ _
    | with_reducible exact Bool.false_and _
    | intro _
    | with_reducible refine Keeps.foldl _ _ ?_ (fun _ _ => ?_)
    | with_reducible refine State.setEnergy_keeps _ (maskLe_trans (by decide) hW) ?_
    | with_reducible refine State.beginCopy_keeps _ (maskLe_trans (by decide) hW) ?_
    | with_reducible refine State.startEnergyErase_keeps  (maskLe_trans (by decide) hW) ?_
    | with_reducible refine Keeps.ite ?_ ?_
    | dsimp only
    | split

theorem State.requestSave_keeps {W : Nat} {s₀ s : State} (trigger : Nat) (hW : maskLe 0x10000000 W = true) (hk : Keeps W s₀ s) :
    Keeps W s₀ (State.requestSave s trigger) := by
  unfold State.requestSave
  repeat' first
    | with_reducible assumption
    | with_reducible exact Keeps.refl _ _
    | with_reducible exact Bool.false_and _
    | intro _
    | with_reducible refine Keeps.foldl _ _ ?_ (fun _ _ => ?_)
    | with_reducible refine State.setEnergy_keeps _ (maskLe_trans (by decide) hW) ?_
    | with_reducible refine State.startSave_keeps  (maskLe_trans (by decide) hW) ?_
    | with_reducible refine Keeps.ite ?_ ?_
    | dsimp only
    | split

theorem State.copyDone_keeps {W : Nat} {s₀ s : State} (hW : maskLe 0x20000000000000010000000 W = true) (hk : Keeps W s₀ s) :
    Keeps W s₀ (State.copyDone s) := by
  unfold State.copyDone
  repeat' first
    | with_reducible assumption
    | with_reducible exact site_5070 hW (by decide)
    | with_reducible exact Keeps.refl _ _
    | with_reducible exact Bool.false_and _
    | intro _
    | with_reducible refine Keeps.foldl _ _ ?_ (fun _ _ => ?_)
    | with_reducible refine State.setEnergy_keeps _ (maskLe_trans (by decide) hW) ?_
    | with_reducible refine State.putObj_keeps _ _ _ ?_ ?_
    | with_reducible refine State.checkSector_keeps  (maskLe_trans (by decide) hW) ?_
    | with_reducible refine Keeps.ite ?_ ?_
    | dsimp only
    | split

theorem State.copyFailed_keeps {W : Nat} {s₀ s : State} (hW : maskLe 0x8062D116810016436008 W = true) (hk : Keeps W s₀ s) :
    Keeps W s₀ (State.copyFailed s) := by
  unfold State.copyFailed
  repeat' first
    | with_reducible assumption
    | with_reducible exact Keeps.refl _ _
    | with_reducible exact Bool.false_and _
    | intro _
    | with_reducible refine Keeps.foldl _ _ ?_ (fun _ _ => ?_)
    | with_reducible refine State.setEnergy_keeps _ (maskLe_trans (by decide) hW) ?_
    | with_reducible refine State.raise_keeps _ _ (maskLe_trans (by decide) hW) ?_
    | with_reducible refine State.checkSector_keeps  (maskLe_trans (by decide) hW) ?_
    | with_reducible refine Keeps.ite ?_ ?_
    | dsimp only
    | split

theorem execTotalsCopyComplete_keeps (readBackOk : Bool) (s : State) : Keeps.Out 0x2008062D116810016436018 s (execTotalsCopyComplete readBackOk s) := by
  unfold execTotalsCopyComplete
  repeat' first
    | with_reducible refine Keeps.out_next ?_
    | with_reducible refine Keeps.out_ite ?_ ?_
    | with_reducible assumption
    | with_reducible exact Keeps.refl _ _
    | with_reducible exact Bool.false_and _
    | intro _
    | with_reducible refine Keeps.foldl _ _ ?_ (fun _ _ => ?_)
    | with_reducible refine State.startWrite_keeps  (by decide) ?_
    | with_reducible refine State.startSave_keeps  (by decide) ?_
    | with_reducible refine State.copyDone_keeps  (by decide) ?_
    | with_reducible refine State.copyFailed_keeps  (by decide) ?_
    | with_reducible refine Keeps.ite ?_ ?_
    | dsimp only
    | split

theorem State.eraseCopies_keeps {W : Nat} {s₀ s : State} (hW : maskLe 0x20000000000000010000000 W = true) (hk : Keeps W s₀ s) :
    Keeps W s₀ (State.eraseCopies s) := by
  unfold State.eraseCopies
  repeat' first
    | with_reducible assumption
    | with_reducible exact site_5070 hW (by decide)
    | with_reducible exact Keeps.refl _ _
    | with_reducible exact Bool.false_and _
    | intro _
    | with_reducible refine Keeps.foldl _ _ ?_ (fun _ _ => ?_)
    | with_reducible refine State.setEnergy_keeps _ (maskLe_trans (by decide) hW) ?_
    | with_reducible refine State.bump_keeps _ _ ?_  ?_
    | with_reducible refine Keeps.ite ?_ ?_
    | dsimp only
    | split

theorem State.energyErased_keeps {W : Nat} {s₀ s : State} (hW : maskLe 0x20000000000000010000010 W = true) (hk : Keeps W s₀ s) :
    Keeps W s₀ (State.energyErased s) := by
  unfold State.energyErased
  repeat' first
    | with_reducible assumption
    | with_reducible exact Keeps.refl _ _
    | with_reducible exact Bool.false_and _
    | intro _
    | with_reducible refine Keeps.foldl _ _ ?_ (fun _ _ => ?_)
    | with_reducible refine State.startWrite_keeps  (maskLe_trans (by decide) hW) ?_
    | with_reducible refine State.startSave_keeps  (maskLe_trans (by decide) hW) ?_
    | with_reducible refine State.eraseCopies_keeps  (maskLe_trans (by decide) hW) ?_
    | with_reducible refine Keeps.ite ?_ ?_
    | dsimp only
    | split

theorem execEnergySectorEraseComplete_keeps (s : State) : Keeps.Out 0x20000000000000010000010 s (execEnergySectorEraseComplete s) := by
  unfold execEnergySectorEraseComplete
  repeat' first
    | with_reducible refine Keeps.out_next ?_
    | with_reducible refine Keeps.out_ite ?_ ?_
    | with_reducible assumption
    | with_reducible exact Keeps.refl _ _
    | with_reducible exact Bool.false_and _
    | intro _
    | with_reducible refine Keeps.foldl _ _ ?_ (fun _ _ => ?_)
    | with_reducible refine State.energyErased_keeps  (by decide) ?_
    | with_reducible refine Keeps.ite ?_ ?_
    | dsimp only
    | split

theorem execPeriodicTotalsSave_keeps (s : State) : Keeps.Out 0x10000000 s (execPeriodicTotalsSave s) := by
  unfold execPeriodicTotalsSave
  repeat' first
    | with_reducible refine Keeps.out_next ?_
    | with_reducible refine Keeps.out_ite ?_ ?_
    | with_reducible assumption
    | with_reducible exact Keeps.refl _ _
    | with_reducible exact Bool.false_and _
    | intro _
    | with_reducible refine Keeps.foldl _ _ ?_ (fun _ _ => ?_)
    | with_reducible refine State.requestSave_keeps _ (by decide) ?_
    | with_reducible refine Keeps.ite ?_ ?_
    | dsimp only
    | split

theorem State.saveNow_keeps {W : Nat} {s₀ s : State} (trigger : Nat) (hW : maskLe 0x20000000000000010000000 W = true) (hk : Keeps W s₀ s) :
    Keeps W s₀ (State.saveNow s trigger) := by
  unfold State.saveNow
  repeat' first
    | with_reducible assumption
    | with_reducible exact Keeps.refl _ _
    | with_reducible exact Bool.false_and _
    | intro _
    | with_reducible refine Keeps.foldl _ _ ?_ (fun _ _ => ?_)
    | with_reducible refine State.beginCopy_keeps _ (maskLe_trans (by decide) hW) ?_
    | with_reducible refine State.copyDone_keeps  (maskLe_trans (by decide) hW) ?_
    | with_reducible refine State.eraseCopies_keeps  (maskLe_trans (by decide) hW) ?_
    | with_reducible refine Keeps.ite ?_ ?_
    | dsimp only
    | split

theorem State.zeroTotals_keeps {W : Nat} {s₀ s : State} (hW : maskLe 0x4000000000000010000000 W = true) (hk : Keeps W s₀ s) :
    Keeps W s₀ (State.zeroTotals s) := by
  unfold State.zeroTotals
  refine State.modPulse_keeps _ _ (maskLe_trans (by decide) hW) (State.modPulse_keeps _ _ (maskLe_trans (by decide) hW) (Keeps.foldl_mem _ _ hk (fun t k hmem => ?_)))
  have hg : Safety.group (0x5040 + k) = 0x5040 := by
    have := List.mem_range.1 hmem
    unfold Safety.group
    (repeat' split) <;> omega
  exact State.zeroEnergy_keeps _ _ (siteIn_group hg (bitIn_mono hW (by decide))) (maskLe_trans (by decide) hW) (Keeps.refl _ _)

theorem State.resetTotals_keeps {W : Nat} {s₀ s : State} (hW : maskLe 0x408062D116810016436008 W = true) (hk : Keeps W s₀ s) :
    Keeps W s₀ (State.resetTotals s) := by
  unfold State.resetTotals
  repeat' first
    | with_reducible assumption
    | with_reducible exact Keeps.refl _ _
    | with_reducible exact Bool.false_and _
    | intro _
    | with_reducible refine Keeps.foldl _ _ ?_ (fun _ _ => ?_)
    | with_reducible refine State.raise_keeps _ _ (maskLe_trans (by decide) hW) ?_
    | with_reducible refine State.requestSave_keeps _ (maskLe_trans (by decide) hW) ?_
    | with_reducible refine State.zeroTotals_keeps  (maskLe_trans (by decide) hW) ?_
    | with_reducible refine Keeps.ite ?_ ?_
    | dsimp only
    | split

theorem State.restoreTotals_keeps {W : Nat} {s₀ s : State} (retained : Bool) (hW : maskLe 0x2408072D116810016436009 W = true) (hk : Keeps W s₀ s) :
    Keeps W s₀ (State.restoreTotals s retained) := by
  unfold State.restoreTotals
  repeat' first
    | with_reducible assumption
    | with_reducible exact siteIn_mono hW (siteIn_all (by decide))
    | with_reducible exact site_5070 hW (by decide)
    | with_reducible exact Keeps.refl _ _
    | with_reducible exact Bool.false_and _
    | intro _
    | with_reducible refine Keeps.foldl _ _ ?_ (fun _ _ => ?_)
    | with_reducible refine State.setEnergy_keeps _ (maskLe_trans (by decide) hW) ?_
    | with_reducible refine State.putObj_keeps _ _ _ ?_ ?_
    | with_reducible refine State.raise_keeps _ _ (maskLe_trans (by decide) hW) ?_
    | with_reducible refine State.modPulse_keeps _ _ (maskLe_trans (by decide) hW) ?_
    | with_reducible refine State.resetDcEnergy_keeps _ (maskLe_trans (by decide) hW) ?_
    | with_reducible refine State.zeroTotals_keeps  (maskLe_trans (by decide) hW) ?_
    | with_reducible refine Keeps.ite ?_ ?_
    | dsimp only
    | split

end Sys2Proof.Machine
end

