-- ==== Sys2Proof/Laws/KeepsMeridian.lean ====
section
/-! SUPPORT. What the operations of Machine/Meridian.lean keep. -/

namespace Sys2Proof.Machine

theorem State.putAcc_keeps {W : Nat} {s₀ s : State} (c : Fin 4) (v : Int) (hW : maskLe 0x10000 W = true) (hk : Keeps W s₀ s) :
    Keeps W s₀ (State.putAcc s c v) := by
  unfold State.putAcc
  repeat' first
    | with_reducible assumption
    | with_reducible exact Keeps.refl _ _
    | with_reducible exact Bool.false_and _
    | intro _
    | with_reducible refine Keeps.foldl _ _ ?_ (fun _ _ => ?_)
    | with_reducible refine State.setMeridian_keeps _ (maskLe_trans (by decide) hW) ?_
    | with_reducible refine Keeps.ite ?_ ?_
    | dsimp only
    | split

theorem State.stepOne_keeps {W : Nat} {s₀ s : State} (c : Fin 4) (v : Int) (hW : maskLe 0x10000 W = true) (hk : Keeps W s₀ s) :
    Keeps W s₀ (State.stepOne s c v) := by
  unfold State.stepOne
  repeat' first
    | with_reducible assumption
    | with_reducible exact Keeps.refl _ _
    | with_reducible exact Bool.false_and _
    | intro _
    | with_reducible refine Keeps.foldl _ _ ?_ (fun _ _ => ?_)
    | with_reducible refine State.setMeridian_keeps _ (maskLe_trans (by decide) hW) ?_
    | with_reducible refine State.putAcc_keeps _ _ (maskLe_trans (by decide) hW) ?_
    | with_reducible refine Keeps.ite ?_ ?_
    | dsimp only
    | split

theorem State.stepAcc_keeps {W : Nat} {s₀ s : State} (c : Fin 4) (v : Int) (hW : maskLe 0x10000 W = true) (hk : Keeps W s₀ s) :
    Keeps W s₀ (State.stepAcc s c v) := by
  unfold State.stepAcc
  repeat' first
    | with_reducible assumption
    | with_reducible exact Keeps.refl _ _
    | with_reducible exact Bool.false_and _
    | intro _
    | with_reducible refine Keeps.foldl _ _ ?_ (fun _ _ => ?_)
    | with_reducible refine State.stepOne_keeps _ _ (maskLe_trans (by decide) hW) ?_
    | with_reducible refine Keeps.ite ?_ ?_
    | dsimp only
    | split

theorem State.reportBearings_keeps {W : Nat} {s₀ s : State} (hW : maskLe 0x200000010000 W = true) (hk : Keeps W s₀ s) :
    Keeps W s₀ (State.reportBearings s) := by
  unfold State.reportBearings
  repeat' first
    | with_reducible assumption
    | with_reducible exact site_2200 hW (by decide)
    | with_reducible exact Keeps.refl _ _
    | with_reducible exact Bool.false_and _
    | intro _
    | with_reducible refine Keeps.foldl _ _ ?_ (fun _ _ => ?_)
    | with_reducible refine State.putObj_keeps _ _ _ ?_ ?_
    | with_reducible refine State.putBit_keeps _ _ _ _ ?_  ?_
    | with_reducible refine State.putAcc_keeps _ _ (maskLe_trans (by decide) hW) ?_
    | with_reducible refine Keeps.ite ?_ ?_
    | dsimp only
    | split

theorem State.elecTransition_keeps {W : Nat} {s₀ s : State} (sector : Nat) (forward : Bool) (period : Nat) (hW : maskLe 0x200000010000 W = true) (hk : Keeps W s₀ s) :
    Keeps W s₀ (State.elecTransition s sector forward period) := by
  unfold State.elecTransition
  repeat' first
    | with_reducible assumption
    | with_reducible exact site_2200 hW (by decide)
    | with_reducible exact Keeps.refl _ _
    | with_reducible exact Bool.false_and _
    | intro _
    | with_reducible refine Keeps.foldl _ _ ?_ (fun _ _ => ?_)
    | with_reducible refine State.setMeridian_keeps _ (maskLe_trans (by decide) hW) ?_
    | with_reducible refine State.putBit_keeps _ _ _ _ ?_  ?_
    | with_reducible refine State.putAcc_keeps _ _ (maskLe_trans (by decide) hW) ?_
    | with_reducible refine State.stepAcc_keeps _ _ (maskLe_trans (by decide) hW) ?_
    | with_reducible refine State.reportBearings_keeps  (maskLe_trans (by decide) hW) ?_
    | with_reducible refine Keeps.ite ?_ ?_
    | dsimp only
    | split

theorem State.elecInvalid_keeps {W : Nat} {s₀ s : State} (hW : maskLe 0x200000010000 W = true) (hk : Keeps W s₀ s) :
    Keeps W s₀ (State.elecInvalid s) := by
  unfold State.elecInvalid
  repeat' first
    | with_reducible assumption
    | with_reducible exact site_2200 hW (by decide)
    | with_reducible exact Keeps.refl _ _
    | with_reducible exact Bool.false_and _
    | intro _
    | with_reducible refine Keeps.foldl _ _ ?_ (fun _ _ => ?_)
    | with_reducible refine State.setMeridian_keeps _ (maskLe_trans (by decide) hW) ?_
    | with_reducible refine State.putBit_keeps _ _ _ _ ?_  ?_
    | with_reducible refine State.reportBearings_keeps  (maskLe_trans (by decide) hW) ?_
    | with_reducible refine Keeps.ite ?_ ?_
    | dsimp only
    | split

theorem State.elecAdvance_keeps {W : Nat} {s₀ s : State} (hW : maskLe 0x10000 W = true) (hk : Keeps W s₀ s) :
    Keeps W s₀ (State.elecAdvance s) := by
  unfold State.elecAdvance
  repeat' first
    | with_reducible assumption
    | with_reducible exact Keeps.refl _ _
    | with_reducible exact Bool.false_and _
    | intro _
    | with_reducible refine Keeps.foldl _ _ ?_ (fun _ _ => ?_)
    | with_reducible refine State.putAcc_keeps _ _ (maskLe_trans (by decide) hW) ?_
    | with_reducible refine Keeps.ite ?_ ?_
    | dsimp only
    | split

theorem State.encoderCount_keeps {W : Nat} {s₀ s : State} (up : Bool) (hW : maskLe 0x400200000010000 W = true) (hk : Keeps W s₀ s) :
    Keeps W s₀ (State.encoderCount s up) := by
  unfold State.encoderCount
  repeat' first
    | with_reducible assumption
    | with_reducible exact site_2620 hW (by decide)
    | with_reducible exact Keeps.refl _ _
    | with_reducible exact Bool.false_and _
    | intro _
    | with_reducible refine Keeps.foldl _ _ ?_ (fun _ _ => ?_)
    | with_reducible refine State.setMeridian_keeps _ (maskLe_trans (by decide) hW) ?_
    | with_reducible refine State.putObj_keeps _ _ _ ?_ ?_
    | with_reducible refine State.putAcc_keeps _ _ (maskLe_trans (by decide) hW) ?_
    | with_reducible refine State.reportBearings_keeps  (maskLe_trans (by decide) hW) ?_
    | with_reducible refine Keeps.ite ?_ ?_
    | dsimp only
    | split

theorem execEncoderCount_keeps (up : Bool) (s : State) : Keeps.Out 0x400200000010000 s (execEncoderCount up s) := by
  unfold execEncoderCount
  repeat' first
    | with_reducible refine Keeps.out_next ?_
    | with_reducible refine Keeps.out_ite ?_ ?_
    | with_reducible assumption
    | with_reducible exact Keeps.refl _ _
    | with_reducible exact Bool.false_and _
    | intro _
    | with_reducible refine Keeps.foldl _ _ ?_ (fun _ _ => ?_)
    | with_reducible refine State.encoderCount_keeps _ (by decide) ?_
    | with_reducible refine Keeps.ite ?_ ?_
    | dsimp only
    | split

theorem State.encoderIndex_keeps {W : Nat} {s₀ s : State} (hW : maskLe 0x8062D516A10006436008 W = true) (hk : Keeps W s₀ s) :
    Keeps W s₀ (State.encoderIndex s) := by
  unfold State.encoderIndex
  repeat' first
    | with_reducible assumption
    | with_reducible exact site_2200 hW (by decide)
    | with_reducible exact site_2620 hW (by decide)
    | with_reducible exact Keeps.refl _ _
    | with_reducible exact Bool.false_and _
    | intro _
    | with_reducible refine Keeps.foldl _ _ ?_ (fun _ _ => ?_)
    | with_reducible refine State.setMeridian_keeps _ (maskLe_trans (by decide) hW) ?_
    | with_reducible refine State.putObj_keeps _ _ _ ?_ ?_
    | with_reducible refine State.putBit_keeps _ _ _ _ ?_  ?_
    | with_reducible refine State.raise_keeps _ _ (maskLe_trans (by decide) hW) ?_
    | with_reducible refine State.stepAcc_keeps _ _ (maskLe_trans (by decide) hW) ?_
    | with_reducible refine State.reportBearings_keeps  (maskLe_trans (by decide) hW) ?_
    | with_reducible refine Keeps.ite ?_ ?_
    | dsimp only
    | split

theorem execEncoderIndex_keeps (s : State) : Keeps.Out 0x8062D516A10006436008 s (execEncoderIndex s) := by
  unfold execEncoderIndex
  repeat' first
    | with_reducible refine Keeps.out_next ?_
    | with_reducible refine Keeps.out_ite ?_ ?_
    | with_reducible assumption
    | with_reducible exact Keeps.refl _ _
    | with_reducible exact Bool.false_and _
    | intro _
    | with_reducible refine Keeps.foldl _ _ ?_ (fun _ _ => ?_)
    | with_reducible refine State.encoderIndex_keeps  (by decide) ?_
    | with_reducible refine Keeps.ite ?_ ?_
    | dsimp only
    | split

theorem State.putMains_keeps {W : Nat} {s₀ s : State} (period : Rat) (hW : maskLe 0x200000010000 W = true) (hk : Keeps W s₀ s) :
    Keeps W s₀ (State.putMains s period) := by
  unfold State.putMains
  repeat' first
    | with_reducible assumption
    | with_reducible exact site_2200 hW (by decide)
    | with_reducible exact Keeps.refl _ _
    | with_reducible exact Bool.false_and _
    | intro _
    | with_reducible refine Keeps.foldl _ _ ?_ (fun _ _ => ?_)
    | with_reducible refine State.setMeridian_keeps _ (maskLe_trans (by decide) hW) ?_
    | with_reducible refine State.putObj_keeps _ _ _ ?_ ?_
    | with_reducible refine Keeps.ite ?_ ?_
    | dsimp only
    | split

theorem State.endFlywheel_keeps {W : Nat} {s₀ s : State} (hW : maskLe 0x40000000002800000000018 W = true) (hk : Keeps W s₀ s) :
    Keeps W s₀ (State.endFlywheel s) := by
  unfold State.endFlywheel
  repeat' first
    | with_reducible assumption
    | with_reducible exact Keeps.refl _ _
    | with_reducible exact Bool.false_and _
    | intro _
    | with_reducible refine Keeps.foldl _ _ ?_ (fun _ _ => ?_)
    | with_reducible refine State.endEvent_keeps _ _ (maskLe_trans (by decide) hW) ?_
    | with_reducible refine Keeps.ite ?_ ?_
    | dsimp only
    | split

theorem State.endTimer_keeps {W : Nat} {s₀ s : State} (hW : maskLe 0x40000000002800000000018 W = true) (hk : Keeps W s₀ s) :
    Keeps W s₀ (State.endTimer s) := by
  unfold State.endTimer
  repeat' first
    | with_reducible assumption
    | with_reducible exact Keeps.refl _ _
    | with_reducible exact Bool.false_and _
    | intro _
    | with_reducible refine Keeps.foldl _ _ ?_ (fun _ _ => ?_)
    | with_reducible refine State.endEvent_keeps _ _ (maskLe_trans (by decide) hW) ?_
    | with_reducible refine Keeps.ite ?_ ?_
    | dsimp only
    | split

theorem State.lockTracker_keeps {W : Nat} {s₀ s : State} (period : Nat) (hW : maskLe 0x5708062D116A1003E43601C W = true) (hk : Keeps W s₀ s) :
    Keeps W s₀ (State.lockTracker s period) := by
  unfold State.lockTracker
  repeat' first
    | with_reducible assumption
    | with_reducible exact site_2200 hW (by decide)
    | with_reducible exact Keeps.refl _ _
    | with_reducible exact Bool.false_and _
    | intro _
    | with_reducible refine Keeps.foldl _ _ ?_ (fun _ _ => ?_)
    | with_reducible refine State.setMeridian_keeps _ (maskLe_trans (by decide) hW) ?_
    | with_reducible refine State.putObj_keeps _ _ _ ?_ ?_
    | with_reducible refine State.raise_keeps _ _ (maskLe_trans (by decide) hW) ?_
    | with_reducible refine State.closeMetrology_keeps  (maskLe_trans (by decide) hW) ?_
    | with_reducible refine State.stepAcc_keeps _ _ (maskLe_trans (by decide) hW) ?_
    | with_reducible refine State.reportBearings_keeps  (maskLe_trans (by decide) hW) ?_
    | with_reducible refine State.putMains_keeps _ (maskLe_trans (by decide) hW) ?_
    | with_reducible refine State.endFlywheel_keeps  (maskLe_trans (by decide) hW) ?_
    | with_reducible refine State.endTimer_keeps  (maskLe_trans (by decide) hW) ?_
    | with_reducible refine Keeps.ite ?_ ?_
    | dsimp only
    | split

theorem State.timerTracker_keeps {W : Nat} {s₀ s : State} (hW : maskLe 0x4008062D116A10006436018 W = true) (hk : Keeps W s₀ s) :
    Keeps W s₀ (State.timerTracker s) := by
  unfold State.timerTracker
  repeat' first
    | with_reducible assumption
    | with_reducible exact site_2200 hW (by decide)
    | with_reducible exact Keeps.refl _ _
    | with_reducible exact Bool.false_and _
    | intro _
    | with_reducible refine Keeps.foldl _ _ ?_ (fun _ _ => ?_)
    | with_reducible refine State.putObj_keeps _ _ _ ?_ ?_
    | with_reducible refine State.raise_keeps _ _ (maskLe_trans (by decide) hW) ?_
    | with_reducible refine State.endFlywheel_keeps  (maskLe_trans (by decide) hW) ?_
    | with_reducible refine Keeps.ite ?_ ?_
    | dsimp only
    | split

theorem State.flywheelTracker_keeps {W : Nat} {s₀ s : State} (hW : maskLe 0x4008062D116A10006436018 W = true) (hk : Keeps W s₀ s) :
    Keeps W s₀ (State.flywheelTracker s) := by
  unfold State.flywheelTracker
  repeat' first
    | with_reducible assumption
    | with_reducible exact site_2200 hW (by decide)
    | with_reducible exact Keeps.refl _ _
    | with_reducible exact Bool.false_and _
    | intro _
    | with_reducible refine Keeps.foldl _ _ ?_ (fun _ _ => ?_)
    | with_reducible refine State.setMeridian_keeps _ (maskLe_trans (by decide) hW) ?_
    | with_reducible refine State.putObj_keeps _ _ _ ?_ ?_
    | with_reducible refine State.raise_keeps _ _ (maskLe_trans (by decide) hW) ?_
    | with_reducible refine State.timerTracker_keeps  (maskLe_trans (by decide) hW) ?_
    | with_reducible refine Keeps.ite ?_ ?_
    | dsimp only
    | split

theorem State.followCrossing_keeps {W : Nat} {s₀ s : State} (period : Nat) (hW : maskLe 0x200000010000 W = true) (hk : Keeps W s₀ s) :
    Keeps W s₀ (State.followCrossing s period) := by
  unfold State.followCrossing
  repeat' first
    | with_reducible assumption
    | with_reducible exact site_2200 hW (by decide)
    | with_reducible exact Keeps.refl _ _
    | with_reducible exact Bool.false_and _
    | intro _
    | with_reducible refine Keeps.foldl _ _ ?_ (fun _ _ => ?_)
    | with_reducible refine State.setMeridian_keeps _ (maskLe_trans (by decide) hW) ?_
    | with_reducible refine State.putObj_keeps _ _ _ ?_ ?_
    | with_reducible refine Keeps.ite ?_ ?_
    | dsimp only
    | split

theorem State.countSettling_keeps {W : Nat} {s₀ s : State} (hW : maskLe 0x200 W = true) (hk : Keeps W s₀ s) :
    Keeps W s₀ (State.countSettling s) := by
  unfold State.countSettling
  repeat' first
    | with_reducible assumption
    | with_reducible exact Keeps.refl _ _
    | with_reducible exact Bool.false_and _
    | intro _
    | with_reducible refine Keeps.foldl _ _ ?_ (fun _ _ => ?_)
    | with_reducible refine State.setLife_keeps _ (maskLe_trans (by decide) hW) ?_
    | with_reducible refine Keeps.ite ?_ ?_
    | dsimp only
    | split

theorem State.trackCrossing_keeps {W : Nat} {s₀ s : State} (period : Nat) (strong : Bool) (hW : maskLe 0x5708062D116A1003E43601C W = true) (hk : Keeps W s₀ s) :
    Keeps W s₀ (State.trackCrossing s period strong) := by
  unfold State.trackCrossing
  repeat' first
    | with_reducible assumption
    | with_reducible exact Keeps.refl _ _
    | with_reducible exact Bool.false_and _
    | intro _
    | with_reducible refine Keeps.foldl _ _ ?_ (fun _ _ => ?_)
    | with_reducible refine State.setMeridian_keeps _ (maskLe_trans (by decide) hW) ?_
    | with_reducible refine State.lockTracker_keeps _ (maskLe_trans (by decide) hW) ?_
    | with_reducible refine State.flywheelTracker_keeps  (maskLe_trans (by decide) hW) ?_
    | with_reducible refine State.followCrossing_keeps _ (maskLe_trans (by decide) hW) ?_
    | with_reducible refine Keeps.ite ?_ ?_
    | dsimp only
    | split

theorem State.zeroCrossing_keeps {W : Nat} {s₀ s : State} (period halfRms : Nat) (hW : maskLe 0x5708062D116A1003E43621C W = true) (hk : Keeps W s₀ s) :
    Keeps W s₀ (State.zeroCrossing s period halfRms) := by
  unfold State.zeroCrossing
  repeat' first
    | with_reducible assumption
    | with_reducible exact Keeps.refl _ _
    | with_reducible exact Bool.false_and _
    | intro _
    | with_reducible refine Keeps.foldl _ _ ?_ (fun _ _ => ?_)
    | with_reducible refine State.countSettling_keeps  (maskLe_trans (by decide) hW) ?_
    | with_reducible refine State.trackCrossing_keeps _ _ (maskLe_trans (by decide) hW) ?_
    | with_reducible refine Keeps.ite ?_ ?_
    | dsimp only
    | split

theorem execMainsCrossingTimeout_keeps (s : State) : Keeps.Out 0x4008062D116A10006436018 s (execMainsCrossingTimeout s) := by
  unfold execMainsCrossingTimeout
  repeat' first
    | with_reducible refine Keeps.out_next ?_
    | with_reducible refine Keeps.out_ite ?_ ?_
    | with_reducible assumption
    | with_reducible exact Keeps.refl _ _
    | with_reducible exact Bool.false_and _
    | intro _
    | with_reducible refine Keeps.foldl _ _ ?_ (fun _ _ => ?_)
    | with_reducible refine State.flywheelTracker_keeps  (by decide) ?_
    | with_reducible refine Keeps.ite ?_ ?_
    | dsimp only
    | split

theorem execFlywheelTimeout_keeps (s : State) : Keeps.Out 0x4008062D116A10006436018 s (execFlywheelTimeout s) := by
  unfold execFlywheelTimeout
  repeat' first
    | with_reducible refine Keeps.out_next ?_
    | with_reducible refine Keeps.out_ite ?_ ?_
    | with_reducible assumption
    | with_reducible exact Keeps.refl _ _
    | with_reducible exact Bool.false_and _
    | intro _
    | with_reducible refine Keeps.foldl _ _ ?_ (fun _ _ => ?_)
    | with_reducible refine State.timerTracker_keeps  (by decide) ?_
    | with_reducible refine Keeps.ite ?_ ?_
    | dsimp only
    | split

theorem State.rescaleTracker_keeps {W : Nat} {s₀ s : State} (ontoCrystal : Bool) (hW : maskLe 0x10000 W = true) (hk : Keeps W s₀ s) :
    Keeps W s₀ (State.rescaleTracker s ontoCrystal) := by
  unfold State.rescaleTracker
  repeat' first
    | with_reducible assumption
    | with_reducible exact Keeps.refl _ _
    | with_reducible exact Bool.false_and _
    | intro _
    | with_reducible refine Keeps.foldl _ _ ?_ (fun _ _ => ?_)
    | with_reducible refine State.setMeridian_keeps _ (maskLe_trans (by decide) hW) ?_
    | with_reducible refine Keeps.ite ?_ ?_
    | dsimp only
    | split

theorem State.mainsAdvance_keeps {W : Nat} {s₀ s : State} (hW : maskLe 0x10000 W = true) (hk : Keeps W s₀ s) :
    Keeps W s₀ (State.mainsAdvance s) := by
  unfold State.mainsAdvance
  repeat' first
    | with_reducible assumption
    | with_reducible exact Keeps.refl _ _
    | with_reducible exact Bool.false_and _
    | intro _
    | with_reducible refine Keeps.foldl _ _ ?_ (fun _ _ => ?_)
    | with_reducible refine State.setMeridian_keeps _ (maskLe_trans (by decide) hW) ?_
    | with_reducible refine State.putAcc_keeps _ _ (maskLe_trans (by decide) hW) ?_
    | with_reducible refine Keeps.ite ?_ ?_
    | dsimp only
    | split

theorem State.followIndex_keeps {W : Nat} {s₀ s : State} (hW : maskLe 0x10000 W = true) (hk : Keeps W s₀ s) :
    Keeps W s₀ (State.followIndex s) := by
  unfold State.followIndex
  repeat' first
    | with_reducible assumption
    | with_reducible exact Keeps.refl _ _
    | with_reducible exact Bool.false_and _
    | intro _
    | with_reducible refine Keeps.foldl _ _ ?_ (fun _ _ => ?_)
    | with_reducible refine State.setMeridian_keeps _ (maskLe_trans (by decide) hW) ?_
    | with_reducible refine Keeps.ite ?_ ?_
    | dsimp only
    | split

theorem State.switchWave_keeps {W : Nat} {s₀ s : State} (now : Rat) (hW : maskLe 0x10000 W = true) (hk : Keeps W s₀ s) :
    Keeps W s₀ (State.switchWave s now) := by
  unfold State.switchWave
  repeat' first
    | with_reducible assumption
    | with_reducible exact Keeps.refl _ _
    | with_reducible exact Bool.false_and _
    | intro _
    | with_reducible refine Keeps.foldl _ _ ?_ (fun _ _ => ?_)
    | with_reducible refine State.setMeridian_keeps _ (maskLe_trans (by decide) hW) ?_
    | with_reducible refine Keeps.ite ?_ ?_
    | dsimp only
    | split

theorem State.basePeriod_keeps {W : Nat} {s₀ s : State} (hW : maskLe 0x4008062D116A10006436018 W = true) (hk : Keeps W s₀ s) :
    Keeps W s₀ (State.basePeriod s) := by
  unfold State.basePeriod
  repeat' first
    | with_reducible assumption
    | with_reducible exact site_2200 hW (by decide)
    | with_reducible exact Keeps.refl _ _
    | with_reducible exact Bool.false_and _
    | intro _
    | with_reducible refine Keeps.foldl _ _ ?_ (fun _ _ => ?_)
    | with_reducible refine State.setMeridian_keeps _ (maskLe_trans (by decide) hW) ?_
    | with_reducible refine State.putObj_keeps _ _ _ ?_ ?_
    | with_reducible refine State.raise_keeps _ _ (maskLe_trans (by decide) hW) ?_
    | with_reducible refine State.endEvent_keeps _ _ (maskLe_trans (by decide) hW) ?_
    | with_reducible refine State.followIndex_keeps  (maskLe_trans (by decide) hW) ?_
    | with_reducible refine State.switchWave_keeps _ (maskLe_trans (by decide) hW) ?_
    | with_reducible refine Keeps.ite ?_ ?_
    | dsimp only
    | split

theorem execBasePeriodStart_keeps (s : State) : Keeps.Out 0x4008062D116A10006436018 s (execBasePeriodStart s) := by
  unfold execBasePeriodStart
  repeat' first
    | with_reducible refine Keeps.out_next ?_
    | with_reducible refine Keeps.out_ite ?_ ?_
    | with_reducible assumption
    | with_reducible exact Keeps.refl _ _
    | with_reducible exact Bool.false_and _
    | intro _
    | with_reducible refine Keeps.foldl _ _ ?_ (fun _ _ => ?_)
    | with_reducible refine State.basePeriod_keeps  (by decide) ?_
    | with_reducible refine Keeps.ite ?_ ?_
    | dsimp only
    | split

theorem State.armEntry_keeps {W : Nat} {s₀ s : State} (n : Fin 64) (hW : maskLe 0x10000 W = true) (hk : Keeps W s₀ s) :
    Keeps W s₀ (State.armEntry s n) := by
  unfold State.armEntry
  repeat' first
    | with_reducible assumption
    | with_reducible exact Keeps.refl _ _
    | with_reducible exact Bool.false_and _
    | intro _
    | with_reducible refine Keeps.foldl _ _ ?_ (fun _ _ => ?_)
    | with_reducible refine State.setMeridian_keeps _ (maskLe_trans (by decide) hW) ?_
    | with_reducible refine Keeps.ite ?_ ?_
    | dsimp only
    | split

theorem State.armAll_keeps {W : Nat} {s₀ s : State} (hW : maskLe 0x10000 W = true) (hk : Keeps W s₀ s) :
    Keeps W s₀ (State.armAll s) := by
  unfold State.armAll
  repeat' first
    | with_reducible assumption
    | with_reducible exact Keeps.refl _ _
    | with_reducible exact Bool.false_and _
    | intro _
    | with_reducible refine Keeps.foldl _ _ ?_ (fun _ _ => ?_)
    | with_reducible refine State.armEntry_keeps _ (maskLe_trans (by decide) hW) ?_
    | with_reducible refine Keeps.ite ?_ ?_
    | dsimp only
    | split

theorem State.putWindow_keeps {W : Nat} {s₀ s : State} (target : Nat) (opened : Bool) (hW : maskLe 0x400000 W = true) (hk : Keeps W s₀ s) :
    Keeps W s₀ (State.putWindow s target opened) := by
  unfold State.putWindow
  repeat' first
    | with_reducible assumption
    | with_reducible exact Keeps.refl _ _
    | with_reducible exact Bool.false_and _
    | intro _
    | with_reducible refine Keeps.foldl _ _ ?_ (fun _ _ => ?_)
    | with_reducible refine State.modRail_keeps _ _ (maskLe_trans (by decide) hW) ?_
    | with_reducible refine Keeps.ite ?_ ?_
    | dsimp only
    | split

theorem State.fireAction_keeps {W : Nat} {s₀ s : State} (n : Fin 64) (v : Nat) (hW : maskLe 0x8062D116C10006636008 W = true) (hk : Keeps W s₀ s) :
    Keeps W s₀ (State.fireAction s n v) := by
  unfold State.fireAction
  repeat' first
    | with_reducible assumption
    | with_reducible exact site_2210 hW (by decide)
    | with_reducible exact site_2600 hW (by decide)
    | with_reducible exact Keeps.refl _ _
    | with_reducible exact Bool.false_and _
    | intro _
    | with_reducible refine Keeps.foldl _ _ ?_ (fun _ _ => ?_)
    | with_reducible refine State.setMeridian_keeps _ (maskLe_trans (by decide) hW) ?_
    | with_reducible refine State.setAuxSequence_keeps _ (maskLe_trans (by decide) hW) ?_
    | with_reducible refine State.bump_keeps _ _ ?_  ?_
    | with_reducible refine State.driveRelay_keeps _ _ (maskLe_trans (by decide) hW) ?_
    | with_reducible refine State.raise_keeps _ _ (maskLe_trans (by decide) hW) ?_
    | with_reducible refine State.putWindow_keeps _ _ (maskLe_trans (by decide) hW) ?_
    | with_reducible refine Keeps.ite ?_ ?_
    | dsimp only
    | split

theorem State.scanMove_keeps {W : Nat} {s₀ s : State} (n : Fin 64) (move : Nat × Nat × Bool) (hW : maskLe 0x8062D116C10006636008 W = true) (hk : Keeps W s₀ s) :
    Keeps W s₀ (State.scanMove s n move) := by
  unfold State.scanMove
  repeat' first
    | with_reducible assumption
    | with_reducible exact site_2210 hW (by decide)
    | with_reducible exact Keeps.refl _ _
    | with_reducible exact Bool.false_and _
    | intro _
    | with_reducible refine Keeps.foldl _ _ ?_ (fun _ _ => ?_)
    | with_reducible refine State.setMeridian_keeps _ (maskLe_trans (by decide) hW) ?_
    | with_reducible refine State.putObj_keeps _ _ _ ?_ ?_
    | with_reducible refine State.fireAction_keeps _ _ (maskLe_trans (by decide) hW) ?_
    | exact h
    | with_reducible refine Keeps.ite ?_ ?_
    | dsimp only
    | split

theorem State.scanEntry_keeps {W : Nat} {s₀ s : State} (n : Fin 64) (hW : maskLe 0x8062D116C10006636008 W = true) (hk : Keeps W s₀ s) :
    Keeps W s₀ (State.scanEntry s n) := by
  unfold State.scanEntry
  repeat' first
    | with_reducible assumption
    | with_reducible exact Keeps.refl _ _
    | with_reducible exact Bool.false_and _
    | intro _
    | with_reducible refine Keeps.foldl _ _ ?_ (fun _ _ => ?_)
    | with_reducible refine State.scanMove_keeps _ _ (maskLe_trans (by decide) hW) ?_
    | with_reducible refine Keeps.ite ?_ ?_
    | dsimp only
    | split

theorem State.scanRelay_keeps {W : Nat} {s₀ s : State} (i : Fin 4) (hW : maskLe 0x100000000010000 W = true) (hk : Keeps W s₀ s) :
    Keeps W s₀ (State.scanRelay s i) := by
  unfold State.scanRelay
  repeat' first
    | with_reducible assumption
    | with_reducible exact site_2600 hW (by decide)
    | with_reducible exact Keeps.refl _ _
    | with_reducible exact Bool.false_and _
    | intro _
    | with_reducible refine Keeps.foldl _ _ ?_ (fun _ _ => ?_)
    | with_reducible refine State.setMeridian_keeps _ (maskLe_trans (by decide) hW) ?_
    | with_reducible refine State.bump_keeps _ _ ?_  ?_
    | with_reducible refine State.driveRelay_keeps _ _ (maskLe_trans (by decide) hW) ?_
    | with_reducible refine Keeps.ite ?_ ?_
    | dsimp only
    | split

theorem State.scanSync_keeps {W : Nat} {s₀ s : State} (hW : maskLe 0x10000 W = true) (hk : Keeps W s₀ s) :
    Keeps W s₀ (State.scanSync s) := by
  unfold State.scanSync
  repeat' first
    | with_reducible assumption
    | with_reducible exact Keeps.refl _ _
    | with_reducible exact Bool.false_and _
    | intro _
    | with_reducible refine Keeps.foldl _ _ ?_ (fun _ _ => ?_)
    | with_reducible refine State.setMeridian_keeps _ (maskLe_trans (by decide) hW) ?_
    | with_reducible refine State.switchWave_keeps _ (maskLe_trans (by decide) hW) ?_
    | with_reducible refine Keeps.ite ?_ ?_
    | dsimp only
    | split

theorem State.graticuleScan_keeps {W : Nat} {s₀ s : State} (hW : maskLe 0x8062D116E10006636008 W = true) (hk : Keeps W s₀ s) :
    Keeps W s₀ (State.graticuleScan s) := by
  unfold State.graticuleScan
  repeat' first
    | with_reducible assumption
    | with_reducible exact Keeps.refl _ _
    | with_reducible exact Bool.false_and _
    | intro _
    | with_reducible refine Keeps.foldl _ _ ?_ (fun _ _ => ?_)
    | with_reducible refine State.setMeridian_keeps _ (maskLe_trans (by decide) hW) ?_
    | with_reducible refine State.reportBearings_keeps  (maskLe_trans (by decide) hW) ?_
    | with_reducible refine State.elecAdvance_keeps  (maskLe_trans (by decide) hW) ?_
    | with_reducible refine State.mainsAdvance_keeps  (maskLe_trans (by decide) hW) ?_
    | with_reducible refine State.scanEntry_keeps _ (maskLe_trans (by decide) hW) ?_
    | with_reducible refine State.scanRelay_keeps _ (maskLe_trans (by decide) hW) ?_
    | with_reducible refine State.scanSync_keeps  (maskLe_trans (by decide) hW) ?_
    | with_reducible refine Keeps.ite ?_ ?_
    | dsimp only
    | split

theorem execGraticuleScan_keeps (s : State) : Keeps.Out 0x8062D116E10006636008 s (execGraticuleScan s) := by
  unfold execGraticuleScan
  repeat' first
    | with_reducible refine Keeps.out_next ?_
    | with_reducible refine Keeps.out_ite ?_ ?_
    | with_reducible assumption
    | with_reducible exact Keeps.refl _ _
    | with_reducible exact Bool.false_and _
    | intro _
    | with_reducible refine Keeps.foldl _ _ ?_ (fun _ _ => ?_)
    | with_reducible refine State.graticuleScan_keeps  (by decide) ?_
    | with_reducible refine Keeps.ite ?_ ?_
    | dsimp only
    | split

theorem State.learn_keeps {W : Nat} {s₀ s : State} (i : Fin 4) (closing : Bool) (us : Nat) (hW : maskLe 0x8062D116810006436008 W = true) (hk : Keeps W s₀ s) :
    Keeps W s₀ (State.learn s i closing us) := by
  unfold State.learn
  repeat' first
    | with_reducible assumption
    | with_reducible exact site_2600 hW (by decide)
    | with_reducible exact Keeps.refl _ _
    | with_reducible exact Bool.false_and _
    | intro _
    | with_reducible refine Keeps.foldl _ _ ?_ (fun _ _ => ?_)
    | with_reducible refine State.setMeridian_keeps _ (maskLe_trans (by decide) hW) ?_
    | with_reducible refine State.putObj_keeps _ _ _ ?_ ?_
    | with_reducible refine State.bump_keeps _ _ ?_  ?_
    | with_reducible refine State.raise_keeps _ _ (maskLe_trans (by decide) hW) ?_
    | with_reducible refine Keeps.ite ?_ ?_
    | dsimp only
    | split

theorem State.relayFeedback_keeps {W : Nat} {s₀ s : State} (i : Fin 4) (us before after : Nat) (hW : maskLe 0x8062D116810006436008 W = true) (hk : Keeps W s₀ s) :
    Keeps W s₀ (State.relayFeedback s i us before after) := by
  unfold State.relayFeedback
  repeat' first
    | with_reducible assumption
    | with_reducible exact Keeps.refl _ _
    | with_reducible exact Bool.false_and _
    | intro _
    | with_reducible refine Keeps.foldl _ _ ?_ (fun _ _ => ?_)
    | with_reducible refine State.setMeridian_keeps _ (maskLe_trans (by decide) hW) ?_
    | with_reducible refine State.learn_keeps _ _ _ (maskLe_trans (by decide) hW) ?_
    | with_reducible refine Keeps.ite ?_ ?_
    | dsimp only
    | split

theorem execRelayFeedbackTransition_keeps (relay : Fin 4) (feedback : Feedback) (s : State) : Keeps.Out 0x8062D116810006436008 s (execRelayFeedbackTransition relay feedback s) := by
  unfold execRelayFeedbackTransition
  repeat' first
    | with_reducible refine Keeps.out_next ?_
    | with_reducible refine Keeps.out_ite ?_ ?_
    | with_reducible assumption
    | with_reducible exact Keeps.refl _ _
    | with_reducible exact Bool.false_and _
    | intro _
    | with_reducible refine Keeps.foldl _ _ ?_ (fun _ _ => ?_)
    | with_reducible refine State.relayFeedback_keeps _ _ _ _ (by decide) ?_
    | with_reducible refine Keeps.ite ?_ ?_
    | dsimp only
    | split

theorem State.commandRelay_keeps {W : Nat} {s₀ s : State} (i : Fin 4) (closed bearing : Bool) (hW : maskLe 0x10000 W = true) (hk : Keeps W s₀ s) :
    Keeps W s₀ (State.commandRelay s i closed bearing) := by
  unfold State.commandRelay
  repeat' first
    | with_reducible assumption
    | with_reducible exact Keeps.refl _ _
    | with_reducible exact Bool.false_and _
    | intro _
    | with_reducible refine Keeps.foldl _ _ ?_ (fun _ _ => ?_)
    | with_reducible refine State.setMeridian_keeps _ (maskLe_trans (by decide) hW) ?_
    | with_reducible refine Keeps.ite ?_ ?_
    | dsimp only
    | split

theorem State.resetMeridian_keeps {W : Nat} {s₀ s : State} (hW : maskLe 0x40000000002A00000010018 W = true) (hk : Keeps W s₀ s) :
    Keeps W s₀ (State.resetMeridian s) := by
  unfold State.resetMeridian
  repeat' first
    | with_reducible assumption
    | with_reducible exact site_2200 hW (by decide)
    | with_reducible exact Keeps.refl _ _
    | with_reducible exact Bool.false_and _
    | intro _
    | with_reducible refine Keeps.foldl _ _ ?_ (fun _ _ => ?_)
    | with_reducible refine State.setMeridian_keeps _ (maskLe_trans (by decide) hW) ?_
    | with_reducible refine State.putObj_keeps _ _ _ ?_ ?_
    | with_reducible refine State.endFlywheel_keeps  (maskLe_trans (by decide) hW) ?_
    | with_reducible refine State.armAll_keeps  (maskLe_trans (by decide) hW) ?_
    | with_reducible refine Keeps.ite ?_ ?_
    | dsimp only
    | split

end Sys2Proof.Machine
end

