-- ==== Sys2Proof/Laws/KeepsTropo.lean ====
section
/-! SUPPORT. What the operations of Machine/Tropo.lean keep. -/

namespace Sys2Proof.Machine

theorem State.keepShares_keeps {W : Nat} {s₀ s : State} (odd : Bool) (hW : maskLe 0x4000000 W = true) (hk : Keeps W s₀ s) :
    Keeps W s₀ (State.keepShares s odd) := by
  unfold State.keepShares
  repeat' first
    | with_reducible assumption
    | with_reducible exact Keeps.refl _ _
    | with_reducible exact Bool.false_and _
    | intro _
    | with_reducible refine Keeps.foldl _ _ ?_ (fun _ _ => ?_)
    | with_reducible refine State.setRing_keeps _ (maskLe_trans (by decide) hW) ?_
    | with_reducible refine Keeps.ite ?_ ?_
    | dsimp only
    | split

theorem State.checkSpans_keeps {W : Nat} {s₀ s : State} (hW : maskLe 0x4008062D116810026436018 W = true) (hk : Keeps W s₀ s) :
    Keeps W s₀ (State.checkSpans s) := by
  unfold State.checkSpans
  repeat' first
    | with_reducible assumption
    | with_reducible exact Keeps.refl _ _
    | with_reducible exact Bool.false_and _
    | intro _
    | with_reducible refine Keeps.foldl _ _ ?_ (fun _ _ => ?_)
    | with_reducible refine State.setRing_keeps _ (maskLe_trans (by decide) hW) ?_
    | with_reducible refine State.tick_keeps  (maskLe_trans (by decide) hW) ?_
    | with_reducible refine State.raise_keeps _ _ (maskLe_trans (by decide) hW) ?_
    | with_reducible refine State.endEvent_keeps _ _ (maskLe_trans (by decide) hW) ?_
    | with_reducible refine Keeps.ite ?_ ?_
    | dsimp only
    | split

theorem State.takeLatency_keeps {W : Nat} {s₀ s : State} (ps : Nat) (hW : maskLe 0x8062D116810006436008 W = true) (hk : Keeps W s₀ s) :
    Keeps W s₀ (State.takeLatency s ps) := by
  unfold State.takeLatency
  repeat' first
    | with_reducible assumption
    | with_reducible exact site_2400 hW (by decide)
    | with_reducible exact Keeps.refl _ _
    | with_reducible exact Bool.false_and _
    | intro _
    | with_reducible refine Keeps.foldl _ _ ?_ (fun _ _ => ?_)
    | with_reducible refine State.setRing_keeps _ (maskLe_trans (by decide) hW) ?_
    | with_reducible refine State.putObj_keeps _ _ _ ?_ ?_
    | with_reducible refine State.raise_keeps _ _ (maskLe_trans (by decide) hW) ?_
    | with_reducible refine Keeps.ite ?_ ?_
    | dsimp only
    | split

theorem State.joinedRing_keeps {W : Nat} {s₀ s : State} (hW : maskLe 0x10000004000000 W = true) (hk : Keeps W s₀ s) :
    Keeps W s₀ (State.joinedRing s) := by
  unfold State.joinedRing
  repeat' first
    | with_reducible assumption
    | with_reducible exact site_2400 hW (by decide)
    | with_reducible exact Keeps.refl _ _
    | with_reducible exact Bool.false_and _
    | intro _
    | with_reducible refine Keeps.foldl _ _ ?_ (fun _ _ => ?_)
    | with_reducible refine State.setRing_keeps _ (maskLe_trans (by decide) hW) ?_
    | with_reducible refine State.bump_keeps _ _ ?_  ?_
    | with_reducible refine Keeps.ite ?_ ?_
    | dsimp only
    | split

theorem State.forgetFaults_keeps {W : Nat} {s₀ s : State} (hW : maskLe 0x40000000012800000000018 W = true) (hk : Keeps W s₀ s) :
    Keeps W s₀ (State.forgetFaults s) := by
  unfold State.forgetFaults
  repeat' first
    | with_reducible assumption
    | with_reducible exact site_2400 hW (by decide)
    | with_reducible exact Keeps.refl _ _
    | with_reducible exact Bool.false_and _
    | intro _
    | with_reducible refine Keeps.foldl _ _ ?_ (fun _ _ => ?_)
    | with_reducible refine State.putObj_keeps _ _ _ ?_ ?_
    | with_reducible refine State.endEvent_keeps _ _ (maskLe_trans (by decide) hW) ?_
    | with_reducible refine Keeps.ite ?_ ?_
    | dsimp only
    | split

theorem State.joinRing_keeps {W : Nat} {s₀ s : State} (hW : maskLe 0x10000004000000 W = true) (hk : Keeps W s₀ s) :
    Keeps W s₀ (State.joinRing s) := by
  unfold State.joinRing
  repeat' first
    | with_reducible assumption
    | with_reducible exact site_2400 hW (by decide)
    | with_reducible exact Keeps.refl _ _
    | with_reducible exact Bool.false_and _
    | intro _
    | with_reducible refine Keeps.foldl _ _ ?_ (fun _ _ => ?_)
    | with_reducible refine State.setRing_keeps _ (maskLe_trans (by decide) hW) ?_
    | with_reducible refine State.putObj_keeps _ _ _ ?_ ?_
    | with_reducible refine Keeps.ite ?_ ?_
    | dsimp only
    | split

theorem State.enterDiscovery_keeps {W : Nat} {s₀ s : State} (hW : maskLe 0x10000004000000 W = true) (hk : Keeps W s₀ s) :
    Keeps W s₀ (State.enterDiscovery s) := by
  unfold State.enterDiscovery
  repeat' first
    | with_reducible assumption
    | with_reducible exact site_2400 hW (by decide)
    | with_reducible exact Keeps.refl _ _
    | with_reducible exact Bool.false_and _
    | intro _
    | with_reducible refine Keeps.foldl _ _ ?_ (fun _ _ => ?_)
    | with_reducible refine State.setRing_keeps _ (maskLe_trans (by decide) hW) ?_
    | with_reducible refine State.putObj_keeps _ _ _ ?_ ?_
    | with_reducible refine Keeps.ite ?_ ?_
    | dsimp only
    | split

theorem State.enterUp_keeps {W : Nat} {s₀ s : State} (hW : maskLe 0x40000000012800000000018 W = true) (hk : Keeps W s₀ s) :
    Keeps W s₀ (State.enterUp s) := by
  unfold State.enterUp
  repeat' first
    | with_reducible assumption
    | with_reducible exact site_2400 hW (by decide)
    | with_reducible exact Keeps.refl _ _
    | with_reducible exact Bool.false_and _
    | intro _
    | with_reducible refine Keeps.foldl _ _ ?_ (fun _ _ => ?_)
    | with_reducible refine State.putObj_keeps _ _ _ ?_ ?_
    | with_reducible refine State.endEvent_keeps _ _ (maskLe_trans (by decide) hW) ?_
    | with_reducible refine Keeps.ite ?_ ?_
    | dsimp only
    | split

theorem State.listenEnd_keeps {W : Nat} {s₀ s : State} (framesFound : Bool) (hW : maskLe 0x8062D116810006436008 W = true) (hk : Keeps W s₀ s) :
    Keeps W s₀ (State.listenEnd s framesFound) := by
  unfold State.listenEnd
  repeat' first
    | with_reducible assumption
    | with_reducible exact site_2400 hW (by decide)
    | with_reducible exact Keeps.refl _ _
    | with_reducible exact Bool.false_and _
    | intro _
    | with_reducible refine Keeps.foldl _ _ ?_ (fun _ _ => ?_)
    | with_reducible refine State.putObj_keeps _ _ _ ?_ ?_
    | with_reducible refine State.raise_keeps _ _ (maskLe_trans (by decide) hW) ?_
    | with_reducible refine State.joinedRing_keeps  (maskLe_trans (by decide) hW) ?_
    | with_reducible refine State.enterDiscovery_keeps  (maskLe_trans (by decide) hW) ?_
    | with_reducible refine Keeps.ite ?_ ?_
    | dsimp only
    | split

theorem State.ringLock_keeps {W : Nat} {s₀ s : State} (hW : maskLe 0x8062D116810006436008 W = true) (hk : Keeps W s₀ s) :
    Keeps W s₀ (State.ringLock s) := by
  unfold State.ringLock
  repeat' first
    | with_reducible assumption
    | with_reducible exact site_2400 hW (by decide)
    | with_reducible exact Keeps.refl _ _
    | with_reducible exact Bool.false_and _
    | intro _
    | with_reducible refine Keeps.foldl _ _ ?_ (fun _ _ => ?_)
    | with_reducible refine State.setRing_keeps _ (maskLe_trans (by decide) hW) ?_
    | with_reducible refine State.putObj_keeps _ _ _ ?_ ?_
    | with_reducible refine State.raise_keeps _ _ (maskLe_trans (by decide) hW) ?_
    | with_reducible refine State.joinedRing_keeps  (maskLe_trans (by decide) hW) ?_
    | with_reducible refine Keeps.ite ?_ ?_
    | dsimp only
    | split

theorem execRingLock_keeps (s : State) : Keeps.Out 0x8062D116810006436008 s (execRingLock s) := by
  unfold execRingLock
  repeat' first
    | with_reducible refine Keeps.out_next ?_
    | with_reducible refine Keeps.out_ite ?_ ?_
    | with_reducible assumption
    | with_reducible exact Keeps.refl _ _
    | with_reducible exact Bool.false_and _
    | intro _
    | with_reducible refine Keeps.foldl _ _ ?_ (fun _ _ => ?_)
    | with_reducible refine State.ringLock_keeps  (by decide) ?_
    | with_reducible refine Keeps.ite ?_ ?_
    | dsimp only
    | split

theorem execRingNoLead_keeps (s : State) : Keeps.Out 0x8062D116810006436008 s (execRingNoLead s) := by
  unfold execRingNoLead
  repeat' first
    | with_reducible refine Keeps.out_next ?_
    | with_reducible refine Keeps.out_ite ?_ ?_
    | with_reducible assumption
    | with_reducible exact Keeps.refl _ _
    | with_reducible exact Bool.false_and _
    | intro _
    | with_reducible refine Keeps.foldl _ _ ?_ (fun _ _ => ?_)
    | with_reducible refine State.setRing_keeps _ (by decide) ?_
    | with_reducible refine State.raise_keeps _ _ (by decide) ?_
    | with_reducible refine Keeps.ite ?_ ?_
    | dsimp only
    | split

theorem State.discovered_keeps {W : Nat} {s₀ s : State} (hW : maskLe 0x4008062D116810026436018 W = true) (hk : Keeps W s₀ s) :
    Keeps W s₀ (State.discovered s) := by
  unfold State.discovered
  repeat' first
    | with_reducible assumption
    | with_reducible exact Keeps.refl _ _
    | with_reducible exact Bool.false_and _
    | intro _
    | with_reducible refine Keeps.foldl _ _ ?_ (fun _ _ => ?_)
    | with_reducible refine State.raise_keeps _ _ (maskLe_trans (by decide) hW) ?_
    | with_reducible refine State.checkSpans_keeps  (maskLe_trans (by decide) hW) ?_
    | with_reducible refine State.enterUp_keeps  (maskLe_trans (by decide) hW) ?_
    | with_reducible refine Keeps.ite ?_ ?_
    | dsimp only
    | split

theorem State.discoveryEnd_keeps {W : Nat} {s₀ s : State} (hW : maskLe 0x4008062D116810026436018 W = true) (hk : Keeps W s₀ s) :
    Keeps W s₀ (State.discoveryEnd s) := by
  unfold State.discoveryEnd
  repeat' first
    | with_reducible assumption
    | with_reducible exact Keeps.refl _ _
    | with_reducible exact Bool.false_and _
    | intro _
    | with_reducible refine Keeps.foldl _ _ ?_ (fun _ _ => ?_)
    | with_reducible refine State.setRing_keeps _ (maskLe_trans (by decide) hW) ?_
    | with_reducible refine State.discovered_keeps  (maskLe_trans (by decide) hW) ?_
    | with_reducible refine Keeps.ite ?_ ?_
    | dsimp only
    | split

theorem State.memberLost_keeps {W : Nat} {s₀ s : State} (p : Fin 8) (hW : maskLe 0x8062D116810006436008 W = true) (hk : Keeps W s₀ s) :
    Keeps W s₀ (State.memberLost s p) := by
  unfold State.memberLost
  repeat' first
    | with_reducible assumption
    | with_reducible exact Keeps.refl _ _
    | with_reducible exact Bool.false_and _
    | intro _
    | with_reducible refine Keeps.foldl _ _ ?_ (fun _ _ => ?_)
    | with_reducible refine State.setRing_keeps _ (maskLe_trans (by decide) hW) ?_
    | with_reducible refine State.raise_keeps _ _ (maskLe_trans (by decide) hW) ?_
    | with_reducible refine Keeps.ite ?_ ?_
    | dsimp only
    | split

theorem execRingMemberLost_keeps (position : BitVec 3) (s : State) : Keeps.Out 0x8062D116810006436008 s (execRingMemberLost position s) := by
  unfold execRingMemberLost
  repeat' first
    | with_reducible refine Keeps.out_next ?_
    | with_reducible refine Keeps.out_ite ?_ ?_
    | with_reducible assumption
    | with_reducible exact Keeps.refl _ _
    | with_reducible exact Bool.false_and _
    | intro _
    | with_reducible refine Keeps.foldl _ _ ?_ (fun _ _ => ?_)
    | with_reducible refine State.memberLost_keeps _ (by decide) ?_
    | with_reducible refine Keeps.ite ?_ ?_
    | dsimp only
    | split

theorem State.leaveComplete_keeps {W : Nat} {s₀ s : State} (hW : maskLe 0x4008062D116810006436018 W = true) (hk : Keeps W s₀ s) :
    Keeps W s₀ (State.leaveComplete s) := by
  unfold State.leaveComplete
  repeat' first
    | with_reducible assumption
    | with_reducible exact site_2400 hW (by decide)
    | with_reducible exact Keeps.refl _ _
    | with_reducible exact Bool.false_and _
    | intro _
    | with_reducible refine Keeps.foldl _ _ ?_ (fun _ _ => ?_)
    | with_reducible refine State.setRing_keeps _ (maskLe_trans (by decide) hW) ?_
    | with_reducible refine State.putObj_keeps _ _ _ ?_ ?_
    | with_reducible refine State.putFunc_keeps _ _ (maskLe_trans (by decide) hW) ?_
    | with_reducible refine State.raise_keeps _ _ (maskLe_trans (by decide) hW) ?_
    | with_reducible refine State.forgetFaults_keeps  (maskLe_trans (by decide) hW) ?_
    | with_reducible refine State.joinRing_keeps  (maskLe_trans (by decide) hW) ?_
    | with_reducible refine Keeps.ite ?_ ?_
    | dsimp only
    | split

theorem State.loseSpan_keeps {W : Nat} {s₀ s : State} (i : Fin 4) (hW : maskLe 0x25000000006400000 W = true) (hk : Keeps W s₀ s) :
    Keeps W s₀ (State.loseSpan s i) := by
  unfold State.loseSpan
  repeat' first
    | with_reducible assumption
    | with_reducible exact site_railbit_00 hW (by decide)
    | with_reducible exact Keeps.refl _ _
    | with_reducible exact Bool.false_and _
    | intro _
    | with_reducible refine Keeps.foldl _ _ ?_ (fun _ _ => ?_)
    | with_reducible refine State.setRing_keeps _ (maskLe_trans (by decide) hW) ?_
    | with_reducible refine State.modRail_keeps _ _ (maskLe_trans (by decide) hW) ?_
    | with_reducible refine State.putRailObj_keeps _ _ _ _ ?_  ?_
    | with_reducible refine State.softStop_keeps _ _ (maskLe_trans (by decide) hW) ?_
    | with_reducible refine Keeps.ite ?_ ?_
    | dsimp only
    | split

theorem State.ringBreak_keeps {W : Nat} {s₀ s : State} (hW : maskLe 0x4008062D116810006436018 W = true) (hk : Keeps W s₀ s) :
    Keeps W s₀ (State.ringBreak s) := by
  unfold State.ringBreak
  repeat' first
    | with_reducible assumption
    | with_reducible exact site_2400 hW (by decide)
    | with_reducible exact Keeps.refl _ _
    | with_reducible exact Bool.false_and _
    | intro _
    | with_reducible refine Keeps.foldl _ _ ?_ (fun _ _ => ?_)
    | with_reducible refine State.setRing_keeps _ (maskLe_trans (by decide) hW) ?_
    | with_reducible refine State.putObj_keeps _ _ _ ?_ ?_
    | with_reducible refine State.bump_keeps _ _ ?_  ?_
    | with_reducible refine State.raise_keeps _ _ (maskLe_trans (by decide) hW) ?_
    | with_reducible refine State.forgetFaults_keeps  (maskLe_trans (by decide) hW) ?_
    | with_reducible refine State.leaveComplete_keeps  (maskLe_trans (by decide) hW) ?_
    | with_reducible refine State.loseSpan_keeps _ (maskLe_trans (by decide) hW) ?_
    | with_reducible refine Keeps.ite ?_ ?_
    | dsimp only
    | split

theorem execRingBreak_keeps (s : State) : Keeps.Out 0x4008062D116810006436018 s (execRingBreak s) := by
  unfold execRingBreak
  repeat' first
    | with_reducible refine Keeps.out_next ?_
    | with_reducible refine Keeps.out_ite ?_ ?_
    | with_reducible assumption
    | with_reducible exact Keeps.refl _ _
    | with_reducible exact Bool.false_and _
    | intro _
    | with_reducible refine Keeps.foldl _ _ ?_ (fun _ _ => ?_)
    | with_reducible refine State.ringBreak_keeps  (by decide) ?_
    | with_reducible refine Keeps.ite ?_ ?_
    | dsimp only
    | split

theorem execRingLeadRecovery_keeps (s : State) : Keeps.Out 0x10000004000000 s (execRingLeadRecovery s) := by
  unfold execRingLeadRecovery
  repeat' first
    | with_reducible refine Keeps.out_next ?_
    | with_reducible refine Keeps.out_ite ?_ ?_
    | with_reducible assumption
    | with_reducible exact Keeps.refl _ _
    | with_reducible exact Bool.false_and _
    | intro _
    | with_reducible refine Keeps.foldl _ _ ?_ (fun _ _ => ?_)
    | with_reducible refine State.enterDiscovery_keeps  (by decide) ?_
    | with_reducible refine Keeps.ite ?_ ?_
    | dsimp only
    | split

theorem State.resetRing_keeps {W : Nat} {s₀ s : State} (hW : maskLe 0x10000004000000 W = true) (hk : Keeps W s₀ s) :
    Keeps W s₀ (State.resetRing s) := by
  unfold State.resetRing
  repeat' first
    | with_reducible assumption
    | with_reducible exact site_2400 hW (by decide)
    | with_reducible exact Keeps.refl _ _
    | with_reducible exact Bool.false_and _
    | intro _
    | with_reducible refine Keeps.foldl _ _ ?_ (fun _ _ => ?_)
    | with_reducible refine State.setRing_keeps _ (maskLe_trans (by decide) hW) ?_
    | with_reducible refine State.putObj_keeps _ _ _ ?_ ?_
    | with_reducible refine State.leaveRing_keeps _ (maskLe_trans (by decide) hW) ?_
    | with_reducible refine State.joinRing_keeps  (maskLe_trans (by decide) hW) ?_
    | with_reducible refine Keeps.ite ?_ ?_
    | dsimp only
    | split

theorem State.alignSent_keeps {W : Nat} {s₀ s : State} (hW : maskLe 0x4000000 W = true) (hk : Keeps W s₀ s) :
    Keeps W s₀ (State.alignSent s) := by
  unfold State.alignSent
  repeat' first
    | with_reducible assumption
    | with_reducible exact Keeps.refl _ _
    | with_reducible exact Bool.false_and _
    | intro _
    | with_reducible refine Keeps.foldl _ _ ?_ (fun _ _ => ?_)
    | with_reducible refine State.setRing_keeps _ (maskLe_trans (by decide) hW) ?_
    | with_reducible refine Keeps.ite ?_ ?_
    | dsimp only
    | split

theorem State.pairSent_keeps {W : Nat} {s₀ s : State} (hW : maskLe 0x4008062D116810026436018 W = true) (hk : Keeps W s₀ s) :
    Keeps W s₀ (State.pairSent s) := by
  unfold State.pairSent
  repeat' first
    | with_reducible assumption
    | with_reducible exact Keeps.refl _ _
    | with_reducible exact Bool.false_and _
    | intro _
    | with_reducible refine Keeps.foldl _ _ ?_ (fun _ _ => ?_)
    | with_reducible refine State.discovered_keeps  (maskLe_trans (by decide) hW) ?_
    | with_reducible refine State.alignSent_keeps  (maskLe_trans (by decide) hW) ?_
    | with_reducible refine Keeps.ite ?_ ?_
    | dsimp only
    | split

theorem State.sendFrame_keeps {W : Nat} {s₀ s : State} (hW : maskLe 0x4008062D116810026436018 W = true) (hk : Keeps W s₀ s) :
    Keeps W s₀ (State.sendFrame s) := by
  unfold State.sendFrame
  repeat' first
    | with_reducible assumption
    | with_reducible exact Keeps.refl _ _
    | with_reducible exact Bool.false_and _
    | intro _
    | with_reducible refine Keeps.foldl _ _ ?_ (fun _ _ => ?_)
    | with_reducible refine State.setRing_keeps _ (maskLe_trans (by decide) hW) ?_
    | with_reducible refine State.keepShares_keeps _ (maskLe_trans (by decide) hW) ?_
    | with_reducible refine State.checkSpans_keeps  (maskLe_trans (by decide) hW) ?_
    | with_reducible refine State.pairSent_keeps  (maskLe_trans (by decide) hW) ?_
    | with_reducible refine Keeps.ite ?_ ?_
    | dsimp only
    | split

theorem State.readFaults_keeps {W : Nat} {s₀ s : State} (f : RingFrame) (hW : maskLe 0x4008062D116810006436018 W = true) (hk : Keeps W s₀ s) :
    Keeps W s₀ (State.readFaults s f) := by
  unfold State.readFaults
  repeat' first
    | with_reducible assumption
    | with_reducible exact site_2400 hW (by decide)
    | with_reducible exact Keeps.refl _ _
    | with_reducible exact Bool.false_and _
    | intro _
    | with_reducible refine Keeps.foldl _ _ ?_ (fun _ _ => ?_)
    | with_reducible refine State.setRing_keeps _ (maskLe_trans (by decide) hW) ?_
    | with_reducible refine State.putObj_keeps _ _ _ ?_ ?_
    | with_reducible refine State.raise_keeps _ _ (maskLe_trans (by decide) hW) ?_
    | with_reducible refine State.endEvent_keeps _ _ (maskLe_trans (by decide) hW) ?_
    | with_reducible refine Keeps.ite ?_ ?_
    | dsimp only
    | split

theorem State.readToken_keeps {W : Nat} {s₀ s : State} (f : RingFrame) (hW : maskLe 0x4000000 W = true) (hk : Keeps W s₀ s) :
    Keeps W s₀ (State.readToken s f) := by
  unfold State.readToken
  repeat' first
    | with_reducible assumption
    | with_reducible exact Keeps.refl _ _
    | with_reducible exact Bool.false_and _
    | intro _
    | with_reducible refine Keeps.foldl _ _ ?_ (fun _ _ => ?_)
    | with_reducible refine State.setRing_keeps _ (maskLe_trans (by decide) hW) ?_
    | with_reducible refine Keeps.ite ?_ ?_
    | dsimp only
    | split

theorem State.readCommand_keeps {W : Nat} {s₀ s : State} (f : RingFrame) (hW : maskLe 0x4000000 W = true) (hk : Keeps W s₀ s) :
    Keeps W s₀ (State.readCommand s f) := by
  unfold State.readCommand
  repeat' first
    | with_reducible assumption
    | with_reducible exact Keeps.refl _ _
    | with_reducible exact Bool.false_and _
    | intro _
    | with_reducible refine Keeps.foldl _ _ ?_ (fun _ _ => ?_)
    | with_reducible refine State.setRing_keeps _ (maskLe_trans (by decide) hW) ?_
    | with_reducible refine Keeps.ite ?_ ?_
    | dsimp only
    | split

theorem State.readShares_keeps {W : Nat} {s₀ s : State} (f : RingFrame) (hW : maskLe 0x8062D116810006436008 W = true) (hk : Keeps W s₀ s) :
    Keeps W s₀ (State.readShares s f) := by
  unfold State.readShares
  repeat' first
    | with_reducible assumption
    | with_reducible exact Keeps.refl _ _
    | with_reducible exact Bool.false_and _
    | intro _
    | with_reducible refine Keeps.foldl _ _ ?_ (fun _ _ => ?_)
    | with_reducible refine State.setRing_keeps _ (maskLe_trans (by decide) hW) ?_
    | with_reducible refine State.raise_keeps _ _ (maskLe_trans (by decide) hW) ?_
    | with_reducible refine Keeps.ite ?_ ?_
    | dsimp only
    | split

theorem State.readAlign_keeps {W : Nat} {s₀ s : State} (f : RingFrame) (hW : maskLe 0x40000000012800004000018 W = true) (hk : Keeps W s₀ s) :
    Keeps W s₀ (State.readAlign s f) := by
  unfold State.readAlign
  repeat' first
    | with_reducible assumption
    | with_reducible exact site_2400 hW (by decide)
    | with_reducible exact Keeps.refl _ _
    | with_reducible exact Bool.false_and _
    | intro _
    | with_reducible refine Keeps.foldl _ _ ?_ (fun _ _ => ?_)
    | with_reducible refine State.setRing_keeps _ (maskLe_trans (by decide) hW) ?_
    | with_reducible refine State.putObj_keeps _ _ _ ?_ ?_
    | with_reducible refine State.enterUp_keeps  (maskLe_trans (by decide) hW) ?_
    | with_reducible refine Keeps.ite ?_ ?_
    | dsimp only
    | split

theorem State.afterDiscovery_keeps {W : Nat} {s₀ s : State} (hW : maskLe 0x4008062D116810026436018 W = true) (hk : Keeps W s₀ s) :
    Keeps W s₀ (State.afterDiscovery s) := by
  unfold State.afterDiscovery
  repeat' first
    | with_reducible assumption
    | with_reducible exact Keeps.refl _ _
    | with_reducible exact Bool.false_and _
    | intro _
    | with_reducible refine Keeps.foldl _ _ ?_ (fun _ _ => ?_)
    | with_reducible refine State.checkSpans_keeps  (maskLe_trans (by decide) hW) ?_
    | with_reducible refine Keeps.ite ?_ ?_
    | dsimp only
    | split

theorem State.readFrame_keeps {W : Nat} {s₀ s : State} (f : RingFrame) (hW : maskLe 0x4008062D116810026436018 W = true) (hk : Keeps W s₀ s) :
    Keeps W s₀ (State.readFrame s f) := by
  unfold State.readFrame
  repeat' first
    | with_reducible assumption
    | with_reducible exact Keeps.refl _ _
    | with_reducible exact Bool.false_and _
    | intro _
    | with_reducible refine Keeps.foldl _ _ ?_ (fun _ _ => ?_)
    | with_reducible refine State.readFaults_keeps _ (maskLe_trans (by decide) hW) ?_
    | with_reducible refine State.readToken_keeps _ (maskLe_trans (by decide) hW) ?_
    | with_reducible refine State.readCommand_keeps _ (maskLe_trans (by decide) hW) ?_
    | with_reducible refine State.readShares_keeps _ (maskLe_trans (by decide) hW) ?_
    | with_reducible refine State.readAlign_keeps _ (maskLe_trans (by decide) hW) ?_
    | with_reducible refine State.afterDiscovery_keeps  (maskLe_trans (by decide) hW) ?_
    | with_reducible refine Keeps.ite ?_ ?_
    | dsimp only
    | split

theorem State.leadReceives_keeps {W : Nat} {s₀ s : State} (f : RingFrame) (ps : Nat) (hW : maskLe 0x8062D116810006436008 W = true) (hk : Keeps W s₀ s) :
    Keeps W s₀ (State.leadReceives s f ps) := by
  unfold State.leadReceives
  repeat' first
    | with_reducible assumption
    | with_reducible exact Keeps.refl _ _
    | with_reducible exact Bool.false_and _
    | intro _
    | with_reducible refine Keeps.foldl _ _ ?_ (fun _ _ => ?_)
    | with_reducible refine State.setRing_keeps _ (maskLe_trans (by decide) hW) ?_
    | with_reducible refine State.takeLatency_keeps _ (maskLe_trans (by decide) hW) ?_
    | with_reducible refine Keeps.ite ?_ ?_
    | dsimp only
    | split

theorem State.duplicate_keeps {W : Nat} {s₀ s : State} (hW : maskLe 0x4008062D116810006436018 W = true) (hk : Keeps W s₀ s) :
    Keeps W s₀ (State.duplicate s) := by
  unfold State.duplicate
  repeat' first
    | with_reducible assumption
    | with_reducible exact site_2400 hW (by decide)
    | with_reducible exact Keeps.refl _ _
    | with_reducible exact Bool.false_and _
    | intro _
    | with_reducible refine Keeps.foldl _ _ ?_ (fun _ _ => ?_)
    | with_reducible refine State.setRing_keeps _ (maskLe_trans (by decide) hW) ?_
    | with_reducible refine State.putObj_keeps _ _ _ ?_ ?_
    | with_reducible refine State.raise_keeps _ _ (maskLe_trans (by decide) hW) ?_
    | with_reducible refine State.forgetFaults_keeps  (maskLe_trans (by decide) hW) ?_
    | with_reducible refine Keeps.ite ?_ ?_
    | dsimp only
    | split

theorem State.badFrame_keeps {W : Nat} {s₀ s : State} (hW : maskLe 0x10000004000000 W = true) (hk : Keeps W s₀ s) :
    Keeps W s₀ (State.badFrame s) := by
  unfold State.badFrame
  repeat' first
    | with_reducible assumption
    | with_reducible exact site_2400 hW (by decide)
    | with_reducible exact Keeps.refl _ _
    | with_reducible exact Bool.false_and _
    | intro _
    | with_reducible refine Keeps.foldl _ _ ?_ (fun _ _ => ?_)
    | with_reducible refine State.setRing_keeps _ (maskLe_trans (by decide) hW) ?_
    | with_reducible refine State.bump_keeps _ _ ?_  ?_
    | with_reducible refine Keeps.ite ?_ ?_
    | dsimp only
    | split

theorem State.followEpoch_keeps {W : Nat} {s₀ s : State} (f : RingFrame) (hW : maskLe 0x4000000 W = true) (hk : Keeps W s₀ s) :
    Keeps W s₀ (State.followEpoch s f) := by
  unfold State.followEpoch
  repeat' first
    | with_reducible assumption
    | with_reducible exact Keeps.refl _ _
    | with_reducible exact Bool.false_and _
    | intro _
    | with_reducible refine Keeps.foldl _ _ ?_ (fun _ _ => ?_)
    | with_reducible refine State.setRing_keeps _ (maskLe_trans (by decide) hW) ?_
    | with_reducible refine Keeps.ite ?_ ?_
    | dsimp only
    | split

theorem State.receiveFrame_keeps {W : Nat} {s₀ s : State} (f : RingFrame) (ps : Nat) (hW : maskLe 0x4008062D116810026436018 W = true) (hk : Keeps W s₀ s) :
    Keeps W s₀ (State.receiveFrame s f ps) := by
  unfold State.receiveFrame
  repeat' first
    | with_reducible assumption
    | with_reducible exact site_2400 hW (by decide)
    | with_reducible exact Keeps.refl _ _
    | with_reducible exact Bool.false_and _
    | intro _
    | with_reducible refine Keeps.foldl _ _ ?_ (fun _ _ => ?_)
    | with_reducible refine State.setRing_keeps _ (maskLe_trans (by decide) hW) ?_
    | with_reducible refine State.putObj_keeps _ _ _ ?_ ?_
    | with_reducible refine State.endEvent_keeps _ _ (maskLe_trans (by decide) hW) ?_
    | with_reducible refine State.keepShares_keeps _ (maskLe_trans (by decide) hW) ?_
    | with_reducible refine State.readFrame_keeps _ (maskLe_trans (by decide) hW) ?_
    | with_reducible refine State.leadReceives_keeps _ _ (maskLe_trans (by decide) hW) ?_
    | with_reducible refine State.duplicate_keeps  (maskLe_trans (by decide) hW) ?_
    | with_reducible refine State.badFrame_keeps  (maskLe_trans (by decide) hW) ?_
    | with_reducible refine State.followEpoch_keeps _ (maskLe_trans (by decide) hW) ?_
    | with_reducible refine Keeps.ite ?_ ?_
    | dsimp only
    | split

theorem execRingFrameReceived_keeps (frame : RingFrame) (latencyPs : BitVec 32) (s : State) : Keeps.Out 0x4008062D116810026436018 s (execRingFrameReceived frame latencyPs s) := by
  unfold execRingFrameReceived
  repeat' first
    | with_reducible refine Keeps.out_next ?_
    | with_reducible refine Keeps.out_ite ?_ ?_
    | with_reducible assumption
    | with_reducible exact Keeps.refl _ _
    | with_reducible exact Bool.false_and _
    | intro _
    | with_reducible refine Keeps.foldl _ _ ?_ (fun _ _ => ?_)
    | with_reducible refine State.receiveFrame_keeps _ _ (by decide) ?_
    | with_reducible refine Keeps.ite ?_ ?_
    | dsimp only
    | split

theorem execFrameReferenceTimeout_keeps (s : State) : Keeps.Out 0x10000004000000 s (execFrameReferenceTimeout s) := by
  unfold execFrameReferenceTimeout
  repeat' first
    | with_reducible refine Keeps.out_next ?_
    | with_reducible refine Keeps.out_ite ?_ ?_
    | with_reducible assumption
    | with_reducible exact Keeps.refl _ _
    | with_reducible exact Bool.false_and _
    | intro _
    | with_reducible refine Keeps.foldl _ _ ?_ (fun _ _ => ?_)
    | with_reducible refine State.badFrame_keeps  (by decide) ?_
    | with_reducible refine Keeps.ite ?_ ?_
    | dsimp only
    | split

theorem State.spanBoundary_keeps {W : Nat} {s₀ s : State} (r : RailId) (hW : maskLe 0x8062D116810006436008 W = true) (hk : Keeps W s₀ s) :
    Keeps W s₀ (State.spanBoundary s r) := by
  unfold State.spanBoundary
  repeat' first
    | with_reducible assumption
    | with_reducible exact site_2400 hW (by decide)
    | with_reducible exact Keeps.refl _ _
    | with_reducible exact Bool.false_and _
    | intro _
    | with_reducible refine Keeps.foldl _ _ ?_ (fun _ _ => ?_)
    | with_reducible refine State.setRing_keeps _ (maskLe_trans (by decide) hW) ?_
    | with_reducible refine State.putObj_keeps _ _ _ ?_ ?_
    | with_reducible refine State.raise_keeps _ _ (maskLe_trans (by decide) hW) ?_
    | with_reducible refine Keeps.ite ?_ ?_
    | dsimp only
    | split

end Sys2Proof.Machine
end

