-- ==== Sys2Proof/Laws/KeepsHarik.lean ====
section
/-! SUPPORT. What the operations of Machine/Harik.lean keep. -/

namespace Sys2Proof.Machine

theorem State.latchBearings_keeps {W : Nat} {s₀ s : State} (r : RailId) (hW : maskLe 0x400000 W = true) (hk : Keeps W s₀ s) :
    Keeps W s₀ (State.latchBearings s r) := by
  unfold State.latchBearings
  repeat' first
    | with_reducible assumption
    | with_reducible exact Keeps.refl _ _
    | with_reducible exact Bool.false_and _
    | intro _
    | with_reducible refine Keeps.foldl _ _ ?_ (fun _ _ => ?_)
    | with_reducible refine State.modRail_keeps _ _ (maskLe_trans (by decide) hW) ?_
    | with_reducible refine Keeps.ite ?_ ?_
    | dsimp only
    | split

theorem State.commitTable_keeps {W : Nat} {s₀ s : State} (ix : Nat) (t : List Byte) (hW : maskLe 0x1000002 W = true) (hk : Keeps W s₀ s) :
    Keeps W s₀ (State.commitTable s ix t) := by
  unfold State.commitTable
  repeat' first
    | with_reducible assumption
    | with_reducible exact Keeps.refl _ _
    | with_reducible exact Bool.false_and _
    | intro _
    | with_reducible refine Keeps.foldl _ _ ?_ (fun _ _ => ?_)
    | with_reducible refine State.setEngine_keeps _ (maskLe_trans (by decide) hW) ?_
    | with_reducible refine State.putDomain_keeps _ _ _ (maskLe_trans (by decide) hW) ?_
    | with_reducible refine Keeps.ite ?_ ?_
    | dsimp only
    | split

theorem State.swapTables_keeps {W : Nat} {s₀ s : State} (r : RailId) (hW : maskLe 0x1000002 W = true) (hk : Keeps W s₀ s) :
    Keeps W s₀ (State.swapTables s r) := by
  unfold State.swapTables
  repeat' first
    | with_reducible assumption
    | with_reducible exact Keeps.refl _ _
    | with_reducible exact Bool.false_and _
    | intro _
    | with_reducible refine Keeps.foldl _ _ ?_ (fun _ _ => ?_)
    | with_reducible refine State.setEngine_keeps _ (maskLe_trans (by decide) hW) ?_
    | with_reducible refine State.putDomain_keeps _ _ _ (maskLe_trans (by decide) hW) ?_
    | with_reducible refine Keeps.ite ?_ ?_
    | dsimp only
    | split

theorem State.resetSlot_keeps {W : Nat} {s₀ s : State} (k : SlotId) (hW : maskLe 0x40002400002800000800018 W = true) (hk : Keeps W s₀ s) :
    Keeps W s₀ (State.resetSlot s k) := by
  unfold State.resetSlot
  repeat' first
    | with_reducible assumption
    | with_reducible exact site_slot _ _ hW (by decide)
    | with_reducible exact site_slotIx _ hW (by decide)
    | with_reducible exact Keeps.refl _ _
    | with_reducible exact Bool.false_and _
    | intro _
    | with_reducible refine Keeps.foldl _ _ ?_ (fun _ _ => ?_)
    | with_reducible refine State.putObj_keeps _ _ _ ?_ ?_
    | with_reducible refine State.putBit_keeps _ _ _ _ ?_  ?_
    | with_reducible refine State.modSlot_keeps _ _ (maskLe_trans (by decide) hW) ?_
    | with_reducible refine State.endEvent_keeps _ _ (maskLe_trans (by decide) hW) ?_
    | with_reducible refine Keeps.ite ?_ ?_
    | dsimp only
    | split

theorem State.resetEngine_keeps {W : Nat} {s₀ s : State} (hW : maskLe 0x40002400002800001800018 W = true) (hk : Keeps W s₀ s) :
    Keeps W s₀ (State.resetEngine s) := by
  unfold State.resetEngine
  repeat' first
    | with_reducible assumption
    | with_reducible exact Keeps.refl _ _
    | with_reducible exact Bool.false_and _
    | intro _
    | with_reducible refine Keeps.foldl _ _ ?_ (fun _ _ => ?_)
    | with_reducible refine State.setEngine_keeps _ (maskLe_trans (by decide) hW) ?_
    | with_reducible refine State.resetSlot_keeps _ (maskLe_trans (by decide) hW) ?_
    | with_reducible refine Keeps.ite ?_ ?_
    | dsimp only
    | split

theorem State.startEngine_keeps {W : Nat} {s₀ s : State} (hW : maskLe 0x40002600002800001800018 W = true) (hk : Keeps W s₀ s) :
    Keeps W s₀ (State.startEngine s) := by
  unfold State.startEngine
  repeat' first
    | with_reducible assumption
    | with_reducible exact site_3800 hW (by decide)
    | with_reducible exact Keeps.refl _ _
    | with_reducible exact Bool.false_and _
    | intro _
    | with_reducible refine Keeps.foldl _ _ ?_ (fun _ _ => ?_)
    | with_reducible refine State.putObj_keeps _ _ _ ?_ ?_
    | with_reducible refine State.resetEngine_keeps  (maskLe_trans (by decide) hW) ?_
    | with_reducible refine Keeps.ite ?_ ?_
    | dsimp only
    | split

theorem State.haltEngine_keeps {W : Nat} {s₀ s : State} (hW : maskLe 0x200000000000000000 W = true) (hk : Keeps W s₀ s) :
    Keeps W s₀ (State.haltEngine s) := by
  unfold State.haltEngine
  repeat' first
    | with_reducible assumption
    | with_reducible exact site_3800 hW (by decide)
    | with_reducible exact Keeps.refl _ _
    | with_reducible exact Bool.false_and _
    | intro _
    | with_reducible refine Keeps.foldl _ _ ?_ (fun _ _ => ?_)
    | with_reducible refine State.putObj_keeps _ _ _ ?_ ?_
    | with_reducible refine Keeps.ite ?_ ?_
    | dsimp only
    | split

theorem State.reinitEngine_keeps {W : Nat} {s₀ s : State} (hW : maskLe 0x40002600002800001800018 W = true) (hk : Keeps W s₀ s) :
    Keeps W s₀ (State.reinitEngine s) := by
  unfold State.reinitEngine
  repeat' first
    | with_reducible assumption
    | with_reducible exact site_3800 hW (by decide)
    | with_reducible exact Keeps.refl _ _
    | with_reducible exact Bool.false_and _
    | intro _
    | with_reducible refine Keeps.foldl _ _ ?_ (fun _ _ => ?_)
    | with_reducible refine State.putObj_keeps _ _ _ ?_ ?_
    | with_reducible refine State.resetEngine_keeps  (maskLe_trans (by decide) hW) ?_
    | with_reducible refine Keeps.ite ?_ ?_
    | dsimp only
    | split

theorem State.detect_keeps {W : Nat} {s₀ s : State} (k : SlotId) (e : Rat) (hW : maskLe 0x2000000000000800000 W = true) (hk : Keeps W s₀ s) :
    Keeps W s₀ (State.detect s k e) := by
  unfold State.detect
  repeat' first
    | with_reducible assumption
    | with_reducible exact site_slot _ _ hW (by decide)
    | with_reducible exact site_slotIx _ hW (by decide)
    | with_reducible exact Keeps.refl _ _
    | with_reducible exact Bool.false_and _
    | intro _
    | with_reducible refine Keeps.foldl _ _ ?_ (fun _ _ => ?_)
    | with_reducible refine State.putObj_keeps _ _ _ ?_ ?_
    | with_reducible refine State.modSlot_keeps _ _ (maskLe_trans (by decide) hW) ?_
    | with_reducible refine Keeps.ite ?_ ?_
    | dsimp only
    | split

theorem State.chatter_keeps {W : Nat} {s₀ s : State} (r : RailId) (changed : Bool) (hW : maskLe 0x200000000000400000 W = true) (hk : Keeps W s₀ s) :
    Keeps W s₀ (State.chatter s r changed) := by
  unfold State.chatter
  repeat' first
    | with_reducible assumption
    | with_reducible exact site_3800 hW (by decide)
    | with_reducible exact Keeps.refl _ _
    | with_reducible exact Bool.false_and _
    | intro _
    | with_reducible refine Keeps.foldl _ _ ?_ (fun _ _ => ?_)
    | with_reducible refine State.bump_keeps _ _ ?_  ?_
    | with_reducible refine State.modRail_keeps _ _ (maskLe_trans (by decide) hW) ?_
    | with_reducible refine Keeps.ite ?_ ?_
    | dsimp only
    | split

theorem State.detectChatter_keeps {W : Nat} {s₀ s : State} (r : RailId) (hW : maskLe 0x8062D116810006436008 W = true) (hk : Keeps W s₀ s) :
    Keeps W s₀ (State.detectChatter s r) := by
  unfold State.detectChatter
  repeat' first
    | with_reducible assumption
    | with_reducible exact Keeps.refl _ _
    | with_reducible exact Bool.false_and _
    | intro _
    | with_reducible refine Keeps.foldl _ _ ?_ (fun _ _ => ?_)
    | with_reducible refine State.modRail_keeps _ _ (maskLe_trans (by decide) hW) ?_
    | with_reducible refine State.raise_keeps _ _ (maskLe_trans (by decide) hW) ?_
    | with_reducible refine Keeps.ite ?_ ?_
    | dsimp only
    | split

theorem execChatterDetection_keeps (r : RailId) (s : State) : Keeps.Out 0x8062D116810006436008 s (execChatterDetection r s) := by
  unfold execChatterDetection
  repeat' first
    | with_reducible refine Keeps.out_next ?_
    | with_reducible refine Keeps.out_ite ?_ ?_
    | with_reducible assumption
    | with_reducible exact Keeps.refl _ _
    | with_reducible exact Bool.false_and _
    | intro _
    | with_reducible refine Keeps.foldl _ _ ?_ (fun _ _ => ?_)
    | with_reducible refine State.detectChatter_keeps _ (by decide) ?_
    | with_reducible refine Keeps.ite ?_ ?_
    | dsimp only
    | split

theorem State.detection_keeps {W : Nat} {s₀ s : State} (k : SlotId) (hW : maskLe 0x8262D116810006C36008 W = true) (hk : Keeps W s₀ s) :
    Keeps W s₀ (State.detection s k) := by
  unfold State.detection
  repeat' first
    | with_reducible assumption
    | with_reducible exact site_slot _ _ hW (by decide)
    | with_reducible exact site_slotIx _ hW (by decide)
    | with_reducible exact Keeps.refl _ _
    | with_reducible exact Bool.false_and _
    | intro _
    | with_reducible refine Keeps.foldl _ _ ?_ (fun _ _ => ?_)
    | with_reducible refine State.putObj_keeps _ _ _ ?_ ?_
    | with_reducible refine State.bump_keeps _ _ ?_  ?_
    | with_reducible refine State.modSlot_keeps _ _ (maskLe_trans (by decide) hW) ?_
    | with_reducible refine State.raise_keeps _ _ (maskLe_trans (by decide) hW) ?_
    | with_reducible refine Keeps.ite ?_ ?_
    | dsimp only
    | split

theorem execOscillationDetection_keeps (k : SlotId) (s : State) : Keeps.Out 0x8262D116810006C36008 s (execOscillationDetection k s) := by
  unfold execOscillationDetection
  repeat' first
    | with_reducible refine Keeps.out_next ?_
    | with_reducible refine Keeps.out_ite ?_ ?_
    | with_reducible assumption
    | with_reducible exact Keeps.refl _ _
    | with_reducible exact Bool.false_and _
    | intro _
    | with_reducible refine Keeps.foldl _ _ ?_ (fun _ _ => ?_)
    | with_reducible refine State.detection_keeps _ (by decide) ?_
    | with_reducible refine Keeps.ite ?_ ?_
    | dsimp only
    | split

theorem State.applyDue_keeps {W : Nat} {s₀ s : State} (k : SlotId) (hW : maskLe 0x40002400002800000800018 W = true) (hk : Keeps W s₀ s) :
    Keeps W s₀ (State.applyDue s k) := by
  unfold State.applyDue
  repeat' first
    | with_reducible assumption
    | with_reducible exact site_slot _ _ hW (by decide)
    | with_reducible exact site_slotIx _ hW (by decide)
    | with_reducible exact Keeps.refl _ _
    | with_reducible exact Bool.false_and _
    | intro _
    | with_reducible refine Keeps.foldl _ _ ?_ (fun _ _ => ?_)
    | with_reducible refine State.putObj_keeps _ _ _ ?_ ?_
    | with_reducible refine State.putBit_keeps _ _ _ _ ?_  ?_
    | with_reducible refine State.modSlot_keeps _ _ (maskLe_trans (by decide) hW) ?_
    | with_reducible refine State.endEvent_keeps _ _ (maskLe_trans (by decide) hW) ?_
    | with_reducible refine Keeps.ite ?_ ?_
    | dsimp only
    | split

theorem State.putSlotOut_keeps {W : Nat} {s₀ s : State} (k : SlotId) (u : Rat) (held invalid range : Bool) (hW : maskLe 0x400000000000000000 W = true) (hk : Keeps W s₀ s) :
    Keeps W s₀ (State.putSlotOut s k u held invalid range) := by
  unfold State.putSlotOut
  repeat' first
    | with_reducible assumption
    | with_reducible exact site_slot _ _ hW (by decide)
    | with_reducible exact site_slotIx _ hW (by decide)
    | with_reducible exact Keeps.refl _ _
    | with_reducible exact Bool.false_and _
    | intro _
    | with_reducible refine Keeps.foldl _ _ ?_ (fun _ _ => ?_)
    | with_reducible refine State.putObj_keeps _ _ _ ?_ ?_
    | with_reducible refine Keeps.ite ?_ ?_
    | dsimp only
    | split

theorem State.slotSample_keeps {W : Nat} {s₀ s : State} (r : RailId) (k : SlotId) (hW : maskLe 0x8262D116810006C36008 W = true) (hk : Keeps W s₀ s) :
    Keeps W s₀ (State.slotSample s r k) := by
  unfold State.slotSample
  repeat' first
    | with_reducible assumption
    | with_reducible exact site_slot _ _ hW (by decide)
    | with_reducible exact site_slotIx _ hW (by decide)
    | with_reducible exact Keeps.refl _ _
    | with_reducible exact Bool.false_and _
    | intro _
    | with_reducible refine Keeps.foldl _ _ ?_ (fun _ _ => ?_)
    | with_reducible refine State.putObj_keeps _ _ _ ?_ ?_
    | with_reducible refine State.modSlot_keeps _ _ (maskLe_trans (by decide) hW) ?_
    | with_reducible refine State.raise_keeps _ _ (maskLe_trans (by decide) hW) ?_
    | with_reducible refine State.detect_keeps _ _ (maskLe_trans (by decide) hW) ?_
    | with_reducible refine State.putSlotOut_keeps _ _ _ _ _ (maskLe_trans (by decide) hW) ?_
    | with_reducible refine Keeps.ite ?_ ?_
    | dsimp only
    | split

theorem State.select_keeps {W : Nat} {s₀ s : State} (r : RailId) (hW : maskLe 0x608000000000400000 W = true) (hk : Keeps W s₀ s) :
    Keeps W s₀ (State.select s r).1 := by
  unfold State.select
  repeat' first
    | with_reducible assumption
    | with_reducible exact site_railbit_20 hW (by decide)
    | with_reducible exact site_slot _ _ hW (by decide)
    | with_reducible exact site_slotIx _ hW (by decide)
    | with_reducible exact Keeps.refl _ _
    | with_reducible exact Bool.false_and _
    | intro _
    | with_reducible refine Keeps.foldl _ _ ?_ (fun _ _ => ?_)
    | with_reducible refine Keeps.foldl_fst _ _ ?_ (fun _ _ => ?_)
    | with_reducible refine State.putBit_keeps _ _ _ _ ?_  ?_
    | with_reducible refine State.putRailObj_keeps _ _ _ _ ?_  ?_
    | with_reducible refine State.chatter_keeps _ _ (maskLe_trans (by decide) hW) ?_
    | with_reducible refine Keeps.ite ?_ ?_
    | dsimp only
    | split

theorem State.computeSlots_keeps {W : Nat} {s₀ s : State} (r : RailId) (f : SlotId → Bool) (hW : maskLe 0x8262D116810006C36008 W = true) (hk : Keeps W s₀ s) :
    Keeps W s₀ (State.computeSlots s r f) := by
  unfold State.computeSlots
  repeat' first
    | with_reducible assumption
    | with_reducible exact Keeps.refl _ _
    | with_reducible exact Bool.false_and _
    | intro _
    | with_reducible refine Keeps.foldl _ _ ?_ (fun _ _ => ?_)
    | with_reducible refine State.slotSample_keeps _ _ (maskLe_trans (by decide) hW) ?_
    | with_reducible refine Keeps.ite ?_ ?_
    | dsimp only
    | split

theorem State.selectSlots_keeps {W : Nat} {s₀ s : State} (r : RailId) (hW : maskLe 0x608000000000400000 W = true) (hk : Keeps W s₀ s) :
    Keeps W s₀ (State.selectSlots s r).1 := by
  unfold State.selectSlots
  repeat' first
    | with_reducible assumption
    | with_reducible exact site_3800 hW (by decide)
    | with_reducible exact Keeps.refl _ _
    | with_reducible exact Bool.false_and _
    | intro _
    | with_reducible refine Keeps.foldl _ _ ?_ (fun _ _ => ?_)
    | with_reducible refine State.putObj_keeps _ _ _ ?_ ?_
    | with_reducible refine State.select_keeps _ (maskLe_trans (by decide) hW) ?_
    | with_reducible refine Keeps.ite ?_ ?_
    | dsimp only
    | split

theorem State.watchdog_keeps {W : Nat} {s₀ s : State} (r : RailId) (parity : Bool) (hW : maskLe 0x8062D116810006436008 W = true) (hk : Keeps W s₀ s) :
    Keeps W s₀ (State.watchdog s r parity) := by
  unfold State.watchdog
  repeat' first
    | with_reducible assumption
    | with_reducible exact site_3800 hW (by decide)
    | with_reducible exact Keeps.refl _ _
    | with_reducible exact Bool.false_and _
    | intro _
    | with_reducible refine Keeps.foldl _ _ ?_ (fun _ _ => ?_)
    | with_reducible refine State.putObj_keeps _ _ _ ?_ ?_
    | with_reducible refine State.enterOutline_keeps _ (maskLe_trans (by decide) hW) ?_
    | with_reducible refine State.raise_keeps _ _ (maskLe_trans (by decide) hW) ?_
    | with_reducible refine Keeps.ite ?_ ?_
    | dsimp only
    | split

theorem execSampleWatchdogExpiry_keeps (r : RailId) (parity : Bool) (s : State) : Keeps.Out 0x8062D116810006436008 s (execSampleWatchdogExpiry r parity s) := by
  unfold execSampleWatchdogExpiry
  repeat' first
    | with_reducible refine Keeps.out_next ?_
    | with_reducible refine Keeps.out_ite ?_ ?_
    | with_reducible assumption
    | with_reducible exact Keeps.refl _ _
    | with_reducible exact Bool.false_and _
    | intro _
    | with_reducible refine Keeps.foldl _ _ ?_ (fun _ _ => ?_)
    | with_reducible refine State.watchdog_keeps _ _ (by decide) ?_
    | with_reducible refine Keeps.ite ?_ ?_
    | dsimp only
    | split

end Sys2Proof.Machine
end

