-- ==== Sys2Proof/Laws/KeepsDrive.lean ====
section
/-! SUPPORT. What the operations of Machine/Drive.lean keep. -/

namespace Sys2Proof.Machine

theorem State.putSpeed_keeps {W : Nat} {s₀ s : State} (mag : Int) (hW : maskLe 0x40000000000000000 W = true) (hk : Keeps W s₀ s) :
    Keeps W s₀ (State.putSpeed s mag) := by
  unfold State.putSpeed
  repeat' first
    | with_reducible assumption
    | with_reducible exact site_3448 hW (by decide)
    | with_reducible exact Keeps.refl _ _
    | with_reducible exact Bool.false_and _
    | intro _
    | with_reducible refine Keeps.foldl _ _ ?_ (fun _ _ => ?_)
    | with_reducible refine State.putObj_keeps _ _ _ ?_ ?_
    | with_reducible refine Keeps.ite ?_ ?_
    | dsimp only
    | split

theorem State.voidIntervals_keeps {W : Nat} {s₀ s : State} (hW : maskLe 0x2000000 W = true) (hk : Keeps W s₀ s) :
    Keeps W s₀ (State.voidIntervals s) := by
  unfold State.voidIntervals
  repeat' first
    | with_reducible assumption
    | with_reducible exact Keeps.refl _ _
    | with_reducible exact Bool.false_and _
    | intro _
    | with_reducible refine Keeps.foldl _ _ ?_ (fun _ _ => ?_)
    | with_reducible refine State.setDrive_keeps _ (maskLe_trans (by decide) hW) ?_
    | with_reducible refine Keeps.ite ?_ ?_
    | dsimp only
    | split

theorem State.legalTransition_keeps {W : Nat} {s₀ s : State} (n : Nat) (forward : Bool) (us : Nat) (hW : maskLe 0x40000200002010000 W = true) (hk : Keeps W s₀ s) :
    Keeps W s₀ (State.legalTransition s n forward us) := by
  unfold State.legalTransition
  repeat' first
    | with_reducible assumption
    | with_reducible exact Keeps.refl _ _
    | with_reducible exact Bool.false_and _
    | intro _
    | with_reducible refine Keeps.foldl _ _ ?_ (fun _ _ => ?_)
    | with_reducible refine State.setDrive_keeps _ (maskLe_trans (by decide) hW) ?_
    | with_reducible refine State.elecTransition_keeps _ _ _ (maskLe_trans (by decide) hW) ?_
    | with_reducible refine State.putSpeed_keeps _ (maskLe_trans (by decide) hW) ?_
    | with_reducible refine Keeps.ite ?_ ?_
    | dsimp only
    | split

theorem State.hallTransition_keeps {W : Nat} {s₀ s : State} (code us : Nat) (hW : maskLe 0x8066D516A10006436008 W = true) (hk : Keeps W s₀ s) :
    Keeps W s₀ (State.hallTransition s code us) := by
  unfold State.hallTransition
  repeat' first
    | with_reducible assumption
    | with_reducible exact site_2620 hW (by decide)
    | with_reducible exact Keeps.refl _ _
    | with_reducible exact Bool.false_and _
    | intro _
    | with_reducible refine Keeps.foldl _ _ ?_ (fun _ _ => ?_)
    | with_reducible refine State.setDrive_keeps _ (maskLe_trans (by decide) hW) ?_
    | with_reducible refine State.putObj_keeps _ _ _ ?_ ?_
    | with_reducible refine State.bump_keeps _ _ ?_  ?_
    | with_reducible refine State.driveOutline_keeps  (maskLe_trans (by decide) hW) ?_
    | with_reducible refine State.raise_keeps _ _ (maskLe_trans (by decide) hW) ?_
    | with_reducible refine State.elecInvalid_keeps  (maskLe_trans (by decide) hW) ?_
    | with_reducible refine State.voidIntervals_keeps  (maskLe_trans (by decide) hW) ?_
    | with_reducible refine State.legalTransition_keeps _ _ _ (maskLe_trans (by decide) hW) ?_
    | with_reducible refine Keeps.ite ?_ ?_
    | dsimp only
    | split

theorem State.writeHallMap_keeps {W : Nat} {s₀ s : State} (v : Int) (hW : maskLe 0x400200002010000 W = true) (hk : Keeps W s₀ s) :
    Keeps W s₀ (State.writeHallMap s v) := by
  unfold State.writeHallMap
  repeat' first
    | with_reducible assumption
    | with_reducible exact site_2620 hW (by decide)
    | with_reducible exact Keeps.refl _ _
    | with_reducible exact Bool.false_and _
    | intro _
    | with_reducible refine Keeps.foldl _ _ ?_ (fun _ _ => ?_)
    | with_reducible refine State.setDrive_keeps _ (maskLe_trans (by decide) hW) ?_
    | with_reducible refine State.putObj_keeps _ _ _ ?_ ?_
    | with_reducible refine State.elecInvalid_keeps  (maskLe_trans (by decide) hW) ?_
    | with_reducible refine State.voidIntervals_keeps  (maskLe_trans (by decide) hW) ?_
    | with_reducible refine Keeps.ite ?_ ?_
    | dsimp only
    | split

theorem execHallTransition_keeps (code : BitVec 3) (us : Nat) (s : State) : Keeps.Out 0x8066D516A10006436008 s (execHallTransition code us s) := by
  unfold execHallTransition
  repeat' first
    | with_reducible refine Keeps.out_next ?_
    | with_reducible refine Keeps.out_ite ?_ ?_
    | with_reducible assumption
    | with_reducible exact Keeps.refl _ _
    | with_reducible exact Bool.false_and _
    | intro _
    | with_reducible refine Keeps.foldl _ _ ?_ (fun _ _ => ?_)
    | with_reducible refine State.hallTransition_keeps _ _ (by decide) ?_
    | with_reducible refine Keeps.ite ?_ ?_
    | dsimp only
    | split

theorem State.decaySpeed_keeps {W : Nat} {s₀ s : State} (us : Nat) (hW : maskLe 0x40000000000000000 W = true) (hk : Keeps W s₀ s) :
    Keeps W s₀ (State.decaySpeed s us) := by
  unfold State.decaySpeed
  repeat' first
    | with_reducible assumption
    | with_reducible exact Keeps.refl _ _
    | with_reducible exact Bool.false_and _
    | intro _
    | with_reducible refine Keeps.foldl _ _ ?_ (fun _ _ => ?_)
    | with_reducible refine State.putSpeed_keeps _ (maskLe_trans (by decide) hW) ?_
    | with_reducible refine Keeps.ite ?_ ?_
    | dsimp only
    | split

theorem execZeroSpeedTimeout_keeps (us : Nat) (s : State) : Keeps.Out 0x40000000000000000 s (execZeroSpeedTimeout us s) := by
  unfold execZeroSpeedTimeout
  repeat' first
    | with_reducible refine Keeps.out_next ?_
    | with_reducible refine Keeps.out_ite ?_ ?_
    | with_reducible assumption
    | with_reducible exact Keeps.refl _ _
    | with_reducible exact Bool.false_and _
    | intro _
    | with_reducible refine Keeps.foldl _ _ ?_ (fun _ _ => ?_)
    | with_reducible refine State.decaySpeed_keeps _ (by decide) ?_
    | with_reducible refine Keeps.ite ?_ ?_
    | dsimp only
    | split

theorem State.holdMask_keeps {W : Nat} {s₀ s : State} (hold : Nat) (hW : maskLe 0x200000000000002000000 W = true) (hk : Keeps W s₀ s) :
    Keeps W s₀ (State.holdMask s hold) := by
  unfold State.holdMask
  repeat' first
    | with_reducible assumption
    | with_reducible exact site_4110 hW (by decide)
    | with_reducible exact Keeps.refl _ _
    | with_reducible exact Bool.false_and _
    | intro _
    | with_reducible refine Keeps.foldl _ _ ?_ (fun _ _ => ?_)
    | with_reducible refine State.setDrive_keeps _ (maskLe_trans (by decide) hW) ?_
    | with_reducible refine State.putObj_keeps _ _ _ ?_ ?_
    | with_reducible refine Keeps.ite ?_ ?_
    | dsimp only
    | split

theorem State.distributeDrive_keeps {W : Nat} {s₀ s : State} (demand : Int) (hW : maskLe 0x200000000000002420000 W = true) (hk : Keeps W s₀ s) :
    Keeps W s₀ (State.distributeDrive s demand) := by
  unfold State.distributeDrive
  repeat' first
    | with_reducible assumption
    | with_reducible exact Keeps.refl _ _
    | with_reducible exact Bool.false_and _
    | intro _
    | with_reducible refine Keeps.foldl _ _ ?_ (fun _ _ => ?_)
    | with_reducible refine State.modPhase_keeps _ _ (maskLe_trans (by decide) hW) ?_ (fun _ h => ?_)
    | with_reducible refine State.modRail_keeps _ _ (maskLe_trans (by decide) hW) ?_
    | with_reducible refine State.setDuty_keeps _ _ (maskLe_trans (by decide) hW) ?_
    | with_reducible refine State.regulate_keeps _ _ _ (maskLe_trans (by decide) hW) ?_
    | with_reducible refine State.holdMask_keeps _ (maskLe_trans (by decide) hW) ?_
    | with_reducible refine Keeps.ite ?_ ?_
    | dsimp only
    | split

theorem State.writeDirection_keeps {W : Nat} {s₀ s : State} (v : Int) (hW : maskLe 0x8062D116810006436008 W = true) (hk : Keeps W s₀ s) :
    Keeps W s₀ (State.writeDirection s v) := by
  unfold State.writeDirection
  repeat' first
    | with_reducible assumption
    | with_reducible exact site_railbit_10 hW (by decide)
    | with_reducible exact site_3400 hW (by decide)
    | with_reducible exact Keeps.refl _ _
    | with_reducible exact Bool.false_and _
    | intro _
    | with_reducible refine Keeps.foldl _ _ ?_ (fun _ _ => ?_)
    | with_reducible refine State.setDrive_keeps _ (maskLe_trans (by decide) hW) ?_
    | with_reducible refine State.putObj_keeps _ _ _ ?_ ?_
    | with_reducible refine State.putRailObj_keeps _ _ _ _ ?_  ?_
    | with_reducible refine State.applyTarget_keeps _ _ (maskLe_trans (by decide) hW) ?_
    | with_reducible refine Keeps.ite ?_ ?_
    | dsimp only
    | split

theorem State.reversalSwitch_keeps {W : Nat} {s₀ s : State} (hW : maskLe 0x28066D116810006436008 W = true) (hk : Keeps W s₀ s) :
    Keeps W s₀ (State.reversalSwitch s) := by
  unfold State.reversalSwitch
  repeat' first
    | with_reducible assumption
    | with_reducible exact site_3440 hW (by decide)
    | with_reducible exact Keeps.refl _ _
    | with_reducible exact Bool.false_and _
    | intro _
    | with_reducible refine Keeps.foldl _ _ ?_ (fun _ _ => ?_)
    | with_reducible refine State.setDrive_keeps _ (maskLe_trans (by decide) hW) ?_
    | with_reducible refine State.bump_keeps _ _ ?_  ?_
    | with_reducible refine State.modRail_keeps _ _ (maskLe_trans (by decide) hW) ?_
    | with_reducible refine State.applyTarget_keeps _ _ (maskLe_trans (by decide) hW) ?_
    | with_reducible refine State.setVr_keeps _ _ (maskLe_trans (by decide) hW) ?_
    | with_reducible refine State.applyDirection_keeps _ (maskLe_trans (by decide) hW) ?_
    | with_reducible refine Keeps.ite ?_ ?_
    | dsimp only
    | split

theorem execReversalSwitch_keeps (s : State) : Keeps.Out 0x28066D116810006436008 s (execReversalSwitch s) := by
  unfold execReversalSwitch
  repeat' first
    | with_reducible refine Keeps.out_next ?_
    | with_reducible refine Keeps.out_ite ?_ ?_
    | with_reducible assumption
    | with_reducible exact Keeps.refl _ _
    | with_reducible exact Bool.false_and _
    | intro _
    | with_reducible refine Keeps.foldl _ _ ?_ (fun _ _ => ?_)
    | with_reducible refine State.reversalSwitch_keeps  (by decide) ?_
    | with_reducible refine Keeps.ite ?_ ?_
    | dsimp only
    | split

theorem State.stall_keeps {W : Nat} {s₀ s : State} (ms : Nat) (hW : maskLe 0x8062D116810006436008 W = true) (hk : Keeps W s₀ s) :
    Keeps W s₀ (State.stall s ms) := by
  unfold State.stall
  repeat' first
    | with_reducible assumption
    | with_reducible exact Keeps.refl _ _
    | with_reducible exact Bool.false_and _
    | intro _
    | with_reducible refine Keeps.foldl _ _ ?_ (fun _ _ => ?_)
    | with_reducible refine State.countCondition_keeps _ _ _ (maskLe_trans (by decide) hW) ?_
    | with_reducible refine Keeps.ite ?_ ?_
    | dsimp only
    | split

theorem execStallTimeout_keeps (ms : BitVec 32) (s : State) : Keeps.Out 0x8062D116810006436008 s (execStallTimeout ms s) := by
  unfold execStallTimeout
  repeat' first
    | with_reducible refine Keeps.out_next ?_
    | with_reducible refine Keeps.out_ite ?_ ?_
    | with_reducible assumption
    | with_reducible exact Keeps.refl _ _
    | with_reducible exact Bool.false_and _
    | intro _
    | with_reducible refine Keeps.foldl _ _ ?_ (fun _ _ => ?_)
    | with_reducible refine State.stall_keeps _ (by decide) ?_
    | with_reducible refine Keeps.ite ?_ ?_
    | dsimp only
    | split

theorem State.outlineNoTransition_keeps {W : Nat} {s₀ s : State} (hW : maskLe 0x80020000000000024000 W = true) (hk : Keeps W s₀ s) :
    Keeps W s₀ (State.outlineNoTransition s) := by
  unfold State.outlineNoTransition
  repeat' first
    | with_reducible assumption
    | with_reducible exact site_3440 hW (by decide)
    | with_reducible exact Keeps.refl _ _
    | with_reducible exact Bool.false_and _
    | intro _
    | with_reducible refine Keeps.foldl _ _ ?_ (fun _ _ => ?_)
    | with_reducible refine State.setOutline_keeps _ (maskLe_trans (by decide) hW) ?_
    | with_reducible refine State.bump_keeps _ _ ?_  ?_
    | with_reducible refine State.driveOutline_keeps  (maskLe_trans (by decide) hW) ?_
    | with_reducible refine Keeps.ite ?_ ?_
    | dsimp only
    | split

theorem execOutlineNoTransitionTimeout_keeps (s : State) : Keeps.Out 0x80020000000000024000 s (execOutlineNoTransitionTimeout s) := by
  unfold execOutlineNoTransitionTimeout
  repeat' first
    | with_reducible refine Keeps.out_next ?_
    | with_reducible refine Keeps.out_ite ?_ ?_
    | with_reducible assumption
    | with_reducible exact Keeps.refl _ _
    | with_reducible exact Bool.false_and _
    | intro _
    | with_reducible refine Keeps.foldl _ _ ?_ (fun _ _ => ?_)
    | with_reducible refine State.outlineNoTransition_keeps  (by decide) ?_
    | with_reducible refine Keeps.ite ?_ ?_
    | dsimp only
    | split

theorem execOutlineRestartTimeout_keeps (s : State) : Keeps.Out 0x80000000000000024000 s (execOutlineRestartTimeout s) := by
  unfold execOutlineRestartTimeout
  repeat' first
    | with_reducible refine Keeps.out_next ?_
    | with_reducible refine Keeps.out_ite ?_ ?_
    | with_reducible assumption
    | with_reducible exact Keeps.refl _ _
    | with_reducible exact Bool.false_and _
    | intro _
    | with_reducible refine Keeps.foldl _ _ ?_ (fun _ _ => ?_)
    | with_reducible refine State.startTurning_keeps  (by decide) ?_
    | with_reducible refine Keeps.ite ?_ ?_
    | dsimp only
    | split

theorem State.busSupport_keeps {W : Nat} {s₀ s : State} (pinMv : Nat) (hW : maskLe 0x80000000000000024000 W = true) (hk : Keeps W s₀ s) :
    Keeps W s₀ (State.busSupport s pinMv) := by
  unfold State.busSupport
  repeat' first
    | with_reducible assumption
    | with_reducible exact Keeps.refl _ _
    | with_reducible exact Bool.false_and _
    | intro _
    | with_reducible refine Keeps.foldl _ _ ?_ (fun _ _ => ?_)
    | with_reducible refine State.setOutline_keeps _ (maskLe_trans (by decide) hW) ?_
    | with_reducible refine State.driveStore_keeps  (maskLe_trans (by decide) hW) ?_
    | with_reducible refine Keeps.ite ?_ ?_
    | dsimp only
    | split

theorem execOutlineBusSupportCrossing_keeps (pinMv : BitVec 12) (s : State) : Keeps.Out 0x80000000000000024000 s (execOutlineBusSupportCrossing pinMv s) := by
  unfold execOutlineBusSupportCrossing
  repeat' first
    | with_reducible refine Keeps.out_next ?_
    | with_reducible refine Keeps.out_ite ?_ ?_
    | with_reducible assumption
    | with_reducible exact Keeps.refl _ _
    | with_reducible exact Bool.false_and _
    | intro _
    | with_reducible refine Keeps.foldl _ _ ?_ (fun _ _ => ?_)
    | with_reducible refine State.busSupport_keeps _ (by decide) ?_
    | with_reducible refine Keeps.ite ?_ ?_
    | dsimp only
    | split

theorem State.resetDrive_keeps {W : Nat} {s₀ s : State} (hW : maskLe 0x20400000002000000 W = true) (hk : Keeps W s₀ s) :
    Keeps W s₀ (State.resetDrive s) := by
  unfold State.resetDrive
  repeat' first
    | with_reducible assumption
    | with_reducible exact site_3440 hW (by decide)
    | with_reducible exact site_2620 hW (by decide)
    | with_reducible exact Keeps.refl _ _
    | with_reducible exact Bool.false_and _
    | intro _
    | with_reducible refine Keeps.foldl _ _ ?_ (fun _ _ => ?_)
    | with_reducible refine State.setDrive_keeps _ (maskLe_trans (by decide) hW) ?_
    | with_reducible refine State.putObj_keeps _ _ _ ?_ ?_
    | with_reducible refine Keeps.ite ?_ ?_
    | dsimp only
    | split

end Sys2Proof.Machine
end

