-- ==== Sys2Proof/Laws/KeepsBoundary.lean ====
section
/-! SUPPORT. What the operations of Machine/Boundary.lean keep. -/

namespace Sys2Proof.Machine

theorem State.startOrRamp_keeps {W : Nat} {s₀ s : State} (r : RailId) (hW : maskLe 0x34000000000C20000 W = true) (hk : Keeps W s₀ s) :
    Keeps W s₀ (State.startOrRamp s r) := by
  unfold State.startOrRamp
  repeat' first
    | with_reducible assumption
    | with_reducible exact Keeps.refl _ _
    | with_reducible exact Bool.false_and _
    | intro _
    | with_reducible refine Keeps.foldl _ _ ?_ (fun _ _ => ?_)
    | with_reducible refine State.ramp_keeps _ (maskLe_trans (by decide) hW) ?_
    | with_reducible refine State.beginRun_keeps _ (maskLe_trans (by decide) hW) ?_
    | with_reducible refine Keeps.ite ?_ ?_
    | dsimp only
    | split

theorem State.superviseRail_keeps {W : Nat} {s₀ s : State} (r : RailId) (hW : maskLe 0x8073D116810016436008 W = true) (hk : Keeps W s₀ s) :
    Keeps W s₀ (State.superviseRail s r) := by
  unfold State.superviseRail
  repeat' first
    | with_reducible assumption
    | with_reducible exact Keeps.refl _ _
    | with_reducible exact Bool.false_and _
    | intro _
    | with_reducible refine Keeps.foldl _ _ ?_ (fun _ _ => ?_)
    | with_reducible refine State.shedBoundary_keeps _ (maskLe_trans (by decide) hW) ?_
    | with_reducible refine State.checkProtection_keeps _ _ (maskLe_trans (by decide) hW) ?_
    | with_reducible refine State.dcEnergy_keeps _ (maskLe_trans (by decide) hW) ?_
    | with_reducible refine Keeps.ite ?_ ?_
    | dsimp only
    | split

theorem State.settleDemand_keeps {W : Nat} {s₀ s : State} (r : RailId) (hW : maskLe 0x200628000000002420000 W = true) (hk : Keeps W s₀ s) :
    Keeps W s₀ (State.settleDemand s r) := by
  unfold State.settleDemand
  repeat' first
    | with_reducible assumption
    | with_reducible exact Keeps.refl _ _
    | with_reducible exact Bool.false_and _
    | intro _
    | with_reducible refine Keeps.foldl _ _ ?_ (fun _ _ => ?_)
    | with_reducible refine State.distribute_keeps _ _ (maskLe_trans (by decide) hW) ?_
    | with_reducible refine State.selectSlots_keeps _ (maskLe_trans (by decide) hW) ?_
    | with_reducible refine State.distributeDrive_keeps _ (maskLe_trans (by decide) hW) ?_
    | with_reducible refine Keeps.ite ?_ ?_
    | dsimp only
    | split

theorem State.controlRail_keeps {W : Nat} {s₀ s : State} (r : RailId) (hW : maskLe 0x28262D116810006C36008 W = true) (hk : Keeps W s₀ s) :
    Keeps W s₀ (State.controlRail s r) := by
  unfold State.controlRail
  repeat' first
    | with_reducible assumption
    | with_reducible exact Keeps.refl _ _
    | with_reducible exact Bool.false_and _
    | intro _
    | with_reducible refine Keeps.foldl _ _ ?_ (fun _ _ => ?_)
    | with_reducible refine State.modRail_keeps _ _ (maskLe_trans (by decide) hW) ?_
    | with_reducible refine State.latchBearings_keeps _ (maskLe_trans (by decide) hW) ?_
    | with_reducible refine State.computeSlots_keeps _ _ (maskLe_trans (by decide) hW) ?_
    | with_reducible refine State.settleDemand_keeps _ (maskLe_trans (by decide) hW) ?_
    | with_reducible refine Keeps.ite ?_ ?_
    | dsimp only
    | split

theorem State.errorReady_keeps {W : Nat} {s₀ s : State} (r : RailId) (hW : maskLe 0x28262D116810006C36008 W = true) (hk : Keeps W s₀ s) :
    Keeps W s₀ (State.errorReady s r) := by
  unfold State.errorReady
  repeat' first
    | with_reducible assumption
    | with_reducible exact Keeps.refl _ _
    | with_reducible exact Bool.false_and _
    | intro _
    | with_reducible refine Keeps.foldl _ _ ?_ (fun _ _ => ?_)
    | with_reducible refine State.modRail_keeps _ _ (maskLe_trans (by decide) hW) ?_
    | with_reducible refine State.computeSlots_keeps _ _ (maskLe_trans (by decide) hW) ?_
    | with_reducible refine State.settleDemand_keeps _ (maskLe_trans (by decide) hW) ?_
    | with_reducible refine Keeps.ite ?_ ?_
    | dsimp only
    | split

theorem execWindowErrorReady_keeps (r : VRailId) (codes : List (BitVec 9)) (s : State) : Keeps.Out 0x2826AD116810006CB6008 s (execWindowErrorReady r codes s) := by
  unfold execWindowErrorReady
  repeat' first
    | with_reducible refine Keeps.out_next ?_
    | with_reducible refine Keeps.out_ite ?_ ?_
    | with_reducible assumption
    | with_reducible exact Keeps.refl _ _
    | with_reducible exact Bool.false_and _
    | intro _
    | with_reducible refine Keeps.foldl _ _ ?_ (fun _ _ => ?_)
    | with_reducible refine State.windowError_keeps _ _ (by decide) ?_
    | with_reducible refine State.errorReady_keeps _ (by decide) ?_
    | with_reducible refine Keeps.ite ?_ ?_
    | dsimp only
    | split

theorem State.writeReference_keeps {W : Nat} {s₀ s : State} (r : RailId) (hW : maskLe 0x80000000000080000 W = true) (hk : Keeps W s₀ s) :
    Keeps W s₀ (State.writeReference s r) := by
  unfold State.writeReference
  repeat' first
    | with_reducible assumption
    | with_reducible exact Keeps.refl _ _
    | with_reducible exact Bool.false_and _
    | intro _
    | with_reducible refine Keeps.foldl _ _ ?_ (fun _ _ => ?_)
    | with_reducible refine State.setReference_keeps _ (maskLe_trans (by decide) hW) ?_
    | with_reducible refine Keeps.ite ?_ ?_
    | dsimp only
    | split

theorem State.stopPhases_keeps {W : Nat} {s₀ s : State} (r : RailId) (hW : maskLe 0x428000010000420000 W = true) (hk : Keeps W s₀ s) :
    Keeps W s₀ (State.stopPhases s r) := by
  unfold State.stopPhases
  repeat' first
    | with_reducible assumption
    | with_reducible exact Keeps.refl _ _
    | with_reducible exact Bool.false_and _
    | intro _
    | with_reducible refine Keeps.foldl _ _ ?_ (fun _ _ => ?_)
    | with_reducible refine State.modPhase_keeps _ _ (maskLe_trans (by decide) hW) ?_ (fun _ h => ?_)
    | with_reducible refine State.settleStop_keeps _ (maskLe_trans (by decide) hW) ?_
    | with_reducible refine Keeps.ite ?_ ?_
    | dsimp only
    | split

theorem State.softStep_keeps {W : Nat} {s₀ s : State} (r : RailId) (hW : maskLe 0x428000010000420000 W = true) (hk : Keeps W s₀ s) :
    Keeps W s₀ (State.softStep s r) := by
  unfold State.softStep
  repeat' first
    | with_reducible assumption
    | with_reducible exact Keeps.refl _ _
    | with_reducible exact Bool.false_and _
    | intro _
    | with_reducible refine Keeps.foldl _ _ ?_ (fun _ _ => ?_)
    | with_reducible refine State.modRail_keeps _ _ (maskLe_trans (by decide) hW) ?_
    | with_reducible refine State.stopPhases_keeps _ (maskLe_trans (by decide) hW) ?_
    | with_reducible refine Keeps.ite ?_ ?_
    | dsimp only
    | split

theorem State.takeMap_keeps {W : Nat} {s₀ s : State} (hW : maskLe 0x8062D11681000643E008 W = true) (hk : Keeps W s₀ s) :
    Keeps W s₀ (State.takeMap s) := by
  unfold State.takeMap
  repeat' first
    | with_reducible assumption
    | with_reducible exact Keeps.refl _ _
    | with_reducible exact Bool.false_and _
    | intro _
    | with_reducible refine Keeps.foldl _ _ ?_ (fun _ _ => ?_)
    | with_reducible refine State.setFlash_keeps _ (maskLe_trans (by decide) hW) ?_
    | with_reducible refine State.raise_keeps _ _ (maskLe_trans (by decide) hW) ?_
    | with_reducible refine Keeps.ite ?_ ?_
    | dsimp only
    | split

theorem State.boundary_keeps {W : Nat} {s₀ s : State} (r : RailId) (hW : maskLe 0x402827FD116810017CBE01E W = true) (hk : Keeps W s₀ s) :
    Keeps W s₀ (State.boundary s r) := by
  unfold State.boundary
  repeat' first
    | with_reducible assumption
    | with_reducible exact Keeps.refl _ _
    | with_reducible exact Bool.false_and _
    | intro _
    | with_reducible refine Keeps.foldl _ _ ?_ (fun _ _ => ?_)
    | with_reducible refine State.envelopeBoundary_keeps _ (maskLe_trans (by decide) hW) ?_
    | with_reducible refine State.measureRail_keeps _ _ (maskLe_trans (by decide) hW) ?_
    | with_reducible refine State.spanBoundary_keeps _ (maskLe_trans (by decide) hW) ?_
    | with_reducible refine State.swapTables_keeps _ (maskLe_trans (by decide) hW) ?_
    | with_reducible refine State.applyDue_keeps _ (maskLe_trans (by decide) hW) ?_
    | with_reducible refine State.startOrRamp_keeps _ (maskLe_trans (by decide) hW) ?_
    | with_reducible refine State.superviseRail_keeps _ (maskLe_trans (by decide) hW) ?_
    | with_reducible refine State.controlRail_keeps _ (maskLe_trans (by decide) hW) ?_
    | with_reducible refine State.writeReference_keeps _ (maskLe_trans (by decide) hW) ?_
    | with_reducible refine State.softStep_keeps _ (maskLe_trans (by decide) hW) ?_
    | with_reducible refine State.takeMap_keeps  (maskLe_trans (by decide) hW) ?_
    | with_reducible refine Keeps.ite ?_ ?_
    | dsimp only
    | split

theorem execEngineSampleBoundary_keeps (r : RailId) (s : State) : Keeps.Out 0x402827FD116810017CBE01E s (execEngineSampleBoundary r s) := by
  unfold execEngineSampleBoundary
  repeat' first
    | with_reducible refine Keeps.out_next ?_
    | with_reducible refine Keeps.out_ite ?_ ?_
    | with_reducible assumption
    | with_reducible exact Keeps.refl _ _
    | with_reducible exact Bool.false_and _
    | intro _
    | with_reducible refine Keeps.foldl _ _ ?_ (fun _ _ => ?_)
    | with_reducible refine State.boundary_keeps _ (by decide) ?_
    | with_reducible refine Keeps.ite ?_ ?_
    | dsimp only
    | split

end Sys2Proof.Machine
end

