-- ==== Sys2Proof/Laws/KeepsAvs.lean ====
section
/-! SUPPORT. What the operations of Machine/Avs.lean keep. -/

namespace Sys2Proof.Machine

theorem State.avsReply_keeps {W : Nat} {s₀ s : State} (ack : Nat) (data : Option Nat) (hW : maskLe 0x40 W = true) (hk : Keeps W s₀ s) :
    Keeps W s₀ (State.avsReply s ack data) := by
  unfold State.avsReply
  repeat' first
    | with_reducible assumption
    | with_reducible exact Keeps.refl _ _
    | with_reducible exact Bool.false_and _
    | intro _
    | with_reducible refine Keeps.foldl _ _ ?_ (fun _ _ => ?_)
    | with_reducible refine State.setAvs_keeps _ (maskLe_trans (by decide) hW) ?_
    | with_reducible refine Keeps.ite ?_ ?_
    | dsimp only
    | split

theorem State.avsFrame_keeps {W : Nat} {s₀ s : State} (crcOk : Bool) (f : State → State) (hW : maskLe 0x20000000000040 W = true) (hk : Keeps W s₀ s) (hf : ∀  x s, Keeps W x s → Keeps W x (f  s)) :
    Keeps W s₀ (State.avsFrame s crcOk f) := by
  unfold State.avsFrame
  repeat' first
    | with_reducible assumption
    | with_reducible exact site_2500 hW (by decide)
    | refine hf _ _ ?_
    | with_reducible exact Keeps.refl _ _
    | with_reducible exact Bool.false_and _
    | intro _
    | with_reducible refine Keeps.foldl _ _ ?_ (fun _ _ => ?_)
    | with_reducible refine State.bump_keeps _ _ ?_  ?_
    | with_reducible refine State.avsReply_keeps _ _ (maskLe_trans (by decide) hW) ?_
    | with_reducible refine Keeps.ite ?_ ?_
    | dsimp only
    | split

theorem State.avsCommand_keeps {W : Nat} (code : Option (BitVec 16)) (f : Nat → State → State) {s₀ s : State} (hW : maskLe 0x40 W = true) (hk : Keeps W s₀ s) (hf : ∀ a x s, Keeps W x s → Keeps W x (f a s)) :
    Keeps W s₀ (State.avsCommand code f s) := by
  unfold State.avsCommand
  repeat' first
    | with_reducible assumption
    | refine hf _ _ _ ?_
    | with_reducible exact Keeps.refl _ _
    | with_reducible exact Bool.false_and _
    | intro _
    | with_reducible refine Keeps.foldl _ _ ?_ (fun _ _ => ?_)
    | with_reducible refine State.avsReply_keeps _ _ (maskLe_trans (by decide) hW) ?_
    | with_reducible refine Keeps.ite ?_ ?_
    | dsimp only
    | split

theorem State.avsIdle_keeps {W : Nat} {s₀ s : State} (hW : maskLe 0x20000000000040 W = true) (hk : Keeps W s₀ s) :
    Keeps W s₀ (State.avsIdle s) := by
  unfold State.avsIdle
  repeat' first
    | with_reducible assumption
    | with_reducible exact site_2500 hW (by decide)
    | with_reducible exact Keeps.refl _ _
    | with_reducible exact Bool.false_and _
    | intro _
    | with_reducible refine Keeps.foldl _ _ ?_ (fun _ _ => ?_)
    | with_reducible refine State.bump_keeps _ _ ?_  ?_
    | with_reducible refine State.avsReply_keeps _ _ (maskLe_trans (by decide) hW) ?_
    | with_reducible refine Keeps.ite ?_ ?_
    | dsimp only
    | split

theorem State.avsWrite_keeps {W : Nat} {s₀ s : State} (sel : Nat) (f : VRailId → State → State) (hW : maskLe 0x20000000000040 W = true) (hk : Keeps W s₀ s) (hf : ∀ y0 x s, Keeps W x s → Keeps W x (f y0 s)) :
    Keeps W s₀ (State.avsWrite s sel f) := by
  unfold State.avsWrite
  repeat' first
    | with_reducible assumption
    | refine hf _ _ _ ?_
    | with_reducible exact Keeps.refl _ _
    | with_reducible exact Bool.false_and _
    | intro _
    | with_reducible refine Keeps.foldl _ _ ?_ (fun _ _ => ?_)
    | with_reducible refine State.avsReply_keeps _ _ (maskLe_trans (by decide) hW) ?_
    | with_reducible refine State.avsIdle_keeps  (maskLe_trans (by decide) hW) ?_
    | with_reducible refine Keeps.ite ?_ ?_
    | dsimp only
    | split

theorem State.avsRead_keeps {W : Nat} {s₀ s : State} (sel : Nat) (f : VRailId → Nat) (hW : maskLe 0x40 W = true) (hk : Keeps W s₀ s) :
    Keeps W s₀ (State.avsRead s sel f) := by
  unfold State.avsRead
  repeat' first
    | with_reducible assumption
    | with_reducible exact Keeps.refl _ _
    | with_reducible exact Bool.false_and _
    | intro _
    | with_reducible refine Keeps.foldl _ _ ?_ (fun _ _ => ?_)
    | with_reducible refine State.avsReply_keeps _ _ (maskLe_trans (by decide) hW) ?_
    | with_reducible refine Keeps.ite ?_ ?_
    | dsimp only
    | split

theorem State.avsVoltage_keeps {W : Nat} {s₀ s : State} (sel code : Nat) (hW : maskLe 0x8062D136810006436048 W = true) (hk : Keeps W s₀ s) :
    Keeps W s₀ (State.avsVoltage s sel code) := by
  unfold State.avsVoltage
  repeat' first
    | with_reducible assumption
    | with_reducible exact Keeps.refl _ _
    | with_reducible exact Bool.false_and _
    | intro _
    | with_reducible refine Keeps.foldl _ _ ?_ (fun _ _ => ?_)
    | with_reducible refine State.acceptTarget_keeps _ _ (maskLe_trans (by decide) hW) ?_
    | with_reducible refine State.avsReply_keeps _ _ (maskLe_trans (by decide) hW) ?_
    | with_reducible refine State.avsWrite_keeps _ _ (maskLe_trans (by decide) hW) ?_ ?_
    | with_reducible refine Keeps.ite ?_ ?_
    | dsimp only
    | split

theorem execAvsVoltageWrite_keeps (sel : BitVec 4) (crcOk : Bool) (code : Option (BitVec 16)) (s : State) : Keeps.Out 0x8062D136810006436048 s (execAvsVoltageWrite sel crcOk code s) := by
  unfold execAvsVoltageWrite
  repeat' first
    | with_reducible refine Keeps.out_next ?_
    | with_reducible refine Keeps.out_ite ?_ ?_
    | with_reducible assumption
    | with_reducible exact Keeps.refl _ _
    | with_reducible exact Bool.false_and _
    | intro _
    | with_reducible refine Keeps.foldl _ _ ?_ (fun _ _ => ?_)
    | with_reducible refine State.avsFrame_keeps _ _ (by decide) ?_ ?_
    | with_reducible refine State.avsCommand_keeps _ _ (by decide) ?_ ?_
    | with_reducible refine State.avsVoltage_keeps _ _ (by decide) ?_
    | with_reducible refine Keeps.ite ?_ ?_
    | dsimp only
    | split

theorem execAvsVoltageRead_keeps (sel : BitVec 4) (crcOk : Bool) (s : State) : Keeps.Out 0x20000000000040 s (execAvsVoltageRead sel crcOk s) := by
  unfold execAvsVoltageRead
  repeat' first
    | with_reducible refine Keeps.out_next ?_
    | with_reducible refine Keeps.out_ite ?_ ?_
    | with_reducible assumption
    | with_reducible exact Keeps.refl _ _
    | with_reducible exact Bool.false_and _
    | intro _
    | with_reducible refine Keeps.foldl _ _ ?_ (fun _ _ => ?_)
    | with_reducible refine State.avsFrame_keeps _ _ (by decide) ?_ ?_
    | with_reducible refine State.avsRead_keeps _ _ (by decide) ?_
    | with_reducible refine Keeps.ite ?_ ?_
    | dsimp only
    | split

theorem State.putAvsRate_keeps {W : Nat} {s₀ s : State} (r : VRailId) (sub : Nat) (v : Int) (hW : maskLe 0x4000000000000004 W = true) (hk : Keeps W s₀ s) :
    Keeps W s₀ (State.putAvsRate s r sub v) := by
  unfold State.putAvsRate
  repeat' first
    | with_reducible assumption
    | with_reducible exact site_rail_10 _ hW (by decide)
    | with_reducible exact Keeps.refl _ _
    | with_reducible exact Bool.false_and _
    | intro _
    | with_reducible refine Keeps.foldl _ _ ?_ (fun _ _ => ?_)
    | with_reducible exact filter_ascend _ _ h
    | with_reducible exact cellDrop_ascend _ _ h
    | with_reducible exact filter_wf _ _ h
    | with_reducible refine State.setStale_keeps _ (maskLe_trans (by decide) hW) ?_ (fun h => ?_)
    | with_reducible refine State.putObj_keeps _ _ _ ?_ ?_
    | with_reducible refine State.putFast_keeps _ _ _ ?_ (maskLe_trans (by decide) hW) ?_
    | with_reducible refine Keeps.ite ?_ ?_
    | dsimp only
    | split

theorem State.avsRates_keeps {W : Nat} {s₀ s : State} (r : VRailId) (scale : Int) (code : Nat) (hW : maskLe 0x4000000000000004 W = true) (hk : Keeps W s₀ s) :
    Keeps W s₀ (State.avsRates s r scale code) := by
  unfold State.avsRates
  repeat' first
    | with_reducible assumption
    | with_reducible exact Keeps.refl _ _
    | with_reducible exact Bool.false_and _
    | intro _
    | with_reducible refine Keeps.foldl _ _ ?_ (fun _ _ => ?_)
    | with_reducible refine State.putAvsRate_keeps _ _ _ (maskLe_trans (by decide) hW) ?_
    | with_reducible refine Keeps.ite ?_ ?_
    | dsimp only
    | split

theorem execAvsVoutTransRateWrite_keeps (sel : BitVec 4) (crcOk : Bool) (code : Option (BitVec 16)) (s : State) : Keeps.Out 0x4020000000000044 s (execAvsVoutTransRateWrite sel crcOk code s) := by
  unfold execAvsVoutTransRateWrite
  repeat' first
    | with_reducible refine Keeps.out_next ?_
    | with_reducible refine Keeps.out_ite ?_ ?_
    | with_reducible assumption
    | with_reducible exact Keeps.refl _ _
    | with_reducible exact Bool.false_and _
    | intro _
    | with_reducible refine Keeps.foldl _ _ ?_ (fun _ _ => ?_)
    | with_reducible refine State.avsFrame_keeps _ _ (by decide) ?_ ?_
    | with_reducible refine State.avsCommand_keeps _ _ (by decide) ?_ ?_
    | with_reducible refine State.avsWrite_keeps _ _ (by decide) ?_ ?_
    | with_reducible refine State.avsRates_keeps _ _ _ (by decide) ?_
    | with_reducible refine Keeps.ite ?_ ?_
    | dsimp only
    | split

theorem execAvsVoutTransRateRead_keeps (sel : BitVec 4) (crcOk : Bool) (s : State) : Keeps.Out 0x20000000000040 s (execAvsVoutTransRateRead sel crcOk s) := by
  unfold execAvsVoutTransRateRead
  repeat' first
    | with_reducible refine Keeps.out_next ?_
    | with_reducible refine Keeps.out_ite ?_ ?_
    | with_reducible assumption
    | with_reducible exact Keeps.refl _ _
    | with_reducible exact Bool.false_and _
    | intro _
    | with_reducible refine Keeps.foldl _ _ ?_ (fun _ _ => ?_)
    | with_reducible refine State.avsFrame_keeps _ _ (by decide) ?_ ?_
    | with_reducible refine State.avsRead_keeps _ _ (by decide) ?_
    | with_reducible refine Keeps.ite ?_ ?_
    | dsimp only
    | split

theorem execAvsCurrentRead_keeps (sel : BitVec 4) (crcOk : Bool) (s : State) : Keeps.Out 0x20000000000040 s (execAvsCurrentRead sel crcOk s) := by
  unfold execAvsCurrentRead
  repeat' first
    | with_reducible refine Keeps.out_next ?_
    | with_reducible refine Keeps.out_ite ?_ ?_
    | with_reducible assumption
    | with_reducible exact Keeps.refl _ _
    | with_reducible exact Bool.false_and _
    | intro _
    | with_reducible refine Keeps.foldl _ _ ?_ (fun _ _ => ?_)
    | with_reducible refine State.avsFrame_keeps _ _ (by decide) ?_ ?_
    | with_reducible refine State.avsRead_keeps _ _ (by decide) ?_
    | with_reducible refine Keeps.ite ?_ ?_
    | dsimp only
    | split

theorem execAvsTemperatureRead_keeps (sel : BitVec 4) (crcOk : Bool) (s : State) : Keeps.Out 0x20000020000040 s (execAvsTemperatureRead sel crcOk s) := by
  unfold execAvsTemperatureRead
  repeat' first
    | with_reducible refine Keeps.out_next ?_
    | with_reducible refine Keeps.out_ite ?_ ?_
    | with_reducible assumption
    | with_reducible exact Keeps.refl _ _
    | with_reducible exact Bool.false_and _
    | intro _
    | with_reducible refine Keeps.foldl _ _ ?_ (fun _ _ => ?_)
    | with_reducible refine State.tick_keeps  (by decide) ?_
    | with_reducible refine State.avsFrame_keeps _ _ (by decide) ?_ ?_
    | with_reducible refine State.avsRead_keeps _ _ (by decide) ?_
    | with_reducible refine Keeps.ite ?_ ?_
    | dsimp only
    | split

theorem execAvsResetVoltage_keeps (sel : BitVec 4) (crcOk : Bool) (s : State) : Keeps.Out 0x8062D136810006436048 s (execAvsResetVoltage sel crcOk s) := by
  unfold execAvsResetVoltage
  repeat' first
    | with_reducible refine Keeps.out_next ?_
    | with_reducible refine Keeps.out_ite ?_ ?_
    | with_reducible assumption
    | with_reducible exact Keeps.refl _ _
    | with_reducible exact Bool.false_and _
    | intro _
    | with_reducible refine Keeps.foldl _ _ ?_ (fun _ _ => ?_)
    | with_reducible refine State.acceptTarget_keeps _ _ (by decide) ?_
    | with_reducible refine State.avsFrame_keeps _ _ (by decide) ?_ ?_
    | with_reducible refine State.avsWrite_keeps _ _ (by decide) ?_ ?_
    | with_reducible refine Keeps.ite ?_ ?_
    | dsimp only
    | split

theorem execAvsPowerModeWrite_keeps (sel : BitVec 4) (crcOk : Bool) (_code : BitVec 16) (s : State) : Keeps.Out 0x20000000000040 s (execAvsPowerModeWrite sel crcOk _code s) := by
  unfold execAvsPowerModeWrite
  repeat' first
    | with_reducible refine Keeps.out_next ?_
    | with_reducible refine Keeps.out_ite ?_ ?_
    | with_reducible assumption
    | with_reducible exact Keeps.refl _ _
    | with_reducible exact Bool.false_and _
    | intro _
    | with_reducible refine Keeps.foldl _ _ ?_ (fun _ _ => ?_)
    | with_reducible refine State.avsReply_keeps _ _ (by decide) ?_
    | with_reducible refine State.avsFrame_keeps _ _ (by decide) ?_ ?_
    | with_reducible refine Keeps.ite ?_ ?_
    | dsimp only
    | split

theorem execAvsPowerModeRead_keeps (sel : BitVec 4) (crcOk : Bool) (s : State) : Keeps.Out 0x20000000000040 s (execAvsPowerModeRead sel crcOk s) := by
  unfold execAvsPowerModeRead
  repeat' first
    | with_reducible refine Keeps.out_next ?_
    | with_reducible refine Keeps.out_ite ?_ ?_
    | with_reducible assumption
    | with_reducible exact Keeps.refl _ _
    | with_reducible exact Bool.false_and _
    | intro _
    | with_reducible refine Keeps.foldl _ _ ?_ (fun _ _ => ?_)
    | with_reducible refine State.avsFrame_keeps _ _ (by decide) ?_ ?_
    | with_reducible refine State.avsRead_keeps _ _ (by decide) ?_
    | with_reducible refine Keeps.ite ?_ ?_
    | dsimp only
    | split

theorem execAvsStatusRead_keeps (sel : BitVec 4) (crcOk : Bool) (s : State) : Keeps.Out 0x20000000000040 s (execAvsStatusRead sel crcOk s) := by
  unfold execAvsStatusRead
  repeat' first
    | with_reducible refine Keeps.out_next ?_
    | with_reducible refine Keeps.out_ite ?_ ?_
    | with_reducible assumption
    | with_reducible exact Keeps.refl _ _
    | with_reducible exact Bool.false_and _
    | intro _
    | with_reducible refine Keeps.foldl _ _ ?_ (fun _ _ => ?_)
    | with_reducible refine State.avsFrame_keeps _ _ (by decide) ?_ ?_
    | with_reducible refine State.avsRead_keeps _ _ (by decide) ?_
    | with_reducible refine Keeps.ite ?_ ?_
    | dsimp only
    | split

end Sys2Proof.Machine
end

