-- ==== Sys2Proof/Laws/KeepsReset.lean ====
section
/-! SUPPORT. What the operations of Machine/Reset.lean keep. -/

namespace Sys2Proof.Machine

theorem State.wiped_keeps {W : Nat} {s₀ s : State} (hW : maskLe 0x1FFFEFFF W = true) (hk : Keeps W s₀ s) :
    Keeps W s₀ (State.wiped s) := by
  refine Keeps.step ⟨?_, ?_, fun p hp => ?_, fun _ k hs => ?_⟩ hW hk
  · unfold Safety.canonical State.wiped
    simp only [Bool.and_eq_true]
    exact fun h => ⟨⟨filter_wf _ _ h.1.1, filter_ascend _ _ h.1.2⟩, rfl⟩
  · intro _
    have e : s.wiped.phases = State.reset.phases := rfl
    have r : Safety.noShoot State.reset = true := by decide
    rw [Safety.noShoot_iff] at r ⊢
    rw [e]
    exact r
  · cases p <;> first | rfl | exact absurd hp (by decide)
  · rw [siteIn_all (by decide)] at hs
    exact absurd hs Bool.noConfusion

theorem State.causeReset_keeps {W : Nat} {s₀ s : State} (kind : Nat) (hW : maskLe 0x50000000002800014000298 W = true) (hk : Keeps W s₀ s) :
    Keeps W s₀ (State.causeReset s kind) := by
  unfold State.causeReset
  repeat' first
    | with_reducible assumption
    | with_reducible exact Keeps.refl _ _
    | with_reducible exact Bool.false_and _
    | intro _
    | with_reducible refine Keeps.foldl _ _ ?_ (fun _ _ => ?_)
    | with_reducible refine State.setCan_keeps _ (maskLe_trans (by decide) hW) ?_
    | with_reducible refine State.setLife_keeps _ (maskLe_trans (by decide) hW) ?_
    | with_reducible refine State.setRing_keeps _ (maskLe_trans (by decide) hW) ?_
    | with_reducible refine State.forceFlush_keeps  (maskLe_trans (by decide) hW) ?_
    | with_reducible refine State.endKinds_keeps  (maskLe_trans (by decide) hW) ?_
    | with_reducible refine Keeps.ite ?_ ?_
    | dsimp only
    | split

theorem State.resetEffect_keeps {W : Nat} {s₀ s : State} (hW : maskLe 0x1FFFEFFF W = true) (hk : Keeps W s₀ s) :
    Keeps W s₀ (State.resetEffect s) := by
  unfold State.resetEffect
  repeat' first
    | with_reducible assumption
    | with_reducible exact Keeps.refl _ _
    | with_reducible exact Bool.false_and _
    | intro _
    | with_reducible refine Keeps.foldl _ _ ?_ (fun _ _ => ?_)
    | with_reducible refine State.setLife_keeps _ (maskLe_trans (by decide) hW) ?_
    | with_reducible refine State.cutFlush_keeps  (maskLe_trans (by decide) hW) ?_
    | with_reducible refine State.wiped_keeps  (maskLe_trans (by decide) hW) ?_
    | with_reducible refine Keeps.ite ?_ ?_
    | dsimp only
    | split

theorem State.retainedGone_keeps {W : Nat} {s₀ s : State} (hW : maskLe 0xE00 W = true) (hk : Keeps W s₀ s) :
    Keeps W s₀ (State.retainedGone s) := by
  unfold State.retainedGone
  repeat' first
    | with_reducible assumption
    | with_reducible exact Keeps.refl _ _
    | with_reducible exact Bool.false_and _
    | intro _
    | with_reducible refine Keeps.foldl _ _ ?_ (fun _ _ => ?_)
    | with_reducible refine State.setLife_keeps _ (maskLe_trans (by decide) hW) ?_
    | with_reducible refine State.setSupply_keeps _ (maskLe_trans (by decide) hW) ?_
    | with_reducible refine State.setClocks_keeps _ (maskLe_trans (by decide) hW) ?_
    | with_reducible refine Keeps.ite ?_ ?_
    | dsimp only
    | split

theorem State.supplyLost_keeps {W : Nat} {s₀ s : State} (hW : maskLe 0x3FFFEFFF W = true) (hk : Keeps W s₀ s) :
    Keeps W s₀ (State.supplyLost s) := by
  unfold State.supplyLost
  repeat' first
    | with_reducible assumption
    | with_reducible exact Keeps.refl _ _
    | with_reducible exact Bool.false_and _
    | intro _
    | with_reducible refine Keeps.foldl _ _ ?_ (fun _ _ => ?_)
    | with_reducible refine State.setLife_keeps _ (maskLe_trans (by decide) hW) ?_
    | with_reducible refine State.setClocks_keeps _ (maskLe_trans (by decide) hW) ?_
    | with_reducible refine State.spoilWrite_keeps  (maskLe_trans (by decide) hW) ?_
    | with_reducible refine State.wiped_keeps  (maskLe_trans (by decide) hW) ?_
    | with_reducible refine State.retainedGone_keeps  (maskLe_trans (by decide) hW) ?_
    | with_reducible refine Keeps.ite ?_ ?_
    | dsimp only
    | split

theorem State.supplyBack_keeps {W : Nat} {s₀ s : State} (hW : maskLe 0x200 W = true) (hk : Keeps W s₀ s) :
    Keeps W s₀ (State.supplyBack s) := by
  unfold State.supplyBack
  repeat' first
    | with_reducible assumption
    | with_reducible exact Keeps.refl _ _
    | with_reducible exact Bool.false_and _
    | intro _
    | with_reducible refine Keeps.foldl _ _ ?_ (fun _ _ => ?_)
    | with_reducible refine State.setLife_keeps _ (maskLe_trans (by decide) hW) ?_
    | with_reducible refine Keeps.ite ?_ ?_
    | dsimp only
    | split

theorem State.dropRetained_keeps {W : Nat} {s₀ s : State} (hW : maskLe 0x14000100000180010001210 W = true) (hk : Keeps W s₀ s) :
    Keeps W s₀ (State.dropRetained s) := by
  have hr : ∀ k, retainedKey k = true → siteIn W (k / 256) = true := by
    intro k h
    have hg : Safety.group (k / 256) = 0x5040 ∨ Safety.group (k / 256) = 0x3060 ∨ Safety.group (k / 256) = 0x2138 ∨
        Safety.group (k / 256) = 0x2130 ∨ Safety.group (k / 256) = 0x5068 := by
      unfold retainedKey at h
      simp only [Bool.or_eq_true, Bool.and_eq_true, beq_iff_eq, Nat.ble_eq, Nat.blt_eq] at h
      unfold Safety.group
      rcases h with (((h | h) | h) | h) | h <;> (repeat' split) <;> omega
    rcases hg with h | h | h | h | h <;> exact siteIn_group h (bitIn_mono hW (by decide))
  have ho : Keeps W s₀ (s.setOd (s.od.filter fun (c : Nat × Int) => !retainedKey c.1)) := by
    refine State.setOd_keeps _ hk (filter_wf _ _) (fun c k hs => odGet_filter _ _ _ (fun v => ?_) c)
    cases e : retainedKey k with
    | false => simp only [Bool.not_false]
    | true => rw [hr k e] at hs; exact absurd hs Bool.noConfusion
  exact State.setLife_keeps _ (maskLe_trans (by decide) hW) (State.setEnergy_keeps _ (maskLe_trans (by decide) hW) (State.setRecorder_keeps _ (maskLe_trans (by decide) hW)
    (State.setRtc_keeps _ (maskLe_trans (by decide) hW) ho)))

theorem State.recordReset_keeps {W : Nat} {s₀ s : State} (kind : Nat) (hW : maskLe 0x100000000000 W = true) (hk : Keeps W s₀ s) :
    Keeps W s₀ (State.recordReset s kind) := by
  unfold State.recordReset
  repeat' first
    | with_reducible assumption
    | with_reducible exact site_2138 hW (by decide)
    | with_reducible exact Keeps.refl _ _
    | with_reducible exact Bool.false_and _
    | intro _
    | with_reducible refine Keeps.foldl _ _ ?_ (fun _ _ => ?_)
    | with_reducible refine State.putObj_keeps _ _ _ ?_ ?_
    | with_reducible refine State.bump_keeps _ _ ?_  ?_
    | with_reducible refine Keeps.ite ?_ ?_
    | dsimp only
    | split

theorem State.overlay_keeps {W : Nat} {s₀ s : State} (c : ParamCopy) (hW : maskLe 0x3 W = true) (hk : Keeps W s₀ s) :
    Keeps W s₀ (State.overlay s c) := by
  unfold State.overlay
  repeat' first
    | with_reducible assumption
    | with_reducible exact siteIn_mono hW (siteIn_all (by decide))
    | with_reducible exact Keeps.refl _ _
    | with_reducible exact Bool.false_and _
    | intro _
    | with_reducible refine Keeps.foldl _ _ ?_ (fun _ _ => ?_)
    | with_reducible refine State.putObj_keeps _ _ _ ?_ ?_
    | with_reducible refine State.putDomain_keeps _ _ _ (maskLe_trans (by decide) hW) ?_
    | with_reducible refine Keeps.ite ?_ ?_
    | dsimp only
    | split

theorem State.loadMap_keeps {W : Nat} {s₀ s : State} (map : List Nat) (hW : maskLe 0x1000000000 W = true) (hk : Keeps W s₀ s) :
    Keeps W s₀ (State.loadMap s map) := by
  unfold State.loadMap
  repeat' first
    | with_reducible assumption
    | with_reducible exact site_2028 hW (by decide)
    | with_reducible exact Keeps.refl _ _
    | with_reducible exact Bool.false_and _
    | intro _
    | with_reducible refine Keeps.foldl _ _ ?_ (fun _ _ => ?_)
    | with_reducible refine State.putObj_keeps _ _ _ ?_ ?_
    | with_reducible refine Keeps.ite ?_ ?_
    | dsimp only
    | split

theorem State.loadOutline_keeps {W : Nat} {s₀ s : State} (hW : maskLe 0x8000000000000 W = true) (hk : Keeps W s₀ s) :
    Keeps W s₀ (State.loadOutline s) := by
  unfold State.loadOutline
  split
  · exact hk
  · refine Keeps.foldl_mem _ _ hk (fun t c hmem => ?_)
    have e : c.1 / 256 = 0x2340 := by simpa using (List.mem_filter.1 hmem).2
    exact State.putObj_keeps _ _ _ (siteIn_group (g := 0x2340) (by rw [e]; rfl) (bitIn_mono hW (by decide)))
      (Keeps.refl _ _)

theorem State.loadStored_keeps {W : Nat} {s₀ s : State} (hW : maskLe 0x8001000000003 W = true) (hk : Keeps W s₀ s) :
    Keeps W s₀ (State.loadStored s) := by
  unfold State.loadStored
  repeat' first
    | with_reducible assumption
    | with_reducible exact Keeps.refl _ _
    | with_reducible exact Bool.false_and _
    | intro _
    | with_reducible refine Keeps.foldl _ _ ?_ (fun _ _ => ?_)
    | with_reducible refine State.overlay_keeps _ (maskLe_trans (by decide) hW) ?_
    | with_reducible refine State.loadMap_keeps _ (maskLe_trans (by decide) hW) ?_
    | with_reducible refine State.loadOutline_keeps  (maskLe_trans (by decide) hW) ?_
    | with_reducible refine Keeps.ite ?_ ?_
    | dsimp only
    | split

theorem State.bootEvent_keeps {W : Nat} {s₀ s : State} (e data : Nat) (hW : maskLe 0x200 W = true) (hk : Keeps W s₀ s) :
    Keeps W s₀ (State.bootEvent s e data) := by
  unfold State.bootEvent
  repeat' first
    | with_reducible assumption
    | with_reducible exact Keeps.refl _ _
    | with_reducible exact Bool.false_and _
    | intro _
    | with_reducible refine Keeps.foldl _ _ ?_ (fun _ _ => ?_)
    | with_reducible refine State.setLife_keeps _ (maskLe_trans (by decide) hW) ?_
    | with_reducible refine Keeps.ite ?_ ?_
    | dsimp only
    | split

theorem State.putBank_keeps {W : Nat} {s₀ s : State} (b v : Nat) (hW : maskLe 0x4000000000 W = true) (hk : Keeps W s₀ s) :
    Keeps W s₀ (State.putBank s b v) := by
  unfold State.putBank
  repeat' first
    | with_reducible assumption
    | with_reducible exact site_2040 hW (by decide)
    | with_reducible exact Keeps.refl _ _
    | with_reducible exact Bool.false_and _
    | intro _
    | with_reducible refine Keeps.foldl _ _ ?_ (fun _ _ => ?_)
    | with_reducible refine State.putObj_keeps _ _ _ ?_ ?_
    | with_reducible refine Keeps.ite ?_ ?_
    | dsimp only
    | split

theorem State.activate_keeps {W : Nat} {s₀ s : State} (b : Nat) (hW : maskLe 0x4000008200 W = true) (hk : Keeps W s₀ s) :
    Keeps W s₀ (State.activate s b) := by
  unfold State.activate
  repeat' first
    | with_reducible assumption
    | with_reducible exact site_2040 hW (by decide)
    | with_reducible exact Keeps.refl _ _
    | with_reducible exact Bool.false_and _
    | intro _
    | with_reducible refine Keeps.foldl _ _ ?_ (fun _ _ => ?_)
    | with_reducible refine State.setFlash_keeps _ (maskLe_trans (by decide) hW) ?_
    | with_reducible refine State.putObj_keeps _ _ _ ?_ ?_
    | with_reducible refine State.bootEvent_keeps _ _ (maskLe_trans (by decide) hW) ?_
    | with_reducible refine State.putBank_keeps _ _ (maskLe_trans (by decide) hW) ?_
    | with_reducible refine Keeps.ite ?_ ?_
    | dsimp only
    | split

theorem State.rollBack_keeps {W : Nat} {s₀ s : State} (hW : maskLe 0x4000000200 W = true) (hk : Keeps W s₀ s) :
    Keeps W s₀ (State.rollBack s) := by
  unfold State.rollBack
  repeat' first
    | with_reducible assumption
    | with_reducible exact site_2040 hW (by decide)
    | with_reducible exact Keeps.refl _ _
    | with_reducible exact Bool.false_and _
    | intro _
    | with_reducible refine Keeps.foldl _ _ ?_ (fun _ _ => ?_)
    | with_reducible refine State.putObj_keeps _ _ _ ?_ ?_
    | with_reducible refine State.bootEvent_keeps _ _ (maskLe_trans (by decide) hW) ?_
    | with_reducible refine State.putBank_keeps _ _ (maskLe_trans (by decide) hW) ?_
    | with_reducible refine Keeps.ite ?_ ?_
    | dsimp only
    | split

theorem State.bootFirmware_keeps {W : Nat} {s₀ s : State} (kind : Nat) (hW : maskLe 0x4000008200 W = true) (hk : Keeps W s₀ s) :
    Keeps W s₀ (State.bootFirmware s kind) := by
  unfold State.bootFirmware
  repeat' first
    | with_reducible assumption
    | with_reducible exact Keeps.refl _ _
    | with_reducible exact Bool.false_and _
    | intro _
    | with_reducible refine Keeps.foldl _ _ ?_ (fun _ _ => ?_)
    | with_reducible refine State.setFlash_keeps _ (maskLe_trans (by decide) hW) ?_
    | with_reducible refine State.putBank_keeps _ _ (maskLe_trans (by decide) hW) ?_
    | with_reducible refine State.activate_keeps _ (maskLe_trans (by decide) hW) ?_
    | with_reducible refine State.rollBack_keeps  (maskLe_trans (by decide) hW) ?_
    | with_reducible refine Keeps.ite ?_ ?_
    | dsimp only
    | split

theorem State.bootRail_keeps {W : Nat} {s₀ s : State} (r : RailId) (hW : maskLe 0x4000000000400004 W = true) (hk : Keeps W s₀ s) :
    Keeps W s₀ (State.bootRail s r) := by
  unfold State.bootRail
  repeat' first
    | with_reducible assumption
    | with_reducible exact site_railbit_10 hW (by decide)
    | with_reducible exact Keeps.refl _ _
    | with_reducible exact Bool.false_and _
    | intro _
    | with_reducible refine Keeps.foldl _ _ ?_ (fun _ _ => ?_)
    | with_reducible refine State.modRail_keeps _ _ (maskLe_trans (by decide) hW) ?_
    | with_reducible refine State.putRailObj_keeps _ _ _ _ ?_  ?_
    | with_reducible refine State.takeLimits_keeps _ (maskLe_trans (by decide) hW) ?_
    | with_reducible refine Keeps.ite ?_ ?_
    | dsimp only
    | split

theorem State.bootFast_keeps {W : Nat} {s₀ s : State} (hW : maskLe 0x118004010000000430004 W = true) (hk : Keeps W s₀ s) :
    Keeps W s₀ (State.bootFast s) := by
  unfold State.bootFast
  repeat' first
    | with_reducible assumption
    | with_reducible exact site_2400 hW (by decide)
    | with_reducible exact Keeps.refl _ _
    | with_reducible exact Bool.false_and _
    | intro _
    | with_reducible refine Keeps.foldl _ _ ?_ (fun _ _ => ?_)
    | with_reducible refine State.setMeridian_keeps _ (maskLe_trans (by decide) hW) ?_
    | with_reducible refine State.putObj_keeps _ _ _ ?_ ?_
    | with_reducible refine State.resetPhase_keeps _ (maskLe_trans (by decide) hW) ?_
    | with_reducible refine State.bootRail_keeps _ (maskLe_trans (by decide) hW) ?_
    | with_reducible refine Keeps.ite ?_ ?_
    | dsimp only
    | split

theorem State.takeMode_keeps {W : Nat} {s₀ s : State} (hW : maskLe 0x400000800 W = true) (hk : Keeps W s₀ s) :
    Keeps W s₀ (State.takeMode s) := by
  unfold State.takeMode
  repeat' first
    | with_reducible assumption
    | with_reducible exact site_2010 hW (by decide)
    | with_reducible exact Keeps.refl _ _
    | with_reducible exact Bool.false_and _
    | intro _
    | with_reducible refine Keeps.foldl _ _ ?_ (fun _ _ => ?_)
    | with_reducible refine State.setClocks_keeps _ (maskLe_trans (by decide) hW) ?_
    | with_reducible refine State.putObj_keeps _ _ _ ?_ ?_
    | with_reducible refine Keeps.ite ?_ ?_
    | dsimp only
    | split

theorem State.release_keeps {W : Nat} {s₀ s : State} (hW : maskLe 0x1411810401818541FFFFFFF W = true) (hk : Keeps W s₀ s) :
    Keeps W s₀ (State.release s) := by
  unfold State.release
  repeat' first
    | with_reducible assumption
    | with_reducible exact Keeps.refl _ _
    | with_reducible exact Bool.false_and _
    | intro _
    | with_reducible refine Keeps.foldl _ _ ?_ (fun _ _ => ?_)
    | with_reducible refine State.setLife_keeps _ (maskLe_trans (by decide) hW) ?_
    | with_reducible refine State.wiped_keeps  (maskLe_trans (by decide) hW) ?_
    | with_reducible refine State.dropRetained_keeps  (maskLe_trans (by decide) hW) ?_
    | with_reducible refine State.recordReset_keeps _ (maskLe_trans (by decide) hW) ?_
    | with_reducible refine State.loadStored_keeps  (maskLe_trans (by decide) hW) ?_
    | with_reducible refine State.bootFirmware_keeps _ (maskLe_trans (by decide) hW) ?_
    | with_reducible refine State.bootFast_keeps  (maskLe_trans (by decide) hW) ?_
    | with_reducible refine State.takeMode_keeps  (maskLe_trans (by decide) hW) ?_
    | with_reducible refine Keeps.ite ?_ ?_
    | dsimp only
    | split

end Sys2Proof.Machine
end

