-- ==== Sys2Proof/Laws/KeepsPorts.lean ====
section
/-! SUPPORT. What the operations of Machine/Ports.lean keep. -/

namespace Sys2Proof.Machine

theorem State.modClient_keeps {W : Nat} {s₀ s : State} (ch : Channel) (f : Client → Client) (hW : maskLe 0x20 W = true) (hk : Keeps W s₀ s) :
    Keeps W s₀ (State.modClient s ch f) := by
  unfold State.modClient
  repeat' first
    | with_reducible assumption
    | with_reducible exact Keeps.refl _ _
    | with_reducible exact Bool.false_and _
    | intro _
    | with_reducible refine Keeps.foldl _ _ ?_ (fun _ _ => ?_)
    | with_reducible refine State.setClients_keeps _ (maskLe_trans (by decide) hW) ?_
    | with_reducible refine Keeps.ite ?_ ?_
    | dsimp only
    | split

theorem State.record_keeps {W : Nat} {s₀ s : State} (ch : Channel) (ix sub : Nat) (abort : Option Nat) (hW : maskLe 0x20 W = true) (hk : Keeps W s₀ s) :
    Keeps W s₀ (State.record s ch ix sub abort) := by
  unfold State.record
  repeat' first
    | with_reducible assumption
    | with_reducible exact Keeps.refl _ _
    | with_reducible exact Bool.false_and _
    | intro _
    | with_reducible refine Keeps.foldl _ _ ?_ (fun _ _ => ?_)
    | with_reducible refine State.setClients_keeps _ (maskLe_trans (by decide) hW) ?_
    | with_reducible refine Keeps.ite ?_ ?_
    | dsimp only
    | split

theorem State.sendCan_keeps {W : Nat} {s₀ s : State} (f : TxFrame) (hW : maskLe 0x80 W = true) (hk : Keeps W s₀ s) :
    Keeps W s₀ (State.sendCan s f) := by
  unfold State.sendCan
  repeat' first
    | with_reducible assumption
    | with_reducible exact Keeps.refl _ _
    | with_reducible exact Bool.false_and _
    | intro _
    | with_reducible refine Keeps.foldl _ _ ?_ (fun _ _ => ?_)
    | with_reducible refine State.setCan_keeps _ (maskLe_trans (by decide) hW) ?_
    | with_reducible refine Keeps.ite ?_ ?_
    | dsimp only
    | split

theorem State.gspRespond_keeps {W : Nat} {s₀ s : State} (r : GspRequest) (type : Nat) (payload : List Byte) (hW : maskLe 0x100 W = true) (hk : Keeps W s₀ s) :
    Keeps W s₀ (State.gspRespond s r type payload) := by
  unfold State.gspRespond
  repeat' first
    | with_reducible assumption
    | with_reducible exact Keeps.refl _ _
    | with_reducible exact Bool.false_and _
    | intro _
    | with_reducible refine Keeps.foldl _ _ ?_ (fun _ _ => ?_)
    | with_reducible refine State.setGsp_keeps _ (maskLe_trans (by decide) hW) ?_
    | with_reducible refine Keeps.ite ?_ ?_
    | dsimp only
    | split

theorem State.gspWritten_keeps {W : Nat} {s₀ s : State} (r : GspRequest) (abort : Option Nat) (hW : maskLe 0x100 W = true) (hk : Keeps W s₀ s) :
    Keeps W s₀ (State.gspWritten s r abort) := by
  unfold State.gspWritten
  repeat' first
    | with_reducible assumption
    | with_reducible exact Keeps.refl _ _
    | with_reducible exact Bool.false_and _
    | intro _
    | with_reducible refine Keeps.foldl _ _ ?_ (fun _ _ => ?_)
    | with_reducible refine State.gspRespond_keeps _ _ _ (maskLe_trans (by decide) hW) ?_
    | with_reducible refine Keeps.ite ?_ ?_
    | dsimp only
    | split

theorem State.answer_keeps {W : Nat} {s₀ s : State} (ch : Channel) (ix sub : Nat) (abort : Option Nat) (hW : maskLe 0x1A0 W = true) (hk : Keeps W s₀ s) :
    Keeps W s₀ (State.answer s ch ix sub abort) := by
  unfold State.answer
  repeat' first
    | with_reducible assumption
    | with_reducible exact Keeps.refl _ _
    | with_reducible exact Bool.false_and _
    | intro _
    | with_reducible refine Keeps.foldl _ _ ?_ (fun _ _ => ?_)
    | with_reducible refine State.setCan_keeps _ (maskLe_trans (by decide) hW) ?_
    | with_reducible refine State.record_keeps _ _ _ _ (maskLe_trans (by decide) hW) ?_
    | with_reducible refine State.sendCan_keeps _ (maskLe_trans (by decide) hW) ?_
    | with_reducible refine State.gspWritten_keeps _ _ (maskLe_trans (by decide) hW) ?_
    | with_reducible refine Keeps.ite ?_ ?_
    | dsimp only
    | split

theorem State.abandonDownload_keeps {W : Nat} {s₀ s : State} (ch : Channel) (hW : maskLe 0x4000008000 W = true) (hk : Keeps W s₀ s) :
    Keeps W s₀ (State.abandonDownload s ch) := by
  unfold State.abandonDownload
  repeat' first
    | with_reducible assumption
    | with_reducible exact Keeps.refl _ _
    | with_reducible exact Bool.false_and _
    | intro _
    | with_reducible refine Keeps.foldl _ _ ?_ (fun _ _ => ?_)
    | with_reducible refine State.setFlash_keeps _ (maskLe_trans (by decide) hW) ?_
    | with_reducible refine State.putBank_keeps _ _ (maskLe_trans (by decide) hW) ?_
    | with_reducible refine Keeps.ite ?_ ?_
    | dsimp only
    | split

theorem State.abandonRead_keeps {W : Nat} {s₀ s : State} (ch : Channel) (hW : maskLe 0x10 W = true) (hk : Keeps W s₀ s) :
    Keeps W s₀ (State.abandonRead s ch) := by
  unfold State.abandonRead
  repeat' first
    | with_reducible assumption
    | with_reducible exact Keeps.refl _ _
    | with_reducible exact Bool.false_and _
    | intro _
    | with_reducible refine Keeps.foldl _ _ ?_ (fun _ _ => ?_)
    | with_reducible refine State.endDeferral_keeps _ (maskLe_trans (by decide) hW) ?_
    | with_reducible refine Keeps.ite ?_ ?_
    | dsimp only
    | split

theorem State.freshGsp_keeps {W : Nat} {s₀ s : State} (hW : maskLe 0x40004000008130 W = true) (hk : Keeps W s₀ s) :
    Keeps W s₀ (State.freshGsp s) := by
  unfold State.freshGsp
  repeat' first
    | with_reducible assumption
    | with_reducible exact site_2510 hW (by decide)
    | with_reducible exact Keeps.refl _ _
    | with_reducible exact Bool.false_and _
    | intro _
    | with_reducible refine Keeps.foldl _ _ ?_ (fun _ _ => ?_)
    | with_reducible refine State.setClients_keeps _ (maskLe_trans (by decide) hW) ?_
    | with_reducible refine State.setGsp_keeps _ (maskLe_trans (by decide) hW) ?_
    | with_reducible refine State.putObj_keeps _ _ _ ?_ ?_
    | with_reducible refine State.abandonDownload_keeps _ (maskLe_trans (by decide) hW) ?_
    | with_reducible refine State.abandonRead_keeps _ (maskLe_trans (by decide) hW) ?_
    | with_reducible refine Keeps.ite ?_ ?_
    | dsimp only
    | split

theorem State.endSession_keeps {W : Nat} {s₀ s : State} (ch : Channel) (reason : Nat) (hW : maskLe 0x8062D15681400643E138 W = true) (hk : Keeps W s₀ s) :
    Keeps W s₀ (State.endSession s ch reason) := by
  unfold State.endSession
  repeat' first
    | with_reducible assumption
    | with_reducible exact Keeps.refl _ _
    | with_reducible exact Bool.false_and _
    | intro _
    | with_reducible refine Keeps.foldl _ _ ?_ (fun _ _ => ?_)
    | with_reducible refine State.raise_keeps _ _ (maskLe_trans (by decide) hW) ?_
    | with_reducible refine State.modClient_keeps _ _ (maskLe_trans (by decide) hW) ?_
    | with_reducible refine State.freshGsp_keeps  (maskLe_trans (by decide) hW) ?_
    | with_reducible refine Keeps.ite ?_ ?_
    | dsimp only
    | split

theorem State.usbAttach_keeps {W : Nat} {s₀ s : State} (hW : maskLe 0x40000000000400 W = true) (hk : Keeps W s₀ s) :
    Keeps W s₀ (State.usbAttach s) := by
  unfold State.usbAttach
  repeat' first
    | with_reducible assumption
    | with_reducible exact site_2510 hW (by decide)
    | with_reducible exact Keeps.refl _ _
    | with_reducible exact Bool.false_and _
    | intro _
    | with_reducible refine Keeps.foldl _ _ ?_ (fun _ _ => ?_)
    | with_reducible refine State.setSupply_keeps _ (maskLe_trans (by decide) hW) ?_
    | with_reducible refine State.putObj_keeps _ _ _ ?_ ?_
    | with_reducible refine Keeps.ite ?_ ?_
    | dsimp only
    | split

theorem State.endGsp_keeps {W : Nat} {s₀ s : State} (hW : maskLe 0x8062D15681400643E138 W = true) (hk : Keeps W s₀ s) :
    Keeps W s₀ (State.endGsp s) := by
  unfold State.endGsp
  repeat' first
    | with_reducible assumption
    | with_reducible exact Keeps.refl _ _
    | with_reducible exact Bool.false_and _
    | intro _
    | with_reducible refine Keeps.foldl _ _ ?_ (fun _ _ => ?_)
    | with_reducible refine State.setGsp_keeps _ (maskLe_trans (by decide) hW) ?_
    | with_reducible refine State.freshGsp_keeps  (maskLe_trans (by decide) hW) ?_
    | with_reducible refine State.endSession_keeps _ _ (maskLe_trans (by decide) hW) ?_
    | with_reducible refine Keeps.ite ?_ ?_
    | dsimp only
    | split

theorem State.usbUnconfigure_keeps {W : Nat} {s₀ s : State} (hW : maskLe 0x8062D15681400643ED38 W = true) (hk : Keeps W s₀ s) :
    Keeps W s₀ (State.usbUnconfigure s) := by
  unfold State.usbUnconfigure
  repeat' first
    | with_reducible assumption
    | with_reducible exact Keeps.refl _ _
    | with_reducible exact Bool.false_and _
    | intro _
    | with_reducible refine Keeps.foldl _ _ ?_ (fun _ _ => ?_)
    | with_reducible refine State.setSupply_keeps _ (maskLe_trans (by decide) hW) ?_
    | with_reducible refine State.setClocks_keeps _ (maskLe_trans (by decide) hW) ?_
    | with_reducible refine State.raise_keeps _ _ (maskLe_trans (by decide) hW) ?_
    | with_reducible refine State.endGsp_keeps  (maskLe_trans (by decide) hW) ?_
    | with_reducible refine Keeps.ite ?_ ?_
    | dsimp only
    | split

theorem State.usbDetach_keeps {W : Nat} {s₀ s : State} (hW : maskLe 0x8062D15681400643ED38 W = true) (hk : Keeps W s₀ s) :
    Keeps W s₀ (State.usbDetach s) := by
  unfold State.usbDetach
  repeat' first
    | with_reducible assumption
    | with_reducible exact site_2510 hW (by decide)
    | with_reducible exact Keeps.refl _ _
    | with_reducible exact Bool.false_and _
    | intro _
    | with_reducible refine Keeps.foldl _ _ ?_ (fun _ _ => ?_)
    | with_reducible refine State.putObj_keeps _ _ _ ?_ ?_
    | with_reducible refine State.usbUnconfigure_keeps  (maskLe_trans (by decide) hW) ?_
    | with_reducible refine Keeps.ite ?_ ?_
    | dsimp only
    | split

theorem State.drainFifo_keeps {W : Nat} (n : Nat) {s₀ s : State} (hW : maskLe 0x440000000002800120000098 W = true) (hk : Keeps W s₀ s) :
    Keeps W s₀ (State.drainFifo n s) := by
  induction n generalizing s with
  | zero => exact hk
  | succ m ih =>
    unfold State.drainFifo
    split
    · exact hk
    · exact ih (State.processFifo_keeps (maskLe_trans (by decide) hW) hk)

end Sys2Proof.Machine
end

