-- ==== Sys2Proof/Laws/KeepsSupply.lean ====
section
/-! SUPPORT. What the operations of Machine/Supply.lean keep. -/

namespace Sys2Proof.Machine

theorem State.lowStarted_keeps {W : Nat} {s₀ s : State} (hW : maskLe 0x80000000000000020000 W = true) (hk : Keeps W s₀ s) :
    Keeps W s₀ (State.lowStarted s) := by
  unfold State.lowStarted
  repeat' first
    | with_reducible assumption
    | with_reducible exact Keeps.refl _ _
    | with_reducible exact Bool.false_and _
    | intro _
    | with_reducible refine Keeps.foldl _ _ ?_ (fun _ _ => ?_)
    | with_reducible refine State.phaseLow_keeps _ (maskLe_trans (by decide) hW) ?_
    | with_reducible refine Keeps.ite ?_ ?_
    | dsimp only
    | split

theorem State.startInOutline_keeps {W : Nat} {s₀ s : State} (hW : maskLe 0x80000000020000024000 W = true) (hk : Keeps W s₀ s) :
    Keeps W s₀ (State.startInOutline s) := by
  unfold State.startInOutline
  repeat' first
    | with_reducible assumption
    | with_reducible exact site_2120 hW (by decide)
    | with_reducible exact Keeps.refl _ _
    | with_reducible exact Bool.false_and _
    | intro _
    | with_reducible refine Keeps.foldl _ _ ?_ (fun _ _ => ?_)
    | with_reducible refine State.setOutline_keeps _ (maskLe_trans (by decide) hW) ?_
    | with_reducible refine State.putBit_keeps _ _ _ _ ?_  ?_
    | with_reducible refine State.startTurning_keeps  (maskLe_trans (by decide) hW) ?_
    | with_reducible refine Keeps.ite ?_ ?_
    | dsimp only
    | split

theorem State.releaseStarted_keeps {W : Nat} {s₀ s : State} (hW : maskLe 0x80000000000000024000 W = true) (hk : Keeps W s₀ s) :
    Keeps W s₀ (State.releaseStarted s) := by
  unfold State.releaseStarted
  repeat' first
    | with_reducible assumption
    | with_reducible exact Keeps.refl _ _
    | with_reducible exact Bool.false_and _
    | intro _
    | with_reducible refine Keeps.foldl _ _ ?_ (fun _ _ => ?_)
    | with_reducible refine State.setOutline_keeps _ (maskLe_trans (by decide) hW) ?_
    | with_reducible refine State.lowStarted_keeps  (maskLe_trans (by decide) hW) ?_
    | with_reducible refine Keeps.ite ?_ ?_
    | dsimp only
    | split

theorem State.outlineResupply_keeps {W : Nat} {s₀ s : State} (hW : maskLe 0x80000000000000024000 W = true) (hk : Keeps W s₀ s) :
    Keeps W s₀ (State.outlineResupply s) := by
  unfold State.outlineResupply
  repeat' first
    | with_reducible assumption
    | with_reducible exact Keeps.refl _ _
    | with_reducible exact Bool.false_and _
    | intro _
    | with_reducible refine Keeps.foldl _ _ ?_ (fun _ _ => ?_)
    | with_reducible refine State.driveOutline_keeps  (maskLe_trans (by decide) hW) ?_
    | with_reducible refine State.driveStore_keeps  (maskLe_trans (by decide) hW) ?_
    | with_reducible refine State.startTurning_keeps  (maskLe_trans (by decide) hW) ?_
    | with_reducible refine Keeps.ite ?_ ?_
    | dsimp only
    | split

theorem State.loadCobs_keeps {W : Nat} {s₀ s : State} (hW : maskLe 0x100000000 W = true) (hk : Keeps W s₀ s) :
    Keeps W s₀ (State.loadCobs s) := by
  unfold State.loadCobs
  split
  · exact hk
  · refine Keeps.foldl_mem _ _ hk (fun t k hmem => ?_)
    have hg : Safety.group k.1 = 0x1000 := by
      have h : ∀ k ∈ cobKeys, Safety.group k.1 = 0x1000 := by decide
      exact h k hmem
    have hp : ∀ v, Keeps W t (t.putObj k.1 k.2 v) := fun v =>
      State.putObj_keeps _ _ _ (siteIn_group hg (bitIn_mono hW (by decide))) (Keeps.refl _ _)
    dsimp only
    (repeat' split) <;> first | exact Keeps.refl _ _ | exact hp _

theorem State.loadNode_keeps {W : Nat} {s₀ s : State} (hW : maskLe 0x300000080 W = true) (hk : Keeps W s₀ s) :
    Keeps W s₀ (State.loadNode s) := by
  unfold State.loadNode
  repeat' first
    | with_reducible assumption
    | with_reducible exact site_2008 hW (by decide)
    | with_reducible exact Keeps.refl _ _
    | with_reducible exact Bool.false_and _
    | intro _
    | with_reducible refine Keeps.foldl _ _ ?_ (fun _ _ => ?_)
    | with_reducible refine State.setCan_keeps _ (maskLe_trans (by decide) hW) ?_
    | with_reducible refine State.putObj_keeps _ _ _ ?_ ?_
    | with_reducible refine State.loadCobs_keeps  (maskLe_trans (by decide) hW) ?_
    | with_reducible refine Keeps.ite ?_ ?_
    | dsimp only
    | split

theorem State.bootUp_keeps {W : Nat} {s₀ s : State} (hW : maskLe 0x80 W = true) (hk : Keeps W s₀ s) :
    Keeps W s₀ (State.bootUp s) := by
  unfold State.bootUp
  repeat' first
    | with_reducible assumption
    | with_reducible exact Keeps.refl _ _
    | with_reducible exact Bool.false_and _
    | intro _
    | with_reducible refine Keeps.foldl _ _ ?_ (fun _ _ => ?_)
    | with_reducible refine State.setCan_keeps _ (maskLe_trans (by decide) hW) ?_
    | with_reducible refine Keeps.ite ?_ ?_
    | dsimp only
    | split

theorem State.readStrap_keeps {W : Nat} {s₀ s : State} (codes : List (BitVec 12)) (hW : maskLe 0x400000000000000200000080 W = true) (hk : Keeps W s₀ s) :
    Keeps W s₀ (State.readStrap s codes) := by
  unfold State.readStrap
  repeat' first
    | with_reducible assumption
    | with_reducible exact site_5f00 hW (by decide)
    | with_reducible exact site_2008 hW (by decide)
    | with_reducible exact Keeps.refl _ _
    | with_reducible exact Bool.false_and _
    | intro _
    | with_reducible refine Keeps.foldl _ _ ?_ (fun _ _ => ?_)
    | with_reducible refine State.setCan_keeps _ (maskLe_trans (by decide) hW) ?_
    | with_reducible refine State.putObj_keeps _ _ _ ?_ ?_
    | with_reducible refine Keeps.ite ?_ ?_
    | dsimp only
    | split

theorem State.identify_keeps {W : Nat} {s₀ s : State} (id : Nat) (hW : maskLe 0x20008062D196810006436018 W = true) (hk : Keeps W s₀ s) :
    Keeps W s₀ (State.identify s id) := by
  unfold State.identify
  repeat' first
    | with_reducible assumption
    | with_reducible exact site_5830 hW (by decide)
    | with_reducible exact site_2520 hW (by decide)
    | with_reducible exact Keeps.refl _ _
    | with_reducible exact Bool.false_and _
    | intro _
    | with_reducible refine Keeps.foldl _ _ ?_ (fun _ _ => ?_)
    | with_reducible refine State.putObj_keeps _ _ _ ?_ ?_
    | with_reducible refine State.bump_keeps _ _ ?_  ?_
    | with_reducible refine State.raise_keeps _ _ (maskLe_trans (by decide) hW) ?_
    | with_reducible refine State.rebuildExt_keeps  (maskLe_trans (by decide) hW) ?_
    | with_reducible refine Keeps.ite ?_ ?_
    | dsimp only
    | split

theorem State.reportEcc_keeps {W : Nat} {s₀ s : State} (hW : maskLe 0x8062D116810006436008 W = true) (hk : Keeps W s₀ s) :
    Keeps W s₀ (State.reportEcc s) := by
  unfold State.reportEcc
  repeat' first
    | with_reducible assumption
    | with_reducible exact Keeps.refl _ _
    | with_reducible exact Bool.false_and _
    | intro _
    | with_reducible refine Keeps.foldl _ _ ?_ (fun _ _ => ?_)
    | with_reducible refine State.raise_keeps _ _ (maskLe_trans (by decide) hW) ?_
    | with_reducible refine Keeps.ite ?_ ?_
    | dsimp only
    | split

theorem State.bootReports_keeps {W : Nat} {s₀ s : State} (hW : maskLe 0x8062D116810026436218 W = true) (hk : Keeps W s₀ s) :
    Keeps W s₀ (State.bootReports s) := by
  unfold State.bootReports
  repeat' first
    | with_reducible assumption
    | with_reducible exact Keeps.refl _ _
    | with_reducible exact Bool.false_and _
    | intro _
    | with_reducible refine Keeps.foldl _ _ ?_ (fun _ _ => ?_)
    | with_reducible refine State.setLife_keeps _ (maskLe_trans (by decide) hW) ?_
    | with_reducible refine State.tick_keeps  (maskLe_trans (by decide) hW) ?_
    | with_reducible refine State.raise_keeps _ _ (maskLe_trans (by decide) hW) ?_
    | with_reducible refine State.raiseOverflow_keeps _ (maskLe_trans (by decide) hW) ?_
    | with_reducible refine State.reportEcc_keeps  (maskLe_trans (by decide) hW) ?_
    | with_reducible refine Keeps.ite ?_ ?_
    | dsimp only
    | split

theorem State.startDew_keeps {W : Nat} {s₀ s : State} (hW : maskLe 0x20000000200 W = true) (hk : Keeps W s₀ s) :
    Keeps W s₀ (State.startDew s) := by
  unfold State.startDew
  repeat' first
    | with_reducible assumption
    | with_reducible exact site_2120 hW (by decide)
    | with_reducible exact Keeps.refl _ _
    | with_reducible exact Bool.false_and _
    | intro _
    | with_reducible refine Keeps.foldl _ _ ?_ (fun _ _ => ?_)
    | with_reducible refine State.setLife_keeps _ (maskLe_trans (by decide) hW) ?_
    | with_reducible refine State.putBit_keeps _ _ _ _ ?_  ?_
    | with_reducible refine Keeps.ite ?_ ?_
    | dsimp only
    | split

theorem State.startSurvey_keeps {W : Nat} {s₀ s : State} (codes : List (BitVec 12)) (spiId : Nat) (hW : maskLe 0x62408072D1D6830336436699 W = true) (hk : Keeps W s₀ s) :
    Keeps W s₀ (State.startSurvey s codes spiId) := by
  unfold State.startSurvey
  repeat' first
    | with_reducible assumption
    | with_reducible exact siteIn_mono hW (siteIn_all (by decide))
    | with_reducible exact site_2120 hW (by decide)
    | with_reducible exact Keeps.refl _ _
    | with_reducible exact Bool.false_and _
    | intro _
    | with_reducible refine Keeps.foldl _ _ ?_ (fun _ _ => ?_)
    | with_reducible refine State.setLife_keeps _ (maskLe_trans (by decide) hW) ?_
    | with_reducible refine State.putObj_keeps _ _ _ ?_ ?_
    | with_reducible refine State.enterOutline_keeps _ (maskLe_trans (by decide) hW) ?_
    | with_reducible refine State.startErase_keeps  (maskLe_trans (by decide) hW) ?_
    | with_reducible refine State.rebuildLog_keeps  (maskLe_trans (by decide) hW) ?_
    | with_reducible refine State.restoreTotals_keeps _ (maskLe_trans (by decide) hW) ?_
    | with_reducible refine State.usbAttach_keeps  (maskLe_trans (by decide) hW) ?_
    | with_reducible refine State.startInOutline_keeps  (maskLe_trans (by decide) hW) ?_
    | with_reducible refine State.loadNode_keeps  (maskLe_trans (by decide) hW) ?_
    | with_reducible refine State.bootUp_keeps  (maskLe_trans (by decide) hW) ?_
    | with_reducible refine State.readStrap_keeps _ (maskLe_trans (by decide) hW) ?_
    | with_reducible refine State.identify_keeps _ (maskLe_trans (by decide) hW) ?_
    | with_reducible refine State.bootReports_keeps  (maskLe_trans (by decide) hW) ?_
    | with_reducible refine State.startDew_keeps  (maskLe_trans (by decide) hW) ?_
    | with_reducible refine Keeps.ite ?_ ?_
    | dsimp only
    | split

theorem execSurveyStart_keeps (strapCodes : List (BitVec 12)) (spiId : BitVec 24) (s : State) : Keeps.Out 0x62408072D1D6830336436699 s (execSurveyStart strapCodes spiId s) := by
  unfold execSurveyStart
  repeat' first
    | with_reducible refine Keeps.out_next ?_
    | with_reducible refine Keeps.out_ite ?_ ?_
    | with_reducible assumption
    | with_reducible exact Keeps.refl _ _
    | with_reducible exact Bool.false_and _
    | intro _
    | with_reducible refine Keeps.foldl _ _ ?_ (fun _ _ => ?_)
    | with_reducible refine State.startSurvey_keeps _ _ (by decide) ?_
    | with_reducible refine Keeps.ite ?_ ?_
    | dsimp only
    | split

theorem State.bringupFail_keeps {W : Nat} {s₀ s : State} (hW : maskLe 0x8062D116830006436208 W = true) (hk : Keeps W s₀ s) :
    Keeps W s₀ (State.bringupFail s) := by
  unfold State.bringupFail
  repeat' first
    | with_reducible assumption
    | with_reducible exact site_2120 hW (by decide)
    | with_reducible exact Keeps.refl _ _
    | with_reducible exact Bool.false_and _
    | intro _
    | with_reducible refine Keeps.foldl _ _ ?_ (fun _ _ => ?_)
    | with_reducible refine State.setLife_keeps _ (maskLe_trans (by decide) hW) ?_
    | with_reducible refine State.putObj_keeps _ _ _ ?_ ?_
    | with_reducible refine State.pwmHold_keeps  (maskLe_trans (by decide) hW) ?_
    | with_reducible refine State.enterOutline_keeps _ (maskLe_trans (by decide) hW) ?_
    | with_reducible refine State.raise_keeps _ _ (maskLe_trans (by decide) hW) ?_
    | with_reducible refine Keeps.ite ?_ ?_
    | dsimp only
    | split

theorem State.selfTest_keeps {W : Nat} {s₀ s : State} (analogOk : Bool) (hW : maskLe 0x8062D116830006436208 W = true) (hk : Keeps W s₀ s) :
    Keeps W s₀ (State.selfTest s analogOk) := by
  unfold State.selfTest
  repeat' first
    | with_reducible assumption
    | with_reducible exact site_2120 hW (by decide)
    | with_reducible exact Keeps.refl _ _
    | with_reducible exact Bool.false_and _
    | intro _
    | with_reducible refine Keeps.foldl _ _ ?_ (fun _ _ => ?_)
    | with_reducible refine State.putBit_keeps _ _ _ _ ?_  ?_
    | with_reducible refine State.bringupFail_keeps  (maskLe_trans (by decide) hW) ?_
    | with_reducible refine Keeps.ite ?_ ?_
    | dsimp only
    | split

theorem execSelfTestComplete_keeps (analogOk : Bool) (s : State) : Keeps.Out 0x8062D116830006436208 s (execSelfTestComplete analogOk s) := by
  unfold execSelfTestComplete
  repeat' first
    | with_reducible refine Keeps.out_next ?_
    | with_reducible refine Keeps.out_ite ?_ ?_
    | with_reducible assumption
    | with_reducible exact Keeps.refl _ _
    | with_reducible exact Bool.false_and _
    | intro _
    | with_reducible refine Keeps.foldl _ _ ?_ (fun _ _ => ?_)
    | with_reducible refine State.selfTest_keeps _ (by decide) ?_
    | with_reducible refine Keeps.ite ?_ ?_
    | dsimp only
    | split

theorem State.startSettling_keeps {W : Nat} {s₀ s : State} (hW : maskLe 0x200 W = true) (hk : Keeps W s₀ s) :
    Keeps W s₀ (State.startSettling s) := by
  unfold State.startSettling
  repeat' first
    | with_reducible assumption
    | with_reducible exact Keeps.refl _ _
    | with_reducible exact Bool.false_and _
    | intro _
    | with_reducible refine Keeps.foldl _ _ ?_ (fun _ _ => ?_)
    | with_reducible refine State.setLife_keeps _ (maskLe_trans (by decide) hW) ?_
    | with_reducible refine Keeps.ite ?_ ?_
    | dsimp only
    | split

theorem State.pllLocks_keeps {W : Nat} {s₀ s : State} (hW : maskLe 0x5708062D11683003E436A1C W = true) (hk : Keeps W s₀ s) :
    Keeps W s₀ (State.pllLocks s) := by
  unfold State.pllLocks
  repeat' first
    | with_reducible assumption
    | with_reducible exact site_2120 hW (by decide)
    | with_reducible exact Keeps.refl _ _
    | with_reducible exact Bool.false_and _
    | intro _
    | with_reducible refine Keeps.foldl _ _ ?_ (fun _ _ => ?_)
    | with_reducible refine State.setClocks_keeps _ (maskLe_trans (by decide) hW) ?_
    | with_reducible refine State.putBit_keeps _ _ _ _ ?_  ?_
    | with_reducible refine State.closeMetrology_keeps  (maskLe_trans (by decide) hW) ?_
    | with_reducible refine State.startSettling_keeps  (maskLe_trans (by decide) hW) ?_
    | with_reducible refine Keeps.ite ?_ ?_
    | dsimp only
    | split

theorem State.measureRc_keeps {W : Nat} {s₀ s : State} (hW : maskLe 0x400000800 W = true) (hk : Keeps W s₀ s) :
    Keeps W s₀ (State.measureRc s) := by
  unfold State.measureRc
  repeat' first
    | with_reducible assumption
    | with_reducible exact site_2010 hW (by decide)
    | with_reducible exact Keeps.refl _ _
    | with_reducible exact Bool.false_and _
    | intro _
    | with_reducible refine Keeps.foldl _ _ ?_ (fun _ _ => ?_)
    | with_reducible refine State.setClocks_keeps _ (maskLe_trans (by decide) hW) ?_
    | with_reducible refine State.putObj_keeps _ _ _ ?_ ?_
    | with_reducible refine Keeps.ite ?_ ?_
    | dsimp only
    | split

theorem State.ontoCrystal_keeps {W : Nat} {s₀ s : State} (hW : maskLe 0x5708062D11681043E436A1C W = true) (hk : Keeps W s₀ s) :
    Keeps W s₀ (State.ontoCrystal s) := by
  unfold State.ontoCrystal
  repeat' first
    | with_reducible assumption
    | with_reducible exact Keeps.refl _ _
    | with_reducible exact Bool.false_and _
    | intro _
    | with_reducible refine Keeps.foldl _ _ ?_ (fun _ _ => ?_)
    | with_reducible refine State.setClocks_keeps _ (maskLe_trans (by decide) hW) ?_
    | with_reducible refine State.closeMetrology_keeps  (maskLe_trans (by decide) hW) ?_
    | with_reducible refine State.rescaleTracker_keeps _ (maskLe_trans (by decide) hW) ?_
    | with_reducible refine State.startSettling_keeps  (maskLe_trans (by decide) hW) ?_
    | with_reducible refine State.measureRc_keeps  (maskLe_trans (by decide) hW) ?_
    | with_reducible refine Keeps.ite ?_ ?_
    | dsimp only
    | split

theorem State.crystalMissing_keeps {W : Nat} {s₀ s : State} (hW : maskLe 0x8062D116830006436208 W = true) (hk : Keeps W s₀ s) :
    Keeps W s₀ (State.crystalMissing s) := by
  unfold State.crystalMissing
  repeat' first
    | with_reducible assumption
    | with_reducible exact Keeps.refl _ _
    | with_reducible exact Bool.false_and _
    | intro _
    | with_reducible refine Keeps.foldl _ _ ?_ (fun _ _ => ?_)
    | with_reducible refine State.raise_keeps _ _ (maskLe_trans (by decide) hW) ?_
    | with_reducible refine State.bringupFail_keeps  (maskLe_trans (by decide) hW) ?_
    | with_reducible refine State.startSettling_keeps  (maskLe_trans (by decide) hW) ?_
    | with_reducible refine Keeps.ite ?_ ?_
    | dsimp only
    | split

theorem execCrystalNotQualified_keeps (s : State) : Keeps.Out 0x8062D116830006436208 s (execCrystalNotQualified s) := by
  unfold execCrystalNotQualified
  repeat' first
    | with_reducible refine Keeps.out_next ?_
    | with_reducible refine Keeps.out_ite ?_ ?_
    | with_reducible assumption
    | with_reducible exact Keeps.refl _ _
    | with_reducible exact Bool.false_and _
    | intro _
    | with_reducible refine Keeps.foldl _ _ ?_ (fun _ _ => ?_)
    | with_reducible refine State.crystalMissing_keeps  (by decide) ?_
    | with_reducible refine Keeps.ite ?_ ?_
    | dsimp only
    | split

theorem State.putReduced_keeps {W : Nat} {s₀ s : State} (b : Bool) (hW : maskLe 0x20008000000 W = true) (hk : Keeps W s₀ s) :
    Keeps W s₀ (State.putReduced s b) := by
  unfold State.putReduced
  repeat' first
    | with_reducible assumption
    | with_reducible exact site_2120 hW (by decide)
    | with_reducible exact Keeps.refl _ _
    | with_reducible exact Bool.false_and _
    | intro _
    | with_reducible refine Keeps.foldl _ _ ?_ (fun _ _ => ?_)
    | with_reducible refine State.setMetrology_keeps _ (maskLe_trans (by decide) hW) ?_
    | with_reducible refine State.putBit_keeps _ _ _ _ ?_  ?_
    | with_reducible refine Keeps.ite ?_ ?_
    | dsimp only
    | split

theorem State.raiseClock_keeps {W : Nat} {s₀ s : State} (e data : Nat) (hW : maskLe 0x8062D116810006436208 W = true) (hk : Keeps W s₀ s) :
    Keeps W s₀ (State.raiseClock s e data) := by
  unfold State.raiseClock
  repeat' first
    | with_reducible assumption
    | with_reducible exact Keeps.refl _ _
    | with_reducible exact Bool.false_and _
    | intro _
    | with_reducible refine Keeps.foldl _ _ ?_ (fun _ _ => ?_)
    | with_reducible refine State.setLife_keeps _ (maskLe_trans (by decide) hW) ?_
    | with_reducible refine State.raise_keeps _ _ (maskLe_trans (by decide) hW) ?_
    | with_reducible refine Keeps.ite ?_ ?_
    | dsimp only
    | split

theorem State.crystalLost_keeps {W : Nat} {s₀ s : State} (hW : maskLe 0x8062D11683040E436A08 W = true) (hk : Keeps W s₀ s) :
    Keeps W s₀ (State.crystalLost s) := by
  unfold State.crystalLost
  repeat' first
    | with_reducible assumption
    | with_reducible exact site_2010 hW (by decide)
    | with_reducible exact Keeps.refl _ _
    | with_reducible exact Bool.false_and _
    | intro _
    | with_reducible refine Keeps.foldl _ _ ?_ (fun _ _ => ?_)
    | with_reducible refine State.setClocks_keeps _ (maskLe_trans (by decide) hW) ?_
    | with_reducible refine State.bump_keeps _ _ ?_  ?_
    | with_reducible refine State.enterOutline_keeps _ (maskLe_trans (by decide) hW) ?_
    | with_reducible refine State.rescaleTracker_keeps _ (maskLe_trans (by decide) hW) ?_
    | with_reducible refine State.putReduced_keeps _ (maskLe_trans (by decide) hW) ?_
    | with_reducible refine State.raiseClock_keeps _ _ (maskLe_trans (by decide) hW) ?_
    | with_reducible refine Keeps.ite ?_ ?_
    | dsimp only
    | split

theorem execCrystalLoss_keeps (s : State) : Keeps.Out 0x8062D11683040E436A08 s (execCrystalLoss s) := by
  unfold execCrystalLoss
  repeat' first
    | with_reducible refine Keeps.out_next ?_
    | with_reducible refine Keeps.out_ite ?_ ?_
    | with_reducible assumption
    | with_reducible exact Keeps.refl _ _
    | with_reducible exact Bool.false_and _
    | intro _
    | with_reducible refine Keeps.foldl _ _ ?_ (fun _ _ => ?_)
    | with_reducible refine State.crystalLost_keeps  (by decide) ?_
    | with_reducible refine Keeps.ite ?_ ?_
    | dsimp only
    | split

theorem State.pllLost_keeps {W : Nat} {s₀ s : State} (hW : maskLe 0x8062D116810406436A08 W = true) (hk : Keeps W s₀ s) :
    Keeps W s₀ (State.pllLost s) := by
  unfold State.pllLost
  repeat' first
    | with_reducible assumption
    | with_reducible exact site_2010 hW (by decide)
    | with_reducible exact Keeps.refl _ _
    | with_reducible exact Bool.false_and _
    | intro _
    | with_reducible refine Keeps.foldl _ _ ?_ (fun _ _ => ?_)
    | with_reducible refine State.setClocks_keeps _ (maskLe_trans (by decide) hW) ?_
    | with_reducible refine State.bump_keeps _ _ ?_  ?_
    | with_reducible refine State.raiseClock_keeps _ _ (maskLe_trans (by decide) hW) ?_
    | with_reducible refine Keeps.ite ?_ ?_
    | dsimp only
    | split

theorem execPllLoss_keeps (s : State) : Keeps.Out 0x8062D116810406436A08 s (execPllLoss s) := by
  unfold execPllLoss
  repeat' first
    | with_reducible refine Keeps.out_next ?_
    | with_reducible refine Keeps.out_ite ?_ ?_
    | with_reducible assumption
    | with_reducible exact Keeps.refl _ _
    | with_reducible exact Bool.false_and _
    | intro _
    | with_reducible refine Keeps.foldl _ _ ?_ (fun _ _ => ?_)
    | with_reducible refine State.pllLost_keeps  (by decide) ?_
    | with_reducible refine Keeps.ite ?_ ?_
    | dsimp only
    | split

theorem execPllLockTimeout_keeps (s : State) : Keeps.Out 0x8062D116830006436208 s (execPllLockTimeout s) := by
  unfold execPllLockTimeout
  repeat' first
    | with_reducible refine Keeps.out_next ?_
    | with_reducible refine Keeps.out_ite ?_ ?_
    | with_reducible assumption
    | with_reducible exact Keeps.refl _ _
    | with_reducible exact Bool.false_and _
    | intro _
    | with_reducible refine Keeps.foldl _ _ ?_ (fun _ _ => ?_)
    | with_reducible refine State.bringupFail_keeps  (by decide) ?_
    | with_reducible refine Keeps.ite ?_ ?_
    | dsimp only
    | split

theorem execUsbStartOfFrame_keeps (s : State) : Keeps.Out 0x800 s (execUsbStartOfFrame s) := by
  unfold execUsbStartOfFrame
  repeat' first
    | with_reducible refine Keeps.out_next ?_
    | with_reducible refine Keeps.out_ite ?_ ?_
    | with_reducible assumption
    | with_reducible exact Keeps.refl _ _
    | with_reducible exact Bool.false_and _
    | intro _
    | with_reducible refine Keeps.foldl _ _ ?_ (fun _ _ => ?_)
    | with_reducible refine State.setClocks_keeps _ (by decide) ?_
    | with_reducible refine Keeps.ite ?_ ?_
    | dsimp only
    | split

theorem State.metrologySettles_keeps {W : Nat} {s₀ s : State} (hW : maskLe 0x20008000200 W = true) (hk : Keeps W s₀ s) :
    Keeps W s₀ (State.metrologySettles s) := by
  unfold State.metrologySettles
  repeat' first
    | with_reducible assumption
    | with_reducible exact site_2120 hW (by decide)
    | with_reducible exact Keeps.refl _ _
    | with_reducible exact Bool.false_and _
    | intro _
    | with_reducible refine Keeps.foldl _ _ ?_ (fun _ _ => ?_)
    | with_reducible refine State.setLife_keeps _ (maskLe_trans (by decide) hW) ?_
    | with_reducible refine State.setMetrology_keeps _ (maskLe_trans (by decide) hW) ?_
    | with_reducible refine State.putBit_keeps _ _ _ _ ?_  ?_
    | with_reducible refine State.putReduced_keeps _ (maskLe_trans (by decide) hW) ?_
    | with_reducible refine Keeps.ite ?_ ?_
    | dsimp only
    | split

theorem execMetrologySettled_keeps (s : State) : Keeps.Out 0x20008000200 s (execMetrologySettled s) := by
  unfold execMetrologySettled
  repeat' first
    | with_reducible refine Keeps.out_next ?_
    | with_reducible refine Keeps.out_ite ?_ ?_
    | with_reducible assumption
    | with_reducible exact Keeps.refl _ _
    | with_reducible exact Bool.false_and _
    | intro _
    | with_reducible refine Keeps.foldl _ _ ?_ (fun _ _ => ?_)
    | with_reducible refine State.metrologySettles_keeps  (by decide) ?_
    | with_reducible refine Keeps.ite ?_ ?_
    | dsimp only
    | split

theorem State.countTrial_keeps {W : Nat} {s₀ s : State} (hW : maskLe 0x4000000000 W = true) (hk : Keeps W s₀ s) :
    Keeps W s₀ (State.countTrial s) := by
  unfold State.countTrial
  repeat' first
    | with_reducible assumption
    | with_reducible exact site_2040 hW (by decide)
    | with_reducible exact Keeps.refl _ _
    | with_reducible exact Bool.false_and _
    | intro _
    | with_reducible refine Keeps.foldl _ _ ?_ (fun _ _ => ?_)
    | with_reducible refine State.putObj_keeps _ _ _ ?_ ?_
    | with_reducible refine Keeps.ite ?_ ?_
    | dsimp only
    | split

theorem State.enterService_keeps {W : Nat} {s₀ s : State} (hW : maskLe 0x80000000824000034080 W = true) (hk : Keeps W s₀ s) :
    Keeps W s₀ (State.enterService s) := by
  unfold State.enterService
  repeat' first
    | with_reducible assumption
    | with_reducible exact site_2120 hW (by decide)
    | with_reducible exact site_2300 hW (by decide)
    | with_reducible exact Keeps.refl _ _
    | with_reducible exact Bool.false_and _
    | intro _
    | with_reducible refine Keeps.foldl _ _ ?_ (fun _ _ => ?_)
    | with_reducible refine State.setCan_keeps _ (maskLe_trans (by decide) hW) ?_
    | with_reducible refine State.putObj_keeps _ _ _ ?_ ?_
    | with_reducible refine State.putBit_keeps _ _ _ _ ?_  ?_
    | with_reducible refine State.armAll_keeps  (maskLe_trans (by decide) hW) ?_
    | with_reducible refine State.releaseStarted_keeps  (maskLe_trans (by decide) hW) ?_
    | with_reducible refine State.countTrial_keeps  (maskLe_trans (by decide) hW) ?_
    | with_reducible refine Keeps.ite ?_ ?_
    | dsimp only
    | split

theorem execFullService_keeps (s : State) : Keeps.Out 0x80000000824000034080 s (execFullService s) := by
  unfold execFullService
  repeat' first
    | with_reducible refine Keeps.out_next ?_
    | with_reducible refine Keeps.out_ite ?_ ?_
    | with_reducible assumption
    | with_reducible exact Keeps.refl _ _
    | with_reducible exact Bool.false_and _
    | intro _
    | with_reducible refine Keeps.foldl _ _ ?_ (fun _ _ => ?_)
    | with_reducible refine State.enterService_keeps  (by decide) ?_
    | with_reducible refine Keeps.ite ?_ ?_
    | dsimp only
    | split

theorem State.leaveWetHold_keeps {W : Nat} {s₀ s : State} (hW : maskLe 0x40000000002820000000218 W = true) (hk : Keeps W s₀ s) :
    Keeps W s₀ (State.leaveWetHold s) := by
  unfold State.leaveWetHold
  repeat' first
    | with_reducible assumption
    | with_reducible exact site_2120 hW (by decide)
    | with_reducible exact Keeps.refl _ _
    | with_reducible exact Bool.false_and _
    | intro _
    | with_reducible refine Keeps.foldl _ _ ?_ (fun _ _ => ?_)
    | with_reducible refine State.setLife_keeps _ (maskLe_trans (by decide) hW) ?_
    | with_reducible refine State.putObj_keeps _ _ _ ?_ ?_
    | with_reducible refine State.putBit_keeps _ _ _ _ ?_  ?_
    | with_reducible refine State.endEvent_keeps _ _ (maskLe_trans (by decide) hW) ?_
    | with_reducible refine Keeps.ite ?_ ?_
    | dsimp only
    | split

theorem State.dewComplete_keeps {W : Nat} {s₀ s : State} (readings : List (BitVec 16)) (hW : maskLe 0x4008062D116870006436218 W = true) (hk : Keeps W s₀ s) :
    Keeps W s₀ (State.dewComplete s readings) := by
  unfold State.dewComplete
  repeat' first
    | with_reducible assumption
    | with_reducible exact site_2120 hW (by decide)
    | with_reducible exact site_2128 hW (by decide)
    | with_reducible exact Keeps.refl _ _
    | with_reducible exact Bool.false_and _
    | intro _
    | with_reducible refine Keeps.foldl _ _ ?_ (fun _ _ => ?_)
    | with_reducible refine State.setLife_keeps _ (maskLe_trans (by decide) hW) ?_
    | with_reducible refine State.putObj_keeps _ _ _ ?_ ?_
    | with_reducible refine State.bump_keeps _ _ ?_  ?_
    | with_reducible refine State.raise_keeps _ _ (maskLe_trans (by decide) hW) ?_
    | with_reducible refine State.leaveWetHold_keeps  (maskLe_trans (by decide) hW) ?_
    | with_reducible refine Keeps.ite ?_ ?_
    | dsimp only
    | split

theorem execDewCheckComplete_keeps (readings : List (BitVec 16)) (s : State) : Keeps.Out 0x4008062D116870006436218 s (execDewCheckComplete readings s) := by
  unfold execDewCheckComplete
  repeat' first
    | with_reducible refine Keeps.out_next ?_
    | with_reducible refine Keeps.out_ite ?_ ?_
    | with_reducible assumption
    | with_reducible exact Keeps.refl _ _
    | with_reducible exact Bool.false_and _
    | intro _
    | with_reducible refine Keeps.foldl _ _ ?_ (fun _ _ => ?_)
    | with_reducible refine State.dewComplete_keeps _ (by decide) ?_
    | with_reducible refine Keeps.ite ?_ ?_
    | dsimp only
    | split

theorem execDewCheckRepeat_keeps (s : State) : Keeps.Out 0x200 s (execDewCheckRepeat s) := by
  unfold execDewCheckRepeat
  repeat' first
    | with_reducible refine Keeps.out_next ?_
    | with_reducible refine Keeps.out_ite ?_ ?_
    | with_reducible assumption
    | with_reducible exact Keeps.refl _ _
    | with_reducible exact Bool.false_and _
    | intro _
    | with_reducible refine Keeps.foldl _ _ ?_ (fun _ _ => ?_)
    | with_reducible refine State.setLife_keeps _ (by decide) ?_
    | with_reducible refine Keeps.ite ?_ ?_
    | dsimp only
    | split

theorem State.overrideWetHold_keeps {W : Nat} {s₀ s : State} (hW : maskLe 0x4008062D116830006436218 W = true) (hk : Keeps W s₀ s) :
    Keeps W s₀ (State.overrideWetHold s) := by
  unfold State.overrideWetHold
  repeat' first
    | with_reducible assumption
    | with_reducible exact Keeps.refl _ _
    | with_reducible exact Bool.false_and _
    | intro _
    | with_reducible refine Keeps.foldl _ _ ?_ (fun _ _ => ?_)
    | with_reducible refine State.raise_keeps _ _ (maskLe_trans (by decide) hW) ?_
    | with_reducible refine State.leaveWetHold_keeps  (maskLe_trans (by decide) hW) ?_
    | with_reducible refine Keeps.ite ?_ ?_
    | dsimp only
    | split

theorem State.holdPower_keeps {W : Nat} {s₀ s : State} (hW : maskLe 0x8000000000 W = true) (hk : Keeps W s₀ s) :
    Keeps W s₀ (State.holdPower s) := by
  unfold State.holdPower
  repeat' first
    | with_reducible assumption
    | with_reducible exact site_2100 hW (by decide)
    | with_reducible exact Keeps.refl _ _
    | with_reducible exact Bool.false_and _
    | intro _
    | with_reducible refine Keeps.foldl _ _ ?_ (fun _ _ => ?_)
    | with_reducible refine State.putObj_keeps _ _ _ ?_ ?_
    | with_reducible refine Keeps.ite ?_ ?_
    | dsimp only
    | split

theorem State.nextStep_keeps {W : Nat} {s₀ s : State} (hW : maskLe 0x25010008006400200 W = true) (hk : Keeps W s₀ s) :
    Keeps W s₀ (State.nextStep s) := by
  unfold State.nextStep
  repeat' first
    | with_reducible assumption
    | with_reducible exact site_2100 hW (by decide)
    | with_reducible exact Keeps.refl _ _
    | with_reducible exact Bool.false_and _
    | intro _
    | with_reducible refine Keeps.foldl _ _ ?_ (fun _ _ => ?_)
    | with_reducible refine State.setLife_keeps _ (maskLe_trans (by decide) hW) ?_
    | with_reducible refine State.putObj_keeps _ _ _ ?_ ?_
    | with_reducible refine State.softStopAll_keeps _ (maskLe_trans (by decide) hW) ?_
    | with_reducible refine State.leaveRing_keeps _ (maskLe_trans (by decide) hW) ?_
    | with_reducible refine State.holdPower_keeps  (maskLe_trans (by decide) hW) ?_
    | with_reducible refine Keeps.ite ?_ ?_
    | dsimp only
    | split

theorem State.setPower_keeps {W : Nat} {s₀ s : State} (v : Nat) (hW : maskLe 0x25010008006400200 W = true) (hk : Keeps W s₀ s) :
    Keeps W s₀ (State.setPower s v) := by
  unfold State.setPower
  repeat' first
    | with_reducible assumption
    | with_reducible exact site_2100 hW (by decide)
    | with_reducible exact Keeps.refl _ _
    | with_reducible exact Bool.false_and _
    | intro _
    | with_reducible refine Keeps.foldl _ _ ?_ (fun _ _ => ?_)
    | with_reducible refine State.putObj_keeps _ _ _ ?_ ?_
    | with_reducible refine State.nextStep_keeps  (maskLe_trans (by decide) hW) ?_
    | with_reducible refine Keeps.ite ?_ ?_
    | dsimp only
    | split

theorem State.stepDone_keeps {W : Nat} {s₀ s : State} (p : Nat) (hW : maskLe 0x25010008006400200 W = true) (hk : Keeps W s₀ s) :
    Keeps W s₀ (State.stepDone s p) := by
  unfold State.stepDone
  repeat' first
    | with_reducible assumption
    | with_reducible exact site_2100 hW (by decide)
    | with_reducible exact Keeps.refl _ _
    | with_reducible exact Bool.false_and _
    | intro _
    | with_reducible refine Keeps.foldl _ _ ?_ (fun _ _ => ?_)
    | with_reducible refine State.putObj_keeps _ _ _ ?_ ?_
    | with_reducible refine State.nextStep_keeps  (maskLe_trans (by decide) hW) ?_
    | with_reducible refine Keeps.ite ?_ ?_
    | dsimp only
    | split

theorem State.enterIdle_keeps {W : Nat} {s₀ s : State} (hW : maskLe 0x40002600012800005820018 W = true) (hk : Keeps W s₀ s) :
    Keeps W s₀ (State.enterIdle s) := by
  unfold State.enterIdle
  repeat' first
    | with_reducible assumption
    | with_reducible exact Keeps.refl _ _
    | with_reducible exact Bool.false_and _
    | intro _
    | with_reducible refine Keeps.foldl _ _ ?_ (fun _ _ => ?_)
    | with_reducible refine State.mapPhases_keeps _ (maskLe_trans (by decide) hW) ?_ (fun _ _ h => ?_)
    | with_reducible refine State.joinRing_keeps  (maskLe_trans (by decide) hW) ?_
    | with_reducible refine State.startEngine_keeps  (maskLe_trans (by decide) hW) ?_
    | with_reducible refine Keeps.ite ?_ ?_
    | dsimp only
    | split

theorem State.joinStep_keeps {W : Nat} {s₀ s : State} (hW : maskLe 0x25010008006400200 W = true) (hk : Keeps W s₀ s) :
    Keeps W s₀ (State.joinStep s) := by
  unfold State.joinStep
  repeat' first
    | with_reducible assumption
    | with_reducible exact Keeps.refl _ _
    | with_reducible exact Bool.false_and _
    | intro _
    | with_reducible refine Keeps.foldl _ _ ?_ (fun _ _ => ?_)
    | with_reducible refine State.setLife_keeps _ (maskLe_trans (by decide) hW) ?_
    | with_reducible refine State.stepDone_keeps _ (maskLe_trans (by decide) hW) ?_
    | with_reducible refine Keeps.ite ?_ ?_
    | dsimp only
    | split

theorem State.stepToIdle_keeps {W : Nat} {s₀ s : State} (hW : maskLe 0x40002625012808007C20218 W = true) (hk : Keeps W s₀ s) :
    Keeps W s₀ (State.stepToIdle s) := by
  unfold State.stepToIdle
  repeat' first
    | with_reducible assumption
    | with_reducible exact Keeps.refl _ _
    | with_reducible exact Bool.false_and _
    | intro _
    | with_reducible refine Keeps.foldl _ _ ?_ (fun _ _ => ?_)
    | with_reducible refine State.setLife_keeps _ (maskLe_trans (by decide) hW) ?_
    | with_reducible refine State.stepDone_keeps _ (maskLe_trans (by decide) hW) ?_
    | with_reducible refine State.enterIdle_keeps  (maskLe_trans (by decide) hW) ?_
    | with_reducible refine State.joinStep_keeps  (maskLe_trans (by decide) hW) ?_
    | with_reducible refine Keeps.ite ?_ ?_
    | dsimp only
    | split

theorem execStandbyToIdle_keeps (s : State) : Keeps.Out 0x40002625012808007C20218 s (execStandbyToIdle s) := by
  unfold execStandbyToIdle
  repeat' first
    | with_reducible refine Keeps.out_next ?_
    | with_reducible refine Keeps.out_ite ?_ ?_
    | with_reducible assumption
    | with_reducible exact Keeps.refl _ _
    | with_reducible exact Bool.false_and _
    | intro _
    | with_reducible refine Keeps.foldl _ _ ?_ (fun _ _ => ?_)
    | with_reducible refine State.stepToIdle_keeps  (by decide) ?_
    | with_reducible refine Keeps.ite ?_ ?_
    | dsimp only
    | split

theorem execRingFrameSend_keeps (s : State) : Keeps.Out 0x4008062D116818026436218 s (execRingFrameSend s) := by
  unfold execRingFrameSend
  repeat' first
    | with_reducible refine Keeps.out_next ?_
    | with_reducible refine Keeps.out_ite ?_ ?_
    | with_reducible assumption
    | with_reducible exact Keeps.refl _ _
    | with_reducible exact Bool.false_and _
    | intro _
    | with_reducible refine Keeps.foldl _ _ ?_ (fun _ _ => ?_)
    | with_reducible refine State.sendFrame_keeps  (by decide) ?_
    | with_reducible refine State.joinStep_keeps  (by decide) ?_
    | with_reducible refine Keeps.ite ?_ ?_
    | dsimp only
    | split

theorem execRingLeadListenEnd_keeps (framesFound : Bool) (s : State) : Keeps.Out 0x8062D116818006436208 s (execRingLeadListenEnd framesFound s) := by
  unfold execRingLeadListenEnd
  repeat' first
    | with_reducible refine Keeps.out_next ?_
    | with_reducible refine Keeps.out_ite ?_ ?_
    | with_reducible assumption
    | with_reducible exact Keeps.refl _ _
    | with_reducible exact Bool.false_and _
    | intro _
    | with_reducible refine Keeps.foldl _ _ ?_ (fun _ _ => ?_)
    | with_reducible refine State.listenEnd_keeps _ (by decide) ?_
    | with_reducible refine State.joinStep_keeps  (by decide) ?_
    | with_reducible refine Keeps.ite ?_ ?_
    | dsimp only
    | split

theorem execRingLeaveComplete_keeps (s : State) : Keeps.Out 0x4008062D116818006436218 s (execRingLeaveComplete s) := by
  unfold execRingLeaveComplete
  repeat' first
    | with_reducible refine Keeps.out_next ?_
    | with_reducible refine Keeps.out_ite ?_ ?_
    | with_reducible assumption
    | with_reducible exact Keeps.refl _ _
    | with_reducible exact Bool.false_and _
    | intro _
    | with_reducible refine Keeps.foldl _ _ ?_ (fun _ _ => ?_)
    | with_reducible refine State.leaveComplete_keeps  (by decide) ?_
    | with_reducible refine State.joinStep_keeps  (by decide) ?_
    | with_reducible refine Keeps.ite ?_ ?_
    | dsimp only
    | split

theorem execRingDiscoveryEnd_keeps (s : State) : Keeps.Out 0x4008062D116818026436218 s (execRingDiscoveryEnd s) := by
  unfold execRingDiscoveryEnd
  repeat' first
    | with_reducible refine Keeps.out_next ?_
    | with_reducible refine Keeps.out_ite ?_ ?_
    | with_reducible assumption
    | with_reducible exact Keeps.refl _ _
    | with_reducible exact Bool.false_and _
    | intro _
    | with_reducible refine Keeps.foldl _ _ ?_ (fun _ _ => ?_)
    | with_reducible refine State.discoveryEnd_keeps  (by decide) ?_
    | with_reducible refine State.joinStep_keeps  (by decide) ?_
    | with_reducible refine Keeps.ite ?_ ?_
    | dsimp only
    | split

theorem execIdleToRun_keeps (s : State) : Keeps.Out 0x25010008006400200 s (execIdleToRun s) := by
  unfold execIdleToRun
  repeat' first
    | with_reducible refine Keeps.out_next ?_
    | with_reducible refine Keeps.out_ite ?_ ?_
    | with_reducible assumption
    | with_reducible exact Keeps.refl _ _
    | with_reducible exact Bool.false_and _
    | intro _
    | with_reducible refine Keeps.foldl _ _ ?_ (fun _ _ => ?_)
    | with_reducible refine State.stepDone_keeps _ (by decide) ?_
    | with_reducible refine Keeps.ite ?_ ?_
    | dsimp only
    | split

theorem execRunToIdle_keeps (s : State) : Keeps.Out 0x25010008006400200 s (execRunToIdle s) := by
  unfold execRunToIdle
  repeat' first
    | with_reducible refine Keeps.out_next ?_
    | with_reducible refine Keeps.out_ite ?_ ?_
    | with_reducible assumption
    | with_reducible exact Keeps.refl _ _
    | with_reducible exact Bool.false_and _
    | intro _
    | with_reducible refine Keeps.foldl _ _ ?_ (fun _ _ => ?_)
    | with_reducible refine State.stepDone_keeps _ (by decide) ?_
    | with_reducible refine Keeps.ite ?_ ?_
    | dsimp only
    | split

theorem State.enterStandby_keeps {W : Nat} {s₀ s : State} (hW : maskLe 0x80628000010000420000 W = true) (hk : Keeps W s₀ s) :
    Keeps W s₀ (State.enterStandby s) := by
  unfold State.enterStandby
  repeat' first
    | with_reducible assumption
    | with_reducible exact Keeps.refl _ _
    | with_reducible exact Bool.false_and _
    | intro _
    | with_reducible refine Keeps.foldl _ _ ?_ (fun _ _ => ?_)
    | with_reducible refine State.pwmHold_keeps  (maskLe_trans (by decide) hW) ?_
    | with_reducible refine State.driveOutline_keeps  (maskLe_trans (by decide) hW) ?_
    | with_reducible refine State.driveStore_keeps  (maskLe_trans (by decide) hW) ?_
    | with_reducible refine State.haltEngine_keeps  (maskLe_trans (by decide) hW) ?_
    | with_reducible refine Keeps.ite ?_ ?_
    | dsimp only
    | split

theorem execIdleToStandby_keeps (s : State) : Keeps.Out 0x8062D010018006420200 s (execIdleToStandby s) := by
  unfold execIdleToStandby
  repeat' first
    | with_reducible refine Keeps.out_next ?_
    | with_reducible refine Keeps.out_ite ?_ ?_
    | with_reducible assumption
    | with_reducible exact Keeps.refl _ _
    | with_reducible exact Bool.false_and _
    | intro _
    | with_reducible refine Keeps.foldl _ _ ?_ (fun _ _ => ?_)
    | with_reducible refine State.stepDone_keeps _ (by decide) ?_
    | with_reducible refine State.enterStandby_keeps  (by decide) ?_
    | with_reducible refine Keeps.ite ?_ ?_
    | dsimp only
    | split

theorem State.powerDown_keeps {W : Nat} {s₀ s : State} (target : Nat) (hW : maskLe 0x47008062D15681C13FFFEFFF W = true) (hk : Keeps W s₀ s) :
    Keeps W s₀ (State.powerDown s target) := by
  unfold State.powerDown
  repeat' first
    | with_reducible assumption
    | with_reducible exact siteIn_mono hW (siteIn_all (by decide))
    | with_reducible exact site_2100 hW (by decide)
    | with_reducible exact Keeps.refl _ _
    | with_reducible exact Bool.false_and _
    | intro _
    | with_reducible refine Keeps.foldl _ _ ?_ (fun _ _ => ?_)
    | with_reducible refine State.setLife_keeps _ (maskLe_trans (by decide) hW) ?_
    | with_reducible refine State.setSupply_keeps _ (maskLe_trans (by decide) hW) ?_
    | with_reducible refine State.putObj_keeps _ _ _ ?_ ?_
    | with_reducible refine State.forceFlush_keeps  (maskLe_trans (by decide) hW) ?_
    | with_reducible refine State.flushNow_keeps _ (maskLe_trans (by decide) hW) ?_
    | with_reducible refine State.endKinds_keeps  (maskLe_trans (by decide) hW) ?_
    | with_reducible refine State.saveNow_keeps _ (maskLe_trans (by decide) hW) ?_
    | with_reducible refine State.wiped_keeps  (maskLe_trans (by decide) hW) ?_
    | with_reducible refine State.usbDetach_keeps  (maskLe_trans (by decide) hW) ?_
    | with_reducible refine State.drainFifo_keeps _ (maskLe_trans (by decide) hW) ?_
    | with_reducible refine Keeps.ite ?_ ?_
    | dsimp only
    | split

theorem execStandbyToSleep_keeps (s : State) : Keeps.Out 0x47008062D15681C13FFFEFFF s (execStandbyToSleep s) := by
  unfold execStandbyToSleep
  repeat' first
    | with_reducible refine Keeps.out_next ?_
    | with_reducible refine Keeps.out_ite ?_ ?_
    | with_reducible assumption
    | with_reducible exact Keeps.refl _ _
    | with_reducible exact Bool.false_and _
    | intro _
    | with_reducible refine Keeps.foldl _ _ ?_ (fun _ _ => ?_)
    | with_reducible refine State.powerDown_keeps _ (by decide) ?_
    | with_reducible refine Keeps.ite ?_ ?_
    | dsimp only
    | split

theorem execStandbyToOff_keeps (s : State) : Keeps.Out 0x47008062D15681C13FFFEFFF s (execStandbyToOff s) := by
  unfold execStandbyToOff
  repeat' first
    | with_reducible refine Keeps.out_next ?_
    | with_reducible refine Keeps.out_ite ?_ ?_
    | with_reducible assumption
    | with_reducible exact Keeps.refl _ _
    | with_reducible exact Bool.false_and _
    | intro _
    | with_reducible refine Keeps.foldl _ _ ?_ (fun _ _ => ?_)
    | with_reducible refine State.powerDown_keeps _ (by decide) ?_
    | with_reducible refine Keeps.ite ?_ ?_
    | dsimp only
    | split

theorem State.wakeUp_keeps {W : Nat} {s₀ s : State} (held : Bool) (hW : maskLe 0x1411810401818541FFFFFFF W = true) (hk : Keeps W s₀ s) :
    Keeps W s₀ (State.wakeUp s held) := by
  unfold State.wakeUp
  repeat' first
    | with_reducible assumption
    | with_reducible exact Keeps.refl _ _
    | with_reducible exact Bool.false_and _
    | intro _
    | with_reducible refine Keeps.foldl _ _ ?_ (fun _ _ => ?_)
    | with_reducible refine State.setLife_keeps _ (maskLe_trans (by decide) hW) ?_
    | with_reducible refine State.release_keeps  (maskLe_trans (by decide) hW) ?_
    | with_reducible refine Keeps.ite ?_ ?_
    | dsimp only
    | split

theorem execSleepWake_keeps (source : WakeSource) (s : State) : Keeps.Out 0x1411810401818541FFFFFFF s (execSleepWake source s) := by
  unfold execSleepWake
  repeat' first
    | with_reducible refine Keeps.out_next ?_
    | with_reducible refine Keeps.out_ite ?_ ?_
    | with_reducible assumption
    | with_reducible exact Keeps.refl _ _
    | with_reducible exact Bool.false_and _
    | intro _
    | with_reducible refine Keeps.foldl _ _ ?_ (fun _ _ => ?_)
    | with_reducible refine State.wakeUp_keeps _ (by decide) ?_
    | with_reducible refine Keeps.ite ?_ ?_
    | dsimp only
    | split

theorem execResetPin_keeps (s : State) : Keeps.Out 0x5411810401A98541FFFFFFF s (execResetPin s) := by
  unfold execResetPin
  repeat' first
    | with_reducible refine Keeps.out_next ?_
    | with_reducible refine Keeps.out_ite ?_ ?_
    | with_reducible assumption
    | with_reducible exact Keeps.refl _ _
    | with_reducible exact Bool.false_and _
    | intro _
    | with_reducible refine Keeps.foldl _ _ ?_ (fun _ _ => ?_)
    | with_reducible refine State.causeReset_keeps _ (by decide) ?_
    | with_reducible refine State.wakeUp_keeps _ (by decide) ?_
    | with_reducible refine Keeps.ite ?_ ?_
    | dsimp only
    | split

theorem execResetEffect_keeps (s : State) : Keeps.Out 0x1FFFEFFF s (execResetEffect s) := by
  unfold execResetEffect
  repeat' first
    | with_reducible refine Keeps.out_next ?_
    | with_reducible refine Keeps.out_ite ?_ ?_
    | with_reducible assumption
    | with_reducible exact Keeps.refl _ _
    | with_reducible exact Bool.false_and _
    | intro _
    | with_reducible refine Keeps.foldl _ _ ?_ (fun _ _ => ?_)
    | with_reducible refine State.resetEffect_keeps  (by decide) ?_
    | with_reducible refine Keeps.ite ?_ ?_
    | dsimp only
    | split

theorem execResetRelease_keeps (s : State) : Keeps.Out 0x1411810401818541FFFFFFF s (execResetRelease s) := by
  unfold execResetRelease
  repeat' first
    | with_reducible refine Keeps.out_next ?_
    | with_reducible refine Keeps.out_ite ?_ ?_
    | with_reducible assumption
    | with_reducible exact Keeps.refl _ _
    | with_reducible exact Bool.false_and _
    | intro _
    | with_reducible refine Keeps.foldl _ _ ?_ (fun _ _ => ?_)
    | with_reducible refine State.release_keeps  (by decide) ?_
    | with_reducible refine Keeps.ite ?_ ?_
    | dsimp only
    | split

theorem State.watchdogReset_keeps {W : Nat} {s₀ s : State} (hW : maskLe 0x50000000002800014000298 W = true) (hk : Keeps W s₀ s) :
    Keeps W s₀ (State.watchdogReset s) := by
  unfold State.watchdogReset
  repeat' first
    | with_reducible assumption
    | with_reducible exact Keeps.refl _ _
    | with_reducible exact Bool.false_and _
    | intro _
    | with_reducible refine Keeps.foldl _ _ ?_ (fun _ _ => ?_)
    | with_reducible refine State.setLife_keeps _ (maskLe_trans (by decide) hW) ?_
    | with_reducible refine State.causeReset_keeps _ (maskLe_trans (by decide) hW) ?_
    | with_reducible refine Keeps.ite ?_ ?_
    | dsimp only
    | split

theorem execWatchdogExpiry_keeps (s : State) : Keeps.Out 0x50000000002800014000298 s (execWatchdogExpiry s) := by
  unfold execWatchdogExpiry
  repeat' first
    | with_reducible refine Keeps.out_next ?_
    | with_reducible refine Keeps.out_ite ?_ ?_
    | with_reducible assumption
    | with_reducible exact Keeps.refl _ _
    | with_reducible exact Bool.false_and _
    | intro _
    | with_reducible refine Keeps.foldl _ _ ?_ (fun _ _ => ?_)
    | with_reducible refine State.watchdogReset_keeps  (by decide) ?_
    | with_reducible refine Keeps.ite ?_ ?_
    | dsimp only
    | split

theorem State.thermalReset_keeps {W : Nat} {s₀ s : State} (tenths : Int) (hW : maskLe 0x45008062D116810136436298 W = true) (hk : Keeps W s₀ s) :
    Keeps W s₀ (State.thermalReset s tenths) := by
  unfold State.thermalReset
  repeat' first
    | with_reducible assumption
    | with_reducible exact site_5f00 hW (by decide)
    | with_reducible exact Keeps.refl _ _
    | with_reducible exact Bool.false_and _
    | intro _
    | with_reducible refine Keeps.foldl _ _ ?_ (fun _ _ => ?_)
    | with_reducible refine State.setLife_keeps _ (maskLe_trans (by decide) hW) ?_
    | with_reducible refine State.putObj_keeps _ _ _ ?_ ?_
    | with_reducible refine State.raise_keeps _ _ (maskLe_trans (by decide) hW) ?_
    | with_reducible refine State.causeReset_keeps _ (maskLe_trans (by decide) hW) ?_
    | with_reducible refine State.drainFifo_keeps _ (maskLe_trans (by decide) hW) ?_
    | with_reducible refine Keeps.ite ?_ ?_
    | dsimp only
    | split

theorem execThermalReset_keeps (junction : BitVec 16) (s : State) : Keeps.Out 0x45008062D116810136436298 s (execThermalReset junction s) := by
  unfold execThermalReset
  repeat' first
    | with_reducible refine Keeps.out_next ?_
    | with_reducible refine Keeps.out_ite ?_ ?_
    | with_reducible assumption
    | with_reducible exact Keeps.refl _ _
    | with_reducible exact Bool.false_and _
    | intro _
    | with_reducible refine Keeps.foldl _ _ ?_ (fun _ _ => ?_)
    | with_reducible refine State.thermalReset_keeps _ (by decide) ?_
    | with_reducible refine Keeps.ite ?_ ?_
    | dsimp only
    | split

theorem execThermalRelease_keeps (s : State) : Keeps.Out 0x1411810401818541FFFFFFF s (execThermalRelease s) := by
  unfold execThermalRelease
  repeat' first
    | with_reducible refine Keeps.out_next ?_
    | with_reducible refine Keeps.out_ite ?_ ?_
    | with_reducible assumption
    | with_reducible exact Keeps.refl _ _
    | with_reducible exact Bool.false_and _
    | intro _
    | with_reducible refine Keeps.foldl _ _ ?_ (fun _ _ => ?_)
    | with_reducible refine State.setLife_keeps _ (by decide) ?_
    | with_reducible refine State.release_keeps  (by decide) ?_
    | with_reducible refine Keeps.ite ?_ ?_
    | dsimp only
    | split

theorem State.junction_keeps {W : Nat} {s₀ s : State} (tenths : Int) (hW : maskLe 0x44008062D116810006436018 W = true) (hk : Keeps W s₀ s) :
    Keeps W s₀ (State.junction s tenths) := by
  unfold State.junction
  repeat' first
    | with_reducible assumption
    | with_reducible exact site_5f00 hW (by decide)
    | with_reducible exact Keeps.refl _ _
    | with_reducible exact Bool.false_and _
    | intro _
    | with_reducible refine Keeps.foldl _ _ ?_ (fun _ _ => ?_)
    | with_reducible refine State.putObj_keeps _ _ _ ?_ ?_
    | with_reducible refine State.raise_keeps _ _ (maskLe_trans (by decide) hW) ?_
    | with_reducible refine State.endEvent_keeps _ _ (maskLe_trans (by decide) hW) ?_
    | with_reducible refine Keeps.ite ?_ ?_
    | dsimp only
    | split

theorem execJunctionTemperatureHigh_keeps (junction : BitVec 16) (s : State) : Keeps.Out 0x44008062D116810006436018 s (execJunctionTemperatureHigh junction s) := by
  unfold execJunctionTemperatureHigh
  repeat' first
    | with_reducible refine Keeps.out_next ?_
    | with_reducible refine Keeps.out_ite ?_ ?_
    | with_reducible assumption
    | with_reducible exact Keeps.refl _ _
    | with_reducible exact Bool.false_and _
    | intro _
    | with_reducible refine Keeps.foldl _ _ ?_ (fun _ _ => ?_)
    | with_reducible refine State.junction_keeps _ (by decide) ?_
    | with_reducible refine Keeps.ite ?_ ?_
    | dsimp only
    | split

theorem State.vinLost_keeps {W : Nat} {s₀ s : State} (hW : maskLe 0x8062D116818006436608 W = true) (hk : Keeps W s₀ s) :
    Keeps W s₀ (State.vinLost s) := by
  unfold State.vinLost
  repeat' first
    | with_reducible assumption
    | with_reducible exact site_2100 hW (by decide)
    | with_reducible exact Keeps.refl _ _
    | with_reducible exact Bool.false_and _
    | intro _
    | with_reducible refine Keeps.foldl _ _ ?_ (fun _ _ => ?_)
    | with_reducible refine State.setLife_keeps _ (maskLe_trans (by decide) hW) ?_
    | with_reducible refine State.setSupply_keeps _ (maskLe_trans (by decide) hW) ?_
    | with_reducible refine State.putObj_keeps _ _ _ ?_ ?_
    | with_reducible refine State.leaveRing_keeps _ (maskLe_trans (by decide) hW) ?_
    | with_reducible refine State.raise_keeps _ _ (maskLe_trans (by decide) hW) ?_
    | with_reducible refine State.enterStandby_keeps  (maskLe_trans (by decide) hW) ?_
    | with_reducible refine Keeps.ite ?_ ?_
    | dsimp only
    | split

theorem State.vinFalls_keeps {W : Nat} {s₀ s : State} (hW : maskLe 0x8062D11681803FFFEFFF W = true) (hk : Keeps W s₀ s) :
    Keeps W s₀ (State.vinFalls s) := by
  unfold State.vinFalls
  repeat' first
    | with_reducible assumption
    | with_reducible exact Keeps.refl _ _
    | with_reducible exact Bool.false_and _
    | intro _
    | with_reducible refine Keeps.foldl _ _ ?_ (fun _ _ => ?_)
    | with_reducible refine State.setSupply_keeps _ (maskLe_trans (by decide) hW) ?_
    | with_reducible refine State.supplyLost_keeps  (maskLe_trans (by decide) hW) ?_
    | with_reducible refine State.outlineResupply_keeps  (maskLe_trans (by decide) hW) ?_
    | with_reducible refine State.vinLost_keeps  (maskLe_trans (by decide) hW) ?_
    | with_reducible refine Keeps.ite ?_ ?_
    | dsimp only
    | split

theorem execVinRise_keeps (mv : BitVec 16) (s : State) : Keeps.Out 0x80000000080000024600 s (execVinRise mv s) := by
  unfold execVinRise
  repeat' first
    | with_reducible refine Keeps.out_next ?_
    | with_reducible refine Keeps.out_ite ?_ ?_
    | with_reducible assumption
    | with_reducible exact site_2130 (maskLe_refl _) (by decide)
    | with_reducible exact Keeps.refl _ _
    | with_reducible exact Bool.false_and _
    | intro _
    | with_reducible refine Keeps.foldl _ _ ?_ (fun _ _ => ?_)
    | with_reducible refine State.setSupply_keeps _ (by decide) ?_
    | with_reducible refine State.putObj_keeps _ _ _ ?_ ?_
    | with_reducible refine State.supplyBack_keeps  (by decide) ?_
    | with_reducible refine State.outlineResupply_keeps  (by decide) ?_
    | with_reducible refine Keeps.ite ?_ ?_
    | dsimp only
    | split

theorem execVinFall_keeps (mv : BitVec 16) (s : State) : Keeps.Out 0x8062D11689803FFFEFFF s (execVinFall mv s) := by
  unfold execVinFall
  repeat' first
    | with_reducible refine Keeps.out_next ?_
    | with_reducible refine Keeps.out_ite ?_ ?_
    | with_reducible assumption
    | with_reducible exact siteIn_mono (maskLe_refl _) (siteIn_all (by decide))
    | with_reducible exact site_2130 (maskLe_refl _) (by decide)
    | with_reducible exact Keeps.refl _ _
    | with_reducible exact Bool.false_and _
    | intro _
    | with_reducible refine Keeps.foldl _ _ ?_ (fun _ _ => ?_)
    | with_reducible refine State.putObj_keeps _ _ _ ?_ ?_
    | with_reducible refine State.vinFalls_keeps  (by decide) ?_
    | with_reducible refine Keeps.ite ?_ ?_
    | dsimp only
    | split

theorem execVbusRise_keeps (mv : BitVec 16) (s : State) : Keeps.Out 0x40080000000600 s (execVbusRise mv s) := by
  unfold execVbusRise
  repeat' first
    | with_reducible refine Keeps.out_next ?_
    | with_reducible refine Keeps.out_ite ?_ ?_
    | with_reducible assumption
    | with_reducible exact site_2130 (maskLe_refl _) (by decide)
    | with_reducible exact Keeps.refl _ _
    | with_reducible exact Bool.false_and _
    | intro _
    | with_reducible refine Keeps.foldl _ _ ?_ (fun _ _ => ?_)
    | with_reducible refine State.setSupply_keeps _ (by decide) ?_
    | with_reducible refine State.putObj_keeps _ _ _ ?_ ?_
    | with_reducible refine State.supplyBack_keeps  (by decide) ?_
    | with_reducible refine State.usbAttach_keeps  (by decide) ?_
    | with_reducible refine Keeps.ite ?_ ?_
    | dsimp only
    | split

theorem State.vbusFalls_keeps {W : Nat} {s₀ s : State} (hW : maskLe 0x8062D15681403FFFEFFF W = true) (hk : Keeps W s₀ s) :
    Keeps W s₀ (State.vbusFalls s) := by
  unfold State.vbusFalls
  repeat' first
    | with_reducible assumption
    | with_reducible exact Keeps.refl _ _
    | with_reducible exact Bool.false_and _
    | intro _
    | with_reducible refine Keeps.foldl _ _ ?_ (fun _ _ => ?_)
    | with_reducible refine State.setSupply_keeps _ (maskLe_trans (by decide) hW) ?_
    | with_reducible refine State.supplyLost_keeps  (maskLe_trans (by decide) hW) ?_
    | with_reducible refine State.usbDetach_keeps  (maskLe_trans (by decide) hW) ?_
    | with_reducible refine Keeps.ite ?_ ?_
    | dsimp only
    | split

theorem execVbusFall_keeps (mv : BitVec 16) (s : State) : Keeps.Out 0x8062D15689403FFFEFFF s (execVbusFall mv s) := by
  unfold execVbusFall
  repeat' first
    | with_reducible refine Keeps.out_next ?_
    | with_reducible refine Keeps.out_ite ?_ ?_
    | with_reducible assumption
    | with_reducible exact siteIn_mono (maskLe_refl _) (siteIn_all (by decide))
    | with_reducible exact site_2130 (maskLe_refl _) (by decide)
    | with_reducible exact Keeps.refl _ _
    | with_reducible exact Bool.false_and _
    | intro _
    | with_reducible refine Keeps.foldl _ _ ?_ (fun _ _ => ?_)
    | with_reducible refine State.putObj_keeps _ _ _ ?_ ?_
    | with_reducible refine State.vbusFalls_keeps  (by decide) ?_
    | with_reducible refine Keeps.ite ?_ ?_
    | dsimp only
    | split

theorem State.vinRestored_keeps {W : Nat} {s₀ s : State} (hW : maskLe 0x40002625012808007C20618 W = true) (hk : Keeps W s₀ s) :
    Keeps W s₀ (State.vinRestored s) := by
  unfold State.vinRestored
  repeat' first
    | with_reducible assumption
    | with_reducible exact site_2100 hW (by decide)
    | with_reducible exact Keeps.refl _ _
    | with_reducible exact Bool.false_and _
    | intro _
    | with_reducible refine Keeps.foldl _ _ ?_ (fun _ _ => ?_)
    | with_reducible refine State.setSupply_keeps _ (maskLe_trans (by decide) hW) ?_
    | with_reducible refine State.putObj_keeps _ _ _ ?_ ?_
    | with_reducible refine State.endEvent_keeps _ _ (maskLe_trans (by decide) hW) ?_
    | with_reducible refine State.nextStep_keeps  (maskLe_trans (by decide) hW) ?_
    | with_reducible refine State.enterIdle_keeps  (maskLe_trans (by decide) hW) ?_
    | with_reducible refine Keeps.ite ?_ ?_
    | dsimp only
    | split

theorem execVinRestoredTimer_keeps (s : State) : Keeps.Out 0x40002625012808007C20618 s (execVinRestoredTimer s) := by
  unfold execVinRestoredTimer
  repeat' first
    | with_reducible refine Keeps.out_next ?_
    | with_reducible refine Keeps.out_ite ?_ ?_
    | with_reducible assumption
    | with_reducible exact Keeps.refl _ _
    | with_reducible exact Bool.false_and _
    | intro _
    | with_reducible refine Keeps.foldl _ _ ?_ (fun _ _ => ?_)
    | with_reducible refine State.vinRestored_keeps  (by decide) ?_
    | with_reducible refine Keeps.ite ?_ ?_
    | dsimp only
    | split

theorem execVbatFall_keeps (mv : BitVec 16) (s : State) : Keeps.Out 0x80000000E00 s (execVbatFall mv s) := by
  unfold execVbatFall
  repeat' first
    | with_reducible refine Keeps.out_next ?_
    | with_reducible refine Keeps.out_ite ?_ ?_
    | with_reducible assumption
    | with_reducible exact site_2130 (maskLe_refl _) (by decide)
    | with_reducible exact Keeps.refl _ _
    | with_reducible exact Bool.false_and _
    | intro _
    | with_reducible refine Keeps.foldl _ _ ?_ (fun _ _ => ?_)
    | with_reducible refine State.setSupply_keeps _ (by decide) ?_
    | with_reducible refine State.putObj_keeps _ _ _ ?_ ?_
    | with_reducible refine State.retainedGone_keeps  (by decide) ?_
    | with_reducible refine Keeps.ite ?_ ?_
    | dsimp only
    | split

theorem execVbatRise_keeps (mv : BitVec 16) (s : State) : Keeps.Out 0x80000000400 s (execVbatRise mv s) := by
  unfold execVbatRise
  repeat' first
    | with_reducible refine Keeps.out_next ?_
    | with_reducible refine Keeps.out_ite ?_ ?_
    | with_reducible assumption
    | with_reducible exact site_2130 (maskLe_refl _) (by decide)
    | with_reducible exact Keeps.refl _ _
    | with_reducible exact Bool.false_and _
    | intro _
    | with_reducible refine Keeps.foldl _ _ ?_ (fun _ _ => ?_)
    | with_reducible refine State.setSupply_keeps _ (by decide) ?_
    | with_reducible refine State.putObj_keeps _ _ _ ?_ ?_
    | with_reducible refine Keeps.ite ?_ ?_
    | dsimp only
    | split

theorem State.putVpwm_keeps {W : Nat} {s₀ s : State} (mv : Nat) (hW : maskLe 0x400000000000000000000000 W = true) (hk : Keeps W s₀ s) :
    Keeps W s₀ (State.putVpwm s mv) := by
  unfold State.putVpwm
  repeat' first
    | with_reducible assumption
    | with_reducible exact site_5f00 hW (by decide)
    | with_reducible exact Keeps.refl _ _
    | with_reducible exact Bool.false_and _
    | intro _
    | with_reducible refine Keeps.foldl _ _ ?_ (fun _ _ => ?_)
    | with_reducible refine State.putObj_keeps _ _ _ ?_ ?_
    | with_reducible refine Keeps.ite ?_ ?_
    | dsimp only
    | split

theorem State.vpwmFalls_keeps {W : Nat} {s₀ s : State} (mv : Nat) (hW : maskLe 0x8062D116810006436408 W = true) (hk : Keeps W s₀ s) :
    Keeps W s₀ (State.vpwmFalls s mv) := by
  unfold State.vpwmFalls
  repeat' first
    | with_reducible assumption
    | with_reducible exact Keeps.refl _ _
    | with_reducible exact Bool.false_and _
    | intro _
    | with_reducible refine Keeps.foldl _ _ ?_ (fun _ _ => ?_)
    | with_reducible refine State.setSupply_keeps _ (maskLe_trans (by decide) hW) ?_
    | with_reducible refine State.pwmHold_keeps  (maskLe_trans (by decide) hW) ?_
    | with_reducible refine State.raise_keeps _ _ (maskLe_trans (by decide) hW) ?_
    | with_reducible refine State.outlineResupply_keeps  (maskLe_trans (by decide) hW) ?_
    | with_reducible refine Keeps.ite ?_ ?_
    | dsimp only
    | split

theorem execVpwmLow_keeps (mv : BitVec 16) (s : State) : Keeps.Out 0x40008062D116810006436408 s (execVpwmLow mv s) := by
  unfold execVpwmLow
  repeat' first
    | with_reducible refine Keeps.out_next ?_
    | with_reducible refine Keeps.out_ite ?_ ?_
    | with_reducible assumption
    | with_reducible exact Keeps.refl _ _
    | with_reducible exact Bool.false_and _
    | intro _
    | with_reducible refine Keeps.foldl _ _ ?_ (fun _ _ => ?_)
    | with_reducible refine State.putVpwm_keeps _ (by decide) ?_
    | with_reducible refine State.vpwmFalls_keeps _ (by decide) ?_
    | with_reducible refine Keeps.ite ?_ ?_
    | dsimp only
    | split

theorem State.vpwmRises_keeps {W : Nat} {s₀ s : State} (mv : Nat) (hW : maskLe 0x40080000002800000024418 W = true) (hk : Keeps W s₀ s) :
    Keeps W s₀ (State.vpwmRises s mv) := by
  unfold State.vpwmRises
  repeat' first
    | with_reducible assumption
    | with_reducible exact Keeps.refl _ _
    | with_reducible exact Bool.false_and _
    | intro _
    | with_reducible refine Keeps.foldl _ _ ?_ (fun _ _ => ?_)
    | with_reducible refine State.setSupply_keeps _ (maskLe_trans (by decide) hW) ?_
    | with_reducible refine State.endEvent_keeps _ _ (maskLe_trans (by decide) hW) ?_
    | with_reducible refine State.outlineResupply_keeps  (maskLe_trans (by decide) hW) ?_
    | with_reducible refine Keeps.ite ?_ ?_
    | dsimp only
    | split

theorem execVpwmRestored_keeps (mv : BitVec 16) (s : State) : Keeps.Out 0x440080000002800000024418 s (execVpwmRestored mv s) := by
  unfold execVpwmRestored
  repeat' first
    | with_reducible refine Keeps.out_next ?_
    | with_reducible refine Keeps.out_ite ?_ ?_
    | with_reducible assumption
    | with_reducible exact Keeps.refl _ _
    | with_reducible exact Bool.false_and _
    | intro _
    | with_reducible refine Keeps.foldl _ _ ?_ (fun _ _ => ?_)
    | with_reducible refine State.putVpwm_keeps _ (by decide) ?_
    | with_reducible refine State.vpwmRises_keeps _ (by decide) ?_
    | with_reducible refine Keeps.ite ?_ ?_
    | dsimp only
    | split

theorem State.abortStore_keeps {W : Nat} {s₀ s : State} (hW : maskLe 0x81A0 W = true) (hk : Keeps W s₀ s) :
    Keeps W s₀ (State.abortStore s) := by
  unfold State.abortStore
  repeat' first
    | with_reducible assumption
    | with_reducible exact Keeps.refl _ _
    | with_reducible exact Bool.false_and _
    | intro _
    | with_reducible refine Keeps.foldl _ _ ?_ (fun _ _ => ?_)
    | with_reducible refine State.setFlash_keeps _ (maskLe_trans (by decide) hW) ?_
    | with_reducible refine State.answer_keeps _ _ _ _ (maskLe_trans (by decide) hW) ?_
    | with_reducible refine Keeps.ite ?_ ?_
    | dsimp only
    | split

theorem State.startWarning_keeps {W : Nat} {s₀ s : State} (mask : Nat) (hW : maskLe 0x44008062D11689013643E5B8 W = true) (hk : Keeps W s₀ s) :
    Keeps W s₀ (State.startWarning s mask) := by
  unfold State.startWarning
  repeat' first
    | with_reducible assumption
    | with_reducible exact site_2130 hW (by decide)
    | with_reducible exact Keeps.refl _ _
    | with_reducible exact Bool.false_and _
    | intro _
    | with_reducible refine Keeps.foldl _ _ ?_ (fun _ _ => ?_)
    | with_reducible refine State.setSupply_keeps _ (maskLe_trans (by decide) hW) ?_
    | with_reducible refine State.setEnergy_keeps _ (maskLe_trans (by decide) hW) ?_
    | with_reducible refine State.putObj_keeps _ _ _ ?_ ?_
    | with_reducible refine State.bump_keeps _ _ ?_  ?_
    | with_reducible refine State.raise_keeps _ _ (maskLe_trans (by decide) hW) ?_
    | with_reducible refine State.forceFlush_keeps  (maskLe_trans (by decide) hW) ?_
    | with_reducible refine State.beginCopy_keeps _ (maskLe_trans (by decide) hW) ?_
    | with_reducible refine State.drainFifo_keeps _ (maskLe_trans (by decide) hW) ?_
    | with_reducible refine State.abortStore_keeps  (maskLe_trans (by decide) hW) ?_
    | with_reducible refine Keeps.ite ?_ ?_
    | dsimp only
    | split

theorem State.flushComplete_keeps {W : Nat} {s₀ s : State} (us : Nat) (hW : maskLe 0x60000000042880010000518 W = true) (hk : Keeps W s₀ s) :
    Keeps W s₀ (State.flushComplete s us) := by
  unfold State.flushComplete
  repeat' first
    | with_reducible assumption
    | with_reducible exact site_2130 hW (by decide)
    | with_reducible exact Keeps.refl _ _
    | with_reducible exact Bool.false_and _
    | intro _
    | with_reducible refine Keeps.foldl _ _ ?_ (fun _ _ => ?_)
    | with_reducible refine State.setSupply_keeps _ (maskLe_trans (by decide) hW) ?_
    | with_reducible refine State.putObj_keeps _ _ _ ?_ ?_
    | with_reducible refine State.putBit_keeps _ _ _ _ ?_  ?_
    | with_reducible refine State.flushWrites_keeps _ (maskLe_trans (by decide) hW) ?_
    | with_reducible refine State.copyDone_keeps  (maskLe_trans (by decide) hW) ?_
    | with_reducible refine Keeps.ite ?_ ?_
    | dsimp only
    | split

theorem execPowerFailFlushComplete_keeps (us : BitVec 16) (s : State) : Keeps.Out 0x60000000042880010000518 s (execPowerFailFlushComplete us s) := by
  unfold execPowerFailFlushComplete
  repeat' first
    | with_reducible refine Keeps.out_next ?_
    | with_reducible refine Keeps.out_ite ?_ ?_
    | with_reducible assumption
    | with_reducible exact Keeps.refl _ _
    | with_reducible exact Bool.false_and _
    | intro _
    | with_reducible refine Keeps.foldl _ _ ?_ (fun _ _ => ?_)
    | with_reducible refine State.flushComplete_keeps _ (by decide) ?_
    | with_reducible refine Keeps.ite ?_ ?_
    | dsimp only
    | split

theorem State.endWarning_keeps {W : Nat} {s₀ s : State} (hW : maskLe 0x8062D116890016436418 W = true) (hk : Keeps W s₀ s) :
    Keeps W s₀ (State.endWarning s) := by
  unfold State.endWarning
  repeat' first
    | with_reducible assumption
    | with_reducible exact site_2130 hW (by decide)
    | with_reducible exact Keeps.refl _ _
    | with_reducible exact Bool.false_and _
    | intro _
    | with_reducible refine Keeps.foldl _ _ ?_ (fun _ _ => ?_)
    | with_reducible refine State.setSupply_keeps _ (maskLe_trans (by decide) hW) ?_
    | with_reducible refine State.putObj_keeps _ _ _ ?_ ?_
    | with_reducible refine State.raise_keeps _ _ (maskLe_trans (by decide) hW) ?_
    | with_reducible refine State.startWrite_keeps  (maskLe_trans (by decide) hW) ?_
    | with_reducible refine State.startErase_keeps  (maskLe_trans (by decide) hW) ?_
    | with_reducible refine State.startSave_keeps  (maskLe_trans (by decide) hW) ?_
    | with_reducible refine Keeps.ite ?_ ?_
    | dsimp only
    | split

end Sys2Proof.Machine
end

