-- ==== Sys2Proof/Laws/KeepsLadder.lean ====
section
/-! SUPPORT. What the operations of Machine/Ladder.lean keep. -/

namespace Sys2Proof.Machine

theorem execEventRaise_keeps (event : Fin 640) (data : BitVec 64) (s : State) : Keeps.Out 0x8062D116810006436008 s (execEventRaise event data s) := by
  unfold execEventRaise
  repeat' first
    | with_reducible refine Keeps.out_next ?_
    | with_reducible refine Keeps.out_ite ?_ ?_
    | with_reducible assumption
    | with_reducible exact Keeps.refl _ _
    | with_reducible exact Bool.false_and _
    | intro _
    | with_reducible refine Keeps.foldl _ _ ?_ (fun _ _ => ?_)
    | with_reducible refine State.raise_keeps _ _ (by decide) ?_
    | with_reducible refine Keeps.ite ?_ ?_
    | dsimp only
    | split

theorem State.conditionEnds_keeps {W : Nat} {s₀ s : State} (event data : Nat) (hW : maskLe 0x40000000002800000000098 W = true) (hk : Keeps W s₀ s) :
    Keeps W s₀ (State.conditionEnds s event data) := by
  unfold State.conditionEnds
  repeat' first
    | with_reducible assumption
    | with_reducible exact Keeps.refl _ _
    | with_reducible exact Bool.false_and _
    | intro _
    | with_reducible refine Keeps.foldl _ _ ?_ (fun _ _ => ?_)
    | with_reducible refine State.setCan_keeps _ (maskLe_trans (by decide) hW) ?_
    | with_reducible refine State.endEvent_keeps _ _ (maskLe_trans (by decide) hW) ?_
    | with_reducible refine Keeps.ite ?_ ?_
    | dsimp only
    | split

theorem execEventConditionEnd_keeps (event : Fin 640) (data : BitVec 64) (s : State) : Keeps.Out 0x40000000002800000000098 s (execEventConditionEnd event data s) := by
  unfold execEventConditionEnd
  repeat' first
    | with_reducible refine Keeps.out_next ?_
    | with_reducible refine Keeps.out_ite ?_ ?_
    | with_reducible assumption
    | with_reducible exact Keeps.refl _ _
    | with_reducible exact Bool.false_and _
    | intro _
    | with_reducible refine Keeps.foldl _ _ ?_ (fun _ _ => ?_)
    | with_reducible refine State.conditionEnds_keeps _ _ (by decide) ?_
    | with_reducible refine Keeps.ite ?_ ?_
    | dsimp only
    | split

theorem execFifoEntryProcess_keeps (s : State) : Keeps.Out 0x440000000002800120000098 s (execFifoEntryProcess s) := by
  unfold execFifoEntryProcess
  repeat' first
    | with_reducible refine Keeps.out_next ?_
    | with_reducible refine Keeps.out_ite ?_ ?_
    | with_reducible assumption
    | with_reducible exact Keeps.refl _ _
    | with_reducible exact Bool.false_and _
    | intro _
    | with_reducible refine Keeps.foldl _ _ ?_ (fun _ _ => ?_)
    | with_reducible refine State.processFifo_keeps  (by decide) ?_
    | with_reducible refine Keeps.ite ?_ ?_
    | dsimp only
    | split

theorem execOverflowRequeue_keeps (s : State) : Keeps.Out 0x2000000000008 s (execOverflowRequeue s) := by
  unfold execOverflowRequeue
  repeat' first
    | with_reducible refine Keeps.out_next ?_
    | with_reducible refine Keeps.out_ite ?_ ?_
    | with_reducible assumption
    | with_reducible exact Keeps.refl _ _
    | with_reducible exact Bool.false_and _
    | intro _
    | with_reducible refine Keeps.foldl _ _ ?_ (fun _ _ => ?_)
    | with_reducible refine State.requeue_keeps  (by decide) ?_
    | with_reducible refine Keeps.ite ?_ ?_
    | dsimp only
    | split

theorem State.keepUncleared_keeps {W : Nat} {s₀ s : State} (keep : Uncleared → Bool) (hW : maskLe 0x800000000008 W = true) (hk : Keeps W s₀ s) :
    Keeps W s₀ (State.keepUncleared s keep) := by
  unfold State.keepUncleared
  repeat' first
    | with_reducible assumption
    | with_reducible exact site_2300 hW (by decide)
    | with_reducible exact Keeps.refl _ _
    | with_reducible exact Bool.false_and _
    | intro _
    | with_reducible refine Keeps.foldl _ _ ?_ (fun _ _ => ?_)
    | with_reducible refine State.setFabric_keeps _ (maskLe_trans (by decide) hW) ?_
    | with_reducible refine State.putObj_keeps _ _ _ ?_ ?_
    | with_reducible refine State.putBit_keeps _ _ _ _ ?_  ?_
    | with_reducible refine Keeps.ite ?_ ?_
    | dsimp only
    | split

theorem State.clearEvents_keeps {W : Nat} {s₀ s : State} (arg : Nat) (hW : maskLe 0x800000000008 W = true) (hk : Keeps W s₀ s) :
    Keeps W s₀ (State.clearEvents s arg) := by
  unfold State.clearEvents
  repeat' first
    | with_reducible assumption
    | with_reducible exact Keeps.refl _ _
    | with_reducible exact Bool.false_and _
    | intro _
    | with_reducible refine Keeps.foldl _ _ ?_ (fun _ _ => ?_)
    | with_reducible refine State.keepUncleared_keeps _ (maskLe_trans (by decide) hW) ?_
    | with_reducible refine Keeps.ite ?_ ?_
    | dsimp only
    | split

theorem State.putResponse_keeps {W : Nat} {s₀ s : State} (sub v : Nat) (hW : maskLe 0x2800000000000 W = true) (hk : Keeps W s₀ s) :
    Keeps W s₀ (State.putResponse s sub v) := by
  unfold State.putResponse
  repeat' first
    | with_reducible assumption
    | with_reducible exact site_2300 hW (by decide)
    | with_reducible exact Keeps.refl _ _
    | with_reducible exact Bool.false_and _
    | intro _
    | with_reducible refine Keeps.foldl _ _ ?_ (fun _ _ => ?_)
    | with_reducible refine State.putObj_keeps _ _ _ ?_ ?_
    | with_reducible refine State.interrupt_keeps _ (maskLe_trans (by decide) hW) ?_
    | with_reducible refine Keeps.ite ?_ ?_
    | dsimp only
    | split

theorem State.dropResponseCauses_keeps {W : Nat} {s₀ s : State} (hW : maskLe 0x800000000000 W = true) (hk : Keeps W s₀ s) :
    Keeps W s₀ (State.dropResponseCauses s) := by
  unfold State.dropResponseCauses
  repeat' first
    | with_reducible assumption
    | with_reducible exact site_2300 hW (by decide)
    | with_reducible exact Keeps.refl _ _
    | with_reducible exact Bool.false_and _
    | intro _
    | with_reducible refine Keeps.foldl _ _ ?_ (fun _ _ => ?_)
    | with_reducible refine State.putBit_keeps _ _ _ _ ?_  ?_
    | with_reducible refine Keeps.ite ?_ ?_
    | dsimp only
    | split

theorem State.acknowledgeAll_keeps {W : Nat} {s₀ s : State} (hW : maskLe 0x400000000002800000000080 W = true) (hk : Keeps W s₀ s) :
    Keeps W s₀ (State.acknowledgeAll s) := by
  unfold State.acknowledgeAll
  repeat' first
    | with_reducible assumption
    | with_reducible exact Keeps.refl _ _
    | with_reducible exact Bool.false_and _
    | intro _
    | with_reducible refine Keeps.foldl _ _ ?_ (fun _ _ => ?_)
    | with_reducible refine State.emcyReset_keeps  (maskLe_trans (by decide) hW) ?_
    | with_reducible refine State.putResponse_keeps _ _ (maskLe_trans (by decide) hW) ?_
    | with_reducible refine State.dropResponseCauses_keeps  (maskLe_trans (by decide) hW) ?_
    | with_reducible refine Keeps.ite ?_ ?_
    | dsimp only
    | split

theorem State.clearInterrupts_keeps {W : Nat} {s₀ s : State} (flags : Nat) (hW : maskLe 0x2000000000000 W = true) (hk : Keeps W s₀ s) :
    Keeps W s₀ (State.clearInterrupts s flags) := by
  unfold State.clearInterrupts
  repeat' first
    | with_reducible assumption
    | with_reducible exact site_2320 hW (by decide)
    | with_reducible exact Keeps.refl _ _
    | with_reducible exact Bool.false_and _
    | intro _
    | with_reducible refine Keeps.foldl _ _ ?_ (fun _ _ => ?_)
    | with_reducible refine State.putBit_keeps _ _ _ _ ?_  ?_
    | with_reducible refine Keeps.ite ?_ ?_
    | dsimp only
    | split

theorem State.leaveOutline_keeps {W : Nat} {s₀ s : State} (hW : maskLe 0x4008262D116810007C36018 W = true) (hk : Keeps W s₀ s) :
    Keeps W s₀ (State.leaveOutline s) := by
  unfold State.leaveOutline
  repeat' first
    | with_reducible assumption
    | with_reducible exact site_2300 hW (by decide)
    | with_reducible exact Keeps.refl _ _
    | with_reducible exact Bool.false_and _
    | intro _
    | with_reducible refine Keeps.foldl _ _ ?_ (fun _ _ => ?_)
    | with_reducible refine State.setOutline_keeps _ (maskLe_trans (by decide) hW) ?_
    | with_reducible refine State.putBit_keeps _ _ _ _ ?_  ?_
    | with_reducible refine State.raise_keeps _ _ (maskLe_trans (by decide) hW) ?_
    | with_reducible refine State.joinRing_keeps  (maskLe_trans (by decide) hW) ?_
    | with_reducible refine State.reinitEngine_keeps  (maskLe_trans (by decide) hW) ?_
    | with_reducible refine State.lowStarted_keeps  (maskLe_trans (by decide) hW) ?_
    | with_reducible refine Keeps.ite ?_ ?_
    | dsimp only
    | split

theorem State.outlineCommand_keeps {W : Nat} {s₀ s : State} (arg : Nat) (hW : maskLe 0x4008262D116810007C36018 W = true) (hk : Keeps W s₀ s) :
    Keeps W s₀ (State.outlineCommand s arg) := by
  unfold State.outlineCommand
  repeat' first
    | with_reducible assumption
    | with_reducible exact Keeps.refl _ _
    | with_reducible exact Bool.false_and _
    | intro _
    | with_reducible refine Keeps.foldl _ _ ?_ (fun _ _ => ?_)
    | with_reducible refine State.enterOutline_keeps _ (maskLe_trans (by decide) hW) ?_
    | with_reducible refine State.leaveOutline_keeps  (maskLe_trans (by decide) hW) ?_
    | with_reducible refine Keeps.ite ?_ ?_
    | dsimp only
    | split

theorem State.commitOutline_keeps {W : Nat} {s₀ s : State} (ch : Channel) (tag : Nat) (hW : maskLe 0x8000 W = true) (hk : Keeps W s₀ s) :
    Keeps W s₀ (State.commitOutline s ch tag) := by
  unfold State.commitOutline
  repeat' first
    | with_reducible assumption
    | with_reducible exact Keeps.refl _ _
    | with_reducible exact Bool.false_and _
    | intro _
    | with_reducible refine Keeps.foldl _ _ ?_ (fun _ _ => ?_)
    | with_reducible refine State.setFlash_keeps _ (maskLe_trans (by decide) hW) ?_
    | with_reducible refine Keeps.ite ?_ ?_
    | dsimp only
    | split

theorem State.outlineCommitted_keeps {W : Nat} {s₀ s : State} (hW : maskLe 0x8062D11681001643E018 W = true) (hk : Keeps W s₀ s) :
    Keeps W s₀ (State.outlineCommitted s) := by
  unfold State.outlineCommitted
  repeat' first
    | with_reducible assumption
    | with_reducible exact Keeps.refl _ _
    | with_reducible exact Bool.false_and _
    | intro _
    | with_reducible refine Keeps.foldl _ _ ?_ (fun _ _ => ?_)
    | with_reducible refine State.setFlash_keeps _ (maskLe_trans (by decide) hW) ?_
    | with_reducible refine State.raise_keeps _ _ (maskLe_trans (by decide) hW) ?_
    | with_reducible refine State.startWrite_keeps  (maskLe_trans (by decide) hW) ?_
    | with_reducible refine State.startSave_keeps  (maskLe_trans (by decide) hW) ?_
    | with_reducible refine Keeps.ite ?_ ?_
    | dsimp only
    | split

theorem execOutlineSetCommitComplete_keeps (s : State) : Keeps.Out 0x8062D11681001643E018 s (execOutlineSetCommitComplete s) := by
  unfold execOutlineSetCommitComplete
  repeat' first
    | with_reducible refine Keeps.out_next ?_
    | with_reducible refine Keeps.out_ite ?_ ?_
    | with_reducible assumption
    | with_reducible exact Keeps.refl _ _
    | with_reducible exact Bool.false_and _
    | intro _
    | with_reducible refine Keeps.foldl _ _ ?_ (fun _ _ => ?_)
    | with_reducible refine State.outlineCommitted_keeps  (by decide) ?_
    | with_reducible refine Keeps.ite ?_ ?_
    | dsimp only
    | split

theorem State.putSafePin_keeps {W : Nat} {s₀ s : State} (b : Bool) (level : Bool) (hW : maskLe 0x2000 W = true) (hk : Keeps W s₀ s) :
    Keeps W s₀ (State.putSafePin s b level) := by
  unfold State.putSafePin
  repeat' first
    | with_reducible assumption
    | with_reducible exact Keeps.refl _ _
    | with_reducible exact Bool.false_and _
    | intro _
    | with_reducible refine Keeps.foldl _ _ ?_ (fun _ _ => ?_)
    | with_reducible refine State.setSafety_keeps _ (maskLe_trans (by decide) hW) ?_
    | with_reducible refine Keeps.ite ?_ ?_
    | dsimp only
    | split

theorem execSafeInputFall_keeps (b : Bool) (s : State) : Keeps.Out 0x80000106000000032000 s (execSafeInputFall b s) := by
  unfold execSafeInputFall
  repeat' first
    | with_reducible refine Keeps.out_next ?_
    | with_reducible refine Keeps.out_ite ?_ ?_
    | with_reducible assumption
    | with_reducible exact Keeps.refl _ _
    | with_reducible exact Bool.false_and _
    | intro _
    | with_reducible refine Keeps.foldl _ _ ?_ (fun _ _ => ?_)
    | with_reducible refine State.safePath_keeps  (by decide) ?_
    | with_reducible refine State.putSafePin_keeps _ _ (by decide) ?_
    | with_reducible refine Keeps.ite ?_ ?_
    | dsimp only
    | split

theorem State.permitLost_keeps {W : Nat} {s₀ s : State} (hW : maskLe 0x4008062D116810006436018 W = true) (hk : Keeps W s₀ s) :
    Keeps W s₀ (State.permitLost s) := by
  unfold State.permitLost
  repeat' first
    | with_reducible assumption
    | with_reducible exact Keeps.refl _ _
    | with_reducible exact Bool.false_and _
    | intro _
    | with_reducible refine Keeps.foldl _ _ ?_ (fun _ _ => ?_)
    | with_reducible refine State.raise_keeps _ _ (maskLe_trans (by decide) hW) ?_
    | with_reducible refine State.endEvent_keeps _ _ (maskLe_trans (by decide) hW) ?_
    | with_reducible refine Keeps.ite ?_ ?_
    | dsimp only
    | split

theorem State.rearm_keeps {W : Nat} {s₀ s : State} (hW : maskLe 0x40000000006800000000018 W = true) (hk : Keeps W s₀ s) :
    Keeps W s₀ (State.rearm s) := by
  unfold State.rearm
  repeat' first
    | with_reducible assumption
    | with_reducible exact site_2330 hW (by decide)
    | with_reducible exact Keeps.refl _ _
    | with_reducible exact Bool.false_and _
    | intro _
    | with_reducible refine Keeps.foldl _ _ ?_ (fun _ _ => ?_)
    | with_reducible refine State.putObj_keeps _ _ _ ?_ ?_
    | with_reducible refine State.endEvent_keeps _ _ (maskLe_trans (by decide) hW) ?_
    | with_reducible refine Keeps.ite ?_ ?_
    | dsimp only
    | split

theorem State.sampleSafe_keeps {W : Nat} {s₀ s : State} (a b : Bool) (hW : maskLe 0x4008062D116810006436018 W = true) (hk : Keeps W s₀ s) :
    Keeps W s₀ (State.sampleSafe s a b) := by
  unfold State.sampleSafe
  repeat' first
    | with_reducible assumption
    | with_reducible exact site_2330 hW (by decide)
    | with_reducible exact Keeps.refl _ _
    | with_reducible exact Bool.false_and _
    | intro _
    | with_reducible refine Keeps.foldl _ _ ?_ (fun _ _ => ?_)
    | with_reducible refine State.setSafety_keeps _ (maskLe_trans (by decide) hW) ?_
    | with_reducible refine State.putObj_keeps _ _ _ ?_ ?_
    | with_reducible refine State.permitLost_keeps  (maskLe_trans (by decide) hW) ?_
    | with_reducible refine Keeps.ite ?_ ?_
    | dsimp only
    | split

theorem execSafeSample_keeps (a b : Bool) (s : State) : Keeps.Out 0x4008062D116810006436018 s (execSafeSample a b s) := by
  unfold execSafeSample
  repeat' first
    | with_reducible refine Keeps.out_next ?_
    | with_reducible refine Keeps.out_ite ?_ ?_
    | with_reducible assumption
    | with_reducible exact Keeps.refl _ _
    | with_reducible exact Bool.false_and _
    | intro _
    | with_reducible refine Keeps.foldl _ _ ?_ (fun _ _ => ?_)
    | with_reducible refine State.putSafePin_keeps _ _ (by decide) ?_
    | with_reducible refine State.sampleSafe_keeps _ _ (by decide) ?_
    | with_reducible refine Keeps.ite ?_ ?_
    | dsimp only
    | split

theorem State.endDisagree_keeps {W : Nat} {s₀ s : State} (hW : maskLe 0x8062D116810006436008 W = true) (hk : Keeps W s₀ s) :
    Keeps W s₀ (State.endDisagree s) := by
  unfold State.endDisagree
  repeat' first
    | with_reducible assumption
    | with_reducible exact site_2330 hW (by decide)
    | with_reducible exact Keeps.refl _ _
    | with_reducible exact Bool.false_and _
    | intro _
    | with_reducible refine Keeps.foldl _ _ ?_ (fun _ _ => ?_)
    | with_reducible refine State.setSafety_keeps _ (maskLe_trans (by decide) hW) ?_
    | with_reducible refine State.putObj_keeps _ _ _ ?_ ?_
    | with_reducible refine State.bump_keeps _ _ ?_  ?_
    | with_reducible refine State.raise_keeps _ _ (maskLe_trans (by decide) hW) ?_
    | with_reducible refine Keeps.ite ?_ ?_
    | dsimp only
    | split

theorem State.filterSafe_keeps {W : Nat} {s₀ s : State} (hW : maskLe 0x4008062D116810006436018 W = true) (hk : Keeps W s₀ s) :
    Keeps W s₀ (State.filterSafe s) := by
  unfold State.filterSafe
  repeat' first
    | with_reducible assumption
    | with_reducible exact Keeps.refl _ _
    | with_reducible exact Bool.false_and _
    | intro _
    | with_reducible refine Keeps.foldl _ _ ?_ (fun _ _ => ?_)
    | with_reducible refine State.setSafety_keeps _ (maskLe_trans (by decide) hW) ?_
    | with_reducible refine State.permitLost_keeps  (maskLe_trans (by decide) hW) ?_
    | with_reducible refine State.rearm_keeps  (maskLe_trans (by decide) hW) ?_
    | with_reducible refine State.endDisagree_keeps  (maskLe_trans (by decide) hW) ?_
    | with_reducible refine Keeps.ite ?_ ?_
    | dsimp only
    | split

theorem execSafeFilterChange_keeps (s : State) : Keeps.Out 0x4008062D116810006436018 s (execSafeFilterChange s) := by
  unfold execSafeFilterChange
  repeat' first
    | with_reducible refine Keeps.out_next ?_
    | with_reducible refine Keeps.out_ite ?_ ?_
    | with_reducible assumption
    | with_reducible exact Keeps.refl _ _
    | with_reducible exact Bool.false_and _
    | intro _
    | with_reducible refine Keeps.foldl _ _ ?_ (fun _ _ => ?_)
    | with_reducible refine State.filterSafe_keeps  (by decide) ?_
    | with_reducible refine Keeps.ite ?_ ?_
    | dsimp only
    | split

theorem State.discrepancy_keeps {W : Nat} {s₀ s : State} (hW : maskLe 0x8062D116810006436008 W = true) (hk : Keeps W s₀ s) :
    Keeps W s₀ (State.discrepancy s) := by
  unfold State.discrepancy
  repeat' first
    | with_reducible assumption
    | with_reducible exact site_2330 hW (by decide)
    | with_reducible exact Keeps.refl _ _
    | with_reducible exact Bool.false_and _
    | intro _
    | with_reducible refine Keeps.foldl _ _ ?_ (fun _ _ => ?_)
    | with_reducible refine State.setSafety_keeps _ (maskLe_trans (by decide) hW) ?_
    | with_reducible refine State.putObj_keeps _ _ _ ?_ ?_
    | with_reducible refine State.bump_keeps _ _ ?_  ?_
    | with_reducible refine State.raise_keeps _ _ (maskLe_trans (by decide) hW) ?_
    | with_reducible refine Keeps.ite ?_ ?_
    | dsimp only
    | split

theorem execDiscrepancyFault_keeps (s : State) : Keeps.Out 0x8062D116810006436008 s (execDiscrepancyFault s) := by
  unfold execDiscrepancyFault
  repeat' first
    | with_reducible refine Keeps.out_next ?_
    | with_reducible refine Keeps.out_ite ?_ ?_
    | with_reducible assumption
    | with_reducible exact Keeps.refl _ _
    | with_reducible exact Bool.false_and _
    | intro _
    | with_reducible refine Keeps.foldl _ _ ?_ (fun _ _ => ?_)
    | with_reducible refine State.discrepancy_keeps  (by decide) ?_
    | with_reducible refine Keeps.ite ?_ ?_
    | dsimp only
    | split

theorem State.grantPermit_keeps {W : Nat} {s₀ s : State} (hW : maskLe 0x2000000002000 W = true) (hk : Keeps W s₀ s) :
    Keeps W s₀ (State.grantPermit s) := by
  unfold State.grantPermit
  repeat' first
    | with_reducible assumption
    | with_reducible exact Keeps.refl _ _
    | with_reducible exact Bool.false_and _
    | intro _
    | with_reducible refine Keeps.foldl _ _ ?_ (fun _ _ => ?_)
    | with_reducible refine State.setSafety_keeps _ (maskLe_trans (by decide) hW) ?_
    | with_reducible refine State.interrupt_keeps _ (maskLe_trans (by decide) hW) ?_
    | with_reducible refine Keeps.ite ?_ ?_
    | dsimp only
    | split

theorem execPermitGrant_keeps (s : State) : Keeps.Out 0x2000000002000 s (execPermitGrant s) := by
  unfold execPermitGrant
  repeat' first
    | with_reducible refine Keeps.out_next ?_
    | with_reducible refine Keeps.out_ite ?_ ?_
    | with_reducible assumption
    | with_reducible exact Keeps.refl _ _
    | with_reducible exact Bool.false_and _
    | intro _
    | with_reducible refine Keeps.foldl _ _ ?_ (fun _ _ => ?_)
    | with_reducible refine State.grantPermit_keeps  (by decide) ?_
    | with_reducible refine Keeps.ite ?_ ?_
    | dsimp only
    | split

theorem State.emptyTx_keeps {W : Nat} {s₀ s : State} (hW : maskLe 0x400000000000000000000080 W = true) (hk : Keeps W s₀ s) :
    Keeps W s₀ (State.emptyTx s) := by
  unfold State.emptyTx
  repeat' first
    | with_reducible assumption
    | with_reducible exact site_5f00 hW (by decide)
    | with_reducible exact Keeps.refl _ _
    | with_reducible exact Bool.false_and _
    | intro _
    | with_reducible refine Keeps.foldl _ _ ?_ (fun _ _ => ?_)
    | with_reducible refine State.setCan_keeps _ (maskLe_trans (by decide) hW) ?_
    | with_reducible refine State.bumpBy_keeps _ _ _ ?_  ?_
    | with_reducible refine Keeps.ite ?_ ?_
    | dsimp only
    | split

theorem State.restartCan_keeps {W : Nat} {s₀ s : State} (hW : maskLe 0x44008062D116810006436098 W = true) (hk : Keeps W s₀ s) :
    Keeps W s₀ (State.restartCan s) := by
  unfold State.restartCan
  repeat' first
    | with_reducible assumption
    | with_reducible exact Keeps.refl _ _
    | with_reducible exact Bool.false_and _
    | intro _
    | with_reducible refine Keeps.foldl _ _ ?_ (fun _ _ => ?_)
    | with_reducible refine State.setCan_keeps _ (maskLe_trans (by decide) hW) ?_
    | with_reducible refine State.raise_keeps _ _ (maskLe_trans (by decide) hW) ?_
    | with_reducible refine State.endEvent_keeps _ _ (maskLe_trans (by decide) hW) ?_
    | with_reducible refine State.emptyTx_keeps  (maskLe_trans (by decide) hW) ?_
    | with_reducible refine Keeps.ite ?_ ?_
    | dsimp only
    | split

theorem State.reinitRecorder_keeps {W : Nat} {s₀ s : State} (hW : maskLe 0x4008062D156810006436118 W = true) (hk : Keeps W s₀ s) :
    Keeps W s₀ (State.reinitRecorder s) := by
  unfold State.reinitRecorder
  repeat' first
    | with_reducible assumption
    | with_reducible exact Keeps.refl _ _
    | with_reducible exact Bool.false_and _
    | intro _
    | with_reducible refine Keeps.foldl _ _ ?_ (fun _ _ => ?_)
    | with_reducible refine State.startWrite_keeps  (maskLe_trans (by decide) hW) ?_
    | with_reducible refine State.startErase_keeps  (maskLe_trans (by decide) hW) ?_
    | with_reducible refine State.forceFlush_keeps  (maskLe_trans (by decide) hW) ?_
    | with_reducible refine State.flushNow_keeps _ (maskLe_trans (by decide) hW) ?_
    | with_reducible refine State.rebuildLog_keeps  (maskLe_trans (by decide) hW) ?_
    | with_reducible refine Keeps.ite ?_ ?_
    | dsimp only
    | split

theorem State.reinitFunction_keeps {W : Nat} {s₀ s : State} (f : Nat) (hW : maskLe 0x45119A62D556A1401FC3EDFC W = true) (hk : Keeps W s₀ s) :
    Keeps W s₀ (State.reinitFunction s f) := by
  unfold State.reinitFunction
  repeat' first
    | with_reducible assumption
    | with_reducible exact Keeps.refl _ _
    | with_reducible exact Bool.false_and _
    | intro _
    | with_reducible refine Keeps.foldl _ _ ?_ (fun _ _ => ?_)
    | with_reducible refine State.setAvs_keeps _ (maskLe_trans (by decide) hW) ?_
    | with_reducible refine State.putFunc_keeps _ _ (maskLe_trans (by decide) hW) ?_
    | with_reducible refine State.resetRail_keeps _ (maskLe_trans (by decide) hW) ?_
    | with_reducible refine State.restartDecimators_keeps  (maskLe_trans (by decide) hW) ?_
    | with_reducible refine State.endKinds_keeps  (maskLe_trans (by decide) hW) ?_
    | with_reducible refine State.resetMeridian_keeps  (maskLe_trans (by decide) hW) ?_
    | with_reducible refine State.resetRing_keeps  (maskLe_trans (by decide) hW) ?_
    | with_reducible refine State.reinitEngine_keeps  (maskLe_trans (by decide) hW) ?_
    | with_reducible refine State.resetDrive_keeps  (maskLe_trans (by decide) hW) ?_
    | with_reducible refine State.endGsp_keeps  (maskLe_trans (by decide) hW) ?_
    | with_reducible refine State.usbDetach_keeps  (maskLe_trans (by decide) hW) ?_
    | with_reducible refine State.restartCan_keeps  (maskLe_trans (by decide) hW) ?_
    | with_reducible refine State.reinitRecorder_keeps  (maskLe_trans (by decide) hW) ?_
    | with_reducible refine Keeps.ite ?_ ?_
    | dsimp only
    | split

theorem State.stopping_keeps {W : Nat} {s₀ s : State} (f : Nat) (busy : Bool) (hW : maskLe 0x10000000000 W = true) (hk : Keeps W s₀ s) :
    Keeps W s₀ (State.stopping s f busy) := by
  unfold State.stopping
  repeat' first
    | with_reducible assumption
    | with_reducible exact Keeps.refl _ _
    | with_reducible exact Bool.false_and _
    | intro _
    | with_reducible refine Keeps.foldl _ _ ?_ (fun _ _ => ?_)
    | with_reducible refine State.putFunc_keeps _ _ (maskLe_trans (by decide) hW) ?_
    | with_reducible refine Keeps.ite ?_ ?_
    | dsimp only
    | split

theorem State.disableFunction_keeps {W : Nat} {s₀ s : State} (f : Nat) (hard : Bool) (hW : maskLe 0x5708062D11681003E43601C W = true) (hk : Keeps W s₀ s) :
    Keeps W s₀ (State.disableFunction s f hard) := by
  unfold State.disableFunction
  repeat' first
    | with_reducible assumption
    | with_reducible exact site_railbit_00 hW (by decide)
    | with_reducible exact Keeps.refl _ _
    | with_reducible exact Bool.false_and _
    | intro _
    | with_reducible refine Keeps.foldl _ _ ?_ (fun _ _ => ?_)
    | with_reducible refine State.putRailObj_keeps _ _ _ _ ?_  ?_
    | with_reducible refine State.putFunc_keeps _ _ (maskLe_trans (by decide) hW) ?_
    | with_reducible refine State.hardStop_keeps _ _ (maskLe_trans (by decide) hW) ?_
    | with_reducible refine State.softStop_keeps _ _ (maskLe_trans (by decide) hW) ?_
    | with_reducible refine State.leaveRing_keeps _ (maskLe_trans (by decide) hW) ?_
    | with_reducible refine State.forceFlush_keeps  (maskLe_trans (by decide) hW) ?_
    | with_reducible refine State.endKinds_keeps  (maskLe_trans (by decide) hW) ?_
    | with_reducible refine State.closeMetrology_keeps  (maskLe_trans (by decide) hW) ?_
    | with_reducible refine State.stopping_keeps _ _ (maskLe_trans (by decide) hW) ?_
    | with_reducible refine Keeps.ite ?_ ?_
    | dsimp only
    | split

theorem State.enableFunction_keeps {W : Nat} {s₀ s : State} (f : Nat) (hW : maskLe 0x40702641052810007C20498 W = true) (hk : Keeps W s₀ s) :
    Keeps W s₀ (State.enableFunction s f) := by
  unfold State.enableFunction
  repeat' first
    | with_reducible assumption
    | with_reducible exact Keeps.refl _ _
    | with_reducible exact Bool.false_and _
    | intro _
    | with_reducible refine Keeps.foldl _ _ ?_ (fun _ _ => ?_)
    | with_reducible refine State.putFunc_keeps _ _ (maskLe_trans (by decide) hW) ?_
    | with_reducible refine State.pumpEmcy_keeps  (maskLe_trans (by decide) hW) ?_
    | with_reducible refine State.startWrite_keeps  (maskLe_trans (by decide) hW) ?_
    | with_reducible refine State.startErase_keeps  (maskLe_trans (by decide) hW) ?_
    | with_reducible refine State.enable_keeps _ (maskLe_trans (by decide) hW) ?_
    | with_reducible refine State.joinRing_keeps  (maskLe_trans (by decide) hW) ?_
    | with_reducible refine State.startEngine_keeps  (maskLe_trans (by decide) hW) ?_
    | with_reducible refine State.usbAttach_keeps  (maskLe_trans (by decide) hW) ?_
    | with_reducible refine Keeps.ite ?_ ?_
    | dsimp only
    | split

theorem State.functionCommand_keeps {W : Nat} {s₀ s : State} (f op : Nat) (hW : maskLe 0x45779A66D556A1403FC3EFFC W = true) (hk : Keeps W s₀ s) :
    Keeps W s₀ (State.functionCommand s f op) := by
  unfold State.functionCommand
  repeat' first
    | with_reducible assumption
    | with_reducible exact site_2110 hW (by decide)
    | with_reducible exact Keeps.refl _ _
    | with_reducible exact Bool.false_and _
    | intro _
    | with_reducible refine Keeps.foldl _ _ ?_ (fun _ _ => ?_)
    | with_reducible refine State.setLife_keeps _ (maskLe_trans (by decide) hW) ?_
    | with_reducible refine State.bump_keeps _ _ ?_  ?_
    | with_reducible refine State.raise_keeps _ _ (maskLe_trans (by decide) hW) ?_
    | with_reducible refine State.reinitFunction_keeps _ (maskLe_trans (by decide) hW) ?_
    | with_reducible refine State.disableFunction_keeps _ _ (maskLe_trans (by decide) hW) ?_
    | with_reducible refine State.enableFunction_keeps _ (maskLe_trans (by decide) hW) ?_
    | with_reducible refine Keeps.ite ?_ ?_
    | dsimp only
    | split

theorem State.recorderStopped_keeps {W : Nat} {s₀ s : State} (hW : maskLe 0x4008062D156810006436118 W = true) (hk : Keeps W s₀ s) :
    Keeps W s₀ (State.recorderStopped s) := by
  unfold State.recorderStopped
  repeat' first
    | with_reducible assumption
    | with_reducible exact Keeps.refl _ _
    | with_reducible exact Bool.false_and _
    | intro _
    | with_reducible refine Keeps.foldl _ _ ?_ (fun _ _ => ?_)
    | with_reducible refine State.putFunc_keeps _ _ (maskLe_trans (by decide) hW) ?_
    | with_reducible refine State.flushNow_keeps _ (maskLe_trans (by decide) hW) ?_
    | with_reducible refine Keeps.ite ?_ ?_
    | dsimp only
    | split

theorem State.functionEnds_keeps {W : Nat} {s₀ s : State} (f : Nat) (hW : maskLe 0x4008062D15681400643EDB8 W = true) (hk : Keeps W s₀ s) :
    Keeps W s₀ (State.functionEnds s f) := by
  unfold State.functionEnds
  repeat' first
    | with_reducible assumption
    | with_reducible exact Keeps.refl _ _
    | with_reducible exact Bool.false_and _
    | intro _
    | with_reducible refine Keeps.foldl _ _ ?_ (fun _ _ => ?_)
    | with_reducible refine State.setCan_keeps _ (maskLe_trans (by decide) hW) ?_
    | with_reducible refine State.putFunc_keeps _ _ (maskLe_trans (by decide) hW) ?_
    | with_reducible refine State.haltEngine_keeps  (maskLe_trans (by decide) hW) ?_
    | with_reducible refine State.endGsp_keeps  (maskLe_trans (by decide) hW) ?_
    | with_reducible refine State.usbDetach_keeps  (maskLe_trans (by decide) hW) ?_
    | with_reducible refine State.recorderStopped_keeps  (maskLe_trans (by decide) hW) ?_
    | with_reducible refine Keeps.ite ?_ ?_
    | dsimp only
    | split

theorem execFunctionStopped_keeps (fn : Fin 13) (s : State) : Keeps.Out 0x4008062D15681400643EDB8 s (execFunctionStopped fn s) := by
  unfold execFunctionStopped
  repeat' first
    | with_reducible refine Keeps.out_next ?_
    | with_reducible refine Keeps.out_ite ?_ ?_
    | with_reducible assumption
    | with_reducible exact Keeps.refl _ _
    | with_reducible exact Bool.false_and _
    | intro _
    | with_reducible refine Keeps.foldl _ _ ?_ (fun _ _ => ?_)
    | with_reducible refine State.putFunc_keeps _ _ (by decide) ?_
    | with_reducible refine State.usbAttach_keeps  (by decide) ?_
    | with_reducible refine State.functionEnds_keeps _ (by decide) ?_
    | with_reducible refine Keeps.ite ?_ ?_
    | dsimp only
    | split

theorem State.powerCycle_keeps {W : Nat} {s₀ s : State} (ms : Nat) (hW : maskLe 0x8062D116810006436418 W = true) (hk : Keeps W s₀ s) :
    Keeps W s₀ (State.powerCycle s ms) := by
  unfold State.powerCycle
  repeat' first
    | with_reducible assumption
    | with_reducible exact site_2110 hW (by decide)
    | with_reducible exact Keeps.refl _ _
    | with_reducible exact Bool.false_and _
    | intro _
    | with_reducible refine Keeps.foldl _ _ ?_ (fun _ _ => ?_)
    | with_reducible refine State.setSupply_keeps _ (maskLe_trans (by decide) hW) ?_
    | with_reducible refine State.putObj_keeps _ _ _ ?_ ?_
    | with_reducible refine State.raise_keeps _ _ (maskLe_trans (by decide) hW) ?_
    | with_reducible refine State.forceFlush_keeps  (maskLe_trans (by decide) hW) ?_
    | with_reducible refine Keeps.ite ?_ ?_
    | dsimp only
    | split

theorem State.assertCycle_keeps {W : Nat} {s₀ s : State} (hW : maskLe 0x46008062D156810136436798 W = true) (hk : Keeps W s₀ s) :
    Keeps W s₀ (State.assertCycle s) := by
  unfold State.assertCycle
  repeat' first
    | with_reducible assumption
    | with_reducible exact site_2110 hW (by decide)
    | with_reducible exact Keeps.refl _ _
    | with_reducible exact Bool.false_and _
    | intro _
    | with_reducible refine Keeps.foldl _ _ ?_ (fun _ _ => ?_)
    | with_reducible refine State.setLife_keeps _ (maskLe_trans (by decide) hW) ?_
    | with_reducible refine State.setSupply_keeps _ (maskLe_trans (by decide) hW) ?_
    | with_reducible refine State.putObj_keeps _ _ _ ?_ ?_
    | with_reducible refine State.forceFlush_keeps  (maskLe_trans (by decide) hW) ?_
    | with_reducible refine State.flushNow_keeps _ (maskLe_trans (by decide) hW) ?_
    | with_reducible refine State.saveNow_keeps _ (maskLe_trans (by decide) hW) ?_
    | with_reducible refine State.drainFifo_keeps _ (maskLe_trans (by decide) hW) ?_
    | with_reducible refine Keeps.ite ?_ ?_
    | dsimp only
    | split

theorem execPowerCycleAssert_keeps (s : State) : Keeps.Out 0x46008062D156810136436798 s (execPowerCycleAssert s) := by
  unfold execPowerCycleAssert
  repeat' first
    | with_reducible refine Keeps.out_next ?_
    | with_reducible refine Keeps.out_ite ?_ ?_
    | with_reducible assumption
    | with_reducible exact Keeps.refl _ _
    | with_reducible exact Bool.false_and _
    | intro _
    | with_reducible refine Keeps.foldl _ _ ?_ (fun _ _ => ?_)
    | with_reducible refine State.assertCycle_keeps  (by decide) ?_
    | with_reducible refine Keeps.ite ?_ ?_
    | dsimp only
    | split

theorem execPowerCycleRelease_keeps (s : State) : Keeps.Out 0x10000000600 s (execPowerCycleRelease s) := by
  unfold execPowerCycleRelease
  repeat' first
    | with_reducible refine Keeps.out_next ?_
    | with_reducible refine Keeps.out_ite ?_ ?_
    | with_reducible assumption
    | with_reducible exact site_2110 (maskLe_refl _) (by decide)
    | with_reducible exact Keeps.refl _ _
    | with_reducible exact Bool.false_and _
    | intro _
    | with_reducible refine Keeps.foldl _ _ ?_ (fun _ _ => ?_)
    | with_reducible refine State.setLife_keeps _ (by decide) ?_
    | with_reducible refine State.setSupply_keeps _ (by decide) ?_
    | with_reducible refine State.putObj_keeps _ _ _ ?_ ?_
    | with_reducible refine Keeps.ite ?_ ?_
    | dsimp only
    | split

theorem State.produceSync_keeps {W : Nat} {s₀ s : State} (hW : maskLe 0x80 W = true) (hk : Keeps W s₀ s) :
    Keeps W s₀ (State.produceSync s) := by
  unfold State.produceSync
  repeat' first
    | with_reducible assumption
    | with_reducible exact Keeps.refl _ _
    | with_reducible exact Bool.false_and _
    | intro _
    | with_reducible refine Keeps.foldl _ _ ?_ (fun _ _ => ?_)
    | with_reducible refine State.setCan_keeps _ (maskLe_trans (by decide) hW) ?_
    | with_reducible refine Keeps.ite ?_ ?_
    | dsimp only
    | split

theorem State.applyGraticule_keeps {W : Nat} {s₀ s : State} (r : RailId) (hW : maskLe 0x8062D116810006436008 W = true) (hk : Keeps W s₀ s) :
    Keeps W s₀ (State.applyGraticule s r) := by
  unfold State.applyGraticule
  repeat' first
    | with_reducible assumption
    | with_reducible exact site_railbit_10 hW (by decide)
    | with_reducible exact site_rail_40 _ hW (by decide)
    | with_reducible exact Keeps.refl _ _
    | with_reducible exact Bool.false_and _
    | intro _
    | with_reducible refine Keeps.foldl _ _ ?_ (fun _ _ => ?_)
    | with_reducible refine State.bump_keeps _ _ ?_  ?_
    | with_reducible refine State.modRail_keeps _ _ (maskLe_trans (by decide) hW) ?_
    | with_reducible refine State.putRailObj_keeps _ _ _ _ ?_  ?_
    | with_reducible refine State.retarget_keeps _ _ (maskLe_trans (by decide) hW) ?_
    | with_reducible refine Keeps.ite ?_ ?_
    | dsimp only
    | split

theorem State.graticuleAction_keeps {W : Nat} {s₀ s : State} (hW : maskLe 0x8062D116810006436088 W = true) (hk : Keeps W s₀ s) :
    Keeps W s₀ (State.graticuleAction s) := by
  unfold State.graticuleAction
  repeat' first
    | with_reducible assumption
    | with_reducible exact Keeps.refl _ _
    | with_reducible exact Bool.false_and _
    | intro _
    | with_reducible refine Keeps.foldl _ _ ?_ (fun _ _ => ?_)
    | with_reducible refine State.setMeridian_keeps _ (maskLe_trans (by decide) hW) ?_
    | with_reducible refine State.raise_keeps _ _ (maskLe_trans (by decide) hW) ?_
    | with_reducible refine State.produceSync_keeps  (maskLe_trans (by decide) hW) ?_
    | with_reducible refine State.applyGraticule_keeps _ (maskLe_trans (by decide) hW) ?_
    | with_reducible refine Keeps.ite ?_ ?_
    | dsimp only
    | split

theorem execGraticuleSupervisorAction_keeps (s : State) : Keeps.Out 0x8062D116810006436088 s (execGraticuleSupervisorAction s) := by
  unfold execGraticuleSupervisorAction
  repeat' first
    | with_reducible refine Keeps.out_next ?_
    | with_reducible refine Keeps.out_ite ?_ ?_
    | with_reducible assumption
    | with_reducible exact Keeps.refl _ _
    | with_reducible exact Bool.false_and _
    | intro _
    | with_reducible refine Keeps.foldl _ _ ?_ (fun _ _ => ?_)
    | with_reducible refine State.graticuleAction_keeps  (by decide) ?_
    | with_reducible refine Keeps.ite ?_ ?_
    | dsimp only
    | split

end Sys2Proof.Machine
end

