-- ==== Sys2Proof/Laws/KeepsAccess.lean ====
section
/-! SUPPORT. What the operations of Machine/Access.lean keep. -/

namespace Sys2Proof.Machine

theorem State.challenge_keeps {W : Nat} {s₀ s : State} (ch : Channel) (level : Nat) (hW : maskLe 0x8062D15681400643E138 W = true) (hk : Keeps W s₀ s) :
    Keeps W s₀ (State.challenge s ch level) := by
  unfold State.challenge
  repeat' first
    | with_reducible assumption
    | with_reducible exact Keeps.refl _ _
    | with_reducible exact Bool.false_and _
    | intro _
    | with_reducible refine Keeps.foldl _ _ ?_ (fun _ _ => ?_)
    | with_reducible refine State.setClients_keeps _ (maskLe_trans (by decide) hW) ?_
    | with_reducible refine State.modClient_keeps _ _ (maskLe_trans (by decide) hW) ?_
    | with_reducible refine State.endSession_keeps _ _ (maskLe_trans (by decide) hW) ?_
    | with_reducible refine Keeps.ite ?_ ?_
    | dsimp only
    | split

theorem State.failSession_keeps {W : Nat} {s₀ s : State} (ch : Channel) (level : Nat) (hW : maskLe 0x8062D116810006436028 W = true) (hk : Keeps W s₀ s) :
    Keeps W s₀ (State.failSession s ch level) := by
  unfold State.failSession
  repeat' first
    | with_reducible assumption
    | with_reducible exact Keeps.refl _ _
    | with_reducible exact Bool.false_and _
    | intro _
    | with_reducible refine Keeps.foldl _ _ ?_ (fun _ _ => ?_)
    | with_reducible refine State.raise_keeps _ _ (maskLe_trans (by decide) hW) ?_
    | with_reducible refine State.modClient_keeps _ _ (maskLe_trans (by decide) hW) ?_
    | with_reducible refine Keeps.ite ?_ ?_
    | dsimp only
    | split

theorem State.openSession_keeps {W : Nat} {s₀ s : State} (ch : Channel) (level : Nat) (m : List Byte) (hW : maskLe 0x8062D116810006436028 W = true) (hk : Keeps W s₀ s) :
    Keeps W s₀ (State.openSession s ch level m) := by
  unfold State.openSession
  repeat' first
    | with_reducible assumption
    | with_reducible exact Keeps.refl _ _
    | with_reducible exact Bool.false_and _
    | intro _
    | with_reducible refine Keeps.foldl _ _ ?_ (fun _ _ => ?_)
    | with_reducible refine State.raise_keeps _ _ (maskLe_trans (by decide) hW) ?_
    | with_reducible refine State.modClient_keeps _ _ (maskLe_trans (by decide) hW) ?_
    | with_reducible refine Keeps.ite ?_ ?_
    | dsimp only
    | split

theorem State.takeResponse_keeps {W : Nat} {s₀ s : State} (ch : Channel) (m : List Byte) (hW : maskLe 0x8062D116810006436028 W = true) (hk : Keeps W s₀ s) :
    Keeps W s₀ (State.takeResponse s ch m).1 := by
  unfold State.takeResponse
  repeat' first
    | with_reducible assumption
    | with_reducible exact Keeps.refl _ _
    | with_reducible exact Bool.false_and _
    | intro _
    | with_reducible refine Keeps.foldl _ _ ?_ (fun _ _ => ?_)
    | with_reducible refine State.failSession_keeps _ _ (maskLe_trans (by decide) hW) ?_
    | with_reducible refine State.openSession_keeps _ _ _ (maskLe_trans (by decide) hW) ?_
    | with_reducible refine Keeps.ite ?_ ?_
    | dsimp only
    | split

theorem State.touch_keeps {W : Nat} {s₀ s : State} (ch : Channel) (hW : maskLe 0x20 W = true) (hk : Keeps W s₀ s) :
    Keeps W s₀ (State.touch s ch) := by
  unfold State.touch
  repeat' first
    | with_reducible assumption
    | with_reducible exact Keeps.refl _ _
    | with_reducible exact Bool.false_and _
    | intro _
    | with_reducible refine Keeps.foldl _ _ ?_ (fun _ _ => ?_)
    | with_reducible refine State.modClient_keeps _ _ (maskLe_trans (by decide) hW) ?_
    | with_reducible refine Keeps.ite ?_ ?_
    | dsimp only
    | split

theorem execNonceExpiry_keeps (ch : Channel) (s : State) : Keeps.Out 0x20 s (execNonceExpiry ch s) := by
  unfold execNonceExpiry
  repeat' first
    | with_reducible refine Keeps.out_next ?_
    | with_reducible refine Keeps.out_ite ?_ ?_
    | with_reducible assumption
    | with_reducible exact Keeps.refl _ _
    | with_reducible exact Bool.false_and _
    | intro _
    | with_reducible refine Keeps.foldl _ _ ?_ (fun _ _ => ?_)
    | with_reducible refine State.modClient_keeps _ _ (by decide) ?_
    | with_reducible refine Keeps.ite ?_ ?_
    | dsimp only
    | split

theorem execSessionIdleTimeout_keeps (ch : Channel) (s : State) : Keeps.Out 0x8062D15681400643E138 s (execSessionIdleTimeout ch s) := by
  unfold execSessionIdleTimeout
  repeat' first
    | with_reducible refine Keeps.out_next ?_
    | with_reducible refine Keeps.out_ite ?_ ?_
    | with_reducible assumption
    | with_reducible exact Keeps.refl _ _
    | with_reducible exact Bool.false_and _
    | intro _
    | with_reducible refine Keeps.foldl _ _ ?_ (fun _ _ => ?_)
    | with_reducible refine State.endSession_keeps _ _ (by decide) ?_
    | with_reducible refine Keeps.ite ?_ ?_
    | dsimp only
    | split

theorem execSessionLockoutExpiry_keeps (ch : Channel) (s : State) : Keeps.Out 0x20 s (execSessionLockoutExpiry ch s) := by
  unfold execSessionLockoutExpiry
  repeat' first
    | with_reducible refine Keeps.out_next ?_
    | with_reducible refine Keeps.out_ite ?_ ?_
    | with_reducible assumption
    | with_reducible exact Keeps.refl _ _
    | with_reducible exact Bool.false_and _
    | intro _
    | with_reducible refine Keeps.foldl _ _ ?_ (fun _ _ => ?_)
    | with_reducible refine State.modClient_keeps _ _ (by decide) ?_
    | with_reducible refine Keeps.ite ?_ ?_
    | dsimp only
    | split

theorem State.writeKey_keeps {W : Nat} {s₀ s : State} (ch : Channel) (oem : Bool) (key : List Byte) (hW : maskLe 0x8000 W = true) (hk : Keeps W s₀ s) :
    Keeps W s₀ (State.writeKey s ch oem key) := by
  unfold State.writeKey
  repeat' first
    | with_reducible assumption
    | with_reducible exact Keeps.refl _ _
    | with_reducible exact Bool.false_and _
    | intro _
    | with_reducible refine Keeps.foldl _ _ ?_ (fun _ _ => ?_)
    | with_reducible refine State.setFlash_keeps _ (maskLe_trans (by decide) hW) ?_
    | with_reducible refine Keeps.ite ?_ ?_
    | dsimp only
    | split

theorem State.keyStored_keeps {W : Nat} {s₀ s : State} (hW : maskLe 0x10008010 W = true) (hk : Keeps W s₀ s) :
    Keeps W s₀ (State.keyStored s) := by
  unfold State.keyStored
  repeat' first
    | with_reducible assumption
    | with_reducible exact Keeps.refl _ _
    | with_reducible exact Bool.false_and _
    | intro _
    | with_reducible refine Keeps.foldl _ _ ?_ (fun _ _ => ?_)
    | with_reducible refine State.setFlash_keeps _ (maskLe_trans (by decide) hW) ?_
    | with_reducible refine State.startWrite_keeps  (maskLe_trans (by decide) hW) ?_
    | with_reducible refine State.startSave_keeps  (maskLe_trans (by decide) hW) ?_
    | with_reducible refine Keeps.ite ?_ ?_
    | dsimp only
    | split

theorem execKeyStoreComplete_keeps (s : State) : Keeps.Out 0x10008010 s (execKeyStoreComplete s) := by
  unfold execKeyStoreComplete
  repeat' first
    | with_reducible refine Keeps.out_next ?_
    | with_reducible refine Keeps.out_ite ?_ ?_
    | with_reducible assumption
    | with_reducible exact Keeps.refl _ _
    | with_reducible exact Bool.false_and _
    | intro _
    | with_reducible refine Keeps.foldl _ _ ?_ (fun _ _ => ?_)
    | with_reducible refine State.keyStored_keeps  (by decide) ?_
    | with_reducible refine Keeps.ite ?_ ?_
    | dsimp only
    | split

theorem State.commitMap_keeps {W : Nat} {s₀ s : State} (ch : Channel) (tag : Nat) (hW : maskLe 0x8000 W = true) (hk : Keeps W s₀ s) :
    Keeps W s₀ (State.commitMap s ch tag) := by
  unfold State.commitMap
  repeat' first
    | with_reducible assumption
    | with_reducible exact Keeps.refl _ _
    | with_reducible exact Bool.false_and _
    | intro _
    | with_reducible refine Keeps.foldl _ _ ?_ (fun _ _ => ?_)
    | with_reducible refine State.setFlash_keeps _ (maskLe_trans (by decide) hW) ?_
    | with_reducible refine Keeps.ite ?_ ?_
    | dsimp only
    | split

theorem State.mapCommitted_keeps {W : Nat} {s₀ s : State} (hW : maskLe 0x8062D11681001643E018 W = true) (hk : Keeps W s₀ s) :
    Keeps W s₀ (State.mapCommitted s) := by
  unfold State.mapCommitted
  repeat' first
    | with_reducible assumption
    | with_reducible exact Keeps.refl _ _
    | with_reducible exact Bool.false_and _
    | intro _
    | with_reducible refine Keeps.foldl _ _ ?_ (fun _ _ => ?_)
    | with_reducible refine State.setFlash_keeps _ (maskLe_trans (by decide) hW) ?_
    | with_reducible refine State.startWrite_keeps  (maskLe_trans (by decide) hW) ?_
    | with_reducible refine State.startSave_keeps  (maskLe_trans (by decide) hW) ?_
    | with_reducible refine State.takeMap_keeps  (maskLe_trans (by decide) hW) ?_
    | with_reducible refine Keeps.ite ?_ ?_
    | dsimp only
    | split

theorem execAccessMapStoreComplete_keeps (s : State) : Keeps.Out 0x8062D11681001643E018 s (execAccessMapStoreComplete s) := by
  unfold execAccessMapStoreComplete
  repeat' first
    | with_reducible refine Keeps.out_next ?_
    | with_reducible refine Keeps.out_ite ?_ ?_
    | with_reducible assumption
    | with_reducible exact Keeps.refl _ _
    | with_reducible exact Bool.false_and _
    | intro _
    | with_reducible refine Keeps.foldl _ _ ?_ (fun _ _ => ?_)
    | with_reducible refine State.mapCommitted_keeps  (by decide) ?_
    | with_reducible refine Keeps.ite ?_ ?_
    | dsimp only
    | split

theorem State.wipeLogs_keeps {W : Nat} {s₀ s : State} (hW : maskLe 0x10 W = true) (hk : Keeps W s₀ s) :
    Keeps W s₀ (State.wipeLogs s) := by
  unfold State.wipeLogs
  repeat' first
    | with_reducible assumption
    | with_reducible exact Keeps.refl _ _
    | with_reducible exact Bool.false_and _
    | intro _
    | with_reducible refine Keeps.foldl _ _ ?_ (fun _ _ => ?_)
    | with_reducible refine State.setRecorder_keeps _ (maskLe_trans (by decide) hW) ?_
    | with_reducible refine Keeps.ite ?_ ?_
    | dsimp only
    | split

theorem State.retire_keeps {W : Nat} {s₀ s : State} (hW : maskLe 0x14000100000180010009212 W = true) (hk : Keeps W s₀ s) :
    Keeps W s₀ (State.retire s) := by
  have hr : ∀ k, retainedKey k = true → siteIn W (k / 256) = true := by
    intro k h
    have hg : Safety.group (k / 256) = 0x5040 ∨ Safety.group (k / 256) = 0x3060 ∨ Safety.group (k / 256) = 0x2138 ∨
        Safety.group (k / 256) = 0x2130 ∨ Safety.group (k / 256) = 0x5068 := by
      unfold retainedKey at h
      simp only [Bool.or_eq_true, Bool.and_eq_true, beq_iff_eq, Nat.ble_eq, Nat.blt_eq] at h
      unfold Safety.group
      rcases h with (((h | h) | h) | h) | h <;> (repeat' split) <;> omega
    rcases hg with h | h | h | h | h <;> exact siteIn_group h (bitIn_mono hW (by decide))
  have ho : Keeps W s₀ (s.setOd (s.od.filter fun (c : Nat × Int) => !retainedKey c.1)) := by
    refine State.setOd_keeps _ hk (filter_wf _ _) (fun c k hs => odGet_filter _ _ _ (fun v => ?_) c)
    cases e : retainedKey k with
    | false => simp only [Bool.not_false]
    | true => rw [hr k e] at hs; exact absurd hs Bool.noConfusion
  exact State.dropDomain_keeps _ _ (maskLe_trans (by decide) hW) (State.setLife_keeps _ (maskLe_trans (by decide) hW) (State.setFlash_keeps _ (maskLe_trans (by decide) hW)
    (State.setEnergy_keeps _ (maskLe_trans (by decide) hW) (State.setRecorder_keeps _ (maskLe_trans (by decide) hW) (State.setRtc_keeps _ (maskLe_trans (by decide) hW) ho)))))

theorem State.saveService_keeps {W : Nat} {s₀ s : State} (hW : maskLe 0x8000 W = true) (hk : Keeps W s₀ s) :
    Keeps W s₀ (State.saveService s) := by
  unfold State.saveService
  repeat' first
    | with_reducible assumption
    | with_reducible exact Keeps.refl _ _
    | with_reducible exact Bool.false_and _
    | intro _
    | with_reducible refine Keeps.foldl _ _ ?_ (fun _ _ => ?_)
    | with_reducible refine State.setFlash_keeps _ (maskLe_trans (by decide) hW) ?_
    | with_reducible refine Keeps.ite ?_ ?_
    | dsimp only
    | split

theorem State.restoreService_keeps {W : Nat} {s₀ s : State} (hW : maskLe 0x8003 W = true) (hk : Keeps W s₀ s) :
    Keeps W s₀ (State.restoreService s) := by
  unfold State.restoreService
  repeat' first
    | with_reducible assumption
    | with_reducible exact Keeps.refl _ _
    | with_reducible exact Bool.false_and _
    | intro _
    | with_reducible refine Keeps.foldl _ _ ?_ (fun _ _ => ?_)
    | with_reducible refine State.setFlash_keeps _ (maskLe_trans (by decide) hW) ?_
    | with_reducible refine State.overlay_keeps _ (maskLe_trans (by decide) hW) ?_
    | with_reducible refine Keeps.ite ?_ ?_
    | dsimp only
    | split

theorem State.wipeFor_keeps {W : Nat} {s₀ s : State} (old goal : Nat) (hW : maskLe 0x14000100000180010009213 W = true) (hk : Keeps W s₀ s) :
    Keeps W s₀ (State.wipeFor s old goal) := by
  unfold State.wipeFor
  repeat' first
    | with_reducible assumption
    | with_reducible exact Keeps.refl _ _
    | with_reducible exact Bool.false_and _
    | intro _
    | with_reducible refine Keeps.foldl _ _ ?_ (fun _ _ => ?_)
    | with_reducible refine State.dropDomain_keeps _ _ (maskLe_trans (by decide) hW) ?_
    | with_reducible refine State.wipeLogs_keeps  (maskLe_trans (by decide) hW) ?_
    | with_reducible refine State.retire_keeps  (maskLe_trans (by decide) hW) ?_
    | with_reducible refine State.saveService_keeps  (maskLe_trans (by decide) hW) ?_
    | with_reducible refine State.restoreService_keeps  (maskLe_trans (by decide) hW) ?_
    | with_reducible refine Keeps.ite ?_ ?_
    | dsimp only
    | split

theorem State.lifecycleTo_keeps {W : Nat} {s₀ s : State} (goal : Nat) (hW : maskLe 0x45408072D15699213643F39B W = true) (hk : Keeps W s₀ s) :
    Keeps W s₀ (State.lifecycleTo s goal) := by
  unfold State.lifecycleTo
  repeat' first
    | with_reducible assumption
    | with_reducible exact siteIn_mono hW (siteIn_all (by decide))
    | with_reducible exact site_2030 hW (by decide)
    | with_reducible exact Keeps.refl _ _
    | with_reducible exact Bool.false_and _
    | intro _
    | with_reducible refine Keeps.foldl _ _ ?_ (fun _ _ => ?_)
    | with_reducible refine State.putObj_keeps _ _ _ ?_ ?_
    | with_reducible refine State.bump_keeps _ _ ?_  ?_
    | with_reducible refine State.raise_keeps _ _ (maskLe_trans (by decide) hW) ?_
    | with_reducible refine State.forceFlush_keeps  (maskLe_trans (by decide) hW) ?_
    | with_reducible refine State.flushNow_keeps _ (maskLe_trans (by decide) hW) ?_
    | with_reducible refine State.endKinds_keeps  (maskLe_trans (by decide) hW) ?_
    | with_reducible refine State.causeReset_keeps _ (maskLe_trans (by decide) hW) ?_
    | with_reducible refine State.drainFifo_keeps _ (maskLe_trans (by decide) hW) ?_
    | with_reducible refine State.wipeFor_keeps _ _ (maskLe_trans (by decide) hW) ?_
    | with_reducible refine Keeps.ite ?_ ?_
    | dsimp only
    | split

theorem State.eraseBank_keeps {W : Nat} {s₀ s : State} (data : List Byte) (hW : maskLe 0x4000008000 W = true) (hk : Keeps W s₀ s) :
    Keeps W s₀ (State.eraseBank s data) := by
  unfold State.eraseBank
  repeat' first
    | with_reducible assumption
    | with_reducible exact site_2040 hW (by decide)
    | with_reducible exact Keeps.refl _ _
    | with_reducible exact Bool.false_and _
    | intro _
    | with_reducible refine Keeps.foldl _ _ ?_ (fun _ _ => ?_)
    | with_reducible refine State.setFlash_keeps _ (maskLe_trans (by decide) hW) ?_
    | with_reducible refine State.putObj_keeps _ _ _ ?_ ?_
    | with_reducible refine State.putBank_keeps _ _ (maskLe_trans (by decide) hW) ?_
    | with_reducible refine Keeps.ite ?_ ?_
    | dsimp only
    | split

theorem State.finishImage_keeps {W : Nat} {s₀ s : State} (hW : maskLe 0x8062D11681400643E008 W = true) (hk : Keeps W s₀ s) :
    Keeps W s₀ (State.finishImage s).1 := by
  unfold State.finishImage
  repeat' first
    | with_reducible assumption
    | with_reducible exact site_2040 hW (by decide)
    | with_reducible exact Keeps.refl _ _
    | with_reducible exact Bool.false_and _
    | intro _
    | with_reducible refine Keeps.foldl _ _ ?_ (fun _ _ => ?_)
    | with_reducible refine State.setFlash_keeps _ (maskLe_trans (by decide) hW) ?_
    | with_reducible refine State.putObj_keeps _ _ _ ?_ ?_
    | with_reducible refine State.raise_keeps _ _ (maskLe_trans (by decide) hW) ?_
    | with_reducible refine State.putBank_keeps _ _ (maskLe_trans (by decide) hW) ?_
    | with_reducible refine Keeps.ite ?_ ?_
    | dsimp only
    | split

theorem State.downloadSegment_keeps {W : Nat} {s₀ s : State} (ch : Channel) (data : List Byte) (first last : Bool) (hW : maskLe 0x8062D11681400643E008 W = true) (hk : Keeps W s₀ s) :
    Keeps W s₀ (State.downloadSegment s ch data first last).1 := by
  unfold State.downloadSegment
  repeat' first
    | with_reducible assumption
    | with_reducible exact Keeps.refl _ _
    | with_reducible exact Bool.false_and _
    | intro _
    | with_reducible refine Keeps.foldl _ _ ?_ (fun _ _ => ?_)
    | with_reducible refine State.setFlash_keeps _ (maskLe_trans (by decide) hW) ?_
    | with_reducible refine State.eraseBank_keeps _ (maskLe_trans (by decide) hW) ?_
    | with_reducible refine State.finishImage_keeps  (maskLe_trans (by decide) hW) ?_
    | with_reducible refine Keeps.ite ?_ ?_
    | dsimp only
    | split

theorem State.bankErased_keeps {W : Nat} {s₀ s : State} (hW : maskLe 0x8062D11681400643E1A8 W = true) (hk : Keeps W s₀ s) :
    Keeps W s₀ (State.bankErased s) := by
  unfold State.bankErased
  repeat' first
    | with_reducible assumption
    | with_reducible exact Keeps.refl _ _
    | with_reducible exact Bool.false_and _
    | intro _
    | with_reducible refine Keeps.foldl _ _ ?_ (fun _ _ => ?_)
    | with_reducible refine State.setFlash_keeps _ (maskLe_trans (by decide) hW) ?_
    | with_reducible refine State.putBank_keeps _ _ (maskLe_trans (by decide) hW) ?_
    | with_reducible refine State.answer_keeps _ _ _ _ (maskLe_trans (by decide) hW) ?_
    | with_reducible refine State.finishImage_keeps  (maskLe_trans (by decide) hW) ?_
    | with_reducible refine Keeps.ite ?_ ?_
    | dsimp only
    | split

theorem State.resumePiece_keeps {W : Nat} {s₀ s : State} (hW : maskLe 0x8062D11681400643E1A8 W = true) (hk : Keeps W s₀ s) :
    Keeps W s₀ (State.resumePiece s) := by
  unfold State.resumePiece
  repeat' first
    | with_reducible assumption
    | with_reducible exact Keeps.refl _ _
    | with_reducible exact Bool.false_and _
    | intro _
    | with_reducible refine Keeps.foldl _ _ ?_ (fun _ _ => ?_)
    | with_reducible refine State.setFlash_keeps _ (maskLe_trans (by decide) hW) ?_
    | with_reducible refine State.answer_keeps _ _ _ _ (maskLe_trans (by decide) hW) ?_
    | with_reducible refine State.downloadSegment_keeps _ _ _ _ (maskLe_trans (by decide) hW) ?_
    | with_reducible refine Keeps.ite ?_ ?_
    | dsimp only
    | split

theorem State.activateBank_keeps {W : Nat} {s₀ s : State} (arg : Nat) (hW : maskLe 0x50000000002800014008298 W = true) (hk : Keeps W s₀ s) :
    Keeps W s₀ (State.activateBank s arg) := by
  unfold State.activateBank
  repeat' first
    | with_reducible assumption
    | with_reducible exact Keeps.refl _ _
    | with_reducible exact Bool.false_and _
    | intro _
    | with_reducible refine Keeps.foldl _ _ ?_ (fun _ _ => ?_)
    | with_reducible refine State.setFlash_keeps _ (maskLe_trans (by decide) hW) ?_
    | with_reducible refine State.causeReset_keeps _ (maskLe_trans (by decide) hW) ?_
    | with_reducible refine Keeps.ite ?_ ?_
    | dsimp only
    | split

theorem State.confirmBank_keeps {W : Nat} {s₀ s : State} (hW : maskLe 0x4000000000 W = true) (hk : Keeps W s₀ s) :
    Keeps W s₀ (State.confirmBank s) := by
  unfold State.confirmBank
  repeat' first
    | with_reducible assumption
    | with_reducible exact site_2040 hW (by decide)
    | with_reducible exact Keeps.refl _ _
    | with_reducible exact Bool.false_and _
    | intro _
    | with_reducible refine Keeps.foldl _ _ ?_ (fun _ _ => ?_)
    | with_reducible refine State.putObj_keeps _ _ _ ?_ ?_
    | with_reducible refine State.putBank_keeps _ _ (maskLe_trans (by decide) hW) ?_
    | with_reducible refine Keeps.ite ?_ ?_
    | dsimp only
    | split

theorem execTrialTimeout_keeps (s : State) : Keeps.Out 0x4000000000 s (execTrialTimeout s) := by
  unfold execTrialTimeout
  repeat' first
    | with_reducible refine Keeps.out_next ?_
    | with_reducible refine Keeps.out_ite ?_ ?_
    | with_reducible assumption
    | with_reducible exact Keeps.refl _ _
    | with_reducible exact Bool.false_and _
    | intro _
    | with_reducible refine Keeps.foldl _ _ ?_ (fun _ _ => ?_)
    | with_reducible refine State.confirmBank_keeps  (by decide) ?_
    | with_reducible refine Keeps.ite ?_ ?_
    | dsimp only
    | split

theorem execUsbAddressSet_keeps (s : State) : Keeps.Out 0x40000000000000 s (execUsbAddressSet s) := by
  unfold execUsbAddressSet
  repeat' first
    | with_reducible refine Keeps.out_next ?_
    | with_reducible refine Keeps.out_ite ?_ ?_
    | with_reducible assumption
    | with_reducible exact site_2510 (maskLe_refl _) (by decide)
    | with_reducible exact Keeps.refl _ _
    | with_reducible exact Bool.false_and _
    | intro _
    | with_reducible refine Keeps.foldl _ _ ?_ (fun _ _ => ?_)
    | with_reducible refine State.putObj_keeps _ _ _ ?_ ?_
    | with_reducible refine Keeps.ite ?_ ?_
    | dsimp only
    | split

theorem State.usbConfigure_keeps {W : Nat} {s₀ s : State} (hW : maskLe 0x8062D15681400643E538 W = true) (hk : Keeps W s₀ s) :
    Keeps W s₀ (State.usbConfigure s) := by
  unfold State.usbConfigure
  repeat' first
    | with_reducible assumption
    | with_reducible exact site_2510 hW (by decide)
    | with_reducible exact Keeps.refl _ _
    | with_reducible exact Bool.false_and _
    | intro _
    | with_reducible refine Keeps.foldl _ _ ?_ (fun _ _ => ?_)
    | with_reducible refine State.setSupply_keeps _ (maskLe_trans (by decide) hW) ?_
    | with_reducible refine State.putObj_keeps _ _ _ ?_ ?_
    | with_reducible refine State.raise_keeps _ _ (maskLe_trans (by decide) hW) ?_
    | with_reducible refine State.freshGsp_keeps  (maskLe_trans (by decide) hW) ?_
    | with_reducible refine Keeps.ite ?_ ?_
    | dsimp only
    | split

theorem execUsbConfigured_keeps (s : State) : Keeps.Out 0x8062D15681400643E538 s (execUsbConfigured s) := by
  unfold execUsbConfigured
  repeat' first
    | with_reducible refine Keeps.out_next ?_
    | with_reducible refine Keeps.out_ite ?_ ?_
    | with_reducible assumption
    | with_reducible exact Keeps.refl _ _
    | with_reducible exact Bool.false_and _
    | intro _
    | with_reducible refine Keeps.foldl _ _ ?_ (fun _ _ => ?_)
    | with_reducible refine State.usbConfigure_keeps  (by decide) ?_
    | with_reducible refine Keeps.ite ?_ ?_
    | dsimp only
    | split

theorem execUsbDetach_keeps (s : State) : Keeps.Out 0x8062D15681400643ED38 s (execUsbDetach s) := by
  unfold execUsbDetach
  repeat' first
    | with_reducible refine Keeps.out_next ?_
    | with_reducible refine Keeps.out_ite ?_ ?_
    | with_reducible assumption
    | with_reducible exact Keeps.refl _ _
    | with_reducible exact Bool.false_and _
    | intro _
    | with_reducible refine Keeps.foldl _ _ ?_ (fun _ _ => ?_)
    | with_reducible refine State.usbDetach_keeps  (by decide) ?_
    | with_reducible refine Keeps.ite ?_ ?_
    | dsimp only
    | split

theorem execUsbBusReset_keeps (s : State) : Keeps.Out 0x8062D15681400643ED38 s (execUsbBusReset s) := by
  unfold execUsbBusReset
  repeat' first
    | with_reducible refine Keeps.out_next ?_
    | with_reducible refine Keeps.out_ite ?_ ?_
    | with_reducible assumption
    | with_reducible exact site_2510 (maskLe_refl _) (by decide)
    | with_reducible exact Keeps.refl _ _
    | with_reducible exact Bool.false_and _
    | intro _
    | with_reducible refine Keeps.foldl _ _ ?_ (fun _ _ => ?_)
    | with_reducible refine State.putObj_keeps _ _ _ ?_ ?_
    | with_reducible refine State.usbUnconfigure_keeps  (by decide) ?_
    | with_reducible refine Keeps.ite ?_ ?_
    | dsimp only
    | split

theorem execUsbSuspend_keeps (s : State) : Keeps.Out 0x40000000000400 s (execUsbSuspend s) := by
  unfold execUsbSuspend
  repeat' first
    | with_reducible refine Keeps.out_next ?_
    | with_reducible refine Keeps.out_ite ?_ ?_
    | with_reducible assumption
    | with_reducible exact site_2510 (maskLe_refl _) (by decide)
    | with_reducible exact Keeps.refl _ _
    | with_reducible exact Bool.false_and _
    | intro _
    | with_reducible refine Keeps.foldl _ _ ?_ (fun _ _ => ?_)
    | with_reducible refine State.setSupply_keeps _ (by decide) ?_
    | with_reducible refine State.putObj_keeps _ _ _ ?_ ?_
    | with_reducible refine Keeps.ite ?_ ?_
    | dsimp only
    | split

theorem execUsbResume_keeps (s : State) : Keeps.Out 0x40000000000000 s (execUsbResume s) := by
  unfold execUsbResume
  repeat' first
    | with_reducible refine Keeps.out_next ?_
    | with_reducible refine Keeps.out_ite ?_ ?_
    | with_reducible assumption
    | with_reducible exact site_2510 (maskLe_refl _) (by decide)
    | with_reducible exact Keeps.refl _ _
    | with_reducible exact Bool.false_and _
    | intro _
    | with_reducible refine Keeps.foldl _ _ ?_ (fun _ _ => ?_)
    | with_reducible refine State.putObj_keeps _ _ _ ?_ ?_
    | with_reducible refine Keeps.ite ?_ ?_
    | dsimp only
    | split

theorem State.takeIn_keeps {W : Nat} {s₀ s : State} (hW : maskLe 0x40000000000100 W = true) (hk : Keeps W s₀ s) :
    Keeps W s₀ (State.takeIn s) := by
  unfold State.takeIn
  repeat' first
    | with_reducible assumption
    | with_reducible exact site_2510 hW (by decide)
    | with_reducible exact Keeps.refl _ _
    | with_reducible exact Bool.false_and _
    | intro _
    | with_reducible refine Keeps.foldl _ _ ?_ (fun _ _ => ?_)
    | with_reducible refine State.setGsp_keeps _ (maskLe_trans (by decide) hW) ?_
    | with_reducible refine State.bump_keeps _ _ ?_  ?_
    | with_reducible refine Keeps.ite ?_ ?_
    | dsimp only
    | split

theorem execUsbInTransferComplete_keeps (s : State) : Keeps.Out 0x40000000000100 s (execUsbInTransferComplete s) := by
  unfold execUsbInTransferComplete
  repeat' first
    | with_reducible refine Keeps.out_next ?_
    | with_reducible refine Keeps.out_ite ?_ ?_
    | with_reducible assumption
    | with_reducible exact Keeps.refl _ _
    | with_reducible exact Bool.false_and _
    | intro _
    | with_reducible refine Keeps.foldl _ _ ?_ (fun _ _ => ?_)
    | with_reducible refine State.takeIn_keeps  (by decide) ?_
    | with_reducible refine Keeps.ite ?_ ?_
    | dsimp only
    | split

end Sys2Proof.Machine
end

