-- ==== Sys2Proof/Laws/KeepsLogOps.lean ====
section
/-! SUPPORT. What the operations of Machine/LogOps.lean keep. -/

namespace Sys2Proof.Machine

theorem execStagingEntryEligible_keeps (seq : BitVec 32) (s : State) : Keeps.Out 0x10 s (execStagingEntryEligible seq s) := by
  unfold execStagingEntryEligible
  repeat' first
    | with_reducible refine Keeps.out_next ?_
    | with_reducible refine Keeps.out_ite ?_ ?_
    | with_reducible assumption
    | with_reducible exact Keeps.refl _ _
    | with_reducible exact Bool.false_and _
    | intro _
    | with_reducible refine Keeps.foldl _ _ ?_ (fun _ _ => ?_)
    | with_reducible refine State.setRecorder_keeps _ (by decide) ?_
    | with_reducible refine State.startWrite_keeps  (by decide) ?_
    | with_reducible refine Keeps.ite ?_ ?_
    | dsimp only
    | split

theorem execFlashGranuleComplete_keeps (s : State) : Keeps.Out 0x40000000042800010000118 s (execFlashGranuleComplete s) := by
  unfold execFlashGranuleComplete
  repeat' first
    | with_reducible refine Keeps.out_next ?_
    | with_reducible refine Keeps.out_ite ?_ ?_
    | with_reducible assumption
    | with_reducible exact Keeps.refl _ _
    | with_reducible exact Bool.false_and _
    | intro _
    | with_reducible refine Keeps.foldl _ _ ?_ (fun _ _ => ?_)
    | with_reducible refine State.startWrite_keeps  (by decide) ?_
    | with_reducible refine State.granuleDone_keeps  (by decide) ?_
    | with_reducible refine State.startSave_keeps  (by decide) ?_
    | with_reducible refine Keeps.ite ?_ ?_
    | dsimp only
    | split

theorem execLogSectorEraseComplete_keeps (s : State) : Keeps.Out 0x4008062D116810016436018 s (execLogSectorEraseComplete s) := by
  unfold execLogSectorEraseComplete
  repeat' first
    | with_reducible refine Keeps.out_next ?_
    | with_reducible refine Keeps.out_ite ?_ ?_
    | with_reducible assumption
    | with_reducible exact Keeps.refl _ _
    | with_reducible exact Bool.false_and _
    | intro _
    | with_reducible refine Keeps.foldl _ _ ?_ (fun _ _ => ?_)
    | with_reducible refine State.sectorErased_keeps  (by decide) ?_
    | with_reducible refine State.startSave_keeps  (by decide) ?_
    | with_reducible refine Keeps.ite ?_ ?_
    | dsimp only
    | split

theorem State.holdErased_keeps {W : Nat} {s₀ s : State} (hW : maskLe 0x400000000002000100000098 W = true) (hk : Keeps W s₀ s) :
    Keeps W s₀ (State.holdErased s).1 := by
  unfold State.holdErased
  repeat' first
    | with_reducible assumption
    | with_reducible exact site_2320 hW (by decide)
    | with_reducible exact Keeps.refl _ _
    | with_reducible exact Bool.false_and _
    | intro _
    | with_reducible refine Keeps.foldl _ _ ?_ (fun _ _ => ?_)
    | with_reducible refine State.setFabric_keeps _ (maskLe_trans (by decide) hW) ?_
    | with_reducible refine State.setRecorder_keeps _ (maskLe_trans (by decide) hW) ?_
    | with_reducible refine State.putObj_keeps _ _ _ ?_ ?_
    | with_reducible refine State.bump_keeps _ _ ?_  ?_
    | with_reducible refine State.queueEmcy_keeps _ (maskLe_trans (by decide) hW) ?_
    | with_reducible refine State.pushHistory_keeps _ (maskLe_trans (by decide) hW) ?_
    | with_reducible refine Keeps.ite ?_ ?_
    | dsimp only
    | split

theorem State.flushRaised_keeps {W : Nat} {s₀ s : State} (hW : maskLe 0x44008062D156810126436198 W = true) (hk : Keeps W s₀ s) :
    Keeps W s₀ (State.flushRaised s) := by
  unfold State.flushRaised
  repeat' first
    | with_reducible assumption
    | with_reducible exact Keeps.refl _ _
    | with_reducible exact Bool.false_and _
    | intro _
    | with_reducible refine Keeps.foldl _ _ ?_ (fun _ _ => ?_)
    | with_reducible refine State.forceFlush_keeps  (maskLe_trans (by decide) hW) ?_
    | with_reducible refine State.flushNow_keeps _ (maskLe_trans (by decide) hW) ?_
    | with_reducible refine State.drainFifo_keeps _ (maskLe_trans (by decide) hW) ?_
    | with_reducible refine Keeps.ite ?_ ?_
    | dsimp only
    | split

theorem State.eraseLog_keeps {W : Nat} {s₀ s : State} (arg : Nat) (hW : maskLe 0x44008062D156810126436198 W = true) (hk : Keeps W s₀ s) :
    Keeps W s₀ (State.eraseLog s arg) := by
  unfold State.eraseLog
  repeat' first
    | with_reducible assumption
    | with_reducible exact Keeps.refl _ _
    | with_reducible exact Bool.false_and _
    | intro _
    | with_reducible refine Keeps.foldl _ _ ?_ (fun _ _ => ?_)
    | with_reducible refine State.setRecorder_keeps _ (maskLe_trans (by decide) hW) ?_
    | with_reducible refine State.raise_keeps _ _ (maskLe_trans (by decide) hW) ?_
    | with_reducible refine State.holdErased_keeps  (maskLe_trans (by decide) hW) ?_
    | with_reducible refine State.flushRaised_keeps  (maskLe_trans (by decide) hW) ?_
    | with_reducible refine Keeps.ite ?_ ?_
    | dsimp only
    | split

theorem State.emptyLog_keeps {W : Nat} {s₀ s : State} (hW : maskLe 0x40000000000000000000010 W = true) (hk : Keeps W s₀ s) :
    Keeps W s₀ (State.emptyLog s) := by
  unfold State.emptyLog
  repeat' first
    | with_reducible assumption
    | with_reducible exact site_5800 hW (by decide)
    | with_reducible exact Keeps.refl _ _
    | with_reducible exact Bool.false_and _
    | intro _
    | with_reducible refine Keeps.foldl _ _ ?_ (fun _ _ => ?_)
    | with_reducible refine State.setRecorder_keeps _ (maskLe_trans (by decide) hW) ?_
    | with_reducible refine State.bumpBy_keeps _ _ _ ?_  ?_
    | with_reducible refine Keeps.ite ?_ ?_
    | dsimp only
    | split

theorem State.emptyExt_keeps {W : Nat} {s₀ s : State} (hW : maskLe 0x80000000000010 W = true) (hk : Keeps W s₀ s) :
    Keeps W s₀ (State.emptyExt s) := by
  unfold State.emptyExt
  repeat' first
    | with_reducible assumption
    | with_reducible exact site_2520 hW (by decide)
    | with_reducible exact Keeps.refl _ _
    | with_reducible exact Bool.false_and _
    | intro _
    | with_reducible refine Keeps.foldl _ _ ?_ (fun _ _ => ?_)
    | with_reducible refine State.setRecorder_keeps _ (maskLe_trans (by decide) hW) ?_
    | with_reducible refine State.bumpBy_keeps _ _ _ ?_  ?_
    | with_reducible refine Keeps.ite ?_ ?_
    | dsimp only
    | split

theorem State.writeErased_keeps {W : Nat} {s₀ s : State} (rec : Record) (hW : maskLe 0x40000000042800000000118 W = true) (hk : Keeps W s₀ s) :
    Keeps W s₀ (State.writeErased s rec) := by
  unfold State.writeErased
  repeat' first
    | with_reducible assumption
    | with_reducible exact Keeps.refl _ _
    | with_reducible exact Bool.false_and _
    | intro _
    | with_reducible refine Keeps.foldl _ _ ?_ (fun _ _ => ?_)
    | with_reducible refine State.setRecorder_keeps _ (maskLe_trans (by decide) hW) ?_
    | with_reducible refine State.recordWritten_keeps _ (maskLe_trans (by decide) hW) ?_
    | with_reducible refine Keeps.ite ?_ ?_
    | dsimp only
    | split

theorem State.logErased_keeps {W : Nat} {s₀ s : State} (hW : maskLe 0x400000000C2800000000118 W = true) (hk : Keeps W s₀ s) :
    Keeps W s₀ (State.logErased s) := by
  unfold State.logErased
  repeat' first
    | with_reducible assumption
    | with_reducible exact Keeps.refl _ _
    | with_reducible exact Bool.false_and _
    | intro _
    | with_reducible refine Keeps.foldl _ _ ?_ (fun _ _ => ?_)
    | with_reducible refine State.setRecorder_keeps _ (maskLe_trans (by decide) hW) ?_
    | with_reducible refine State.startWrite_keeps  (maskLe_trans (by decide) hW) ?_
    | with_reducible refine State.startErase_keeps  (maskLe_trans (by decide) hW) ?_
    | with_reducible refine State.emptyLog_keeps  (maskLe_trans (by decide) hW) ?_
    | with_reducible refine State.emptyExt_keeps  (maskLe_trans (by decide) hW) ?_
    | with_reducible refine State.writeErased_keeps _ (maskLe_trans (by decide) hW) ?_
    | with_reducible refine Keeps.ite ?_ ?_
    | dsimp only
    | split

theorem execLogEraseComplete_keeps (s : State) : Keeps.Out 0x400000000C2800000000118 s (execLogEraseComplete s) := by
  unfold execLogEraseComplete
  repeat' first
    | with_reducible refine Keeps.out_next ?_
    | with_reducible refine Keeps.out_ite ?_ ?_
    | with_reducible assumption
    | with_reducible exact Keeps.refl _ _
    | with_reducible exact Bool.false_and _
    | intro _
    | with_reducible refine Keeps.foldl _ _ ?_ (fun _ _ => ?_)
    | with_reducible refine State.logErased_keeps  (by decide) ?_
    | with_reducible refine Keeps.ite ?_ ?_
    | dsimp only
    | split

theorem State.openRead_keeps {W : Nat} {s₀ s : State} (ch : Channel) (data : List Byte) (hW : maskLe 0x30 W = true) (hk : Keeps W s₀ s) :
    Keeps W s₀ (State.openRead s ch data) := by
  unfold State.openRead
  repeat' first
    | with_reducible assumption
    | with_reducible exact Keeps.refl _ _
    | with_reducible exact Bool.false_and _
    | intro _
    | with_reducible refine Keeps.foldl _ _ ?_ (fun _ _ => ?_)
    | with_reducible refine State.setClients_keeps _ (maskLe_trans (by decide) hW) ?_
    | with_reducible refine State.startRead_keeps _ (maskLe_trans (by decide) hW) ?_
    | with_reducible refine State.touch_keeps _ (maskLe_trans (by decide) hW) ?_
    | with_reducible refine Keeps.ite ?_ ?_
    | dsimp only
    | split

theorem execLogReadFromCursor_keeps (ch : Channel) (s : State) : Keeps.Out 0x30 s (execLogReadFromCursor ch s) := by
  unfold execLogReadFromCursor
  repeat' first
    | with_reducible refine Keeps.out_next ?_
    | with_reducible refine Keeps.out_ite ?_ ?_
    | with_reducible assumption
    | with_reducible exact Keeps.refl _ _
    | with_reducible exact Bool.false_and _
    | intro _
    | with_reducible refine Keeps.foldl _ _ ?_ (fun _ _ => ?_)
    | with_reducible refine State.openRead_keeps _ _ (by decide) ?_
    | with_reducible refine Keeps.ite ?_ ?_
    | dsimp only
    | split

theorem execLogReadAtCursor_keeps (ch : Channel) (s : State) : Keeps.Out 0x20 s (execLogReadAtCursor ch s) := by
  unfold execLogReadAtCursor
  repeat' first
    | with_reducible refine Keeps.out_next ?_
    | with_reducible refine Keeps.out_ite ?_ ?_
    | with_reducible assumption
    | with_reducible exact Keeps.refl _ _
    | with_reducible exact Bool.false_and _
    | intro _
    | with_reducible refine Keeps.foldl _ _ ?_ (fun _ _ => ?_)
    | with_reducible refine State.setClients_keeps _ (by decide) ?_
    | with_reducible refine State.touch_keeps _ (by decide) ?_
    | with_reducible refine Keeps.ite ?_ ?_
    | dsimp only
    | split

theorem execLogSnapshotRead_keeps (ch : Channel) (s : State) : Keeps.Out 0x30 s (execLogSnapshotRead ch s) := by
  unfold execLogSnapshotRead
  repeat' first
    | with_reducible refine Keeps.out_next ?_
    | with_reducible refine Keeps.out_ite ?_ ?_
    | with_reducible assumption
    | with_reducible exact Keeps.refl _ _
    | with_reducible exact Bool.false_and _
    | intro _
    | with_reducible refine Keeps.foldl _ _ ?_ (fun _ _ => ?_)
    | with_reducible refine State.openRead_keeps _ _ (by decide) ?_
    | with_reducible refine Keeps.ite ?_ ?_
    | dsimp only
    | split

theorem State.abortRead_keeps {W : Nat} {s₀ s : State} (ch : Channel) (hW : maskLe 0x180 W = true) (hk : Keeps W s₀ s) :
    Keeps W s₀ (State.abortRead s ch) := by
  unfold State.abortRead
  repeat' first
    | with_reducible assumption
    | with_reducible exact Keeps.refl _ _
    | with_reducible exact Bool.false_and _
    | intro _
    | with_reducible refine Keeps.foldl _ _ ?_ (fun _ _ => ?_)
    | with_reducible refine State.setCan_keeps _ (maskLe_trans (by decide) hW) ?_
    | with_reducible refine State.setGsp_keeps _ (maskLe_trans (by decide) hW) ?_
    | with_reducible refine State.sendCan_keeps _ (maskLe_trans (by decide) hW) ?_
    | with_reducible refine Keeps.ite ?_ ?_
    | dsimp only
    | split

theorem execReadDeferralTimeout_keeps (s : State) : Keeps.Out 0x80000000000000000000190 s (execReadDeferralTimeout s) := by
  unfold execReadDeferralTimeout
  repeat' first
    | with_reducible refine Keeps.out_next ?_
    | with_reducible refine Keeps.out_ite ?_ ?_
    | with_reducible assumption
    | with_reducible exact site_5810 (maskLe_refl _) (by decide)
    | with_reducible exact Keeps.refl _ _
    | with_reducible exact Bool.false_and _
    | intro _
    | with_reducible refine Keeps.foldl _ _ ?_ (fun _ _ => ?_)
    | with_reducible refine State.bump_keeps _ _ ?_  ?_
    | with_reducible refine State.endDeferral_keeps _ (by decide) ?_
    | with_reducible refine State.abortRead_keeps _ (by decide) ?_
    | with_reducible refine Keeps.ite ?_ ?_
    | dsimp only
    | split

theorem State.extWritten_keeps {W : Nat} {s₀ s : State} (rec : Record) (ok : Bool) (hW : maskLe 0x8062D196810006436018 W = true) (hk : Keeps W s₀ s) :
    Keeps W s₀ (State.extWritten s rec ok) := by
  unfold State.extWritten
  repeat' first
    | with_reducible assumption
    | with_reducible exact site_2520 hW (by decide)
    | with_reducible exact Keeps.refl _ _
    | with_reducible exact Bool.false_and _
    | intro _
    | with_reducible refine Keeps.foldl _ _ ?_ (fun _ _ => ?_)
    | with_reducible refine State.setRecorder_keeps _ (maskLe_trans (by decide) hW) ?_
    | with_reducible refine State.bump_keeps _ _ ?_  ?_
    | with_reducible refine State.raise_keeps _ _ (maskLe_trans (by decide) hW) ?_
    | with_reducible refine State.extAdvance_keeps  (maskLe_trans (by decide) hW) ?_
    | with_reducible refine Keeps.ite ?_ ?_
    | dsimp only
    | split

theorem execExternalLogWriteComplete_keeps (readBackOk : Bool) (status : Byte) (s : State) : Keeps.Out 0x8062D196810026436018 s (execExternalLogWriteComplete readBackOk status s) := by
  unfold execExternalLogWriteComplete
  repeat' first
    | with_reducible refine Keeps.out_next ?_
    | with_reducible refine Keeps.out_ite ?_ ?_
    | with_reducible assumption
    | with_reducible exact site_2520 (maskLe_refl _) (by decide)
    | with_reducible exact Keeps.refl _ _
    | with_reducible exact Bool.false_and _
    | intro _
    | with_reducible refine Keeps.foldl _ _ ?_ (fun _ _ => ?_)
    | with_reducible refine State.putObj_keeps _ _ _ ?_ ?_
    | with_reducible refine State.bumpBy_keeps _ _ _ ?_  ?_
    | with_reducible refine State.tick_keeps  (by decide) ?_
    | with_reducible refine State.extWritten_keeps _ _ (by decide) ?_
    | with_reducible refine Keeps.ite ?_ ?_
    | dsimp only
    | split

theorem execExternalSectorEraseComplete_keeps (ms : BitVec 16) (s : State) : Keeps.Out 0x80000000000010 s (execExternalSectorEraseComplete ms s) := by
  unfold execExternalSectorEraseComplete
  repeat' first
    | with_reducible refine Keeps.out_next ?_
    | with_reducible refine Keeps.out_ite ?_ ?_
    | with_reducible assumption
    | with_reducible exact site_2520 (maskLe_refl _) (by decide)
    | with_reducible exact Keeps.refl _ _
    | with_reducible exact Bool.false_and _
    | intro _
    | with_reducible refine Keeps.foldl _ _ ?_ (fun _ _ => ?_)
    | with_reducible refine State.setRecorder_keeps _ (by decide) ?_
    | with_reducible refine State.putObj_keeps _ _ _ ?_ ?_
    | with_reducible refine State.bump_keeps _ _ ?_  ?_
    | with_reducible refine Keeps.ite ?_ ?_
    | dsimp only
    | split

theorem State.setTime_keeps {W : Nat} {s₀ s : State} (ms source : Nat) (hW : maskLe 0x10008062D116810006437008 W = true) (hk : Keeps W s₀ s) :
    Keeps W s₀ (State.setTime s ms source) := by
  unfold State.setTime
  repeat' first
    | with_reducible assumption
    | with_reducible exact site_5820 hW (by decide)
    | with_reducible exact Keeps.refl _ _
    | with_reducible exact Bool.false_and _
    | intro _
    | with_reducible refine Keeps.foldl _ _ ?_ (fun _ _ => ?_)
    | with_reducible refine State.setRtc_keeps _ (maskLe_trans (by decide) hW) ?_
    | with_reducible refine State.bump_keeps _ _ ?_  ?_
    | with_reducible refine State.raise_keeps _ _ (maskLe_trans (by decide) hW) ?_
    | with_reducible refine Keeps.ite ?_ ?_
    | dsimp only
    | split

theorem execRtcTrimStep_keeps (s : State) : Keeps.Out 0x1000 s (execRtcTrimStep s) := by
  unfold execRtcTrimStep
  repeat' first
    | with_reducible refine Keeps.out_next ?_
    | with_reducible refine Keeps.out_ite ?_ ?_
    | with_reducible assumption
    | with_reducible exact Keeps.refl _ _
    | with_reducible exact Bool.false_and _
    | intro _
    | with_reducible refine Keeps.foldl _ _ ?_ (fun _ _ => ?_)
    | with_reducible refine State.setRtc_keeps _ (by decide) ?_
    | with_reducible refine Keeps.ite ?_ ?_
    | dsimp only
    | split

theorem execLseStart_keeps (s : State) : Keeps.Out 0x800 s (execLseStart s) := by
  unfold execLseStart
  repeat' first
    | with_reducible refine Keeps.out_next ?_
    | with_reducible refine Keeps.out_ite ?_ ?_
    | with_reducible assumption
    | with_reducible exact Keeps.refl _ _
    | with_reducible exact Bool.false_and _
    | intro _
    | with_reducible refine Keeps.foldl _ _ ?_ (fun _ _ => ?_)
    | with_reducible refine State.setClocks_keeps _ (by decide) ?_
    | with_reducible refine Keeps.ite ?_ ?_
    | dsimp only
    | split

theorem execLseStopTimeout_keeps (s : State) : Keeps.Out 0x1800 s (execLseStopTimeout s) := by
  unfold execLseStopTimeout
  repeat' first
    | with_reducible refine Keeps.out_next ?_
    | with_reducible refine Keeps.out_ite ?_ ?_
    | with_reducible assumption
    | with_reducible exact Keeps.refl _ _
    | with_reducible exact Bool.false_and _
    | intro _
    | with_reducible refine Keeps.foldl _ _ ?_ (fun _ _ => ?_)
    | with_reducible refine State.setClocks_keeps _ (by decide) ?_
    | with_reducible refine State.setRtc_keeps _ (by decide) ?_
    | with_reducible refine Keeps.ite ?_ ?_
    | dsimp only
    | split

theorem State.startStore_keeps {W : Nat} {s₀ s : State} (ch : Option Channel) (area : Nat) (restore : Bool) (hW : maskLe 0x8000 W = true) (hk : Keeps W s₀ s) :
    Keeps W s₀ (State.startStore s ch area restore) := by
  unfold State.startStore
  repeat' first
    | with_reducible assumption
    | with_reducible exact Keeps.refl _ _
    | with_reducible exact Bool.false_and _
    | intro _
    | with_reducible refine Keeps.foldl _ _ ?_ (fun _ _ => ?_)
    | with_reducible refine State.setFlash_keeps _ (maskLe_trans (by decide) hW) ?_
    | with_reducible refine Keeps.ite ?_ ?_
    | dsimp only
    | split

theorem State.storeDone_keeps {W : Nat} {s₀ s : State} (op : StoreOp) (hW : maskLe 0x8062D11681001643E1B8 W = true) (hk : Keeps W s₀ s) :
    Keeps W s₀ (State.storeDone s op) := by
  unfold State.storeDone
  repeat' first
    | with_reducible assumption
    | with_reducible exact Keeps.refl _ _
    | with_reducible exact Bool.false_and _
    | intro _
    | with_reducible refine Keeps.foldl _ _ ?_ (fun _ _ => ?_)
    | with_reducible refine State.setFlash_keeps _ (maskLe_trans (by decide) hW) ?_
    | with_reducible refine State.raise_keeps _ _ (maskLe_trans (by decide) hW) ?_
    | with_reducible refine State.startWrite_keeps  (maskLe_trans (by decide) hW) ?_
    | with_reducible refine State.startSave_keeps  (maskLe_trans (by decide) hW) ?_
    | with_reducible refine State.answer_keeps _ _ _ _ (maskLe_trans (by decide) hW) ?_
    | with_reducible refine Keeps.ite ?_ ?_
    | dsimp only
    | split

theorem State.endStore_keeps {W : Nat} {s₀ s : State} (restore : Bool) (hW : maskLe 0x8062D11681001643E1B8 W = true) (hk : Keeps W s₀ s) :
    Keeps W s₀ (State.endStore s restore) := by
  unfold State.endStore
  repeat' first
    | with_reducible assumption
    | with_reducible exact Keeps.refl _ _
    | with_reducible exact Bool.false_and _
    | intro _
    | with_reducible refine Keeps.foldl _ _ ?_ (fun _ _ => ?_)
    | with_reducible refine State.storeDone_keeps _ (maskLe_trans (by decide) hW) ?_
    | with_reducible refine Keeps.ite ?_ ?_
    | dsimp only
    | split

theorem State.storeCalibration_keeps {W : Nat} {s₀ s : State} (ch : Channel) (tag : Nat) (hW : maskLe 0x8000 W = true) (hk : Keeps W s₀ s) :
    Keeps W s₀ (State.storeCalibration s ch tag) := by
  unfold State.storeCalibration
  repeat' first
    | with_reducible assumption
    | with_reducible exact Keeps.refl _ _
    | with_reducible exact Bool.false_and _
    | intro _
    | with_reducible refine Keeps.foldl _ _ ?_ (fun _ _ => ?_)
    | with_reducible refine State.setFlash_keeps _ (maskLe_trans (by decide) hW) ?_
    | with_reducible refine Keeps.ite ?_ ?_
    | dsimp only
    | split

theorem State.calibrationStored_keeps {W : Nat} {s₀ s : State} (hW : maskLe 0x8062D11681001643E1B8 W = true) (hk : Keeps W s₀ s) :
    Keeps W s₀ (State.calibrationStored s) := by
  unfold State.calibrationStored
  repeat' first
    | with_reducible assumption
    | with_reducible exact Keeps.refl _ _
    | with_reducible exact Bool.false_and _
    | intro _
    | with_reducible refine Keeps.foldl _ _ ?_ (fun _ _ => ?_)
    | with_reducible refine State.setFlash_keeps _ (maskLe_trans (by decide) hW) ?_
    | with_reducible refine State.raise_keeps _ _ (maskLe_trans (by decide) hW) ?_
    | with_reducible refine State.startWrite_keeps  (maskLe_trans (by decide) hW) ?_
    | with_reducible refine State.startSave_keeps  (maskLe_trans (by decide) hW) ?_
    | with_reducible refine State.answer_keeps _ _ _ _ (maskLe_trans (by decide) hW) ?_
    | with_reducible refine Keeps.ite ?_ ?_
    | dsimp only
    | split

end Sys2Proof.Machine
end

