-- ==== Sys2Proof/Laws/KeepsFlags.lean ====
section
/-! SUPPORT. What the operations of Machine/Flags.lean keep. -/

namespace Sys2Proof.Machine

theorem State.readEffect_keeps {W : Nat} {s₀ s : State} (ix sub : Nat) (hW : maskLe 0x20000001 W = true) (hk : Keeps W s₀ s) :
    Keeps W s₀ (State.readEffect s ix sub) := by
  unfold State.readEffect
  repeat' first
    | with_reducible assumption
    | with_reducible exact siteIn_mono hW (siteIn_all (by decide))
    | with_reducible exact Keeps.refl _ _
    | with_reducible exact Bool.false_and _
    | intro _
    | with_reducible refine Keeps.foldl _ _ ?_ (fun _ _ => ?_)
    | with_reducible refine State.putBit_keeps _ _ _ _ ?_  ?_
    | with_reducible refine State.tick_keeps  (maskLe_trans (by decide) hW) ?_
    | with_reducible refine Keeps.ite ?_ ?_
    | dsimp only
    | split

end Sys2Proof.Machine
end

