-- ==== Sys2Proof/Laws/KeepsWrite.lean ====
section
/-! SUPPORT. What the operations of Machine/Write.lean keep. -/

namespace Sys2Proof.Machine

theorem State.putNow_keeps {W : Nat} {s₀ s : State} (ix sub : Nat) (v : Int) (hi : siteIn W ix = true) (hW : maskLe 0x4 W = true) (hk : Keeps W s₀ s) :
    Keeps W s₀ (State.putNow s ix sub v) := by
  exact State.putObj_keeps _ _ _ hi (State.setStale_keeps _ hW hk (cellDrop_ascend _ _))

theorem State.putConfig_keeps {W : Nat} {s₀ s : State} (ix sub : Nat) (v : Int) (hi : siteIn W ix = true) (hW : maskLe 0x4 W = true) (hk : Keeps W s₀ s) :
    Keeps W s₀ (State.putConfig s ix sub v) := by
  unfold State.putConfig
  repeat' first
    | with_reducible assumption
    | with_reducible exact Keeps.refl _ _
    | with_reducible exact Bool.false_and _
    | intro _
    | with_reducible refine Keeps.foldl _ _ ?_ (fun _ _ => ?_)
    | with_reducible refine State.putFast_keeps _ _ _ ?_ (maskLe_trans (by decide) hW) ?_
    | with_reducible refine State.putNow_keeps _ _ _ ?_ (maskLe_trans (by decide) hW) ?_
    | with_reducible refine Keeps.ite ?_ ?_
    | dsimp only
    | split

theorem State.clearHistory_keeps {W : Nat} {s₀ s : State} (hW : maskLe 0x100000000 W = true) (hk : Keeps W s₀ s) :
    Keeps W s₀ (State.clearHistory s) := by
  unfold State.clearHistory
  repeat' first
    | with_reducible assumption
    | with_reducible exact site_1003 hW (by decide)
    | with_reducible exact Keeps.refl _ _
    | with_reducible exact Bool.false_and _
    | intro _
    | with_reducible refine Keeps.foldl _ _ ?_ (fun _ _ => ?_)
    | with_reducible refine State.putObj_keeps _ _ _ ?_ ?_
    | with_reducible refine Keeps.ite ?_ ?_
    | dsimp only
    | split

theorem State.writeEnvelope_keeps {W : Nat} {s₀ s : State} (r : RailId) (sub : Nat) (v : Int) (rank : Nat) (hW : maskLe 0x8062F11681000643600C W = true) (hk : Keeps W s₀ s) :
    Keeps W s₀ (State.writeEnvelope s r sub v rank) := by
  unfold State.writeEnvelope
  repeat' first
    | with_reducible assumption
    | with_reducible exact site_rail_02 _ hW (by decide)
    | with_reducible exact Keeps.refl _ _
    | with_reducible exact Bool.false_and _
    | intro _
    | with_reducible refine Keeps.foldl _ _ ?_ (fun _ _ => ?_)
    | with_reducible refine State.putFast_keeps _ _ _ ?_ (maskLe_trans (by decide) hW) ?_
    | with_reducible refine State.modRail_keeps _ _ (maskLe_trans (by decide) hW) ?_
    | with_reducible refine State.applyTarget_keeps _ _ (maskLe_trans (by decide) hW) ?_
    | with_reducible refine State.takeEnvelope_keeps _ _ _ (maskLe_trans (by decide) hW) ?_
    | with_reducible refine State.takeLimits_keeps _ (maskLe_trans (by decide) hW) ?_
    | with_reducible refine Keeps.ite ?_ ?_
    | dsimp only
    | split

theorem State.writeSource_keeps {W : Nat} {s₀ s : State} (r : RailId) (v : Int) (hW : maskLe 0x8062D116810006436008 W = true) (hk : Keeps W s₀ s) :
    Keeps W s₀ (State.writeSource s r v) := by
  unfold State.writeSource
  repeat' first
    | with_reducible assumption
    | with_reducible exact site_railbit_10 hW (by decide)
    | with_reducible exact Keeps.refl _ _
    | with_reducible exact Bool.false_and _
    | intro _
    | with_reducible refine Keeps.foldl _ _ ?_ (fun _ _ => ?_)
    | with_reducible refine State.modRail_keeps _ _ (maskLe_trans (by decide) hW) ?_
    | with_reducible refine State.putRailObj_keeps _ _ _ _ ?_  ?_
    | with_reducible refine State.applyTarget_keeps _ _ (maskLe_trans (by decide) hW) ?_
    | with_reducible refine Keeps.ite ?_ ?_
    | dsimp only
    | split

theorem State.writeRail_keeps {W : Nat} {s₀ s : State} (r : RailId) (off sub : Nat) (v : Int) (rank : Nat) (hW : maskLe 0x78066F11681000643600D W = true) (hk : Keeps W s₀ s) :
    Keeps W s₀ (State.writeRail s r off sub v rank) := by
  unfold State.writeRail
  repeat' first
    | with_reducible assumption
    | with_reducible exact siteIn_mono hW (siteIn_all (by decide))
    | with_reducible exact Keeps.refl _ _
    | with_reducible exact Bool.false_and _
    | intro _
    | with_reducible refine Keeps.foldl _ _ ?_ (fun _ _ => ?_)
    | with_reducible refine State.writeEnable_keeps _ _ (maskLe_trans (by decide) hW) ?_
    | with_reducible refine State.acceptTarget_keeps _ _ (maskLe_trans (by decide) hW) ?_
    | with_reducible refine State.writeDirection_keeps _ (maskLe_trans (by decide) hW) ?_
    | with_reducible refine State.putConfig_keeps _ _ _ ?_ (maskLe_trans (by decide) hW) ?_
    | with_reducible refine State.writeEnvelope_keeps _ _ _ _ (maskLe_trans (by decide) hW) ?_
    | with_reducible refine State.writeSource_keeps _ _ (maskLe_trans (by decide) hW) ?_
    | with_reducible refine Keeps.ite ?_ ?_
    | dsimp only
    | split

theorem State.writeAdaptation_keeps {W : Nat} {s₀ s : State} (p : PhaseId) (v : Int) (hW : maskLe 0x108000000000000020004 W = true) (hk : Keeps W s₀ s) :
    Keeps W s₀ (State.writeAdaptation s p v) := by
  unfold State.writeAdaptation
  repeat' first
    | with_reducible assumption
    | with_reducible exact site_phase_1 _ hW (by decide)
    | with_reducible exact site_phase_7 _ hW (by decide)
    | with_reducible exact Keeps.refl _ _
    | with_reducible exact Bool.false_and _
    | intro _
    | with_reducible refine Keeps.foldl _ _ ?_ (fun _ _ => ?_)
    | with_reducible refine State.putBit_keeps _ _ _ _ ?_  ?_
    | with_reducible refine State.modPhase_keeps _ _ (maskLe_trans (by decide) hW) ?_ (fun _ h => ?_)
    | with_reducible refine State.putConfig_keeps _ _ _ ?_ (maskLe_trans (by decide) hW) ?_
    | with_reducible refine Keeps.ite ?_ ?_
    | dsimp only
    | split

theorem State.writeEntry_keeps {W : Nat} {s₀ s : State} (n : Fin 64) (v : Int) (hW : maskLe 0x400000010000 W = true) (hk : Keeps W s₀ s) :
    Keeps W s₀ (State.writeEntry s n v) := by
  unfold State.writeEntry
  repeat' first
    | with_reducible assumption
    | with_reducible exact site_2210 hW (by decide)
    | with_reducible exact Keeps.refl _ _
    | with_reducible exact Bool.false_and _
    | intro _
    | with_reducible refine Keeps.foldl _ _ ?_ (fun _ _ => ?_)
    | with_reducible refine State.putObj_keeps _ _ _ ?_ ?_
    | with_reducible refine State.armEntry_keeps _ (maskLe_trans (by decide) hW) ?_
    | with_reducible refine Keeps.ite ?_ ?_
    | dsimp only
    | split

theorem State.writeRing_keeps {W : Nat} {s₀ s : State} (v : Int) (hW : maskLe 0x10000004000000 W = true) (hk : Keeps W s₀ s) :
    Keeps W s₀ (State.writeRing s v) := by
  unfold State.writeRing
  repeat' first
    | with_reducible assumption
    | with_reducible exact site_2400 hW (by decide)
    | with_reducible exact Keeps.refl _ _
    | with_reducible exact Bool.false_and _
    | intro _
    | with_reducible refine Keeps.foldl _ _ ?_ (fun _ _ => ?_)
    | with_reducible refine State.putObj_keeps _ _ _ ?_ ?_
    | with_reducible refine State.leaveRing_keeps _ (maskLe_trans (by decide) hW) ?_
    | with_reducible refine State.joinRing_keeps  (maskLe_trans (by decide) hW) ?_
    | with_reducible refine Keeps.ite ?_ ?_
    | dsimp only
    | split

theorem State.writeAuxMode_keeps {W : Nat} {s₀ s : State} (c : AuxId) (v : Int) (hW : maskLe 0x4080000000280000010001C W = true) (hk : Keeps W s₀ s) :
    Keeps W s₀ (State.writeAuxMode s c v) := by
  unfold State.writeAuxMode
  repeat' first
    | with_reducible assumption
    | with_reducible exact site_4130 hW (by decide)
    | with_reducible exact Keeps.refl _ _
    | with_reducible exact Bool.false_and _
    | intro _
    | with_reducible refine Keeps.foldl _ _ ?_ (fun _ _ => ?_)
    | with_reducible refine State.auxOff_keeps _ (maskLe_trans (by decide) hW) ?_
    | with_reducible refine State.putNow_keeps _ _ _ ?_ (maskLe_trans (by decide) hW) ?_
    | with_reducible refine Keeps.ite ?_ ?_
    | dsimp only
    | split

theorem State.writeComm_keeps {W : Nat} {s₀ s : State} (ix sub : Nat) (v : Int) (hW : maskLe 0x4100008081 W = true) (hk : Keeps W s₀ s) :
    Keeps W s₀ (State.writeComm s ix sub v) := by
  unfold State.writeComm
  repeat' first
    | with_reducible assumption
    | with_reducible exact siteIn_mono hW (siteIn_all (by decide))
    | with_reducible exact Keeps.refl _ _
    | with_reducible exact Bool.false_and _
    | intro _
    | with_reducible refine Keeps.foldl _ _ ?_ (fun _ _ => ?_)
    | with_reducible refine State.setCan_keeps _ (maskLe_trans (by decide) hW) ?_
    | with_reducible refine State.putObj_keeps _ _ _ ?_ ?_
    | with_reducible refine State.eraseBank_keeps _ (maskLe_trans (by decide) hW) ?_
    | with_reducible refine State.clearHistory_keeps  (maskLe_trans (by decide) hW) ?_
    | with_reducible refine Keeps.ite ?_ ?_
    | dsimp only
    | split

theorem State.writeDevice_keeps {W : Nat} {s₀ s : State} (ix sub : Nat) (v : Int) (hW : maskLe 0x25410608006410205 W = true) (hk : Keeps W s₀ s) :
    Keeps W s₀ (State.writeDevice s ix sub v) := by
  unfold State.writeDevice
  repeat' first
    | with_reducible assumption
    | with_reducible exact siteIn_mono hW (siteIn_all (by decide))
    | with_reducible exact Keeps.refl _ _
    | with_reducible exact Bool.false_and _
    | intro _
    | with_reducible refine Keeps.foldl _ _ ?_ (fun _ _ => ?_)
    | with_reducible refine State.writeHallMap_keeps _ (maskLe_trans (by decide) hW) ?_
    | with_reducible refine State.setPower_keeps _ (maskLe_trans (by decide) hW) ?_
    | with_reducible refine State.putConfig_keeps _ _ _ ?_ (maskLe_trans (by decide) hW) ?_
    | with_reducible refine State.writeEntry_keeps _ _ (maskLe_trans (by decide) hW) ?_
    | with_reducible refine State.writeRing_keeps _ (maskLe_trans (by decide) hW) ?_
    | with_reducible refine Keeps.ite ?_ ?_
    | dsimp only
    | split

theorem State.applyNumber_keeps {W : Nat} {s₀ s : State} (ch : Channel) (ix sub : Nat) (v : Int) (hW : maskLe 0x140F8866F516E1C10653F2BD W = true) (hk : Keeps W s₀ s) :
    Keeps W s₀ (State.applyNumber s ch ix sub v) := by
  unfold State.applyNumber
  repeat' first
    | with_reducible assumption
    | with_reducible exact siteIn_mono hW (siteIn_all (by decide))
    | with_reducible exact Keeps.refl _ _
    | with_reducible exact Bool.false_and _
    | intro _
    | with_reducible refine Keeps.foldl _ _ ?_ (fun _ _ => ?_)
    | with_reducible refine State.setRtc_keeps _ (maskLe_trans (by decide) hW) ?_
    | with_reducible refine State.putObj_keeps _ _ _ ?_ ?_
    | with_reducible refine State.storeAdcLoads_keeps  (maskLe_trans (by decide) hW) ?_
    | with_reducible refine State.applyDirection_keeps _ (maskLe_trans (by decide) hW) ?_
    | with_reducible refine State.modClient_keeps _ _ (maskLe_trans (by decide) hW) ?_
    | with_reducible refine State.setTime_keeps _ _ (maskLe_trans (by decide) hW) ?_
    | with_reducible refine State.putConfig_keeps _ _ _ ?_ (maskLe_trans (by decide) hW) ?_
    | with_reducible refine State.writeRail_keeps _ _ _ _ _ (maskLe_trans (by decide) hW) ?_
    | with_reducible refine State.writeAdaptation_keeps _ _ (maskLe_trans (by decide) hW) ?_
    | with_reducible refine State.writeAuxMode_keeps _ _ (maskLe_trans (by decide) hW) ?_
    | with_reducible refine State.writeComm_keeps _ _ _ (maskLe_trans (by decide) hW) ?_
    | with_reducible refine State.writeDevice_keeps _ _ _ (maskLe_trans (by decide) hW) ?_
    | with_reducible refine Keeps.ite ?_ ?_
    | dsimp only
    | split

theorem State.writeNumber_keeps {W : Nat} {s₀ s : State} (ch : Channel) (ix sub : Nat) (v : Int) (hW : maskLe 0x140F8866F516E1C10653F2BD W = true) (hk : Keeps W s₀ s) :
    Keeps W s₀ (State.writeNumber s ch ix sub v).1 := by
  unfold State.writeNumber
  repeat' first
    | with_reducible assumption
    | with_reducible exact Keeps.refl _ _
    | with_reducible exact Bool.false_and _
    | intro _
    | with_reducible refine Keeps.foldl _ _ ?_ (fun _ _ => ?_)
    | with_reducible refine State.startStore_keeps _ _ _ (maskLe_trans (by decide) hW) ?_
    | with_reducible refine State.applyNumber_keeps _ _ _ _ (maskLe_trans (by decide) hW) ?_
    | with_reducible refine Keeps.ite ?_ ?_
    | dsimp only
    | split

theorem State.writeText_keeps {W : Nat} {s₀ s : State} (ch : Channel) (ix sub : Nat) (data : List Byte) (hW : maskLe 0x8062D11681400643E02A W = true) (hk : Keeps W s₀ s) :
    Keeps W s₀ (State.writeText s ch ix sub data).1 := by
  unfold State.writeText
  repeat' first
    | with_reducible assumption
    | with_reducible exact Keeps.refl _ _
    | with_reducible exact Bool.false_and _
    | intro _
    | with_reducible refine Keeps.foldl _ _ ?_ (fun _ _ => ?_)
    | with_reducible refine State.putDomain_keeps _ _ _ (maskLe_trans (by decide) hW) ?_
    | with_reducible refine State.takeResponse_keeps _ _ (maskLe_trans (by decide) hW) ?_
    | with_reducible refine State.writeKey_keeps _ _ _ (maskLe_trans (by decide) hW) ?_
    | with_reducible refine State.downloadSegment_keeps _ _ _ _ (maskLe_trans (by decide) hW) ?_
    | with_reducible refine Keeps.ite ?_ ?_
    | dsimp only
    | split

theorem State.profileCommand_keeps {W : Nat} {s₀ s : State} (r : RailId) (arg : Nat) (hW : maskLe 0x8062D116810006436008 W = true) (hk : Keeps W s₀ s) :
    Keeps W s₀ (State.profileCommand s r arg) := by
  unfold State.profileCommand
  repeat' first
    | with_reducible assumption
    | with_reducible exact Keeps.refl _ _
    | with_reducible exact Bool.false_and _
    | intro _
    | with_reducible refine Keeps.foldl _ _ ?_ (fun _ _ => ?_)
    | with_reducible refine State.profileStep_keeps _ _ (maskLe_trans (by decide) hW) ?_
    | with_reducible refine State.profileAbort_keeps _ (maskLe_trans (by decide) hW) ?_
    | with_reducible refine Keeps.ite ?_ ?_
    | dsimp only
    | split

theorem State.returnToPrimary_keeps {W : Nat} {s₀ s : State} (k : SlotId) (hW : maskLe 0x40002400002800000800018 W = true) (hk : Keeps W s₀ s) :
    Keeps W s₀ (State.returnToPrimary s k) := by
  unfold State.returnToPrimary
  repeat' first
    | with_reducible assumption
    | with_reducible exact site_slot _ _ hW (by decide)
    | with_reducible exact site_slotIx _ hW (by decide)
    | with_reducible exact Keeps.refl _ _
    | with_reducible exact Bool.false_and _
    | intro _
    | with_reducible refine Keeps.foldl _ _ ?_ (fun _ _ => ?_)
    | with_reducible refine State.putObj_keeps _ _ _ ?_ ?_
    | with_reducible refine State.modSlot_keeps _ _ (maskLe_trans (by decide) hW) ?_
    | with_reducible refine State.applyDue_keeps _ (maskLe_trans (by decide) hW) ?_
    | with_reducible refine Keeps.ite ?_ ?_
    | dsimp only
    | split

theorem State.relayCommand_keeps {W : Nat} {s₀ s : State} (arg : Nat) (hW : maskLe 0x10000 W = true) (hk : Keeps W s₀ s) :
    Keeps W s₀ (State.relayCommand s arg) := by
  unfold State.relayCommand
  repeat' first
    | with_reducible assumption
    | with_reducible exact Keeps.refl _ _
    | with_reducible exact Bool.false_and _
    | intro _
    | with_reducible refine Keeps.foldl _ _ ?_ (fun _ _ => ?_)
    | with_reducible refine State.commandRelay_keeps _ _ _ (maskLe_trans (by decide) hW) ?_
    | with_reducible refine Keeps.ite ?_ ?_
    | dsimp only
    | split

theorem State.clearCounts_keeps {W : Nat} {s₀ s : State} (hW : maskLe 0x10000000000000000000000 W = true) (hk : Keeps W s₀ s) :
    Keeps W s₀ (State.clearCounts s) := by
  unfold State.clearCounts
  repeat' first
    | with_reducible assumption
    | with_reducible exact site_5068 hW (by decide)
    | with_reducible exact Keeps.refl _ _
    | with_reducible exact Bool.false_and _
    | intro _
    | with_reducible refine Keeps.foldl _ _ ?_ (fun _ _ => ?_)
    | with_reducible refine State.putObj_keeps _ _ _ ?_ ?_
    | with_reducible refine Keeps.ite ?_ ?_
    | dsimp only
    | split

theorem State.doAction_keeps {W : Nat} {s₀ s : State} (ch : Channel) (ix sub tag arg : Nat) (hW : maskLe 0x45779A76D556BB613FC3FFFF W = true) (hk : Keeps W s₀ s) :
    Keeps W s₀ (State.doAction s ch ix sub tag arg) := by
  unfold State.doAction
  repeat' first
    | with_reducible assumption
    | with_reducible exact Keeps.refl _ _
    | with_reducible exact Bool.false_and _
    | intro _
    | with_reducible refine Keeps.foldl _ _ ?_ (fun _ _ => ?_)
    | with_reducible refine State.clearTrips_keeps _ (maskLe_trans (by decide) hW) ?_
    | with_reducible refine State.resetDcEnergy_keeps _ (maskLe_trans (by decide) hW) ?_
    | with_reducible refine State.requestSave_keeps _ (maskLe_trans (by decide) hW) ?_
    | with_reducible refine State.resetTotals_keeps  (maskLe_trans (by decide) hW) ?_
    | with_reducible refine State.commitTable_keeps _ _ (maskLe_trans (by decide) hW) ?_
    | with_reducible refine State.endSession_keeps _ _ (maskLe_trans (by decide) hW) ?_
    | with_reducible refine State.overrideWetHold_keeps  (maskLe_trans (by decide) hW) ?_
    | with_reducible refine State.clearEvents_keeps _ (maskLe_trans (by decide) hW) ?_
    | with_reducible refine State.acknowledgeAll_keeps  (maskLe_trans (by decide) hW) ?_
    | with_reducible refine State.clearInterrupts_keeps _ (maskLe_trans (by decide) hW) ?_
    | with_reducible refine State.outlineCommand_keeps _ (maskLe_trans (by decide) hW) ?_
    | with_reducible refine State.commitOutline_keeps _ _ (maskLe_trans (by decide) hW) ?_
    | with_reducible refine State.functionCommand_keeps _ _ (maskLe_trans (by decide) hW) ?_
    | with_reducible refine State.powerCycle_keeps _ (maskLe_trans (by decide) hW) ?_
    | with_reducible refine State.challenge_keeps _ _ (maskLe_trans (by decide) hW) ?_
    | with_reducible refine State.commitMap_keeps _ _ (maskLe_trans (by decide) hW) ?_
    | with_reducible refine State.lifecycleTo_keeps _ (maskLe_trans (by decide) hW) ?_
    | with_reducible refine State.activateBank_keeps _ (maskLe_trans (by decide) hW) ?_
    | with_reducible refine State.confirmBank_keeps  (maskLe_trans (by decide) hW) ?_
    | with_reducible refine State.eraseLog_keeps _ (maskLe_trans (by decide) hW) ?_
    | with_reducible refine State.storeCalibration_keeps _ _ (maskLe_trans (by decide) hW) ?_
    | with_reducible refine State.profileCommand_keeps _ _ (maskLe_trans (by decide) hW) ?_
    | with_reducible refine State.returnToPrimary_keeps _ (maskLe_trans (by decide) hW) ?_
    | with_reducible refine State.relayCommand_keeps _ (maskLe_trans (by decide) hW) ?_
    | with_reducible refine State.clearCounts_keeps  (maskLe_trans (by decide) hW) ?_
    | with_reducible refine Keeps.ite ?_ ?_
    | dsimp only
    | split

theorem State.remember_keeps {W : Nat} {s₀ s : State} (ch : Channel) (tag : Nat) (code : Option Nat) (hW : maskLe 0x20 W = true) (hk : Keeps W s₀ s) :
    Keeps W s₀ (State.remember s ch tag code) := by
  unfold State.remember
  repeat' first
    | with_reducible assumption
    | with_reducible exact Keeps.refl _ _
    | with_reducible exact Bool.false_and _
    | intro _
    | with_reducible refine Keeps.foldl _ _ ?_ (fun _ _ => ?_)
    | with_reducible refine State.modClient_keeps _ _ (maskLe_trans (by decide) hW) ?_
    | with_reducible refine Keeps.ite ?_ ?_
    | dsimp only
    | split

theorem State.refuseAction_keeps {W : Nat} {s₀ s : State} (ch : Channel) (ix sub tag code : Nat) (hW : maskLe 0x21 W = true) (hk : Keeps W s₀ s) :
    Keeps W s₀ (State.refuseAction s ch ix sub tag code).1 := by
  unfold State.refuseAction
  repeat' first
    | with_reducible assumption
    | with_reducible exact siteIn_mono hW (siteIn_all (by decide))
    | with_reducible exact Keeps.refl _ _
    | with_reducible exact Bool.false_and _
    | intro _
    | with_reducible refine Keeps.foldl _ _ ?_ (fun _ _ => ?_)
    | with_reducible refine State.putObj_keeps _ _ _ ?_ ?_
    | with_reducible refine State.remember_keeps _ _ _ (maskLe_trans (by decide) hW) ?_
    | with_reducible refine Keeps.ite ?_ ?_
    | dsimp only
    | split

theorem State.acceptAction_keeps {W : Nat} {s₀ s : State} (ch : Channel) (ix sub tag arg : Nat) (hW : maskLe 0x45779A76D556BB613FC3FFFF W = true) (hk : Keeps W s₀ s) :
    Keeps W s₀ (State.acceptAction s ch ix sub tag arg).1 := by
  unfold State.acceptAction
  repeat' first
    | with_reducible assumption
    | with_reducible exact siteIn_mono hW (siteIn_all (by decide))
    | with_reducible exact Keeps.refl _ _
    | with_reducible exact Bool.false_and _
    | intro _
    | with_reducible refine Keeps.foldl _ _ ?_ (fun _ _ => ?_)
    | with_reducible refine State.putObj_keeps _ _ _ ?_ ?_
    | with_reducible refine State.touch_keeps _ (maskLe_trans (by decide) hW) ?_
    | with_reducible refine State.doAction_keeps _ _ _ _ _ (maskLe_trans (by decide) hW) ?_
    | with_reducible refine State.remember_keeps _ _ _ (maskLe_trans (by decide) hW) ?_
    | with_reducible refine Keeps.ite ?_ ?_
    | dsimp only
    | split

theorem State.writeAction_keeps {W : Nat} {s₀ s : State} (ch : Channel) (ix sub : Nat) (row : ObjRow) (data : List Byte) (hW : maskLe 0x45779A76D556BB613FC3FFFF W = true) (hk : Keeps W s₀ s) :
    Keeps W s₀ (State.writeAction s ch ix sub row data).1 := by
  unfold State.writeAction
  repeat' first
    | with_reducible assumption
    | with_reducible exact Keeps.refl _ _
    | with_reducible exact Bool.false_and _
    | intro _
    | with_reducible refine Keeps.foldl _ _ ?_ (fun _ _ => ?_)
    | with_reducible refine State.refuseAction_keeps _ _ _ _ _ (maskLe_trans (by decide) hW) ?_
    | with_reducible refine State.acceptAction_keeps _ _ _ _ _ (maskLe_trans (by decide) hW) ?_
    | with_reducible refine Keeps.ite ?_ ?_
    | dsimp only
    | split

theorem State.writeValue_keeps {W : Nat} {s₀ s : State} (ch : Channel) (ix sub : Nat) (row : ObjRow) (data : List Byte) (hW : maskLe 0x140F8866F516E1C10653F2BF W = true) (hk : Keeps W s₀ s) :
    Keeps W s₀ (State.writeValue s ch ix sub row data).1 := by
  unfold State.writeValue
  repeat' first
    | with_reducible assumption
    | with_reducible exact Keeps.refl _ _
    | with_reducible exact Bool.false_and _
    | intro _
    | with_reducible refine Keeps.foldl _ _ ?_ (fun _ _ => ?_)
    | with_reducible refine State.touch_keeps _ (maskLe_trans (by decide) hW) ?_
    | with_reducible refine State.writeNumber_keeps _ _ _ _ (maskLe_trans (by decide) hW) ?_
    | with_reducible refine State.writeText_keeps _ _ _ _ (maskLe_trans (by decide) hW) ?_
    | with_reducible refine Keeps.ite ?_ ?_
    | dsimp only
    | split

theorem State.writeObj_keeps {W : Nat} {s₀ s : State} (ch : Channel) (ix sub : Nat) (data : List Byte) (hW : maskLe 0x557F9A76F556FBE13FD3FFFF W = true) (hk : Keeps W s₀ s) :
    Keeps W s₀ (State.writeObj s ch ix sub data).1 := by
  unfold State.writeObj
  repeat' first
    | with_reducible assumption
    | with_reducible exact Keeps.refl _ _
    | with_reducible exact Bool.false_and _
    | intro _
    | with_reducible refine Keeps.foldl _ _ ?_ (fun _ _ => ?_)
    | with_reducible refine State.writeAction_keeps _ _ _ _ _ (maskLe_trans (by decide) hW) ?_
    | with_reducible refine State.writeValue_keeps _ _ _ _ _ (maskLe_trans (by decide) hW) ?_
    | with_reducible refine Keeps.ite ?_ ?_
    | dsimp only
    | split

theorem State.recordResult_keeps {W : Nat} {s₀ s : State} (ch : Channel) (ix sub : Nat) (r : WriteResult) (hW : maskLe 0x20 W = true) (hk : Keeps W s₀ s) :
    Keeps W s₀ (State.recordResult s ch ix sub r) := by
  unfold State.recordResult
  repeat' first
    | with_reducible assumption
    | with_reducible exact Keeps.refl _ _
    | with_reducible exact Bool.false_and _
    | intro _
    | with_reducible refine Keeps.foldl _ _ ?_ (fun _ _ => ?_)
    | with_reducible refine State.record_keeps _ _ _ _ (maskLe_trans (by decide) hW) ?_
    | with_reducible refine Keeps.ite ?_ ?_
    | dsimp only
    | split

theorem State.hostWrite_keeps {W : Nat} {s₀ s : State} (ch : Channel) (ix sub : Nat) (data : List Byte) (hW : maskLe 0x557F9A76F556FBE13FD3FFFF W = true) (hk : Keeps W s₀ s) :
    Keeps W s₀ (State.hostWrite s ch ix sub data) := by
  unfold State.hostWrite
  repeat' first
    | with_reducible assumption
    | with_reducible exact Keeps.refl _ _
    | with_reducible exact Bool.false_and _
    | intro _
    | with_reducible refine Keeps.foldl _ _ ?_ (fun _ _ => ?_)
    | with_reducible refine State.writeObj_keeps _ _ _ _ (maskLe_trans (by decide) hW) ?_
    | with_reducible refine State.recordResult_keeps _ _ _ _ (maskLe_trans (by decide) hW) ?_
    | with_reducible refine Keeps.ite ?_ ?_
    | dsimp only
    | split

theorem State.hostAction_keeps {W : Nat} {s₀ s : State} (ch : Channel) (ix sub tag arg : Nat) (hW : maskLe 0x557F9A76F556FBE13FD3FFFF W = true) (hk : Keeps W s₀ s) :
    Keeps W s₀ (State.hostAction s ch ix sub tag arg) := by
  unfold State.hostAction
  repeat' first
    | with_reducible assumption
    | with_reducible exact Keeps.refl _ _
    | with_reducible exact Bool.false_and _
    | intro _
    | with_reducible refine Keeps.foldl _ _ ?_ (fun _ _ => ?_)
    | with_reducible refine State.hostWrite_keeps _ _ _ _ (maskLe_trans (by decide) hW) ?_
    | with_reducible refine Keeps.ite ?_ ?_
    | dsimp only
    | split

end Sys2Proof.Machine
end

