-- ==== Sys2Proof/Laws/KeepsHostRows.lean ====
section
/-! SUPPORT. What the operations of Machine/HostRows.lean keep. -/

namespace Sys2Proof.Machine

theorem State.writePiece_keeps {W : Nat} {s₀ s : State} (ch : Channel) (data : List Byte) (first last : Bool) (hW : maskLe 0x8062D11681400643E028 W = true) (hk : Keeps W s₀ s) :
    Keeps W s₀ (State.writePiece s ch data first last).1 := by
  unfold State.writePiece
  repeat' first
    | with_reducible assumption
    | with_reducible exact Keeps.refl _ _
    | with_reducible exact Bool.false_and _
    | intro _
    | with_reducible refine Keeps.foldl _ _ ?_ (fun _ _ => ?_)
    | with_reducible refine State.touch_keeps _ (maskLe_trans (by decide) hW) ?_
    | with_reducible refine State.downloadSegment_keeps _ _ _ _ (maskLe_trans (by decide) hW) ?_
    | with_reducible refine Keeps.ite ?_ ?_
    | dsimp only
    | split

theorem State.hostSegment_keeps {W : Nat} {s₀ s : State} (ch : Channel) (data : List Byte) (first last : Bool) (hW : maskLe 0x8062D11681400643E028 W = true) (hk : Keeps W s₀ s) :
    Keeps W s₀ (State.hostSegment s ch data first last) := by
  unfold State.hostSegment
  repeat' first
    | with_reducible assumption
    | with_reducible exact Keeps.refl _ _
    | with_reducible exact Bool.false_and _
    | intro _
    | with_reducible refine Keeps.foldl _ _ ?_ (fun _ _ => ?_)
    | with_reducible refine State.recordResult_keeps _ _ _ _ (maskLe_trans (by decide) hW) ?_
    | with_reducible refine State.writePiece_keeps _ _ _ _ (maskLe_trans (by decide) hW) ?_
    | with_reducible refine Keeps.ite ?_ ?_
    | dsimp only
    | split

end Sys2Proof.Machine
end

