-- ==== Sys2Proof/Laws/KeepsCan.lean ====
section
/-! SUPPORT. What the operations of Machine/Can.lean keep. -/

namespace Sys2Proof.Machine

theorem State.modCan_keeps {W : Nat} {s₀ s : State} (f : Can → Can) (hW : maskLe 0x80 W = true) (hk : Keeps W s₀ s) :
    Keeps W s₀ (State.modCan s f) := by
  unfold State.modCan
  repeat' first
    | with_reducible assumption
    | with_reducible exact Keeps.refl _ _
    | with_reducible exact Bool.false_and _
    | intro _
    | with_reducible refine Keeps.foldl _ _ ?_ (fun _ _ => ?_)
    | with_reducible refine State.setCan_keeps _ (maskLe_trans (by decide) hW) ?_
    | with_reducible refine Keeps.ite ?_ ?_
    | dsimp only
    | split

theorem State.endTransfers_keeps {W : Nat} {s₀ s : State} (hW : maskLe 0x4000008090 W = true) (hk : Keeps W s₀ s) :
    Keeps W s₀ (State.endTransfers s) := by
  unfold State.endTransfers
  repeat' first
    | with_reducible assumption
    | with_reducible exact Keeps.refl _ _
    | with_reducible exact Bool.false_and _
    | intro _
    | with_reducible refine Keeps.foldl _ _ ?_ (fun _ _ => ?_)
    | with_reducible refine State.abandonDownload_keeps _ (maskLe_trans (by decide) hW) ?_
    | with_reducible refine State.abandonRead_keeps _ (maskLe_trans (by decide) hW) ?_
    | with_reducible refine State.modCan_keeps _ (maskLe_trans (by decide) hW) ?_
    | with_reducible refine Keeps.ite ?_ ?_
    | dsimp only
    | split

theorem State.enterOperational_keeps {W : Nat} {s₀ s : State} (hW : maskLe 0x80 W = true) (hk : Keeps W s₀ s) :
    Keeps W s₀ (State.enterOperational s) := by
  unfold State.enterOperational
  repeat' first
    | with_reducible assumption
    | with_reducible exact Keeps.refl _ _
    | with_reducible exact Bool.false_and _
    | intro _
    | with_reducible refine Keeps.foldl _ _ ?_ (fun _ _ => ?_)
    | with_reducible refine State.modCan_keeps _ (maskLe_trans (by decide) hW) ?_
    | with_reducible refine Keeps.ite ?_ ?_
    | dsimp only
    | split

theorem State.dropHeld_keeps {W : Nat} {s₀ s : State} (hW : maskLe 0x80 W = true) (hk : Keeps W s₀ s) :
    Keeps W s₀ (State.dropHeld s) := by
  unfold State.dropHeld
  repeat' first
    | with_reducible assumption
    | with_reducible exact Keeps.refl _ _
    | with_reducible exact Bool.false_and _
    | intro _
    | with_reducible refine Keeps.foldl _ _ ?_ (fun _ _ => ?_)
    | with_reducible refine State.modCan_keeps _ (maskLe_trans (by decide) hW) ?_
    | with_reducible refine Keeps.ite ?_ ?_
    | dsimp only
    | split

theorem State.enterPreOperational_keeps {W : Nat} {s₀ s : State} (hW : maskLe 0x25000000002400080 W = true) (hk : Keeps W s₀ s) :
    Keeps W s₀ (State.enterPreOperational s) := by
  unfold State.enterPreOperational
  repeat' first
    | with_reducible assumption
    | with_reducible exact Keeps.refl _ _
    | with_reducible exact Bool.false_and _
    | intro _
    | with_reducible refine Keeps.foldl _ _ ?_ (fun _ _ => ?_)
    | with_reducible refine State.softStopAll_keeps _ (maskLe_trans (by decide) hW) ?_
    | with_reducible refine State.pumpEmcy_keeps  (maskLe_trans (by decide) hW) ?_
    | with_reducible refine State.modCan_keeps _ (maskLe_trans (by decide) hW) ?_
    | with_reducible refine State.dropHeld_keeps  (maskLe_trans (by decide) hW) ?_
    | with_reducible refine Keeps.ite ?_ ?_
    | dsimp only
    | split

theorem State.enterStopped_keeps {W : Nat} {s₀ s : State} (hW : maskLe 0x25000004002408090 W = true) (hk : Keeps W s₀ s) :
    Keeps W s₀ (State.enterStopped s) := by
  unfold State.enterStopped
  repeat' first
    | with_reducible assumption
    | with_reducible exact Keeps.refl _ _
    | with_reducible exact Bool.false_and _
    | intro _
    | with_reducible refine Keeps.foldl _ _ ?_ (fun _ _ => ?_)
    | with_reducible refine State.softStopAll_keeps _ (maskLe_trans (by decide) hW) ?_
    | with_reducible refine State.modCan_keeps _ (maskLe_trans (by decide) hW) ?_
    | with_reducible refine State.endTransfers_keeps  (maskLe_trans (by decide) hW) ?_
    | with_reducible refine State.dropHeld_keeps  (maskLe_trans (by decide) hW) ?_
    | with_reducible refine Keeps.ite ?_ ?_
    | dsimp only
    | split

theorem State.nmtStart_keeps {W : Nat} {s₀ s : State} (hW : maskLe 0x80 W = true) (hk : Keeps W s₀ s) :
    Keeps W s₀ (State.nmtStart s) := by
  unfold State.nmtStart
  repeat' first
    | with_reducible assumption
    | with_reducible exact Keeps.refl _ _
    | with_reducible exact Bool.false_and _
    | intro _
    | with_reducible refine Keeps.foldl _ _ ?_ (fun _ _ => ?_)
    | with_reducible refine State.pumpEmcy_keeps  (maskLe_trans (by decide) hW) ?_
    | with_reducible refine State.modCan_keeps _ (maskLe_trans (by decide) hW) ?_
    | with_reducible refine State.enterOperational_keeps  (maskLe_trans (by decide) hW) ?_
    | with_reducible refine Keeps.ite ?_ ?_
    | dsimp only
    | split

theorem execNmtStart_keeps (node : BitVec 7) (s : State) : Keeps.Out 0x80 s (execNmtStart node s) := by
  unfold execNmtStart
  repeat' first
    | with_reducible refine Keeps.out_next ?_
    | with_reducible refine Keeps.out_ite ?_ ?_
    | with_reducible assumption
    | with_reducible exact Keeps.refl _ _
    | with_reducible exact Bool.false_and _
    | intro _
    | with_reducible refine Keeps.foldl _ _ ?_ (fun _ _ => ?_)
    | with_reducible refine State.nmtStart_keeps  (by decide) ?_
    | with_reducible refine Keeps.ite ?_ ?_
    | dsimp only
    | split

theorem execNmtEnterPreOperational_keeps (node : BitVec 7) (s : State) : Keeps.Out 0x25000000002400080 s (execNmtEnterPreOperational node s) := by
  unfold execNmtEnterPreOperational
  repeat' first
    | with_reducible refine Keeps.out_next ?_
    | with_reducible refine Keeps.out_ite ?_ ?_
    | with_reducible assumption
    | with_reducible exact Keeps.refl _ _
    | with_reducible exact Bool.false_and _
    | intro _
    | with_reducible refine Keeps.foldl _ _ ?_ (fun _ _ => ?_)
    | with_reducible refine State.enterPreOperational_keeps  (by decide) ?_
    | with_reducible refine Keeps.ite ?_ ?_
    | dsimp only
    | split

theorem execNmtStop_keeps (node : BitVec 7) (s : State) : Keeps.Out 0x25000004002408090 s (execNmtStop node s) := by
  unfold execNmtStop
  repeat' first
    | with_reducible refine Keeps.out_next ?_
    | with_reducible refine Keeps.out_ite ?_ ?_
    | with_reducible assumption
    | with_reducible exact Keeps.refl _ _
    | with_reducible exact Bool.false_and _
    | intro _
    | with_reducible refine Keeps.foldl _ _ ?_ (fun _ _ => ?_)
    | with_reducible refine State.enterStopped_keeps  (by decide) ?_
    | with_reducible refine Keeps.ite ?_ ?_
    | dsimp only
    | split

theorem State.reloadComm_keeps {W : Nat} {s₀ s : State} (hW : maskLe 0x300000083 W = true) (hk : Keeps W s₀ s) :
    Keeps W s₀ (State.reloadComm s) := by
  have hr : ∀ k, storable 2 k = true → siteIn W (k / 256) = true := by
    intro k h
    have ha : areaOf (k / 256) = 2 := by
      unfold storable at h
      simp only [Bool.and_eq_true, Bool.or_eq_true, beq_iff_eq] at h
      rcases h.1.1.1.1 with h | h
      · exact absurd h (by decide)
      · exact h
    have hg : Safety.group (k / 256) = 0x1000 ∨ Safety.group (k / 256) = 0x2008 := by
      unfold areaOf at ha
      unfold Safety.group
      (repeat' split) <;> (repeat' split at ha) <;> omega
    rcases hg with h | h <;> exact siteIn_group h (bitIn_mono hW (by decide))
  have ho : Keeps W s₀ (s.setOd (s.od.filter fun (c : Nat × Int) => !storable 2 c.1)) := by
    refine State.setOd_keeps _ hk (filter_wf _ _) (fun c k hs => odGet_filter _ _ _ (fun v => ?_) c)
    cases e : storable 2 k with
    | false => simp only [Bool.not_false]
    | true => rw [hr k e] at hs; exact absurd hs Bool.noConfusion
  unfold State.reloadComm
  dsimp only
  refine State.loadNode_keeps (maskLe_trans (by decide) hW) ?_
  unfold State.overlay
  dsimp only
  simp only [List.foldl_nil]
  refine Keeps.foldl_mem _ _ ho (fun t c hmem => ?_)
  exact State.putObj_keeps _ _ _ (hr c.1 (List.mem_filter.1 hmem).2) (Keeps.refl _ _)

theorem State.resetChannels_keeps {W : Nat} {s₀ s : State} (hW : maskLe 0x8062D15681400643E138 W = true) (hk : Keeps W s₀ s) :
    Keeps W s₀ (State.resetChannels s) := by
  unfold State.resetChannels
  repeat' first
    | with_reducible assumption
    | with_reducible exact Keeps.refl _ _
    | with_reducible exact Bool.false_and _
    | intro _
    | with_reducible refine Keeps.foldl _ _ ?_ (fun _ _ => ?_)
    | with_reducible refine State.modClient_keeps _ _ (maskLe_trans (by decide) hW) ?_
    | with_reducible refine State.endSession_keeps _ _ (maskLe_trans (by decide) hW) ?_
    | with_reducible refine Keeps.ite ?_ ?_
    | dsimp only
    | split

theorem State.freshPort_keeps {W : Nat} {s₀ s : State} (hW : maskLe 0x80 W = true) (hk : Keeps W s₀ s) :
    Keeps W s₀ (State.freshPort s) := by
  unfold State.freshPort
  repeat' first
    | with_reducible assumption
    | with_reducible exact Keeps.refl _ _
    | with_reducible exact Bool.false_and _
    | intro _
    | with_reducible refine Keeps.foldl _ _ ?_ (fun _ _ => ?_)
    | with_reducible refine State.modCan_keeps _ (maskLe_trans (by decide) hW) ?_
    | with_reducible refine Keeps.ite ?_ ?_
    | dsimp only
    | split

theorem State.resetCommunication_keeps {W : Nat} {s₀ s : State} (hW : maskLe 0x40008062D15681430643E1BB W = true) (hk : Keeps W s₀ s) :
    Keeps W s₀ (State.resetCommunication s) := by
  unfold State.resetCommunication
  repeat' first
    | with_reducible assumption
    | with_reducible exact Keeps.refl _ _
    | with_reducible exact Bool.false_and _
    | intro _
    | with_reducible refine Keeps.foldl _ _ ?_ (fun _ _ => ?_)
    | with_reducible refine State.softStopAll_keeps _ (maskLe_trans (by decide) hW) ?_
    | with_reducible refine State.bootUp_keeps  (maskLe_trans (by decide) hW) ?_
    | with_reducible refine State.emptyTx_keeps  (maskLe_trans (by decide) hW) ?_
    | with_reducible refine State.endTransfers_keeps  (maskLe_trans (by decide) hW) ?_
    | with_reducible refine State.reloadComm_keeps  (maskLe_trans (by decide) hW) ?_
    | with_reducible refine State.resetChannels_keeps  (maskLe_trans (by decide) hW) ?_
    | with_reducible refine State.freshPort_keeps  (maskLe_trans (by decide) hW) ?_
    | with_reducible refine Keeps.ite ?_ ?_
    | dsimp only
    | split

theorem execNmtResetCommunication_keeps (node : BitVec 7) (s : State) : Keeps.Out 0x40008062D15681430643E1BB s (execNmtResetCommunication node s) := by
  unfold execNmtResetCommunication
  repeat' first
    | with_reducible refine Keeps.out_next ?_
    | with_reducible refine Keeps.out_ite ?_ ?_
    | with_reducible assumption
    | with_reducible exact Keeps.refl _ _
    | with_reducible exact Bool.false_and _
    | intro _
    | with_reducible refine Keeps.foldl _ _ ?_ (fun _ _ => ?_)
    | with_reducible refine State.resetCommunication_keeps  (by decide) ?_
    | with_reducible refine Keeps.ite ?_ ?_
    | dsimp only
    | split

theorem execNmtResetNode_keeps (node : BitVec 7) (s : State) : Keeps.Out 0x50000000002800014000298 s (execNmtResetNode node s) := by
  unfold execNmtResetNode
  repeat' first
    | with_reducible refine Keeps.out_next ?_
    | with_reducible refine Keeps.out_ite ?_ ?_
    | with_reducible assumption
    | with_reducible exact Keeps.refl _ _
    | with_reducible exact Bool.false_and _
    | intro _
    | with_reducible refine Keeps.foldl _ _ ?_ (fun _ _ => ?_)
    | with_reducible refine State.causeReset_keeps _ (by decide) ?_
    | with_reducible refine Keeps.ite ?_ ?_
    | dsimp only
    | split

theorem State.sendHeartbeat_keeps {W : Nat} {s₀ s : State} (hW : maskLe 0x80 W = true) (hk : Keeps W s₀ s) :
    Keeps W s₀ (State.sendHeartbeat s) := by
  unfold State.sendHeartbeat
  repeat' first
    | with_reducible assumption
    | with_reducible exact Keeps.refl _ _
    | with_reducible exact Bool.false_and _
    | intro _
    | with_reducible refine Keeps.foldl _ _ ?_ (fun _ _ => ?_)
    | with_reducible refine State.sendCan_keeps _ (maskLe_trans (by decide) hW) ?_
    | with_reducible refine State.modCan_keeps _ (maskLe_trans (by decide) hW) ?_
    | with_reducible refine Keeps.ite ?_ ?_
    | dsimp only
    | split

theorem execHeartbeatPeriodExpiry_keeps (s : State) : Keeps.Out 0x80 s (execHeartbeatPeriodExpiry s) := by
  unfold execHeartbeatPeriodExpiry
  repeat' first
    | with_reducible refine Keeps.out_next ?_
    | with_reducible refine Keeps.out_ite ?_ ?_
    | with_reducible assumption
    | with_reducible exact Keeps.refl _ _
    | with_reducible exact Bool.false_and _
    | intro _
    | with_reducible refine Keeps.foldl _ _ ?_ (fun _ _ => ?_)
    | with_reducible refine State.sendHeartbeat_keeps  (by decide) ?_
    | with_reducible refine Keeps.ite ?_ ?_
    | dsimp only
    | split

theorem State.heardFrom_keeps {W : Nat} {s₀ s : State} (node : Nat) (hW : maskLe 0x40000000002800000000098 W = true) (hk : Keeps W s₀ s) :
    Keeps W s₀ (State.heardFrom s node) := by
  unfold State.heardFrom
  repeat' first
    | with_reducible assumption
    | with_reducible exact Keeps.refl _ _
    | with_reducible exact Bool.false_and _
    | intro _
    | with_reducible refine Keeps.foldl _ _ ?_ (fun _ _ => ?_)
    | with_reducible refine State.endEvent_keeps _ _ (maskLe_trans (by decide) hW) ?_
    | with_reducible refine State.modCan_keeps _ (maskLe_trans (by decide) hW) ?_
    | with_reducible refine Keeps.ite ?_ ?_
    | dsimp only
    | split

theorem execHeartbeatReceived_keeps (node : BitVec 7) (_state : Byte) (s : State) : Keeps.Out 0x40000000002800000000098 s (execHeartbeatReceived node _state s) := by
  unfold execHeartbeatReceived
  repeat' first
    | with_reducible refine Keeps.out_next ?_
    | with_reducible refine Keeps.out_ite ?_ ?_
    | with_reducible assumption
    | with_reducible exact Keeps.refl _ _
    | with_reducible exact Bool.false_and _
    | intro _
    | with_reducible refine Keeps.foldl _ _ ?_ (fun _ _ => ?_)
    | with_reducible refine State.heardFrom_keeps _ (by decide) ?_
    | with_reducible refine Keeps.ite ?_ ?_
    | dsimp only
    | split

theorem State.commError_keeps {W : Nat} {s₀ s : State} (hW : maskLe 0x25000004002408090 W = true) (hk : Keeps W s₀ s) :
    Keeps W s₀ (State.commError s) := by
  unfold State.commError
  repeat' first
    | with_reducible assumption
    | with_reducible exact Keeps.refl _ _
    | with_reducible exact Bool.false_and _
    | intro _
    | with_reducible refine Keeps.foldl _ _ ?_ (fun _ _ => ?_)
    | with_reducible refine State.enterPreOperational_keeps  (maskLe_trans (by decide) hW) ?_
    | with_reducible refine State.enterStopped_keeps  (maskLe_trans (by decide) hW) ?_
    | with_reducible refine Keeps.ite ?_ ?_
    | dsimp only
    | split

theorem State.missed_keeps {W : Nat} {s₀ s : State} (e : Fin 4) (hW : maskLe 0x8062D11681400643E098 W = true) (hk : Keeps W s₀ s) :
    Keeps W s₀ (State.missed s e) := by
  unfold State.missed
  repeat' first
    | with_reducible assumption
    | with_reducible exact Keeps.refl _ _
    | with_reducible exact Bool.false_and _
    | intro _
    | with_reducible refine Keeps.foldl _ _ ?_ (fun _ _ => ?_)
    | with_reducible refine State.raise_keeps _ _ (maskLe_trans (by decide) hW) ?_
    | with_reducible refine State.modCan_keeps _ (maskLe_trans (by decide) hW) ?_
    | with_reducible refine State.commError_keeps  (maskLe_trans (by decide) hW) ?_
    | with_reducible refine Keeps.ite ?_ ?_
    | dsimp only
    | split

theorem execHeartbeatTimeout_keeps (entry : Fin 4) (s : State) : Keeps.Out 0x8062D11681400643E098 s (execHeartbeatTimeout entry s) := by
  unfold execHeartbeatTimeout
  repeat' first
    | with_reducible refine Keeps.out_next ?_
    | with_reducible refine Keeps.out_ite ?_ ?_
    | with_reducible assumption
    | with_reducible exact Keeps.refl _ _
    | with_reducible exact Bool.false_and _
    | intro _
    | with_reducible refine Keeps.foldl _ _ ?_ (fun _ _ => ?_)
    | with_reducible refine State.missed_keeps _ (by decide) ?_
    | with_reducible refine Keeps.ite ?_ ?_
    | dsimp only
    | split

theorem State.goBusOff_keeps {W : Nat} {s₀ s : State} (tec : Nat) (hW : maskLe 0x4008062D11681400643E098 W = true) (hk : Keeps W s₀ s) :
    Keeps W s₀ (State.goBusOff s tec) := by
  unfold State.goBusOff
  repeat' first
    | with_reducible assumption
    | with_reducible exact Keeps.refl _ _
    | with_reducible exact Bool.false_and _
    | intro _
    | with_reducible refine Keeps.foldl _ _ ?_ (fun _ _ => ?_)
    | with_reducible refine State.raise_keeps _ _ (maskLe_trans (by decide) hW) ?_
    | with_reducible refine State.endEvent_keeps _ _ (maskLe_trans (by decide) hW) ?_
    | with_reducible refine State.modCan_keeps _ (maskLe_trans (by decide) hW) ?_
    | with_reducible refine State.commError_keeps  (maskLe_trans (by decide) hW) ?_
    | with_reducible refine Keeps.ite ?_ ?_
    | dsimp only
    | split

theorem execCanBusOff_keeps (tec : Nat) (_rec : Nat) (s : State) : Keeps.Out 0x4008062D11681400643E098 s (execCanBusOff tec _rec s) := by
  unfold execCanBusOff
  repeat' first
    | with_reducible refine Keeps.out_next ?_
    | with_reducible refine Keeps.out_ite ?_ ?_
    | with_reducible assumption
    | with_reducible exact Keeps.refl _ _
    | with_reducible exact Bool.false_and _
    | intro _
    | with_reducible refine Keeps.foldl _ _ ?_ (fun _ _ => ?_)
    | with_reducible refine State.goBusOff_keeps _ (by decide) ?_
    | with_reducible refine Keeps.ite ?_ ?_
    | dsimp only
    | split

theorem State.rejoin_keeps {W : Nat} {s₀ s : State} (hW : maskLe 0x4008062D116810006436098 W = true) (hk : Keeps W s₀ s) :
    Keeps W s₀ (State.rejoin s) := by
  unfold State.rejoin
  repeat' first
    | with_reducible assumption
    | with_reducible exact Keeps.refl _ _
    | with_reducible exact Bool.false_and _
    | intro _
    | with_reducible refine Keeps.foldl _ _ ?_ (fun _ _ => ?_)
    | with_reducible refine State.raise_keeps _ _ (maskLe_trans (by decide) hW) ?_
    | with_reducible refine State.pumpEmcy_keeps  (maskLe_trans (by decide) hW) ?_
    | with_reducible refine State.endEvent_keeps _ _ (maskLe_trans (by decide) hW) ?_
    | with_reducible refine State.modCan_keeps _ (maskLe_trans (by decide) hW) ?_
    | with_reducible refine Keeps.ite ?_ ?_
    | dsimp only
    | split

theorem execCanBusRecovered_keeps (s : State) : Keeps.Out 0x4008062D116810006436098 s (execCanBusRecovered s) := by
  unfold execCanBusRecovered
  repeat' first
    | with_reducible refine Keeps.out_next ?_
    | with_reducible refine Keeps.out_ite ?_ ?_
    | with_reducible assumption
    | with_reducible exact Keeps.refl _ _
    | with_reducible exact Bool.false_and _
    | intro _
    | with_reducible refine Keeps.foldl _ _ ?_ (fun _ _ => ?_)
    | with_reducible refine State.rejoin_keeps  (by decide) ?_
    | with_reducible refine Keeps.ite ?_ ?_
    | dsimp only
    | split

theorem execCanErrorPassive_keeps (tec : Nat) (rec : Nat) (s : State) : Keeps.Out 0x8062D116810006436088 s (execCanErrorPassive tec rec s) := by
  unfold execCanErrorPassive
  repeat' first
    | with_reducible refine Keeps.out_next ?_
    | with_reducible refine Keeps.out_ite ?_ ?_
    | with_reducible assumption
    | with_reducible exact Keeps.refl _ _
    | with_reducible exact Bool.false_and _
    | intro _
    | with_reducible refine Keeps.foldl _ _ ?_ (fun _ _ => ?_)
    | with_reducible refine State.raise_keeps _ _ (by decide) ?_
    | with_reducible refine State.modCan_keeps _ (by decide) ?_
    | with_reducible refine Keeps.ite ?_ ?_
    | dsimp only
    | split

theorem execErrorPassiveTimeout_keeps (s : State) : Keeps.Out 0x25000004002408090 s (execErrorPassiveTimeout s) := by
  unfold execErrorPassiveTimeout
  repeat' first
    | with_reducible refine Keeps.out_next ?_
    | with_reducible refine Keeps.out_ite ?_ ?_
    | with_reducible assumption
    | with_reducible exact Keeps.refl _ _
    | with_reducible exact Bool.false_and _
    | intro _
    | with_reducible refine Keeps.foldl _ _ ?_ (fun _ _ => ?_)
    | with_reducible refine State.commError_keeps  (by decide) ?_
    | with_reducible refine Keeps.ite ?_ ?_
    | dsimp only
    | split

theorem execCanRxOverrun_keeps (lost : BitVec 32) (s : State) : Keeps.Out 0x8062D116810006436008 s (execCanRxOverrun lost s) := by
  unfold execCanRxOverrun
  repeat' first
    | with_reducible refine Keeps.out_next ?_
    | with_reducible refine Keeps.out_ite ?_ ?_
    | with_reducible assumption
    | with_reducible exact Keeps.refl _ _
    | with_reducible exact Bool.false_and _
    | intro _
    | with_reducible refine Keeps.foldl _ _ ?_ (fun _ _ => ?_)
    | with_reducible refine State.raise_keeps _ _ (by decide) ?_
    | with_reducible refine Keeps.ite ?_ ?_
    | dsimp only
    | split

theorem State.writeRpdo_keeps {W : Nat} {s₀ s : State} (c : Nat × List Byte) (hW : maskLe 0x557F9A76F556FBE13FD3FFFF W = true) (hk : Keeps W s₀ s) :
    Keeps W s₀ (State.writeRpdo s c) := by
  unfold State.writeRpdo
  repeat' first
    | with_reducible assumption
    | with_reducible exact siteIn_mono hW (siteIn_all (by decide))
    | with_reducible exact site_5f00 hW (by decide)
    | with_reducible exact Keeps.refl _ _
    | with_reducible exact Bool.false_and _
    | intro _
    | with_reducible refine Keeps.foldl _ _ ?_ (fun _ _ => ?_)
    | with_reducible refine State.bump_keeps _ _ ?_  ?_
    | with_reducible refine State.writeObj_keeps _ _ _ _ (maskLe_trans (by decide) hW) ?_
    | with_reducible refine Keeps.ite ?_ ?_
    | dsimp only
    | split

theorem State.takeRpdo_keeps {W : Nat} {s₀ s : State} (l : List (MapEntry × List Byte)) (hW : maskLe 0x400000000000000000000000 W = true) (hk : Keeps W s₀ s) :
    Keeps W s₀ (State.takeRpdo s l).1 := by
  unfold State.takeRpdo
  repeat' first
    | with_reducible assumption
    | with_reducible exact site_5f00 hW (by decide)
    | with_reducible exact Keeps.refl _ _
    | with_reducible exact Bool.false_and _
    | intro _
    | with_reducible refine Keeps.foldl _ _ ?_ (fun _ _ => ?_)
    | with_reducible refine Keeps.foldl_fst _ _ ?_ (fun _ _ => ?_)
    | with_reducible refine State.bump_keeps _ _ ?_  ?_
    | with_reducible refine Keeps.ite ?_ ?_
    | dsimp only
    | split

theorem State.takeFrame_keeps {W : Nat} {s₀ s : State} (n : Fin 4) (data : List Byte) (hW : maskLe 0x557F9A76F556FBE13FD3FFFF W = true) (hk : Keeps W s₀ s) :
    Keeps W s₀ (State.takeFrame s n data) := by
  unfold State.takeFrame
  repeat' first
    | with_reducible assumption
    | with_reducible exact Keeps.refl _ _
    | with_reducible exact Bool.false_and _
    | intro _
    | with_reducible refine Keeps.foldl _ _ ?_ (fun _ _ => ?_)
    | with_reducible refine State.raise_keeps _ _ (maskLe_trans (by decide) hW) ?_
    | with_reducible refine State.modCan_keeps _ (maskLe_trans (by decide) hW) ?_
    | with_reducible refine State.writeRpdo_keeps _ (maskLe_trans (by decide) hW) ?_
    | with_reducible refine State.takeRpdo_keeps _ (maskLe_trans (by decide) hW) ?_
    | with_reducible refine Keeps.ite ?_ ?_
    | dsimp only
    | split

theorem execRpdoReceived_keeps (n : Fin 4) (data : List Byte) (s : State) : Keeps.Out 0x557F9A76F556FBE13FD3FFFF s (execRpdoReceived n data s) := by
  unfold execRpdoReceived
  repeat' first
    | with_reducible refine Keeps.out_next ?_
    | with_reducible refine Keeps.out_ite ?_ ?_
    | with_reducible assumption
    | with_reducible exact Keeps.refl _ _
    | with_reducible exact Bool.false_and _
    | intro _
    | with_reducible refine Keeps.foldl _ _ ?_ (fun _ _ => ?_)
    | with_reducible refine State.takeFrame_keeps _ _ (by decide) ?_
    | with_reducible refine Keeps.ite ?_ ?_
    | dsimp only
    | split

theorem State.modTpdo_keeps {W : Nat} {s₀ s : State} (n : Fin 4) (f : Tpdo → Tpdo) (hW : maskLe 0x80 W = true) (hk : Keeps W s₀ s) :
    Keeps W s₀ (State.modTpdo s n f) := by
  unfold State.modTpdo
  repeat' first
    | with_reducible assumption
    | with_reducible exact Keeps.refl _ _
    | with_reducible exact Bool.false_and _
    | intro _
    | with_reducible refine Keeps.foldl _ _ ?_ (fun _ _ => ?_)
    | with_reducible refine State.modCan_keeps _ (maskLe_trans (by decide) hW) ?_
    | with_reducible refine Keeps.ite ?_ ?_
    | dsimp only
    | split

theorem State.syncTpdo_keeps {W : Nat} {s₀ s : State} (n : Fin 4) (hW : maskLe 0x80 W = true) (hk : Keeps W s₀ s) :
    Keeps W s₀ (State.syncTpdo s n) := by
  unfold State.syncTpdo
  repeat' first
    | with_reducible assumption
    | with_reducible exact Keeps.refl _ _
    | with_reducible exact Bool.false_and _
    | intro _
    | with_reducible refine Keeps.foldl _ _ ?_ (fun _ _ => ?_)
    | with_reducible refine State.sendCan_keeps _ (maskLe_trans (by decide) hW) ?_
    | with_reducible refine State.modTpdo_keeps _ _ (maskLe_trans (by decide) hW) ?_
    | with_reducible refine Keeps.ite ?_ ?_
    | dsimp only
    | split

theorem State.consumeSync_keeps {W : Nat} {s₀ s : State} (hW : maskLe 0x557F9A76F556FBE13FD3FFFF W = true) (hk : Keeps W s₀ s) :
    Keeps W s₀ (State.consumeSync s) := by
  unfold State.consumeSync
  repeat' first
    | with_reducible assumption
    | with_reducible exact Keeps.refl _ _
    | with_reducible exact Bool.false_and _
    | intro _
    | with_reducible refine Keeps.foldl _ _ ?_ (fun _ _ => ?_)
    | with_reducible refine State.dropHeld_keeps  (maskLe_trans (by decide) hW) ?_
    | with_reducible refine State.writeRpdo_keeps _ (maskLe_trans (by decide) hW) ?_
    | with_reducible refine State.syncTpdo_keeps _ (maskLe_trans (by decide) hW) ?_
    | with_reducible refine Keeps.ite ?_ ?_
    | dsimp only
    | split

theorem execSyncReceived_keeps (_counter : Option Byte) (s : State) : Keeps.Out 0x557F9A76F556FBE13FD3FFFF s (execSyncReceived _counter s) := by
  unfold execSyncReceived
  repeat' first
    | with_reducible refine Keeps.out_next ?_
    | with_reducible refine Keeps.out_ite ?_ ?_
    | with_reducible assumption
    | with_reducible exact Keeps.refl _ _
    | with_reducible exact Bool.false_and _
    | intro _
    | with_reducible refine Keeps.foldl _ _ ?_ (fun _ _ => ?_)
    | with_reducible refine State.consumeSync_keeps  (by decide) ?_
    | with_reducible refine Keeps.ite ?_ ?_
    | dsimp only
    | split

theorem execSyncPeriodExpiry_keeps (s : State) : Keeps.Out 0x80 s (execSyncPeriodExpiry s) := by
  unfold execSyncPeriodExpiry
  repeat' first
    | with_reducible refine Keeps.out_next ?_
    | with_reducible refine Keeps.out_ite ?_ ?_
    | with_reducible assumption
    | with_reducible exact Keeps.refl _ _
    | with_reducible exact Bool.false_and _
    | intro _
    | with_reducible refine Keeps.foldl _ _ ?_ (fun _ _ => ?_)
    | with_reducible refine State.produceSync_keeps  (by decide) ?_
    | with_reducible refine Keeps.ite ?_ ?_
    | dsimp only
    | split

theorem execTpdoSyncWindowExpiry_keeps (n : Fin 4) (s : State) : Keeps.Out 0x400000000000000000000080 s (execTpdoSyncWindowExpiry n s) := by
  unfold execTpdoSyncWindowExpiry
  repeat' first
    | with_reducible refine Keeps.out_next ?_
    | with_reducible refine Keeps.out_ite ?_ ?_
    | with_reducible assumption
    | with_reducible exact site_5f00 (maskLe_refl _) (by decide)
    | with_reducible exact Keeps.refl _ _
    | with_reducible exact Bool.false_and _
    | intro _
    | with_reducible refine Keeps.foldl _ _ ?_ (fun _ _ => ?_)
    | with_reducible refine State.bump_keeps _ _ ?_  ?_
    | with_reducible refine State.modCan_keeps _ (by decide) ?_
    | with_reducible refine Keeps.ite ?_ ?_
    | dsimp only
    | split

theorem State.queueTpdo_keeps {W : Nat} {s₀ s : State} (n : Fin 4) (hW : maskLe 0x80 W = true) (hk : Keeps W s₀ s) :
    Keeps W s₀ (State.queueTpdo s n) := by
  unfold State.queueTpdo
  repeat' first
    | with_reducible assumption
    | with_reducible exact Keeps.refl _ _
    | with_reducible exact Bool.false_and _
    | intro _
    | with_reducible refine Keeps.foldl _ _ ?_ (fun _ _ => ?_)
    | with_reducible refine State.sendCan_keeps _ (maskLe_trans (by decide) hW) ?_
    | with_reducible refine State.modTpdo_keeps _ _ (maskLe_trans (by decide) hW) ?_
    | with_reducible refine Keeps.ite ?_ ?_
    | dsimp only
    | split

theorem execTpdoValueChange_keeps (n : Fin 4) (s : State) : Keeps.Out 0x80 s (execTpdoValueChange n s) := by
  unfold execTpdoValueChange
  repeat' first
    | with_reducible refine Keeps.out_next ?_
    | with_reducible refine Keeps.out_ite ?_ ?_
    | with_reducible assumption
    | with_reducible exact Keeps.refl _ _
    | with_reducible exact Bool.false_and _
    | intro _
    | with_reducible refine Keeps.foldl _ _ ?_ (fun _ _ => ?_)
    | with_reducible refine State.modTpdo_keeps _ _ (by decide) ?_
    | with_reducible refine State.queueTpdo_keeps _ (by decide) ?_
    | with_reducible refine Keeps.ite ?_ ?_
    | dsimp only
    | split

theorem execTpdoInhibitExpiry_keeps (n : Fin 4) (s : State) : Keeps.Out 0x80 s (execTpdoInhibitExpiry n s) := by
  unfold execTpdoInhibitExpiry
  repeat' first
    | with_reducible refine Keeps.out_next ?_
    | with_reducible refine Keeps.out_ite ?_ ?_
    | with_reducible assumption
    | with_reducible exact Keeps.refl _ _
    | with_reducible exact Bool.false_and _
    | intro _
    | with_reducible refine Keeps.foldl _ _ ?_ (fun _ _ => ?_)
    | with_reducible refine State.modTpdo_keeps _ _ (by decide) ?_
    | with_reducible refine State.queueTpdo_keeps _ (by decide) ?_
    | with_reducible refine Keeps.ite ?_ ?_
    | dsimp only
    | split

theorem execTpdoEventTimerExpiry_keeps (n : Fin 4) (s : State) : Keeps.Out 0x80 s (execTpdoEventTimerExpiry n s) := by
  unfold execTpdoEventTimerExpiry
  repeat' first
    | with_reducible refine Keeps.out_next ?_
    | with_reducible refine Keeps.out_ite ?_ ?_
    | with_reducible assumption
    | with_reducible exact Keeps.refl _ _
    | with_reducible exact Bool.false_and _
    | intro _
    | with_reducible refine Keeps.foldl _ _ ?_ (fun _ _ => ?_)
    | with_reducible refine State.queueTpdo_keeps _ (by decide) ?_
    | with_reducible refine Keeps.ite ?_ ?_
    | dsimp only
    | split

theorem State.takeTime_keeps {W : Nat} {s₀ s : State} (days ms : Nat) (hW : maskLe 0x50008062D116810006437008 W = true) (hk : Keeps W s₀ s) :
    Keeps W s₀ (State.takeTime s days ms) := by
  unfold State.takeTime
  repeat' first
    | with_reducible assumption
    | with_reducible exact site_5f00 hW (by decide)
    | with_reducible exact Keeps.refl _ _
    | with_reducible exact Bool.false_and _
    | intro _
    | with_reducible refine Keeps.foldl _ _ ?_ (fun _ _ => ?_)
    | with_reducible refine State.bump_keeps _ _ ?_  ?_
    | with_reducible refine State.setTime_keeps _ _ (maskLe_trans (by decide) hW) ?_
    | with_reducible refine Keeps.ite ?_ ?_
    | dsimp only
    | split

theorem execTimeReceived_keeps (days : BitVec 16) (ms : BitVec 28) (s : State) : Keeps.Out 0x50008062D116810006437008 s (execTimeReceived days ms s) := by
  unfold execTimeReceived
  repeat' first
    | with_reducible refine Keeps.out_next ?_
    | with_reducible refine Keeps.out_ite ?_ ?_
    | with_reducible assumption
    | with_reducible exact Keeps.refl _ _
    | with_reducible exact Bool.false_and _
    | intro _
    | with_reducible refine Keeps.foldl _ _ ?_ (fun _ _ => ?_)
    | with_reducible refine State.takeTime_keeps _ _ (by decide) ?_
    | with_reducible refine Keeps.ite ?_ ?_
    | dsimp only
    | split

theorem execEmcyInhibitExpiry_keeps (s : State) : Keeps.Out 0x80 s (execEmcyInhibitExpiry s) := by
  unfold execEmcyInhibitExpiry
  repeat' first
    | with_reducible refine Keeps.out_next ?_
    | with_reducible refine Keeps.out_ite ?_ ?_
    | with_reducible assumption
    | with_reducible exact Keeps.refl _ _
    | with_reducible exact Bool.false_and _
    | intro _
    | with_reducible refine Keeps.foldl _ _ ?_ (fun _ _ => ?_)
    | with_reducible refine State.pumpEmcy_keeps  (by decide) ?_
    | with_reducible refine State.modCan_keeps _ (by decide) ?_
    | with_reducible refine Keeps.ite ?_ ?_
    | dsimp only
    | split

theorem State.frameSent_keeps {W : Nat} {s₀ s : State} (f : TxFrame) (hW : maskLe 0x557F9A76F556FBE13FD3FFFF W = true) (hk : Keeps W s₀ s) :
    Keeps W s₀ (State.frameSent s f) := by
  unfold State.frameSent
  repeat' first
    | with_reducible assumption
    | with_reducible exact Keeps.refl _ _
    | with_reducible exact Bool.false_and _
    | intro _
    | with_reducible refine Keeps.foldl _ _ ?_ (fun _ _ => ?_)
    | with_reducible refine State.pumpEmcy_keeps  (maskLe_trans (by decide) hW) ?_
    | with_reducible refine State.modCan_keeps _ (maskLe_trans (by decide) hW) ?_
    | with_reducible refine State.modTpdo_keeps _ _ (maskLe_trans (by decide) hW) ?_
    | with_reducible refine State.consumeSync_keeps  (maskLe_trans (by decide) hW) ?_
    | with_reducible refine Keeps.ite ?_ ?_
    | dsimp only
    | split

theorem execCanFrameTransmitted_keeps (s : State) : Keeps.Out 0x557F9A76F556FBE13FD3FFFF s (execCanFrameTransmitted s) := by
  unfold execCanFrameTransmitted
  repeat' first
    | with_reducible refine Keeps.out_next ?_
    | with_reducible refine Keeps.out_ite ?_ ?_
    | with_reducible assumption
    | with_reducible exact Keeps.refl _ _
    | with_reducible exact Bool.false_and _
    | intro _
    | with_reducible refine Keeps.foldl _ _ ?_ (fun _ _ => ?_)
    | with_reducible refine State.modCan_keeps _ (by decide) ?_
    | with_reducible refine State.frameSent_keeps _ (by decide) ?_
    | with_reducible refine Keeps.ite ?_ ?_
    | dsimp only
    | split

theorem State.sendLss_keeps {W : Nat} {s₀ s : State} (data : List Byte) (hW : maskLe 0x80 W = true) (hk : Keeps W s₀ s) :
    Keeps W s₀ (State.sendLss s data) := by
  unfold State.sendLss
  repeat' first
    | with_reducible assumption
    | with_reducible exact Keeps.refl _ _
    | with_reducible exact Bool.false_and _
    | intro _
    | with_reducible refine Keeps.foldl _ _ ?_ (fun _ _ => ?_)
    | with_reducible refine State.modCan_keeps _ (maskLe_trans (by decide) hW) ?_
    | with_reducible refine Keeps.ite ?_ ?_
    | dsimp only
    | split

theorem State.modLss_keeps {W : Nat} {s₀ s : State} (f : Lss → Lss) (hW : maskLe 0x80 W = true) (hk : Keeps W s₀ s) :
    Keeps W s₀ (State.modLss s f) := by
  unfold State.modLss
  repeat' first
    | with_reducible assumption
    | with_reducible exact Keeps.refl _ _
    | with_reducible exact Bool.false_and _
    | intro _
    | with_reducible refine Keeps.foldl _ _ ?_ (fun _ _ => ?_)
    | with_reducible refine State.modCan_keeps _ (maskLe_trans (by decide) hW) ?_
    | with_reducible refine Keeps.ite ?_ ?_
    | dsimp only
    | split

theorem State.lssSwitch_keeps {W : Nat} {s₀ s : State} (req : LssSwitch) (hW : maskLe 0x80 W = true) (hk : Keeps W s₀ s) :
    Keeps W s₀ (State.lssSwitch s req) := by
  unfold State.lssSwitch
  repeat' first
    | with_reducible assumption
    | with_reducible exact Keeps.refl _ _
    | with_reducible exact Bool.false_and _
    | intro _
    | with_reducible refine Keeps.foldl _ _ ?_ (fun _ _ => ?_)
    | with_reducible refine State.sendLss_keeps _ (maskLe_trans (by decide) hW) ?_
    | with_reducible refine State.modLss_keeps _ (maskLe_trans (by decide) hW) ?_
    | with_reducible refine Keeps.ite ?_ ?_
    | dsimp only
    | split

theorem execLssSwitchState_keeps (req : LssSwitch) (s : State) : Keeps.Out 0x80 s (execLssSwitchState req s) := by
  unfold execLssSwitchState
  repeat' first
    | with_reducible refine Keeps.out_next ?_
    | with_reducible refine Keeps.out_ite ?_ ?_
    | with_reducible assumption
    | with_reducible exact Keeps.refl _ _
    | with_reducible exact Bool.false_and _
    | intro _
    | with_reducible refine Keeps.foldl _ _ ?_ (fun _ _ => ?_)
    | with_reducible refine State.lssSwitch_keeps _ (by decide) ?_
    | with_reducible refine Keeps.ite ?_ ?_
    | dsimp only
    | split

theorem execLssConfigureNodeId_keeps (id : Byte) (s : State) : Keeps.Out 0x80 s (execLssConfigureNodeId id s) := by
  unfold execLssConfigureNodeId
  repeat' first
    | with_reducible refine Keeps.out_next ?_
    | with_reducible refine Keeps.out_ite ?_ ?_
    | with_reducible assumption
    | with_reducible exact Keeps.refl _ _
    | with_reducible exact Bool.false_and _
    | intro _
    | with_reducible refine Keeps.foldl _ _ ?_ (fun _ _ => ?_)
    | with_reducible refine State.sendLss_keeps _ (by decide) ?_
    | with_reducible refine State.modLss_keeps _ (by decide) ?_
    | with_reducible refine Keeps.ite ?_ ?_
    | dsimp only
    | split

theorem execLssConfigureBitTiming_keeps (selector : Byte) (timing : Byte) (s : State) : Keeps.Out 0x80 s (execLssConfigureBitTiming selector timing s) := by
  unfold execLssConfigureBitTiming
  repeat' first
    | with_reducible refine Keeps.out_next ?_
    | with_reducible refine Keeps.out_ite ?_ ?_
    | with_reducible assumption
    | with_reducible exact Keeps.refl _ _
    | with_reducible exact Bool.false_and _
    | intro _
    | with_reducible refine Keeps.foldl _ _ ?_ (fun _ _ => ?_)
    | with_reducible refine State.sendLss_keeps _ (by decide) ?_
    | with_reducible refine State.modLss_keeps _ (by decide) ?_
    | with_reducible refine Keeps.ite ?_ ?_
    | dsimp only
    | split

theorem execLssActivateBitTiming_keeps (_delay : BitVec 16) (s : State) : Keeps.Out 0x80 s (execLssActivateBitTiming _delay s) := by
  unfold execLssActivateBitTiming
  repeat' first
    | with_reducible refine Keeps.out_next ?_
    | with_reducible refine Keeps.out_ite ?_ ?_
    | with_reducible assumption
    | with_reducible exact Keeps.refl _ _
    | with_reducible exact Bool.false_and _
    | intro _
    | with_reducible refine Keeps.foldl _ _ ?_ (fun _ _ => ?_)
    | with_reducible refine State.modCan_keeps _ (by decide) ?_
    | with_reducible refine State.modLss_keeps _ (by decide) ?_
    | with_reducible refine Keeps.ite ?_ ?_
    | dsimp only
    | split

theorem State.lssStore_keeps {W : Nat} {s₀ s : State} (hW : maskLe 0x200008080 W = true) (hk : Keeps W s₀ s) :
    Keeps W s₀ (State.lssStore s) := by
  unfold State.lssStore
  repeat' first
    | with_reducible assumption
    | with_reducible exact site_2008 hW (by decide)
    | with_reducible exact Keeps.refl _ _
    | with_reducible exact Bool.false_and _
    | intro _
    | with_reducible refine Keeps.foldl _ _ ?_ (fun _ _ => ?_)
    | with_reducible refine State.putObj_keeps _ _ _ ?_ ?_
    | with_reducible refine State.startStore_keeps _ _ _ (maskLe_trans (by decide) hW) ?_
    | with_reducible refine State.sendLss_keeps _ (maskLe_trans (by decide) hW) ?_
    | with_reducible refine Keeps.ite ?_ ?_
    | dsimp only
    | split

theorem execLssStoreConfiguration_keeps (s : State) : Keeps.Out 0x200008080 s (execLssStoreConfiguration s) := by
  unfold execLssStoreConfiguration
  repeat' first
    | with_reducible refine Keeps.out_next ?_
    | with_reducible refine Keeps.out_ite ?_ ?_
    | with_reducible assumption
    | with_reducible exact Keeps.refl _ _
    | with_reducible exact Bool.false_and _
    | intro _
    | with_reducible refine Keeps.foldl _ _ ?_ (fun _ _ => ?_)
    | with_reducible refine State.sendLss_keeps _ (by decide) ?_
    | with_reducible refine State.lssStore_keeps  (by decide) ?_
    | with_reducible refine Keeps.ite ?_ ?_
    | dsimp only
    | split

theorem execLssInquireIdentity_keeps (entry : Fin 4) (s : State) : Keeps.Out 0x80 s (execLssInquireIdentity entry s) := by
  unfold execLssInquireIdentity
  repeat' first
    | with_reducible refine Keeps.out_next ?_
    | with_reducible refine Keeps.out_ite ?_ ?_
    | with_reducible assumption
    | with_reducible exact Keeps.refl _ _
    | with_reducible exact Bool.false_and _
    | intro _
    | with_reducible refine Keeps.foldl _ _ ?_ (fun _ _ => ?_)
    | with_reducible refine State.sendLss_keeps _ (by decide) ?_
    | with_reducible refine Keeps.ite ?_ ?_
    | dsimp only
    | split

theorem State.fastscan_keeps {W : Nat} {s₀ s : State} (id bit sub next : Nat) (hW : maskLe 0x80 W = true) (hk : Keeps W s₀ s) :
    Keeps W s₀ (State.fastscan s id bit sub next) := by
  unfold State.fastscan
  repeat' first
    | with_reducible assumption
    | with_reducible exact Keeps.refl _ _
    | with_reducible exact Bool.false_and _
    | intro _
    | with_reducible refine Keeps.foldl _ _ ?_ (fun _ _ => ?_)
    | with_reducible refine State.sendLss_keeps _ (maskLe_trans (by decide) hW) ?_
    | with_reducible refine State.modLss_keeps _ (maskLe_trans (by decide) hW) ?_
    | with_reducible refine Keeps.ite ?_ ?_
    | dsimp only
    | split

theorem execLssFastscan_keeps (idNumber : BitVec 32) (bitCheck : Byte) (lssSub : Byte) (lssNext : Byte) (s : State) : Keeps.Out 0x80 s (execLssFastscan idNumber bitCheck lssSub lssNext s) := by
  unfold execLssFastscan
  repeat' first
    | with_reducible refine Keeps.out_next ?_
    | with_reducible refine Keeps.out_ite ?_ ?_
    | with_reducible assumption
    | with_reducible exact Keeps.refl _ _
    | with_reducible exact Bool.false_and _
    | intro _
    | with_reducible refine Keeps.foldl _ _ ?_ (fun _ _ => ?_)
    | with_reducible refine State.fastscan_keeps _ _ _ _ (by decide) ?_
    | with_reducible refine Keeps.ite ?_ ?_
    | dsimp only
    | split

end Sys2Proof.Machine
end

