-- ==== Sys2Proof/Laws/KeepsSdo.lean ====
section
/-! SUPPORT. What the operations of Machine/Sdo.lean keep. -/

namespace Sys2Proof.Machine

theorem State.readFor_keeps {W : Nat} {s₀ s : State} (ch : Channel) (ix sub : Nat) (hW : maskLe 0x20000031 W = true) (hk : Keeps W s₀ s) :
    Keeps W s₀ (State.readFor s ch ix sub).1 := by
  unfold State.readFor
  repeat' first
    | with_reducible assumption
    | with_reducible exact Keeps.refl _ _
    | with_reducible exact Bool.false_and _
    | intro _
    | with_reducible refine Keeps.foldl _ _ ?_ (fun _ _ => ?_)
    | with_reducible refine State.startRead_keeps _ (maskLe_trans (by decide) hW) ?_
    | with_reducible refine State.touch_keeps _ (maskLe_trans (by decide) hW) ?_
    | with_reducible refine State.readEffect_keeps _ _ (maskLe_trans (by decide) hW) ?_
    | with_reducible refine Keeps.ite ?_ ?_
    | dsimp only
    | split

theorem State.closeSdo_keeps {W : Nat} {s₀ s : State} (hW : maskLe 0x4000008090 W = true) (hk : Keeps W s₀ s) :
    Keeps W s₀ (State.closeSdo s) := by
  unfold State.closeSdo
  repeat' first
    | with_reducible assumption
    | with_reducible exact Keeps.refl _ _
    | with_reducible exact Bool.false_and _
    | intro _
    | with_reducible refine Keeps.foldl _ _ ?_ (fun _ _ => ?_)
    | with_reducible refine State.abandonDownload_keeps _ (maskLe_trans (by decide) hW) ?_
    | with_reducible refine State.abandonRead_keeps _ (maskLe_trans (by decide) hW) ?_
    | with_reducible refine State.modCan_keeps _ (maskLe_trans (by decide) hW) ?_
    | with_reducible refine Keeps.ite ?_ ?_
    | dsimp only
    | split

theorem State.sendSdo_keeps {W : Nat} {s₀ s : State} (frame : List Byte) (hW : maskLe 0x80 W = true) (hk : Keeps W s₀ s) :
    Keeps W s₀ (State.sendSdo s frame) := by
  unfold State.sendSdo
  repeat' first
    | with_reducible assumption
    | with_reducible exact Keeps.refl _ _
    | with_reducible exact Bool.false_and _
    | intro _
    | with_reducible refine Keeps.foldl _ _ ?_ (fun _ _ => ?_)
    | with_reducible refine State.sendCan_keeps _ (maskLe_trans (by decide) hW) ?_
    | with_reducible refine Keeps.ite ?_ ?_
    | dsimp only
    | split

theorem State.answerSdo_keeps {W : Nat} {s₀ s : State} (ix sub : Nat) (r : WriteResult) (ok : List Byte) (hW : maskLe 0x80 W = true) (hk : Keeps W s₀ s) :
    Keeps W s₀ (State.answerSdo s ix sub r ok) := by
  unfold State.answerSdo
  repeat' first
    | with_reducible assumption
    | with_reducible exact Keeps.refl _ _
    | with_reducible exact Bool.false_and _
    | intro _
    | with_reducible refine Keeps.foldl _ _ ?_ (fun _ _ => ?_)
    | with_reducible refine State.modCan_keeps _ (maskLe_trans (by decide) hW) ?_
    | with_reducible refine State.sendSdo_keeps _ (maskLe_trans (by decide) hW) ?_
    | with_reducible refine Keeps.ite ?_ ?_
    | dsimp only
    | split

theorem State.sdoWrite_keeps {W : Nat} {s₀ s : State} (ix sub : Nat) (data ok : List Byte) (hW : maskLe 0x557F9A76F556FBE13FD3FFFF W = true) (hk : Keeps W s₀ s) :
    Keeps W s₀ (State.sdoWrite s ix sub data ok) := by
  unfold State.sdoWrite
  repeat' first
    | with_reducible assumption
    | with_reducible exact Keeps.refl _ _
    | with_reducible exact Bool.false_and _
    | intro _
    | with_reducible refine Keeps.foldl _ _ ?_ (fun _ _ => ?_)
    | with_reducible refine State.writeObj_keeps _ _ _ _ (maskLe_trans (by decide) hW) ?_
    | with_reducible refine State.recordResult_keeps _ _ _ _ (maskLe_trans (by decide) hW) ?_
    | with_reducible refine State.answerSdo_keeps _ _ _ _ (maskLe_trans (by decide) hW) ?_
    | with_reducible refine Keeps.ite ?_ ?_
    | dsimp only
    | split

theorem State.sdoOpenWrite_keeps {W : Nat} {s₀ s : State} (frame : List Byte) (hW : maskLe 0x557F9A76F556FBE13FD3FFFF W = true) (hk : Keeps W s₀ s) :
    Keeps W s₀ (State.sdoOpenWrite s frame) := by
  unfold State.sdoOpenWrite
  repeat' first
    | with_reducible assumption
    | with_reducible exact Keeps.refl _ _
    | with_reducible exact Bool.false_and _
    | intro _
    | with_reducible refine Keeps.foldl _ _ ?_ (fun _ _ => ?_)
    | with_reducible refine State.modCan_keeps _ (maskLe_trans (by decide) hW) ?_
    | with_reducible refine State.sendSdo_keeps _ (maskLe_trans (by decide) hW) ?_
    | with_reducible refine State.sdoWrite_keeps _ _ _ _ (maskLe_trans (by decide) hW) ?_
    | with_reducible refine Keeps.ite ?_ ?_
    | dsimp only
    | split

theorem State.sdoOpenRead_keeps {W : Nat} {s₀ s : State} (frame : List Byte) (hW : maskLe 0x200000B1 W = true) (hk : Keeps W s₀ s) :
    Keeps W s₀ (State.sdoOpenRead s frame) := by
  unfold State.sdoOpenRead
  repeat' first
    | with_reducible assumption
    | with_reducible exact Keeps.refl _ _
    | with_reducible exact Bool.false_and _
    | intro _
    | with_reducible refine Keeps.foldl _ _ ?_ (fun _ _ => ?_)
    | with_reducible refine State.modCan_keeps _ (maskLe_trans (by decide) hW) ?_
    | with_reducible refine State.readFor_keeps _ _ _ (maskLe_trans (by decide) hW) ?_
    | with_reducible refine State.sendSdo_keeps _ (maskLe_trans (by decide) hW) ?_
    | with_reducible refine Keeps.ite ?_ ?_
    | dsimp only
    | split

theorem State.abortSdo_keeps {W : Nat} {s₀ s : State} (ix sub code : Nat) (hW : maskLe 0x4000008090 W = true) (hk : Keeps W s₀ s) :
    Keeps W s₀ (State.abortSdo s ix sub code) := by
  unfold State.abortSdo
  repeat' first
    | with_reducible assumption
    | with_reducible exact Keeps.refl _ _
    | with_reducible exact Bool.false_and _
    | intro _
    | with_reducible refine Keeps.foldl _ _ ?_ (fun _ _ => ?_)
    | with_reducible refine State.closeSdo_keeps  (maskLe_trans (by decide) hW) ?_
    | with_reducible refine State.sendSdo_keeps _ (maskLe_trans (by decide) hW) ?_
    | with_reducible refine Keeps.ite ?_ ?_
    | dsimp only
    | split

theorem State.sdoImage_keeps {W : Nat} {s₀ s : State} (size : Option Nat) (data seg : List Byte) (toggle last : Bool) (hW : maskLe 0x8062D11681400643E0B8 W = true) (hk : Keeps W s₀ s) :
    Keeps W s₀ (State.sdoImage s size data seg toggle last) := by
  unfold State.sdoImage
  repeat' first
    | with_reducible assumption
    | with_reducible exact Keeps.refl _ _
    | with_reducible exact Bool.false_and _
    | intro _
    | with_reducible refine Keeps.foldl _ _ ?_ (fun _ _ => ?_)
    | with_reducible refine State.recordResult_keeps _ _ _ _ (maskLe_trans (by decide) hW) ?_
    | with_reducible refine State.writePiece_keeps _ _ _ _ (maskLe_trans (by decide) hW) ?_
    | with_reducible refine State.modCan_keeps _ (maskLe_trans (by decide) hW) ?_
    | with_reducible refine State.answerSdo_keeps _ _ _ _ (maskLe_trans (by decide) hW) ?_
    | with_reducible refine State.abortSdo_keeps _ _ _ (maskLe_trans (by decide) hW) ?_
    | with_reducible refine Keeps.ite ?_ ?_
    | dsimp only
    | split

theorem State.sdoDownload_keeps {W : Nat} {s₀ s : State} (ix sub : Nat) (size : Option Nat) (data : List Byte) (toggle : Bool) (frame : List Byte) (hW : maskLe 0x557F9A76F556FBE13FD3FFFF W = true) (hk : Keeps W s₀ s) :
    Keeps W s₀ (State.sdoDownload s ix sub size data toggle frame) := by
  unfold State.sdoDownload
  repeat' first
    | with_reducible assumption
    | with_reducible exact Keeps.refl _ _
    | with_reducible exact Bool.false_and _
    | intro _
    | with_reducible refine Keeps.foldl _ _ ?_ (fun _ _ => ?_)
    | with_reducible refine State.modCan_keeps _ (maskLe_trans (by decide) hW) ?_
    | with_reducible refine State.sendSdo_keeps _ (maskLe_trans (by decide) hW) ?_
    | with_reducible refine State.sdoWrite_keeps _ _ _ _ (maskLe_trans (by decide) hW) ?_
    | with_reducible refine State.abortSdo_keeps _ _ _ (maskLe_trans (by decide) hW) ?_
    | with_reducible refine State.sdoImage_keeps _ _ _ _ _ (maskLe_trans (by decide) hW) ?_
    | with_reducible refine Keeps.ite ?_ ?_
    | dsimp only
    | split

theorem State.sdoUpload_keeps {W : Nat} {s₀ s : State} (ix sub : Nat) (rest : List Byte) (toggle : Bool) (hW : maskLe 0x4000008090 W = true) (hk : Keeps W s₀ s) :
    Keeps W s₀ (State.sdoUpload s ix sub rest toggle) := by
  unfold State.sdoUpload
  repeat' first
    | with_reducible assumption
    | with_reducible exact Keeps.refl _ _
    | with_reducible exact Bool.false_and _
    | intro _
    | with_reducible refine Keeps.foldl _ _ ?_ (fun _ _ => ?_)
    | with_reducible refine State.modCan_keeps _ (maskLe_trans (by decide) hW) ?_
    | with_reducible refine State.closeSdo_keeps  (maskLe_trans (by decide) hW) ?_
    | with_reducible refine State.sendSdo_keeps _ (maskLe_trans (by decide) hW) ?_
    | with_reducible refine Keeps.ite ?_ ?_
    | dsimp only
    | split

theorem State.sdoServe_keeps {W : Nat} {s₀ s : State} (frame : List Byte) (hW : maskLe 0x557F9A76F556FBE13FD3FFFF W = true) (hk : Keeps W s₀ s) :
    Keeps W s₀ (State.sdoServe s frame) := by
  unfold State.sdoServe
  repeat' first
    | with_reducible assumption
    | with_reducible exact Keeps.refl _ _
    | with_reducible exact Bool.false_and _
    | intro _
    | with_reducible refine Keeps.foldl _ _ ?_ (fun _ _ => ?_)
    | with_reducible refine State.modCan_keeps _ (maskLe_trans (by decide) hW) ?_
    | with_reducible refine State.closeSdo_keeps  (maskLe_trans (by decide) hW) ?_
    | with_reducible refine State.sendSdo_keeps _ (maskLe_trans (by decide) hW) ?_
    | with_reducible refine State.sdoOpenWrite_keeps _ (maskLe_trans (by decide) hW) ?_
    | with_reducible refine State.sdoOpenRead_keeps _ (maskLe_trans (by decide) hW) ?_
    | with_reducible refine State.abortSdo_keeps _ _ _ (maskLe_trans (by decide) hW) ?_
    | with_reducible refine State.sdoDownload_keeps _ _ _ _ _ _ (maskLe_trans (by decide) hW) ?_
    | with_reducible refine State.sdoUpload_keeps _ _ _ _ (maskLe_trans (by decide) hW) ?_
    | with_reducible refine Keeps.ite ?_ ?_
    | dsimp only
    | split

theorem State.sdoRequest_keeps {W : Nat} {s₀ s : State} (frame : List Byte) (hW : maskLe 0x557F9A76F556FBE13FD3FFFF W = true) (hk : Keeps W s₀ s) :
    Keeps W s₀ (State.sdoRequest s frame) := by
  unfold State.sdoRequest
  repeat' first
    | with_reducible assumption
    | with_reducible exact Keeps.refl _ _
    | with_reducible exact Bool.false_and _
    | intro _
    | with_reducible refine Keeps.foldl _ _ ?_ (fun _ _ => ?_)
    | with_reducible refine State.sdoServe_keeps _ (maskLe_trans (by decide) hW) ?_
    | with_reducible refine Keeps.ite ?_ ?_
    | dsimp only
    | split

theorem execSdoDownloadInitiate_keeps (frame : List Byte) (s : State) : Keeps.Out 0x557F9A76F556FBE13FD3FFFF s (execSdoDownloadInitiate frame s) := by
  unfold execSdoDownloadInitiate
  repeat' first
    | with_reducible refine Keeps.out_next ?_
    | with_reducible refine Keeps.out_ite ?_ ?_
    | with_reducible assumption
    | with_reducible exact Keeps.refl _ _
    | with_reducible exact Bool.false_and _
    | intro _
    | with_reducible refine Keeps.foldl _ _ ?_ (fun _ _ => ?_)
    | with_reducible refine State.sdoRequest_keeps _ (by decide) ?_
    | with_reducible refine Keeps.ite ?_ ?_
    | dsimp only
    | split

theorem execSdoDownloadSegment_keeps (frame : List Byte) (s : State) : Keeps.Out 0x557F9A76F556FBE13FD3FFFF s (execSdoDownloadSegment frame s) := by
  unfold execSdoDownloadSegment
  repeat' first
    | with_reducible refine Keeps.out_next ?_
    | with_reducible refine Keeps.out_ite ?_ ?_
    | with_reducible assumption
    | with_reducible exact Keeps.refl _ _
    | with_reducible exact Bool.false_and _
    | intro _
    | with_reducible refine Keeps.foldl _ _ ?_ (fun _ _ => ?_)
    | with_reducible refine State.sdoRequest_keeps _ (by decide) ?_
    | with_reducible refine Keeps.ite ?_ ?_
    | dsimp only
    | split

theorem execSdoUploadInitiate_keeps (frame : List Byte) (s : State) : Keeps.Out 0x557F9A76F556FBE13FD3FFFF s (execSdoUploadInitiate frame s) := by
  unfold execSdoUploadInitiate
  repeat' first
    | with_reducible refine Keeps.out_next ?_
    | with_reducible refine Keeps.out_ite ?_ ?_
    | with_reducible assumption
    | with_reducible exact Keeps.refl _ _
    | with_reducible exact Bool.false_and _
    | intro _
    | with_reducible refine Keeps.foldl _ _ ?_ (fun _ _ => ?_)
    | with_reducible refine State.sdoRequest_keeps _ (by decide) ?_
    | with_reducible refine Keeps.ite ?_ ?_
    | dsimp only
    | split

theorem execSdoUploadSegment_keeps (frame : List Byte) (s : State) : Keeps.Out 0x557F9A76F556FBE13FD3FFFF s (execSdoUploadSegment frame s) := by
  unfold execSdoUploadSegment
  repeat' first
    | with_reducible refine Keeps.out_next ?_
    | with_reducible refine Keeps.out_ite ?_ ?_
    | with_reducible assumption
    | with_reducible exact Keeps.refl _ _
    | with_reducible exact Bool.false_and _
    | intro _
    | with_reducible refine Keeps.foldl _ _ ?_ (fun _ _ => ?_)
    | with_reducible refine State.sdoRequest_keeps _ (by decide) ?_
    | with_reducible refine Keeps.ite ?_ ?_
    | dsimp only
    | split

theorem execSdoAbortTransfer_keeps (frame : List Byte) (s : State) : Keeps.Out 0x557F9A76F556FBE13FD3FFFF s (execSdoAbortTransfer frame s) := by
  unfold execSdoAbortTransfer
  repeat' first
    | with_reducible refine Keeps.out_next ?_
    | with_reducible refine Keeps.out_ite ?_ ?_
    | with_reducible assumption
    | with_reducible exact Keeps.refl _ _
    | with_reducible exact Bool.false_and _
    | intro _
    | with_reducible refine Keeps.foldl _ _ ?_ (fun _ _ => ?_)
    | with_reducible refine State.sdoRequest_keeps _ (by decide) ?_
    | with_reducible refine Keeps.ite ?_ ?_
    | dsimp only
    | split

theorem State.putUsdo_keeps {W : Nat} {s₀ s : State} (n : BitVec 7) (t : Transfer) (hW : maskLe 0x80 W = true) (hk : Keeps W s₀ s) :
    Keeps W s₀ (State.putUsdo s n t) := by
  unfold State.putUsdo
  repeat' first
    | with_reducible assumption
    | with_reducible exact Keeps.refl _ _
    | with_reducible exact Bool.false_and _
    | intro _
    | with_reducible refine Keeps.foldl _ _ ?_ (fun _ _ => ?_)
    | with_reducible refine State.modCan_keeps _ (maskLe_trans (by decide) hW) ?_
    | with_reducible refine Keeps.ite ?_ ?_
    | dsimp only
    | split

theorem State.closeUsdo_keeps {W : Nat} {s₀ s : State} (n : BitVec 7) (hW : maskLe 0x4000008090 W = true) (hk : Keeps W s₀ s) :
    Keeps W s₀ (State.closeUsdo s n) := by
  unfold State.closeUsdo
  repeat' first
    | with_reducible assumption
    | with_reducible exact Keeps.refl _ _
    | with_reducible exact Bool.false_and _
    | intro _
    | with_reducible refine Keeps.foldl _ _ ?_ (fun _ _ => ?_)
    | with_reducible refine State.abandonDownload_keeps _ (maskLe_trans (by decide) hW) ?_
    | with_reducible refine State.abandonRead_keeps _ (maskLe_trans (by decide) hW) ?_
    | with_reducible refine State.modCan_keeps _ (maskLe_trans (by decide) hW) ?_
    | with_reducible refine State.putUsdo_keeps _ _ (maskLe_trans (by decide) hW) ?_
    | with_reducible refine Keeps.ite ?_ ?_
    | dsimp only
    | split

theorem State.sendUsdo_keeps {W : Nat} {s₀ s : State} (n : BitVec 7) (ix sub : Nat) (abort : Option Nat) (data : List Byte) (hW : maskLe 0x80 W = true) (hk : Keeps W s₀ s) :
    Keeps W s₀ (State.sendUsdo s n ix sub abort data) := by
  unfold State.sendUsdo
  repeat' first
    | with_reducible assumption
    | with_reducible exact Keeps.refl _ _
    | with_reducible exact Bool.false_and _
    | intro _
    | with_reducible refine Keeps.foldl _ _ ?_ (fun _ _ => ?_)
    | with_reducible refine State.sendCan_keeps _ (maskLe_trans (by decide) hW) ?_
    | with_reducible refine Keeps.ite ?_ ?_
    | dsimp only
    | split

theorem State.answerUsdo_keeps {W : Nat} {s₀ s : State} (n : BitVec 7) (ix sub : Nat) (r : WriteResult) (hW : maskLe 0x80 W = true) (hk : Keeps W s₀ s) :
    Keeps W s₀ (State.answerUsdo s n ix sub r) := by
  unfold State.answerUsdo
  repeat' first
    | with_reducible assumption
    | with_reducible exact Keeps.refl _ _
    | with_reducible exact Bool.false_and _
    | intro _
    | with_reducible refine Keeps.foldl _ _ ?_ (fun _ _ => ?_)
    | with_reducible refine State.modCan_keeps _ (maskLe_trans (by decide) hW) ?_
    | with_reducible refine State.sendUsdo_keeps _ _ _ _ _ (maskLe_trans (by decide) hW) ?_
    | with_reducible refine Keeps.ite ?_ ?_
    | dsimp only
    | split

theorem State.usdoWrite_keeps {W : Nat} {s₀ s : State} (n : BitVec 7) (ix sub : Nat) (data : List Byte) (hW : maskLe 0x557F9A76F556FBE13FD3FFFF W = true) (hk : Keeps W s₀ s) :
    Keeps W s₀ (State.usdoWrite s n ix sub data) := by
  unfold State.usdoWrite
  repeat' first
    | with_reducible assumption
    | with_reducible exact Keeps.refl _ _
    | with_reducible exact Bool.false_and _
    | intro _
    | with_reducible refine Keeps.foldl _ _ ?_ (fun _ _ => ?_)
    | with_reducible refine State.writeObj_keeps _ _ _ _ (maskLe_trans (by decide) hW) ?_
    | with_reducible refine State.recordResult_keeps _ _ _ _ (maskLe_trans (by decide) hW) ?_
    | with_reducible refine State.answerUsdo_keeps _ _ _ _ (maskLe_trans (by decide) hW) ?_
    | with_reducible refine Keeps.ite ?_ ?_
    | dsimp only
    | split

theorem State.usdoImage_keeps {W : Nat} {s₀ s : State} (n : BitVec 7) (data piece : List Byte) (last : Bool) (hW : maskLe 0x8062D11681400643E0B8 W = true) (hk : Keeps W s₀ s) :
    Keeps W s₀ (State.usdoImage s n data piece last) := by
  unfold State.usdoImage
  repeat' first
    | with_reducible assumption
    | with_reducible exact Keeps.refl _ _
    | with_reducible exact Bool.false_and _
    | intro _
    | with_reducible refine Keeps.foldl _ _ ?_ (fun _ _ => ?_)
    | with_reducible refine State.recordResult_keeps _ _ _ _ (maskLe_trans (by decide) hW) ?_
    | with_reducible refine State.writePiece_keeps _ _ _ _ (maskLe_trans (by decide) hW) ?_
    | with_reducible refine State.putUsdo_keeps _ _ (maskLe_trans (by decide) hW) ?_
    | with_reducible refine State.closeUsdo_keeps _ (maskLe_trans (by decide) hW) ?_
    | with_reducible refine State.sendUsdo_keeps _ _ _ _ _ (maskLe_trans (by decide) hW) ?_
    | with_reducible refine State.answerUsdo_keeps _ _ _ _ (maskLe_trans (by decide) hW) ?_
    | with_reducible refine Keeps.ite ?_ ?_
    | dsimp only
    | split

theorem State.usdoOpenWrite_keeps {W : Nat} {s₀ s : State} (n : BitVec 7) (ix sub : Nat) (data : List Byte) (hW : maskLe 0x8062D11681400643E0B8 W = true) (hk : Keeps W s₀ s) :
    Keeps W s₀ (State.usdoOpenWrite s n ix sub data) := by
  unfold State.usdoOpenWrite
  repeat' first
    | with_reducible assumption
    | with_reducible exact Keeps.refl _ _
    | with_reducible exact Bool.false_and _
    | intro _
    | with_reducible refine Keeps.foldl _ _ ?_ (fun _ _ => ?_)
    | with_reducible refine State.putUsdo_keeps _ _ (maskLe_trans (by decide) hW) ?_
    | with_reducible refine State.sendUsdo_keeps _ _ _ _ _ (maskLe_trans (by decide) hW) ?_
    | with_reducible refine State.usdoImage_keeps _ _ _ _ (maskLe_trans (by decide) hW) ?_
    | with_reducible refine Keeps.ite ?_ ?_
    | dsimp only
    | split

theorem State.usdoDownload_keeps {W : Nat} {s₀ s : State} (n : BitVec 7) (ix sub : Nat) (data piece : List Byte) (last : Bool) (hW : maskLe 0x557F9A76F556FBE13FD3FFFF W = true) (hk : Keeps W s₀ s) :
    Keeps W s₀ (State.usdoDownload s n ix sub data piece last) := by
  unfold State.usdoDownload
  repeat' first
    | with_reducible assumption
    | with_reducible exact Keeps.refl _ _
    | with_reducible exact Bool.false_and _
    | intro _
    | with_reducible refine Keeps.foldl _ _ ?_ (fun _ _ => ?_)
    | with_reducible refine State.putUsdo_keeps _ _ (maskLe_trans (by decide) hW) ?_
    | with_reducible refine State.sendUsdo_keeps _ _ _ _ _ (maskLe_trans (by decide) hW) ?_
    | with_reducible refine State.usdoWrite_keeps _ _ _ _ (maskLe_trans (by decide) hW) ?_
    | with_reducible refine State.usdoImage_keeps _ _ _ _ (maskLe_trans (by decide) hW) ?_
    | with_reducible refine Keeps.ite ?_ ?_
    | dsimp only
    | split

theorem State.usdoUpload_keeps {W : Nat} {s₀ s : State} (n : BitVec 7) (ix sub : Nat) (rest : List Byte) (hW : maskLe 0x4000008090 W = true) (hk : Keeps W s₀ s) :
    Keeps W s₀ (State.usdoUpload s n ix sub rest) := by
  unfold State.usdoUpload
  repeat' first
    | with_reducible assumption
    | with_reducible exact Keeps.refl _ _
    | with_reducible exact Bool.false_and _
    | intro _
    | with_reducible refine Keeps.foldl _ _ ?_ (fun _ _ => ?_)
    | with_reducible refine State.putUsdo_keeps _ _ (maskLe_trans (by decide) hW) ?_
    | with_reducible refine State.closeUsdo_keeps _ (maskLe_trans (by decide) hW) ?_
    | with_reducible refine State.sendUsdo_keeps _ _ _ _ _ (maskLe_trans (by decide) hW) ?_
    | with_reducible refine Keeps.ite ?_ ?_
    | dsimp only
    | split

theorem State.usdoRead_keeps {W : Nat} {s₀ s : State} (n : BitVec 7) (ix sub : Nat) (hW : maskLe 0x40200080B1 W = true) (hk : Keeps W s₀ s) :
    Keeps W s₀ (State.usdoRead s n ix sub) := by
  unfold State.usdoRead
  repeat' first
    | with_reducible assumption
    | with_reducible exact Keeps.refl _ _
    | with_reducible exact Bool.false_and _
    | intro _
    | with_reducible refine Keeps.foldl _ _ ?_ (fun _ _ => ?_)
    | with_reducible refine State.readFor_keeps _ _ _ (maskLe_trans (by decide) hW) ?_
    | with_reducible refine State.sendUsdo_keeps _ _ _ _ _ (maskLe_trans (by decide) hW) ?_
    | with_reducible refine State.usdoUpload_keeps _ _ _ _ (maskLe_trans (by decide) hW) ?_
    | with_reducible refine Keeps.ite ?_ ?_
    | dsimp only
    | split

theorem State.usdoContinue_keeps {W : Nat} {s₀ s : State} (n : BitVec 7) (t : Transfer) (req : UsdoReq) (hW : maskLe 0x557F9A76F556FBE13FD3FFFF W = true) (hk : Keeps W s₀ s) :
    Keeps W s₀ (State.usdoContinue s n t req) := by
  unfold State.usdoContinue
  repeat' first
    | with_reducible assumption
    | with_reducible exact Keeps.refl _ _
    | with_reducible exact Bool.false_and _
    | intro _
    | with_reducible refine Keeps.foldl _ _ ?_ (fun _ _ => ?_)
    | with_reducible refine State.closeUsdo_keeps _ (maskLe_trans (by decide) hW) ?_
    | with_reducible refine State.sendUsdo_keeps _ _ _ _ _ (maskLe_trans (by decide) hW) ?_
    | with_reducible refine State.usdoDownload_keeps _ _ _ _ _ _ (maskLe_trans (by decide) hW) ?_
    | with_reducible refine State.usdoUpload_keeps _ _ _ _ (maskLe_trans (by decide) hW) ?_
    | with_reducible refine Keeps.ite ?_ ?_
    | dsimp only
    | split

theorem State.usdoOpen_keeps {W : Nat} {s₀ s : State} (n : BitVec 7) (req : UsdoReq) (hW : maskLe 0x557F9A76F556FBE13FD3FFFF W = true) (hk : Keeps W s₀ s) :
    Keeps W s₀ (State.usdoOpen s n req) := by
  unfold State.usdoOpen
  repeat' first
    | with_reducible assumption
    | with_reducible exact Keeps.refl _ _
    | with_reducible exact Bool.false_and _
    | intro _
    | with_reducible refine Keeps.foldl _ _ ?_ (fun _ _ => ?_)
    | with_reducible refine State.sendUsdo_keeps _ _ _ _ _ (maskLe_trans (by decide) hW) ?_
    | with_reducible refine State.usdoWrite_keeps _ _ _ _ (maskLe_trans (by decide) hW) ?_
    | with_reducible refine State.usdoOpenWrite_keeps _ _ _ _ (maskLe_trans (by decide) hW) ?_
    | with_reducible refine State.usdoRead_keeps _ _ _ (maskLe_trans (by decide) hW) ?_
    | with_reducible refine Keeps.ite ?_ ?_
    | dsimp only
    | split

theorem State.usdoServe_keeps {W : Nat} {s₀ s : State} (n : BitVec 7) (req : UsdoReq) (hW : maskLe 0x557F9A76F556FBE13FD3FFFF W = true) (hk : Keeps W s₀ s) :
    Keeps W s₀ (State.usdoServe s n req) := by
  unfold State.usdoServe
  repeat' first
    | with_reducible assumption
    | with_reducible exact Keeps.refl _ _
    | with_reducible exact Bool.false_and _
    | intro _
    | with_reducible refine Keeps.foldl _ _ ?_ (fun _ _ => ?_)
    | with_reducible refine State.modCan_keeps _ (maskLe_trans (by decide) hW) ?_
    | with_reducible refine State.closeUsdo_keeps _ (maskLe_trans (by decide) hW) ?_
    | with_reducible refine State.usdoContinue_keeps _ _ _ (maskLe_trans (by decide) hW) ?_
    | with_reducible refine State.usdoOpen_keeps _ _ (maskLe_trans (by decide) hW) ?_
    | with_reducible refine Keeps.ite ?_ ?_
    | dsimp only
    | split

theorem execUsdoRequest_keeps (client : BitVec 7) (broadcast : Bool) (req : UsdoReq) (s : State) : Keeps.Out 0x557F9A76F556FBE13FD3FFFF s (execUsdoRequest client broadcast req s) := by
  unfold execUsdoRequest
  repeat' first
    | with_reducible refine Keeps.out_next ?_
    | with_reducible refine Keeps.out_ite ?_ ?_
    | with_reducible assumption
    | with_reducible exact Keeps.refl _ _
    | with_reducible exact Bool.false_and _
    | intro _
    | with_reducible refine Keeps.foldl _ _ ?_ (fun _ _ => ?_)
    | with_reducible refine State.usdoServe_keeps _ _ (by decide) ?_
    | with_reducible refine Keeps.ite ?_ ?_
    | dsimp only
    | split

theorem State.usdoTimeout_keeps {W : Nat} {s₀ s : State} (hW : maskLe 0x4000008090 W = true) (hk : Keeps W s₀ s) :
    Keeps W s₀ (State.usdoTimeout s) := by
  unfold State.usdoTimeout
  repeat' first
    | with_reducible assumption
    | with_reducible exact Keeps.refl _ _
    | with_reducible exact Bool.false_and _
    | intro _
    | with_reducible refine Keeps.foldl _ _ ?_ (fun _ _ => ?_)
    | with_reducible refine State.closeUsdo_keeps _ (maskLe_trans (by decide) hW) ?_
    | with_reducible refine State.sendUsdo_keeps _ _ _ _ _ (maskLe_trans (by decide) hW) ?_
    | exact h
    | with_reducible refine Keeps.ite ?_ ?_
    | dsimp only
    | split

theorem State.transferTimeout_keeps {W : Nat} {s₀ s : State} (hW : maskLe 0x4000008090 W = true) (hk : Keeps W s₀ s) :
    Keeps W s₀ (State.transferTimeout s) := by
  unfold State.transferTimeout
  repeat' first
    | with_reducible assumption
    | with_reducible exact Keeps.refl _ _
    | with_reducible exact Bool.false_and _
    | intro _
    | with_reducible refine Keeps.foldl _ _ ?_ (fun _ _ => ?_)
    | with_reducible refine State.abortSdo_keeps _ _ _ (maskLe_trans (by decide) hW) ?_
    | with_reducible refine State.usdoTimeout_keeps  (maskLe_trans (by decide) hW) ?_
    | exact h
    | with_reducible refine Keeps.ite ?_ ?_
    | dsimp only
    | split

theorem execSdoTransferTimeout_keeps (s : State) : Keeps.Out 0x4000008090 s (execSdoTransferTimeout s) := by
  unfold execSdoTransferTimeout
  repeat' first
    | with_reducible refine Keeps.out_next ?_
    | with_reducible refine Keeps.out_ite ?_ ?_
    | with_reducible assumption
    | with_reducible exact Keeps.refl _ _
    | with_reducible exact Bool.false_and _
    | intro _
    | with_reducible refine Keeps.foldl _ _ ?_ (fun _ _ => ?_)
    | with_reducible refine State.transferTimeout_keeps  (by decide) ?_
    | with_reducible refine Keeps.ite ?_ ?_
    | dsimp only
    | split

theorem State.resumeCan_keeps {W : Nat} {s₀ s : State} (hW : maskLe 0x557F9A76F556FBE13FD3FFFF W = true) (hk : Keeps W s₀ s) :
    Keeps W s₀ (State.resumeCan s) := by
  unfold State.resumeCan
  repeat' first
    | with_reducible assumption
    | with_reducible exact Keeps.refl _ _
    | with_reducible exact Bool.false_and _
    | intro _
    | with_reducible refine Keeps.foldl _ _ ?_ (fun _ _ => ?_)
    | with_reducible refine State.modCan_keeps _ (maskLe_trans (by decide) hW) ?_
    | with_reducible refine State.sdoServe_keeps _ (maskLe_trans (by decide) hW) ?_
    | with_reducible refine State.usdoServe_keeps _ _ (maskLe_trans (by decide) hW) ?_
    | with_reducible refine Keeps.ite ?_ ?_
    | dsimp only
    | split

end Sys2Proof.Machine
end

