-- ==== Sys2Proof/Laws/KeepsGsp.lean ====
section
/-! SUPPORT. What the operations of Machine/Gsp.lean keep. -/

namespace Sys2Proof.Machine

theorem State.modGsp_keeps {W : Nat} {s₀ s : State} (f : Gsp → Gsp) (hW : maskLe 0x100 W = true) (hk : Keeps W s₀ s) :
    Keeps W s₀ (State.modGsp s f) := by
  unfold State.modGsp
  repeat' first
    | with_reducible assumption
    | with_reducible exact Keeps.refl _ _
    | with_reducible exact Bool.false_and _
    | intro _
    | with_reducible refine Keeps.foldl _ _ ?_ (fun _ _ => ?_)
    | with_reducible refine State.setGsp_keeps _ (maskLe_trans (by decide) hW) ?_
    | with_reducible refine Keeps.ite ?_ ?_
    | dsimp only
    | split

theorem State.nak_keeps {W : Nat} {s₀ s : State} (f : GspFrame) (reason : Nat) (hW : maskLe 0x40000000000100 W = true) (hk : Keeps W s₀ s) :
    Keeps W s₀ (State.nak s f reason) := by
  unfold State.nak
  repeat' first
    | with_reducible assumption
    | with_reducible exact site_2510 hW (by decide)
    | with_reducible exact Keeps.refl _ _
    | with_reducible exact Bool.false_and _
    | intro _
    | with_reducible refine Keeps.foldl _ _ ?_ (fun _ _ => ?_)
    | with_reducible refine State.bump_keeps _ _ ?_  ?_
    | with_reducible refine State.modGsp_keeps _ (maskLe_trans (by decide) hW) ?_
    | with_reducible refine Keeps.ite ?_ ?_
    | dsimp only
    | split

theorem State.gspAbort_keeps {W : Nat} {s₀ s : State} (f : GspFrame) (code : Nat) (hW : maskLe 0x100 W = true) (hk : Keeps W s₀ s) :
    Keeps W s₀ (State.gspAbort s f code) := by
  unfold State.gspAbort
  repeat' first
    | with_reducible assumption
    | with_reducible exact Keeps.refl _ _
    | with_reducible exact Bool.false_and _
    | intro _
    | with_reducible refine Keeps.foldl _ _ ?_ (fun _ _ => ?_)
    | with_reducible refine State.gspRespond_keeps _ _ _ (maskLe_trans (by decide) hW) ?_
    | with_reducible refine Keeps.ite ?_ ?_
    | dsimp only
    | split

theorem State.gspAnswer_keeps {W : Nat} {s₀ s : State} (f : GspFrame) (r : WriteResult) (hW : maskLe 0x100 W = true) (hk : Keeps W s₀ s) :
    Keeps W s₀ (State.gspAnswer s f r) := by
  unfold State.gspAnswer
  repeat' first
    | with_reducible assumption
    | with_reducible exact Keeps.refl _ _
    | with_reducible exact Bool.false_and _
    | intro _
    | with_reducible refine Keeps.foldl _ _ ?_ (fun _ _ => ?_)
    | with_reducible refine State.gspWritten_keeps _ _ (maskLe_trans (by decide) hW) ?_
    | with_reducible refine State.modGsp_keeps _ (maskLe_trans (by decide) hW) ?_
    | with_reducible refine Keeps.ite ?_ ?_
    | dsimp only
    | split

theorem State.gspRead_keeps {W : Nat} {s₀ s : State} (f : GspFrame) (hW : maskLe 0x20000121 W = true) (hk : Keeps W s₀ s) :
    Keeps W s₀ (State.gspRead s f) := by
  unfold State.gspRead
  repeat' first
    | with_reducible assumption
    | with_reducible exact Keeps.refl _ _
    | with_reducible exact Bool.false_and _
    | intro _
    | with_reducible refine Keeps.foldl _ _ ?_ (fun _ _ => ?_)
    | with_reducible refine State.gspRespond_keeps _ _ _ (maskLe_trans (by decide) hW) ?_
    | with_reducible refine State.touch_keeps _ (maskLe_trans (by decide) hW) ?_
    | with_reducible refine State.readEffect_keeps _ _ (maskLe_trans (by decide) hW) ?_
    | with_reducible refine State.gspAbort_keeps _ _ (maskLe_trans (by decide) hW) ?_
    | with_reducible refine Keeps.ite ?_ ?_
    | dsimp only
    | split

theorem State.gspWriteValue_keeps {W : Nat} {s₀ s : State} (f : GspFrame) (data : List Byte) (hW : maskLe 0x557F9A76F556FBE13FD3FFFF W = true) (hk : Keeps W s₀ s) :
    Keeps W s₀ (State.gspWriteValue s f data) := by
  unfold State.gspWriteValue
  repeat' first
    | with_reducible assumption
    | with_reducible exact Keeps.refl _ _
    | with_reducible exact Bool.false_and _
    | intro _
    | with_reducible refine Keeps.foldl _ _ ?_ (fun _ _ => ?_)
    | with_reducible refine State.writeObj_keeps _ _ _ _ (maskLe_trans (by decide) hW) ?_
    | with_reducible refine State.recordResult_keeps _ _ _ _ (maskLe_trans (by decide) hW) ?_
    | with_reducible refine State.gspAnswer_keeps _ _ (maskLe_trans (by decide) hW) ?_
    | with_reducible refine Keeps.ite ?_ ?_
    | dsimp only
    | split

theorem State.closeBlock_keeps {W : Nat} {s₀ s : State} (hW : maskLe 0x4000008110 W = true) (hk : Keeps W s₀ s) :
    Keeps W s₀ (State.closeBlock s) := by
  unfold State.closeBlock
  repeat' first
    | with_reducible assumption
    | with_reducible exact Keeps.refl _ _
    | with_reducible exact Bool.false_and _
    | intro _
    | with_reducible refine Keeps.foldl _ _ ?_ (fun _ _ => ?_)
    | with_reducible refine State.abandonDownload_keeps _ (maskLe_trans (by decide) hW) ?_
    | with_reducible refine State.abandonRead_keeps _ (maskLe_trans (by decide) hW) ?_
    | with_reducible refine State.modGsp_keeps _ (maskLe_trans (by decide) hW) ?_
    | with_reducible refine Keeps.ite ?_ ?_
    | dsimp only
    | split

theorem State.nextSegment_keeps {W : Nat} {s₀ s : State} (f : GspFrame) (write : Bool) (go : GspBlock → State) (hW : maskLe 0x40000000000100 W = true) (hk : Keeps W s₀ s) (hgo : ∀ y, Keeps W s₀ (go y)) :
    Keeps W s₀ (State.nextSegment s f write go) := by
  unfold State.nextSegment
  repeat' first
    | with_reducible assumption
    | exact hgo _
    | with_reducible exact Keeps.refl _ _
    | with_reducible exact Bool.false_and _
    | intro _
    | with_reducible refine Keeps.foldl _ _ ?_ (fun _ _ => ?_)
    | with_reducible refine State.modGsp_keeps _ (maskLe_trans (by decide) hW) ?_
    | with_reducible refine State.nak_keeps _ _ (maskLe_trans (by decide) hW) ?_
    | with_reducible refine State.gspAbort_keeps _ _ (maskLe_trans (by decide) hW) ?_
    | with_reducible refine Keeps.ite ?_ ?_
    | dsimp only
    | split

theorem State.sendSegment_keeps {W : Nat} {s₀ s : State} (f : GspFrame) (b : GspBlock) (hW : maskLe 0x4000008130 W = true) (hk : Keeps W s₀ s) :
    Keeps W s₀ (State.sendSegment s f b) := by
  unfold State.sendSegment
  repeat' first
    | with_reducible assumption
    | with_reducible exact Keeps.refl _ _
    | with_reducible exact Bool.false_and _
    | intro _
    | with_reducible refine Keeps.foldl _ _ ?_ (fun _ _ => ?_)
    | with_reducible refine State.gspRespond_keeps _ _ _ (maskLe_trans (by decide) hW) ?_
    | with_reducible refine State.touch_keeps _ (maskLe_trans (by decide) hW) ?_
    | with_reducible refine State.modGsp_keeps _ (maskLe_trans (by decide) hW) ?_
    | with_reducible refine State.closeBlock_keeps  (maskLe_trans (by decide) hW) ?_
    | with_reducible refine Keeps.ite ?_ ?_
    | dsimp only
    | split

theorem State.gspBlockRead_keeps {W : Nat} {s₀ s : State} (f : GspFrame) (hW : maskLe 0x40004020008131 W = true) (hk : Keeps W s₀ s) :
    Keeps W s₀ (State.gspBlockRead s f) := by
  unfold State.gspBlockRead
  repeat' first
    | with_reducible assumption
    | with_reducible exact Keeps.refl _ _
    | with_reducible exact Bool.false_and _
    | intro _
    | with_reducible refine Keeps.foldl _ _ ?_ (fun _ _ => ?_)
    | with_reducible refine State.readFor_keeps _ _ _ (maskLe_trans (by decide) hW) ?_
    | with_reducible refine State.gspAbort_keeps _ _ (maskLe_trans (by decide) hW) ?_
    | with_reducible refine State.closeBlock_keeps  (maskLe_trans (by decide) hW) ?_
    | with_reducible refine State.nextSegment_keeps _ _ _ (maskLe_trans (by decide) hW) ?_ ?_
    | with_reducible refine State.sendSegment_keeps _ _ (maskLe_trans (by decide) hW) ?_
    | with_reducible refine Keeps.ite ?_ ?_
    | dsimp only
    | split

theorem State.gspImage_keeps {W : Nat} {s₀ s : State} (f : GspFrame) (b : GspBlock) (hW : maskLe 0x8062D11681400643E138 W = true) (hk : Keeps W s₀ s) :
    Keeps W s₀ (State.gspImage s f b) := by
  unfold State.gspImage
  repeat' first
    | with_reducible assumption
    | with_reducible exact Keeps.refl _ _
    | with_reducible exact Bool.false_and _
    | intro _
    | with_reducible refine Keeps.foldl _ _ ?_ (fun _ _ => ?_)
    | with_reducible refine State.recordResult_keeps _ _ _ _ (maskLe_trans (by decide) hW) ?_
    | with_reducible refine State.writePiece_keeps _ _ _ _ (maskLe_trans (by decide) hW) ?_
    | with_reducible refine State.modGsp_keeps _ (maskLe_trans (by decide) hW) ?_
    | with_reducible refine State.gspAbort_keeps _ _ (maskLe_trans (by decide) hW) ?_
    | with_reducible refine State.gspAnswer_keeps _ _ (maskLe_trans (by decide) hW) ?_
    | with_reducible refine State.closeBlock_keeps  (maskLe_trans (by decide) hW) ?_
    | with_reducible refine Keeps.ite ?_ ?_
    | dsimp only
    | split

theorem State.takeSegment_keeps {W : Nat} {s₀ s : State} (f : GspFrame) (b : GspBlock) (hW : maskLe 0x557F9A76F556FBE13FD3FFFF W = true) (hk : Keeps W s₀ s) :
    Keeps W s₀ (State.takeSegment s f b) := by
  unfold State.takeSegment
  repeat' first
    | with_reducible assumption
    | with_reducible exact Keeps.refl _ _
    | with_reducible exact Bool.false_and _
    | intro _
    | with_reducible refine Keeps.foldl _ _ ?_ (fun _ _ => ?_)
    | with_reducible refine State.gspWritten_keeps _ _ (maskLe_trans (by decide) hW) ?_
    | with_reducible refine State.touch_keeps _ (maskLe_trans (by decide) hW) ?_
    | with_reducible refine State.modGsp_keeps _ (maskLe_trans (by decide) hW) ?_
    | with_reducible refine State.gspWriteValue_keeps _ _ (maskLe_trans (by decide) hW) ?_
    | with_reducible refine State.gspImage_keeps _ _ (maskLe_trans (by decide) hW) ?_
    | with_reducible refine Keeps.ite ?_ ?_
    | dsimp only
    | split

theorem State.gspBlockWrite_keeps {W : Nat} {s₀ s : State} (f : GspFrame) (hW : maskLe 0x557F9A76F556FBE13FD3FFFF W = true) (hk : Keeps W s₀ s) :
    Keeps W s₀ (State.gspBlockWrite s f) := by
  unfold State.gspBlockWrite
  repeat' first
    | with_reducible assumption
    | with_reducible exact Keeps.refl _ _
    | with_reducible exact Bool.false_and _
    | intro _
    | with_reducible refine Keeps.foldl _ _ ?_ (fun _ _ => ?_)
    | with_reducible refine State.closeBlock_keeps  (maskLe_trans (by decide) hW) ?_
    | with_reducible refine State.nextSegment_keeps _ _ _ (maskLe_trans (by decide) hW) ?_ ?_
    | with_reducible refine State.takeSegment_keeps _ _ (maskLe_trans (by decide) hW) ?_
    | with_reducible refine Keeps.ite ?_ ?_
    | dsimp only
    | split

theorem State.gspSubscribe_keeps {W : Nat} {s₀ s : State} (f : GspFrame) (hW : maskLe 0x40000000000120 W = true) (hk : Keeps W s₀ s) :
    Keeps W s₀ (State.gspSubscribe s f) := by
  unfold State.gspSubscribe
  repeat' first
    | with_reducible assumption
    | with_reducible exact site_2510 hW (by decide)
    | with_reducible exact Keeps.refl _ _
    | with_reducible exact Bool.false_and _
    | intro _
    | with_reducible refine Keeps.foldl _ _ ?_ (fun _ _ => ?_)
    | with_reducible refine State.putObj_keeps _ _ _ ?_ ?_
    | with_reducible refine State.gspRespond_keeps _ _ _ (maskLe_trans (by decide) hW) ?_
    | with_reducible refine State.touch_keeps _ (maskLe_trans (by decide) hW) ?_
    | with_reducible refine Keeps.ite ?_ ?_
    | dsimp only
    | split

theorem State.gspUnsubscribe_keeps {W : Nat} {s₀ s : State} (f : GspFrame) (hW : maskLe 0x40000000000120 W = true) (hk : Keeps W s₀ s) :
    Keeps W s₀ (State.gspUnsubscribe s f) := by
  unfold State.gspUnsubscribe
  repeat' first
    | with_reducible assumption
    | with_reducible exact site_2510 hW (by decide)
    | with_reducible exact Keeps.refl _ _
    | with_reducible exact Bool.false_and _
    | intro _
    | with_reducible refine Keeps.foldl _ _ ?_ (fun _ _ => ?_)
    | with_reducible refine State.putObj_keeps _ _ _ ?_ ?_
    | with_reducible refine State.gspRespond_keeps _ _ _ (maskLe_trans (by decide) hW) ?_
    | with_reducible refine State.touch_keeps _ (maskLe_trans (by decide) hW) ?_
    | with_reducible refine State.modGsp_keeps _ (maskLe_trans (by decide) hW) ?_
    | with_reducible refine Keeps.ite ?_ ?_
    | dsimp only
    | split

theorem State.gspPing_keeps {W : Nat} {s₀ s : State} (f : GspFrame) (hW : maskLe 0x120 W = true) (hk : Keeps W s₀ s) :
    Keeps W s₀ (State.gspPing s f) := by
  unfold State.gspPing
  repeat' first
    | with_reducible assumption
    | with_reducible exact Keeps.refl _ _
    | with_reducible exact Bool.false_and _
    | intro _
    | with_reducible refine Keeps.foldl _ _ ?_ (fun _ _ => ?_)
    | with_reducible refine State.gspRespond_keeps _ _ _ (maskLe_trans (by decide) hW) ?_
    | with_reducible refine State.touch_keeps _ (maskLe_trans (by decide) hW) ?_
    | with_reducible refine Keeps.ite ?_ ?_
    | dsimp only
    | split

theorem State.gspExecute_keeps {W : Nat} {s₀ s : State} (f : GspFrame) (hW : maskLe 0x557F9A76F556FBE13FD3FFFF W = true) (hk : Keeps W s₀ s) :
    Keeps W s₀ (State.gspExecute s f) := by
  unfold State.gspExecute
  repeat' first
    | with_reducible assumption
    | with_reducible exact Keeps.refl _ _
    | with_reducible exact Bool.false_and _
    | intro _
    | with_reducible refine Keeps.foldl _ _ ?_ (fun _ _ => ?_)
    | with_reducible refine State.gspRead_keeps _ (maskLe_trans (by decide) hW) ?_
    | with_reducible refine State.gspWriteValue_keeps _ _ (maskLe_trans (by decide) hW) ?_
    | with_reducible refine State.gspBlockRead_keeps _ (maskLe_trans (by decide) hW) ?_
    | with_reducible refine State.gspBlockWrite_keeps _ (maskLe_trans (by decide) hW) ?_
    | with_reducible refine State.gspSubscribe_keeps _ (maskLe_trans (by decide) hW) ?_
    | with_reducible refine State.gspUnsubscribe_keeps _ (maskLe_trans (by decide) hW) ?_
    | with_reducible refine State.gspPing_keeps _ (maskLe_trans (by decide) hW) ?_
    | with_reducible refine Keeps.ite ?_ ?_
    | dsimp only
    | split

theorem State.gspServe_keeps {W : Nat} {s₀ s : State} (f : GspFrame) (hW : maskLe 0x557F9A76F556FBE13FD3FFFF W = true) (hk : Keeps W s₀ s) :
    Keeps W s₀ (State.gspServe s f) := by
  unfold State.gspServe
  repeat' first
    | with_reducible assumption
    | with_reducible exact siteIn_mono hW (siteIn_all (by decide))
    | with_reducible exact site_2510 hW (by decide)
    | with_reducible exact Keeps.refl _ _
    | with_reducible exact Bool.false_and _
    | intro _
    | with_reducible refine Keeps.foldl _ _ ?_ (fun _ _ => ?_)
    | with_reducible refine State.bump_keeps _ _ ?_  ?_
    | with_reducible refine State.modGsp_keeps _ (maskLe_trans (by decide) hW) ?_
    | with_reducible refine State.nak_keeps _ _ (maskLe_trans (by decide) hW) ?_
    | with_reducible refine State.gspExecute_keeps _ (maskLe_trans (by decide) hW) ?_
    | with_reducible refine Keeps.ite ?_ ?_
    | dsimp only
    | split

theorem State.gspDecoded_keeps {W : Nat} {s₀ s : State} (bytes : List Byte) (hW : maskLe 0x557F9A76F556FBE13FD3FFFF W = true) (hk : Keeps W s₀ s) :
    Keeps W s₀ (State.gspDecoded s bytes) := by
  unfold State.gspDecoded
  repeat' first
    | with_reducible assumption
    | with_reducible exact siteIn_mono hW (siteIn_all (by decide))
    | with_reducible exact site_2510 hW (by decide)
    | with_reducible exact Keeps.refl _ _
    | with_reducible exact Bool.false_and _
    | intro _
    | with_reducible refine Keeps.foldl _ _ ?_ (fun _ _ => ?_)
    | with_reducible refine State.bump_keeps _ _ ?_  ?_
    | with_reducible refine State.modGsp_keeps _ (maskLe_trans (by decide) hW) ?_
    | with_reducible refine State.gspServe_keeps _ (maskLe_trans (by decide) hW) ?_
    | with_reducible refine Keeps.ite ?_ ?_
    | dsimp only
    | split

theorem State.gspFrameIn_keeps {W : Nat} {s₀ s : State} (frame : List Byte) (hW : maskLe 0x557F9A76F556FBE13FD3FFFF W = true) (hk : Keeps W s₀ s) :
    Keeps W s₀ (State.gspFrameIn s frame) := by
  unfold State.gspFrameIn
  repeat' first
    | with_reducible assumption
    | with_reducible exact siteIn_mono hW (siteIn_all (by decide))
    | with_reducible exact site_2510 hW (by decide)
    | with_reducible exact Keeps.refl _ _
    | with_reducible exact Bool.false_and _
    | intro _
    | with_reducible refine Keeps.foldl _ _ ?_ (fun _ _ => ?_)
    | with_reducible refine State.bump_keeps _ _ ?_  ?_
    | with_reducible refine State.gspDecoded_keeps _ (maskLe_trans (by decide) hW) ?_
    | with_reducible refine Keeps.ite ?_ ?_
    | dsimp only
    | split

theorem State.drainGsp_keeps {W : Nat} (n : Nat) {s₀ s : State} (hW : maskLe 0x557F9A76F556FBE13FD3FFFF W = true) (hk : Keeps W s₀ s) :
    Keeps W s₀ (State.drainGsp n s) := by
  induction n generalizing s with
  | zero => exact hk
  | succ m ih =>
    unfold State.drainGsp
    split
    · exact hk
    · split
      · exact hk
      · exact ih (State.gspDecoded_keeps _ (maskLe_trans (by decide) hW) (State.modGsp_keeps _ (maskLe_trans (by decide) hW) hk))

theorem State.resume_keeps {W : Nat} {s₀ s : State} (hW : maskLe 0x557F9A76F556FBE13FD3FFFF W = true) (hk : Keeps W s₀ s) :
    Keeps W s₀ (State.resume s) := by
  unfold State.resume
  repeat' first
    | with_reducible assumption
    | with_reducible exact Keeps.refl _ _
    | with_reducible exact Bool.false_and _
    | intro _
    | with_reducible refine Keeps.foldl _ _ ?_ (fun _ _ => ?_)
    | with_reducible refine State.resumeCan_keeps  (maskLe_trans (by decide) hW) ?_
    | with_reducible refine State.drainGsp_keeps _ (maskLe_trans (by decide) hW) ?_
    | with_reducible refine Keeps.ite ?_ ?_
    | dsimp only
    | split

theorem execGspRead_keeps (frame : List Byte) (s : State) : Keeps.Out 0x557F9A76F556FBE13FD3FFFF s (execGspRead frame s) := by
  unfold execGspRead
  repeat' first
    | with_reducible refine Keeps.out_next ?_
    | with_reducible refine Keeps.out_ite ?_ ?_
    | with_reducible assumption
    | with_reducible exact Keeps.refl _ _
    | with_reducible exact Bool.false_and _
    | intro _
    | with_reducible refine Keeps.foldl _ _ ?_ (fun _ _ => ?_)
    | with_reducible refine State.gspFrameIn_keeps _ (by decide) ?_
    | with_reducible refine Keeps.ite ?_ ?_
    | dsimp only
    | split

theorem execGspWrite_keeps (frame : List Byte) (s : State) : Keeps.Out 0x557F9A76F556FBE13FD3FFFF s (execGspWrite frame s) := by
  unfold execGspWrite
  repeat' first
    | with_reducible refine Keeps.out_next ?_
    | with_reducible refine Keeps.out_ite ?_ ?_
    | with_reducible assumption
    | with_reducible exact Keeps.refl _ _
    | with_reducible exact Bool.false_and _
    | intro _
    | with_reducible refine Keeps.foldl _ _ ?_ (fun _ _ => ?_)
    | with_reducible refine State.gspFrameIn_keeps _ (by decide) ?_
    | with_reducible refine Keeps.ite ?_ ?_
    | dsimp only
    | split

theorem execGspBlockRead_keeps (frame : List Byte) (s : State) : Keeps.Out 0x557F9A76F556FBE13FD3FFFF s (execGspBlockRead frame s) := by
  unfold execGspBlockRead
  repeat' first
    | with_reducible refine Keeps.out_next ?_
    | with_reducible refine Keeps.out_ite ?_ ?_
    | with_reducible assumption
    | with_reducible exact Keeps.refl _ _
    | with_reducible exact Bool.false_and _
    | intro _
    | with_reducible refine Keeps.foldl _ _ ?_ (fun _ _ => ?_)
    | with_reducible refine State.gspFrameIn_keeps _ (by decide) ?_
    | with_reducible refine Keeps.ite ?_ ?_
    | dsimp only
    | split

theorem execGspBlockWrite_keeps (frame : List Byte) (s : State) : Keeps.Out 0x557F9A76F556FBE13FD3FFFF s (execGspBlockWrite frame s) := by
  unfold execGspBlockWrite
  repeat' first
    | with_reducible refine Keeps.out_next ?_
    | with_reducible refine Keeps.out_ite ?_ ?_
    | with_reducible assumption
    | with_reducible exact Keeps.refl _ _
    | with_reducible exact Bool.false_and _
    | intro _
    | with_reducible refine Keeps.foldl _ _ ?_ (fun _ _ => ?_)
    | with_reducible refine State.gspFrameIn_keeps _ (by decide) ?_
    | with_reducible refine Keeps.ite ?_ ?_
    | dsimp only
    | split

theorem execGspSubscribe_keeps (frame : List Byte) (s : State) : Keeps.Out 0x557F9A76F556FBE13FD3FFFF s (execGspSubscribe frame s) := by
  unfold execGspSubscribe
  repeat' first
    | with_reducible refine Keeps.out_next ?_
    | with_reducible refine Keeps.out_ite ?_ ?_
    | with_reducible assumption
    | with_reducible exact Keeps.refl _ _
    | with_reducible exact Bool.false_and _
    | intro _
    | with_reducible refine Keeps.foldl _ _ ?_ (fun _ _ => ?_)
    | with_reducible refine State.gspFrameIn_keeps _ (by decide) ?_
    | with_reducible refine Keeps.ite ?_ ?_
    | dsimp only
    | split

theorem execGspUnsubscribe_keeps (frame : List Byte) (s : State) : Keeps.Out 0x557F9A76F556FBE13FD3FFFF s (execGspUnsubscribe frame s) := by
  unfold execGspUnsubscribe
  repeat' first
    | with_reducible refine Keeps.out_next ?_
    | with_reducible refine Keeps.out_ite ?_ ?_
    | with_reducible assumption
    | with_reducible exact Keeps.refl _ _
    | with_reducible exact Bool.false_and _
    | intro _
    | with_reducible refine Keeps.foldl _ _ ?_ (fun _ _ => ?_)
    | with_reducible refine State.gspFrameIn_keeps _ (by decide) ?_
    | with_reducible refine Keeps.ite ?_ ?_
    | dsimp only
    | split

theorem execGspPing_keeps (frame : List Byte) (s : State) : Keeps.Out 0x557F9A76F556FBE13FD3FFFF s (execGspPing frame s) := by
  unfold execGspPing
  repeat' first
    | with_reducible refine Keeps.out_next ?_
    | with_reducible refine Keeps.out_ite ?_ ?_
    | with_reducible assumption
    | with_reducible exact Keeps.refl _ _
    | with_reducible exact Bool.false_and _
    | intro _
    | with_reducible refine Keeps.foldl _ _ ?_ (fun _ _ => ?_)
    | with_reducible refine State.gspFrameIn_keeps _ (by decide) ?_
    | with_reducible refine Keeps.ite ?_ ?_
    | dsimp only
    | split

theorem execGspBlockTimeout_keeps (s : State) : Keeps.Out 0x4000008110 s (execGspBlockTimeout s) := by
  unfold execGspBlockTimeout
  repeat' first
    | with_reducible refine Keeps.out_next ?_
    | with_reducible refine Keeps.out_ite ?_ ?_
    | with_reducible assumption
    | with_reducible exact Keeps.refl _ _
    | with_reducible exact Bool.false_and _
    | intro _
    | with_reducible refine Keeps.foldl _ _ ?_ (fun _ _ => ?_)
    | with_reducible refine State.modGsp_keeps _ (by decide) ?_
    | with_reducible refine State.closeBlock_keeps  (by decide) ?_
    | with_reducible refine Keeps.ite ?_ ?_
    | dsimp only
    | split

theorem execStoreComplete_keeps (s : State) : Keeps.Out 0x557F9A76F556FBE13FD3FFFF s (execStoreComplete s) := by
  unfold execStoreComplete
  repeat' first
    | with_reducible refine Keeps.out_next ?_
    | with_reducible refine Keeps.out_ite ?_ ?_
    | with_reducible assumption
    | with_reducible exact Keeps.refl _ _
    | with_reducible exact Bool.false_and _
    | intro _
    | with_reducible refine Keeps.foldl _ _ ?_ (fun _ _ => ?_)
    | with_reducible refine State.endStore_keeps _ (by decide) ?_
    | with_reducible refine State.resume_keeps  (by decide) ?_
    | with_reducible refine Keeps.ite ?_ ?_
    | dsimp only
    | split

theorem execRestoreComplete_keeps (s : State) : Keeps.Out 0x557F9A76F556FBE13FD3FFFF s (execRestoreComplete s) := by
  unfold execRestoreComplete
  repeat' first
    | with_reducible refine Keeps.out_next ?_
    | with_reducible refine Keeps.out_ite ?_ ?_
    | with_reducible assumption
    | with_reducible exact Keeps.refl _ _
    | with_reducible exact Bool.false_and _
    | intro _
    | with_reducible refine Keeps.foldl _ _ ?_ (fun _ _ => ?_)
    | with_reducible refine State.endStore_keeps _ (by decide) ?_
    | with_reducible refine State.resume_keeps  (by decide) ?_
    | with_reducible refine Keeps.ite ?_ ?_
    | dsimp only
    | split

theorem execCalibrationStoreComplete_keeps (s : State) : Keeps.Out 0x557F9A76F556FBE13FD3FFFF s (execCalibrationStoreComplete s) := by
  unfold execCalibrationStoreComplete
  repeat' first
    | with_reducible refine Keeps.out_next ?_
    | with_reducible refine Keeps.out_ite ?_ ?_
    | with_reducible assumption
    | with_reducible exact Keeps.refl _ _
    | with_reducible exact Bool.false_and _
    | intro _
    | with_reducible refine Keeps.foldl _ _ ?_ (fun _ _ => ?_)
    | with_reducible refine State.calibrationStored_keeps  (by decide) ?_
    | with_reducible refine State.resume_keeps  (by decide) ?_
    | with_reducible refine Keeps.ite ?_ ?_
    | dsimp only
    | split

theorem execBankEraseComplete_keeps (s : State) : Keeps.Out 0x557F9A76F556FBE13FD3FFFF s (execBankEraseComplete s) := by
  unfold execBankEraseComplete
  repeat' first
    | with_reducible refine Keeps.out_next ?_
    | with_reducible refine Keeps.out_ite ?_ ?_
    | with_reducible assumption
    | with_reducible exact Keeps.refl _ _
    | with_reducible exact Bool.false_and _
    | intro _
    | with_reducible refine Keeps.foldl _ _ ?_ (fun _ _ => ?_)
    | with_reducible refine State.bankErased_keeps  (by decide) ?_
    | with_reducible refine State.resume_keeps  (by decide) ?_
    | with_reducible refine Keeps.ite ?_ ?_
    | dsimp only
    | split

theorem State.fireWarning_keeps {W : Nat} {s₀ s : State} (source : Fin 3) (hW : maskLe 0x557F9A76F556FBE13FD3FFFF W = true) (hk : Keeps W s₀ s) :
    Keeps W s₀ (State.fireWarning s source) := by
  unfold State.fireWarning
  repeat' first
    | with_reducible assumption
    | with_reducible exact siteIn_mono hW (siteIn_all (by decide))
    | with_reducible exact site_2130 hW (by decide)
    | with_reducible exact Keeps.refl _ _
    | with_reducible exact Bool.false_and _
    | intro _
    | with_reducible refine Keeps.foldl _ _ ?_ (fun _ _ => ?_)
    | with_reducible refine State.setSupply_keeps _ (maskLe_trans (by decide) hW) ?_
    | with_reducible refine State.putBit_keeps _ _ _ _ ?_  ?_
    | with_reducible refine State.startWarning_keeps _ (maskLe_trans (by decide) hW) ?_
    | with_reducible refine State.resume_keeps  (maskLe_trans (by decide) hW) ?_
    | with_reducible refine Keeps.ite ?_ ?_
    | dsimp only
    | split

theorem execPowerFailWarning_keeps (source : Fin 3) (s : State) : Keeps.Out 0x557F9A76F556FBE13FD3FFFF s (execPowerFailWarning source s) := by
  unfold execPowerFailWarning
  repeat' first
    | with_reducible refine Keeps.out_next ?_
    | with_reducible refine Keeps.out_ite ?_ ?_
    | with_reducible assumption
    | with_reducible exact Keeps.refl _ _
    | with_reducible exact Bool.false_and _
    | intro _
    | with_reducible refine Keeps.foldl _ _ ?_ (fun _ _ => ?_)
    | with_reducible refine State.fireWarning_keeps _ (by decide) ?_
    | with_reducible refine Keeps.ite ?_ ?_
    | dsimp only
    | split

theorem execPowerFailWarningClear_keeps (s : State) : Keeps.Out 0x8062D11689401643E5B8 s (execPowerFailWarningClear s) := by
  unfold execPowerFailWarningClear
  repeat' first
    | with_reducible refine Keeps.out_next ?_
    | with_reducible refine Keeps.out_ite ?_ ?_
    | with_reducible assumption
    | with_reducible exact Keeps.refl _ _
    | with_reducible exact Bool.false_and _
    | intro _
    | with_reducible refine Keeps.foldl _ _ ?_ (fun _ _ => ?_)
    | with_reducible refine State.endWarning_keeps  (by decide) ?_
    | with_reducible refine State.resumePiece_keeps  (by decide) ?_
    | with_reducible refine Keeps.ite ?_ ?_
    | dsimp only
    | split

theorem State.mainsSource_keeps {W : Nat} {s₀ s : State} (before : Bool) (hW : maskLe 0x557F9A76F556FBE13FD3FFFF W = true) (hk : Keeps W s₀ s) :
    Keeps W s₀ (State.mainsSource s before) := by
  unfold State.mainsSource
  repeat' first
    | with_reducible assumption
    | with_reducible exact Keeps.refl _ _
    | with_reducible exact Bool.false_and _
    | intro _
    | with_reducible refine Keeps.foldl _ _ ?_ (fun _ _ => ?_)
    | with_reducible refine State.fireWarning_keeps _ (maskLe_trans (by decide) hW) ?_
    | with_reducible refine Keeps.ite ?_ ?_
    | dsimp only
    | split

theorem execHalfCyclePublication_keeps (s : State) : Keeps.Out 0x557F9A76F556FBE13FD3FFFF s (execHalfCyclePublication s) := by
  unfold execHalfCyclePublication
  repeat' first
    | with_reducible refine Keeps.out_next ?_
    | with_reducible refine Keeps.out_ite ?_ ?_
    | with_reducible assumption
    | with_reducible exact Keeps.refl _ _
    | with_reducible exact Bool.false_and _
    | intro _
    | with_reducible refine Keeps.foldl _ _ ?_ (fun _ _ => ?_)
    | with_reducible refine State.publish_keeps _ (by decide) ?_
    | with_reducible refine State.mainsSource_keeps _ (by decide) ?_
    | with_reducible refine Keeps.ite ?_ ?_
    | dsimp only
    | split

theorem execMainsZeroCrossing_keeps (period halfRms : Nat) (s : State) : Keeps.Out 0x557F9A76F556FBE13FD3FFFF s (execMainsZeroCrossing period halfRms s) := by
  unfold execMainsZeroCrossing
  repeat' first
    | with_reducible refine Keeps.out_next ?_
    | with_reducible refine Keeps.out_ite ?_ ?_
    | with_reducible assumption
    | with_reducible exact Keeps.refl _ _
    | with_reducible exact Bool.false_and _
    | intro _
    | with_reducible refine Keeps.foldl _ _ ?_ (fun _ _ => ?_)
    | with_reducible refine State.zeroCrossing_keeps _ _ (by decide) ?_
    | with_reducible refine State.mainsSource_keeps _ (by decide) ?_
    | with_reducible refine Keeps.ite ?_ ?_
    | dsimp only
    | split

theorem execPllLocked_keeps (s : State) : Keeps.Out 0x557F9A76F556FBE13FD3FFFF s (execPllLocked s) := by
  unfold execPllLocked
  repeat' first
    | with_reducible refine Keeps.out_next ?_
    | with_reducible refine Keeps.out_ite ?_ ?_
    | with_reducible assumption
    | with_reducible exact Keeps.refl _ _
    | with_reducible exact Bool.false_and _
    | intro _
    | with_reducible refine Keeps.foldl _ _ ?_ (fun _ _ => ?_)
    | with_reducible refine State.pllLocks_keeps  (by decide) ?_
    | with_reducible refine State.mainsSource_keeps _ (by decide) ?_
    | with_reducible refine Keeps.ite ?_ ?_
    | dsimp only
    | split

theorem execCrystalQualified_keeps (s : State) : Keeps.Out 0x557F9A76F556FBE53FD3FFFF s (execCrystalQualified s) := by
  unfold execCrystalQualified
  repeat' first
    | with_reducible refine Keeps.out_next ?_
    | with_reducible refine Keeps.out_ite ?_ ?_
    | with_reducible assumption
    | with_reducible exact Keeps.refl _ _
    | with_reducible exact Bool.false_and _
    | intro _
    | with_reducible refine Keeps.foldl _ _ ?_ (fun _ _ => ?_)
    | with_reducible refine State.ontoCrystal_keeps  (by decide) ?_
    | with_reducible refine State.mainsSource_keeps _ (by decide) ?_
    | with_reducible refine Keeps.ite ?_ ?_
    | dsimp only
    | split

end Sys2Proof.Machine
end

