-- ==== Sys2Proof/Laws/KeepsIdle.lean ====
section
/-! SUPPORT. What the operations of Machine/Idle.lean keep. -/

namespace Sys2Proof.Machine

theorem State.tickSeconds_keeps {W : Nat} {s₀ s : State} (hW : maskLe 0x200 W = true) (hk : Keeps W s₀ s) :
    Keeps W s₀ (State.tickSeconds s) := by
  unfold State.tickSeconds
  repeat' first
    | with_reducible assumption
    | with_reducible exact Keeps.refl _ _
    | with_reducible exact Bool.false_and _
    | intro _
    | with_reducible refine Keeps.foldl _ _ ?_ (fun _ _ => ?_)
    | with_reducible refine State.setLife_keeps _ (maskLe_trans (by decide) hW) ?_
    | with_reducible refine Keeps.ite ?_ ?_
    | dsimp only
    | split

theorem State.tickRtc_keeps {W : Nat} {s₀ s : State} (hW : maskLe 0x1000 W = true) (hk : Keeps W s₀ s) :
    Keeps W s₀ (State.tickRtc s) := by
  unfold State.tickRtc
  repeat' first
    | with_reducible assumption
    | with_reducible exact Keeps.refl _ _
    | with_reducible exact Bool.false_and _
    | intro _
    | with_reducible refine Keeps.foldl _ _ ?_ (fun _ _ => ?_)
    | with_reducible refine State.setRtc_keeps _ (maskLe_trans (by decide) hW) ?_
    | with_reducible refine Keeps.ite ?_ ?_
    | dsimp only
    | split

theorem State.tickClients_keeps {W : Nat} {s₀ s : State} (hW : maskLe 0x20 W = true) (hk : Keeps W s₀ s) :
    Keeps W s₀ (State.tickClients s) := by
  unfold State.tickClients
  repeat' first
    | with_reducible assumption
    | with_reducible exact Keeps.refl _ _
    | with_reducible exact Bool.false_and _
    | intro _
    | with_reducible refine Keeps.foldl _ _ ?_ (fun _ _ => ?_)
    | with_reducible refine State.setClients_keeps _ (maskLe_trans (by decide) hW) ?_
    | with_reducible refine Keeps.ite ?_ ?_
    | dsimp only
    | split

theorem State.tickRunning_keeps {W : Nat} {s₀ s : State} (hW : maskLe 0x8000000000000010000220 W = true) (hk : Keeps W s₀ s) :
    Keeps W s₀ (State.tickRunning s) := by
  unfold State.tickRunning
  repeat' first
    | with_reducible assumption
    | with_reducible exact Keeps.refl _ _
    | with_reducible exact Bool.false_and _
    | intro _
    | with_reducible refine Keeps.foldl _ _ ?_ (fun _ _ => ?_)
    | with_reducible refine State.setLife_keeps _ (maskLe_trans (by decide) hW) ?_
    | with_reducible refine State.drainPulse_keeps _ (maskLe_trans (by decide) hW) ?_
    | with_reducible refine State.tickClients_keeps  (maskLe_trans (by decide) hW) ?_
    | with_reducible refine Keeps.ite ?_ ?_
    | dsimp only
    | split

theorem State.idle_keeps {W : Nat} {s₀ s : State} (hW : maskLe 0x8000000000000010001220 W = true) (hk : Keeps W s₀ s) :
    Keeps W s₀ (State.idle s) := by
  unfold State.idle
  repeat' first
    | with_reducible assumption
    | with_reducible exact Keeps.refl _ _
    | with_reducible exact Bool.false_and _
    | intro _
    | with_reducible refine Keeps.foldl _ _ ?_ (fun _ _ => ?_)
    | with_reducible refine State.tickSeconds_keeps  (maskLe_trans (by decide) hW) ?_
    | with_reducible refine State.tickRtc_keeps  (maskLe_trans (by decide) hW) ?_
    | with_reducible refine State.tickRunning_keeps  (maskLe_trans (by decide) hW) ?_
    | with_reducible refine Keeps.ite ?_ ?_
    | dsimp only
    | split

end Sys2Proof.Machine
end

