-- ==== Sys2Proof/Laws/Rows.lean ====
section
/-! SUPPORT. The host's rows: what an accepted value or action does at each address, what an accepted write comes to, and
what each row keeps. -/

set_option Elab.async false

namespace Sys2Proof.Machine

/-! ### A write as a whole -/

/-- An accepted value is applied, renews the session's idle time and is answered. -/
theorem hostWrite_number {s : State} {ch : Channel} {ix sub : Nat} {data : List Byte} {row : ObjRow}
    (h1 : s.reaches ch = true) (h2 : findRow ix sub = some row) (h3 : isAction ix sub = false)
    (h4 : s.admission ch row ix sub data = none) (h5 : row.ty.numeric = true)
    (h6 : s.objectRule ch ix sub (row.ty.value data) = none) (h7 : ix ≠ 0x1010) (h8 : ix ≠ 0x1011) :
    s.hostWrite ch ix sub data
      = ((s.applyNumber ch ix sub (row.ty.value data)).touch ch).record ch ix sub none := by
  have e : s.writeObj ch ix sub data = ((s.applyNumber ch ix sub (row.ty.value data)).touch ch, .done) := by
    unfold State.writeObj
    rw [h2]
    simp only [h3, Bool.false_and, Bool.false_eq_true, if_false, h4]
    unfold State.writeValue State.writeNumber
    simp only [h5, if_true, h6, h7, h8, if_false]
    rfl
  unfold State.hostWrite
  rw [if_pos h1, e]
  rfl

/-- An accepted action is done, its tag remembered and stored, and it is answered. -/
theorem hostAction_accepted {s : State} {ch : Channel} {ix sub tag arg : Nat} {row : ObjRow}
    (h1 : s.reaches ch = true) (h2 : findRow ix sub = some row) (h3 : isAction ix sub = true)
    (h4 : s.admission ch row ix sub (actionBytes tag arg) = none) (h5 : s.actionRule ch ix sub arg = none)
    (h6 : tag ≠ 0) (h7 : tag < 65536) (h8 : arg < 65536)
    (h9 : ((s.client ch).tags.find? fun (c : Nat × Option Nat) => c.1 == tag) = none) (h10 : answersLate ix sub = false)
    (h11 : endsClient ix sub = false) :
    s.hostAction ch ix sub tag arg
      = ((((s.touch ch).doAction ch ix sub tag arg).remember ch tag none).putObj ix sub tag).record ch ix sub none := by
  have n : leNat (actionBytes tag arg) = tag + 65536 * arg := by
    simp only [actionBytes, leBytes, leNat, BitVec.toNat_ofNat]
    omega
  have a : tagOf (tag + 65536 * arg) = tag := by unfold tagOf; omega
  have b : argOf (tag + 65536 * arg) = arg := by unfold argOf; omega
  have l : (actionBytes tag arg).length = 4 := rfl
  have t : (tag != 0) = true := by simp only [bne_iff_ne]; exact h6
  have e : s.writeObj ch ix sub (actionBytes tag arg)
      = ((((s.touch ch).doAction ch ix sub tag arg).remember ch tag none).putObj ix sub tag, .done) := by
    unfold State.writeObj
    rw [h2]
    simp only [h3, l, n, a, t, beq_self_eq_true, Bool.and_self, if_true]
    unfold State.writeAction
    simp only [n, a, b, h9, h4, h5]
    unfold State.acceptAction
    rw [h10, h11]
    rfl
  unfold State.hostAction State.hostWrite
  rw [if_pos h1, e]
  rfl

theorem hostWrite_keeps' {W : Nat} {s : State} (ch : Channel) (ix sub : Nat) (data : List Byte)
    (hW : maskLe 0x20 W = true) (h : Keeps W s (s.writeObj ch ix sub data).1) : Keeps W s (s.hostWrite ch ix sub data) := by
  unfold State.hostWrite
  split
  · unfold State.recordResult
    dsimp only
    split
    · exact h
    · exact State.record_keeps _ _ _ _ hW h
    · exact State.record_keeps _ _ _ _ hW h
  · exact Keeps.refl _ _

/-- The rows of a numeric object that is no action. -/
theorem hostWrite_number_keeps {W : Nat} {s : State} (ch : Channel) (ix sub : Nat) (data : List Byte)
    (hW : maskLe 0x20 W = true) (h1 : isAction ix sub = false) (h2 : ix ≠ 0x1010 ∧ ix ≠ 0x1011)
    (h3 : ((findRow ix sub).all fun (r : ObjRow) => r.ty.numeric) = true)
    (h : ∀ v, Keeps W s (s.applyNumber ch ix sub v)) : Keeps W s (s.hostWrite ch ix sub data) := by
  refine hostWrite_keeps' ch ix sub data hW ?_
  unfold State.writeObj
  split
  · exact Keeps.refl _ _
  · next row hr =>
    rw [hr] at h3
    simp only [h1, Bool.false_and, Bool.false_eq_true, if_false]
    split
    · exact Keeps.refl _ _
    · have e : row.ty.numeric = true := h3
      have k : Keeps W s (s.writeNumber ch ix sub (row.ty.value data)).1 := by
        unfold State.writeNumber
        split
        · exact Keeps.refl _ _
        · rw [if_neg h2.1, if_neg h2.2]
          exact h _
      unfold State.writeValue
      rw [e]
      dsimp only
      rw [if_pos rfl]
      split
      · exact k
      · exact State.touch_keeps _ hW k

/-- The rows of a DOMAIN that is no action. -/
theorem hostWrite_text_keeps {W : Nat} {s : State} (ch : Channel) (ix sub : Nat) (data : List Byte)
    (hW : maskLe 0x20 W = true) (h1 : isAction ix sub = false)
    (h3 : ((findRow ix sub).all fun (r : ObjRow) => !r.ty.numeric) = true)
    (h : ∀ d, Keeps W s (s.writeText ch ix sub d).1) : Keeps W s (s.hostWrite ch ix sub data) := by
  refine hostWrite_keeps' ch ix sub data hW ?_
  unfold State.writeObj
  split
  · exact Keeps.refl _ _
  · next row hr =>
    rw [hr] at h3
    simp only [h1, Bool.false_and, Bool.false_eq_true, if_false]
    split
    · exact Keeps.refl _ _
    · have e : row.ty.numeric = false := by simpa using h3
      unfold State.writeValue
      rw [e]
      dsimp only
      rw [if_neg Bool.false_ne_true]
      split
      · exact h _
      · exact State.touch_keeps _ hW (h _)

/-- The rows of an action object. -/
theorem hostAction_keeps' {W : Nat} {s : State} (ch : Channel) (ix sub tag arg : Nat)
    (hW : maskLe 0x20 W = true) (h1 : isAction ix sub = true) (hi : siteIn W ix = true)
    (h : ∀ t g a, Keeps W t (State.doAction t ch ix sub g a)) : Keeps W s (s.hostAction ch ix sub tag arg) := by
  refine hostWrite_keeps' ch ix sub _ hW ?_
  unfold State.writeObj
  split
  · exact Keeps.refl _ _
  · next row hr =>
    split
    · unfold State.writeAction
      dsimp only
      split
      · exact Keeps.refl _ _
      · split
        · exact State.putObj_keeps _ _ _ hi (State.remember_keeps _ _ _ hW (Keeps.refl _ _))
        · split
          · exact State.putObj_keeps _ _ _ hi (State.remember_keeps _ _ _ hW (Keeps.refl _ _))
          · have k : Keeps W s (s.touch ch) := State.touch_keeps _ hW (Keeps.refl _ _)
            unfold State.acceptAction
            dsimp only
            refine State.putObj_keeps _ _ _ hi ?_
            split
            · exact (State.remember_keeps _ _ _ hW k).trans (h _ _ _)
            · exact State.remember_keeps _ _ _ hW (k.trans (h _ _ _))
    · split
      · exact Keeps.refl _ _
      · exact Keeps.refl _ _

theorem site_contour (k : SlotId) (safe : Bool) :
    siteIn 0x1800000000001000022 ((if safe then 0x3830 else 0x3820) + k.val) = true := by
  cases safe
  · exact siteIn_group (group_slotIx k 1 (by decide)) (by decide)
  · exact siteIn_group (group_slotIx k 2 (by decide)) (by decide)

/-! ### What is done at each address -/

theorem apply_rail (t : State) (ch : Channel) (r : RailId) (off sub : Nat) (v : Int) (h : off < 256) :
    t.applyNumber ch (railIx r off) sub v = t.writeRail r off sub v (t.channelLevel ch).rank := by
  have := r.isLt
  unfold State.applyNumber
  rw [if_neg (by unfold railIx; omega), if_neg (by unfold railIx; omega), dif_pos (by unfold railIx; omega)]
  congr 1
  · exact Fin.ext (by show (railIx r off - 0x3000) / 256 = r.val; unfold railIx; omega)
  · unfold railIx; omega

theorem do_rail (t : State) (ch : Channel) (r : RailId) (off sub tag arg : Nat) (h : off < 256) :
    t.doAction ch (railIx r off) sub tag arg = if off = 0x10 then t.profileCommand r arg else t.resetDcEnergy r := by
  have := r.isLt
  have e : railIx r off % 256 = off := by unfold railIx; omega
  have f : ∀ h, (⟨(railIx r off - 0x3000) / 256, h⟩ : RailId) = r := fun h =>
    Fin.ext (by show (railIx r off - 0x3000) / 256 = r.val; unfold railIx; omega)
  unfold State.doAction
  rw [dif_pos (by unfold railIx; omega)]
  dsimp only
  rw [e, f]

theorem apply_error_history_clear (t : State) (ch : Channel)  (v : Int) :
    t.applyNumber ch 0x1003 0 v = t.clearHistory := by
  rfl

theorem apply_power_state_write (t : State) (ch : Channel)  (v : Int) :
    t.applyNumber ch 0x2100 1 v = t.setPower v.toNat := by
  rfl

theorem apply_graticule_entry_write (t : State) (ch : Channel) (n : Fin 64) (v : Int) :
    t.applyNumber ch 0x2210 (1 + n.val) v = t.writeEntry n v := by
  show (if h : 0x2210 = 0x2210 ∧ 1 ≤ 1 + n.val ∧ 1 + n.val ≤ 0x40 then t.writeEntry ⟨1 + n.val - 1, by omega⟩ v else _) = _
  rw [dif_pos ⟨rfl, by omega, by omega⟩]
  congr 1
  exact Fin.ext (by show 1 + n.val - 1 = n.val; omega)

theorem apply_gpio_mode_write (t : State) (ch : Channel) (n : Fin 6) (v : Int) :
    t.applyNumber ch 0x2610 (1 + n.val) v = t.putNow 0x2610 (1 + n.val) v := 
  match n with
  | ⟨0, _⟩ => rfl
  | ⟨1, _⟩ => rfl
  | ⟨2, _⟩ => rfl
  | ⟨3, _⟩ => rfl
  | ⟨4, _⟩ => rfl
  | ⟨5, _⟩ => rfl
  | ⟨n + 6, h⟩ => absurd h (by omega)

theorem apply_gpio_level_write (t : State) (ch : Channel)  (v : Int) :
    t.applyNumber ch 0x2610 7 v = t.putNow 0x2610 7 v := by
  rfl

theorem apply_force_both_off (t : State) (ch : Channel) (p : PhaseId) (v : Int) :
    t.applyNumber ch (phaseIx p 4) 1 v = t.putNow (phaseIx p 4) 1 v := by
  have := p.isLt
  have e : phaseIx p 4 = 0x4000 + 16 * p.val + 4 := by unfold phaseIx; omega
  rw [e]
  have f : fastKey (0x4000 + 16 * p.val + 4) 1 = false := by
    have g : ∀ p : PhaseId, fastKey (0x4000 + 16 * p.val + 4) 1 = false := by decide +kernel
    exact g p
  unfold State.applyNumber State.putConfig
  rw [if_neg (by omega), if_neg (by omega), dif_neg (by omega), dif_neg (by omega), dif_neg (by omega),
    if_neg (by omega), if_neg (by omega), if_neg (by omega), if_neg (by omega), if_neg (by omega), f, Bool.false_and,
    if_neg Bool.false_ne_true]

theorem apply_rail_enable_on (t : State) (ch : Channel) (r : RailId) (v : Int) :
    t.applyNumber ch (railIx r 0) 3 v = t.writeEnable r v := by
  rw [apply_rail _ _ _ _ _ _ (by decide)]
  rfl

theorem apply_target_write (t : State) (ch : Channel) (r : RailId) (v : Int) :
    t.applyNumber ch (railIx r 0x10) 1 v = t.acceptTarget r v := by
  rw [apply_rail _ _ _ _ _ _ (by decide)]
  rfl

theorem apply_envelope_write (t : State) (ch : Channel) (r : RailId) (sub : Fin 12) (v : Int) :
    t.applyNumber ch (railIx r 0x02) (1 + sub.val) v = t.writeEnvelope r (1 + sub.val) v (t.channelLevel ch).rank := by
  rw [apply_rail _ _ _ _ _ _ (by decide)]
  rfl

theorem apply_direction_write (t : State) (ch : Channel)  (v : Int) :
    t.applyNumber ch 0x3400 0x0B v = t.writeDirection v := by
  rfl

theorem apply_ring_port_enable (t : State) (ch : Channel)  (v : Int) :
    t.applyNumber ch 0x2400 1 v = t.writeRing v := by
  rfl

theorem apply_event_response_write (t : State) (ch : Channel) (event : Fin 640) (v : Int) :
    t.applyNumber ch (0x2310 + event.val / 128) (event.val % 128 + 1) v = t.putNow (0x2310 + event.val / 128) (event.val % 128 + 1) v := by
  have h : 0x2310 ≤ 0x2310 + event.val / 128 ∧ 0x2310 + event.val / 128 < 0x2315 := by omega
  generalize 0x2310 + event.val / 128 = ix at h ⊢
  generalize event.val % 128 + 1 = sub
  have f : fastKey ix sub = false := by
    cases e : fastKey ix sub with
    | false => rfl
    | true =>
      unfold fastKey at e
      simp only [Bool.or_eq_true, Bool.and_eq_true, beq_iff_eq, Nat.ble_eq, Nat.blt_eq, bne_iff_ne] at e
      omega
  unfold State.applyNumber State.writeDevice State.putConfig
  rw [if_neg (by omega), if_pos (by omega), if_neg (by omega), dif_neg (by omega), if_neg (by omega), if_neg (by omega), f,
    Bool.false_and, if_neg Bool.false_ne_true]

theorem apply_log_cursor_write (t : State) (ch : Channel)  (v : Int) :
    t.applyNumber ch 0x5810 1 v = t.modClient ch fun c => { c with cursor := v.toNat } := by
  rfl

theorem apply_calendar_time_write (t : State) (ch : Channel)  (v : Int) :
    t.applyNumber ch 0x5820 1 v = t.setTime v.toNat 1 := by
  rfl

theorem apply_rtc_trim_write (t : State) (ch : Channel)  (v : Int) :
    t.applyNumber ch 0x5820 3 v = (t.setRtc { t.rtc with trimAcc := 0 }).putObj 0x5820 3 v := by
  rfl

theorem apply_program_start (t : State) (ch : Channel)  (v : Int) :
    t.applyNumber ch 0x1F51 1 v = (if v = 3 then t.eraseBank [] else t) := by
  rfl

theorem do_wet_hold_override (t : State) (ch : Channel) (tag arg : Nat)  :
    t.doAction ch 0x2128 5 tag arg = t.overrideWetHold := by
  rfl

theorem do_function_reinitialise (t : State) (ch : Channel) (tag arg : Nat)  :
    t.doAction ch 0x2110 1 tag arg = t.functionCommand (arg % 256) (arg / 256) := by
  rfl

theorem do_power_cycle_request (t : State) (ch : Channel) (tag arg : Nat)  :
    t.doAction ch 0x2110 2 tag arg = t.powerCycle arg := by
  rfl

theorem do_relay_command_immediate (t : State) (ch : Channel) (tag arg : Nat)  :
    t.doAction ch 0x2600 1 tag arg = t.relayCommand arg := by
  rfl

theorem do_trip_clear (t : State) (ch : Channel) (tag arg : Nat)  :
    t.doAction ch 0x2630 5 tag arg = t.clearTrips arg := by
  rfl

theorem do_profile_start (t : State) (ch : Channel) (tag arg : Nat) (r : RailId) :
    t.doAction ch (railIx r 0x10) 9 tag arg = t.profileCommand r arg := by
  rw [do_rail _ _ _ _ _ _ _ (by decide)]
  rfl

theorem do_return_to_primary (t : State) (ch : Channel) (tag arg : Nat) (k : SlotId) :
    t.doAction ch (slotIx k) 0x0E tag arg = t.returnToPrimary k := by
  have := k.isLt
  have f : ∀ h, (⟨0x3810 + k.val - 0x3810, h⟩ : SlotId) = k := fun h =>
    Fin.ext (by show 0x3810 + k.val - 0x3810 = k.val; omega)
  unfold State.doAction slotIx
  rw [dif_neg (by omega), dif_pos (by omega), f]

theorem do_contour_commit (t : State) (ch : Channel) (tag arg : Nat) (k : SlotId) (safe : Bool) :
    t.doAction ch ((if safe then 0x3830 else 0x3820) + k.val) 2 tag arg = t.commitTable ((if safe then 0x3830 else 0x3820) + k.val) (t.shadowTable ((if safe then 0x3830 else 0x3820) + k.val)) := by
  have := k.isLt
  have e : 0x3820 ≤ (if safe then 0x3830 else 0x3820) + k.val ∧ (if safe then 0x3830 else 0x3820) + k.val < 0x3860 := by
    split <;> omega
  unfold State.doAction
  rw [dif_neg (by omega), dif_neg (by omega), if_pos e]

theorem do_relief_commit (t : State) (ch : Channel) (tag arg : Nat) (k : Fin 16) :
    t.doAction ch (0x3850 + k.val) 2 tag arg = t.commitTable (0x3850 + k.val) (t.shadowTable (0x3850 + k.val)) := by
  have := k.isLt
  unfold State.doAction
  rw [dif_neg (by omega), dif_neg (by omega), if_pos (by omega)]

theorem do_calibration_store (t : State) (ch : Channel) (tag arg : Nat)  :
    t.doAction ch 0x5000 0x1B tag arg = t.storeCalibration ch tag := by
  rfl

theorem do_totals_save_now (t : State) (ch : Channel) (tag arg : Nat)  :
    t.doAction ch 0x5070 1 tag arg = t.requestSave 5 := by
  rfl

theorem do_totals_reset (t : State) (ch : Channel) (tag arg : Nat)  :
    t.doAction ch 0x5070 2 tag arg = t.resetTotals := by
  rfl

theorem do_dc_energy_reset (t : State) (ch : Channel) (tag arg : Nat) (r : RailId) :
    t.doAction ch (railIx r 0x60) 3 tag arg = t.resetDcEnergy r := by
  rw [do_rail _ _ _ _ _ _ _ (by decide)]
  rfl

theorem do_supply_quality_clear_counts (t : State) (ch : Channel) (tag arg : Nat)  :
    t.doAction ch 0x5068 0x11 tag arg = t.clearCounts := by
  rfl

theorem do_event_clear (t : State) (ch : Channel) (tag arg : Nat)  :
    t.doAction ch 0x2300 2 tag arg = t.clearEvents arg := by
  rfl

theorem do_acknowledge (t : State) (ch : Channel) (tag arg : Nat)  :
    t.doAction ch 0x2300 3 tag arg = t.acknowledgeAll := by
  rfl

theorem do_interrupt_clear (t : State) (ch : Channel) (tag arg : Nat)  :
    t.doAction ch 0x2320 2 tag arg = t.clearInterrupts arg := by
  rfl

theorem do_outline_enter (t : State) (ch : Channel) (tag arg : Nat)  :
    t.doAction ch 0x2300 4 tag arg = t.outlineCommand arg := by
  rfl

theorem do_outline_set_commit (t : State) (ch : Channel) (tag arg : Nat)  :
    t.doAction ch 0x2340 1 tag arg = t.commitOutline ch tag := by
  rfl

theorem do_log_erase (t : State) (ch : Channel) (tag arg : Nat)  :
    t.doAction ch 0x5800 1 tag arg = t.eraseLog arg := by
  rfl

theorem do_session_challenge (t : State) (ch : Channel) (tag arg : Nat)  :
    t.doAction ch 0x2020 1 tag arg = t.challenge ch arg := by
  rfl

theorem do_session_close (t : State) (ch : Channel) (tag arg : Nat)  :
    t.doAction ch 0x2020 5 tag arg = t.endSession ch 0 := by
  rfl

theorem do_access_map_commit (t : State) (ch : Channel) (tag arg : Nat)  :
    t.doAction ch 0x2028 0x42 tag arg = t.commitMap ch tag := by
  rfl

theorem do_lifecycle_to_oem_build (t : State) (ch : Channel) (tag arg : Nat)  :
    t.doAction ch 0x2030 2 tag arg = t.lifecycleTo arg := by
  rfl

theorem do_activate_bank (t : State) (ch : Channel) (tag arg : Nat)  :
    t.doAction ch 0x2040 9 tag arg = t.activateBank arg := by
  rfl

theorem do_confirm_bank (t : State) (ch : Channel) (tag arg : Nat)  :
    t.doAction ch 0x2040 0x0A tag arg = t.confirmBank := by
  rfl

theorem execErrorHistoryClear_keeps (ch : Channel)  (s : State) :
    Keeps.Out 0x100000020 s (execErrorHistoryClear ch  s) := by
  refine Keeps.out_next (hostWrite_number_keeps _ _ _ _ (by decide) (by decide +kernel +revert) ⟨?_, ?_⟩
    (by decide +kernel +revert) (fun v => ?_))
  · decide
  · decide
  rw [apply_error_history_clear]
  exact State.clearHistory_keeps  (by decide) (Keeps.refl _ _)

theorem execPowerStateWrite_keeps (ch : Channel) (state : Byte) (s : State) :
    Keeps.Out 0x25010008006400220 s (execPowerStateWrite ch state s) := by
  refine Keeps.out_next (hostWrite_number_keeps _ _ _ _ (by decide) (by decide +kernel +revert) ⟨?_, ?_⟩
    (by decide +kernel +revert) (fun v => ?_))
  · decide
  · decide
  rw [apply_power_state_write]
  exact State.setPower_keeps _  (by decide) (Keeps.refl _ _)

theorem execGraticuleEntryWrite_keeps (ch : Channel) (n : Fin 64) (value : BitVec 64) (s : State) :
    Keeps.Out 0x400000010020 s (execGraticuleEntryWrite ch n value s) := by
  refine Keeps.out_next (hostWrite_number_keeps _ _ _ _ (by decide) (by decide +kernel +revert) ⟨?_, ?_⟩
    (by decide +kernel +revert) (fun v => ?_))
  · decide
  · decide
  rw [apply_graticule_entry_write]
  exact State.writeEntry_keeps _ _  (by decide) (Keeps.refl _ _)

theorem execGpioModeWrite_keeps (ch : Channel) (n : Fin 6) (mode : Byte) (s : State) :
    Keeps.Out 0x200000000000024 s (execGpioModeWrite ch n mode s) := by
  refine Keeps.out_next (hostWrite_number_keeps _ _ _ _ (by decide) (by decide +kernel +revert) ⟨?_, ?_⟩
    (by decide +kernel +revert) (fun v => ?_))
  · decide
  · decide
  rw [apply_gpio_mode_write]
  exact State.putNow_keeps _ _ _ (site_2610 (maskLe_refl _) (by decide)) (by decide) (Keeps.refl _ _)

theorem execGpioLevelWrite_keeps (ch : Channel) (levels : Byte) (s : State) :
    Keeps.Out 0x200000000000024 s (execGpioLevelWrite ch levels s) := by
  refine Keeps.out_next (hostWrite_number_keeps _ _ _ _ (by decide) (by decide +kernel +revert) ⟨?_, ?_⟩
    (by decide +kernel +revert) (fun v => ?_))
  · decide
  · decide
  rw [apply_gpio_level_write]
  exact State.putNow_keeps _ _ _ (site_2610 (maskLe_refl _) (by decide)) (by decide) (Keeps.refl _ _)

theorem execForceBothOff_keeps (ch : Channel) (p : PhaseId) (s : State) :
    Keeps.Out 0x20000000000000000024 s (execForceBothOff ch p s) := by
  refine Keeps.out_next (hostWrite_number_keeps _ _ _ _ (by decide) (by decide +kernel +revert) ⟨?_, ?_⟩
    (by decide +kernel +revert) (fun v => ?_))
  · unfold phaseIx; omega
  · unfold phaseIx; omega
  rw [apply_force_both_off]
  exact State.putNow_keeps _ _ _ (siteIn_phase p 4 (by decide) (by decide)) (by decide) (Keeps.refl _ _)

theorem execForceHighOn_keeps (ch : Channel) (p : PhaseId) (s : State) :
    Keeps.Out 0x20000000000000000024 s (execForceHighOn ch p s) := by
  refine Keeps.out_next (hostWrite_number_keeps _ _ _ _ (by decide) (by decide +kernel +revert) ⟨?_, ?_⟩
    (by decide +kernel +revert) (fun v => ?_))
  · unfold phaseIx; omega
  · unfold phaseIx; omega
  rw [apply_force_both_off]
  exact State.putNow_keeps _ _ _ (siteIn_phase p 4 (by decide) (by decide)) (by decide) (Keeps.refl _ _)

theorem execForceLowOn_keeps (ch : Channel) (p : PhaseId) (s : State) :
    Keeps.Out 0x20000000000000000024 s (execForceLowOn ch p s) := by
  refine Keeps.out_next (hostWrite_number_keeps _ _ _ _ (by decide) (by decide +kernel +revert) ⟨?_, ?_⟩
    (by decide +kernel +revert) (fun v => ?_))
  · unfold phaseIx; omega
  · unfold phaseIx; omega
  rw [apply_force_both_off]
  exact State.putNow_keeps _ _ _ (siteIn_phase p 4 (by decide) (by decide)) (by decide) (Keeps.refl _ _)

theorem execForceNone_keeps (ch : Channel) (p : PhaseId) (s : State) :
    Keeps.Out 0x20000000000000000024 s (execForceNone ch p s) := by
  refine Keeps.out_next (hostWrite_number_keeps _ _ _ _ (by decide) (by decide +kernel +revert) ⟨?_, ?_⟩
    (by decide +kernel +revert) (fun v => ?_))
  · unfold phaseIx; omega
  · unfold phaseIx; omega
  rw [apply_force_both_off]
  exact State.putNow_keeps _ _ _ (siteIn_phase p 4 (by decide) (by decide)) (by decide) (Keeps.refl _ _)

theorem execRailEnableOn_keeps (ch : Channel) (r : RailId) (s : State) :
    Keeps.Out 0x70046D000010002420020 s (execRailEnableOn ch r s) := by
  refine Keeps.out_next (hostWrite_number_keeps _ _ _ _ (by decide) (by decide +kernel +revert) ⟨?_, ?_⟩
    (by decide +kernel +revert) (fun v => ?_))
  · unfold railIx; omega
  · unfold railIx; omega
  rw [apply_rail_enable_on]
  exact State.writeEnable_keeps _ _  (by decide) (Keeps.refl _ _)

theorem execRailSoftOff_keeps (ch : Channel) (r : RailId) (s : State) :
    Keeps.Out 0x70046D000010002420020 s (execRailSoftOff ch r s) := by
  refine Keeps.out_next (hostWrite_number_keeps _ _ _ _ (by decide) (by decide +kernel +revert) ⟨?_, ?_⟩
    (by decide +kernel +revert) (fun v => ?_))
  · unfold railIx; omega
  · unfold railIx; omega
  rw [apply_rail_enable_on]
  exact State.writeEnable_keeps _ _  (by decide) (Keeps.refl _ _)

theorem execRailHardOff_keeps (ch : Channel) (r : RailId) (s : State) :
    Keeps.Out 0x70046D000010002420020 s (execRailHardOff ch r s) := by
  refine Keeps.out_next (hostWrite_number_keeps _ _ _ _ (by decide) (by decide +kernel +revert) ⟨?_, ?_⟩
    (by decide +kernel +revert) (fun v => ?_))
  · unfold railIx; omega
  · unfold railIx; omega
  rw [apply_rail_enable_on]
  exact State.writeEnable_keeps _ _  (by decide) (Keeps.refl _ _)

theorem execTargetWrite_keeps (ch : Channel) (r : RailId) (target : BitVec 32) (s : State) :
    Keeps.Out 0x8062D116810006436028 s (execTargetWrite ch r target s) := by
  refine Keeps.out_next (hostWrite_number_keeps _ _ _ _ (by decide) (by decide +kernel +revert) ⟨?_, ?_⟩
    (by decide +kernel +revert) (fun v => ?_))
  · unfold railIx; omega
  · unfold railIx; omega
  rw [apply_target_write]
  exact State.acceptTarget_keeps _ _  (by decide) (Keeps.refl _ _)

theorem execEnvelopeWrite_keeps (ch : Channel) (r : RailId) (sub : Fin 12) (value : BitVec 32) (s : State) :
    Keeps.Out 0x8062F11681000643602C s (execEnvelopeWrite ch r sub value s) := by
  refine Keeps.out_next (hostWrite_number_keeps _ _ _ _ (by decide) (by decide +kernel +revert) ⟨?_, ?_⟩
    (by decide +kernel +revert) (fun v => ?_))
  · unfold railIx; omega
  · unfold railIx; omega
  rw [apply_envelope_write]
  exact State.writeEnvelope_keeps _ _ _ _  (by decide) (Keeps.refl _ _)

theorem execDirectionWrite_keeps (ch : Channel) (direction : Byte) (s : State) :
    Keeps.Out 0x8062D116810006436028 s (execDirectionWrite ch direction s) := by
  refine Keeps.out_next (hostWrite_number_keeps _ _ _ _ (by decide) (by decide +kernel +revert) ⟨?_, ?_⟩
    (by decide +kernel +revert) (fun v => ?_))
  · decide
  · decide
  rw [apply_direction_write]
  exact State.writeDirection_keeps _  (by decide) (Keeps.refl _ _)

theorem execRingPortEnable_keeps (ch : Channel)  (s : State) :
    Keeps.Out 0x10000004000020 s (execRingPortEnable ch  s) := by
  refine Keeps.out_next (hostWrite_number_keeps _ _ _ _ (by decide) (by decide +kernel +revert) ⟨?_, ?_⟩
    (by decide +kernel +revert) (fun v => ?_))
  · decide
  · decide
  rw [apply_ring_port_enable]
  exact State.writeRing_keeps _  (by decide) (Keeps.refl _ _)

theorem execRingPortDisable_keeps (ch : Channel)  (s : State) :
    Keeps.Out 0x10000004000020 s (execRingPortDisable ch  s) := by
  refine Keeps.out_next (hostWrite_number_keeps _ _ _ _ (by decide) (by decide +kernel +revert) ⟨?_, ?_⟩
    (by decide +kernel +revert) (fun v => ?_))
  · decide
  · decide
  rw [apply_ring_port_enable]
  exact State.writeRing_keeps _  (by decide) (Keeps.refl _ _)

theorem execEventResponseWrite_keeps (ch : Channel) (event : Fin 640) (entry : Byte) (s : State) :
    Keeps.Out 0x1000000000024 s (execEventResponseWrite ch event entry s) := by
  refine Keeps.out_next (hostWrite_number_keeps _ _ _ _ (by decide) (by decide +kernel +revert) ⟨?_, ?_⟩
    (by decide +kernel +revert) (fun v => ?_))
  · omega
  · omega
  rw [apply_event_response_write]
  exact State.putNow_keeps _ _ _ (siteIn_group (g := 0x2310) (by unfold Safety.group; (repeat' split) <;> omega) (by decide)) (by decide) (Keeps.refl _ _)

theorem execLogCursorWrite_keeps (ch : Channel) (seq : BitVec 32) (s : State) :
    Keeps.Out 0x20 s (execLogCursorWrite ch seq s) := by
  refine Keeps.out_next (hostWrite_number_keeps _ _ _ _ (by decide) (by decide +kernel +revert) ⟨?_, ?_⟩
    (by decide +kernel +revert) (fun v => ?_))
  · decide
  · decide
  rw [apply_log_cursor_write]
  exact State.modClient_keeps _ _  (by decide) (Keeps.refl _ _)

theorem execCalendarTimeWrite_keeps (ch : Channel) (time : BitVec 64) (s : State) :
    Keeps.Out 0x10008062D116810006437028 s (execCalendarTimeWrite ch time s) := by
  refine Keeps.out_next (hostWrite_number_keeps _ _ _ _ (by decide) (by decide +kernel +revert) ⟨?_, ?_⟩
    (by decide +kernel +revert) (fun v => ?_))
  · decide
  · decide
  rw [apply_calendar_time_write]
  exact State.setTime_keeps _ _  (by decide) (Keeps.refl _ _)

theorem execRtcTrimWrite_keeps (ch : Channel) (trim : BitVec 16) (s : State) :
    Keeps.Out 0x100000000000000000001020 s (execRtcTrimWrite ch trim s) := by
  refine Keeps.out_next (hostWrite_number_keeps _ _ _ _ (by decide) (by decide +kernel +revert) ⟨?_, ?_⟩
    (by decide +kernel +revert) (fun v => ?_))
  · decide
  · decide
  rw [apply_rtc_trim_write]
  exact State.putObj_keeps _ _ _ (site_5820 (maskLe_refl _) (by decide)) (State.setRtc_keeps _ (by decide) (Keeps.refl _ _))

theorem execProgramStart_keeps (ch : Channel)  (s : State) :
    Keeps.Out 0x4000008020 s (execProgramStart ch  s) := by
  refine Keeps.out_next (hostWrite_number_keeps _ _ _ _ (by decide) (by decide +kernel +revert) ⟨?_, ?_⟩
    (by decide +kernel +revert) (fun v => ?_))
  · decide
  · decide
  rw [apply_program_start]
  split
  · exact State.eraseBank_keeps _ (by decide) (Keeps.refl _ _)
  · exact Keeps.refl _ _

theorem execProgramClear_keeps (ch : Channel)  (s : State) :
    Keeps.Out 0x4000008020 s (execProgramClear ch  s) := by
  refine Keeps.out_next (hostWrite_number_keeps _ _ _ _ (by decide) (by decide +kernel +revert) ⟨?_, ?_⟩
    (by decide +kernel +revert) (fun v => ?_))
  · decide
  · decide
  rw [apply_program_start]
  split
  · exact State.eraseBank_keeps _ (by decide) (Keeps.refl _ _)
  · exact Keeps.refl _ _

theorem execWetHoldOverride_keeps (ch : Channel) (tag : BitVec 16)  (s : State) :
    Keeps.Out 0x4008062D116870006436238 s (execWetHoldOverride ch tag  s) := by
  refine Keeps.out_next (hostAction_keeps' _ _ _ _ _ (by decide) (by decide +kernel +revert)
    (site_2128 (maskLe_refl _) (by decide)) (fun t g a => ?_))
  rw [do_wet_hold_override]
  exact State.overrideWetHold_keeps  (by decide) (Keeps.refl _ _)

theorem execFunctionReinitialise_keeps (ch : Channel) (tag : BitVec 16) (fn : Fin 13) (s : State) :
    Keeps.Out 0x45779A66D556A1403FC3EFFC s (execFunctionReinitialise ch tag fn s) := by
  refine Keeps.out_next (hostAction_keeps' _ _ _ _ _ (by decide) (by decide +kernel +revert)
    (site_2110 (maskLe_refl _) (by decide)) (fun t g a => ?_))
  rw [do_function_reinitialise]
  exact State.functionCommand_keeps _ _  (by decide) (Keeps.refl _ _)

theorem execFunctionDisable_keeps (ch : Channel) (tag : BitVec 16) (fn : Fin 13) (s : State) :
    Keeps.Out 0x45779A66D556A1403FC3EFFC s (execFunctionDisable ch tag fn s) := by
  refine Keeps.out_next (hostAction_keeps' _ _ _ _ _ (by decide) (by decide +kernel +revert)
    (site_2110 (maskLe_refl _) (by decide)) (fun t g a => ?_))
  rw [do_function_reinitialise]
  exact State.functionCommand_keeps _ _  (by decide) (Keeps.refl _ _)

theorem execFunctionDisableHard_keeps (ch : Channel) (tag : BitVec 16) (fn : Fin 13) (s : State) :
    Keeps.Out 0x45779A66D556A1403FC3EFFC s (execFunctionDisableHard ch tag fn s) := by
  refine Keeps.out_next (hostAction_keeps' _ _ _ _ _ (by decide) (by decide +kernel +revert)
    (site_2110 (maskLe_refl _) (by decide)) (fun t g a => ?_))
  rw [do_function_reinitialise]
  exact State.functionCommand_keeps _ _  (by decide) (Keeps.refl _ _)

theorem execFunctionEnable_keeps (ch : Channel) (tag : BitVec 16) (fn : Fin 13) (s : State) :
    Keeps.Out 0x45779A66D556A1403FC3EFFC s (execFunctionEnable ch tag fn s) := by
  refine Keeps.out_next (hostAction_keeps' _ _ _ _ _ (by decide) (by decide +kernel +revert)
    (site_2110 (maskLe_refl _) (by decide)) (fun t g a => ?_))
  rw [do_function_reinitialise]
  exact State.functionCommand_keeps _ _  (by decide) (Keeps.refl _ _)

theorem execPowerCycleRequest_keeps (ch : Channel) (tag : BitVec 16) (ms : BitVec 16) (s : State) :
    Keeps.Out 0x8062D116810006436438 s (execPowerCycleRequest ch tag ms s) := by
  refine Keeps.out_next (hostAction_keeps' _ _ _ _ _ (by decide) (by decide +kernel +revert)
    (site_2110 (maskLe_refl _) (by decide)) (fun t g a => ?_))
  rw [do_power_cycle_request]
  exact State.powerCycle_keeps _  (by decide) (Keeps.refl _ _)

theorem execRelayCommandImmediate_keeps (ch : Channel) (tag : BitVec 16) (relay : Fin 4) (closed : Bool) (s : State) :
    Keeps.Out 0x100000000010020 s (execRelayCommandImmediate ch tag relay closed s) := by
  refine Keeps.out_next (hostAction_keeps' _ _ _ _ _ (by decide) (by decide +kernel +revert)
    (site_2600 (maskLe_refl _) (by decide)) (fun t g a => ?_))
  rw [do_relay_command_immediate]
  exact State.relayCommand_keeps _  (by decide) (Keeps.refl _ _)

theorem execRelayCommandAtBearing_keeps (ch : Channel) (tag : BitVec 16) (relay : Fin 4) (closed : Bool) (s : State) :
    Keeps.Out 0x100000000010020 s (execRelayCommandAtBearing ch tag relay closed s) := by
  refine Keeps.out_next (hostAction_keeps' _ _ _ _ _ (by decide) (by decide +kernel +revert)
    (site_2600 (maskLe_refl _) (by decide)) (fun t g a => ?_))
  rw [do_relay_command_immediate]
  exact State.relayCommand_keeps _  (by decide) (Keeps.refl _ _)

theorem execTripClear_keeps (ch : Channel) (tag : BitVec 16) (phases : BitVec 12) (s : State) :
    Keeps.Out 0x800000000020020 s (execTripClear ch tag phases s) := by
  refine Keeps.out_next (hostAction_keeps' _ _ _ _ _ (by decide) (by decide +kernel +revert)
    (site_2630 (maskLe_refl _) (by decide)) (fun t g a => ?_))
  rw [do_trip_clear]
  exact State.clearTrips_keeps _  (by decide) (Keeps.refl _ _)

theorem execProfileStart_keeps (ch : Channel) (r : RailId) (tag : BitVec 16) (s : State) :
    Keeps.Out 0x8062D116810006436028 s (execProfileStart ch r tag s) := by
  refine Keeps.out_next (hostAction_keeps' _ _ _ _ _ (by decide) (by decide +kernel +revert)
    (siteIn_rail r _ (by decide) (by decide)) (fun t g a => ?_))
  rw [do_profile_start]
  exact State.profileCommand_keeps _ _  (by decide) (Keeps.refl _ _)

theorem execProfileAbort_keeps (ch : Channel) (r : RailId) (tag : BitVec 16) (s : State) :
    Keeps.Out 0x8062D116810006436028 s (execProfileAbort ch r tag s) := by
  refine Keeps.out_next (hostAction_keeps' _ _ _ _ _ (by decide) (by decide +kernel +revert)
    (siteIn_rail r _ (by decide) (by decide)) (fun t g a => ?_))
  rw [do_profile_start]
  exact State.profileCommand_keeps _ _  (by decide) (Keeps.refl _ _)

theorem execReturnToPrimary_keeps (ch : Channel) (k : SlotId) (tag : BitVec 16) (s : State) :
    Keeps.Out 0x40002400002800000800038 s (execReturnToPrimary ch k tag s) := by
  refine Keeps.out_next (hostAction_keeps' _ _ _ _ _ (by decide) (by decide +kernel +revert)
    (site_slotIx _ (maskLe_refl _) (by decide)) (fun t g a => ?_))
  rw [do_return_to_primary]
  exact State.returnToPrimary_keeps _  (by decide) (Keeps.refl _ _)

theorem execContourCommit_keeps (ch : Channel) (k : SlotId) (safe : Bool) (tag : BitVec 16) (s : State) :
    Keeps.Out 0x1800000000001000022 s (execContourCommit ch k safe tag s) := by
  refine Keeps.out_next (hostAction_keeps' _ _ _ _ _ (by decide) (by decide +kernel +revert)
    (site_contour k safe) (fun t g a => ?_))
  rw [do_contour_commit]
  exact State.commitTable_keeps _ _  (by decide) (Keeps.refl _ _)

theorem execReliefCommit_keeps (ch : Channel) (t : Fin 16) (tag : BitVec 16) (s : State) :
    Keeps.Out 0x4000000000001000022 s (execReliefCommit ch t tag s) := by
  refine Keeps.out_next (hostAction_keeps' _ _ _ _ _ (by decide) (by decide +kernel +revert)
    (siteIn_group (group_slotIx t 4 (by decide)) (by decide)) (fun t g a => ?_))
  rw [do_relief_commit]
  exact State.commitTable_keeps _ _  (by decide) (Keeps.refl _ _)

theorem execCalibrationStore_keeps (ch : Channel) (tag : BitVec 16)  (s : State) :
    Keeps.Out 0x1000000000000000008020 s (execCalibrationStore ch tag  s) := by
  refine Keeps.out_next (hostAction_keeps' _ _ _ _ _ (by decide) (by decide +kernel +revert)
    (site_5000 (maskLe_refl _) (by decide)) (fun t g a => ?_))
  rw [do_calibration_store]
  exact State.storeCalibration_keeps _ _  (by decide) (Keeps.refl _ _)

theorem execTotalsSaveNow_keeps (ch : Channel) (tag : BitVec 16)  (s : State) :
    Keeps.Out 0x20000000000000010000020 s (execTotalsSaveNow ch tag  s) := by
  refine Keeps.out_next (hostAction_keeps' _ _ _ _ _ (by decide) (by decide +kernel +revert)
    (site_5070 (maskLe_refl _) (by decide)) (fun t g a => ?_))
  rw [do_totals_save_now]
  exact State.requestSave_keeps _  (by decide) (Keeps.refl _ _)

theorem execTotalsReset_keeps (ch : Channel) (tag : BitVec 16)  (s : State) :
    Keeps.Out 0x2408062D116810016436028 s (execTotalsReset ch tag  s) := by
  refine Keeps.out_next (hostAction_keeps' _ _ _ _ _ (by decide) (by decide +kernel +revert)
    (site_5070 (maskLe_refl _) (by decide)) (fun t g a => ?_))
  rw [do_totals_reset]
  exact State.resetTotals_keeps  (by decide) (Keeps.refl _ _)

theorem execDcEnergyReset_keeps (ch : Channel) (r : RailId) (tag : BitVec 16) (s : State) :
    Keeps.Out 0x100000000010000020 s (execDcEnergyReset ch r tag s) := by
  refine Keeps.out_next (hostAction_keeps' _ _ _ _ _ (by decide) (by decide +kernel +revert)
    (siteIn_rail r _ (by decide) (by decide)) (fun t g a => ?_))
  rw [do_dc_energy_reset]
  exact State.resetDcEnergy_keeps _  (by decide) (Keeps.refl _ _)

theorem execSupplyQualityClearCounts_keeps (ch : Channel) (tag : BitVec 16)  (s : State) :
    Keeps.Out 0x10000000000000000000020 s (execSupplyQualityClearCounts ch tag  s) := by
  refine Keeps.out_next (hostAction_keeps' _ _ _ _ _ (by decide) (by decide +kernel +revert)
    (site_5068 (maskLe_refl _) (by decide)) (fun t g a => ?_))
  rw [do_supply_quality_clear_counts]
  exact State.clearCounts_keeps  (by decide) (Keeps.refl _ _)

theorem execEventClear_keeps (ch : Channel) (tag : BitVec 16) (event : Fin 640) (s : State) :
    Keeps.Out 0x800000000028 s (execEventClear ch tag event s) := by
  refine Keeps.out_next (hostAction_keeps' _ _ _ _ _ (by decide) (by decide +kernel +revert)
    (site_2300 (maskLe_refl _) (by decide)) (fun t g a => ?_))
  rw [do_event_clear]
  exact State.clearEvents_keeps _  (by decide) (Keeps.refl _ _)

theorem execEventClearAll_keeps (ch : Channel) (tag : BitVec 16)  (s : State) :
    Keeps.Out 0x800000000028 s (execEventClearAll ch tag  s) := by
  refine Keeps.out_next (hostAction_keeps' _ _ _ _ _ (by decide) (by decide +kernel +revert)
    (site_2300 (maskLe_refl _) (by decide)) (fun t g a => ?_))
  rw [do_event_clear]
  exact State.clearEvents_keeps _  (by decide) (Keeps.refl _ _)

theorem execAcknowledge_keeps (ch : Channel) (tag : BitVec 16)  (s : State) :
    Keeps.Out 0x4000000000028000000000A0 s (execAcknowledge ch tag  s) := by
  refine Keeps.out_next (hostAction_keeps' _ _ _ _ _ (by decide) (by decide +kernel +revert)
    (site_2300 (maskLe_refl _) (by decide)) (fun t g a => ?_))
  rw [do_acknowledge]
  exact State.acknowledgeAll_keeps  (by decide) (Keeps.refl _ _)

theorem execInterruptClear_keeps (ch : Channel) (tag : BitVec 16) (flags : BitVec 4) (s : State) :
    Keeps.Out 0x2000000000020 s (execInterruptClear ch tag flags s) := by
  refine Keeps.out_next (hostAction_keeps' _ _ _ _ _ (by decide) (by decide +kernel +revert)
    (site_2320 (maskLe_refl _) (by decide)) (fun t g a => ?_))
  rw [do_interrupt_clear]
  exact State.clearInterrupts_keeps _  (by decide) (Keeps.refl _ _)

theorem execOutlineEnter_keeps (ch : Channel) (tag : BitVec 16)  (s : State) :
    Keeps.Out 0x4008262D116810007C36038 s (execOutlineEnter ch tag  s) := by
  refine Keeps.out_next (hostAction_keeps' _ _ _ _ _ (by decide) (by decide +kernel +revert)
    (site_2300 (maskLe_refl _) (by decide)) (fun t g a => ?_))
  rw [do_outline_enter]
  exact State.outlineCommand_keeps _  (by decide) (Keeps.refl _ _)

theorem execOutlineLeave_keeps (ch : Channel) (tag : BitVec 16)  (s : State) :
    Keeps.Out 0x4008262D116810007C36038 s (execOutlineLeave ch tag  s) := by
  refine Keeps.out_next (hostAction_keeps' _ _ _ _ _ (by decide) (by decide +kernel +revert)
    (site_2300 (maskLe_refl _) (by decide)) (fun t g a => ?_))
  rw [do_outline_enter]
  exact State.outlineCommand_keeps _  (by decide) (Keeps.refl _ _)

theorem execOutlineSetCommit_keeps (ch : Channel) (tag : BitVec 16)  (s : State) :
    Keeps.Out 0x8000000008020 s (execOutlineSetCommit ch tag  s) := by
  refine Keeps.out_next (hostAction_keeps' _ _ _ _ _ (by decide) (by decide +kernel +revert)
    (site_2340 (maskLe_refl _) (by decide)) (fun t g a => ?_))
  rw [do_outline_set_commit]
  exact State.commitOutline_keeps _ _  (by decide) (Keeps.refl _ _)

theorem execLogErase_keeps (ch : Channel) (tag : BitVec 16) (scope : Fin 3) (s : State) :
    Keeps.Out 0x44008062D1568101264361B8 s (execLogErase ch tag scope s) := by
  refine Keeps.out_next (hostAction_keeps' _ _ _ _ _ (by decide) (by decide +kernel +revert)
    (site_5800 (maskLe_refl _) (by decide)) (fun t g a => ?_))
  rw [do_log_erase]
  exact State.eraseLog_keeps _  (by decide) (Keeps.refl _ _)

theorem execSessionChallenge_keeps (ch : Channel) (tag : BitVec 16) (level : BitVec 16) (s : State) :
    Keeps.Out 0x8062D15681480643E138 s (execSessionChallenge ch tag level s) := by
  refine Keeps.out_next (hostAction_keeps' _ _ _ _ _ (by decide) (by decide +kernel +revert)
    (site_2020 (maskLe_refl _) (by decide)) (fun t g a => ?_))
  rw [do_session_challenge]
  exact State.challenge_keeps _ _  (by decide) (Keeps.refl _ _)

theorem execSessionClose_keeps (ch : Channel) (tag : BitVec 16)  (s : State) :
    Keeps.Out 0x8062D15681480643E138 s (execSessionClose ch tag  s) := by
  refine Keeps.out_next (hostAction_keeps' _ _ _ _ _ (by decide) (by decide +kernel +revert)
    (site_2020 (maskLe_refl _) (by decide)) (fun t g a => ?_))
  rw [do_session_close]
  exact State.endSession_keeps _ _  (by decide) (Keeps.refl _ _)

theorem execAccessMapCommit_keeps (ch : Channel) (tag : BitVec 16)  (s : State) :
    Keeps.Out 0x1000008020 s (execAccessMapCommit ch tag  s) := by
  refine Keeps.out_next (hostAction_keeps' _ _ _ _ _ (by decide) (by decide +kernel +revert)
    (site_2028 (maskLe_refl _) (by decide)) (fun t g a => ?_))
  rw [do_access_map_commit]
  exact State.commitMap_keeps _ _  (by decide) (Keeps.refl _ _)

theorem execLifecycleToOemBuild_keeps (ch : Channel) (tag : BitVec 16)  (s : State) :
    Keeps.Out 0x45408072D15699213643F3BB s (execLifecycleToOemBuild ch tag  s) := by
  refine Keeps.out_next (hostAction_keeps' _ _ _ _ _ (by decide) (by decide +kernel +revert)
    (site_2030 (maskLe_refl _) (by decide)) (fun t g a => ?_))
  rw [do_lifecycle_to_oem_build]
  exact State.lifecycleTo_keeps _  (by decide) (Keeps.refl _ _)

theorem execLifecycleToField_keeps (ch : Channel) (tag : BitVec 16)  (s : State) :
    Keeps.Out 0x45408072D15699213643F3BB s (execLifecycleToField ch tag  s) := by
  refine Keeps.out_next (hostAction_keeps' _ _ _ _ _ (by decide) (by decide +kernel +revert)
    (site_2030 (maskLe_refl _) (by decide)) (fun t g a => ?_))
  rw [do_lifecycle_to_oem_build]
  exact State.lifecycleTo_keeps _  (by decide) (Keeps.refl _ _)

theorem execLifecycleToService_keeps (ch : Channel) (tag : BitVec 16)  (s : State) :
    Keeps.Out 0x45408072D15699213643F3BB s (execLifecycleToService ch tag  s) := by
  refine Keeps.out_next (hostAction_keeps' _ _ _ _ _ (by decide) (by decide +kernel +revert)
    (site_2030 (maskLe_refl _) (by decide)) (fun t g a => ?_))
  rw [do_lifecycle_to_oem_build]
  exact State.lifecycleTo_keeps _  (by decide) (Keeps.refl _ _)

theorem execLifecycleToRetired_keeps (ch : Channel) (tag : BitVec 16)  (s : State) :
    Keeps.Out 0x45408072D15699213643F3BB s (execLifecycleToRetired ch tag  s) := by
  refine Keeps.out_next (hostAction_keeps' _ _ _ _ _ (by decide) (by decide +kernel +revert)
    (site_2030 (maskLe_refl _) (by decide)) (fun t g a => ?_))
  rw [do_lifecycle_to_oem_build]
  exact State.lifecycleTo_keeps _  (by decide) (Keeps.refl _ _)

theorem execActivateBank_keeps (ch : Channel) (tag : BitVec 16) (bankB : Bool) (s : State) :
    Keeps.Out 0x500000000028040140082B8 s (execActivateBank ch tag bankB s) := by
  refine Keeps.out_next (hostAction_keeps' _ _ _ _ _ (by decide) (by decide +kernel +revert)
    (site_2040 (maskLe_refl _) (by decide)) (fun t g a => ?_))
  rw [do_activate_bank]
  exact State.activateBank_keeps _  (by decide) (Keeps.refl _ _)

theorem execConfirmBank_keeps (ch : Channel) (tag : BitVec 16)  (s : State) :
    Keeps.Out 0x4000000020 s (execConfirmBank ch tag  s) := by
  refine Keeps.out_next (hostAction_keeps' _ _ _ _ _ (by decide) (by decide +kernel +revert)
    (site_2040 (maskLe_refl _) (by decide)) (fun t g a => ?_))
  rw [do_confirm_bank]
  exact State.confirmBank_keeps  (by decide) (Keeps.refl _ _)

theorem execStoreParameters_keeps (ch : Channel) (area : Fin 3) (s : State) :
    Keeps.Out 0x8020 s (execStoreParameters ch area s) := by
  have h3 : ((findRow 0x1010 (area.val + 1)).all fun (r : ObjRow) => r.ty.numeric) = true := by decide +kernel +revert
  have h1 : isAction 0x1010 (area.val + 1) = false := by decide +kernel +revert
  refine Keeps.out_next (hostWrite_keeps' _ _ _ _ (by decide) ?_)
  unfold State.writeObj
  split
  · exact Keeps.refl _ _
  · next row hr =>
    rw [hr] at h3
    have h3 : row.ty.numeric = true := h3
    simp only [h1, Bool.false_and, Bool.false_eq_true, if_false]
    split
    · exact Keeps.refl _ _
    · have k : ∀ v, Keeps 0x8020 s (s.writeNumber ch 0x1010 (area.val + 1) v).1 := by
        intro v
        unfold State.writeNumber
        split
        · exact Keeps.refl _ _
        · exact State.startStore_keeps _ _ _ (by decide) (Keeps.refl _ _)
      unfold State.writeValue
      dsimp only
      rw [if_pos h3]
      split
      · exact k _
      · exact State.touch_keeps _ (by decide) (k _)

theorem execRestoreDefaults_keeps (ch : Channel) (area : Fin 3) (s : State) :
    Keeps.Out 0x8020 s (execRestoreDefaults ch area s) := by
  have h3 : ((findRow 0x1011 (area.val + 1)).all fun (r : ObjRow) => r.ty.numeric) = true := by decide +kernel +revert
  have h1 : isAction 0x1011 (area.val + 1) = false := by decide +kernel +revert
  refine Keeps.out_next (hostWrite_keeps' _ _ _ _ (by decide) ?_)
  unfold State.writeObj
  split
  · exact Keeps.refl _ _
  · next row hr =>
    rw [hr] at h3
    have h3 : row.ty.numeric = true := h3
    simp only [h1, Bool.false_and, Bool.false_eq_true, if_false]
    split
    · exact Keeps.refl _ _
    · have k : ∀ v, Keeps 0x8020 s (s.writeNumber ch 0x1011 (area.val + 1) v).1 := by
        intro v
        unfold State.writeNumber
        split
        · exact Keeps.refl _ _
        · exact State.startStore_keeps _ _ _ (by decide) (Keeps.refl _ _)
      unfold State.writeValue
      dsimp only
      rw [if_pos h3]
      split
      · exact k _
      · exact State.touch_keeps _ (by decide) (k _)

theorem execSessionResponse_keeps (ch : Channel) (m : List Byte) (s : State) :
    Keeps.Out 0x8062D116810006436028 s (execSessionResponse ch m s) :=
  Keeps.out_next (hostWrite_text_keeps _ _ _ _ (by decide) (by decide) (by decide +kernel)
    (fun d => State.takeResponse_keeps ch d (by decide) (Keeps.refl _ _)))

theorem execKeyWrite_keeps (ch : Channel) (oem : Bool) (key : List Byte) (s : State) :
    Keeps.Out 0x8020 s (execKeyWrite ch oem key s) := by
  cases oem
  all_goals
    refine Keeps.out_next (hostWrite_text_keeps _ _ _ _ (by decide) (by decide) (by decide +kernel) (fun d => ?_))
    unfold State.writeText
    (repeat' split) <;> first
      | exact Keeps.refl _ _
      | exact State.writeKey_keeps _ _ _ (by decide) (Keeps.refl _ _)
      | (exfalso; omega)

theorem execFirmwareDownload_keeps (ch : Channel) (data : List Byte) (first last : Bool) (s : State) :
    Keeps.Out 0x8062D11681400643E028 s (execFirmwareDownload ch data first last s) :=
  Keeps.out_next (State.hostSegment_keeps _ _ _ _ (by decide) (Keeps.refl _ _))

theorem execObjectWrite_keeps (ch : Channel) (ix : BitVec 16) (sub : BitVec 8) (data : List Byte) (s : State) :
    Keeps.Out 0x557F9A76F556FBE13FD3FFFF s (execObjectWrite ch ix sub data s) :=
  Keeps.out_next (State.hostWrite_keeps _ _ _ _ (by decide) (Keeps.refl _ _))

end Sys2Proof.Machine
end

