-- ==== Sys2Proof/Laws/Frame.lean ====
section
/-! SUPPORT. From what an operation keeps to the extent a statement names. -/

namespace Sys2Proof.Machine

/-- Every part of the state. -/
def partList : List StatePart :=
  [.dom, .stale, .fabric, .recorder, .clients, .avs, .can, .gsp, .life, .supply, .clocks, .rtc, .safety, .outline, .flash,
   .meridian, .phases, .adcs, .vsense, .aux, .auxSequence, .rails, .slots, .engine, .drive, .ring, .metrology, .energy,
   .freeCount, .pending]

/-- The extent allows whatever an operation with the mask changes. -/
def allows (e : Extent) (W : Nat) : Bool :=
  (e.every || !W.testBit 0) && (partList.all fun p => !W.testBit p.bit || e.parts.contains p)
    && (e.every || (!W.testBit 31 && groupList.all fun g => !bitIn W g || e.groups.contains g))

theorem mem_partList (p : StatePart) : p ∈ partList := by cases p <;> decide

theorem groupBit_spec (l : List Nat) (g n : Nat) : groupBit l g n = 31 ∨ g ∈ l := by
  induction l generalizing n with
  | nil => exact .inl rfl
  | cons h rest ih =>
    unfold groupBit
    split
    · next e => subst e; exact .inr (List.mem_cons_self ..)
    · rcases ih (n + 1) with h1 | h1
      · exact .inl h1
      · exact .inr (List.mem_cons_of_mem _ h1)

theorem Keeps.within {W : Nat} {e : Extent} {s t : State} (h : Keeps W s t) (hc : Safety.canonical s = true)
    (ha : allows e W = true) : Safety.within e s t := by
  unfold allows at ha
  simp only [Bool.and_eq_true, Bool.or_eq_true, Bool.not_eq_true', List.all_eq_true, List.contains_eq_mem,
    decide_eq_true_eq] at ha
  obtain ⟨⟨h0, hp⟩, hg⟩ := ha
  refine ⟨fun p hn => h.parts p ?_, fun he ix sub hn => ?_⟩
  · rcases hp p (mem_partList p) with h1 | h1
    · exact h1
    · exact absurd h1 hn
  · rw [he] at h0 hg
    have h0 := h0.resolve_left Bool.false_ne_true
    obtain ⟨h31, hg⟩ := hg.resolve_left Bool.false_ne_true
    refine h.objs hc (objKey ix sub) ?_
    rw [objKey_div]
    unfold siteIn
    rw [h0, Bool.false_or]
    show W.testBit (groupBit groupList (Safety.group ix) 32) = false
    rcases groupBit_spec groupList (Safety.group ix) 32 with h1 | h1
    · rw [h1, h31]
    · rcases hg _ h1 with h2 | h2
      · exact h2
      · exact absurd h2 hn

end Sys2Proof.Machine
end

