-- ==== Sys2Proof/Laws/Effects.lean ====
section
/-! SUPPORT. What the shared operations do: an object written, an event raised, rails soft-stopped. -/

namespace Sys2Proof.Machine

/-! ### Objects -/

theorem cellsAscend_od {s : State} (h : Safety.canonical s = true) : cellsAscend s.od = true := by
  simp only [Safety.canonical, odWf, Bool.and_eq_true] at h
  exact h.1.1.1

theorem obj_putObj {s : State} (ix sub : Nat) (v : Int) (h : Safety.canonical s = true) :
    (s.putObj ix sub v).obj ix sub = v :=
  odGet_put _ _ _ (cellsAscend_od h)

theorem obj_putObj_ne {s : State} {ix sub ix' sub' : Nat} (v : Int) (h : Safety.canonical s = true)
    (n : objKey ix' sub' ≠ objKey ix sub) : (s.putObj ix sub v).obj ix' sub' = s.obj ix' sub' :=
  odGet_put_ne _ _ _ _ n (cellsAscend_od h)

theorem canonical_putObj {s : State} (ix sub : Nat) (v : Int) (h : Safety.canonical s = true) :
    Safety.canonical (s.putObj ix sub v) = true :=
  (State.putObj_keeps (W := 1) (x := s) ix sub v rfl (Keeps.refl _ _)).canonical h

/-- Objects outside what an operation changes. -/
theorem Keeps.obj {W : Nat} {s t : State} (h : Keeps W s t) (hc : Safety.canonical s = true) {ix : Nat} (sub : Nat)
    (hi : siteIn W ix = false) : t.obj ix sub = s.obj ix sub := by
  refine h.objs hc (objKey ix sub) ?_
  rw [objKey_div]
  exact hi

/-! ### Raising (R460, R463) -/

theorem uncleared_congr {s t : State} (e : Nat) (h : t.fabric = s.fabric) :
    Safety.uncleared t e = Safety.uncleared s e := by
  unfold Safety.uncleared
  rw [h]

theorem uncleared_some {s : State} {e : Nat} {u : Uncleared} (h : s.uncleared e = some u) :
    Safety.uncleared s e = true := by
  unfold Safety.uncleared
  rw [List.any_eq_true]
  unfold State.uncleared at h
  exact ⟨u, List.mem_of_find?_eq_some h, (List.find?_eq_some_iff_append.1 h).1⟩

theorem uncleared_none {s : State} {e : Nat} (h : Safety.uncleared s e = false) : s.uncleared e = none := by
  unfold State.uncleared
  rw [List.find?_eq_none]
  intro u hu hh
  unfold Safety.uncleared at h
  rw [List.any_eq_false] at h
  exact h u hu hh

theorem enqueue_uncleared (s : State) (o : Occurrence) : (s.enqueue o).fabric.uncleared = s.fabric.uncleared := by
  unfold State.enqueue
  dsimp only
  split
  · split <;> rfl
  · split <;> rfl

theorem riseResponses_fabric (s : State) (e resp : Nat) : (s.riseResponses e resp).fabric = s.fabric :=
  (State.riseResponses_keeps e resp (maskLe_refl _) (Keeps.refl _ s)).parts .fabric rfl

theorem interrupt_fabric (s : State) (n : Nat) : (s.interrupt n).fabric = s.fabric := rfl

theorem ite_fabric (s : State) (c : Prop) [Decidable c] (n : Nat) :
    (if c then s.interrupt n else s).fabric = s.fabric := by
  split <;> rfl

/-- A raising leaves every other uncleared event as it is. -/
theorem raiseCore_uncleared_other {s : State} (e e' data : Nat) (r : Bool) (n : e' ≠ e) :
    Safety.uncleared (s.raiseCore e data r) e' = Safety.uncleared s e' := by
  unfold State.raiseCore
  split
  · rfl
  · split
    · rfl
    · dsimp only
      split
      · rfl
      · split
        · exact uncleared_congr _ (ite_fabric _ _ _)
        · unfold Safety.uncleared
          rw [enqueue_uncleared, riseResponses_fabric]
          show ((List.filter _ _ ++ [_]) : List Uncleared).any _ = _
          rw [List.any_append, ite_fabric]
          have h2 : ∀ (a : Bool) (b : Nat) (c : Bool) (d : Nat),
              ([(⟨e, a, b, c, d⟩ : Uncleared)].any fun (u : Uncleared) => u.ev == e') = false := by
            intro a b c d
            simp only [List.any_cons, List.any_nil, Bool.or_false, beq_eq_false_iff_ne]
            exact Ne.symm n
          rw [h2, Bool.or_false, List.any_filter]
          show (s.fabric.uncleared.any fun w => (w.ev != e && w.ev == e')) = _
          congr 1
          funext w
          cases hw : (w.ev == e')
          · exact Bool.and_false _
          · rw [beq_iff_eq] at hw
            rw [Bool.and_true, bne_iff_ne, hw]
            exact n

/-- A raising with a response leaves the event uncleared. -/
theorem raiseCore_uncleared {s : State} {e : Nat} {i : EventInfo} (data : Nat) (r : Bool) (hi : eventInfo e = some i)
    (hk : i.kind ≠ .trigger) (hr : s.responseOf e ≠ 0) : Safety.uncleared (s.raiseCore e data r) e = true := by
  unfold State.raiseCore
  rw [hi]
  dsimp only
  rw [if_neg hk]
  split
  · next h =>
    obtain ⟨_, h⟩ := h
    unfold Safety.uncleared
    rw [List.any_eq_true] at h ⊢
    obtain ⟨u, hu, h⟩ := h
    rw [Bool.and_eq_true] at h
    exact ⟨u, hu, h.1⟩
  · split
    all_goals
      first
      | rw [if_neg hr]
      | skip
      unfold Safety.uncleared
      rw [enqueue_uncleared, riseResponses_fabric]
      show ((List.filter _ _ ++ [_]) : List Uncleared).any _ = _
      rw [List.any_append, Bool.or_eq_true]
      right
      simp only [List.any_cons, List.any_nil, Bool.or_false, beq_self_eq_true]

/-- A raising never clears an event. -/
theorem raiseCore_uncleared_mono {s : State} (e e' data : Nat) (r : Bool) (h : Safety.uncleared s e' = true) :
    Safety.uncleared (s.raiseCore e data r) e' = true := by
  rcases Decidable.em (e' = e) with he | he
  · subst he
    unfold State.raiseCore
    split
    · exact h
    · split
      · exact h
      · dsimp only
        split
        · exact h
        · split
          · rw [← h]
            exact uncleared_congr _ (ite_fabric _ _ _)
          · unfold Safety.uncleared
            rw [enqueue_uncleared, riseResponses_fabric]
            show ((List.filter _ _ ++ [_]) : List Uncleared).any _ = _
            rw [List.any_append, Bool.or_eq_true]
            right
            simp only [List.any_cons, List.any_nil, Bool.or_false, beq_self_eq_true]
  · rw [raiseCore_uncleared_other _ _ _ _ he]
    exact h

theorem foldl_uncleared {α : Type} (f : State → α → State) (l : List α) {s : State} {e : Nat}
    (hf : ∀ s a, Safety.uncleared s e = true → Safety.uncleared (f s a) e = true) (h : Safety.uncleared s e = true) :
    Safety.uncleared (l.foldl f s) e = true := by
  induction l generalizing s with
  | nil => exact h
  | cons a l ih => exact ih (hf s a h)

theorem softStop_fabric (s : State) (r : RailId) (c : Nat) : (s.softStop r c).fabric = s.fabric :=
  (State.softStop_keeps r c (maskLe_refl _) (Keeps.refl _ s)).parts .fabric rfl

theorem hardStop_fabric (s : State) (r : RailId) (c : Nat) : (s.hardStop r c).fabric = s.fabric :=
  (State.hardStop_keeps r c (maskLe_refl _) (Keeps.refl _ s)).parts .fabric rfl

theorem leaveRing_fabric (s : State) (n : Nat) : (s.leaveRing n).fabric = s.fabric :=
  (State.leaveRing_keeps n (maskLe_refl _) (Keeps.refl _ s)).parts .fabric rfl

theorem startTurning_fabric (s : State) : (s.startTurning).fabric = s.fabric :=
  (State.startTurning_keeps (maskLe_refl _) (Keeps.refl _ s)).parts .fabric rfl

theorem safePath_fabric (s : State) : (s.safePath).fabric = s.fabric :=
  (State.safePath_keeps (maskLe_refl _) (Keeps.refl _ s)).parts .fabric rfl

theorem enterOutline_uncleared {s : State} (c : Nat) {e : Nat} (h : Safety.uncleared s e = true) :
    Safety.uncleared (s.enterOutline c) e = true := by
  unfold State.enterOutline
  dsimp only
  split
  · exact h
  · refine raiseCore_uncleared_mono _ _ _ _ ?_
    rw [uncleared_congr _ (startTurning_fabric _), uncleared_congr _ (leaveRing_fabric _ _)]
    have k : ∀ s : State, Safety.uncleared s e = true →
        Safety.uncleared (if s.obj 0x3800 1 == 1 then s.putObj 0x3800 1 0 else s) e = true := by
      intro s h
      split
      · exact h
      · exact h
    refine k _ (foldl_uncleared _ _ (fun t r ht => ?_) h)
    show Safety.uncleared (State.putRailObj _ _ _ _ _) e = true
    refine Eq.trans (uncleared_congr (s := t) _ ?_) ht
    show State.fabric (if _ then _ else _) = _
    split
    · exact hardStop_fabric _ _ _
    · exact hardStop_fabric _ _ _

theorem respond_uncleared {s : State} (a resp : Nat) (acts : List RailId) {e : Nat}
    (h : Safety.uncleared s e = true) : Safety.uncleared (s.respond a resp acts) e = true := by
  unfold State.respond
  split
  · refine foldl_uncleared _ _ (fun t r ht => ?_) h
    split
    · rw [← ht]
      exact uncleared_congr _ (softStop_fabric t r 5)
    · exact ht
  · refine foldl_uncleared _ _ (fun t r ht => ?_) h
    split
    · rw [← ht]
      exact uncleared_congr _ (hardStop_fabric t r _)
    · exact ht
  · exact enterOutline_uncleared _ h
  · rw [uncleared_congr _ (safePath_fabric _)]
    exact enterOutline_uncleared _ h
  · exact h

/-- A raising never clears an event. -/
theorem raise_uncleared_mono {s : State} (e e' data : Nat) (h : Safety.uncleared s e' = true) :
    Safety.uncleared (s.raise e data) e' = true := by
  unfold State.raise
  dsimp only
  split
  · exact respond_uncleared _ _ _ (raiseCore_uncleared_mono _ _ _ _ h)
  · exact raiseCore_uncleared_mono _ _ _ _ h

theorem raise_uncleared {s : State} {e : Nat} {i : EventInfo} (data : Nat) (hi : eventInfo e = some i)
    (hk : i.kind ≠ .trigger) (hr : s.responseOf e ≠ 0) : Safety.uncleared (s.raise e data) e = true := by
  unfold State.raise
  dsimp only
  split
  · exact respond_uncleared _ _ _ (raiseCore_uncleared _ _ hi hk hr)
  · exact raiseCore_uncleared _ _ hi hk hr

theorem eventInfo_beyond {e : Nat} (h : 640 ≤ e) : eventInfo e = none := by
  unfold eventInfo
  rw [if_neg (by omega), if_neg (by omega), if_neg (by omega), if_neg (by omega), if_neg (by omega), if_neg (by omega),
    if_neg (by omega), if_neg (by omega), if_neg (by omega)]

theorem severityOf_lt (e : Nat) : severityOf e < 6 := by
  rcases Nat.lt_or_ge e 640 with h | h
  · exact (by decide +kernel : ∀ e : Fin 640, severityOf e.val < 6) ⟨e, h⟩
  · unfold severityOf
    rw [eventInfo_beyond h]
    decide

theorem objKey_inj {ix sub sub' : Nat} (h : sub < 256) (h' : sub' < 256) (n : sub ≠ sub') :
    objKey ix sub ≠ objKey ix sub' := by
  unfold objKey
  omega

theorem obj_bump {s : State} (ix sub : Nat) (h : Safety.canonical s = true) :
    (s.bump ix sub).obj ix sub = countNext (objKey ix sub) (s.obj ix sub) := obj_putObj _ _ _ h

/-- A raising with the response NONE is counted, and nothing else becomes of it. -/
theorem raiseCore_none {s : State} {e : Nat} {i : EventInfo} (data : Nat) (hc : Safety.canonical s = true)
    (hi : eventInfo e = some i) (hk : i.kind ≠ .trigger) (hu : Safety.uncleared s e = false)
    (hr : s.responseEntry e % 16 = 0) :
    (s.raiseCore e data).fabric = s.fabric ∧ (s.raiseCore e data).obj 0x2320 (6 + severityOf e)
      = countNext (objKey 0x2320 (6 + severityOf e)) (s.obj 0x2320 (6 + severityOf e)) := by
  have h0 : s.responseOf e = 0 := by
    unfold State.responseOf
    rw [uncleared_none hu]
    exact hr
  have h1 : ¬(i.kind = .standing ∧ (s.fabric.uncleared.any fun u => u.ev == e && u.standing) = true) := by
    rintro ⟨_, h⟩
    unfold Safety.uncleared at hu
    rw [List.any_eq_true] at h
    rw [List.any_eq_false] at hu
    obtain ⟨u, hm, h⟩ := h
    rw [Bool.and_eq_true] at h
    exact hu u hm h.1
  have hs : i.sev = severityOf e := by
    unfold severityOf
    rw [hi]
  have hl := severityOf_lt e
  unfold State.raiseCore
  rw [hi]
  dsimp only
  rw [if_neg hk, if_neg h1, if_pos h0, hs]
  have k1 := canonical_putObj 0x2320 0x0D e hc
  have k2 := obj_putObj_ne (s := s) (ix := 0x2320) (sub := 0x0D) (ix' := 0x2320) (sub' := 6 + severityOf e) e hc
    (objKey_inj (by omega) (by omega) (by omega))
  split
  · refine ⟨rfl, ?_⟩
    have k3 : Safety.canonical ((s.putObj 0x2320 0x0D e).interrupt 0) = true := canonical_putObj _ _ _ k1
    rw [obj_bump _ _ k3]
    congr 1
    unfold State.interrupt State.putBit
    rw [obj_putObj_ne _ k1 (objKey_inj (by omega) (by omega) (by omega)), k2]
  · exact ⟨rfl, by rw [obj_bump _ _ k1, k2]⟩

/-- What a raising does at the least (R459, R463). -/
theorem raise_raised {s : State} {e : Nat} {i : EventInfo} (data : Nat) (hc : Safety.canonical s = true)
    (hi : eventInfo e = some i) (hk : i.kind ≠ .trigger) : Safety.raised e s (s.raise e data) := by
  refine ⟨raise_uncleared data hi hk, fun hu hr => ?_⟩
  obtain ⟨h1, h2⟩ := raiseCore_none data hc hi hk hu hr
  have h3 : Safety.uncleared (s.raiseCore e data) e = false := by rw [uncleared_congr _ h1, hu]
  have h4 : s.raise e data = s.raiseCore e data := by
    unfold State.raise
    dsimp only
    have h5 : ((s.raiseCore e data).fabric.uncleared.any fun u => u.ev == e) = false := h3
    rw [h5, Bool.and_false]
    rfl
  rw [h4]
  exact ⟨h3, h2⟩

/-- A raising after changes that reach neither the dictionary nor the fabric. -/
theorem Safety.raised_of {e : Nat} {s s' t : State} (h : Safety.raised e s' t) (h1 : s'.od = s.od)
    (h2 : s'.fabric = s.fabric) : Safety.raised e s t := by
  unfold Safety.raised State.responseOf State.responseEntry State.nat State.obj State.uncleared Safety.uncleared at *
  rw [h1, h2] at h
  exact h

/-! ### Every rail soft-stopped -/

theorem putRailObj_isOn {s : State} (r q : RailId) (v : Int) (h : Safety.canonical s = true) (hv : v ≠ 1) :
    (s.putRailObj r 0 3 v).isOn q = if q = r then false else s.isOn q := by
  unfold State.isOn State.putRailObj State.railObj
  split
  · next e =>
    subst e
    rw [obj_putObj _ _ _ h]
    exact beq_eq_false_iff_ne.2 hv
  · next e =>
    rw [obj_putObj_ne _ h]
    unfold objKey railIx
    intro k
    exact e (Fin.ext (by omega))

theorem softStop_isOn {s : State} (r q : RailId) (c : Nat) (h : Safety.canonical s = true) :
    (s.softStop r c).isOn q = s.isOn q := by
  unfold State.isOn State.railObj
  rw [(State.softStop_keeps r c (maskLe_refl _) (Keeps.refl _ s)).obj h 3
    ((by decide : ∀ q : RailId, siteIn 0x24000000002400000 (railIx q 0) = false) q)]

/-- After a soft stop of every enabled rail no rail is enabled. -/
theorem softStopAll_isOn {s : State} (c : Nat) (q : RailId) (h : Safety.canonical s = true) :
    (s.softStopAll c).isOn q = false := by
  have key : ∀ (l : List RailId) (s : State), Safety.canonical s = true → (q ∈ l ∨ s.isOn q = false) →
      (l.foldl (fun (s : State) (r : RailId) => if s.isOn r then (s.softStop r c).putRailObj r 0x00 3 0 else s) s).isOn q
        = false := by
    intro l
    induction l with
    | nil => intro s _ h; exact h.resolve_left (List.not_mem_nil)
    | cons r l ih =>
      intro s hc hq
      have hc' := (State.softStop_keeps r c (maskLe_refl _) (Keeps.refl _ s)).canonical hc
      refine ih _ ?_ ?_ <;> dsimp only
      · split
        · exact canonical_putObj _ _ _ hc'
        · exact hc
      · split
        · next ho =>
          rw [putRailObj_isOn _ _ _ hc' (by decide), softStop_isOn _ _ _ hc]
          rcases hq with hq | hq
          · rcases List.mem_cons.1 hq with e | e
            · exact .inr (if_pos e)
            · exact .inl e
          · exact .inr (by rw [hq]; exact ite_self _)
        · next ho =>
          rcases hq with hq | hq
          · rcases List.mem_cons.1 hq with e | e
            · subst e; exact .inr (by simpa using ho)
            · exact .inl e
          · exact .inr hq
  exact key railIds s h (.inl (List.mem_finRange _))

end Sys2Proof.Machine
end

