-- ==== Sys2Proof/WellFormed.lean ====
section
/-! DEFINITION. Which commands are well-formed: what the bus, the port or the converter that sends them can send. `exec`
does not rest on it: it gives every command a meaning. -/

namespace Sys2Proof

/-- The data of a classical CAN frame: at most 8 bytes. -/
def canFrame (l : List Byte) : Bool := Nat.ble l.length 8

/-- The data of an FD frame: at most 64 bytes (R45). -/
def fdFrame (l : List Byte) : Bool := Nat.ble l.length 64

/-- What stands between two delimiters has no zero byte (R547). -/
def gspBytes (l : List Byte) : Bool := l.all fun (b : Byte) => b != 0

/-- A USDO request whose data fits one FD frame. -/
def UsdoReq.wellFormed (r : UsdoReq) : Bool :=
  match r with
  | .download _ _ data => fdFrame data
  | .downloadOpen _ _ data => fdFrame data
  | .downloadSegment data _ => fdFrame data
  | .upload _ _ | .uploadSegment | .abort => true

/-- A well-formed command. -/
def Instr.wellFormed (i : Instr) : Bool :=
  match i with
  | .sdoDownloadInitiate frame => canFrame frame
  | .sdoDownloadSegment frame => canFrame frame
  | .sdoUploadInitiate frame => canFrame frame
  | .sdoUploadSegment frame => canFrame frame
  | .sdoAbortTransfer frame => canFrame frame
  | .usdoRequest _ _ req => req.wellFormed
  | .rpdoReceived _ data => fdFrame data
  | .surveyStart codes _ => codes.length == 16
  | .dewCheckComplete readings => Nat.ble readings.length 12
  | .mainsZeroCrossing period _ => Nat.blt 0 period
  | .windowErrorReady _ codes => !codes.isEmpty
  | .absoluteBlockComplete _ codes => !codes.isEmpty
  | .auxResult _ codes => !codes.isEmpty
  | .coherentSample _ dt => Nat.blt 0 dt
  | .gspRead frame => gspBytes frame
  | .gspWrite frame => gspBytes frame
  | .gspBlockRead frame => gspBytes frame
  | .gspBlockWrite frame => gspBytes frame
  | .gspSubscribe frame => gspBytes frame
  | .gspUnsubscribe frame => gspBytes frame
  | .gspPing frame => gspBytes frame
  | .objectWrite .. | .nmtStart .. | .nmtEnterPreOperational .. | .nmtStop .. | .nmtResetCommunication ..
  | .nmtResetNode .. | .heartbeatPeriodExpiry .. | .heartbeatReceived .. | .heartbeatTimeout .. | .canBusOff ..
  | .canBusRecovered .. | .canErrorPassive .. | .errorPassiveTimeout .. | .canRxOverrun .. | .sdoTransferTimeout ..
  | .syncReceived .. | .syncPeriodExpiry .. | .tpdoSyncWindowExpiry .. | .tpdoValueChange ..
  | .tpdoInhibitExpiry .. | .tpdoEventTimerExpiry .. | .timeReceived .. | .emcyInhibitExpiry ..
  | .errorHistoryClear .. | .storeParameters .. | .storeComplete .. | .restoreDefaults .. | .restoreComplete ..
  | .lssSwitchState .. | .lssConfigureNodeId .. | .lssConfigureBitTiming .. | .lssActivateBitTiming ..
  | .lssStoreConfiguration .. | .lssInquireIdentity .. | .lssFastscan .. | .crystalQualified ..
  | .crystalNotQualified .. | .crystalLoss .. | .pllLoss .. | .pllLockTimeout .. | .usbStartOfFrame ..
  | .vinRise .. | .vinFall .. | .vbusRise .. | .vbusFall .. | .vinRestoredTimer .. | .sleepWake .. | .resetPin ..
  | .resetEffect .. | .resetRelease .. | .selfTestComplete .. | .metrologySettled .. | .fullService ..
  | .dewCheckRepeat .. | .wetHoldOverride .. | .powerFailWarning .. | .powerFailFlushComplete ..
  | .powerFailWarningClear .. | .watchdogExpiry .. | .thermalReset .. | .thermalRelease ..
  | .junctionTemperatureHigh .. | .powerStateWrite .. | .standbyToIdle .. | .idleToRun .. | .runToIdle ..
  | .idleToStandby .. | .standbyToSleep .. | .standbyToOff .. | .vpwmLow .. | .vpwmRestored ..
  | .mainsCrossingTimeout .. | .flywheelTimeout .. | .basePeriodStart .. | .graticuleScan ..
  | .graticuleSupervisorAction .. | .graticuleEntryWrite .. | .relayCommandImmediate .. | .relayCommandAtBearing ..
  | .relayFeedbackTransition .. | .gpioModeWrite .. | .gpioLevelWrite .. | .phaseCurrentTrigger ..
  | .phaseCurrentConversionDone .. | .overcurrentCrossing .. | .vsnsWindowTimeout .. | .vsnsMismatch ..
  | .vsnsOpen .. | .vsnsOpenEnd .. | .auxTriggeredResult .. | .pwmZero .. | .pwmMidUpdate .. | .pwmPeriod ..
  | .pwmCmpa .. | .pwmCmpb .. | .nodeTransition .. | .deadTimeAdapt .. | .nodeMissLimit .. | .dtAdaptLimit ..
  | .tripInputActive .. | .tripClear .. | .forceBothOff .. | .forceHighOn .. | .forceLowOn .. | .forceNone ..
  | .railEnableOn .. | .railSoftOff .. | .railHardOff .. | .engineSampleBoundary .. | .targetWrite ..
  | .profileStart .. | .profileAbort .. | .profileStepHoldExpiry .. | .envelopeWrite ..
  | .protectionConditionCounted .. | .hiccupDelayExpiry .. | .hiccupResetTimeExpiry .. | .shedDwellExpiry ..
  | .avsVoltageWrite .. | .avsVoltageRead .. | .avsVoutTransRateWrite .. | .avsVoutTransRateRead ..
  | .avsCurrentRead .. | .avsTemperatureRead .. | .avsResetVoltage .. | .avsPowerModeWrite ..
  | .avsPowerModeRead .. | .avsStatusRead .. | .oscillationDetection .. | .returnToPrimary ..
  | .chatterDetection .. | .contourCommit .. | .reliefCommit .. | .sampleWatchdogExpiry .. | .hallTransition ..
  | .zeroSpeedTimeout .. | .stallTimeout .. | .directionWrite .. | .reversalSwitch ..
  | .outlineNoTransitionTimeout .. | .outlineRestartTimeout .. | .outlineBusSupportCrossing .. | .encoderCount ..
  | .encoderIndex .. | .ringFrameSend .. | .ringFrameReceived .. | .ringLeadListenEnd .. | .ringLock ..
  | .ringNoLead .. | .ringDiscoveryEnd .. | .ringMemberLost .. | .ringBreak .. | .ringLeadRecovery ..
  | .ringPortEnable .. | .ringPortDisable .. | .ringLeaveComplete .. | .decimatedSample ..
  | .halfCyclePublication .. | .sensorFaultDetected .. | .sensorFaultCleared .. | .calibrationStore ..
  | .calibrationStoreComplete .. | .periodicTotalsSave .. | .totalsSaveNow .. | .totalsReset .. | .dcEnergyReset ..
  | .totalsCopyComplete .. | .energySectorEraseComplete .. | .epulseStart .. | .epulseEnd ..
  | .supplyQualityClearCounts .. | .eventRaise .. | .eventConditionEnd .. | .fifoEntryProcess ..
  | .overflowRequeue .. | .eventResponseWrite .. | .eventClear .. | .eventClearAll .. | .acknowledge ..
  | .interruptClear .. | .outlineEnter .. | .outlineLeave .. | .outlineSetCommit .. | .outlineSetCommitComplete ..
  | .safeInputFall .. | .safeSample .. | .safeFilterChange .. | .discrepancyFault .. | .permitGrant ..
  | .functionReinitialise .. | .functionDisable .. | .functionDisableHard .. | .functionEnable ..
  | .functionStopped .. | .powerCycleRequest .. | .powerCycleAssert .. | .powerCycleRelease ..
  | .stagingEntryEligible .. | .flashGranuleComplete .. | .logSectorEraseComplete .. | .logErase ..
  | .logEraseComplete .. | .logCursorWrite .. | .logReadFromCursor .. | .logReadAtCursor .. | .logSnapshotRead ..
  | .readDeferralTimeout .. | .externalLogWriteComplete .. | .calendarTimeWrite .. | .rtcTrimWrite ..
  | .rtcTrimStep .. | .lseStopTimeout .. | .usbConfigured .. | .usbDetach .. | .usbBusReset .. | .usbSuspend ..
  | .gspBlockTimeout .. | .sessionChallenge .. | .sessionResponse .. | .sessionClose .. | .sessionIdleTimeout ..
  | .nonceExpiry .. | .sessionLockoutExpiry .. | .keyWrite .. | .accessMapCommit .. | .lifecycleToOemBuild ..
  | .lifecycleToField .. | .lifecycleToService .. | .lifecycleToRetired .. | .firmwareDownload ..
  | .bankEraseComplete .. | .programStart .. | .programClear .. | .activateBank .. | .confirmBank ..
  | .trialTimeout .. | .frameReferenceTimeout .. | .canFrameTransmitted .. | .vbatFall .. | .vbatRise ..
  | .lseStart .. | .pllLocked .. | .externalSectorEraseComplete .. | .accessMapStoreComplete ..
  | .keyStoreComplete .. | .usbResume .. | .usbAddressSet .. | .usbInTransferComplete .. | .referenceRisingEdge .. => true

end Sys2Proof
end

