-- ==== Sys2Proof/Tests/Slice0.lean ====
section
/-! SUPPORT. The model's own tests: the refusals of well-formedness, the worked examples of the manual with its own
figures, and for each obligation with hypotheses the inputs that meet them, clause by clause. -/

set_option linter.unusedVariables false
set_option Elab.async false

namespace Sys2Proof.Tests
open Sys2Proof Sys2Proof.Machine

/-! ### Small states -/

/-- A state with some numeric objects at values. -/
def puts (s : State) (l : List (Nat × Nat × Int)) : State := l.foldl (fun s c => s.putObj c.1 c.2.1 c.2.2) s

/-- A device at full service in IDLE, NMT Operational with node-ID 1, its USB port configured. -/
def live : State :=
  puts { State.reset with
    life := { State.reset.life with st := .run, up := 1000 }, can := { State.reset.can with nmt := .operational } }
    [(0x2008, 5, 1), (0x2100, 1, 3), (0x2100, 2, 3), (0x2120, 1, 2), (0x2510, 4, 3)]

/-- The row of an address. -/
def rowOf (ix sub : Nat) : ObjRow := (findRow ix sub).getD ⟨0, 0, 0, 0, 0, 0, .u8, .ro, .base, 0, 0, 0, []⟩

/-- An event's row of the catalogue. -/
def infoOf (e : Nat) : EventInfo := (eventInfo e).getD ⟨0, .momentary, 0, 0, 0, 0⟩

/-! ### Checks of admission -/

/-- `Safety.admits`, computed. -/
def admitsB (s : State) (ch : Channel) (ix sub : Nat) (data : List Byte) : Bool :=
  match findRow ix sub with
  | some row => s.reaches ch && row.ty.numeric && (s.admission ch row ix sub data).isNone &&
      (s.objectRule ch ix sub (row.ty.value data)).isNone
  | none => false

theorem admits_of {s : State} {ch : Channel} {ix sub : Nat} {data : List Byte}
    (h : admitsB s ch ix sub data = true) : Safety.admits s ch ix sub data := by
  unfold admitsB at h
  split at h
  · rename_i row hr
    simp only [Bool.and_eq_true, Option.isNone_iff_eq_none] at h
    exact ⟨h.1.1.1, row, hr, h.1.1.2, h.1.2, h.2⟩
  · simp at h

/-- `Safety.textAdmits`, computed. -/
def textAdmitsB (s : State) (ch : Channel) (ix sub : Nat) (data : List Byte) : Bool :=
  match findRow ix sub with
  | some row => s.reaches ch && !row.ty.numeric && (s.admission ch row ix sub data).isNone
  | none => false

theorem textAdmits_of {s : State} {ch : Channel} {ix sub : Nat} {data : List Byte}
    (h : textAdmitsB s ch ix sub data = true) : Safety.textAdmits s ch ix sub data := by
  unfold textAdmitsB at h
  split at h
  · rename_i row hr
    simp only [Bool.and_eq_true, Option.isNone_iff_eq_none, Bool.not_eq_true'] at h
    exact ⟨h.1.1, row, hr, h.1.2, h.2⟩
  · simp at h

/-- `Safety.actionAdmits`, computed. -/
def actionAdmitsB (s : State) (ch : Channel) (ix sub tag arg : Nat) : Bool :=
  match findRow ix sub with
  | some row => s.reaches ch && tag != 0 && Nat.blt tag 65536 && Nat.blt arg 65536 &&
      ((s.client ch).tags.all fun c => c.1 != tag) &&
      (s.admission ch row ix sub (actionBytes tag arg)).isNone && (s.actionRule ch ix sub arg).isNone
  | none => false

theorem actionAdmits_of {s : State} {ch : Channel} {ix sub tag arg : Nat}
    (h : actionAdmitsB s ch ix sub tag arg = true) : Safety.actionAdmits s ch ix sub tag arg := by
  unfold actionAdmitsB at h
  split at h
  · rename_i row hr
    simp only [Bool.and_eq_true, Option.isNone_iff_eq_none, bne_iff_ne, ne_eq, Nat.blt_eq, List.all_eq_true] at h
    obtain ⟨⟨⟨⟨⟨⟨h1, h2⟩, h3⟩, h4⟩, h5⟩, h6⟩, h7⟩ := h
    exact ⟨h1, h2, h3, h4, h5, row, hr, h6, h7⟩
  · simp at h

/-- `Safety.clearReaches`, computed. -/
def clearReachesB (s : State) (ch : Channel) (tag arg : Nat) : Bool :=
  match findRow 0x2300 2 with
  | some row => s.reaches ch && tag != 0 && ((s.client ch).tags.all fun c => c.1 != tag) &&
      (s.admission ch row 0x2300 2 (actionBytes tag arg)).isNone
  | none => false

theorem clearReaches_of {s : State} {ch : Channel} {tag arg : Nat}
    (h : clearReachesB s ch tag arg = true) : Safety.clearReaches s ch tag arg := by
  unfold clearReachesB at h
  split at h
  · rename_i row hr
    simp only [Bool.and_eq_true, Option.isNone_iff_eq_none, bne_iff_ne, ne_eq, List.all_eq_true] at h
    obtain ⟨⟨⟨h1, h2⟩, h3⟩, h4⟩ := h
    exact ⟨h1, h2, h3, row, hr, h4⟩
  · simp at h

/-- The frame that a GSP frame body carries. -/
def frameOf (frame : List Byte) : GspFrame :=
  ((cobsDecode (frame ++ [0])).bind gspParse).getD ⟨0, 0, 0, 0, 0, 0, [], 0⟩

/-- `Safety.gspTakes`, computed. -/
def gspTakesB (s : State) (frame : List Byte) : Bool :=
  match cobsDecode (frame ++ [0]) with
  | some bytes => (gspParse bytes).isSome && !frame.isEmpty && s.reaches .gsp && s.gsp.request.isNone &&
      (frameOf frame).error.isNone && (s.gsp.cache.all fun c => c.1 != (frameOf frame).seq)
  | none => false

theorem gspTakes_of {s : State} {frame : List Byte} (h : gspTakesB s frame = true) :
    Safety.gspTakes s frame (frameOf frame) := by
  unfold gspTakesB at h
  split at h
  · rename_i bytes hb
    simp only [Bool.and_eq_true, Option.isNone_iff_eq_none, bne_iff_ne, ne_eq, List.all_eq_true,
      Option.isSome_iff_exists, Bool.not_eq_true', List.isEmpty_eq_false_iff] at h
    obtain ⟨⟨⟨⟨⟨⟨f, hf⟩, h1⟩, h2⟩, h3⟩, h4⟩, h5⟩ := h
    exact ⟨h1, h2, h3, h4, h5, bytes, hb, by unfold frameOf; rw [hb]; simp [hf]⟩
  · simp at h

/-- The bytes between the delimiters of a frame the host lays out. -/
def hostFrame (seq type ix sub : Nat) (payload : List Byte) : List Byte :=
  (gspFrame seq type ix sub payload).dropLast

/-- An idle block's step. -/
theorem step_idle {s : State} (h : s.pending = []) : step s = .next s.idle := by
  unfold step; rw [h]

/-- Adding one to each byte of a list that is not empty changes the list. -/
theorem ne_bumped (k m : List Byte) (h : k = m) (hne : m ≠ []) : k ≠ m.map (· + 1) := by
  subst h
  cases k with
  | nil => exact absurd rfl hne
  | cons a l =>
    intro e
    have e1 : a = a + 1 := (List.cons.inj e).1
    exact absurd e1 (by clear hne e e1; revert a; decide)

/-- The same device in RUN with its loop engine running; rail 0 is a rail on phase 0 with loop slot 0. -/
def railed : State :=
  puts live [(0x2100, 1, 4), (0x2100, 2, 4), (0x2330, 3, 0xFFF), (0x3000, 1, 1), (0x3001, 1, 1), (0x3800, 1, 1),
    (0x3810, 1, 0), (0x3810, 2, 1)]

/-- Rail 0 ON, with its phase active. -/
def onNow : State :=
  ((puts railed [(0x3000, 3, 1)]).modRail 0 fun a => { a with running := true }).modPhase 0
    fun p => { p with active := true, switching := true, counting := true, period := 1000 }

/-- The device in Survey. -/
def surveying : State := puts live [(0x2120, 1, 0)]

/-- The device in the FIELD lifecycle state, in STANDBY. -/
def standby : State := puts live [(0x2100, 1, 2), (0x2100, 2, 2)]

/-- The device with the power-fail warning up. -/
def warned : State := { live with supply := { live.supply with pfw := true, flushing := true } }

/-- An event that stands, with a response. -/
def uncleared (s : State) (e resp : Nat) : State :=
  { s with fabric := { s.fabric with uncleared := [⟨e, true, resp, false, 0⟩] } }

/-- AVSBus target on rail 0. -/
def avsLive : State := puts live [(0x2500, 1, 1), (0x2500, 2, 0), (0x3010, 2, 2)]

/-- The ring port of a follower, position 1, and of the ring lead, enabled. -/
def follower : State := puts live [(0x2008, 6, 1), (0x2400, 1, 1), (0x2400, 2, 2)]
def ringLead : State := puts live [(0x2400, 1, 1), (0x2400, 2, 1)]

/-- A state with its ring port changed. -/
def withRing (s : State) (f : Ring → Ring) : State := { s with ring := f s.ring }

/-- A data frame with its own CRC. -/
def goodFrame : RingFrame :=
  let f : RingFrame := ⟨0, 0, 0, 0, 0, 0, 0, 0, 0, 0, 0⟩
  { f with crc := frameCrc f }

/-- A record, a staged one, and a copy of the totals. -/
def rec1 : Record := ⟨1, 0, 0x100, 0x10, 0, 1, 0, 0⟩
def staged1 : Staged := ⟨rec1, 0, false, false, false⟩
def copy1 : TotalsCopy := ⟨1, 0, false, 1, false, [], (0, 0)⟩

/-- A state with its recorder, its energy block or its CAN port changed. -/
def withRec (s : State) (f : Recorder → Recorder) : State := { s with recorder := f s.recorder }
def withEnergy (s : State) (f : Energy → Energy) : State := { s with energy := f s.energy }
def withCan (s : State) (f : Can → Can) : State := { s with can := f s.can }
def withFlash (s : State) (f : Flash → Flash) : State := { s with flash := f s.flash }
def withLife (s : State) (f : Life → Life) : State := { s with life := f s.life }
def withSupply (s : State) (f : Supply → Supply) : State := { s with supply := f s.supply }
def withClocks (s : State) (f : Clocks → Clocks) : State := { s with clocks := f s.clocks }
def withOutline (s : State) (f : Outline → Outline) : State := { s with outline := f s.outline }
def withMeridian (s : State) (f : Meridian → Meridian) : State := { s with meridian := f s.meridian }
def withSafety (s : State) (f : Safety → Safety) : State := { s with safety := f s.safety }
def withDrive (s : State) (f : Drive → Drive) : State := { s with drive := f s.drive }
def withGsp (s : State) (f : Gsp → Gsp) : State := { s with gsp := f s.gsp }
def withMetrology (s : State) (f : Metrology → Metrology) : State := { s with metrology := f s.metrology }

/-! ### Well-formedness: an ill-formed command for each check -/

theorem test_refuses_long_can_frames :
    (Instr.sdoDownloadInitiate (leBytes 9 0)).wellFormed = false ∧ (Instr.sdoDownloadSegment (leBytes 9 0)).wellFormed = false ∧
    (Instr.sdoUploadInitiate (leBytes 9 0)).wellFormed = false ∧ (Instr.sdoUploadSegment (leBytes 9 0)).wellFormed = false ∧
    (Instr.sdoAbortTransfer (leBytes 9 0)).wellFormed = false ∧ (Instr.sdoAbortTransfer (leBytes 8 0)).wellFormed = true := by
  decide +kernel

theorem test_refuses_long_fd_frames :
    (Instr.usdoRequest 1 false (.download 1 1 (leBytes 65 0))).wellFormed = false ∧
    (Instr.usdoRequest 1 false (.downloadOpen 1 1 (leBytes 65 0))).wellFormed = false ∧
    (Instr.usdoRequest 1 false (.downloadSegment (leBytes 65 0) true)).wellFormed = false ∧
    (Instr.rpdoReceived 0 (leBytes 65 0)).wellFormed = false ∧ (Instr.rpdoReceived 0 (leBytes 64 0)).wellFormed = true := by
  decide +kernel

theorem test_refuses_empty_conversions :
    (Instr.surveyStart (List.replicate 15 0) 0).wellFormed = false ∧ (Instr.windowErrorReady 0 []).wellFormed = false ∧
    (Instr.absoluteBlockComplete 0 []).wellFormed = false ∧ (Instr.auxResult 0 []).wellFormed = false := by decide +kernel

theorem test_refuses_impossible_measurements :
    (Instr.dewCheckComplete (List.replicate 13 0)).wellFormed = false ∧ (Instr.mainsZeroCrossing 0 1).wellFormed = false ∧
    (Instr.coherentSample ⟨Vector.replicate 4 0, Vector.replicate 4 0, Vector.replicate 4 0⟩ 0).wellFormed = false := by
  decide +kernel

theorem test_refuses_zero_bytes_between_delimiters :
    (Instr.gspRead [1, 0]).wellFormed = false ∧ (Instr.gspWrite [0]).wellFormed = false ∧
    (Instr.gspBlockRead [0]).wellFormed = false ∧ (Instr.gspBlockWrite [0]).wellFormed = false ∧
    (Instr.gspSubscribe [0]).wellFormed = false ∧ (Instr.gspUnsubscribe [0]).wellFormed = false ∧
    (Instr.gspPing [0]).wellFormed = false ∧ (Instr.gspPing [1]).wellFormed = true := by decide +kernel

/-! ### Worked examples of the manual -/

/-- Bytes from numbers. -/
def bytesOf (l : List Nat) : List Byte := l.map fun (n : Nat) => BitVec.ofNat 8 n

/-- Chapter 06, rail 0: 340 V through 1:250 is DAC code 3482, and 339.5 V at the load is 1.358 V at the pin, error code
−2. -/
theorem test_reference_dac : dacCode 250 0 340000 = 3482 ∧ roundRat (((1358 : Rat) - 3482 * (25 / 64)) / (5 / 4)) = -2 := by
  decide +kernel

/-- Chapter 06, phases 0–2: codes 224 and 104, and 7.8125 mA of an ADC code. -/
theorem test_overcurrent_codes : ocCode 800 20000 12000 true = 224 ∧ ocCode 800 20000 (-3000) false = 104 ∧
    ocCode 800 10000 2000000 true = 255 ∧ ocCode 800 10000 (-2000000) false = 0 := by decide +kernel

/-- Chapter 06: the thresholds reported of the effective codes. -/
theorem test_effective_threshold :
    State.ocEffective (puts live [(0x4005, 2, 20000), (0x4005, 3, 12000), (0x4005, 4, -3000)]) 0 true = 12000 ∧
    State.ocEffective (puts live [(0x4005, 2, 20000), (0x4005, 3, 12000), (0x4005, 4, -3000)]) 0 false = -3000 := by
  decide +kernel

/-- Chapter 07, SKIP_CARRY over four periods of a 300-step pulse, and STRETCH and DROP. -/
theorem test_short_pulses :
    emission 0 0 37500 922 922 300 0 = ⟨0, 300, true⟩ ∧ emission 0 0 37500 922 922 300 300 = ⟨0, 600, true⟩ ∧
    emission 0 0 37500 922 922 300 600 = ⟨0, 900, true⟩ ∧ emission 0 0 37500 922 922 300 900 = ⟨1200, 0, false⟩ ∧
    emission 0 1 37500 922 922 300 0 = ⟨922, 0, true⟩ ∧ emission 0 2 37500 922 922 300 0 = ⟨0, 0, true⟩ := by
  decide +kernel

/-- R239 to R241: a dead time adapts by one step. -/
theorem test_dead_time_steps : adaptStep 154 (some 100) 8 = 153 ∧ adaptStep 154 (some 150) 8 = 155 ∧
    adaptStep 154 (some 146) 8 = 154 ∧ adaptStep 154 (some 154) 8 = 153 := by decide +kernel

/-- Chapter 07: a phase shift changes by at most half a period, in four parts. -/
theorem test_shift_distance : shiftDistance 37500 0 21845 = 12500 ∧ shiftDistance 37500 0 43691 = -12500 := by
  decide +kernel

/-- Chapter 03: FAULT_N is low in reset and in Survey, and released at full service with no response active. -/
theorem test_fault_pin : (State.reset.pin .faultN).drive = .level false ∧ (surveying.pin .faultN).drive = .level false ∧
    (State.pin (withSafety live fun a => { a with path := false }) .faultN).drive = .highZ := by decide +kernel

/-- Chapter 09: row 12 of 3827. -/
theorem test_contour_row :
    contourRow (List.replicate 120 0 ++ bytesOf [0, 0, 0x18, 0xF6, 0x28, 0, 0, 0, 0, 0xEC]) 12
      = ([1572864, 10486, 0], -20) := by decide +kernel

/-- Config S, rail 2: slot 7 is BUS_SUPPORT on AUX0 and lost the last selection with +2 A in its integrator. -/
def sagging : State :=
  ((puts railed [(0x3817, 1, 2), (0x3817, 2, 6), (0x3817, 3, 0), (0x3817, 4, 380000), (0x3817, 5, 20000),
      (0x3817, 6, -20000), (0x3817, 7, 20000), (0x3817, 8, 1), (0x4130, 0x16, 372000)]).putDomain 0x3827 3
    (List.replicate 120 0 ++ bytesOf [0, 0, 0x18, 0xF6, 0x28, 0, 0, 0, 0, 0xEC]
      ++ bytesOf [0, 0, 0x1C, 0xF6, 0x28, 0, 0, 0, 0, 0xEC] ++ List.replicate 190 0)).modSlot 7
    fun a => { a with fresh := false, integrator := 2000 * 65536 }

/-- Chapter 09, the bus sag: −8000 mV of error gives −11 600 mA with the integrator held. -/
theorem test_bus_sag : sagging.slotInput 2 7 = (-8000, 372000) ∧
    (sagging.slotSample 2 7).obj 0x3817 0x10 = -11600 ∧ (sagging.slotSample 2 7).slots[(7 : SlotId)].integrator = 131072000 := by
  decide +kernel

/-- Chapter 10: a sector of 1785.7 µs with 4 pole pairs is 1400.0 rpm. -/
theorem test_speed : State.speedOf (puts live [(0x2620, 3, 4)]) (17857 / 10) = 14000 := by decide +kernel

/-- Chapter 10: the mask of forward and of reverse drive hold each sector's entry. -/
theorem test_drive_maps : ((List.range 6).map fun n => bits 0x0002C688 (3 * n + 2) (3 * n)) = [0, 1, 2, 3, 4, 5] ∧
    ((List.range 6).map fun n => bits 0x00011163 (3 * n + 2) (3 * n)) = [3, 4, 5, 0, 1, 2] ∧
    [0x09, 0x21, 0x24, 0x06, 0x12, 0x18].map pwmCount = [1, 1, 1, 1, 1, 1] := by decide +kernel

/-- Chapter 10: the feed-forward at full speed on a bus of 400 024 mV. -/
theorem test_drive_feed_forward : roundRat (State.feedForward (puts live [(0x3400, 4, 0), (0x3400, 0x12, 20000),
    (0x3448, 1, 14000), (0x4130, 0x16, 400024)]) railD) = 45872 := by decide +kernel

/-- Config M's ring lead of zone 3: latency 143 ns, members 0 to 2. -/
def zone3 : State :=
  { puts live [(0x2008, 6, 0), (0x2400, 1, 1), (0x2400, 4, 7), (0x2400, 7, 143000), (0x2400, 0x09, 400),
      (0x2400, 0x0A, 400), (0x2400, 0x0B, 1200)] with
    ring := { State.reset.ring with members := Vector.ofFn fun p => { present := Nat.blt p.val 3 } } }

/-- Chapter 11: the alignment codes of positions 1 and 2. -/
theorem test_alignment_codes : zone3.alignCode 1 = 3 ∧ zone3.alignCode 2 = 67 := by decide +kernel

/-- Chapter 12: TC at 85.0 °C between −2400 ppm at 80 °C and −3000 ppm at 100 °C. -/
theorem test_temperature_coefficient :
    State.tcAt (puts live [(0x5014, 4, -200), (0x5014, 5, 200), (0x5014, 11, -240), (0x5014, 12, -300)]) 4 850
      = (-2550, false) := by decide +kernel

/-- Chapter 13: copy 41 811 stands in sector 1, slot 1 and copy 41 812 in sector 0, slot 2. -/
theorem test_totals_places : 512 * copySlot 41811 = 4096 + 512 ∧ 512 * copySlot 41812 = 1024 := by decide +kernel

/-- Chapter 14 and 15: event numbers of the examples. -/
theorem test_event_numbers : rlOv 2 = 0x100 ∧ hkOscTrip 7 = 0x17E ∧ rlStall 4 = 0x143 ∧ dvAuxHi 1 = 0x221 ∧
    phOcPos 3 = 0x038 ∧ eventInfo 0x123 = none ∧ (infoOf 0x038).emcy = 0x2310 ∧ (infoOf 0x143).lo = 1 := by
  decide +kernel

/-- DV_AUX_HI on AUX1 stands, and the safe-off path is released. -/
def hotSink : State :=
  { withSafety live (fun a => { a with path := false }) with
    fabric := { live.fabric with uncleared := [⟨0x221, true, 2, false, 0x4401⟩] } }

/-- Chapter 15: the EMCY frame of DV_AUX_HI on AUX1. -/
theorem test_emcy_frame :
    hotSink.emcyFrame ⟨0x221, 2, 951, 0, true, 0, false, false, false, 0x4401⟩ 0x0131
      = bytesOf [0x01, 0x44, 0x09, 0x21, 0x02, 0x22, 0x31, 0x01] := by decide +kernel

/-- Chapter 16: the record of DV_AUX_HI on AUX1. -/
theorem test_record_bytes :
    (Record.bytes ⟨0x00010131, 0x00C0800E3BA2, 0x221, 0x22, 1, 1, 0, 951⟩).take 24
      = bytesOf [0x31, 0x01, 0x01, 0x00, 0xA2, 0x3B, 0x0E, 0x80, 0xC0, 0x00, 0x21, 0x02, 0x22, 0x01, 0x01, 0x00,
          0xB7, 0x03, 0, 0, 0, 0, 0, 0] ∧
    (Record.bytes ⟨0x00010131, 0x00C0800E3BA2, 0x221, 0x22, 1, 1, 0, 951⟩).drop 28 = bytesOf [0xCE, 0xFE, 0xFE, 0xFF] := by
  decide +kernel

/-- Chapter 17: READ 2000:01 on the wire, and what a port reads from it. -/
theorem test_gsp_read_frame :
    gspFrame 1 1 0x2000 1 [] = bytesOf [3, 1, 1, 2, 1, 3, 0x20, 1, 1, 3, 0x5C, 0xF1, 0] ∧
    cobsDecode (bytesOf [3, 1, 1, 2, 1, 3, 0x20, 1, 1, 3, 0x5C, 0xF1, 0])
      = some (bytesOf [1, 1, 0, 1, 0, 0x20, 1, 0, 0, 0x5C, 0xF1]) := by decide +kernel

/-- The check value of CRC-32/ISO-HDLC, the one R511 names. -/
theorem test_crc32 : crc32 (bytesOf [0x31, 0x32, 0x33, 0x34, 0x35, 0x36, 0x37, 0x38, 0x39]) = 0xCBF43926 := by
  decide +kernel

/-- Chapter 05: K1 closes at mains bearing 0 when it fires at 17 695 brg, and 15.0 ms measured teaches 14.7 ms. -/
def k1 : State :=
  withMeridian (puts live [(0x2600, 0x0A, 1), (0x2600, 0x0E, 14600), (0x2600, 0x16, 7)]) fun a => { a with mains := 4800000 }

theorem test_relay_compensation : k1.compensated 0 0 true 0 = 17695 ∧ (k1.learn 0 true 15000).obj 0x2600 0x0E = 14700 ∧
    ((k1.learn 0 true 15000).compensated 0 0 true 0) = 17367 := by decide +kernel

/-! ### Witnesses of the hypotheses -/

/-- Inputs that meet the hypotheses of each clause of O1. -/
theorem test_hypotheses_of_NmtCommandsSetTheState :
    (∃ (node : BitVec 7) (s : State), s.nmtFor node = true ∧ s.fullService = true ∧ s.can.nmt ≠ .operational) ∧
    (∃ (node : BitVec 7) (s : State), s.nmtFor node = true ∧ s.fullService = false ∧ s.can.nmt ≠ .operational) ∧
    (∃ (node : BitVec 7) (s : State), Safety.canonical s = true ∧ s.nmtFor node = true) ∧
    (∃ (node : BitVec 7) (s : State), Safety.canonical s = true ∧ s.nmtFor node = true) ∧
    (∃ (node : BitVec 7) (s : State), s.nmtFor node = true) ∧
    (∃ (node : BitVec 7) (s : State), s.nmtFor node = true ∧ s.life.resetKind = none) ∧
    (∃ (node : BitVec 7) (s : State), s.nmtFor node = false) :=
  ⟨⟨1, (withCan live fun c => { c with nmt := .preOperational }), by decide +kernel, by decide +kernel, by decide +kernel⟩,
   ⟨1, (withCan surveying fun c => { c with nmt := .preOperational }), by decide +kernel, by decide +kernel, by decide +kernel⟩,
   ⟨1, live, by decide +kernel, by decide +kernel⟩,
   ⟨1, live, by decide +kernel, by decide +kernel⟩,
   ⟨1, live, by decide +kernel⟩,
   ⟨1, live, by decide +kernel, by decide +kernel⟩,
   ⟨2, live, by decide +kernel⟩⟩

/-- Inputs that meet the hypotheses of each clause of O2. -/
theorem test_hypotheses_of_BusConditionsAct :
    (∃ (s : State), s.serving = true ∧ s.canSends = true ∧ s.nat 0x1017 0 ≠ 0) ∧
    (∃ (s : State), s.nat 0x1017 0 = 0) ∧
    (∃ (node : BitVec 7) (b : Byte) (s : State), Safety.canonical s = true ∧ s.participates = true ∧ s.fullService = true) ∧
    (∃ (e : Fin 4) (s : State), Safety.canonical s = true ∧ s.serving = true ∧ s.can.monitored[e] = true ∧ (s.watched e).isSome = true) ∧
    (∃ (tec rec : Nat) (s : State), Safety.canonical s = true ∧ s.serving = true ∧ s.can.busOff = false ∧ s.funcState 8 = 0) ∧
    (∃ (s : State), Safety.canonical s = true ∧ s.serving = true ∧ s.can.busOff = true) ∧
    (∃ (tec rec : Nat) (s : State), Safety.canonical s = true ∧ s.serving = true ∧ s.can.busOff = false ∧ s.can.passive = false) ∧
    (∃ (s : State), s.serving = true ∧ s.can.passive = true) ∧
    (∃ (lost : BitVec 32) (s : State), Safety.canonical s = true ∧ s.listens = true) :=
  ⟨⟨live, by decide +kernel, by decide +kernel, by decide +kernel⟩,
   ⟨(puts live [(0x1017, 0, 0)]), by decide +kernel⟩,
   ⟨1, 1, live, by decide +kernel, by decide +kernel, by decide +kernel⟩,
   ⟨0, (withCan (puts live [(0x1016, 1, 0x10064)]) fun c => { c with monitored := Vector.replicate 4 true }), by decide +kernel, by decide +kernel, by decide +kernel, by decide +kernel⟩,
   ⟨1, 1, live, by decide +kernel, by decide +kernel, by decide +kernel, by decide +kernel⟩,
   ⟨(withCan live fun c => { c with busOff := true }), by decide +kernel, by decide +kernel, by decide +kernel⟩,
   ⟨1, 1, live, by decide +kernel, by decide +kernel, by decide +kernel, by decide +kernel⟩,
   ⟨(withCan live fun c => { c with passive := true }), by decide +kernel, by decide +kernel⟩,
   ⟨1, live, by decide +kernel, by decide +kernel⟩⟩

/-- Inputs that meet the hypotheses of each clause of O3. -/
theorem test_hypotheses_of_ProcessDataMoves :
    (∃ (n : Fin 4) (data : List Byte) (s : State), Safety.canonical s = true ∧ s.reaches .rpdo = true ∧ s.bit (0x1400 + n.val) 1 31 = false ∧ s.mapping (0x1600 + n.val) ≠ [] ∧ data.length < ((s.mapping (0x1600 + n.val)).map fun e => e.size).sum) ∧
    (∃ (n : Fin 4) (data : List Byte) (s : State), Safety.canonical s = true ∧ s.reaches .rpdo = true ∧ s.bit (0x1400 + n.val) 1 31 = false ∧ s.mapping (0x1600 + n.val) ≠ [] ∧ ((s.mapping (0x1600 + n.val)).map fun e => e.size).sum ≤ data.length ∧ s.nat (0x1400 + n.val) 2 ≤ 0xF0) ∧
    (∃ (n : Fin 4) (data : List Byte) (s : State) (e : MapEntry), s.reaches .rpdo = true ∧ s.bit (0x1400 + n.val) 1 31 = false ∧ s.mapping (0x1600 + n.val) = [e] ∧ e.size ≤ data.length ∧ e.sub < 256 ∧ 0xF0 < s.nat (0x1400 + n.val) 2 ∧ s.rpdoAdmits e (data.take e.size) = true ∧ s.strangeTarget (objKey e.ix e.sub) = false ∧ (s.writeObj .rpdo e.ix e.sub (data.take e.size)).2.code = none) ∧
    (∃ (counter : Option Byte) (s : State) (n : Fin 4), s.participates = true ∧ s.canSends = true ∧ s.can.rpdoHeld = Vector.replicate 4 [] ∧ s.tpdoRuns n.val = true ∧ 1 ≤ s.nat (0x1800 + n.val) 2 ∧ s.nat (0x1800 + n.val) 2 ≤ 0xF0 ∧ (s.can.tpdo[n].count + 1) % s.nat (0x1800 + n.val) 2 = 0) ∧
    (∃ (s : State), s.nat 0x1006 0 ≠ 0 ∧ s.syncAllowed = true ∧ s.nat 0x1019 0 = 0) ∧
    (∃ (s : State), s.nat 0x1006 0 ≠ 0 ∧ s.syncAllowed = true ∧ s.nat 0x1019 0 ≠ 0) ∧
    (∃ (n : Fin 4) (data : List Byte) (rest : List TxFrame) (s : State), Safety.canonical s = true ∧ s.nat 0x1007 0 ≠ 0 ∧ s.can.tx = .tpdo n.val data true :: rest) ∧
    (∃ (n : Fin 4) (s : State), s.eventTpdo n.val = true ∧ s.canSends = true ∧ s.can.tpdo[n].inhibited = false ∧ s.nat (0x1800 + n.val) 3 = 0) ∧
    (∃ (n : Fin 4) (s : State), s.eventTpdo n.val = true ∧ s.can.tpdo[n].inhibited = true) ∧
    (∃ (n : Fin 4) (s : State), s.eventTpdo n.val = true ∧ s.canSends = true ∧ s.can.tpdo[n].changed = true) ∧
    (∃ (n : Fin 4) (s : State), s.can.tpdo[n].changed = false) ∧
    (∃ (n : Fin 4) (s : State), s.eventTpdo n.val = true ∧ s.canSends = true ∧ s.nat (0x1800 + n.val) 5 ≠ 0) :=
  ⟨⟨0, [], live, by decide +kernel, by decide +kernel, by decide +kernel, by decide +kernel, by decide +kernel⟩,
   ⟨0, leBytes 8 0, live, by decide +kernel, by decide +kernel, by decide +kernel, by decide +kernel, by decide +kernel, by decide +kernel⟩,
   ⟨0, leBytes 4 0, (puts live [(0x1400, 1, 1), (0x1400, 2, 255), (0x1600, 0, 1), (0x1600, 1, 0x21000108)]), mapEntry 0x21000108, by decide +kernel, by decide +kernel, by decide +kernel, by decide +kernel, by decide +kernel, by decide +kernel, by decide +kernel, by decide +kernel, by decide +kernel⟩,
   ⟨none, (puts live [(0x1800, 1, 0x181), (0x1800, 2, 1), (0x1A00, 0, 1), (0x1A00, 1, 0x21000108)]), 0, by decide +kernel, by decide +kernel, by decide +kernel, by decide +kernel, by decide +kernel, by decide +kernel, by decide +kernel⟩,
   ⟨(puts live [(0x1005, 0, 0x40000080), (0x1006, 0, 10000)]), by decide +kernel, by decide +kernel, by decide +kernel⟩,
   ⟨(puts live [(0x1005, 0, 0x40000080), (0x1006, 0, 10000), (0x1019, 0, 10)]), by decide +kernel, by decide +kernel, by decide +kernel⟩,
   ⟨0, [], [], (withCan (puts live [(0x1007, 0, 1000)]) fun c => { c with tx := [.tpdo 0 [] true] }), by decide +kernel, by decide +kernel, by decide +kernel⟩,
   ⟨0, (puts live [(0x1800, 1, 0x181), (0x1800, 2, 255), (0x1A00, 0, 1), (0x1A00, 1, 0x21000108)]), by decide +kernel, by decide +kernel, by decide +kernel, by decide +kernel⟩,
   ⟨0, (withCan (puts live [(0x1800, 1, 0x181), (0x1800, 2, 255), (0x1A00, 0, 1), (0x1A00, 1, 0x21000108)]) fun c => { c with tpdo := Vector.replicate 4 { inhibited := true } }), by decide +kernel, by decide +kernel⟩,
   ⟨0, (withCan (puts live [(0x1800, 1, 0x181), (0x1800, 2, 255), (0x1A00, 0, 1), (0x1A00, 1, 0x21000108)]) fun c => { c with tpdo := Vector.replicate 4 { changed := true } }), by decide +kernel, by decide +kernel, by decide +kernel⟩,
   ⟨0, live, by decide +kernel⟩,
   ⟨0, (puts live [(0x1800, 1, 0x181), (0x1800, 2, 255), (0x1A00, 0, 1), (0x1A00, 1, 0x21000108), (0x1800, 5, 100)]), by decide +kernel, by decide +kernel, by decide +kernel⟩⟩

/-- Inputs that meet the hypotheses of each clause of O4. -/
theorem test_hypotheses_of_TimeAndTransmitQueueAct :
    (∃ (days : BitVec 16) (ms : BitVec 28) (s : State), s.participates = true ∧ s.can.nmt ≠ .stopped ∧ s.bit 0x1012 0 31 = true ∧ 5844 ≤ days.toNat) ∧
    (∃ (days : BitVec 16) (ms : BitVec 28) (s : State), Safety.canonical s = true ∧ s.participates = true ∧ s.can.nmt ≠ .stopped ∧ s.bit 0x1012 0 31 = true ∧ days.toNat < 5844) ∧
    (∃ (f : List Byte) (rest : List (List Byte)) (s : State), s.canSends = true ∧ s.can.nmt ≠ .stopped ∧ s.can.tx.any TxFrame.isEmcy = false ∧ s.can.emcyHeld = f :: rest) ∧
    (∃ (s : State), s.can.emcyHeld = []) ∧
    (∃ (f : TxFrame) (rest : List TxFrame) (s : State), s.serving = true ∧ s.can.busOff = false ∧ s.can.tx = f :: rest ∧ f.emcyData = [] ∧ (∀ c, f ≠ .sync c)) ∧
    (∃ (n : Fin 4) (data : List Byte) (sync : Bool) (rest : List TxFrame) (s : State), s.serving = true ∧ s.can.busOff = false ∧ s.can.tx = .tpdo n.val data sync :: rest) ∧
    (∃ (data : List Byte) (rest : List TxFrame) (s : State), s.serving = true ∧ s.can.busOff = false ∧ s.can.tx = .emcy data :: rest ∧ s.nat 0x1015 0 ≠ 0) ∧
    (∃ (s : State), s.can.tx = []) :=
  ⟨⟨5844, 1, (puts live [(0x1012, 0, 0x80000100)]), by decide +kernel, by decide +kernel, by decide +kernel, by decide +kernel⟩,
   ⟨5843, 1, (puts live [(0x1012, 0, 0x80000100)]), by decide +kernel, by decide +kernel, by decide +kernel, by decide +kernel, by decide +kernel⟩,
   ⟨leBytes 8 0, [], (withCan live fun c => { c with emcyHeld := [leBytes 8 0] }), by decide +kernel, by decide +kernel, by decide +kernel, by decide +kernel⟩,
   ⟨live, by decide +kernel⟩,
   ⟨.bootUp, [], (withCan live fun c => { c with tx := [.bootUp] }), by decide +kernel, by decide +kernel, by decide +kernel, by decide +kernel, fun c h => nomatch h⟩,
   ⟨0, [], false, [], (withCan live fun c => { c with tx := [.tpdo 0 [] false] }), by decide +kernel, by decide +kernel, by decide +kernel⟩,
   ⟨leBytes 8 0, [], (withCan (puts live [(0x1015, 0, 100)]) fun c => { c with tx := [.emcy (leBytes 8 0)] }), by decide +kernel, by decide +kernel, by decide +kernel, by decide +kernel⟩,
   ⟨live, by decide +kernel⟩⟩

/-- Inputs that meet the hypotheses of each clause of O5. -/
theorem test_hypotheses_of_LssServicesAct :
    (∃ (s : State), s.listens = true) ∧
    (∃ (s : State), s.listens = true) ∧
    (∃ (v p r n : BitVec 32) (s : State), s.listens = true) ∧
    (∃ (id : Byte) (s : State), s.lssConfigures = true ∧ lssIdValid id.toNat = true) ∧
    (∃ (id : Byte) (s : State), s.lssConfigures = true ∧ lssIdValid id.toNat = false) ∧
    (∃ (timing : Byte) (s : State), s.lssConfigures = true ∧ bitIndexValid timing.toNat = true) ∧
    (∃ (delay : BitVec 16) (i : Nat) (s : State), s.lssConfigures = true ∧ s.can.lss.bitIndex = some i) ∧
    (∃ (id i : Nat) (s : State), Safety.canonical s = true ∧ s.lssConfigures = true ∧ s.lssStoreRefused = false ∧ s.can.lss.nodeId = some id ∧ s.can.lss.bitIndex = some i) ∧
    (∃ (entry : Fin 4) (s : State), s.lssConfigures = true ∧ s.life.resetKind = none) ∧
    (∃ (id : BitVec 32) (sub next : Byte) (s : State), s.listens = true ∧ s.nodeId = none ∧ s.can.lss.configuring = false) ∧
    (∃ (id : BitVec 32) (sub next : Byte) (s : State), s.listens = true ∧ s.nodeId = none ∧ s.can.lss.configuring = false ∧ s.scanMatches id.toNat 0 sub.toNat = true) :=
  ⟨⟨live, by decide +kernel⟩,
   ⟨live, by decide +kernel⟩,
   ⟨1, 1, 1, 1, live, by decide +kernel⟩,
   ⟨0x7F, (withCan live fun c => { c with lss := { configuring := true, nodeId := some 1, bitIndex := some 2 } }), by decide +kernel, by decide +kernel⟩,
   ⟨0x80, (withCan live fun c => { c with lss := { configuring := true, nodeId := some 1, bitIndex := some 2 } }), by decide +kernel, by decide +kernel⟩,
   ⟨2, (withCan live fun c => { c with lss := { configuring := true, nodeId := some 1, bitIndex := some 2 } }), by decide +kernel, by decide +kernel⟩,
   ⟨1, 2, (withCan live fun c => { c with lss := { configuring := true, nodeId := some 1, bitIndex := some 2 } }), by decide +kernel, by decide +kernel⟩,
   ⟨1, 2, (withCan live fun c => { c with lss := { configuring := true, nodeId := some 1, bitIndex := some 2 } }), by decide +kernel, by decide +kernel, by decide +kernel, by decide +kernel, by decide +kernel⟩,
   ⟨0, (withCan live fun c => { c with lss := { configuring := true, nodeId := some 1, bitIndex := some 2 } }), by decide +kernel, by decide +kernel⟩,
   ⟨1, 1, 1, (puts live [(0x2008, 5, 0xFF)]), by decide +kernel, by decide +kernel, by decide +kernel⟩,
   ⟨(BitVec.ofNat 32 (State.lssAddress (puts live [(0x2008, 5, 0xFF)]) 0)), 0, 1, (puts live [(0x2008, 5, 0xFF)]), by decide +kernel, by decide +kernel, by decide +kernel, by decide +kernel⟩⟩

/-- Inputs that meet the hypotheses of each clause of O6. -/
theorem test_hypotheses_of_SdoServersAnswer :
    (∃ (frame : List Byte) (s : State), Safety.sdoTakes s frame 1 ∧ s.can.transfer = .none ∧ s.can.sdoOwed = none ∧ (byteAt frame 0).testBit 1 = true ∧ (s.writeObj .sdo (sdoPlace frame).1 (sdoPlace frame).2 (sdoExpedited frame)).2 = .done ∧ (s.writeObj .sdo (sdoPlace frame).1 (sdoPlace frame).2 (sdoExpedited frame)).1.canSends = true) ∧
    (∃ (frame : List Byte) (s : State), Safety.sdoTakes s frame 1 ∧ s.can.transfer = .none ∧ s.can.sdoOwed = none ∧ (byteAt frame 0).testBit 1 = false ∧ (byteAt frame 0).testBit 0 = true ∧ openRule (sdoPlace frame).1 (sdoPlace frame).2 = none) ∧
    (∃ (frame data : List Byte) (ix sub : Nat) (tog : Bool) (s : State), Safety.sdoTakes s frame 0 ∧ s.can.transfer = .download ix sub none data tog ∧ s.can.sdoOwed = none ∧ sdoToggle frame = tog ∧ ix ≠ 0x1F50 ∧ sdoLast frame = false) ∧
    (∃ (frame data : List Byte) (ix sub : Nat) (tog : Bool) (s s' : State), Safety.sdoTakes s frame 0 ∧ s.can.transfer = .download ix sub none data tog ∧ s.can.sdoOwed = none ∧ sdoToggle frame = tog ∧ ix ≠ 0x1F50 ∧ sdoLast frame = true ∧ s' = s.setCan { s.can with transfer := .none } ∧ (s'.writeObj .sdo ix sub (data ++ sdoSegment frame)).2 = .done) ∧
    (∃ (frame : List Byte) (s : State), Safety.canonical s = true ∧ Safety.sdoTakes s frame 2 ∧ s.canSends = true ∧ s.can.transfer = .none ∧ s.can.sdoOwed = none ∧ s.readRule .sdo (sdoPlace frame).1 (sdoPlace frame).2 = none) ∧
    (∃ (frame rest : List Byte) (ix sub : Nat) (tog : Bool) (s : State), Safety.sdoTakes s frame 3 ∧ s.canSends = true ∧ s.can.transfer = .upload ix sub rest tog ∧ sdoToggle frame = tog ∧ 7 < rest.length) ∧
    (∃ (frame rest : List Byte) (ix sub : Nat) (tog : Bool) (s : State), Safety.sdoTakes s frame 3 ∧ s.can.transfer = .upload ix sub rest tog ∧ sdoToggle frame = tog ∧ rest.length ≤ 7) ∧
    (∃ (frame : List Byte) (s : State), Safety.sdoTakes s frame 4) ∧
    (∃ (ix sub : Nat) (size : Option Nat) (data : List Byte) (tog : Bool) (s : State), Safety.canonical s = true ∧ s.can.sdoOwed = none ∧ s.can.transfer = .download ix sub size data tog ∧ s.canSends = true) ∧
    (∃ (n : BitVec 7) (ix : BitVec 16) (sub : Byte) (data : List Byte) (s : State), s.reaches (.usdo n) = true ∧ s.usdoTransfer n = .none ∧ s.can.usdoOwed.contains n.toNat = false ∧ (s.writeObj (.usdo n) ix.toNat sub.toNat data).2 = .done ∧ (s.writeObj (.usdo n) ix.toNat sub.toNat data).1.canSends = true) ∧
    (∃ (n : BitVec 7) (ix : BitVec 16) (sub : Byte) (s : State), Safety.canonical s = true ∧ s.reaches (.usdo n) = true ∧ s.canSends = true ∧ s.usdoTransfer n = .none ∧ s.can.usdoOwed.contains n.toNat = false ∧ s.readRule (.usdo n) ix.toNat sub.toNat = none ∧ (s.readBytes (.usdo n) ix.toNat sub.toNat).length ≤ usdoBytes) :=
  ⟨⟨[0x2F, 0x00, 0x21, 1, 3, 0, 0, 0], live, ⟨by decide +kernel, by decide +kernel, by decide +kernel, by decide +kernel⟩, by decide +kernel, by decide +kernel, by decide +kernel, by decide +kernel, by decide +kernel⟩,
   ⟨[0x21, 0x16, 0x10, 1, 4, 0, 0, 0], live, ⟨by decide +kernel, by decide +kernel, by decide +kernel, by decide +kernel⟩, by decide +kernel, by decide +kernel, by decide +kernel, by decide +kernel, by decide +kernel⟩,
   ⟨[0x00, 1, 2, 3, 4, 5, 6, 7], [], 0x1016, 1, false, (withCan live fun c => { c with transfer := .download 0x1016 1 none [] false }), ⟨by decide +kernel, by decide +kernel, by decide +kernel, by decide +kernel⟩, by decide +kernel, by decide +kernel, by decide +kernel, by decide +kernel, by decide +kernel⟩,
   ⟨[0x07, 1, 0, 0, 0, 0, 0, 0], [], 0x1016, 1, false, (withCan live fun c => { c with transfer := .download 0x1016 1 none [] false }), (State.setCan (withCan live fun c => { c with transfer := .download 0x1016 1 none [] false }) { ((withCan live fun c => { c with transfer := .download 0x1016 1 none [] false })).can with transfer := .none }), ⟨by decide +kernel, by decide +kernel, by decide +kernel, by decide +kernel⟩, by decide +kernel, by decide +kernel, by decide +kernel, by decide +kernel, by decide +kernel, by decide +kernel, by decide +kernel⟩,
   ⟨[0x40, 0x00, 0x21, 1, 0, 0, 0, 0], live, by decide +kernel, ⟨by decide +kernel, by decide +kernel, by decide +kernel, by decide +kernel⟩, by decide +kernel, by decide +kernel, by decide +kernel, by decide +kernel⟩,
   ⟨[0x60, 0, 0, 0, 0, 0, 0, 0], leBytes 8 0, 1, 1, false, (withCan live fun c => { c with transfer := .upload 1 1 (leBytes 8 0) false }), ⟨by decide +kernel, by decide +kernel, by decide +kernel, by decide +kernel⟩, by decide +kernel, by decide +kernel, by decide +kernel, by decide +kernel⟩,
   ⟨[0x60, 0, 0, 0, 0, 0, 0, 0], leBytes 7 0, 1, 1, false, (withCan live fun c => { c with transfer := .upload 1 1 (leBytes 7 0) false }), ⟨by decide +kernel, by decide +kernel, by decide +kernel, by decide +kernel⟩, by decide +kernel, by decide +kernel, by decide +kernel⟩,
   ⟨[0x80, 0, 0, 0, 0, 0, 0, 0], live, ⟨by decide +kernel, by decide +kernel, by decide +kernel, by decide +kernel⟩⟩,
   ⟨1, 1, none, [], false, (withCan live fun c => { c with transfer := .download 1 1 none [] false }), by decide +kernel, by decide +kernel, by decide +kernel, by decide +kernel⟩,
   ⟨1, 0x2100, 1, [3], (withCan live fun c => { c with fd := true }), by decide +kernel, by decide +kernel, by decide +kernel, by decide +kernel, by decide +kernel⟩,
   ⟨1, 0x2100, 1, (withCan live fun c => { c with fd := true }), by decide +kernel, by decide +kernel, by decide +kernel, by decide +kernel, by decide +kernel, by decide +kernel, by decide +kernel⟩⟩

/-- Inputs that meet the hypotheses of each clause of O7. -/
theorem test_hypotheses_of_GspServerAnswers :
    (∃ (frame : List Byte) (f : GspFrame) (s : State), Safety.gspTakes s frame f ∧ f.type = 1 ∧ (s.bump 0x2510 6).readRule .gsp f.ix f.sub = none ∧ ((s.bump 0x2510 6).readBytes .gsp f.ix f.sub).length ≤ 512) ∧
    (∃ (frame : List Byte) (f : GspFrame) (s : State), Safety.gspTakes s frame f ∧ f.type = 2 ∧ ((s.bump 0x2510 6).writeObj .gsp f.ix f.sub f.payload).2 = .done) ∧
    (∃ (frame : List Byte) (f : GspFrame) (s s' : State), Safety.gspTakes s frame f ∧ f.type = 3 ∧ f.segment.2.1 = 0 ∧ s' = (s.bump 0x2510 6).closeBlock ∧ s'.readRule .gsp f.ix f.sub = none) ∧
    (∃ (frame : List Byte) (f : GspFrame) (s : State), Safety.gspTakes s frame f ∧ f.type = 4 ∧ f.segment.2.1 = 0 ∧ f.segment.1 = false ∧ f.ix ≠ 0x1F50) ∧
    (∃ (frame : List Byte) (f : GspFrame) (s : State), Safety.canonical s = true ∧ Safety.gspTakes s frame f ∧ f.type = 5) ∧
    (∃ (frame : List Byte) (f : GspFrame) (s : State), Safety.canonical s = true ∧ Safety.gspTakes s frame f ∧ f.type = 6) ∧
    (∃ (frame : List Byte) (f : GspFrame) (s : State), Safety.canonical s = true ∧ Safety.gspTakes s frame f ∧ f.type = 7) ∧
    (∃ (b : GspBlock) (s : State), s.gsp.block = some b ∧ s.gsp.request = none) ∧
    (∃ (frame : List Byte) (s : State), Safety.canonical s = true ∧ frame ≠ [] ∧ s.reaches .gsp = true ∧ cobsDecode (frame ++ [0]) = none) :=
  ⟨⟨(hostFrame 1 1 0x2100 1 []), (frameOf (hostFrame 1 1 0x2100 1 [])), live, gspTakes_of (by decide +kernel), by decide +kernel, by decide +kernel, by decide +kernel⟩,
   ⟨(hostFrame 1 2 0x2100 1 [3]), (frameOf (hostFrame 1 2 0x2100 1 [3])), live, gspTakes_of (by decide +kernel), by decide +kernel, by decide +kernel⟩,
   ⟨(hostFrame 1 3 0x2100 1 (leBytes 8 0)), (frameOf (hostFrame 1 3 0x2100 1 (leBytes 8 0))), live, (State.closeBlock (live.bump 0x2510 6)), gspTakes_of (by decide +kernel), by decide +kernel, by decide +kernel, by decide +kernel, by decide +kernel⟩,
   ⟨(hostFrame 1 4 0x2510 3 (leBytes 8 0)), (frameOf (hostFrame 1 4 0x2510 3 (leBytes 8 0))), live, gspTakes_of (by decide +kernel), by decide +kernel, by decide +kernel, by decide +kernel, by decide +kernel⟩,
   ⟨(hostFrame 1 5 0 0 [1]), (frameOf (hostFrame 1 5 0 0 [1])), live, by decide +kernel, gspTakes_of (by decide +kernel), by decide +kernel⟩,
   ⟨(hostFrame 1 6 0 0 []), (frameOf (hostFrame 1 6 0 0 [])), live, by decide +kernel, gspTakes_of (by decide +kernel), by decide +kernel⟩,
   ⟨(hostFrame 1 7 0 0 []), (frameOf (hostFrame 1 7 0 0 [])), live, by decide +kernel, gspTakes_of (by decide +kernel), by decide +kernel⟩,
   ⟨⟨true, 0x2510, 3, [], 0⟩, (withGsp live fun c => { c with block := some ⟨true, 0x2510, 3, [], 0⟩ }), by decide +kernel, by decide +kernel⟩,
   ⟨[5], live, by decide +kernel, by decide +kernel, by decide +kernel, by decide +kernel⟩⟩

/-- Inputs that meet the hypotheses of each clause of O8. -/
theorem test_hypotheses_of_FlashWorkCompletes :
    (∃ (op : StoreOp) (s : State), s.supply.pfw = false ∧ s.flash.store = some op ∧ op.restore = false ∧ Safety.nothingWaits s) ∧
    (∃ (op : StoreOp) (s : State), s.supply.pfw = false ∧ s.flash.store = some op ∧ op.restore = true ∧ Safety.nothingWaits s) ∧
    (∃ (op : ActionOp) (c : ParamCopy) (s : State), s.supply.pfw = false ∧ s.flash.calOp = some (op, c) ∧ Safety.nothingWaits s) ∧
    (∃ (s : State), Safety.canonical s = true ∧ s.flash.bankErase = true ∧ s.supply.pfw = false ∧ s.flash.download = none ∧ Safety.nothingWaits s) ∧
    (∃ (source : Fin 3) (s : State), Safety.canonical s = true ∧ s.serving = true ∧ s.bit 0x2130 5 source.val = true ∧ (source = 0 → s.obj 0x2130 1 < s.obj 0x2130 4) ∧ (source = 1 → s.energy.interruption.active = true) ∧ s.supply.pfw = false ∧ Safety.nothingWaits s) ∧
    (∃ (source : Fin 3) (s : State), s.serving = true ∧ s.bit 0x2130 5 source.val = true ∧ (source = 0 → s.obj 0x2130 1 < s.obj 0x2130 4) ∧ (source = 1 → s.energy.interruption.active = true) ∧ s.supply.pfw = true) ∧
    (∃ (op : ActionOp) (o : OutlineSet) (s : State), s.supply.pfw = false ∧ s.flash.outlineOp = some (op, o)) ∧
    (∃ (op : ActionOp) (m : List Nat) (s : State), s.supply.pfw = false ∧ s.flash.mapOp = some (op, m)) ∧
    (∃ (op : KeyOp) (s : State), s.supply.pfw = false ∧ s.flash.keyOp = some op) :=
  ⟨⟨⟨some .sdo, 1, false, ⟨2, [], []⟩⟩, (withFlash live fun c => { c with store := some ⟨some .sdo, 1, false, ⟨2, [], []⟩⟩ }), by decide +kernel, by decide +kernel, by decide +kernel, ⟨by decide +kernel, by decide +kernel, by decide +kernel⟩⟩,
   ⟨⟨some .sdo, 1, true, ⟨2, [], []⟩⟩, (withFlash live fun c => { c with store := some ⟨some .sdo, 1, true, ⟨2, [], []⟩⟩ }), by decide +kernel, by decide +kernel, by decide +kernel, ⟨by decide +kernel, by decide +kernel, by decide +kernel⟩⟩,
   ⟨⟨.sdo, 0x5000, 0x1B, 1⟩, ⟨2, [], []⟩, (withFlash live fun c => { c with calOp := some (⟨.sdo, 0x5000, 0x1B, 1⟩, ⟨2, [], []⟩) }), by decide +kernel, by decide +kernel, ⟨by decide +kernel, by decide +kernel, by decide +kernel⟩⟩,
   ⟨(withFlash live fun c => { c with bankErase := true }), by decide +kernel, by decide +kernel, by decide +kernel, by decide +kernel, ⟨by decide +kernel, by decide +kernel, by decide +kernel⟩⟩,
   ⟨0, live, by decide +kernel, by decide +kernel, by decide +kernel, by decide +kernel, by decide +kernel, by decide +kernel, ⟨by decide +kernel, by decide +kernel, by decide +kernel⟩⟩,
   ⟨0, warned, by decide +kernel, by decide +kernel, by decide +kernel, by decide +kernel, by decide +kernel⟩,
   ⟨⟨.sdo, 0x5000, 0x1B, 1⟩, ⟨1, [], 0, []⟩, (withFlash live fun c => { c with outlineOp := some (⟨.sdo, 0x5000, 0x1B, 1⟩, ⟨1, [], 0, []⟩) }), by decide +kernel, by decide +kernel⟩,
   ⟨⟨.sdo, 0x5000, 0x1B, 1⟩, [], (withFlash live fun c => { c with mapOp := some (⟨.sdo, 0x5000, 0x1B, 1⟩, []) }), by decide +kernel, by decide +kernel⟩,
   ⟨⟨.sdo, true, [1]⟩, (withFlash live fun c => { c with keyOp := some ⟨.sdo, true, [1]⟩ }), by decide +kernel, by decide +kernel⟩⟩

/-- Inputs that meet the hypotheses of each clause of O9. -/
theorem test_hypotheses_of_ClockEventsAct :
    (∃ (s : State), s.clocked = true ∧ s.clocks.mode ≠ 2 ∧ s.clocks.ranOnCrystal = false) ∧
    (∃ (s : State), s.clocks.mode = 2) ∧
    (∃ (s : State), s.serving = true ∧ s.clocks.ranOnCrystal = false ∧ s.life.settling = false ∧ s.metrology.settled = false ∧ s.clocks.mode = 0) ∧
    (∃ (s : State), Safety.canonical s = true ∧ s.serving = true ∧ s.clocks.ranOnCrystal = false ∧ s.life.settling = false ∧ s.metrology.settled = false ∧ s.clocks.mode = 1 ∧ s.stage ≠ 2 ∧ s.stage ≠ 3) ∧
    (∃ (s : State), Safety.canonical s = true ∧ s.serving = true ∧ s.clocks.crystal = true) ∧
    (∃ (s : State), Safety.canonical s = true ∧ s.serving = true ∧ s.clocks.pll = true) ∧
    (∃ (s : State), Safety.canonical s = true ∧ s.clocked = true ∧ s.clocks.pll = false) ∧
    (∃ (s : State), Safety.canonical s = true ∧ s.serving = true ∧ s.clocks.pll = false ∧ s.bit 0x2120 2 0 = false ∧ s.stage ≠ 2 ∧ s.stage ≠ 3) ∧
    (∃ (s : State), Safety.canonical s = true ∧ s.clocked = true ∧ s.serving = false ∧ s.clocks.crystal = true) ∧
    (∃ (s : State), s.serving = true ∧ s.obj 0x2510 4 ≠ 0 ∧ s.clocks.crystal = false) ∧
    (∃ (s : State), s.rtcSupplied = true) :=
  ⟨⟨live, by decide +kernel, by decide +kernel, by decide +kernel⟩,
   ⟨(withClocks live fun c => { c with mode := 2 }), by decide +kernel⟩,
   ⟨live, by decide +kernel, by decide +kernel, by decide +kernel, by decide +kernel, by decide +kernel⟩,
   ⟨(withClocks surveying fun c => { c with mode := 1 }), by decide +kernel, by decide +kernel, by decide +kernel, by decide +kernel, by decide +kernel, by decide +kernel, by decide +kernel, by decide +kernel⟩,
   ⟨(withClocks live fun c => { c with crystal := true }), by decide +kernel, by decide +kernel, by decide +kernel⟩,
   ⟨(withClocks live fun c => { c with pll := true }), by decide +kernel, by decide +kernel, by decide +kernel⟩,
   ⟨live, by decide +kernel, by decide +kernel, by decide +kernel⟩,
   ⟨surveying, by decide +kernel, by decide +kernel, by decide +kernel, by decide +kernel, by decide +kernel, by decide +kernel⟩,
   ⟨(withLife (withClocks live fun c => { c with crystal := true }) fun c => { c with st := .boot }), by decide +kernel, by decide +kernel, by decide +kernel, by decide +kernel⟩,
   ⟨(withSupply live fun c => { c with usbConfigured := true }), by decide +kernel, by decide +kernel, by decide +kernel⟩,
   ⟨live, by decide +kernel⟩⟩

/-- Inputs that meet the hypotheses of each clause of O10. -/
theorem test_hypotheses_of_SupplyLevelsAct :
    (∃ (mv : BitVec 16) (s : State), Safety.canonical s = true ∧ 3900 < mv.toNat ∧ s.supply.vin = false) ∧
    (∃ (mv : BitVec 16) (s : State), mv.toNat ≤ 3900) ∧
    (∃ (mv : BitVec 16) (s : State), mv.toNat < 3800 ∧ s.supply.vin = true ∧ s.supply.vbus = false) ∧
    (∃ (mv : BitVec 16) (s : State), Safety.canonical s = true ∧ mv.toNat < 3800 ∧ s.supply.vin = true ∧ s.supply.vbus = true ∧ s.serving = true ∧ 3 ≤ s.nat 0x2100 1 ∧ s.supply.vinLost = false) ∧
    (∃ (mv : BitVec 16) (s : State), Safety.canonical s = true ∧ 3900 < mv.toNat ∧ s.supply.vbus = false ∧ s.serving = true ∧ s.funcState 9 = 0 ∧ s.obj 0x2510 4 = 0) ∧
    (∃ (mv : BitVec 16) (s : State), mv.toNat < 3800 ∧ s.supply.vbus = true ∧ s.supply.vin = false) ∧
    (∃ (mv : BitVec 16) (s : State), Safety.canonical s = true ∧ mv.toNat < 3800 ∧ s.supply.vbus = true ∧ s.supply.vin = true ∧ s.serving = true) ∧
    (∃ (s : State), Safety.canonical s = true ∧ s.serving = true ∧ s.supply.vinLost = true ∧ s.supply.vin = true ∧ 3 ≤ s.nat 0x2100 1) ∧
    (∃ (mv : BitVec 16) (s : State), mv.toNat < 1800) ∧
    (∃ (mv : BitVec 16) (s : State), 1800 ≤ mv.toNat) ∧
    (∃ (mv : BitVec 16) (s : State), Safety.canonical s = true ∧ mv.toNat < 2700 ∧ s.supply.vpwm = true) ∧
    (∃ (mv : BitVec 16) (s : State), mv.toNat < 2700 ∧ s.supply.vpwm = true ∧ s.anyOn = false ∧ s.outline.active = false ∧ s.outline.startedDrive = false ∧ s.outline.startedStore = false ∧ Safety.canonical s = true) ∧
    (∃ (mv : BitVec 16) (s : State), Safety.canonical s = true ∧ 2700 ≤ mv.toNat ∧ s.supply.vpwm = false) :=
  ⟨⟨3901, (withSupply live fun c => { c with vin := false }), by decide +kernel, by decide +kernel, by decide +kernel⟩,
   ⟨3900, live, by decide +kernel⟩,
   ⟨3799, live, by decide +kernel, by decide +kernel, by decide +kernel⟩,
   ⟨3799, (withSupply live fun c => { c with vbus := true }), by decide +kernel, by decide +kernel, by decide +kernel, by decide +kernel, by decide +kernel, by decide +kernel, by decide +kernel⟩,
   ⟨3901, (puts live [(0x2510, 4, 0)]), by decide +kernel, by decide +kernel, by decide +kernel, by decide +kernel, by decide +kernel, by decide +kernel⟩,
   ⟨3799, (withSupply live fun c => { c with vbus := true, vin := false }), by decide +kernel, by decide +kernel, by decide +kernel⟩,
   ⟨3799, (withSupply live fun c => { c with vbus := true }), by decide +kernel, by decide +kernel, by decide +kernel, by decide +kernel, by decide +kernel⟩,
   ⟨(withSupply live fun c => { c with vinLost := true }), by decide +kernel, by decide +kernel, by decide +kernel, by decide +kernel, by decide +kernel⟩,
   ⟨1799, live, by decide +kernel⟩,
   ⟨1800, live, by decide +kernel⟩,
   ⟨2699, live, by decide +kernel, by decide +kernel, by decide +kernel⟩,
   ⟨2699, live, by decide +kernel, by decide +kernel, by decide +kernel, by decide +kernel, by decide +kernel, by decide +kernel, by decide +kernel⟩,
   ⟨2700, (withSupply live fun c => { c with vpwm := false }), by decide +kernel, by decide +kernel, by decide +kernel⟩⟩

/-- Inputs that meet the hypotheses of each clause of O11. -/
theorem test_hypotheses_of_ResetsAct :
    (∃ (s : State), s.life.st = .run ∧ s.life.resetKind = none) ∧
    (∃ (s : State), s.life.st = .sleep) ∧
    (∃ (k : Nat) (s : State), s.clocked = true ∧ s.life.resetKind = some k) ∧
    (∃ (s : State), s.life.st = .reset ∧ s.life.thermalHold = false ∧ s.supply.vin = true) ∧
    (∃ (s : State), s.clocked = true ∧ s.life.resetKind = none) ∧
    (∃ (j : BitVec 16) (s : State), s.clocked = true ∧ s.life.resetKind = none ∧ s.life.thermalHold = false ∧ 1650 ≤ j.toInt) ∧
    (∃ (s : State), s.life.thermalHold = true ∧ s.life.st = .reset) ∧
    (∃ (j : BitVec 16) (s : State), Safety.canonical s = true ∧ s.serving = true ∧ 1400 ≤ j.toInt) ∧
    (∃ (j : BitVec 16) (s : State), Safety.canonical s = true ∧ s.serving = true ∧ j.toInt < 1350) ∧
    (∃ (us : BitVec 16) (s : State), Safety.canonical s = true ∧ s.serving = true ∧ s.supply.pfw = true ∧ s.supply.flushing = true) ∧
    (∃ (s : State), Safety.canonical s = true ∧ s.serving = true ∧ s.supply.pfw = true ∧ (s.bit 0x2130 5 0 = true → s.obj 0x2130 4 + 200 ≤ s.obj 0x2130 1) ∧ (s.bit 0x2130 5 1 = true → s.energy.interruption.active = false)) :=
  ⟨⟨live, by decide +kernel, by decide +kernel⟩,
   ⟨(withLife live fun c => { c with st := .sleep }), by decide +kernel⟩,
   ⟨1, (withLife live fun c => { c with resetKind := some 1 }), by decide +kernel, by decide +kernel⟩,
   ⟨(withLife live fun c => { c with st := .reset }), by decide +kernel, by decide +kernel, by decide +kernel⟩,
   ⟨live, by decide +kernel, by decide +kernel⟩,
   ⟨1650, live, by decide +kernel, by decide +kernel, by decide +kernel, by decide +kernel⟩,
   ⟨(withLife live fun c => { c with st := .reset, thermalHold := true }), by decide +kernel, by decide +kernel⟩,
   ⟨1400, live, by decide +kernel, by decide +kernel, by decide +kernel⟩,
   ⟨1349, live, by decide +kernel, by decide +kernel, by decide +kernel⟩,
   ⟨1, warned, by decide +kernel, by decide +kernel, by decide +kernel, by decide +kernel⟩,
   ⟨(puts warned [(0x2130, 1, 24000)]), by decide +kernel, by decide +kernel, by decide +kernel, by decide +kernel, by decide +kernel⟩⟩

/-- Inputs that meet the hypotheses of each clause of O12. -/
theorem test_hypotheses_of_BringUpGoesOn :
    (∃ (codes : List (BitVec 12)) (spi : BitVec 24) (s : State), Safety.canonical s = true ∧ s.life.st = .boot ∧ s.life.resetKind = none) ∧
    (∃ (readings : List (BitVec 16)) (s : State), Safety.canonical s = true ∧ s.serving = true ∧ s.life.dewRunning = true ∧ (highestReading (maskList 12 (s.nat 0x2128 2)) readings).1 ≤ s.nat 0x2128 3) ∧
    (∃ (readings : List (BitVec 16)) (s : State), Safety.canonical s = true ∧ s.serving = true ∧ s.life.dewRunning = true ∧ s.nat 0x2128 3 < (highestReading (maskList 12 (s.nat 0x2128 2)) readings).1) ∧
    (∃ (readings : List (BitVec 16)) (s : State), Safety.canonical s = true ∧ s.serving = true ∧ s.life.dewRunning = true ∧ s.stage = 0 ∧ s.standing dvWetHold = false ∧ s.nat 0x2128 3 < (highestReading (maskList 12 (s.nat 0x2128 2)) readings).1) ∧
    (∃ (s : State), s.serving = true ∧ s.standing dvWetHold = true ∧ s.life.dewRunning = false) ∧
    (∃ (ch : Channel) (tag : BitVec 16) (s : State), Safety.canonical s = true ∧ Safety.actionAdmits s ch 0x2128 5 tag.toNat 1) :=
  ⟨⟨[], 1, State.reset, by decide +kernel, by decide +kernel, by decide +kernel⟩,
   ⟨[200], (withLife surveying fun c => { c with dewRunning := true }), by decide +kernel, by decide +kernel, by decide +kernel, by decide +kernel⟩,
   ⟨[201], (withLife surveying fun c => { c with dewRunning := true }), by decide +kernel, by decide +kernel, by decide +kernel, by decide +kernel⟩,
   ⟨[201], (withLife surveying fun c => { c with dewRunning := true }), by decide +kernel, by decide +kernel, by decide +kernel, by decide +kernel, by decide +kernel, by decide +kernel⟩,
   ⟨(uncleared live dvWetHold 1), by decide +kernel, by decide +kernel, by decide +kernel⟩,
   ⟨.sdo, 1, (puts live [(0x2120, 1, 1)]), by decide +kernel, actionAdmits_of (by decide +kernel)⟩⟩

/-- Inputs that meet the hypotheses of each clause of O13. -/
theorem test_hypotheses_of_PowerStatesChange :
    (∃ (s : State), Safety.canonical s = true ∧ s.serving = true ∧ s.power = 2 ∧ s.obj 0x2100 3 = 2 ∧ s.life.joining = false ∧ (s.life.joinedOnce = true ∨ s.isRingLead = false)) ∧
    (∃ (s : State), Safety.canonical s = true ∧ s.serving = true ∧ s.power = 2 ∧ s.obj 0x2100 3 = 2 ∧ s.life.joining = false ∧ s.life.joinedOnce = false ∧ s.isRingLead = true ∧ s.obj 0x2400 1 = 1 ∧ s.funcState 7 = 0 ∧ s.outline.active = false ∧ s.ring.joined = false ∧ s.ring.leaving = none ∧ s.obj 0x2400 2 ≠ 6) ∧
    (∃ (s : State), Safety.canonical s = true ∧ s.serving = true ∧ s.power = 3 ∧ s.obj 0x2100 3 = 0 ∧ s.obj 0x2100 1 = 4) ∧
    (∃ (s : State), Safety.canonical s = true ∧ s.serving = true ∧ s.power = 4 ∧ s.obj 0x2100 3 = 1 ∧ s.anyOnOrStopping = false) ∧
    (∃ (s : State), Safety.canonical s = true ∧ s.serving = true ∧ s.power = 3 ∧ s.obj 0x2100 3 = 3 ∧ s.ring.leaving = none) ∧
    (∃ (s : State), Safety.canonical s = true ∧ s.poweringDown = true ∧ s.life.downTo ≠ 0) ∧
    (∃ (s : State), Safety.canonical s = true ∧ s.poweringDown = true ∧ s.life.downTo = 0) ∧
    (∃ (s : State), s.life.st = .sleep) ∧
    (∃ (source : WakeSource) (s : State), s.life.st = .sleep ∧ source ≠ .resetPin ∧ (source = .vbus → s.supply.vbus = true)) ∧
    (∃ (ch : Channel) (v : Byte) (s : State), Safety.canonical s = true ∧ Safety.admits s ch 0x2100 1 [v] ∧ v.toNat = 4 ∧ s.power = 2 ∧ s.obj 0x2100 3 = 0 ∧ s.upAllowed = true ∧ s.supply.vinLost = false) ∧
    (∃ (ch : Channel) (v : Byte) (s : State), Safety.canonical s = true ∧ Safety.admits s ch 0x2100 1 [v] ∧ v.toNat < 4 ∧ s.power = 4 ∧ s.obj 0x2100 3 = 0 ∧ s.supply.vinLost = false) ∧
    (∃ (ch : Channel) (v : Byte) (s : State), Safety.canonical s = true ∧ Safety.admits s ch 0x2100 1 [v] ∧ v.toNat ≤ 1 ∧ s.power = 2 ∧ s.obj 0x2100 3 = 0) :=
  ⟨⟨(withLife (puts live [(0x2100, 1, 3), (0x2100, 2, 2), (0x2100, 3, 2)]) fun c => { c with joinedOnce := true }), by decide +kernel, by decide +kernel, by decide +kernel, by decide +kernel, by decide +kernel, by decide +kernel⟩,
   ⟨(puts live [(0x2100, 1, 3), (0x2100, 2, 2), (0x2100, 3, 2), (0x2400, 1, 1)]), by decide +kernel, by decide +kernel, by decide +kernel, by decide +kernel, by decide +kernel, by decide +kernel, by decide +kernel, by decide +kernel, by decide +kernel, by decide +kernel, by decide +kernel, by decide +kernel, by decide +kernel⟩,
   ⟨(puts live [(0x2100, 1, 4)]), by decide +kernel, by decide +kernel, by decide +kernel, by decide +kernel, by decide +kernel⟩,
   ⟨(puts live [(0x2100, 1, 3), (0x2100, 2, 4), (0x2100, 3, 1)]), by decide +kernel, by decide +kernel, by decide +kernel, by decide +kernel, by decide +kernel⟩,
   ⟨(puts live [(0x2100, 1, 2), (0x2100, 3, 3)]), by decide +kernel, by decide +kernel, by decide +kernel, by decide +kernel, by decide +kernel⟩,
   ⟨(withLife (puts live [(0x2100, 1, 1), (0x2100, 2, 2), (0x2100, 3, 4)]) fun c => { c with downTo := 1 }), by decide +kernel, by decide +kernel, by decide +kernel⟩,
   ⟨(withLife (puts live [(0x2100, 1, 0), (0x2100, 2, 2), (0x2100, 3, 4)]) fun c => { c with downTo := 0 }), by decide +kernel, by decide +kernel, by decide +kernel⟩,
   ⟨(withLife live fun c => { c with st := .sleep }), by decide +kernel⟩,
   ⟨.vbus, (withSupply (withLife live fun c => { c with st := .sleep }) fun c => { c with vbus := true }), by decide +kernel, by decide +kernel, by decide +kernel⟩,
   ⟨.sdo, 4, standby, by decide +kernel, admits_of (by decide +kernel), by decide +kernel, by decide +kernel, by decide +kernel, by decide +kernel, by decide +kernel⟩,
   ⟨.sdo, 3, (puts live [(0x2100, 1, 4), (0x2100, 2, 4)]), by decide +kernel, admits_of (by decide +kernel), by decide +kernel, by decide +kernel, by decide +kernel, by decide +kernel⟩,
   ⟨.sdo, 1, standby, by decide +kernel, admits_of (by decide +kernel), by decide +kernel, by decide +kernel, by decide +kernel⟩⟩

/-- Inputs that meet the hypotheses of each clause of O14. -/
theorem test_hypotheses_of_MeridianRuns :
    (∃ (period rms : Nat) (s : State), Safety.canonical s = true ∧ s.serving = true ∧ s.tracker ≠ 1 ∧ s.nat 0x5060 1 ≤ 5 * rms ∧ s.meridian.qualified = 7 ∧ inLockRange period = true ∧ periodsAgree s.meridian.lastPeriod period = true) ∧
    (∃ (period rms : Nat) (s : State), s.serving = true ∧ s.tracker = 1 ∧ s.nat 0x5060 1 ≤ 5 * rms ∧ inLockRange period = true) ∧
    (∃ (period rms : Nat) (s : State), s.serving = true ∧ s.tracker ≠ 1 ∧ 5 * rms < s.nat 0x5060 1) ∧
    (∃ (s : State), Safety.canonical s = true ∧ s.tracker = 1 ∧ s.obj 0x2200 5 ≠ 0) ∧
    (∃ (s : State), Safety.canonical s = true ∧ s.tracker = 2) ∧
    (∃ (s : State), s.serving = true ∧ s.ringFollower = false) ∧
    (∃ (i : Fin 4) (closed : Bool) (s : State), Safety.canonical s = true ∧ s.fullService = true ∧ s.meridian.relays[i].due = some closed ∧ s.meridian.relays[i].waiting = none) ∧
    (∃ (i : Fin 4) (us : Nat) (before after : BitVec 32) (s : State), Safety.canonical s = true ∧ s.meridian.relays[i].measuring = some true ∧ ((before.toNat : Int) ≤ s.fast 0x2600 (0x1D + i.val) ∧ s.fast 0x2600 (0x1D + i.val) < after.toNat ∨ (after.toNat : Int) ≤ s.fast 0x2600 (0x1D + i.val) ∧ s.fast 0x2600 (0x1D + i.val) < before.toNat) ∧ s.fast 0x2600 (0x0A + i.val) ≠ 0 ∧ s.fastBit 0x2600 (0x16 + i.val) 0 = true ∧ 500 ≤ us ∧ us ≤ 50000 ∧ s.obj 0x2600 (0x0E + i.val) - 2000 ≤ us ∧ (us : Int) ≤ s.obj 0x2600 (0x0E + i.val) + 2000) ∧
    (∃ (i : Fin 4) (us : Nat) (before after : BitVec 32) (s : State), (before.toNat : Int) ≤ s.fast 0x2600 (0x1D + i.val) ∧ (after.toNat : Int) ≤ s.fast 0x2600 (0x1D + i.val)) ∧
    (∃ (up : Bool) (s : State), Safety.canonical s = true) ∧
    (∃ (s : State), Safety.canonical s = true) ∧
    (∃ (n v : Nat) (rest : List (Nat × Nat)) (s : State), Safety.canonical s = true ∧ s.serving = true ∧ s.meridian.queue = (n, v) :: rest ∧ (entryOf v).action = 8) ∧
    (∃ (n v : Nat) (rest : List (Nat × Nat)) (s : State), s.serving = true ∧ s.meridian.queue = (n, v) :: rest ∧ (entryOf v).action = 6 ∧ s.obj 0x1006 0 = 0 ∧ s.syncAllowed = true ∧ s.nat 0x1019 0 = 0) :=
  ⟨⟨4800000, 50000, (withMeridian live fun c => { c with qualified := 7, lastPeriod := 4800000 }), by decide +kernel, by decide +kernel, by decide +kernel, by decide +kernel, by decide +kernel, by decide +kernel, by decide +kernel⟩,
   ⟨3428572, 50000, (puts live [(0x2200, 1, 1)]), by decide +kernel, by decide +kernel, by decide +kernel, by decide +kernel⟩,
   ⟨1, 0, live, by decide +kernel, by decide +kernel, by decide +kernel⟩,
   ⟨(puts live [(0x2200, 1, 1)]), by decide +kernel, by decide +kernel, by decide +kernel⟩,
   ⟨(puts live [(0x2200, 1, 2)]), by decide +kernel, by decide +kernel⟩,
   ⟨live, by decide +kernel, by decide +kernel⟩,
   ⟨0, true, (withMeridian live fun c => { c with relays := Vector.replicate 4 { due := some true } }), by decide +kernel, by decide +kernel, by decide +kernel, by decide +kernel⟩,
   ⟨0, 8000, 100, 101, (withMeridian (puts live [(0x2600, 0x0A, 1), (0x2600, 0x16, 1), (0x2600, 0x1D, 100)]) fun c => { c with relays := Vector.replicate 4 { measuring := some true } }), by decide +kernel, by decide +kernel, by decide +kernel, by decide +kernel, by decide +kernel, by decide +kernel, by decide +kernel, by decide +kernel, by decide +kernel⟩,
   ⟨0, 8000, 100, 100, (withMeridian (puts live [(0x2600, 0x0A, 1), (0x2600, 0x16, 1), (0x2600, 0x1D, 100)]) fun c => { c with relays := Vector.replicate 4 { measuring := some true } }), by decide +kernel, by decide +kernel⟩,
   ⟨false, live, by decide +kernel⟩,
   ⟨live, by decide +kernel⟩,
   ⟨0, 0x08000000, [], (withMeridian live fun c => { c with queue := [(0, 0x08000000)] }), by decide +kernel, by decide +kernel, by decide +kernel, by decide +kernel⟩,
   ⟨0, 0x06000000, [], (withMeridian (puts live [(0x1005, 0, 0x40000080)]) fun c => { c with queue := [(0, 0x06000000)] }), by decide +kernel, by decide +kernel, by decide +kernel, by decide +kernel, by decide +kernel, by decide +kernel⟩⟩

/-- Inputs that meet the hypotheses of each clause of O15. -/
theorem test_hypotheses_of_EventFabricActs :
    (∃ (event : Fin 640) (data : BitVec 64) (i : EventInfo) (s : State), Safety.canonical s = true ∧ s.serving = true ∧ eventInfo event.val = some i ∧ i.kind ≠ .trigger) ∧
    (∃ (event : Fin 640) (data : BitVec 64) (i : EventInfo) (s : State), eventInfo event.val = some i ∧ i.kind = .trigger ∧ Safety.uncleared s event.val = false) ∧
    (∃ (event : Fin 640) (data : BitVec 64) (s : State), Safety.canonical s = true ∧ s.serving = true) ∧
    (∃ (o : Occurrence) (rest : List Occurrence) (s : State), Safety.canonical s = true ∧ s.serving = true ∧ s.fabric.fifo = o :: rest ∧ s.recording = false ∧ o.resp < 2 ∧ o.secondary = false) ∧
    (∃ (o : Occurrence) (rest : List Occurrence) (s : State), s.serving = true ∧ s.fabric.fifo = o :: rest ∧ s.recording = true ∧ Safety.canonical s = true ∧ s.recorder.staging = [] ∧ s.recorder.overflowDue = false ∧ s.stagingUsed < 56 ∧ severityOf o.ev < 4) ∧
    (∃ (s : State), s.fullService = true) ∧
    (∃ (s : State), (s.life.st = .reset ∨ s.life.st = .boot ∨ s.life.st = .sleep ∨ (s.life.st = .run ∧ s.fullService = false))) ∧
    (∃ (s : State), s.life.st = .run) ∧
    (∃ (e : Nat) (s : State), Safety.canonical s = true ∧ s.serving = true ∧ s.fabric.overflow = [e] ∧ s.fabric.fifo.length < 64 ∧ s.responseOf e ≠ 0) ∧
    (∃ (ch : Channel) (tag : BitVec 16) (event : Fin 640) (s : State), Safety.actionAdmits s ch 0x2300 2 tag.toNat event.val) ∧
    (∃ (ch : Channel) (tag : BitVec 16) (s : State), Safety.actionAdmits s ch 0x2300 2 tag.toNat 0x0FFF) ∧
    (∃ (ch : Channel) (tag : BitVec 16) (s : State), Safety.canonical s = true ∧ Safety.actionAdmits s ch 0x2300 3 tag.toNat 1 ∧ s.fabric.uncleared = []) ∧
    (∃ (ch : Channel) (tag : BitVec 16) (flags : BitVec 4) (s : State), Safety.canonical s = true ∧ Safety.actionAdmits s ch 0x2320 2 tag.toNat flags.toNat) ∧
    (∃ (ch : Channel) (event : Fin 640) (entry : Byte) (s : State), Safety.canonical s = true ∧ Safety.admits s ch (0x2310 + event.val / 128) (event.val % 128 + 1) [entry]) :=
  ⟨⟨0x220, 1, (infoOf 0x220), live, by decide +kernel, by decide +kernel, by decide +kernel, by decide +kernel⟩,
   ⟨0, 1, (infoOf 0), live, by decide +kernel, by decide +kernel, by decide +kernel⟩,
   ⟨0, 1, live, by decide +kernel, by decide +kernel⟩,
   ⟨⟨0x100, 1, 0, 0, false, 0, false, false, false, 0⟩, [], ({ (puts live [(0x2110, 9, 2)]) with fabric := { ((puts live [(0x2110, 9, 2)])).fabric with fifo := [⟨0x100, 1, 0, 0, false, 0, false, false, false, 0⟩] } }), by decide +kernel, by decide +kernel, by decide +kernel, by decide +kernel, by decide +kernel, by decide +kernel⟩,
   ⟨⟨0x100, 1, 0, 0, false, 0, false, false, false, 0⟩, [], ({ live with fabric := { (live).fabric with fifo := [⟨0x100, 1, 0, 0, false, 0, false, false, false, 0⟩] } }), by decide +kernel, by decide +kernel, by decide +kernel, by decide +kernel, by decide +kernel, by decide +kernel, by decide +kernel, by decide +kernel⟩,
   ⟨live, by decide +kernel⟩,
   ⟨surveying, by decide +kernel⟩,
   ⟨live, by decide +kernel⟩,
   ⟨0x100, { live with fabric := { live.fabric with overflow := [0x100] } }, by decide +kernel, by decide +kernel, by decide +kernel, by decide +kernel, by decide +kernel⟩,
   ⟨.sdo, 1, 0, live, actionAdmits_of (by decide +kernel)⟩,
   ⟨.sdo, 1, live, actionAdmits_of (by decide +kernel)⟩,
   ⟨.sdo, 1, live, by decide +kernel, actionAdmits_of (by decide +kernel), by decide +kernel⟩,
   ⟨.sdo, 1, 1, live, by decide +kernel, actionAdmits_of (by decide +kernel)⟩,
   ⟨.sdo, 0x220, 1, live, by decide +kernel, admits_of (by decide +kernel)⟩⟩

/-- Inputs that meet the hypotheses of each clause of O16. -/
theorem test_hypotheses_of_SafetyPathActs :
    (∃ (b : Bool) (s : State), s.serving = true) ∧
    (∃ (b : Bool) (s : State), Safety.canonical s = true ∧ s.serving = true) ∧
    (∃ (a b : Bool) (s : State), s.serving = true ∧ s.safety.seen = true) ∧
    (∃ (s : State), s.serving = true ∧ s.safety.seen = true ∧ 3 ≤ s.safety.runA ∧ s.safety.runB < 3) ∧
    (∃ (s : State), Safety.canonical s = true ∧ s.serving = true ∧ s.safety.filtA ≠ s.safety.filtB ∧ s.safety.faulted = false ∧ 10 * s.nat 0x2330 1 ≤ s.safety.count) ∧
    (∃ (s : State), s.permitReady = true) ∧
    (∃ (s : State), s.permitReady = false) ∧
    (∃ (ch : Channel) (tag : BitVec 16) (s : State), Safety.actionAdmits s ch 0x2300 4 tag.toNat 1) ∧
    (∃ (ch : Channel) (tag : BitVec 16) (s : State), Safety.canonical s = true ∧ Safety.actionAdmits s ch 0x2300 4 tag.toNat 2 ∧ s.responseOf dvOutlineExit < 6) ∧
    (∃ (ch : Channel) (tag : BitVec 16) (s : State), Safety.actionAdmits s ch 0x2340 1 tag.toNat 1) :=
  ⟨⟨false, live, by decide +kernel⟩,
   ⟨false, live, by decide +kernel, by decide +kernel⟩,
   ⟨false, false, (withSafety live fun c => { c with seen := true }), by decide +kernel, by decide +kernel⟩,
   ⟨(withSafety live fun c => { c with seen := true, runA := 3, runB := 2 }), by decide +kernel, by decide +kernel, by decide +kernel, by decide +kernel⟩,
   ⟨(withSafety live fun c => { c with filtA := true, count := 60000 }), by decide +kernel, by decide +kernel, by decide +kernel, by decide +kernel, by decide +kernel⟩,
   ⟨(withSafety live fun c => { c with seen := true, filtA := true, filtB := true, pinA := true, pinB := true }), by decide +kernel⟩,
   ⟨live, by decide +kernel⟩,
   ⟨.sdo, 1, live, actionAdmits_of (by decide +kernel)⟩,
   ⟨.sdo, 1, live, by decide +kernel, actionAdmits_of (by decide +kernel), by decide +kernel⟩,
   ⟨.sdo, 1, live, actionAdmits_of (by decide +kernel)⟩⟩

/-- Inputs that meet the hypotheses of each clause of O17. -/
theorem test_hypotheses_of_FunctionLadderActs :
    (∃ (ch : Channel) (tag : BitVec 16) (s : State), Safety.actionAdmits s ch 0x2110 1 tag.toNat (functionArg 10 1)) ∧
    (∃ (ch : Channel) (tag : BitVec 16) (s : State), Safety.canonical s = true ∧ Safety.actionAdmits s ch 0x2110 1 tag.toNat (functionArg 10 2) ∧ s.funcState 10 = 0 ∧ s.responseOf dvFuncCommand < 4) ∧
    (∃ (ch : Channel) (tag : BitVec 16) (r : RailId) (s : State), Safety.canonical s = true ∧ Safety.actionAdmits s ch 0x2110 1 tag.toNat (functionArg ⟨r.val, by omega⟩ 3) ∧ s.funcState r.val ≠ 2 ∧ s.responseOf dvFuncCommand < 4) ∧
    (∃ (ch : Channel) (tag : BitVec 16) (s : State), Safety.canonical s = true ∧ Safety.actionAdmits s ch 0x2110 1 tag.toNat (functionArg 10 4) ∧ s.responseOf dvFuncCommand < 4) ∧
    (∃ (s : State), Safety.canonical s = true ∧ s.serving = true ∧ s.funcState 10 = 1) ∧
    (∃ (r : RailId) (s : State), Safety.canonical s = true ∧ s.serving = true ∧ s.funcState r.val = 1 ∧ s.rails[r].stop = .none) ∧
    (∃ (s : State), Safety.canonical s = true ∧ s.serving = true ∧ s.funcState 9 = 3) ∧
    (∃ (ch : Channel) (tag ms : BitVec 16) (s : State), Safety.canonical s = true ∧ Safety.actionAdmits s ch 0x2110 2 tag.toNat ms.toNat ∧ s.responseOf dvPowerCycle < 4) ∧
    (∃ (s : State), Safety.canonical s = true ∧ s.serving = true ∧ s.obj 0x2110 0x10 = 1) ∧
    (∃ (s : State), Safety.canonical s = true ∧ s.supply.pwrcycN = false ∧ s.obj 0x2110 0x10 = 2) :=
  ⟨⟨.sdo, 1, live, actionAdmits_of (by decide +kernel)⟩,
   ⟨.sdo, 1, live, by decide +kernel, actionAdmits_of (by decide +kernel), by decide +kernel, by decide +kernel⟩,
   ⟨.sdo, 1, 0, live, by decide +kernel, actionAdmits_of (by decide +kernel), by decide +kernel, by decide +kernel⟩,
   ⟨.sdo, 1, live, by decide +kernel, actionAdmits_of (by decide +kernel), by decide +kernel⟩,
   ⟨(puts live [(0x2110, 13, 1)]), by decide +kernel, by decide +kernel, by decide +kernel⟩,
   ⟨4, (puts live [(0x2110, 7, 1)]), by decide +kernel, by decide +kernel, by decide +kernel, by decide +kernel⟩,
   ⟨(puts live [(0x2110, 12, 3)]), by decide +kernel, by decide +kernel, by decide +kernel⟩,
   ⟨.sdo, 1, 10, live, by decide +kernel, actionAdmits_of (by decide +kernel), by decide +kernel⟩,
   ⟨(puts live [(0x2110, 0x10, 1)]), by decide +kernel, by decide +kernel, by decide +kernel⟩,
   ⟨(withSupply (puts live [(0x2110, 0x10, 2)]) fun c => { c with pwrcycN := false }), by decide +kernel, by decide +kernel, by decide +kernel⟩⟩

/-- Inputs that meet the hypotheses of each clause of O18. -/
theorem test_hypotheses_of_SensingFrontEndsAct :
    (∃ (p : PhaseId) (s : State), s.phaseSensed p = true ∧ s.adcs[s.adcOf p].length ≤ 8) ∧
    (∃ (p : PhaseId) (s : State), (s.phaseSensed p = false ∨ 8 < s.adcs[s.adcOf p].length)) ∧
    (∃ (p : PhaseId) (code : BitVec 12) (rest : List Nat) (s : State), Safety.canonical s = true ∧ s.adcs[s.adcOf p] = p.val :: rest) ∧
    (∃ (p : PhaseId) (positive : Bool) (clocks : Nat) (s : State), Safety.canonical s = true ∧ s.phaseSensed p = true ∧ s.fastNat (phaseIx p 5) 5 ≤ clocks ∧ s.outlineDrivenPhase p = false ∧ s.fastNat (phaseIx p 5) 6 = 2 ∧ (if positive then s.phases[p].ocPos else s.phases[p].ocNeg) = false) ∧
    (∃ (p : PhaseId) (positive : Bool) (clocks : Nat) (s : State), Safety.canonical s = true ∧ s.phaseSensed p = true ∧ s.fastNat (phaseIx p 5) 5 ≤ clocks ∧ (s.outlineDrivenPhase p = true ∨ s.fastNat (phaseIx p 5) 6 = 1) ∧ (if positive then s.phases[p].ocPos else s.phases[p].ocNeg) = false) ∧
    (∃ (p : PhaseId) (positive : Bool) (clocks : Nat) (s : State), (s.phaseSensed p = false ∨ clocks < s.fastNat (phaseIx p 5) 5)) ∧
    (∃ (r : VRailId) (codes : List (BitVec 9)) (s : State), Safety.canonical s = true ∧ s.errorSensed (vrail r) = true ∧ (s.triggerPhase (vrail r)).isSome = true) ∧
    (∃ (r : VRailId) (s : State), Safety.canonical s = true ∧ s.vsense[r].saturated = true ∧ s.vsense[r].windowRaised = false) ∧
    (∃ (r : VRailId) (s : State), Safety.canonical s = true ∧ 64 ≤ s.vsense[r].mismatch) ∧
    (∃ (r : VRailId) (codes block : List (BitVec 14)) (last : BitVec 14) (s : State), Safety.canonical s = true ∧ s.serving = true ∧ s.dewHolds r = false ∧ s.fastNat (railIx (vrail r) 0x50) 0x0B ≤ codes.length ∧ block = codes.take (s.fastNat (railIx (vrail r) 0x50) 0x0B) ∧ block.getLast? = some last) ∧
    (∃ (r : VRailId) (codes : List (BitVec 14)) (s : State), s.dewHolds r = true) ∧
    (∃ (r : VRailId) (code : BitVec 14) (s : State), Safety.canonical s = true ∧ s.serving = true ∧ s.dewHolds r = false ∧ 1900 * 16384 < 2000 * code.toNat) ∧
    (∃ (r : VRailId) (code : BitVec 14) (s : State), 2000 * code.toNat ≤ 1900 * 16384) ∧
    (∃ (r : VRailId) (s : State), Safety.canonical s = true ∧ 2000 * s.nat (railIx (vrail r) 0x50) 9 < 1800 * 16384) ∧
    (∃ (c : AuxId) (codes : List (BitVec 12)) (s : State), Safety.canonical s = true ∧ s.serving = true ∧ s.auxNext = some c.val ∧ s.fastNat 0x4130 2 ≤ codes.length) ∧
    (∃ (c : AuxId) (code : BitVec 12) (rest : List Nat) (s : State), Safety.canonical s = true ∧ s.auxSequence.requests = c.val :: rest) :=
  ⟨⟨0, onNow, by decide +kernel, by decide +kernel⟩,
   ⟨0, live, by decide +kernel⟩,
   ⟨0, 1, [], { live with adcs := Vector.replicate 3 [0] }, by decide +kernel, by decide +kernel⟩,
   ⟨0, false, 65535, (puts onNow [(0x4005, 6, 2)]), by decide +kernel, by decide +kernel, by decide +kernel, by decide +kernel, by decide +kernel, by decide +kernel⟩,
   ⟨0, false, 65535, (puts onNow [(0x4005, 6, 1)]), by decide +kernel, by decide +kernel, by decide +kernel, by decide +kernel, by decide +kernel⟩,
   ⟨0, false, 65535, live, by decide +kernel⟩,
   ⟨0, [], onNow, by decide +kernel, by decide +kernel, by decide +kernel⟩,
   ⟨0, { live with vsense := Vector.replicate 4 { saturated := true } }, by decide +kernel, by decide +kernel, by decide +kernel⟩,
   ⟨0, { live with vsense := Vector.replicate 4 { mismatch := 64 } }, by decide +kernel, by decide +kernel⟩,
   ⟨0, List.replicate 64 1, [1], 1, (puts live [(0x3050, 0x0B, 1)]), by decide +kernel, by decide +kernel, by decide +kernel, by decide +kernel, by decide +kernel, by decide +kernel⟩,
   ⟨0, [], (withLife (puts surveying [(0x2128, 2, 16)]) fun c => { c with dewRunning := true, dewAt := 1000 }), by decide +kernel⟩,
   ⟨0, 15566, live, by decide +kernel, by decide +kernel, by decide +kernel, by decide +kernel⟩,
   ⟨0, 1, live, by decide +kernel⟩,
   ⟨0, live, by decide +kernel, by decide +kernel⟩,
   ⟨0, List.replicate 256 1, (puts live [(0x4130, 1, 1), (0x4130, 0x10, 1)]), by decide +kernel, by decide +kernel, by decide +kernel, by decide +kernel⟩,
   ⟨0, 1, [3], { live with auxSequence := { requests := [0, 3] } }, by decide +kernel, by decide +kernel⟩⟩

/-- Inputs that meet the hypotheses of each clause of O19. -/
theorem test_hypotheses_of_PwmGeneratorActs :
    (∃ (p : PhaseId) (s : State), Safety.canonical s = true ∧ s.phases[p].counting = true ∧ s.zeroDue p = true ∧ s.phases[p].spread.drop 1 = [] ∧ s.wantedShift p = s.phases[p].aim) ∧
    (∃ (p : PhaseId) (s : State), s.phases[p].counting = true ∧ s.midUpdate p = true ∧ s.phases[p].switching = false ∧ s.responseOf (phForceApplied p.val) < 4) ∧
    (∃ (p : PhaseId) (s : State), Safety.canonical s = true ∧ s.phases[p].counting = true ∧ s.midUpdate p = true ∧ s.phases[p].switching = false ∧ s.phases[p].force = s.nat (phaseIx p 4) 1) ∧
    (∃ (p : PhaseId) (s : State), Safety.canonical s = true ∧ s.phases[p].counting = true) ∧
    (∃ (p : PhaseId) (s : State), Safety.canonical s = true ∧ s.phases[p].counting = true ∧ s.phases[p].switching = true ∧ s.phases[p].rise < s.phases[p].fall ∧ s.phases[p].fall < s.phases[p].period) ∧
    (∃ (p : PhaseId) (s : State), s.phases[p].counting = true ∧ s.fastNat (phaseIx p 3) 6 < s.phases[p].period) ∧
    (∃ (p : PhaseId) (s : State), s.phases[p].period ≤ s.fastNat (phaseIx p 3) 6) ∧
    (∃ (p : PhaseId) (s : State), s.phases[p].counting = true ∧ s.phases[p].switching = true ∧ s.upDown p = true ∧ s.phases[p].risen = false ∧ s.phases[p].rise < s.phases[p].fall) ∧
    (∃ (p : PhaseId) (s : State), s.phases[p].fall ≤ s.phases[p].rise) ∧
    (∃ (p : PhaseId) (falling : Bool) (steps mv : BitVec 12) (s : State), Safety.canonical s = true ∧ (if falling then s.phases[p].windowF else s.phases[p].windowR) = true ∧ (s.fast (phaseIx p 6) 1 = 2 ∨ (s.fast (phaseIx p 6) 1 = 1 ∧ if falling then (mv.toNat : Rat) ≤ s.nodeThreshold p - 25 / 2 else s.nodeThreshold p + 25 / 2 ≤ (mv.toNat : Rat)))) ∧
    (∃ (p : PhaseId) (falling : Bool) (steps mv : BitVec 12) (s : State), (if falling then s.phases[p].windowF else s.phases[p].windowR) = false) ∧
    (∃ (p : PhaseId) (falling : Bool) (s : State), s.adapts p falling = true ∧ s.fast (phaseIx p 6) 1 ≠ 0 ∧ s.fastNat (phaseIx p 6) 6 ≤ (if falling then s.phases[p].sinceAdaptF else s.phases[p].sinceAdaptR)) ∧
    (∃ (p : PhaseId) (falling : Bool) (s : State), Safety.canonical s = true ∧ 8 ≤ (if falling then s.phases[p].missF else s.phases[p].missR)) ∧
    (∃ (p : PhaseId) (falling : Bool) (s : State), Safety.canonical s = true ∧ 64 ≤ (if falling then s.phases[p].limitF else s.phases[p].limitR) ∧ (if falling then s.phases[p].limitRaisedF else s.phases[p].limitRaisedR) = false) ∧
    (∃ (i : Fin 4) (high : Bool) (clocks : Nat) (s : State), Safety.canonical s = true ∧ s.serving = true ∧ (s.fastNat 0x2630 (1 + i.val)).testBit 0 = true ∧ bits (s.fastNat 0x2630 (1 + i.val)) 15 8 ≤ clocks ∧ high = (!(s.fastNat 0x2630 (1 + i.val)).testBit 1)) ∧
    (∃ (i : Fin 4) (high : Bool) (clocks : Nat) (s : State), Safety.canonical s = true ∧ s.serving = true ∧ (s.fastNat 0x2630 (1 + i.val)).testBit 0 = true ∧ bits (s.fastNat 0x2630 (1 + i.val)) 15 8 ≤ clocks ∧ high = (s.fastNat 0x2630 (1 + i.val)).testBit 1) ∧
    (∃ (i : Fin 4) (high : Bool) (clocks : Nat) (s : State), ((s.fastNat 0x2630 (1 + i.val)).testBit 0 = false ∨ clocks < bits (s.fastNat 0x2630 (1 + i.val)) 15 8)) ∧
    (∃ (ch : Channel) (tag : BitVec 16) (phases : BitVec 12) (s : State), Safety.actionAdmits s ch 0x2630 5 tag.toNat phases.toNat) ∧
    (∃ (ch : Channel) (p : PhaseId) (s : State), Safety.canonical s = true ∧ Safety.admits s ch (phaseIx p 4) 1 [1]) ∧
    (∃ (ch : Channel) (p : PhaseId) (s : State), Safety.canonical s = true ∧ Safety.admits s ch (phaseIx p 4) 1 [2]) ∧
    (∃ (ch : Channel) (p : PhaseId) (s : State), Safety.canonical s = true ∧ Safety.admits s ch (phaseIx p 4) 1 [3]) ∧
    (∃ (ch : Channel) (p : PhaseId) (s : State), Safety.canonical s = true ∧ Safety.admits s ch (phaseIx p 4) 1 [0]) :=
  ⟨⟨0, (State.modPhase live 0 fun c => { c with counting := true, period := 1000 }), by decide +kernel, by decide +kernel, by decide +kernel, by decide +kernel, by decide +kernel⟩,
   ⟨0, (State.modPhase (puts live [(0x4000, 4, 1)]) 0 fun c => { c with counting := true, period := 1000 }), by decide +kernel, by decide +kernel, by decide +kernel, by decide +kernel⟩,
   ⟨0, (State.modPhase (puts live [(0x4000, 4, 1)]) 0 fun c => { c with counting := true, period := 1000 }), by decide +kernel, by decide +kernel, by decide +kernel, by decide +kernel, by decide +kernel⟩,
   ⟨0, (State.modPhase live 0 fun c => { c with counting := true, period := 1000 }), by decide +kernel, by decide +kernel⟩,
   ⟨0, (State.modPhase live 0 fun c => { c with counting := true, switching := true, period := 2000, rise := 100, fall := 1900 }), by decide +kernel, by decide +kernel, by decide +kernel, by decide +kernel, by decide +kernel⟩,
   ⟨0, (State.modPhase (puts live [(0x4003, 6, 1999)]) 0 fun c => { c with counting := true, period := 2000 }), by decide +kernel, by decide +kernel⟩,
   ⟨0, (State.modPhase (puts live [(0x4003, 6, 2000)]) 0 fun c => { c with counting := true, period := 2000 }), by decide +kernel⟩,
   ⟨0, (State.modPhase live 0 fun c => { c with counting := true, switching := true, period := 2000, rise := 100, fall := 1900 }), by decide +kernel, by decide +kernel, by decide +kernel, by decide +kernel, by decide +kernel⟩,
   ⟨0, live, by decide +kernel⟩,
   ⟨0, true, 1, 1200, (State.modPhase (puts live [(0x4006, 1, 1), (0x4006, 2, 1300)]) 0 fun c => { c with windowF := true }), by decide +kernel, by decide +kernel, by decide +kernel⟩,
   ⟨0, false, 1, 1, live, by decide +kernel⟩,
   ⟨0, false, (State.modPhase (puts live [(0x4006, 1, 1), (0x4001, 3, 1)]) 0 fun c => { c with sinceAdaptR := 65535 }), by decide +kernel, by decide +kernel, by decide +kernel⟩,
   ⟨0, true, (State.modPhase live 0 fun c => { c with missF := 8 }), by decide +kernel, by decide +kernel⟩,
   ⟨0, false, (State.modPhase live 0 fun c => { c with limitR := 64 }), by decide +kernel, by decide +kernel, by decide +kernel⟩,
   ⟨0, true, 255, (puts live [(0x2630, 1, 1)]), by decide +kernel, by decide +kernel, by decide +kernel, by decide +kernel, by decide +kernel⟩,
   ⟨0, false, 255, (puts live [(0x2630, 1, 1)]), by decide +kernel, by decide +kernel, by decide +kernel, by decide +kernel, by decide +kernel⟩,
   ⟨0, false, 1, live, by decide +kernel⟩,
   ⟨.sdo, 1, 1, live, actionAdmits_of (by decide +kernel)⟩,
   ⟨.sdo, 0, railed, by decide +kernel, admits_of (by decide +kernel)⟩,
   ⟨.sdo, 0, railed, by decide +kernel, admits_of (by decide +kernel)⟩,
   ⟨.sdo, 0, railed, by decide +kernel, admits_of (by decide +kernel)⟩,
   ⟨.sdo, 0, live, by decide +kernel, admits_of (by decide +kernel)⟩⟩

/-- Inputs that meet the hypotheses of each clause of O20. -/
theorem test_hypotheses_of_RailsRun :
    (∃ (r : RailId) (s : State), s.hasBoundary r = false) ∧
    (∃ (r : RailId) (s : State), s.hasBoundary r = true) ∧
    (∃ (r : RailId) (s : State), Safety.canonical s = true ∧ s.hasBoundary r = true ∧ s.stale = [] ∧ s.flash.mapNext = none ∧ s.rails[r].envPending = [] ∧ s.clampedTarget r = s.rails[r].source ∧ s.rails[r].starting = false ∧ s.rails[r].running = true ∧ s.rails[r].stop = .none ∧ s.rails[r].holding = false ∧ s.drive.reversing = false ∧ s.ledSpan r = none) ∧
    (∃ (r : VRailId) (s : State), s.rails[vrail r].dwell = true ∧ s.rails[vrail r].running = true ∧ s.rails[vrail r].stop = .none ∧ s.nat (railIx (vrail r) 0x30) 9 % 2 = 1 ∧ s.rails[vrail r].window = false) ∧
    (∃ (r : VRailId) (p : PhaseId) (s : State), Safety.canonical s = true ∧ s.rails[vrail r].dwell = true ∧ s.rails[vrail r].running = true ∧ s.rails[vrail r].stop = .none ∧ s.nat (railIx (vrail r) 0x30) 9 % 2 = 0 ∧ (s.activePhases (vrail r)).getLast? = some p ∧ s.currentMode (vrail r) = true ∧ s.responseOf (rlPhaseShed r.val) < 4) ∧
    (∃ (r : RailId) (cond : Fin 4) (s : State), Safety.canonical s = true ∧ (cond = 3 → r = railD) ∧ s.isOn r = true ∧ s.rails[r].stop = .none ∧ s.rails[r].running = true ∧ 0 ≤ s.rails[r].held[cond] ∧ (s.env r 7 : Rat) ≤ s.rails[r].held[cond] ∧ min 255 (s.railObj r 0x40 4 + 1) ≤ s.railObj r 0x00 8 ∧ s.responseOf (rlHiccup r.val) < 4) ∧
    (∃ (r : RailId) (cond : Fin 4) (s : State), Safety.canonical s = true ∧ (cond = 3 → r = railD) ∧ s.isOn r = true ∧ s.rails[r].stop = .none ∧ s.rails[r].running = true ∧ 0 ≤ s.rails[r].held[cond] ∧ (s.env r 7 : Rat) ≤ s.rails[r].held[cond] ∧ s.railObj r 0x00 8 < min 255 (s.railObj r 0x40 4 + 1)) ∧
    (∃ (r : RailId) (s : State), r ≠ railD) ∧
    (∃ (r : RailId) (s : State), Safety.canonical s = true ∧ s.rails[r].hiccup = true ∧ s.enableRule r = none) ∧
    (∃ (r : RailId) (code : Nat) (s : State), Safety.canonical s = true ∧ s.rails[r].hiccup = true ∧ s.enableRule r = some code) ∧
    (∃ (r : RailId) (s : State), Safety.canonical s = true ∧ s.isOn r = true ∧ s.rails[r].running = true ∧ s.rails[r].softStart = false ∧ s.rails[r].stop = .none) ∧
    (∃ (r : RailId) (v : Int) (s : State), Safety.canonical s = true ∧ s.rails[r].profile = true ∧ s.rails[r].vr = s.goal r ∧ s.profileTarget r (s.nat (railIx r 0x10) 0x12 + 1) = some v ∧ s.responseOf (rlTargetClamp r.val) < 4) ∧
    (∃ (r : RailId) (s : State), Safety.canonical s = true ∧ s.rails[r].profile = true ∧ s.rails[r].vr = s.goal r ∧ s.profileTarget r (s.nat (railIx r 0x10) 0x12 + 1) = none) :=
  ⟨⟨0, live, by decide +kernel⟩,
   ⟨0, railed, by decide +kernel⟩,
   ⟨0, (State.modRail onNow 0 fun c => { c with source := 0 }), by decide +kernel, by decide +kernel, by decide +kernel, by decide +kernel, by decide +kernel, by decide +kernel, by decide +kernel, by decide +kernel, by decide +kernel, by decide +kernel, by decide +kernel, by decide +kernel⟩,
   ⟨0, (State.modRail (puts onNow [(0x3030, 9, 1)]) 0 fun c => { c with dwell := true }), by decide +kernel, by decide +kernel, by decide +kernel, by decide +kernel, by decide +kernel⟩,
   ⟨0, 0, (State.modRail onNow 0 fun c => { c with dwell := true }), by decide +kernel, by decide +kernel, by decide +kernel, by decide +kernel, by decide +kernel, by decide +kernel, by decide +kernel, by decide +kernel⟩,
   ⟨0, 0, (State.modRail onNow 0 fun c => { c with held := Vector.replicate 4 1000000 }), by decide +kernel, by decide +kernel, by decide +kernel, by decide +kernel, by decide +kernel, by decide +kernel, by decide +kernel, by decide +kernel, by decide +kernel⟩,
   ⟨0, 0, (State.modRail (puts onNow [(0x3000, 8, 0)]) 0 fun c => { c with held := Vector.replicate 4 1000000 }), by decide +kernel, by decide +kernel, by decide +kernel, by decide +kernel, by decide +kernel, by decide +kernel, by decide +kernel, by decide +kernel⟩,
   ⟨0, live, by decide +kernel⟩,
   ⟨0, (State.modRail railed 0 fun c => { c with hiccup := true }), by decide +kernel, by decide +kernel, by decide +kernel⟩,
   ⟨0, 0x08000022, (State.modRail live 0 fun c => { c with hiccup := true }), by decide +kernel, by decide +kernel, by decide +kernel⟩,
   ⟨0, onNow, by decide +kernel, by decide +kernel, by decide +kernel, by decide +kernel, by decide +kernel⟩,
   ⟨0, 1000, (State.modRail (puts live [(0x3010, 0x0A, 1000), (0x3010, 0x12, 0)]) 0 fun c => { c with profile := true }), by decide +kernel, by decide +kernel, by decide +kernel, by decide +kernel, by decide +kernel⟩,
   ⟨0, (State.modRail (puts live [(0x3010, 0x12, 4)]) 0 fun c => { c with profile := true }), by decide +kernel, by decide +kernel, by decide +kernel, by decide +kernel⟩⟩

/-- Inputs that meet the hypotheses of each clause of O21. -/
theorem test_hypotheses_of_RailRowsAct :
    (∃ (ch : Channel) (r : RailId) (s : State), Safety.canonical s = true ∧ Safety.admits s ch (railIx r 0) 3 [1] ∧ s.railObj r 0 3 ≠ 1) ∧
    (∃ (ch : Channel) (r : RailId) (s : State), Safety.canonical s = true ∧ Safety.admits s ch (railIx r 0) 3 [0] ∧ s.railObj r 0 3 = 1 ∧ s.rails[r].stop = .none) ∧
    (∃ (ch : Channel) (r : RailId) (s : State), Safety.canonical s = true ∧ Safety.admits s ch (railIx r 0) 3 [2] ∧ s.railObj r 0 3 = 1) ∧
    (∃ (ch : Channel) (r : RailId) (target : BitVec 32) (s : State), Safety.canonical s = true ∧ Safety.admits s ch (railIx r 0x10) 1 (leBytes 4 target.toNat) ∧ s.responseOf (rlTargetClamp r.val) < 4) ∧
    (∃ (ch : Channel) (r : RailId) (sub : Fin 12) (value : BitVec 32) (row : ObjRow) (s : State), Safety.canonical s = true ∧ findRow (railIx r 0x02) (1 + sub.val) = some row ∧ Safety.admits s ch (railIx r 0x02) (1 + sub.val) (row.ty.bytes value.toNat) ∧ s.hasBoundary r = true) ∧
    (∃ (ch : Channel) (v : Byte) (s : State), Safety.canonical s = true ∧ Safety.admits s ch 0x3400 0x0B [v] ∧ s.isOn railD = false) ∧
    (∃ (ch : Channel) (v : Byte) (s : State), Safety.canonical s = true ∧ Safety.admits s ch 0x3400 0x0B [v] ∧ s.isOn railD = true ∧ s.rails[railD].stop = .none ∧ s.rails[railD].hiccup = false ∧ (v.toNat : Int) ≠ s.obj 0x4110 0x0B) ∧
    (∃ (ch : Channel) (r : RailId) (tag : BitVec 16) (v : Int) (s : State), Safety.canonical s = true ∧ Safety.actionAdmits s ch (railIx r 0x10) 9 tag.toNat 1 ∧ s.profileTarget r 1 = some v ∧ s.responseOf (rlTargetClamp r.val) < 4) ∧
    (∃ (ch : Channel) (r : RailId) (tag : BitVec 16) (s : State), Safety.canonical s = true ∧ Safety.actionAdmits s ch (railIx r 0x10) 9 tag.toNat 2 ∧ s.rails[r].profile = true) :=
  ⟨⟨.sdo, 0, railed, by decide +kernel, admits_of (by decide +kernel), by decide +kernel⟩,
   ⟨.sdo, 0, onNow, by decide +kernel, admits_of (by decide +kernel), by decide +kernel, by decide +kernel⟩,
   ⟨.sdo, 0, onNow, by decide +kernel, admits_of (by decide +kernel), by decide +kernel⟩,
   ⟨.sdo, 0, 1, (puts live [(0x3010, 2, 0)]), by decide +kernel, admits_of (by decide +kernel), by decide +kernel⟩,
   ⟨.sdo, 0, 2, 1000, (rowOf 0x3002 3), railed, by decide +kernel, by decide +kernel, admits_of (by decide +kernel), by decide +kernel⟩,
   ⟨.sdo, 1, live, by decide +kernel, admits_of (by decide +kernel), by decide +kernel⟩,
   ⟨.sdo, 1, (puts live [(0x3400, 3, 1)]), by decide +kernel, admits_of (by decide +kernel), by decide +kernel, by decide +kernel, by decide +kernel, by decide +kernel⟩,
   ⟨.sdo, 0, 1, 1000, (puts onNow [(0x3010, 0x0A, 1000)]), by decide +kernel, actionAdmits_of (by decide +kernel), by decide +kernel, by decide +kernel⟩,
   ⟨.sdo, 0, 1, (State.modRail live 0 fun c => { c with profile := true }), by decide +kernel, actionAdmits_of (by decide +kernel), by decide +kernel⟩⟩

/-- Inputs that meet the hypotheses of each clause of O22. -/
theorem test_hypotheses_of_AvsCommandsAct :
    (∃ (sel : BitVec 4) (code : BitVec 16) (write : Option (BitVec 16)) (s : State), s.avsOn = true) ∧
    (∃ (sel : BitVec 4) (code : BitVec 16) (r : VRailId) (s : State), Safety.canonical s = true ∧ s.avsOn = true ∧ s.avsRail sel.toNat = some r ∧ s.avsSource r = true ∧ s.responseOf (rlTargetClamp r.val) < 4) ∧
    (∃ (sel : BitVec 4) (code : BitVec 16) (r : VRailId) (s : State), Safety.canonical s = true ∧ s.avsOn = true ∧ s.avsRail sel.toNat = some r ∧ s.avsSource r = false) ∧
    (∃ (sel : BitVec 4) (s : State), Safety.canonical s = true ∧ s.avsOn = true) ∧
    (∃ (sel : BitVec 4) (r : VRailId) (s : State), Safety.canonical s = true ∧ s.avsOn = true ∧ s.avsRail sel.toNat = some r) ∧
    (∃ (sel : BitVec 4) (code : BitVec 16) (r : VRailId) (s : State), Safety.canonical s = true ∧ s.avsOn = true ∧ s.avsRail sel.toNat = some r ∧ s.avsSource r = true ∧ code.toNat / 256 ≠ 0 ∧ code.toNat % 256 ≠ 0) ∧
    (∃ (sel : BitVec 4) (r : VRailId) (s : State), Safety.canonical s = true ∧ s.avsOn = true ∧ s.avsRail sel.toNat = some r) ∧
    (∃ (sel : BitVec 4) (r : VRailId) (s : State), Safety.canonical s = true ∧ s.avsOn = true ∧ s.avsRail sel.toNat = some r) ∧
    (∃ (sel : BitVec 4) (r : VRailId) (s : State), Safety.canonical s = true ∧ s.avsOn = true ∧ s.avsRail sel.toNat = some r) ∧
    (∃ (sel : BitVec 4) (r : VRailId) (s : State), Safety.canonical s = true ∧ s.avsOn = true ∧ s.avsRail sel.toNat = some r ∧ s.avsSource r = true ∧ s.responseOf (rlTargetClamp r.val) < 4) ∧
    (∃ (sel : BitVec 4) (code : BitVec 16) (r : VRailId) (s : State), Safety.canonical s = true ∧ s.avsOn = true ∧ s.avsRail sel.toNat = some r) ∧
    (∃ (sel : BitVec 4) (r : VRailId) (s : State), Safety.canonical s = true ∧ s.avsOn = true ∧ s.avsRail sel.toNat = some r) ∧
    (∃ (sel : BitVec 4) (r : VRailId) (s : State), Safety.canonical s = true ∧ s.avsOn = true ∧ s.avsRail sel.toNat = some r) :=
  ⟨⟨0, 1, none, avsLive, by decide +kernel⟩,
   ⟨0, 1, 0, avsLive, by decide +kernel, by decide +kernel, by decide +kernel, by decide +kernel, by decide +kernel⟩,
   ⟨0, 1, 0, (puts avsLive [(0x3010, 2, 0)]), by decide +kernel, by decide +kernel, by decide +kernel, by decide +kernel⟩,
   ⟨1, avsLive, by decide +kernel, by decide +kernel⟩,
   ⟨0, 0, avsLive, by decide +kernel, by decide +kernel, by decide +kernel⟩,
   ⟨0, 0x0101, 0, avsLive, by decide +kernel, by decide +kernel, by decide +kernel, by decide +kernel, by decide +kernel, by decide +kernel⟩,
   ⟨0, 0, avsLive, by decide +kernel, by decide +kernel, by decide +kernel⟩,
   ⟨0, 0, avsLive, by decide +kernel, by decide +kernel, by decide +kernel⟩,
   ⟨0, 0, avsLive, by decide +kernel, by decide +kernel, by decide +kernel⟩,
   ⟨0, 0, avsLive, by decide +kernel, by decide +kernel, by decide +kernel, by decide +kernel, by decide +kernel⟩,
   ⟨0, 1, 0, avsLive, by decide +kernel, by decide +kernel, by decide +kernel⟩,
   ⟨0, 0, avsLive, by decide +kernel, by decide +kernel, by decide +kernel⟩,
   ⟨0, 0, avsLive, by decide +kernel, by decide +kernel, by decide +kernel⟩⟩

/-- Inputs that meet the hypotheses of each clause of O23. -/
theorem test_hypotheses_of_LoopEngineActs :
    (∃ (k : SlotId) (s : State), Safety.canonical s = true ∧ s.slots[k].detected = true) ∧
    (∃ (r : RailId) (s : State), Safety.canonical s = true ∧ s.fastNat 0x3800 (9 + r.val) / 65536 ≠ 0 ∧ s.fastNat 0x3800 (9 + r.val) / 65536 ≤ s.rails[r].chatterCount ∧ s.rails[r].chatterRaised = false) ∧
    (∃ (r : RailId) (parity : Bool) (s : State), Safety.canonical s = true ∧ s.obj 0x3800 1 = 1 ∧ (parity = true ∨ s.onOrStopping r = true)) ∧
    (∃ (r : RailId) (parity : Bool) (s : State), s.obj 0x3800 1 ≠ 1) ∧
    (∃ (ch : Channel) (k : SlotId) (tag : BitVec 16) (s : State), Safety.actionAdmits s ch (slotIx k) 0x0E tag.toNat 1 ∧ s.boundaryComes (objKey (slotIx k) 1) = true ∧ s.obj (slotIx k) 0x0D = 1) ∧
    (∃ (ch : Channel) (k : SlotId) (safe : Bool) (tag : BitVec 16) (s : State), Safety.canonical s = true ∧ Safety.actionAdmits s ch ((if safe then 0x3830 else 0x3820) + k.val) 2 tag.toNat 1 ∧ (s.obj 0x3800 1 ≠ 1 ∨ s.tableUsers ((if safe then 0x3830 else 0x3820) + k.val) = [])) ∧
    (∃ (ch : Channel) (k : SlotId) (safe : Bool) (tag : BitVec 16) (s : State), Safety.actionAdmits s ch ((if safe then 0x3830 else 0x3820) + k.val) 2 tag.toNat 1 ∧ s.obj 0x3800 1 = 1 ∧ s.tableUsers ((if safe then 0x3830 else 0x3820) + k.val) ≠ []) ∧
    (∃ (ch : Channel) (n : Fin 16) (tag : BitVec 16) (s : State), Safety.canonical s = true ∧ Safety.actionAdmits s ch (0x3850 + n.val) 2 tag.toNat 1 ∧ (s.obj 0x3800 1 ≠ 1 ∨ s.tableUsers (0x3850 + n.val) = [])) ∧
    (∃ (ch : Channel) (n : Fin 16) (tag : BitVec 16) (s : State), Safety.actionAdmits s ch (0x3850 + n.val) 2 tag.toNat 1 ∧ s.obj 0x3800 1 = 1 ∧ s.tableUsers (0x3850 + n.val) ≠ []) :=
  ⟨⟨0, { live with slots := Vector.replicate 16 { detected := true } }, by decide +kernel, by decide +kernel⟩,
   ⟨0, (State.modRail (puts live [(0x3800, 9, 0x50010)]) 0 fun c => { c with chatterCount := 5 }), by decide +kernel, by decide +kernel, by decide +kernel, by decide +kernel⟩,
   ⟨0, false, onNow, by decide +kernel, by decide +kernel, by decide +kernel⟩,
   ⟨0, false, live, by decide +kernel⟩,
   ⟨.sdo, 0, 1, (puts railed [(0x3810, 0x0D, 1)]), actionAdmits_of (by decide +kernel), by decide +kernel, by decide +kernel⟩,
   ⟨.sdo, 0, false, 1, live, by decide +kernel, actionAdmits_of (by decide +kernel), by decide +kernel⟩,
   ⟨.sdo, 0, false, 1, railed, actionAdmits_of (by decide +kernel), by decide +kernel, by decide +kernel⟩,
   ⟨.sdo, 0, 1, live, by decide +kernel, actionAdmits_of (by decide +kernel), by decide +kernel⟩,
   ⟨.sdo, 0, 1, (puts railed [(0x3810, 0x0B, 0xFF00)]), actionAdmits_of (by decide +kernel), by decide +kernel, by decide +kernel⟩⟩

/-- Inputs that meet the hypotheses of each clause of O24. -/
theorem test_hypotheses_of_DriveRailActs :
    (∃ (code : BitVec 3) (us : Nat) (s : State), s.serving = false) ∧
    (∃ (code : BitVec 3) (us n m : Nat) (s : State), Safety.canonical s = true ∧ s.serving = true ∧ s.drive.sector = some m ∧ s.sectorOf code.toNat = some n ∧ m < 6 ∧ n = (m + 1) % 6) ∧
    (∃ (code : BitVec 3) (us n m : Nat) (s : State), Safety.canonical s = true ∧ s.serving = true ∧ s.drive.sector = some m ∧ s.sectorOf code.toNat = some n ∧ n < 6 ∧ m = (n + 1) % 6) ∧
    (∃ (code : BitVec 3) (us : Nat) (s : State), Safety.canonical s = true ∧ s.serving = true ∧ s.drive.hall ≠ code.toNat ∧ s.sectorOf code.toNat = none) ∧
    (∃ (code : BitVec 3) (us n m : Nat) (s : State), Safety.canonical s = true ∧ s.serving = true ∧ s.drive.sector = some m ∧ s.sectorOf code.toNat = some n ∧ n ≠ m ∧ n ≠ (m + 1) % 6 ∧ m ≠ (n + 1) % 6) ∧
    (∃ (us : Nat) (s : State), Safety.canonical s = true ∧ s.obj 0x3400 0x10 * 1000 < us) ∧
    (∃ (s : State), Safety.canonical s = true ∧ s.drive.reversing = true ∧ s.rails[railD].running = true ∧ s.rails[railD].vr = 0 ∧ ((s.obj 0x3448 1).natAbs : Int) ≤ s.obj 0x3400 0x0F ∧ s.responseOf (rlTargetClamp 4) < 4) ∧
    (∃ (s : State), s.drive.reversing = false) ∧
    (∃ (ms : BitVec 32) (s : State), Safety.canonical s = true ∧ s.isOn railD = true ∧ s.rails[railD].running = true ∧ s.rails[railD].stop = .none ∧ 0 < s.rails[railD].demand ∧ s.drive.hold = 0 ∧ s.obj 0x3400 0x11 ≤ ms.toNat ∧ min 255 (s.obj 0x3440 4 + 1) ≤ s.obj 0x3400 8 ∧ s.responseOf (rlHiccup 4) < 4) ∧
    (∃ (s : State), Safety.canonical s = true ∧ s.outlineTurns = true ∧ s.outlineSupply = true ∧ s.outline.coasting = false) ∧
    (∃ (s : State), s.outlineTurns = true ∧ s.outline.coasting = true) ∧
    (∃ (mv : BitVec 12) (s : State), s.outline.active = true ∧ s.outline.store = true ∧ (mv.toNat : Int) < s.outlineValue 0x2340 9) ∧
    (∃ (mv : BitVec 12) (s : State), s.outline.active = true ∧ s.outline.store = true ∧ s.outlineValue 0x2340 9 ≤ (mv.toNat : Int) ∧ s.outlineValue 0x2340 0x0A < (mv.toNat : Int)) ∧
    (∃ (mv : BitVec 12) (s : State), s.outline.active = true ∧ s.outline.store = false) :=
  ⟨⟨1, 1, State.reset, by decide +kernel⟩,
   ⟨1, 1, 0, 5, (withDrive live fun c => { c with sector := some 5 }), by decide +kernel, by decide +kernel, by decide +kernel, by decide +kernel, by decide +kernel, by decide +kernel⟩,
   ⟨5, 1, 5, 0, (withDrive live fun c => { c with sector := some 0 }), by decide +kernel, by decide +kernel, by decide +kernel, by decide +kernel, by decide +kernel, by decide +kernel⟩,
   ⟨7, 1, live, by decide +kernel, by decide +kernel, by decide +kernel, by decide +kernel⟩,
   ⟨6, 1, 3, 0, (withDrive live fun c => { c with sector := some 0 }), by decide +kernel, by decide +kernel, by decide +kernel, by decide +kernel, by decide +kernel, by decide +kernel, by decide +kernel⟩,
   ⟨100000001, live, by decide +kernel, by decide +kernel⟩,
   ⟨(withDrive (State.modRail live 4 fun c => { c with running := true }) fun c => { c with reversing := true }), by decide +kernel, by decide +kernel, by decide +kernel, by decide +kernel, by decide +kernel, by decide +kernel⟩,
   ⟨live, by decide +kernel⟩,
   ⟨100000, (State.modRail (puts live [(0x3400, 3, 1), (0x3400, 8, 1)]) 4 fun c => { c with running := true, demand := 1 }), by decide +kernel, by decide +kernel, by decide +kernel, by decide +kernel, by decide +kernel, by decide +kernel, by decide +kernel, by decide +kernel, by decide +kernel⟩,
   ⟨(withOutline live fun c => { c with startedDrive := true }), by decide +kernel, by decide +kernel, by decide +kernel, by decide +kernel⟩,
   ⟨(withOutline live fun c => { c with startedDrive := true, coasting := true }), by decide +kernel, by decide +kernel⟩,
   ⟨99, (withOutline (withFlash live fun c => { c with outline := Vector.mk #[some ⟨1, [(0x234009, 100), (0x23400A, 200)], 1, []⟩, none] rfl }) fun c => { c with active := true, store := true }), by decide +kernel, by decide +kernel, by decide +kernel⟩,
   ⟨201, (withOutline (withFlash live fun c => { c with outline := Vector.mk #[some ⟨1, [(0x234009, 100), (0x23400A, 200)], 1, []⟩, none] rfl }) fun c => { c with active := true, store := true }), by decide +kernel, by decide +kernel, by decide +kernel, by decide +kernel⟩,
   ⟨1, (withOutline live fun c => { c with active := true }), by decide +kernel, by decide +kernel⟩⟩

/-- Inputs that meet the hypotheses of each clause of O25. -/
theorem test_hypotheses_of_TropoRingActs :
    (∃ (s : State), Safety.canonical s = true ∧ s.isRingLead = true ∧ s.ringActive = true ∧ s.ring.joined = false ∧ s.obj 0x2400 2 = 1 ∧ s.responseOf trDupPosition < 4) ∧
    (∃ (s : State), Safety.canonical s = true ∧ s.isRingLead = true ∧ s.ringActive = true ∧ s.ring.joined = false ∧ s.obj 0x2400 2 = 1) ∧
    (∃ (s : State), Safety.canonical s = true ∧ s.isRingLead = false ∧ s.ringActive = true ∧ s.ring.joined = false ∧ s.obj 0x2400 2 = 2 ∧ 8 ≤ s.ring.good ∧ s.responseOf trJoined < 4) ∧
    (∃ (s : State), s.ring.good < 8) ∧
    (∃ (s : State), Safety.canonical s = true ∧ s.isRingLead = false ∧ s.ringActive = true ∧ s.ring.joined = false ∧ s.obj 0x2400 2 = 2 ∧ s.ring.noLead = false ∧ s.responseOf trNoLead < 4) ∧
    (∃ (s : State), Safety.canonical s = true ∧ s.isRingLead = true ∧ s.ring.joined = true ∧ s.obj 0x2400 2 = 3 ∧ s.ring.alignDue = [] ∧ (∀ p : Fin 8, p ≠ s.position → (s.memberAt p).present = false) ∧ (∀ e ∈ [trUp, trMemberMissing, trBypassChain, trSpanConfig], s.responseOf e < 4)) ∧
    (∃ (p : Fin 8) (s : State), Safety.canonical s = true ∧ s.isRingLead = true ∧ s.ring.joined = true ∧ s.obj 0x2400 2 = 3 ∧ s.ring.alignDue = [] ∧ p ≠ s.position ∧ (s.memberAt p).present = true) ∧
    (∃ (q : Nat) (f : RingFrame) (s : State), Safety.canonical s = true ∧ s.isRingLead = true ∧ s.ring.joined = true ∧ s.obj 0x2400 2 = 3 ∧ s.ring.alignDue = [q] ∧ s.ring.sendSeq % 2 = 1 ∧ s.ring.sent = some f ∧ f.kind = 2 ∧ (∀ e ∈ [trUp, trMemberMissing, trBypassChain, trSpanConfig], s.responseOf e < 4)) ∧
    (∃ (p : BitVec 3) (s : State), Safety.canonical s = true ∧ s.ring.joined = true ∧ s.ring.members[(Fin.ofNat 8 p.toNat : Fin 8)].present = true ∧ 2 ≤ s.ring.members[(Fin.ofNat 8 p.toNat : Fin 8)].missed ∧ s.responseOf trMemberLost < 4) ∧
    (∃ (s : State), Safety.canonical s = true ∧ s.ring.joined = true ∧ 8 ≤ s.ring.bad ∧ s.obj 0x2400 2 ≠ 5 ∧ s.ring.leaving = none ∧ s.responseOf trBreak < 4) ∧
    (∃ (s : State), s.ring.bad < 8) ∧
    (∃ (s : State), Safety.canonical s = true ∧ s.isRingLead = true ∧ s.ring.joined = true ∧ s.obj 0x2400 2 = 5 ∧ 8 ≤ s.ring.good ∧ s.obj 0x2400 0x20 = 1) ∧
    (∃ (reason : Nat) (s : State), Safety.canonical s = true ∧ s.ring.leaving = some reason ∧ s.ring.faultSent = true ∧ s.ring.rejoin = false ∧ s.responseOf trLeft < 4) ∧
    (∃ (s : State), s.isRingLead = true ∧ s.ring.joined = true ∧ s.ring.lateJoin = 0 ∧ (s.obj 0x2400 2 = 3 → s.ring.alignDue = [])) ∧
    (∃ (s : State), s.isRingLead = false) ∧
    (∃ (f : RingFrame) (ps : BitVec 32) (s : State), Safety.canonical s = true ∧ s.ring.joined = true ∧ s.obj 0x2400 2 ≠ 6 ∧ s.frameGood f = false) ∧
    (∃ (f : RingFrame) (ps : BitVec 32) (s : State), Safety.canonical s = true ∧ s.ringActive = true ∧ s.ring.joined = false ∧ s.obj 0x2400 2 = 2 ∧ s.frameGood f = true ∧ s.ring.noLead = false ∧ f.token.toNat / 32 ≠ s.position.val) ∧
    (∃ (f : RingFrame) (ps : BitVec 32) (s : State), Safety.canonical s = true ∧ s.isRingLead = false ∧ s.ring.joined = true ∧ s.obj 0x2400 2 ≠ 6 ∧ s.frameGood f = true ∧ f.kind = 0 ∧ f.token.toNat / 32 ≠ s.position.val) ∧
    (∃ (s : State), Safety.canonical s = true ∧ s.ring.joined = true) ∧
    (∃ (ch : Channel) (s : State), Safety.canonical s = true ∧ Safety.admits s ch 0x2400 1 [1] ∧ s.obj 0x2400 1 = 0 ∧ s.ring.joined = false ∧ s.ring.leaving = none ∧ s.obj 0x2400 2 = 0 ∧ (s.power = 3 ∨ s.power = 4) ∧ s.serving = true ∧ s.outline.active = false ∧ s.funcState 7 = 0) ∧
    (∃ (ch : Channel) (s : State), Safety.canonical s = true ∧ Safety.admits s ch 0x2400 1 [0] ∧ s.obj 0x2400 1 = 1 ∧ s.ring.joined = true ∧ s.ring.leaving = none) :=
  ⟨⟨ringLead, by decide +kernel, by decide +kernel, by decide +kernel, by decide +kernel, by decide +kernel, by decide +kernel⟩,
   ⟨ringLead, by decide +kernel, by decide +kernel, by decide +kernel, by decide +kernel, by decide +kernel⟩,
   ⟨(withRing follower fun c => { c with good := 8 }), by decide +kernel, by decide +kernel, by decide +kernel, by decide +kernel, by decide +kernel, by decide +kernel, by decide +kernel⟩,
   ⟨(withRing follower fun c => { c with good := 7 }), by decide +kernel⟩,
   ⟨follower, by decide +kernel, by decide +kernel, by decide +kernel, by decide +kernel, by decide +kernel, by decide +kernel, by decide +kernel⟩,
   ⟨(withRing (puts ringLead [(0x2400, 2, 3)]) fun c => { c with joined := true }), by decide +kernel, by decide +kernel, by decide +kernel, by decide +kernel, by decide +kernel, by decide +kernel, by decide +kernel⟩,
   ⟨1, (withRing (puts ringLead [(0x2400, 2, 3)]) fun c => { c with joined := true, members := Vector.replicate 8 { present := true } }), by decide +kernel, by decide +kernel, by decide +kernel, by decide +kernel, by decide +kernel, by decide +kernel, by decide +kernel⟩,
   ⟨1, { goodFrame with kind := 2 }, (withRing (puts ringLead [(0x2400, 2, 3)]) fun c => { c with joined := true, alignDue := [1], sendSeq := 1, sent := some { goodFrame with kind := 2 } }), by decide +kernel, by decide +kernel, by decide +kernel, by decide +kernel, by decide +kernel, by decide +kernel, by decide +kernel, by decide +kernel, by decide +kernel⟩,
   ⟨1, (withRing ringLead fun c => { c with joined := true, members := Vector.replicate 8 { present := true, missed := 2 } }), by decide +kernel, by decide +kernel, by decide +kernel, by decide +kernel, by decide +kernel⟩,
   ⟨(withRing follower fun c => { c with joined := true, bad := 8 }), by decide +kernel, by decide +kernel, by decide +kernel, by decide +kernel, by decide +kernel, by decide +kernel⟩,
   ⟨(withRing follower fun c => { c with bad := 7 }), by decide +kernel⟩,
   ⟨(withRing (puts ringLead [(0x2400, 2, 5)]) fun c => { c with joined := true, good := 8 }), by decide +kernel, by decide +kernel, by decide +kernel, by decide +kernel, by decide +kernel, by decide +kernel⟩,
   ⟨2, (withRing follower fun c => { c with leaving := some 2, faultSent := true }), by decide +kernel, by decide +kernel, by decide +kernel, by decide +kernel, by decide +kernel⟩,
   ⟨(withRing ringLead fun c => { c with joined := true }), by decide +kernel, by decide +kernel, by decide +kernel, by decide +kernel⟩,
   ⟨follower, by decide +kernel⟩,
   ⟨{ goodFrame with crc := 1 }, 1, (withRing (puts follower [(0x2400, 2, 4)]) fun c => { c with joined := true }), by decide +kernel, by decide +kernel, by decide +kernel, by decide +kernel⟩,
   ⟨goodFrame, 1, follower, by decide +kernel, by decide +kernel, by decide +kernel, by decide +kernel, by decide +kernel, by decide +kernel, by decide +kernel⟩,
   ⟨goodFrame, 1, (withRing (puts follower [(0x2400, 2, 4)]) fun c => { c with joined := true }), by decide +kernel, by decide +kernel, by decide +kernel, by decide +kernel, by decide +kernel, by decide +kernel, by decide +kernel⟩,
   ⟨(withRing follower fun c => { c with joined := true }), by decide +kernel, by decide +kernel⟩,
   ⟨.sdo, live, by decide +kernel, admits_of (by decide +kernel), by decide +kernel, by decide +kernel, by decide +kernel, by decide +kernel, by decide +kernel, by decide +kernel, by decide +kernel, by decide +kernel⟩,
   ⟨.sdo, (withRing follower fun c => { c with joined := true }), by decide +kernel, admits_of (by decide +kernel), by decide +kernel, by decide +kernel, by decide +kernel⟩⟩

/-- Inputs that meet the hypotheses of each clause of O26. -/
theorem test_hypotheses_of_MetrologyActs :
    (∃ (x : DecimatedSample) (s : State), (s.metering = false ∨ s.metrology.discard ≠ 0)) ∧
    (∃ (v : Fin 4) (x : Int) (s : State), Safety.canonical s = true ∧ s.metering = true ∧ s.metrology.discard = 0 ∧ s.vEnabled v = true ∧ 968750 ≤ mag x ∧ s.metrology.voltage[v].clipped = false ∧ s.metrology.voltage[v].clippedBefore = false) ∧
    (∃ (i : Fin 4) (h l : Int) (oh ol : Bool) (s : State), s.metering = true ∧ s.metrology.discard = 0 ∧ s.iMode i ≠ 0) ∧
    (∃ (pins : CoherentPins) (dt : Nat) (s : State), s.metering = true ∧ s.metrology.discard ≠ 0) ∧
    (∃ (pins : CoherentPins) (dt : Nat) (s : State), s.metering = true ∧ s.metrology.discard = 0) ∧
    (∃ (pins : CoherentPins) (dt : Nat) (s : State), s.metering = false) ∧
    (∃ (s : State), Safety.canonical s = true ∧ s.metering = true) ∧
    (∃ (s : State), s.metering = false) ∧
    (∃ (i : Fin 4) (cause : Fin 3) (mv : BitVec 16) (s : State), Safety.canonical s = true ∧ s.metering = true ∧ cause ≠ 2 ∧ s.iMode i ≠ 0 ∧ (mv.toNat < 100 ∨ 2400 < mv.toNat)) ∧
    (∃ (i : Fin 4) (s : State), Safety.canonical s = true) ∧
    (∃ (ch : Channel) (tag : BitVec 16) (s : State), Safety.canonical s = true ∧ Safety.actionAdmits s ch 0x5000 0x1B tag.toNat 1) ∧
    (∃ (ch : Channel) (tag : BitVec 16) (s : State), Safety.canonical s = true ∧ Safety.actionAdmits s ch 0x5068 0x11 tag.toNat 1) :=
  ⟨⟨(.voltage 0 0), State.reset, by decide +kernel⟩,
   ⟨0, 968750, live, by decide +kernel, by decide +kernel, by decide +kernel, by decide +kernel, by decide +kernel, by decide +kernel, by decide +kernel⟩,
   ⟨0, 1, 1, false, false, (puts live [(0x5000, 6, 1)]), by decide +kernel, by decide +kernel, by decide +kernel⟩,
   ⟨⟨Vector.replicate 4 0, Vector.replicate 4 0, Vector.replicate 4 0⟩, 1, (withMetrology live fun c => { c with discard := 1 }), by decide +kernel, by decide +kernel⟩,
   ⟨⟨Vector.replicate 4 0, Vector.replicate 4 0, Vector.replicate 4 0⟩, 1, live, by decide +kernel, by decide +kernel⟩,
   ⟨⟨Vector.replicate 4 0, Vector.replicate 4 0, Vector.replicate 4 0⟩, 1, State.reset, by decide +kernel⟩,
   ⟨live, by decide +kernel, by decide +kernel⟩,
   ⟨State.reset, by decide +kernel⟩,
   ⟨0, 0, 99, (puts live [(0x5000, 6, 1)]), by decide +kernel, by decide +kernel, by decide +kernel, by decide +kernel, by decide +kernel⟩,
   ⟨0, live, by decide +kernel⟩,
   ⟨.sdo, 1, live, by decide +kernel, actionAdmits_of (by decide +kernel)⟩,
   ⟨.sdo, 1, live, by decide +kernel, actionAdmits_of (by decide +kernel)⟩⟩

/-- Inputs that meet the hypotheses of each clause of O27. -/
theorem test_hypotheses_of_EnergyTotalsAct :
    (∃ (s : State), s.serving = true ∧ s.energy.due = [] ∧ s.supply.pfw = false ∧ s.flashOp = false ∧ s.copyReady = true) ∧
    (∃ (s : State), s.serving = true ∧ s.supply.pfw = true) ∧
    (∃ (s : State), s.serving = false) ∧
    (∃ (op : SaveOp) (s : State), Safety.canonical s = true ∧ s.energy.save = some op ∧ s.energy.due = []) ∧
    (∃ (op : SaveOp) (s : State), s.energy.save = some op ∧ s.energy.due = [] ∧ op.retry = false ∧ (op.slot + 1) % 8 ≠ 0 ∧ cellGet s.energy.copies (op.slot + 1) = none ∧ cellGet s.energy.spoilt (op.slot + 1) = none ∧ cellsAscend s.energy.spoilt = true) ∧
    (∃ (op : SaveOp) (s : State), Safety.canonical s = true ∧ s.energy.save = some op ∧ s.energy.due = [] ∧ op.retry = true) ∧
    (∃ (k : Nat) (s : State), Safety.canonical s = true ∧ s.energy.eraseSector = some k ∧ s.energy.erasing = true ∧ s.supply.pfw = false ∧ s.energy.due = []) ∧
    (∃ (e : Fin 2) (x : Nat) (rest : List Nat) (s : State), Safety.canonical s = true ∧ s.energy.pulses[e].owed = x :: rest ∧ s.pulseFree e = true) ∧
    (∃ (e : Fin 2) (x : Nat) (rest : List Nat) (s : State), Safety.canonical s = true ∧ s.energy.pulses[e].owed = x :: rest ∧ s.pulseFree e = false ∧ s.obj 0x5050 (0x0B + e.val) < 0xFFFE) ∧
    (∃ (e : Fin 2) (s : State), s.energy.pulses[e].on = true) ∧
    (∃ (ch : Channel) (tag : BitVec 16) (s : State), Safety.actionAdmits s ch 0x5070 1 tag.toNat 1 ∧ s.energy.due = [] ∧ s.supply.pfw = false ∧ s.flashOp = false ∧ s.copyReady = true) ∧
    (∃ (ch : Channel) (tag : BitVec 16) (s : State), Safety.canonical s = true ∧ Safety.actionAdmits s ch 0x5070 2 tag.toNat 1) ∧
    (∃ (ch : Channel) (r : RailId) (tag : BitVec 16) (s : State), Safety.canonical s = true ∧ Safety.actionAdmits s ch (railIx r 0x60) 3 tag.toNat 1) :=
  ⟨⟨live, by decide +kernel, by decide +kernel, by decide +kernel, by decide +kernel, by decide +kernel⟩,
   ⟨warned, by decide +kernel, by decide +kernel⟩,
   ⟨State.reset, by decide +kernel⟩,
   ⟨⟨copy1, 1, false⟩, (withEnergy live fun c => { c with save := some ⟨copy1, 1, false⟩ }), by decide +kernel, by decide +kernel, by decide +kernel⟩,
   ⟨⟨copy1, 1, false⟩, (withEnergy live fun c => { c with save := some ⟨copy1, 1, false⟩ }), by decide +kernel, by decide +kernel, by decide +kernel, by decide +kernel, by decide +kernel, by decide +kernel, by decide +kernel⟩,
   ⟨⟨copy1, 1, true⟩, (withEnergy live fun c => { c with save := some ⟨copy1, 1, true⟩ }), by decide +kernel, by decide +kernel, by decide +kernel, by decide +kernel⟩,
   ⟨0, (withEnergy live fun c => { c with eraseSector := some 0, erasing := true }), by decide +kernel, by decide +kernel, by decide +kernel, by decide +kernel, by decide +kernel⟩,
   ⟨0, 1, [], (withEnergy live fun c => { c with pulses := Vector.replicate 2 { owed := [1] } }), by decide +kernel, by decide +kernel, by decide +kernel⟩,
   ⟨0, 1, [], (withEnergy live fun c => { c with pulses := Vector.replicate 2 { owed := [1], on := true } }), by decide +kernel, by decide +kernel, by decide +kernel, by decide +kernel⟩,
   ⟨0, (withEnergy live fun c => { c with pulses := Vector.replicate 2 { on := true } }), by decide +kernel⟩,
   ⟨.sdo, 1, live, actionAdmits_of (by decide +kernel), by decide +kernel, by decide +kernel, by decide +kernel, by decide +kernel⟩,
   ⟨.sdo, 1, live, by decide +kernel, actionAdmits_of (by decide +kernel)⟩,
   ⟨.sdo, 0, 1, live, by decide +kernel, actionAdmits_of (by decide +kernel)⟩⟩

/-- Inputs that meet the hypotheses of each clause of O28. -/
theorem test_hypotheses_of_RecorderAndClockAct :
    (∃ (seq : BitVec 32) (s : State), s.recorder.writing.isSome = true) ∧
    (∃ (seq : BitVec 32) (e : Staged) (s : State), s.recorder.staging = [e] ∧ e.record.seq = seq.toNat ∧ s.recorder.writing = none ∧ s.recorder.erasing = false ∧ s.recorder.eraseSector = none ∧ s.recorder.hostErase = none ∧ cellGet s.recorder.log s.recorder.pos = none ∧ s.flashBusy = false ∧ s.supply.pfw = false ∧ s.writesHeld = false) ∧
    (∃ (e : Staged) (g : Nat) (s : State), s.recorder.writing = some (e, g) ∧ g < 3) ∧
    (∃ (e : Staged) (s : State), Safety.canonical s = true ∧ s.recorder.writing = some (e, 3)) ∧
    (∃ (k : Nat) (s : State), Safety.canonical s = true ∧ s.recorder.erasing = true ∧ s.supply.pfw = false ∧ s.recorder.eraseSector = some k) ∧
    (∃ (s : State), s.supply.pfw = true) ∧
    (∃ (ch : Channel) (tag : BitVec 16) (scope : Fin 3) (s : State), Safety.actionAdmits s ch 0x5800 1 tag.toNat (scope.val + 1)) ∧
    (∃ (h : HostErase) (s : State), s.recorder.hostErase = some h ∧ s.recorder.readers = [] ∧ s.supply.pfw = false ∧ h.internal = true ∧ h.record = none) ∧
    (∃ (s : State), s.recorder.readers ≠ []) ∧
    (∃ (ch : Channel) (seq : BitVec 32) (s : State), Safety.admits s ch 0x5810 1 (leBytes 4 seq.toNat) ∧ ch ≠ .rpdo) ∧
    (∃ (ch : Channel) (s : State), s.serving = true) ∧
    (∃ (ch : Channel) (s : State), s.serving = true) ∧
    (∃ (ch : Channel) (s : State), s.serving = true) ∧
    (∃ (ch : Channel) (rest : List Channel) (s : State), Safety.canonical s = true ∧ s.recorder.readers = ch :: rest) ∧
    (∃ (rec : Record) (rest : List Record) (status : Byte) (s : State), Safety.canonical s = true ∧ s.recorder.extWaiting = rec :: rest ∧ s.obj 0x5830 2 = 1 ∧ s.recorder.extErasing = false) ∧
    (∃ (rec : Record) (rest : List Record) (status : Byte) (s : State), Safety.canonical s = true ∧ s.recorder.extWaiting = rec :: rest ∧ s.obj 0x5830 2 = 1 ∧ s.recorder.extErasing = false) ∧
    (∃ (ms : BitVec 16) (s : State), Safety.canonical s = true ∧ s.recorder.extErasing = true) ∧
    (∃ (time : BitVec 64) (s : State), Safety.admits s .gsp 0x5820 1 (leBytes 8 time.toNat)) ∧
    (∃ (ch : Channel) (trim : BitVec 16) (s : State), Safety.canonical s = true ∧ Safety.admits s ch 0x5820 3 (leBytes 2 trim.toNat)) ∧
    (∃ (s : State), s.obj 0x5820 3 ≠ 0 ∧ s.clocks.lse = true) ∧
    (∃ (s : State), s.obj 0x5820 3 = 0) :=
  ⟨⟨1, (withRec live fun c => { c with writing := some (staged1, 0) }), by decide +kernel⟩,
   ⟨1, staged1, (withRec live fun c => { c with staging := [staged1] }), by decide +kernel, by decide +kernel, by decide +kernel, by decide +kernel, by decide +kernel, by decide +kernel, by decide +kernel, by decide +kernel, by decide +kernel, by decide +kernel⟩,
   ⟨staged1, 2, (withRec live fun c => { c with writing := some (staged1, 2) }), by decide +kernel, by decide +kernel⟩,
   ⟨staged1, (withRec live fun c => { c with writing := some (staged1, 3) }), by decide +kernel, by decide +kernel⟩,
   ⟨1, (withRec live fun c => { c with erasing := true, eraseSector := some 1 }), by decide +kernel, by decide +kernel, by decide +kernel, by decide +kernel⟩,
   ⟨warned, by decide +kernel⟩,
   ⟨.sdo, 1, 0, live, actionAdmits_of (by decide +kernel)⟩,
   ⟨⟨1, true, false, none⟩, (withRec live fun c => { c with hostErase := some ⟨1, true, false, none⟩ }), by decide +kernel, by decide +kernel, by decide +kernel, by decide +kernel, by decide +kernel⟩,
   ⟨(withRec live fun c => { c with readers := [.sdo] }), by decide +kernel⟩,
   ⟨.sdo, 1, live, admits_of (by decide +kernel), by decide +kernel⟩,
   ⟨.sdo, live, by decide +kernel⟩,
   ⟨.sdo, live, by decide +kernel⟩,
   ⟨.sdo, live, by decide +kernel⟩,
   ⟨.sdo, [], (withRec live fun c => { c with readers := [.sdo] }), by decide +kernel, by decide +kernel⟩,
   ⟨rec1, [], 1, (withRec (puts live [(0x5830, 2, 1)]) fun c => { c with extWaiting := [rec1] }), by decide +kernel, by decide +kernel, by decide +kernel, by decide +kernel⟩,
   ⟨rec1, [], 1, (withRec (puts live [(0x5830, 2, 1)]) fun c => { c with extWaiting := [rec1] }), by decide +kernel, by decide +kernel, by decide +kernel, by decide +kernel⟩,
   ⟨1, (withRec live fun c => { c with extErasing := true }), by decide +kernel, by decide +kernel⟩,
   ⟨1, live, admits_of (by decide +kernel)⟩,
   ⟨.sdo, 1, live, by decide +kernel, admits_of (by decide +kernel)⟩,
   ⟨(withClocks (puts live [(0x5820, 3, 100)]) fun c => { c with lse := true }), by decide +kernel, by decide +kernel⟩,
   ⟨live, by decide +kernel⟩⟩

/-- Inputs that meet the hypotheses of each clause of O29. -/
theorem test_hypotheses_of_PortsAndSessionsAct :
    (∃ (s : State), Safety.canonical s = true ∧ s.obj 0x2510 4 = 1 ∧ (s.clocks.ranOnCrystal = true ∨ s.clocks.sofTrim = true)) ∧
    (∃ (s : State), s.obj 0x2510 4 ≠ 1) ∧
    (∃ (s : State), Safety.canonical s = true ∧ (s.obj 0x2510 4 = 1 ∨ s.obj 0x2510 4 = 2) ∧ (s.clocks.ranOnCrystal = true ∨ s.clocks.sofTrim = true)) ∧
    (∃ (s : State), Safety.canonical s = true ∧ s.obj 0x2510 4 ≠ 0) ∧
    (∃ (s : State), Safety.canonical s = true ∧ s.obj 0x2510 4 ≠ 0) ∧
    (∃ (s : State), s.obj 0x2510 4 = 0) ∧
    (∃ (s : State), Safety.canonical s = true ∧ s.obj 0x2510 4 ≠ 0 ∧ s.obj 0x2510 4 ≠ 4) ∧
    (∃ (s : State), Safety.canonical s = true ∧ s.obj 0x2510 4 = 4) ∧
    (∃ (f : List Byte) (rest : List (List Byte)) (s : State), s.obj 0x2510 4 = 3 ∧ s.gsp.out = f :: rest) ∧
    (∃ (f : List Byte) (rest : List (List Byte)) (s : State), Safety.canonical s = true ∧ s.obj 0x2510 4 = 3 ∧ s.gsp.out = [] ∧ s.gsp.events = f :: rest) ∧
    (∃ (ch : Channel) (s : State), ch ≠ .rpdo) ∧
    (∃ (ch : Channel) (s : State), ch ≠ .rpdo) ∧
    (∃ (ch : Channel) (l : Level) (s : State), Safety.canonical s = true ∧ (s.client ch).session = some l) ∧
    (∃ (ch : Channel) (tag level : BitVec 16) (s : State), Safety.actionAdmits s ch 0x2020 1 tag.toNat level.toNat) ∧
    (∃ (ch : Channel) (m : List Byte) (n level : Nat) (s : State), Safety.canonical s = true ∧ Safety.textAdmits s ch 0x2020 3 m ∧ (s.client ch).session = none ∧ (s.client ch).nonce = some (n, level) ∧ matchingM (s.client ch).challengeKey n level = m) ∧
    (∃ (ch : Channel) (m : List Byte) (n level : Nat) (s : State), Safety.canonical s = true ∧ Safety.textAdmits s ch 0x2020 3 m ∧ (s.client ch).session = none ∧ (s.client ch).nonce = some (n, level) ∧ matchingM (s.client ch).challengeKey n level ≠ m) ∧
    (∃ (ch : Channel) (tag : BitVec 16) (l : Level) (s : State), Safety.canonical s = true ∧ Safety.actionAdmits s ch 0x2020 5 tag.toNat 1 ∧ (s.client ch).session = some l) ∧
    (∃ (ch : Channel) (oem : Bool) (key : List Byte) (s : State), Safety.textAdmits s ch 0x2020 (if oem then 9 else 8) key ∧ s.keyRule key = none) ∧
    (∃ (ch : Channel) (tag : BitVec 16) (s : State), Safety.actionAdmits s ch 0x2028 0x42 tag.toNat 1) :=
  ⟨⟨(withClocks (puts live [(0x2510, 4, 1)]) fun c => { c with sofTrim := true }), by decide +kernel, by decide +kernel, by decide +kernel⟩,
   ⟨live, by decide +kernel⟩,
   ⟨(withClocks (puts live [(0x2510, 4, 2)]) fun c => { c with sofTrim := true }), by decide +kernel, by decide +kernel, by decide +kernel⟩,
   ⟨live, by decide +kernel, by decide +kernel⟩,
   ⟨live, by decide +kernel, by decide +kernel⟩,
   ⟨(puts live [(0x2510, 4, 0)]), by decide +kernel⟩,
   ⟨live, by decide +kernel, by decide +kernel, by decide +kernel⟩,
   ⟨(puts live [(0x2510, 4, 4)]), by decide +kernel, by decide +kernel⟩,
   ⟨[1], [], (withGsp live fun c => { c with out := [[1]] }), by decide +kernel, by decide +kernel⟩,
   ⟨[1], [], (withGsp live fun c => { c with events := [[1]] }), by decide +kernel, by decide +kernel, by decide +kernel, by decide +kernel⟩,
   ⟨.sdo, live, by decide +kernel⟩,
   ⟨.sdo, live, by decide +kernel⟩,
   ⟨.sdo, .technician, (State.modClient live .sdo fun c => { c with session := some .technician }), by decide +kernel, by decide +kernel⟩,
   ⟨.sdo, 1, 2, (withFlash (puts live [(0x2030, 1, 2)]) fun c => { c with technicianKey := some [1] }), actionAdmits_of (by decide +kernel)⟩,
   ⟨.sdo, (matchingM [1] 1 2), 1, 2, (State.modClient live .sdo fun c => { c with nonce := some (1, 2), challengeKey := [1] }), by decide +kernel, textAdmits_of (by decide +kernel), by decide +kernel, by decide +kernel, congrArg (fun k => matchingM k 1 2) (by decide +kernel)⟩,
   ⟨.sdo, ((matchingM [1] 1 2).map (· + 1)), 1, 2, (State.modClient live .sdo fun c => { c with nonce := some (1, 2), challengeKey := [1] }), by decide +kernel, textAdmits_of (by decide +kernel), by decide +kernel, by decide +kernel, ne_bumped _ _ (congrArg (fun k => matchingM k 1 2) (by decide +kernel)) (by decide +kernel)⟩,
   ⟨.sdo, 1, .technician, (State.modClient live .sdo fun c => { c with session := some .technician }), by decide +kernel, actionAdmits_of (by decide +kernel), by decide +kernel⟩,
   ⟨.sdo, false, leBytes 32 1, (puts live [(0x2030, 1, 1)]), textAdmits_of (by decide +kernel), by decide +kernel⟩,
   ⟨.sdo, 1, live, actionAdmits_of (by decide +kernel)⟩⟩

/-- Inputs that meet the hypotheses of each clause of O30. -/
theorem test_hypotheses_of_LifecycleAndFirmwareAct :
    (∃ (ch : Channel) (tag : BitVec 16) (s : State), Safety.canonical s = true ∧ Safety.actionAdmits s ch 0x2030 2 tag.toNat 1 ∧ s.lifecycle ≠ 1 ∧ s.life.resetKind = none) ∧
    (∃ (ch : Channel) (tag : BitVec 16) (s : State), Safety.canonical s = true ∧ Safety.actionAdmits s ch 0x2030 2 tag.toNat 2 ∧ s.lifecycle ≠ 2 ∧ s.life.resetKind = none) ∧
    (∃ (ch : Channel) (tag : BitVec 16) (s : State), Safety.canonical s = true ∧ Safety.actionAdmits s ch 0x2030 2 tag.toNat 3 ∧ s.lifecycle ≠ 3 ∧ s.life.resetKind = none) ∧
    (∃ (ch : Channel) (tag : BitVec 16) (s : State), Safety.canonical s = true ∧ Safety.actionAdmits s ch 0x2030 2 tag.toNat 4 ∧ s.lifecycle ≠ 4 ∧ s.life.resetKind = none) ∧
    (∃ (ch : Channel) (data : List Byte) (last : Bool) (s : State), Safety.canonical s = true ∧ s.reaches ch = true ∧ s.pieceRule ch = none ∧ s.firmwareRule = none ∧ s.flash.download = none) ∧
    (∃ (ch : Channel) (data : List Byte) (s : State), s.reaches ch = true ∧ s.pieceRule ch = none ∧ s.flash.download = some ch) ∧
    (∃ (ch : Channel) (s : State), Safety.admits s ch 0x1F51 1 [1]) ∧
    (∃ (ch : Channel) (s : State), Safety.canonical s = true ∧ Safety.admits s ch 0x1F51 1 [3]) ∧
    (∃ (ch : Channel) (tag : BitVec 16) (bankB : Bool) (s : State), Safety.actionAdmits s ch 0x2040 9 tag.toNat (if bankB then 2 else 1) ∧ s.nat 0x2040 1 ≠ natOf bankB ∧ s.life.resetKind = none) ∧
    (∃ (ch : Channel) (tag : BitVec 16) (bankB : Bool) (s : State), Safety.actionAdmits s ch 0x2040 9 tag.toNat (if bankB then 2 else 1) ∧ s.nat 0x2040 1 = natOf bankB) ∧
    (∃ (ch : Channel) (tag : BitVec 16) (s : State), Safety.canonical s = true ∧ Safety.actionAdmits s ch 0x2040 0x0A tag.toNat 1 ∧ s.onTrial = true ∧ s.nat 0x2040 1 < 2) ∧
    (∃ (s : State), Safety.canonical s = true ∧ s.fullService = true ∧ s.onTrial = true ∧ s.nat 0x2040 1 < 2) ∧
    (∃ (s : State), s.fullService = false) ∧
    (∃ (ch : Channel) (area : Fin 3) (s : State), Safety.admits s ch 0x1010 (area.val + 1) (leBytes 4 0x65766173)) ∧
    (∃ (ch : Channel) (area : Fin 3) (s : State), Safety.admits s ch 0x1011 (area.val + 1) (leBytes 4 0x64616F6C)) :=
  ⟨⟨.sdo, 1, live, by decide +kernel, actionAdmits_of (by decide +kernel), by decide +kernel, by decide +kernel⟩,
   ⟨.sdo, 1, (withFlash (puts live [(0x2030, 1, 1)]) fun c => { c with technicianKey := some [1], oemKey := some [1] }), by decide +kernel, actionAdmits_of (by decide +kernel), by decide +kernel, by decide +kernel⟩,
   ⟨.sdo, 1, (State.modClient (puts live [(0x2030, 1, 2)]) .sdo fun c => { c with session := some .technician }), by decide +kernel, actionAdmits_of (by decide +kernel), by decide +kernel, by decide +kernel⟩,
   ⟨.sdo, 1, live, by decide +kernel, actionAdmits_of (by decide +kernel), by decide +kernel, by decide +kernel⟩,
   ⟨.sdo, [], false, live, by decide +kernel, by decide +kernel, by decide +kernel, by decide +kernel, by decide +kernel⟩,
   ⟨.sdo, [], (withFlash live fun c => { c with download := some .sdo }), by decide +kernel, by decide +kernel, by decide +kernel⟩,
   ⟨.sdo, live, admits_of (by decide +kernel)⟩,
   ⟨.sdo, live, by decide +kernel, admits_of (by decide +kernel)⟩,
   ⟨.sdo, 1, true, (puts live [(0x2040, 3, 2)]), actionAdmits_of (by decide +kernel), by decide +kernel, by decide +kernel⟩,
   ⟨.sdo, 1, false, live, actionAdmits_of (by decide +kernel), by decide +kernel⟩,
   ⟨.sdo, 1, (puts live [(0x2040, 2, 5)]), by decide +kernel, actionAdmits_of (by decide +kernel), by decide +kernel, by decide +kernel⟩,
   ⟨(puts live [(0x2040, 2, 5)]), by decide +kernel, by decide +kernel, by decide +kernel, by decide +kernel⟩,
   ⟨surveying, by decide +kernel⟩,
   ⟨.sdo, 0, live, admits_of (by decide +kernel)⟩,
   ⟨.sdo, 0, live, admits_of (by decide +kernel)⟩⟩

/-- Inputs that meet the hypotheses of each clause of O31. -/
theorem test_hypotheses_of_ObjectsAreWritten :
    (∃ (ch : Channel) (ix : BitVec 16) (sub : BitVec 8) (data : List Byte) (row : ObjRow) (s : State), Safety.canonical s = true ∧ Safety.admits s ch ix.toNat sub.toNat data ∧ isAction ix.toNat sub.toNat = false ∧ findRow ix.toNat sub.toNat = some row ∧ 0x2000 ≤ ix.toNat ∧ ix.toNat < 0x3000 ∧ ix.toNat ≠ 0x2100 ∧ ix.toNat ≠ 0x2210 ∧ ix.toNat ≠ 0x2400) ∧
    (∃ (ch : Channel) (ix : BitVec 16) (sub : BitVec 8) (data : List Byte) (row : ObjRow) (code : Nat) (s : State), s.reaches ch = true ∧ findRow ix.toNat sub.toNat = some row ∧ isAction ix.toNat sub.toNat = false ∧ s.admission ch row ix.toNat sub.toNat data = some code) ∧
    (∃ (ch : Channel) (ix : BitVec 16) (sub : BitVec 8) (data : List Byte) (s : State), s.reaches ch = true ∧ findRow ix.toNat sub.toNat = none) ∧
    (∃ (ch : Channel) (ix : BitVec 16) (sub : BitVec 8) (data : List Byte) (s : State), s.reaches ch = false) ∧
    (∃ (ch : Channel) (s : State), Safety.canonical s = true ∧ Safety.admits s ch 0x1003 0 [0]) ∧
    (∃ (ch : Channel) (n : Fin 64) (v : BitVec 64) (s : State), Safety.canonical s = true ∧ Safety.admits s ch 0x2210 (1 + n.val) (leBytes 8 v.toNat)) ∧
    (∃ (ch : Channel) (tag : BitVec 16) (relay : Fin 4) (closed : Bool) (s : State), Safety.actionAdmits s ch 0x2600 1 tag.toNat (relayArg relay closed 0)) ∧
    (∃ (ch : Channel) (tag : BitVec 16) (relay : Fin 4) (closed : Bool) (s : State), Safety.actionAdmits s ch 0x2600 1 tag.toNat (relayArg relay closed 1)) ∧
    (∃ (ch : Channel) (n : Fin 6) (mode : Byte) (s : State), Safety.canonical s = true ∧ Safety.admits s ch 0x2610 (1 + n.val) [mode]) ∧
    (∃ (ch : Channel) (levels : Byte) (s : State), Safety.canonical s = true ∧ Safety.admits s ch 0x2610 7 [levels]) :=
  ⟨⟨.sdo, 0x2128, 1, [1], (rowOf 0x2128 1), live, by decide +kernel, admits_of (by decide +kernel), by decide +kernel, by decide +kernel, by decide +kernel, by decide +kernel, by decide +kernel, by decide +kernel, by decide +kernel⟩,
   ⟨.sdo, 0x2100, 2, [1], (rowOf 0x2100 2), 0x06010002, live, by decide +kernel, by decide +kernel, by decide +kernel, by decide +kernel⟩,
   ⟨.sdo, 0x2001, 1, [], live, by decide +kernel, by decide +kernel⟩,
   ⟨.rpdo, 1, 1, [], State.reset, by decide +kernel⟩,
   ⟨.sdo, live, by decide +kernel, admits_of (by decide +kernel)⟩,
   ⟨.sdo, 0, 0, live, by decide +kernel, admits_of (by decide +kernel)⟩,
   ⟨.sdo, 1, 0, false, live, actionAdmits_of (by decide +kernel)⟩,
   ⟨.sdo, 1, 0, false, live, actionAdmits_of (by decide +kernel)⟩,
   ⟨.sdo, 0, 1, live, by decide +kernel, admits_of (by decide +kernel)⟩,
   ⟨.sdo, 1, live, by decide +kernel, admits_of (by decide +kernel)⟩⟩

/-- Inputs that meet the hypotheses of each clause of O32. -/
theorem test_hypotheses_of_StepRunsTheCommandInFront :
    ∃ (c : Instr) (rest : List Instr) (s : State), s.pending = c :: rest :=
  ⟨.resetPin, [], live.setPending [.resetPin], by decide +kernel⟩

/-- Inputs that meet the hypotheses of each clause of O33. -/
theorem test_hypotheses_of_AnEmptyQueueIdles :
    (∃ (s : State), s.pending = []) ∧
    (∃ (s t : State), Safety.canonical s = true ∧ s.pending = [] ∧ step s = .next t) :=
  ⟨⟨live, by decide +kernel⟩,
   ⟨live, live.idle, by decide +kernel, by decide +kernel, step_idle (by decide +kernel)⟩⟩

/-- Inputs that meet the hypotheses of each clause of O34. -/
theorem test_hypotheses_of_ResetLeavesEverythingAtItsDefault :
    ∃ (ix sub : Nat), sub < 256 ∧ (ix, sub) ∉ [(0x2040, 2), (0x2138, 1), (0x2138, 2), (0x2138, 0x11)] :=
  ⟨0x2100, 1, by decide +kernel, by decide +kernel⟩

/-- Inputs that meet the hypotheses of each clause of O36. -/
theorem test_hypotheses_of_StepsStaySafe :
    ∃ (s t : State), Safety.safe s ∧ step s = .next t :=
  ⟨live, live.idle, ⟨by decide +kernel, by decide +kernel⟩, step_idle (by decide +kernel)⟩

/-- Inputs that meet the hypotheses of each clause of O37. -/
theorem test_hypotheses_of_EveryCommandStaysInItsExtent :
    ∃ (c : Instr) (s t : State), Safety.canonical s = true ∧ exec c s = .next t :=
  ⟨.usbAddressSet, live, live, by decide +kernel, by show execUsbAddressSet live = _; unfold execUsbAddressSet; exact if_neg (by decide +kernel)⟩

/-- Inputs that meet the hypotheses of each clause of O39. -/
theorem test_hypotheses_of_GspFramesParse :
    ∃ (seq ix : BitVec 16) (type sub : Byte) (payload : List Byte), payload.length ≤ 512 :=
  ⟨1, 1, 1, 1, leBytes 512 0, by decide +kernel⟩

/-- Inputs that meet the hypotheses of each clause of O40. -/
theorem test_hypotheses_of_BadGspFramesAreDiscarded :
    (∃ (body : List Byte) (crc : BitVec 16), crc.toNat ≠ crc16 body) ∧
    (∃ (l : List Byte), l.length < 11 ∨ 523 < l.length) ∧
    (∃ (frame : List Byte) (c : Instr) (s : State), Safety.canonical s = true ∧ frame ≠ [] ∧ s.reaches .gsp = true ∧ c ∈ Safety.gspRows frame ∧ (cobsDecode (frame ++ [0])).bind gspParse = none) :=
  ⟨⟨[], 0, by decide +kernel⟩,
   ⟨leBytes 10 0, by decide +kernel⟩,
   ⟨[5], .gspRead [5], live, by decide +kernel, by decide +kernel, by decide +kernel, .head _, by decide +kernel⟩⟩

/-- Inputs that meet the hypotheses of each clause of O42. -/
theorem test_hypotheses_of_ReadAtTheCursor :
    (∃ (ch : Channel) (r : Record) (s : State), s.serving = true ∧ r ∈ s.readerRecords (s.client ch).cursor ∧ r.seq = (s.client ch).cursor) ∧
    (∃ (ch : Channel) (s : State), s.serving = true ∧ (∀ r ∈ s.readerRecords (s.client ch).cursor, r.seq ≠ (s.client ch).cursor)) :=
  ⟨⟨.sdo, rec1, (withRec live fun c => { c with log := [(0, .record rec1)] }), by decide +kernel, by decide +kernel, by decide +kernel⟩,
   ⟨.sdo, live, by decide +kernel, by decide +kernel⟩⟩

/-- Inputs that meet the hypotheses of each clause of O43. -/
theorem test_hypotheses_of_GspCrcAndLength :
    ∃ (l : List Byte), l.length ≤ 523 :=
  ⟨leBytes 523 0, by decide +kernel⟩

/-- Inputs that meet the hypotheses of each clause of O44. -/
theorem test_hypotheses_of_EventsAreCleared :
    (∃ (ch : Channel) (tag arg : BitVec 16) (s : State), Safety.canonical s = true ∧ Safety.clearReaches s ch tag.toNat arg.toNat ∧ arg.toNat < 0x280 ∧ s.standing arg.toNat = false) ∧
    (∃ (ch : Channel) (tag arg : BitVec 16) (s : State), Safety.canonical s = true ∧ Safety.clearReaches s ch tag.toNat arg.toNat ∧ arg.toNat < 0x280 ∧ s.standing arg.toNat = true) ∧
    (∃ (ch : Channel) (tag : BitVec 16) (s : State), Safety.canonical s = true ∧ Safety.clearReaches s ch tag.toNat 0x0FFF) ∧
    (∃ (ch : Channel) (tag arg : BitVec 16) (s : State), Safety.canonical s = true ∧ Safety.clearReaches s ch tag.toNat arg.toNat ∧ 0x280 ≤ arg.toNat ∧ arg.toNat ≠ 0x0FFF) :=
  ⟨⟨.sdo, 1, 0x27F, live, by decide +kernel, clearReaches_of (by decide +kernel), by decide +kernel, by decide +kernel⟩,
   ⟨.sdo, 1, 0x100, (uncleared live 0x100 1), by decide +kernel, clearReaches_of (by decide +kernel), by decide +kernel, by decide +kernel⟩,
   ⟨.sdo, 1, live, by decide +kernel, clearReaches_of (by decide +kernel)⟩,
   ⟨.sdo, 1, 0x280, live, by decide +kernel, clearReaches_of (by decide +kernel), by decide +kernel, by decide +kernel⟩⟩

/-- Inputs that meet the hypotheses of each clause of O45. -/
theorem test_hypotheses_of_HallMapsAreOneToOne :
    (∃ (s : State) (h : Fin 8) (n : Nat), n = bits (s.nat 0x2620 1) (3 * h.val + 2) (3 * h.val)) ∧
    (∃ (s : State), s.obj 0x2620 1 = 0x00EEC287) ∧
    (∃ (ch : Channel) (data : List Byte) (row : ObjRow) (sub : Fin 2) (s : State), s.reaches ch = true ∧ findRow 0x2620 (1 + 2 * sub.val) = some row ∧ s.admission ch row 0x2620 (1 + 2 * sub.val) data = none ∧ s.onOrStopping railD = true) ∧
    (∃ (ch : Channel) (data : List Byte) (row : ObjRow) (n : Fin 6) (s : State), s.reaches ch = true ∧ findRow 0x2620 1 = some row ∧ s.admission ch row 0x2620 1 data = none ∧ s.onOrStopping railD = false ∧ ((∀ h : Fin 8, bits (leNat data) (3 * h.val + 2) (3 * h.val) ≠ n.val) ∨ ∃ h k : Fin 8, h ≠ k ∧ bits (leNat data) (3 * h.val + 2) (3 * h.val) = n.val ∧ bits (leNat data) (3 * k.val + 2) (3 * k.val) = n.val)) :=
  ⟨⟨live, 0, 7, by decide +kernel⟩,
   ⟨live, by decide +kernel⟩,
   ⟨.sdo, [2], (rowOf 0x2620 3), 1, (puts live [(0x3400, 3, 1)]), by decide +kernel, by decide +kernel, by decide +kernel, by decide +kernel⟩,
   ⟨.sdo, leBytes 4 0, (rowOf 0x2620 1), 0, live, by decide +kernel, by decide +kernel, by decide +kernel, by decide +kernel, by decide +kernel⟩⟩

/-- Inputs that meet the hypotheses of each clause of O46. -/
theorem test_hypotheses_of_RingCrcIsForwarded :
    ∃ (s : State) (f : RingFrame), f.crc ≠ frameCrc f :=
  ⟨live, { goodFrame with crc := 1 }, by decide +kernel⟩

/-- Inputs that meet the hypotheses of each clause of O47. -/
theorem test_hypotheses_of_ReadFromTheCursor :
    (∃ (ch : Channel) (s : State), s.serving = true) ∧
    (∃ (ch other : Channel) (v : BitVec 32) (s : State), other ≠ ch) :=
  ⟨⟨.sdo, live, by decide +kernel⟩,
   ⟨.sdo, .gsp, 1, live, by decide +kernel⟩⟩

/-- Inputs that meet the hypotheses of each clause of O49. -/
theorem test_hypotheses_of_RecordsHaveTheirLayout :
    ∃ (r : Record), r.seq < 2 ^ 32 ∧ r.time < 2 ^ 48 ∧ r.ev < 0x280 ∧ r.respSev < 256 ∧ r.flags < 256 ∧ r.reps < 256 ∧ r.aux < 256 ∧ r.data < 2 ^ 64 :=
  ⟨rec1, by decide +kernel, by decide +kernel, by decide +kernel, by decide +kernel, by decide +kernel, by decide +kernel, by decide +kernel, by decide +kernel⟩

/-- Inputs that meet the hypotheses of each clause of O50. -/
theorem test_hypotheses_of_RampsNeverOvershoot :
    ∃ (vr goal up down : Int), 0 ≤ up ∧ 0 ≤ down :=
  ⟨1, 1, 1, 1, by decide +kernel, by decide +kernel⟩

/-- Inputs that meet the hypotheses of each clause of O51. -/
theorem test_hypotheses_of_DeadTimesAdaptByOneStep :
    ∃ (p : PhaseId) (falling : Bool) (s : State), s.adaptDue p falling = true ∧ 0 ≤ s.fast (phaseIx p 6) 3 ∧ s.fast (phaseIx p 6) 3 ≤ s.fast (phaseIx p 6) 4 :=
  ⟨0, false, (State.modPhase (puts live [(0x4006, 1, 1), (0x4001, 3, 1)]) 0 fun c => { c with sinceAdaptR := 65535 }), by decide +kernel, by decide +kernel, by decide +kernel⟩

/-- Inputs that meet the hypotheses of each clause of O52. -/
theorem test_hypotheses_of_StagesShareTheSmallestExponent :
    (∃ (xs : List Rat), (blockFloat xs).2 = false) ∧
    (∃ (xs : List Rat), (blockFloat xs).2 = true) ∧
    (∃ (n d : Int), 0 < d) :=
  ⟨⟨[1, -1], by decide +kernel⟩,
   ⟨[pow2 60], by decide +kernel⟩,
   ⟨1, 1, by decide +kernel⟩⟩

/-- Inputs that meet the hypotheses of each clause of O53. -/
theorem test_hypotheses_of_LowestOutputWins :
    (∃ (r : RailId) (k : SlotId) (s : State), Safety.canonical s = true ∧ k ∈ s.computedSlots r) ∧
    (∃ (r : RailId) (s : State), Safety.canonical s = true ∧ s.computedSlots r ≠ []) ∧
    (∃ (r : RailId) (s : State), Safety.canonical s = true ∧ s.computedSlots r = []) :=
  ⟨⟨0, 0, railed, by decide +kernel, by decide +kernel⟩,
   ⟨0, railed, by decide +kernel, by decide +kernel⟩,
   ⟨0, live, by decide +kernel, by decide +kernel⟩⟩

/-- Inputs that meet the hypotheses of each clause of O54. -/
theorem test_hypotheses_of_ActiveResponsesOnlyRise :
    ∃ (event : Fin 640) (data : BitVec 64) (s : State), Safety.canonical s = true :=
  ⟨0, 1, live, by decide +kernel⟩

/-- Inputs that meet the hypotheses of each clause of O55. -/
theorem test_hypotheses_of_RaisingsEnterTheFifo :
    ∃ (event : Fin 640) (data : BitVec 64) (i : EventInfo) (s : State), Safety.canonical s = true ∧ s.serving = true ∧ eventInfo event.val = some i ∧ i.kind ≠ .trigger ∧ s.standing event.val = false ∧ s.responseOf event.val < 4 :=
  ⟨0x220, 1, (infoOf 0x220), live, by decide +kernel, by decide +kernel, by decide +kernel, by decide +kernel, by decide +kernel, by decide +kernel⟩

/-- Inputs that meet the hypotheses of each clause of O56. -/
theorem test_hypotheses_of_TagsAreHandledOnce :
    (∃ (ch : Channel) (ix : BitVec 16) (sub : BitVec 8) (tag arg : BitVec 16) (row : ObjRow) (c : Nat × Option Nat) (s : State), s.reaches ch = true ∧ findRow ix.toNat sub.toNat = some row ∧ isAction ix.toNat sub.toNat = true ∧ tag ≠ 0 ∧ (s.client ch).tags.find? (fun d => d.1 == tag.toNat) = some c) ∧
    (∃ (ch : Channel) (ix : BitVec 16) (sub : BitVec 8) (tag arg : BitVec 16) (row : ObjRow) (code : Nat) (s : State), Safety.canonical s = true ∧ ch ≠ .rpdo ∧ s.reaches ch = true ∧ findRow ix.toNat sub.toNat = some row ∧ isAction ix.toNat sub.toNat = true ∧ tag ≠ 0 ∧ (∀ c ∈ (s.client ch).tags, c.1 ≠ tag.toNat) ∧ (s.admission ch row ix.toNat sub.toNat (actionBytes tag.toNat arg.toNat)).or (s.actionRule ch ix.toNat sub.toNat arg.toNat) = some code) ∧
    (∃ (ch : Channel) (ix : BitVec 16) (sub : BitVec 8) (tag arg : BitVec 16) (s : State), Safety.canonical s = true ∧ ch ≠ .rpdo ∧ isAction ix.toNat sub.toNat = true ∧ tag ≠ 0 ∧ Safety.actionAdmits s ch ix.toNat sub.toNat tag.toNat arg.toNat ∧ (ix.toNat, sub.toNat) ≠ (0x5000, 0x1B) ∧ (ix.toNat, sub.toNat) ≠ (0x2020, 5)) :=
  ⟨⟨.sdo, 0x2300, 3, 1, 1, (rowOf 0x2300 3), (1, none), (State.modClient live .sdo fun c => { c with tags := [(1, none)] }), by decide +kernel, by decide +kernel, by decide +kernel, by decide +kernel, by decide +kernel⟩,
   ⟨.sdo, 0x2300, 3, 1, 2, (rowOf 0x2300 3), 0x06090030, live, by decide +kernel, by decide +kernel, by decide +kernel, by decide +kernel, by decide +kernel, by decide +kernel, by decide +kernel, by decide +kernel⟩,
   ⟨.sdo, 0x2300, 3, 1, 1, live, by decide +kernel, by decide +kernel, by decide +kernel, by decide +kernel, actionAdmits_of (by decide +kernel), by decide +kernel, by decide +kernel⟩⟩

/-- Inputs that meet the hypotheses of each clause of O57. -/
theorem test_hypotheses_of_RefusalsUseTheListedCodes :
    ∃ (ch : Channel) (ix : BitVec 16) (sub : BitVec 8) (data : List Byte) (s : State), (∀ c ∈ (s.client ch).tags, ∀ code : Nat, c.2 = some code → code ∈ Safety.abortCodes) :=
  ⟨.sdo, 1, 1, [], live, by rw [show (live.client .sdo).tags = [] from by decide +kernel]; intro c h; nomatch h⟩

/-- Inputs that meet the hypotheses of each clause of O58. -/
theorem test_hypotheses_of_SurveyRefusesWrites :
    (∃ (ch : Channel) (ix : BitVec 16) (sub : BitVec 8) (data : List Byte) (row : ObjRow) (s : State), s.reaches ch = true ∧ s.fullService = false ∧ findRow ix.toNat sub.toNat = some row ∧ isAction ix.toNat sub.toNat = false ∧ ix ≠ 0x2000 ∧ ix ≠ 0x2020 ∧ (ix.toNat, sub.toNat) ≠ (0x5810, 1)) ∧
    (∃ (ch : Channel) (ix : BitVec 16) (sub : BitVec 8) (tag arg : BitVec 16) (row : ObjRow) (s : State), s.reaches ch = true ∧ s.fullService = false ∧ findRow ix.toNat sub.toNat = some row ∧ isAction ix.toNat sub.toNat = true ∧ tag ≠ 0 ∧ (∀ c ∈ (s.client ch).tags, c.1 ≠ tag.toNat) ∧ ix ≠ 0x2020 ∧ (ix.toNat, sub.toNat) ≠ (0x2128, 5) ∧ (ix.toNat, sub.toNat) ≠ (0x2110, 2)) :=
  ⟨⟨.sdo, 0x2128, 1, [1], (rowOf 0x2128 1), surveying, by decide +kernel, by decide +kernel, by decide +kernel, by decide +kernel, by decide +kernel, by decide +kernel, by decide +kernel⟩,
   ⟨.sdo, 0x2300, 3, 1, 1, (rowOf 0x2300 3), surveying, by decide +kernel, by decide +kernel, by decide +kernel, by decide +kernel, by decide +kernel, by decide +kernel, by decide +kernel, by decide +kernel, by decide +kernel⟩⟩

/-- Inputs that meet the hypotheses of each clause of O59. -/
theorem test_hypotheses_of_PlainWritesChangeOneObject :
    (∃ (ch : Channel) (ix : BitVec 16) (sub : BitVec 8) (data : List Byte) (row : ObjRow) (s : State), Safety.canonical s = true ∧ findRow ix.toNat sub.toNat = some row ∧ row.ty.numeric = true ∧ isAction ix.toNat sub.toNat = false ∧ 0x2000 ≤ ix.toNat ∧ ix.toNat < 0x3000 ∧ ix.toNat ≠ 0x2100 ∧ ix.toNat ≠ 0x2210 ∧ ix.toNat ≠ 0x2400 ∧ (ix.toNat, sub.toNat) ≠ (0x2620, 1)) ∧
    (∃ (ch : Channel) (data : List Byte) (s : State), Safety.canonical s = true) :=
  ⟨⟨.sdo, 0x2128, 1, [], (rowOf 0x2128 1), live, by decide +kernel, by decide +kernel, by decide +kernel, by decide +kernel, by decide +kernel, by decide +kernel, by decide +kernel, by decide +kernel, by decide +kernel, by decide +kernel⟩,
   ⟨.sdo, [], live, by decide +kernel⟩⟩

/-- Inputs that meet the hypotheses of each clause of O60. -/
theorem test_hypotheses_of_BringUpChecksComplete :
    (∃ (s : State), Safety.canonical s = true ∧ s.serving = true ∧ s.bit 0x2120 2 3 = false ∧ s.storedParams.isSome = true ∧ s.storedCal.isSome = true) ∧
    (∃ (analogOk : Bool) (s : State), Safety.canonical s = true ∧ s.serving = true ∧ s.bit 0x2120 2 3 = false ∧ (s.storedParams = none ∨ s.storedCal = none ∨ analogOk = false) ∧ s.stage ≠ 2 ∧ s.stage ≠ 3) ∧
    (∃ (s : State), Safety.canonical s = true ∧ s.serving = true ∧ s.life.settling = true ∧ ((∃ seen, s.life.settleSeen = some seen ∧ seen ≤ s.life.settleFrom + 25 ∧ 8 ≤ s.life.settleCount) ∨ ((∀ seen, s.life.settleSeen = some seen → s.life.settleFrom + 25 < seen) ∧ s.life.settleFrom + 160 ≤ s.life.up))) ∧
    (∃ (s : State), Safety.canonical s = true ∧ s.serving = true ∧ s.stage = 0 ∧ s.nat 0x2120 2 % 64 = 63) :=
  ⟨⟨(puts (withFlash surveying fun c => { c with params := Vector.replicate 2 (some ⟨1, [], []⟩), cal := Vector.replicate 2 (some ⟨1, [], []⟩) }) [(0x2120, 2, 0)]), by decide +kernel, by decide +kernel, by decide +kernel, by decide +kernel, by decide +kernel⟩,
   ⟨false, surveying, by decide +kernel, by decide +kernel, by decide +kernel, by decide +kernel, by decide +kernel, by decide +kernel⟩,
   ⟨(withLife live fun c => { c with settling := true, settleFrom := 0, up := 160 }), by decide +kernel, by decide +kernel, by decide +kernel, by decide +kernel⟩,
   ⟨(puts live [(0x2120, 1, 0), (0x2120, 2, 63)]), by decide +kernel, by decide +kernel, by decide +kernel, by decide +kernel⟩⟩

end Sys2Proof.Tests
end

section
/-! The writes of plain objects over a client channel (O31): what an accepted write or action comes to, what stands in
the object after it, and the effects of its rows on the Graticule, the relays and the pins. -/

namespace Sys2Proof.Machine

/-! ### An accepted write and its answer -/

/-- Changing the client of a channel replaces nothing but the clients. -/
theorem modClient_eq_setClients (s : State) (ch : Channel) (f : Client → Client) :
    ∃ c, s.modClient ch f = s.setClients c := by
  cases ch with
  | sdo => exact ⟨_, rfl⟩
  | usdo n => exact ⟨_, rfl⟩
  | gsp => exact ⟨_, rfl⟩
  | rpdo => exact ⟨s.clients, rfl⟩

/-- Renewing the idle time of a session replaces nothing but the clients. -/
theorem touch_eq_setClients (s : State) (ch : Channel) : ∃ c, s.touch ch = s.setClients c := by
  unfold State.touch
  split
  · exact modClient_eq_setClients _ _ _
  · exact ⟨s.clients, rfl⟩

/-- An admitted value is applied; beside that only the clients change, and they hold the answer (R42). -/
theorem hostWrite_admitted {s : State} {ch : Channel} {ix sub : Nat} {data : List Byte} {ty : ObjType}
    (ha : Safety.admits s ch ix sub data) (ht : (findRow ix sub).map ObjRow.ty = some ty)
    (hn : isAction ix sub = false) (hs : ix ≠ 0x1010 ∧ ix ≠ 0x1011) :
    ∃ c : Clients, s.hostWrite ch ix sub data = (s.applyNumber ch ix sub (ty.value data)).setClients c ∧
      c.answer = some ⟨ch, ix, sub, none⟩ := by
  obtain ⟨hreach, row, hrow, hnum, hadm, hrule⟩ := ha
  have hty : row.ty = ty := by simpa [hrow] using ht
  obtain ⟨c, hc⟩ := touch_eq_setClients (s.applyNumber ch ix sub (ty.value data)) ch
  rw [hostWrite_number hreach hrow hn hadm hnum hrule hs.1 hs.2, hty, hc]
  exact ⟨_, rfl, rfl⟩

/-- An admitted action is done and its tag stored in the object; beside that only the clients change, and they hold the
answer (R81, R82). -/
theorem hostAction_admitted {s : State} {ch : Channel} {ix sub tag arg : Nat}
    (ha : Safety.actionAdmits s ch ix sub tag arg) (hi : isAction ix sub = true) (hl : answersLate ix sub = false)
    (he : endsClient ix sub = false) :
    ∃ b c : Clients, s.hostAction ch ix sub tag arg
        = (((s.setClients b).doAction ch ix sub tag arg).putObj ix sub tag).setClients c ∧
      c.answer = some ⟨ch, ix, sub, none⟩ := by
  obtain ⟨hreach, h0, htag, harg, hnew, row, hrow, hadm, hrule⟩ := ha
  have hfind : ((s.client ch).tags.find? fun (c : Nat × Option Nat) => c.1 == tag) = none :=
    List.find?_eq_none.2 fun c hc => by simpa using hnew c hc
  obtain ⟨b, hb⟩ := touch_eq_setClients s ch
  obtain ⟨c, hc⟩ := modClient_eq_setClients ((s.setClients b).doAction ch ix sub tag arg) ch
    fun d => { d with tags := ((tag, none) :: d.tags).take 16 }
  rw [hostAction_accepted hreach hrow hi hadm hrule h0 htag harg hfind hl he, hb, State.remember, hc]
  exact ⟨b, _, rfl, rfl⟩

/-! ### A refused write -/

/-- A write of an object that is no action, refused by its admission, changes nothing but the answer (R44). -/
theorem hostWrite_refused {s : State} {ch : Channel} {ix sub code : Nat} {data : List Byte} {row : ObjRow}
    (hreach : s.reaches ch = true) (hrow : findRow ix sub = some row) (hn : isAction ix sub = false)
    (hadm : s.admission ch row ix sub data = some code) :
    s.hostWrite ch ix sub data = s.record ch ix sub (some code) := by
  simp [State.hostWrite, hreach, State.writeObj, hrow, hn, hadm, State.recordResult]

/-- A write of an address that names no object changes nothing but the answer (R43). -/
theorem hostWrite_missing {s : State} {ch : Channel} {ix sub : Nat} {data : List Byte} (hreach : s.reaches ch = true)
    (hrow : findRow ix sub = none) : s.hostWrite ch ix sub data = s.record ch ix sub (some (missing ix)) := by
  simp [State.hostWrite, hreach, State.writeObj, hrow, State.recordResult]

/-- A write over a channel that does not reach the device is no write. -/
theorem hostWrite_unreached {s : State} {ch : Channel} {ix sub : Nat} {data : List Byte}
    (hreach : s.reaches ch = false) : s.hostWrite ch ix sub data = s := by
  simp [State.hostWrite, hreach]

/-! ### The bytes of a value -/

theorem leNat_leBytes (n v : Nat) : leNat (leBytes n v) = v % 256 ^ n := by
  induction n generalizing v with
  | zero => simp [leBytes, leNat, Nat.mod_one]
  | succ n ih =>
    rw [leBytes, leNat, ih, BitVec.toNat_ofNat, Nat.pow_succ' (m := 256)]
    exact Nat.mod_mul.symm

theorem value_u8 (b : Byte) : ObjType.u8.value [b] = b.toNat := rfl

theorem value_u64 (v : BitVec 64) : ObjType.u64.value (leBytes 8 v.toNat) = v.toNat := by
  have hv : leNat (leBytes 8 v.toNat) = v.toNat := by
    rw [leNat_leBytes]
    exact Nat.mod_eq_of_lt v.isLt
  exact congrArg Int.ofNat hv

/-! ### What stands in an object after it is written -/

theorem obj_setClients (s : State) (c : Clients) (ix sub : Nat) : (s.setClients c).obj ix sub = s.obj ix sub := rfl

theorem obj_putNow {s : State} (ix sub : Nat) (v : Int) (h : Safety.canonical s = true) :
    (s.putNow ix sub v).obj ix sub = v :=
  odGet_put _ _ _ (cellsAscend_od (s := s) h)

theorem obj_putFast {s : State} (ix sub : Nat) (v : Int) (h : Safety.canonical s = true) :
    (s.putFast ix sub v).obj ix sub = v := by
  unfold State.putFast
  dsimp only
  split
  · exact obj_putObj _ _ _ h
  · exact odGet_put _ _ _ (cellsAscend_od (s := s) h)

/-- The dictionary holds a configuration value at once, also where the fast path waits for its boundary (R17). -/
theorem obj_putConfig {s : State} (ix sub : Nat) (v : Int) (h : Safety.canonical s = true) :
    (s.putConfig ix sub v).obj ix sub = v := by
  unfold State.putConfig
  split
  · exact obj_putFast _ _ _ h
  · exact obj_putNow _ _ _ h

/-- A drive that loses its sector, its intervals and its electrical bearing keeps the objects of 2620. -/
theorem obj_hall_elecInvalid {s : State} (d : Drive) (sub : Nat) (h : Safety.canonical s = true) :
    ((s.setDrive d).voidIntervals.elecInvalid).obj 0x2620 sub = s.obj 0x2620 sub :=
  Keeps.obj (W := 0x200002010000) (State.elecInvalid_keeps (by decide) (State.voidIntervals_keeps (by decide)
    (State.setDrive_keeps d (by decide) (Keeps.refl _ s)))) h sub rfl

/-- The Hall map holds the value written, whatever the drive does at it (R342). -/
theorem obj_writeHallMap {s : State} (v : Int) (h : Safety.canonical s = true) :
    (s.writeHallMap v).obj 0x2620 1 = v := by
  have hput : (s.putObj 0x2620 1 v).obj 0x2620 1 = v := obj_putObj _ _ _ h
  unfold State.writeHallMap
  dsimp only
  split
  · exact hput
  · exact (obj_hall_elecInvalid _ 1 (canonical_putObj _ _ _ h)).trans hput

/-- A device object outside the power state, the Graticule and the ring port holds the value written to it. -/
theorem obj_applyNumber_device {s : State} (ch : Channel) {ix sub : Nat} (v : Int) (h : Safety.canonical s = true)
    (hlo : 0x2000 ≤ ix) (hhi : ix < 0x3000) (hpower : ix ≠ 0x2100) (hgrat : ix ≠ 0x2210) (hring : ix ≠ 0x2400) :
    (s.applyNumber ch ix sub v).obj ix sub = v := by
  unfold State.applyNumber
  rw [if_neg (by omega), if_pos hhi]
  unfold State.writeDevice
  rw [if_neg hpower, dif_neg (fun k => hgrat k.1), if_neg (fun k => hring k.1)]
  split
  · next k =>
    obtain ⟨rfl, rfl⟩ := k
    exact obj_writeHallMap v h
  · exact obj_putConfig _ _ _ h

/-- An object that a list of writes of 0 reaches, or that was 0 before it, is 0. -/
theorem obj_foldl_putObj_zero (ix k : Nat) (l : List Nat) {s : State} (h : Safety.canonical s = true)
    (hk : k ∈ l ∨ s.obj ix k = 0) :
    (l.foldl (fun (s : State) (j : Nat) => s.putObj ix j 0) s).obj ix k = 0 := by
  induction l generalizing s with
  | nil => exact hk.resolve_left List.not_mem_nil
  | cons j l ih =>
    refine ih (canonical_putObj _ _ _ h) ?_
    by_cases hj : objKey ix k = objKey ix j
    · right
      unfold State.obj
      rw [hj]
      exact obj_putObj ix j 0 h
    · rw [obj_putObj_ne 0 h hj]
      exact hk.imp_left fun hm => (List.mem_cons.1 hm).resolve_left fun e => hj (e ▸ rfl)

/-- The error field is empty: its count and its eight entries (R8). -/
theorem obj_clearHistory {s : State} (k : Fin 9) (h : Safety.canonical s = true) :
    s.clearHistory.obj 0x1003 k.val = 0 :=
  obj_foldl_putObj_zero _ _ _ h (.inl (List.mem_range.2 k.isLt))

/-! ### Graticule entries and relays -/

/-- An entry that is armed by R176 waits at its firing bearing with its divider count 0. -/
theorem arming_armEntry (s : State) (n : Fin 64) :
    (s.armEntry n).meridian.arming[n].skip = 0 ∧
      (s.armEntry n).meridian.arming[n].place = s.firingBearing (s.entry n) := by
  simp [State.armEntry]

/-- Where an entry fires does not rest on which entries are armed. -/
theorem firingBearing_armEntry (s : State) (n : Fin 64) (e : Entry) :
    (s.armEntry n).firingBearing e = s.firingBearing e := rfl

theorem relays_commandRelay (s : State) (i : Fin 4) (closed bearing : Bool) :
    (s.commandRelay i closed bearing).meridian.relays[i] =
      if bearing then { s.meridian.relays[i] with waiting := some closed }
      else { s.meridian.relays[i] with due := some closed } := by
  simp [State.commandRelay]

/-- The argument of a relay command names its relay, its state and its mode (R184). -/
theorem relayArg_fields (relay : Fin 4) (closed bearing : Bool) :
    Fin.ofNat 4 (relayArg relay closed (natOf bearing)) = relay ∧
      (relayArg relay closed (natOf bearing)).testBit 4 = closed ∧
      (relayArg relay closed (natOf bearing)).testBit 8 = bearing := by
  revert relay closed bearing
  decide

theorem relayCommand_relayArg (s : State) (relay : Fin 4) (closed bearing : Bool) :
    s.relayCommand (relayArg relay closed (natOf bearing)) = s.commandRelay relay closed bearing := by
  obtain ⟨h1, h2, h3⟩ := relayArg_fields relay closed bearing
  rw [State.relayCommand, h1, h2, h3]

/-- An admitted relay command is answered, and the relay holds it: due at once, or waiting for its bearing (R184). -/
theorem hostAction_relay {s : State} {ch : Channel} {tag : Nat} {relay : Fin 4} {closed bearing : Bool}
    (ha : Safety.actionAdmits s ch 0x2600 1 tag (relayArg relay closed (natOf bearing))) :
    Safety.done (s.hostAction ch 0x2600 1 tag (relayArg relay closed (natOf bearing))) ch 0x2600 1 ∧
      (s.hostAction ch 0x2600 1 tag (relayArg relay closed (natOf bearing))).meridian.relays[relay] =
        if bearing then { s.meridian.relays[relay] with waiting := some closed }
        else { s.meridian.relays[relay] with due := some closed } := by
  obtain ⟨b, c, e, hc⟩ := hostAction_admitted ha rfl rfl rfl
  rw [e, do_relay_command_immediate, relayCommand_relayArg]
  exact ⟨hc, relays_commandRelay (s.setClients b) relay closed bearing⟩

/-! ### The rows -/

theorem type_graticuleEntry (n : Fin 64) : (findRow 0x2210 (1 + n.val)).map ObjRow.ty = some .u64 := by
  revert n
  decide

theorem type_gpioMode (n : Fin 6) : (findRow 0x2610 (1 + n.val)).map ObjRow.ty = some .u8 := by
  revert n
  decide

end Sys2Proof.Machine

namespace Sys2Proof

open Machine

/-- OBJECT_WRITE of an admitted value of a plain device object (R42). -/
theorem objectWrite_done {ch : Channel} {ix : BitVec 16} {sub : BitVec 8} {data : List Byte} {row : ObjRow} {s : State}
    (hc : Safety.canonical s = true) (ha : Safety.admits s ch ix.toNat sub.toNat data)
    (hn : isAction ix.toNat sub.toNat = false) (hrow : findRow ix.toNat sub.toNat = some row)
    (hlo : 0x2000 ≤ ix.toNat) (hhi : ix.toNat < 0x3000) (hpower : ix.toNat ≠ 0x2100) (hgrat : ix.toNat ≠ 0x2210)
    (hring : ix.toNat ≠ 0x2400) :
    Safety.completes (.objectWrite ch ix sub data) s fun t =>
      Safety.done t ch ix.toNat sub.toNat ∧ t.obj ix.toNat sub.toNat = row.ty.value data := by
  refine ⟨_, rfl, ?_⟩
  obtain ⟨c, e, hans⟩ := hostWrite_admitted ha (by rw [hrow]; rfl) hn (by omega)
  rw [e]
  exact ⟨hans, obj_applyNumber_device ch _ hc hlo hhi hpower hgrat hring⟩

/-- ERROR_HISTORY_CLEAR (R8). -/
theorem errorHistoryClear_done {ch : Channel} {s : State} (hc : Safety.canonical s = true)
    (ha : Safety.admits s ch 0x1003 0 [0]) :
    Safety.completes (.errorHistoryClear ch) s fun t =>
      Safety.done t ch 0x1003 0 ∧ ∀ k : Fin 9, t.obj 0x1003 k.val = 0 := by
  refine ⟨_, rfl, ?_⟩
  obtain ⟨c, e, hans⟩ := hostWrite_admitted (ty := .u8) ha rfl rfl (by decide)
  rw [e, apply_error_history_clear]
  exact ⟨hans, fun k => (obj_setClients _ c _ _).trans (obj_clearHistory k hc)⟩

/-- GRATICULE_ENTRY_WRITE (R176). -/
theorem graticuleEntryWrite_done {ch : Channel} {n : Fin 64} {v : BitVec 64} {s : State}
    (hc : Safety.canonical s = true) (ha : Safety.admits s ch 0x2210 (1 + n.val) (leBytes 8 v.toNat)) :
    Safety.completes (.graticuleEntryWrite ch n v) s fun t =>
      Safety.done t ch 0x2210 (1 + n.val) ∧ t.obj 0x2210 (1 + n.val) = v.toNat ∧
        t.meridian.arming[n].skip = 0 ∧ t.meridian.arming[n].place = t.firingBearing (t.entry n) := by
  refine ⟨_, rfl, ?_⟩
  obtain ⟨c, e, hans⟩ := hostWrite_admitted ha (type_graticuleEntry n) rfl (by decide)
  rw [e, apply_graticule_entry_write, value_u64]
  obtain ⟨hskip, hplace⟩ := arming_armEntry (s.putObj 0x2210 (1 + n.val) v.toNat) n
  exact ⟨hans, obj_putObj _ _ _ hc, hskip, hplace.trans (firingBearing_armEntry _ n _).symm⟩

/-- GPIO_MODE_WRITE (R187). -/
theorem gpioModeWrite_done {ch : Channel} {n : Fin 6} {mode : Byte} {s : State} (hc : Safety.canonical s = true)
    (ha : Safety.admits s ch 0x2610 (1 + n.val) [mode]) :
    Safety.completes (.gpioModeWrite ch n mode) s fun t =>
      Safety.done t ch 0x2610 (1 + n.val) ∧ t.obj 0x2610 (1 + n.val) = mode.toNat := by
  refine ⟨_, rfl, ?_⟩
  obtain ⟨c, e, hans⟩ := hostWrite_admitted ha (type_gpioMode n) rfl (by decide)
  rw [e, apply_gpio_mode_write, value_u8]
  exact ⟨hans, obj_putNow _ _ _ hc⟩

/-- GPIO_LEVEL_WRITE (R188). -/
theorem gpioLevelWrite_done {ch : Channel} {levels : Byte} {s : State} (hc : Safety.canonical s = true)
    (ha : Safety.admits s ch 0x2610 7 [levels]) :
    Safety.completes (.gpioLevelWrite ch levels) s fun t =>
      Safety.done t ch 0x2610 7 ∧ t.obj 0x2610 7 = levels.toNat := by
  refine ⟨_, rfl, ?_⟩
  obtain ⟨c, e, hans⟩ := hostWrite_admitted (ty := .u8) ha rfl rfl (by decide)
  rw [e, apply_gpio_level_write, value_u8]
  exact ⟨hans, obj_putNow _ _ _ hc⟩

/-- RELAY_COMMAND_IMMEDIATE (R184): the command is due at the next scan. -/
theorem relayCommandImmediate_done {ch : Channel} {tag : BitVec 16} {relay : Fin 4} {closed : Bool} {s : State}
    (ha : Safety.actionAdmits s ch 0x2600 1 tag.toNat (relayArg relay closed 0)) :
    Safety.completes (.relayCommandImmediate ch tag relay closed) s fun t =>
      Safety.done t ch 0x2600 1 ∧ t.meridian.relays[relay].due = some closed := by
  obtain ⟨hdone, hrelay⟩ := hostAction_relay (bearing := false) ha
  exact ⟨_, rfl, hdone, congrArg Relay.due hrelay⟩

/-- RELAY_COMMAND_AT_BEARING (R184): the command waits for the relay's bearing. -/
theorem relayCommandAtBearing_done {ch : Channel} {tag : BitVec 16} {relay : Fin 4} {closed : Bool} {s : State}
    (ha : Safety.actionAdmits s ch 0x2600 1 tag.toNat (relayArg relay closed 1)) :
    Safety.completes (.relayCommandAtBearing ch tag relay closed) s fun t =>
      Safety.done t ch 0x2600 1 ∧ t.meridian.relays[relay].waiting = some closed := by
  obtain ⟨hdone, hrelay⟩ := hostAction_relay (bearing := true) ha
  exact ⟨_, rfl, hdone, congrArg Relay.waiting hrelay⟩

/-- Settles O31: an admitted write is applied and answered, by the equation of its row; a refused one is only
answered, and one over a channel that does not reach the device is none. -/
theorem objectsAreWritten : Obligations.ObjectsAreWritten := by
  unfold Obligations.ObjectsAreWritten
  refine ⟨?_, ?_, ?_, ?_, fun _ _ => errorHistoryClear_done, fun _ _ _ _ => graticuleEntryWrite_done,
    fun _ _ _ _ _ => relayCommandImmediate_done, fun _ _ _ _ _ => relayCommandAtBearing_done,
    fun _ _ _ _ => gpioModeWrite_done, fun _ _ _ => gpioLevelWrite_done⟩
  · exact fun _ _ _ _ _ _ => objectWrite_done
  · exact fun _ _ _ _ _ _ _ hreach hrow hn hadm => ⟨_, rfl, hostWrite_refused hreach hrow hn hadm⟩
  · exact fun _ _ _ _ _ hreach hrow => ⟨_, rfl, hostWrite_missing hreach hrow⟩
  · exact fun _ _ _ _ _ hreach => congrArg Host.Outcome.next (hostWrite_unreached hreach)

end Sys2Proof
end

section
/-! The Meridian without a flywheel time (O14). Configuration of the Meridian reaches the fast path at an engine sample
boundary only (R17), so the flywheel time that the tracker works with may be 0 while 2200:05 reads another value. The
tracker then enters TIMER at once (R163), where O14 expects FLYWHEEL by the value that 2200:05 reads. -/

namespace Sys2Proof.Machine

/-! ### What the fast path works with -/

theorem fast_putObj_ne {s : State} {ix sub ix' sub' : Nat} (v : Int) (h : Safety.canonical s = true)
    (n : objKey ix' sub' ≠ objKey ix sub) : (s.putObj ix sub v).fast ix' sub' = s.fast ix' sub' := by
  unfold State.fast
  rw [obj_putObj_ne v h n]
  rfl

/-- The fast path works on with the values of a group that an operation does not write. -/
theorem Keeps.fast {W : Nat} {s t : State} (h : Keeps W s t) (hc : Safety.canonical s = true) {ix : Nat} (sub : Nat)
    (hi : siteIn W ix = false) (hw : W.testBit StatePart.stale.bit = false) : t.fast ix sub = s.fast ix sub := by
  have hstale : t.stale = s.stale := h.parts .stale hw
  unfold State.fast
  rw [hstale, h.obj hc sub hi]

/-- Until its boundary the fast path works with the value that a write replaces (R17). -/
theorem fast_putConfig_waiting {s : State} {ix sub : Nat} (v : Int) (hkey : fastKey ix sub = true)
    (hcomes : s.boundaryComes (objKey ix sub) = true) (hnone : cellGet s.stale (objKey ix sub) = none) :
    (s.putConfig ix sub v).fast ix sub = s.obj ix sub := by
  simp [State.putConfig, State.putFast, State.fast, State.putObj, hkey, hcomes, hnone, cellGet_put]

theorem canonical_putConfig {s : State} (ix sub : Nat) (v : Int) (h : Safety.canonical s = true) :
    Safety.canonical (s.putConfig ix sub v) = true :=
  (State.putConfig_keeps (W := 5) (s₀ := s) ix sub v rfl (by decide) (Keeps.refl _ _)).canonical h

/-! ### The tracker without a flywheel time -/

theorem timerTracker_tracker {s : State} (h : Safety.canonical s = true) : s.timerTracker.obj 0x2200 1 = 0 := by
  have hput : Safety.canonical (s.putObj 0x2200 1 0) = true := canonical_putObj _ _ _ h
  have hzero : ((s.putObj 0x2200 1 0).putObj 0x2200 0x0B 0).obj 0x2200 1 = 0 :=
    (obj_putObj_ne 0 hput (by decide)).trans (obj_putObj _ _ _ h)
  refine Eq.trans ?_ hzero
  exact Keeps.obj (W := 0x4008062D116810006436018) (State.raise_keeps _ _ (by decide)
    (State.endFlywheel_keeps (by decide) (Keeps.refl _ _))) (canonical_putObj _ _ _ hput) 1 rfl

/-- A raising leaves the objects of the Meridian to the fast path as they are. -/
theorem fast_raise_meridian {s : State} (e data sub : Nat) (h : Safety.canonical s = true) :
    (s.raise e data).fast 0x2200 sub = s.fast 0x2200 sub :=
  (State.raise_keeps e data (maskLe_refl _) (Keeps.refl _ s)).fast h sub rfl rfl

theorem canonical_raise {s : State} (e data : Nat) (h : Safety.canonical s = true) :
    Safety.canonical (s.raise e data) = true :=
  (State.raise_keeps e data (maskLe_refl _) (Keeps.refl _ s)).canonical h

/-- Where the fast path works with a flywheel time of 0, the loss of lock ends in TIMER at once (R163). -/
theorem flywheelTracker_tracker {s : State} (h : Safety.canonical s = true) (h0 : s.fast 0x2200 5 = 0) :
    s.flywheelTracker.obj 0x2200 1 = 0 := by
  have hm (m : Meridian) : Safety.canonical (s.setMeridian m) = true := h
  have hput (m : Meridian) : Safety.canonical ((s.setMeridian m).putObj 0x2200 1 2) = true :=
    canonical_putObj _ _ _ (hm m)
  have hfast (m : Meridian) (data : Nat) :
      (((s.setMeridian m).putObj 0x2200 1 2).raise dvMerFlywheel data).fast 0x2200 5 = 0 := by
    rw [fast_raise_meridian _ _ _ (hput m), fast_putObj_ne _ (hm m) (by decide)]
    exact h0
  unfold State.flywheelTracker
  dsimp only
  rw [if_pos (hfast _ _)]
  exact timerTracker_tracker (canonical_raise _ _ (hput _))

/-- MAINS_CROSSING_TIMEOUT ends LOCKED (R162). -/
theorem exec_mainsCrossingTimeout {s : State} (h : s.tracker = 1) :
    exec .mainsCrossingTimeout s = .next s.flywheelTracker := by
  show execMainsCrossingTimeout s = _
  unfold execMainsCrossingTimeout
  rw [if_pos h]

/-! ### A flywheel time that waits for its boundary -/

/-- A device at full service, LOCKED under a flywheel time of 0, its engine running a BUCK rail. -/
def lockedWithoutFlywheel : State :=
  ((((({ State.reset with life := { st := .run } }).putObj 0x2120 1 2).putObj 0x3000 1 1).putObj 0x3800 1 1).putObj
    0x2200 1 1).putObj 0x2200 5 0

/-- The host has written 3000 ms to 2200:05, and the next engine sample boundary has not come. -/
def flywheelTimeWaits : State := lockedWithoutFlywheel.putConfig 0x2200 5 3000

theorem canonical_lockedWithoutFlywheel : Safety.canonical lockedWithoutFlywheel = true := by decide +kernel

theorem fast_flywheelTimeWaits : flywheelTimeWaits.fast 0x2200 5 = 0 :=
  (fast_putConfig_waiting 3000 rfl (by decide +kernel) rfl).trans
    (obj_putObj _ _ _ (by decide +kernel))

end Sys2Proof.Machine

namespace Sys2Proof

open Machine

/-- Refutes O14 by its clause of MAINS_CROSSING_TIMEOUT: in `flywheelTimeWaits` 2200:05 reads 3000, the fast path still
works with 0, and the tracker leaves LOCKED for TIMER, 2200:01 = 0, where the clause has FLYWHEEL, 2200:01 = 2. -/
theorem not_meridianRuns : ¬ Obligations.MeridianRuns := by
  unfold Obligations.MeridianRuns
  rintro ⟨-, -, -, htimeout, -⟩
  have hc : Safety.canonical flywheelTimeWaits = true := canonical_putConfig _ _ _ canonical_lockedWithoutFlywheel
  have hlocked : flywheelTimeWaits.tracker = 1 := by decide +kernel
  have htime : flywheelTimeWaits.obj 0x2200 5 = 3000 := obj_putConfig _ _ _ canonical_lockedWithoutFlywheel
  obtain ⟨t, hexec, hflywheel, -⟩ := htimeout flywheelTimeWaits hc hlocked (by omega)
  obtain rfl : flywheelTimeWaits.flywheelTracker = t :=
    Host.Outcome.next.inj ((exec_mainsCrossingTimeout hlocked).symm.trans hexec)
  have htimer := flywheelTracker_tracker hc fast_flywheelTimeWaits
  omega

end Sys2Proof
end

section
/-! The sensing front ends (O18): conversions of phase current, over-current crossings, remote voltage sense and the
auxiliary converter. Several of their commands raise an event, and a raising may stop rails or enter Outline mode; it
nevertheless leaves the trips and the limits of every phase, and the objects of the front ends. -/

namespace Sys2Proof.Machine

/-! ### Gates and bits -/

/-- A command's gate: the path runs, and a number lies within its bound. -/
theorem and_ble_iff {b : Bool} {m n : Nat} : (b && Nat.ble m n) = true ↔ b = true ∧ m ≤ n := by
  rw [Bool.and_eq_true, Nat.ble_eq]

theorem not_and_ble {b : Bool} {m n : Nat} (h : b = false ∨ n < m) : ¬ (b && Nat.ble m n) = true := by
  rw [and_ble_iff]
  rintro ⟨hb, hle⟩
  rcases h with h | h
  · exact Bool.false_ne_true (h.symm.trans hb)
  · omega

theorem testBit_setBit (v n : Nat) (b : Bool) : (setBit v n b).testBit n = b := by
  unfold setBit
  cases hv : v.testBit n <;> cases b <;> simp [hv]
  · rw [Nat.add_comm, Nat.testBit_two_pow_add_eq, hv]
    rfl
  · obtain ⟨w, rfl⟩ := Nat.exists_eq_add_of_le (Nat.ge_two_pow_of_testBit hv)
    rw [Nat.testBit_two_pow_add_eq, Bool.not_eq_true'] at hv
    rw [Nat.add_sub_cancel_left, hv]

theorem bit_putBit {s : State} (ix sub n : Nat) (b : Bool) (h : Safety.canonical s = true) :
    (s.putBit ix sub n b).bit ix sub n = b := by
  unfold State.bit State.nat State.putBit
  rw [obj_putObj _ _ _ h]
  exact testBit_setBit _ _ _

/-! ### What over-current holds against a phase -/

/-- The trip of a phase with its over-current cause, and its cycle limits. -/
def Phase.protection (a : Phase) : Bool × Bool × Bool × Bool := (a.tripped, a.tripOc, a.limitPos, a.limitNeg)

theorem Phase.protection_eq_iff (a b : Phase) : a.protection = b.protection ↔
    a.tripped = b.tripped ∧ a.tripOc = b.tripOc ∧ a.limitPos = b.limitPos ∧ a.limitNeg = b.limitNeg := by
  simp [Phase.protection]

/-- `Phase.protection` of a phase of the device. -/
def State.protection (s : State) (p : PhaseId) : Bool × Bool × Bool × Bool := s.phases[p].protection

section
variable (s : State) (p : PhaseId)

theorem protection_of_keeps {W : Nat} {s t : State} (p : PhaseId) (k : Keeps W s t)
    (hw : W.testBit StatePart.phases.bit = false) : t.protection p = s.protection p := by
  have hphases : t.phases = s.phases := k.parts .phases hw
  unfold State.protection
  rw [hphases]

@[simp] theorem protection_putObj (ix sub : Nat) (v : Int) : (s.putObj ix sub v).protection p = s.protection p := rfl

@[simp] theorem protection_putBit (ix sub n : Nat) (b : Bool) :
    (s.putBit ix sub n b).protection p = s.protection p := rfl

@[simp] theorem protection_bump (ix sub : Nat) : (s.bump ix sub).protection p = s.protection p := rfl

@[simp] theorem protection_putRailObj (r : RailId) (off sub : Nat) (v : Int) :
    (s.putRailObj r off sub v).protection p = s.protection p := rfl

@[simp] theorem protection_putPhaseObj (q : PhaseId) (off sub : Nat) (v : Int) :
    (s.putPhaseObj q off sub v).protection p = s.protection p := rfl

@[simp] theorem protection_modRail (r : RailId) (f : Rail → Rail) :
    (s.modRail r f).protection p = s.protection p := rfl

@[simp] theorem protection_setOutline (v : Outline) : (s.setOutline v).protection p = s.protection p := rfl

@[simp] theorem protection_setSafety (v : Safety) : (s.setSafety v).protection p = s.protection p := rfl

@[simp] theorem protection_ite {c : Prop} [Decidable c] (a b : State) :
    (if c then a else b).protection p = if c then a.protection p else b.protection p :=
  apply_ite (fun (s : State) => s.protection p) c a b

/-- A change of one phase that leaves its trip and its limits. -/
@[simp] theorem protection_modPhase (q : PhaseId) (f : Phase → Phase) (h : ∀ a, (f a).protection = a.protection) :
    (s.modPhase q f).protection p = s.protection p := by
  show ((s.phases.set q.val (f s.phases[q]) q.isLt)[p.val]'p.isLt).protection = _
  rw [Vector.getElem_set]
  split
  · next e =>
    obtain rfl : q = p := Fin.ext e
    exact h _
  · rfl

@[simp] theorem protection_foldl {α : Type} (f : State → α → State) (l : List α)
    (h : ∀ s a, (f s a).protection p = s.protection p) : (l.foldl f s).protection p = s.protection p := by
  induction l generalizing s with
  | nil => rfl
  | cons a l ih => exact (ih (f s a)).trans (h s a)

@[simp] theorem protection_idleSlots (r : RailId) : (s.idleSlots r).protection p = s.protection p :=
  protection_of_keeps p (State.idleSlots_keeps r (maskLe_refl _) (Keeps.refl _ s)) rfl

@[simp] theorem protection_stopCommon (r : RailId) (c : Nat) : (s.stopCommon r c).protection p = s.protection p :=
  protection_of_keeps p (State.stopCommon_keeps r c (maskLe_refl _) (Keeps.refl _ s)) rfl

@[simp] theorem protection_softStop (r : RailId) (c : Nat) : (s.softStop r c).protection p = s.protection p :=
  protection_of_keeps p (State.softStop_keeps r c (maskLe_refl _) (Keeps.refl _ s)) rfl

@[simp] theorem protection_safeRelays : s.safeRelays.protection p = s.protection p :=
  protection_of_keeps p (State.safeRelays_keeps (maskLe_refl _) (Keeps.refl _ s)) rfl

@[simp] theorem protection_leaveRing (n : Nat) : (s.leaveRing n).protection p = s.protection p :=
  protection_of_keeps p (State.leaveRing_keeps n (maskLe_refl _) (Keeps.refl _ s)) rfl

@[simp] theorem protection_raiseCore (e data : Nat) (b : Bool) :
    (s.raiseCore e data b).protection p = s.protection p :=
  protection_of_keeps p (State.raiseCore_keeps e data b (maskLe_refl _) (Keeps.refl _ s)) rfl

@[simp] theorem protection_endStop (r : RailId) : (s.endStop r).protection p = s.protection p := by
  simp [State.endStop, State.putFunc, Phase.protection_eq_iff]

@[simp] theorem protection_hardStop (r : RailId) (c : Nat) : (s.hardStop r c).protection p = s.protection p := by
  simp [State.hardStop, State.settleStop, Phase.protection_eq_iff]

@[simp] theorem protection_closeWindow (q : PhaseId) (falling : Bool) :
    (s.closeWindow q falling).protection p = s.protection p := by
  cases falling <;> simp [State.closeWindow, Phase.protection_eq_iff]

@[simp] theorem protection_putOutputs (q : PhaseId) (h l : Bool) :
    (s.putOutputs q h l).protection p = s.protection p := by
  simp [State.putOutputs, Phase.protection_eq_iff]

@[simp] theorem protection_drivePhase (q : PhaseId) : (s.drivePhase q).protection p = s.protection p := by
  simp [State.drivePhase, Phase.protection_eq_iff]

@[simp] theorem protection_settleOutline (q : PhaseId) : (s.settleOutline q).protection p = s.protection p := by
  simp [State.settleOutline, State.takeOutline, Phase.protection_eq_iff]

@[simp] theorem protection_outlinePhase (q : PhaseId) (state : Nat) (duty : Int) :
    (s.outlinePhase q state duty).protection p = s.protection p := by
  simp [State.outlinePhase, Phase.protection_eq_iff]

@[simp] theorem protection_startTurning : s.startTurning.protection p = s.protection p := by
  simp [State.startTurning, State.driveOutline, State.driveStore, State.settleOutlines]

@[simp] theorem protection_enterOutline (c : Nat) : (s.enterOutline c).protection p = s.protection p := by
  unfold State.enterOutline
  dsimp only
  split
  · rfl
  · rw [protection_raiseCore, protection_startTurning, protection_leaveRing, protection_ite, protection_putObj,
      ite_self, protection_foldl _ _ _ _ fun t r => ?_]
    · rfl
    · simp

@[simp] theorem protection_safePath : s.safePath.protection p = s.protection p := by
  unfold State.safePath
  dsimp only
  rw [protection_safeRelays, protection_foldl _ _ _ _ fun t q => ?_]
  · simp [State.interrupt]
  · split <;> simp

@[simp] theorem protection_respond (e resp : Nat) (acts : List RailId) :
    (s.respond e resp acts).protection p = s.protection p := by
  unfold State.respond
  split <;> simp

/-- No raising releases a phase that over-current has tripped or limited, whatever its response. -/
@[simp] theorem protection_raise (e data : Nat) : (s.raise e data).protection p = s.protection p := by
  simp [State.raise]

end

theorem protection_trip (s : State) (p : PhaseId) :
    (s.trip p).protection p = (true, s.phases[p].tripOc, s.phases[p].limitPos, s.phases[p].limitNeg) := by
  unfold State.trip
  rw [protection_drivePhase]
  simp [State.protection, State.modPhase, Phase.protection]

/-! ### A raising after other changes -/

theorem group_responses {e : Nat} (h : e < 640) : Safety.group (0x2310 + e / 128) = 0x2310 := by
  unfold Safety.group
  rw [if_neg (by omega), if_neg (by omega), if_neg (by omega), if_neg (by omega), if_pos (by omega)]

/-- A raising after an operation that leaves the fabric, its counters and the response table alone. -/
theorem raised_after {W : Nat} {e : Nat} {s s' t : State} (k : Keeps W s s') (hc : Safety.canonical s = true)
    (he : e < 640) (hfabric : W.testBit StatePart.fabric.bit = false) (hresp : siteIn W 0x2310 = false)
    (hcount : siteIn W 0x2320 = false) (h : Safety.raised e s' t) : Safety.raised e s t := by
  have hf : s'.fabric = s.fabric := k.parts .fabric hfabric
  have hentry : s'.responseEntry e = s.responseEntry e := by
    have hsite : siteIn W (0x2310 + e / 128) = siteIn W 0x2310 := by
      unfold siteIn siteOf
      rw [group_responses he]
      rfl
    unfold State.responseEntry State.nat
    rw [k.obj hc _ (hsite.trans hresp)]
  have hof : s'.responseOf e = s.responseOf e := by
    unfold State.responseOf State.uncleared
    rw [hf, hentry]
  have hobj : s'.obj 0x2320 (6 + severityOf e) = s.obj 0x2320 (6 + severityOf e) := k.obj hc _ hcount
  unfold Safety.raised at h ⊢
  rwa [hof, hentry, hobj, uncleared_congr e hf] at h

/-- An event that a raising takes: it is in the catalogue, and not of the trigger class (R33, R497). -/
def raisable (e : Nat) : Bool := (eventInfo e).any fun i => i.kind != .trigger

theorem raise_raised_after {W : Nat} {e : Nat} {s s' : State} (data : Nat) (k : Keeps W s s')
    (hc : Safety.canonical s = true) (he : raisable e = true) (hfabric : W.testBit StatePart.fabric.bit = false)
    (hresp : siteIn W 0x2310 = false) (hcount : siteIn W 0x2320 = false) : Safety.raised e s (s'.raise e data) := by
  obtain ⟨i, hi, hkind⟩ := (Option.any_eq_true _ _).1 he
  have hlt : e < 640 := Nat.lt_of_not_le fun hge => Option.some_ne_none i (hi.symm.trans (eventInfo_beyond hge))
  exact raised_after k hc hlt hfabric hresp hcount (raise_raised data (k.canonical hc) hi (by simpa using hkind))

theorem raisable_overcurrent (p : PhaseId) (positive : Bool) :
    raisable (if positive then phOcPos p.val else phOcNeg p.val) = true := by
  revert p positive
  decide

theorem raisable_rlVsnsWindow (r : VRailId) : raisable (rlVsnsWindow r.val) = true := by
  revert r
  decide

theorem raisable_rlVsnsMismatch (r : VRailId) : raisable (rlVsnsMismatch r.val) = true := by
  revert r
  decide

theorem raisable_rlVsnsOpen (r : VRailId) : raisable (rlVsnsOpen r.val) = true := by
  revert r
  decide

/-! ### The end of a standing condition (R500) -/

/-- The entries of an event among the uncleared ones. -/
def State.entriesOf (s : State) (e : Nat) : List Uncleared := s.fabric.uncleared.filter fun u => u.ev == e

theorem standing_entriesOf (s : State) (e : Nat) : s.standing e = (s.entriesOf e).any fun u => u.standing := by
  unfold State.standing State.entriesOf
  rw [List.any_filter]

theorem uncleared_entriesOf (s : State) (e : Nat) : Safety.uncleared s e = (s.entriesOf e).any fun _ => true := by
  unfold Safety.uncleared State.entriesOf
  simp [List.any_filter]

theorem entriesOf_congr {s t : State} (e : Nat) (h : t.fabric.uncleared = s.fabric.uncleared) :
    t.entriesOf e = s.entriesOf e := by
  unfold State.entriesOf
  rw [h]

/-- What a raising does to the uncleared events: nothing, or its entry takes the last place. -/
theorem raiseCore_list (s : State) (e data : Nat) (restored : Bool) :
    (s.raiseCore e data restored).fabric.uncleared = s.fabric.uncleared ∨
      ∃ u : Uncleared, u.ev = e ∧ (s.raiseCore e data restored).fabric.uncleared =
        (s.fabric.uncleared.filter fun w => w.ev != e) ++ [u] := by
  unfold State.raiseCore
  split
  · exact .inl rfl
  · split
    · exact .inl rfl
    · dsimp only
      split
      · exact .inl rfl
      · split
        · exact .inl (congrArg Fabric.uncleared (ite_fabric _ _ _))
        · right
          rw [enqueue_uncleared, riseResponses_fabric]
          show ∃ u : Uncleared, u.ev = e ∧ List.filter _ _ ++ [_] = _
          rw [ite_fabric]
          exact ⟨_, rfl, rfl⟩

/-- A raising leaves the entries of every other event. -/
theorem entriesOf_raiseCore_other (s : State) {e e' : Nat} (data : Nat) (restored : Bool) (n : e' ≠ e) :
    (s.raiseCore e data restored).entriesOf e' = s.entriesOf e' := by
  rcases raiseCore_list s e data restored with h | ⟨u, rfl, h⟩
  · exact entriesOf_congr _ h
  · have hkeep (w : Uncleared) : (w.ev == e' && w.ev != u.ev) = (w.ev == e') := by
      by_cases hw : w.ev = e' <;> simp [hw, n]
    unfold State.entriesOf
    rw [h, List.filter_append, List.filter_filter]
    simp [hkeep, Ne.symm n]

theorem entriesOf_stagingChanged (s : State) {e : Nat} (n : e ≠ rcStagingOverflow) :
    s.stagingChanged.entriesOf e = s.entriesOf e := by
  have hwrite (s : State) : s.startWrite.entriesOf e = s.entriesOf e :=
    entriesOf_congr e (congrArg Fabric.uncleared
      ((State.startWrite_keeps (maskLe_refl _) (Keeps.refl _ s)).parts .fabric rfl))
  have hoverflow (s : State) : s.checkOverflow.entriesOf e = s.entriesOf e := by
    unfold State.checkOverflow
    split
    · exact entriesOf_raiseCore_other _ _ _ n
    · rfl
  unfold State.stagingChanged
  dsimp only
  rw [hwrite, hoverflow]
  split <;> rfl

/-- A record on its way to the log leaves the entries of every event but RC_STAGING_OVERFLOW. -/
theorem entriesOf_enterStaged (s : State) (x : Staged) {e : Nat} (n : e ≠ rcStagingOverflow) :
    (s.enterStaged x).entriesOf e = s.entriesOf e := by
  unfold State.enterStaged
  dsimp only
  split
  · exact entriesOf_stagingChanged _ n
  · split
    · split
      · exact entriesOf_stagingChanged _ n
      · rfl
    · rfl

/-- The entry of an event with its standing condition ended. -/
def unstand (e : Nat) (u : Uncleared) : Uncleared := if u.ev = e then { u with standing := false } else u

theorem unstand_ev (e : Nat) (u : Uncleared) : (unstand e u).ev = u.ev := by
  unfold unstand
  split <;> rfl

theorem entriesOf_endWith {s : State} {e : Nat} {u : Uncleared} (time data reps aux : Nat) (n : e ≠ rcStagingOverflow)
    (hu : s.uncleared e = some u) (hstanding : u.standing = true) :
    (s.endWith e time data reps aux).entriesOf e = (s.entriesOf e).map (unstand e) := by
  have hmap (f : Fabric) (t : State) (ht : t.fabric = { f with uncleared := f.uncleared.map (unstand e) }) :
      t.entriesOf e = (f.uncleared.filter fun w => w.ev == e).map (unstand e) := by
    unfold State.entriesOf
    rw [ht, List.filter_map]
    simp [Function.comp_def, unstand_ev]
  unfold State.endWith
  rw [hu]
  dsimp only
  rw [hstanding, Bool.not_true, if_neg Bool.false_ne_true]
  split
  · rw [entriesOf_enterStaged _ _ n]
    exact hmap s.fabric _ rfl
  · exact hmap s.fabric _ rfl

/-- The end of a standing condition leaves its event uncleared and no longer STANDING. -/
theorem endEvent_ended (s : State) {e : Nat} (data : Nat) (n : e ≠ rcStagingOverflow) :
    Safety.ended e s (s.endEvent e data) := by
  intro u hu hstanding
  have hentries : (s.endEvent e data).entriesOf e = (s.entriesOf e).map (unstand e) :=
    entriesOf_endWith _ _ _ _ n hu hstanding
  refine ⟨?_, ?_⟩
  · rw [standing_entriesOf, hentries, List.any_map, List.any_eq_false]
    intro w hw
    have hev : w.ev = e := by simpa using (List.mem_filter.1 hw).2
    simp [unstand, hev]
  · rw [uncleared_entriesOf, hentries, List.any_map]
    exact (uncleared_entriesOf s e).symm.trans (uncleared_some hu)

/-- The end of a standing condition after an operation that leaves the fabric alone. -/
theorem ended_after {e : Nat} {s s' t : State} (hfabric : s'.fabric = s.fabric) (h : Safety.ended e s' t) :
    Safety.ended e s t := by
  unfold Safety.ended State.uncleared at *
  rwa [hfabric] at h

/-! ### Objects through an operation -/

theorem Keeps.bit {W : Nat} {s t : State} (h : Keeps W s t) (hc : Safety.canonical s = true) {ix : Nat} (sub n : Nat)
    (hi : siteIn W ix = false) : t.bit ix sub n = s.bit ix sub n := by
  unfold State.bit State.nat
  rw [h.obj hc sub hi]

/-- Two indices of one group stand at one position of a mask. -/
theorem siteIn_congr (W : Nat) {ix ix' : Nat} (h : Safety.group ix = Safety.group ix') :
    siteIn W ix = siteIn W ix' := by
  unfold siteIn siteOf
  rw [h]

theorem siteIn_phase_eq (W : Nat) (p : PhaseId) {off : Nat} (h : off < 16) :
    siteIn W (phaseIx p off) = siteIn W (phaseIx 0 off) :=
  siteIn_congr W ((group_phaseIx p off h).trans (group_phaseIx 0 off h).symm)

theorem siteIn_rail_eq (W : Nat) (r : RailId) {off : Nat} (h : off < 256) :
    siteIn W (railIx r off) = siteIn W (railIx 0 off) :=
  siteIn_congr W ((group_railIx r off h).trans (group_railIx 0 off h).symm)

theorem canonical_bump {s : State} (ix sub : Nat) (h : Safety.canonical s = true) :
    Safety.canonical (s.bump ix sub) = true :=
  canonical_putObj _ _ _ h

theorem canonical_putBit {s : State} (ix sub n : Nat) (b : Bool) (h : Safety.canonical s = true) :
    Safety.canonical (s.putBit ix sub n b) = true :=
  canonical_putObj _ _ _ h

theorem obj_bump_ne {s : State} {ix sub ix' sub' : Nat} (h : Safety.canonical s = true)
    (n : objKey ix' sub' ≠ objKey ix sub) : (s.bump ix sub).obj ix' sub' = s.obj ix' sub' :=
  obj_putObj_ne _ h n

theorem vsense_modVSense (s : State) (r : VRailId) (f : VSense → VSense) :
    (s.modVSense r f).vsense[r] = f s.vsense[r] := by
  simp [State.modVSense]

theorem aux_modAux (s : State) (c : AuxId) (f : Aux → Aux) : (s.modAux c f).aux[c] = f s.aux[c] := by
  simp [State.modAux]

/-! ### Phase-current conversions (R195, R199) -/

theorem adcs_currentTrigger {p : PhaseId} {s : State} (hsensed : s.phaseSensed p = true)
    (hroom : s.adcs[s.adcOf p].length ≤ 8) :
    (s.currentTrigger p).adcs = s.adcs.set (s.adcOf p) (s.adcs[s.adcOf p] ++ [p.val]) := by
  unfold State.currentTrigger
  dsimp only
  rw [if_pos (and_ble_iff.2 ⟨hsensed, hroom⟩)]
  split <;> rfl

theorem currentTrigger_refused {p : PhaseId} {s : State}
    (h : s.phaseSensed p = false ∨ 8 < s.adcs[s.adcOf p].length) : s.currentTrigger p = s := by
  exact if_neg (not_and_ble h)

/-- A raising leaves the objects 400p5 as they are. -/
theorem raise_phaseObj_current {s : State} (p : PhaseId) (e data sub : Nat) (hc : Safety.canonical s = true) :
    (s.raise e data).phaseObj p 5 sub = s.phaseObj p 5 sub :=
  (State.raise_keeps e data (maskLe_refl _) (Keeps.refl _ s)).obj hc sub (siteIn_phase_eq _ p (by decide))

/-- Once the result is written, clipping changes at most the clip count among the objects 400p5 (R196). -/
theorem takeCurrent_phaseObj {s : State} (p : PhaseId) (code : Nat) {sub : Nat} (hc : Safety.canonical s = true)
    (hsub : sub < 256) (hclip : sub ≠ 9) :
    (s.takeCurrent p code).phaseObj p 5 sub =
      ((s.putPhaseObj p 5 7 (roundRat (s.isnsCurrent p (code * (25 / 64 : Rat))))).putPhaseObj p 5 8 code).phaseObj
        p 5 sub := by
  have hput : Safety.canonical ((s.putPhaseObj p 5 7
      (roundRat (s.isnsCurrent p (code * (25 / 64 : Rat))))).putPhaseObj p 5 8 code) = true :=
    canonical_putObj _ _ _ (canonical_putObj _ _ _ hc)
  unfold State.takeCurrent
  dsimp only
  generalize (s.putPhaseObj p 5 7 (roundRat (s.isnsCurrent p (code * (25 / 64 : Rat))))).putPhaseObj p 5 8 code = x
    at hput ⊢
  have hclean : Safety.canonical (x.modPhase p fun a => { a with unclipped := 0 }) = true := hput
  split
  · split
    · rw [raise_phaseObj_current p _ _ sub (canonical_bump _ _ hclean)]
      exact obj_bump_ne hclean (objKey_inj hsub (by decide) hclip)
    · rfl
  · rfl

/-- A conversion result stands in the objects of its phase (R195). -/
theorem takeCurrent_results {s : State} (p : PhaseId) (code : Nat) (hc : Safety.canonical s = true) :
    (s.takeCurrent p code).phaseObj p 5 8 = code ∧
      (s.takeCurrent p code).phaseObj p 5 7 = roundRat (s.isnsCurrent p (code * (25 / 64 : Rat))) := by
  have h7 : Safety.canonical (s.putPhaseObj p 5 7 (roundRat (s.isnsCurrent p (code * (25 / 64 : Rat))))) = true :=
    canonical_putObj _ _ _ hc
  refine ⟨?_, ?_⟩
  · rw [takeCurrent_phaseObj p code hc (by decide) (by decide)]
    exact obj_putObj _ _ _ h7
  · rw [takeCurrent_phaseObj p code hc (by decide) (by decide)]
    exact (obj_putObj_ne _ h7 (objKey_inj (by decide) (by decide) (by decide))).trans (obj_putObj _ _ _ hc)

/-- Beside the queue of the converter, the result of the oldest conversion only reaches the phase regulator (R199). -/
theorem conversionDone_regulates {s : State} {p : PhaseId} (code : Nat) {rest : List Nat}
    (h : s.adcs[s.adcOf p] = p.val :: rest) :
    Keeps 0x20000 ((s.setAdcs (s.adcs.set (s.adcOf p) rest)).takeCurrent p code) (s.conversionDone p code) := by
  unfold State.conversionDone
  dsimp only
  rw [h, List.head?_cons, if_pos rfl, List.tail_cons]
  split
  · split
    · exact State.regulate_keeps _ _ _ (maskLe_refl _) (Keeps.refl _ _)
    · exact Keeps.refl _ _
  · exact Keeps.refl _ _

theorem phaseCurrentConversionDone_result {p : PhaseId} {code : BitVec 12} {rest : List Nat} {s : State}
    (hc : Safety.canonical s = true) (h : s.adcs[s.adcOf p] = p.val :: rest) :
    Safety.completes (.phaseCurrentConversionDone p code) s fun t =>
      t.adcs = s.adcs.set (s.adcOf p) rest ∧ t.phaseObj p 5 8 = code.toNat ∧
        t.phaseObj p 5 7 = roundRat (s.isnsCurrent p (code.toNat * (25 / 64 : Rat))) := by
  have hc' : Safety.canonical (s.setAdcs (s.adcs.set (s.adcOf p) rest)) = true := hc
  have htake := State.takeCurrent_keeps p code.toNat (maskLe_refl _)
    (Keeps.refl _ (s.setAdcs (s.adcs.set (s.adcOf p) rest)))
  have hreg := conversionDone_regulates code.toNat h
  obtain ⟨hcode, hcurrent⟩ := takeCurrent_results p code.toNat hc'
  refine ⟨_, rfl, ?_, ?_, ?_⟩
  · exact (hreg.parts .adcs rfl).trans (htake.parts .adcs rfl)
  · exact (hreg.obj (htake.canonical hc') 8 (siteIn_phase_eq _ p (by decide))).trans hcode
  · exact (hreg.obj (htake.canonical hc') 7 (siteIn_phase_eq _ p (by decide))).trans hcurrent

/-! ### Over-current crossings (R204, R253, R255) -/

/-- A phase whose comparator has counted a crossing in this period. -/
def Phase.crossed (positive : Bool) (a : Phase) : Phase :=
  if positive then { a with ocPos := true } else { a with ocNeg := true }

/-- A phase that a crossing limits for the rest of its period. -/
def Phase.limit (positive : Bool) (a : Phase) : Phase :=
  if positive then { a with limitPos := true, limited := true, reference := false }
  else { a with limitNeg := true, limited := true }

theorem Phase.crossed_outputs (positive : Bool) (a : Phase) (h : (a.outH && a.outL) = false) :
    ((a.crossed positive).outH && (a.crossed positive).outL) = false := by
  cases positive <;> exact h

theorem Phase.limit_outputs (positive : Bool) (a : Phase) (h : (a.outH && a.outL) = false) :
    ((a.limit positive).outH && (a.limit positive).outL) = false := by
  cases positive <;> exact h

theorem phases_modPhase (s : State) (p : PhaseId) (f : Phase → Phase) :
    (s.modPhase p f).phases[p] = f s.phases[p] := by
  simp [State.modPhase]

/-- What a crossing does to its phase under an action of 400p5:06: 1 CYCLE_LIMIT (R253), 2 TRIP (R255). -/
def State.ocAct (s : State) (p : PhaseId) (positive : Bool) (action : Nat) : State :=
  let s := s.modPhase p (Phase.crossed positive)
  if action = 1 then ((s.modPhase p (Phase.limit positive)).drivePhase p).putBit (phaseIx p 7) 1 8 true
  else if action = 2 then (s.modPhase p fun a => { a with tripOc := true }).trip p
  else s

section
variable {s : State} {p : PhaseId} {positive : Bool} {clocks : Nat}

/-- The first crossing of a period that its filter lets through acts and raises its event (R204). -/
theorem overcurrent_first (hsensed : s.phaseSensed p = true) (hclocks : s.fastNat (phaseIx p 5) 5 ≤ clocks)
    (hfirst : (if positive then s.phases[p].ocPos else s.phases[p].ocNeg) = false) :
    ∃ data, s.overcurrent p positive clocks =
      (s.ocAct p positive (if s.outlineDrivenPhase p then 1 else s.fastNat (phaseIx p 5) 6)).raise
        (if positive then phOcPos p.val else phOcNeg p.val) data := by
  have hagain : ¬ (if positive then s.phases[p].ocPos else s.phases[p].ocNeg) = true := by
    rw [hfirst]
    exact Bool.false_ne_true
  unfold State.overcurrent
  dsimp only
  rw [if_pos (and_ble_iff.2 ⟨hsensed, hclocks⟩), if_neg hagain]
  exact ⟨_, rfl⟩

theorem overcurrent_unfiltered (h : s.phaseSensed p = false ∨ clocks < s.fastNat (phaseIx p 5) 5) :
    s.overcurrent p positive clocks = s :=
  if_neg (not_and_ble h)

theorem drivePhase_limit_keeps (s : State) (p : PhaseId) (positive : Bool) : Keeps 0x80000000000000020000 s
    (((s.modPhase p (Phase.crossed positive)).modPhase p (Phase.limit positive)).drivePhase p) :=
  State.drivePhase_keeps p (maskLe_refl _) (State.modPhase_keeps _ _ (by decide) (State.modPhase_keeps _ _ (by decide)
    (Keeps.refl _ s) (Phase.crossed_outputs positive)) (Phase.limit_outputs positive))

theorem ocAct_keeps (s : State) (p : PhaseId) (positive : Bool) (action : Nat) :
    Keeps 0x180000000000000020000 s (s.ocAct p positive action) := by
  have hcrossed : Keeps 0x180000000000000020000 s (s.modPhase p (Phase.crossed positive)) :=
    State.modPhase_keeps _ _ (by decide) (Keeps.refl _ s) (Phase.crossed_outputs positive)
  unfold State.ocAct
  dsimp only
  split
  · exact State.putBit_keeps _ _ _ _ (site_phase_7 p (maskLe_refl _) (by decide))
      ((drivePhase_limit_keeps s p positive).mono (by decide))
  · split
    · exact State.trip_keeps p (by decide) (State.modPhase_keeps _ _ (by decide) hcrossed fun _ h => h)
    · exact hcrossed

theorem ocAct_raised (data : Nat) (action : Nat) (hc : Safety.canonical s = true) :
    Safety.raised (if positive then phOcPos p.val else phOcNeg p.val) s
      ((s.ocAct p positive action).raise (if positive then phOcPos p.val else phOcNeg p.val) data) :=
  raise_raised_after data (ocAct_keeps s p positive action) hc (raisable_overcurrent p positive) rfl rfl rfl

theorem ocAct_trips :
    ((s.ocAct p positive 2).protection p).1 = true ∧ ((s.ocAct p positive 2).protection p).2.1 = true := by
  have h : (s.ocAct p positive 2).protection p = _ := protection_trip _ p
  rw [h, phases_modPhase]
  exact ⟨rfl, rfl⟩

theorem ocAct_limits : (if positive then ((s.ocAct p positive 1).protection p).2.2.1
    else ((s.ocAct p positive 1).protection p).2.2.2) = true := by
  have h : (s.ocAct p positive 1).protection p =
      ((s.modPhase p (Phase.crossed positive)).modPhase p (Phase.limit positive)).protection p :=
    protection_drivePhase _ _ _
  rw [h, State.protection, phases_modPhase]
  cases positive <;> rfl

theorem overcurrentCrossing_trips (hc : Safety.canonical s = true) (hsensed : s.phaseSensed p = true)
    (hclocks : s.fastNat (phaseIx p 5) 5 ≤ clocks) (houtline : s.outlineDrivenPhase p = false)
    (haction : s.fastNat (phaseIx p 5) 6 = 2)
    (hfirst : (if positive then s.phases[p].ocPos else s.phases[p].ocNeg) = false) :
    Safety.completes (.overcurrentCrossing p ⟨positive, clocks⟩) s fun t =>
      t.phases[p].tripped = true ∧ t.phases[p].tripOc = true ∧
        Safety.raised (if positive then phOcPos p.val else phOcNeg p.val) s t := by
  obtain ⟨data, h⟩ := overcurrent_first hsensed hclocks hfirst
  rw [houtline, if_neg Bool.false_ne_true, haction] at h
  have hkept := protection_raise (s.ocAct p positive 2) p (if positive then phOcPos p.val else phOcNeg p.val) data
  obtain ⟨htripped, htripOc⟩ := ocAct_trips (s := s) (p := p) (positive := positive)
  refine ⟨_, congrArg Host.Outcome.next h, ?_, ?_, ocAct_raised data 2 hc⟩
  · exact (congrArg (·.1) hkept).trans htripped
  · exact (congrArg (·.2.1) hkept).trans htripOc

theorem overcurrentCrossing_limits (hc : Safety.canonical s = true) (hsensed : s.phaseSensed p = true)
    (hclocks : s.fastNat (phaseIx p 5) 5 ≤ clocks)
    (haction : s.outlineDrivenPhase p = true ∨ s.fastNat (phaseIx p 5) 6 = 1)
    (hfirst : (if positive then s.phases[p].ocPos else s.phases[p].ocNeg) = false) :
    Safety.completes (.overcurrentCrossing p ⟨positive, clocks⟩) s fun t =>
      (if positive then t.phases[p].limitPos else t.phases[p].limitNeg) = true ∧ t.bit (phaseIx p 7) 1 8 = true ∧
        Safety.raised (if positive then phOcPos p.val else phOcNeg p.val) s t := by
  obtain ⟨data, h⟩ := overcurrent_first hsensed hclocks hfirst
  have hone : (if s.outlineDrivenPhase p then 1 else s.fastNat (phaseIx p 5) 6) = 1 :=
    ite_eq_left_iff.2 fun hn => haction.resolve_left hn
  rw [hone] at h
  have hkept := protection_raise (s.ocAct p positive 1) p (if positive then phOcPos p.val else phOcNeg p.val) data
  have hraise := State.raise_keeps (if positive then phOcPos p.val else phOcNeg p.val) data (maskLe_refl _)
    (Keeps.refl _ (s.ocAct p positive 1))
  have hc' : Safety.canonical (s.ocAct p positive 1) = true := (ocAct_keeps s p positive 1).canonical hc
  refine ⟨_, congrArg Host.Outcome.next h, ?_, ?_, ocAct_raised data 1 hc⟩
  · have hlimits := ocAct_limits (s := s) (p := p) (positive := positive)
    rw [← hkept] at hlimits
    exact hlimits
  · rw [hraise.bit hc' 1 8 (siteIn_phase_eq _ p (by decide))]
    exact bit_putBit _ _ _ _ ((drivePhase_limit_keeps s p positive).canonical hc)

end

theorem raise_vsense (s : State) (e data : Nat) : (s.raise e data).vsense = s.vsense :=
  (State.raise_keeps e data (maskLe_refl _) (Keeps.refl _ s)).parts .vsense rfl

/-! ### Remote voltage sense (R208–R212) -/

/-- The count of saturations has no part in the ratio of a rail. -/
theorem rho_bump_saturations {s : State} (r : VRailId) (hc : Safety.canonical s = true) :
    (s.bump (railIx (vrail r) 0x50) 0x0A).rho r = s.rho r := by
  unfold State.rho State.bump
  rw [fast_putObj_ne _ hc (objKey_inj (by decide) (by decide) (by decide)),
    fast_putObj_ne _ hc (objKey_inj (by decide) (by decide) (by decide))]

/-- What a window error result does: the error at the load and the saturation in the objects, the error at the pin in
the sense of the rail. -/
theorem windowError_eq {r : VRailId} {codes : List (BitVec 9)} {mv : Rat} {s : State} (hc : Safety.canonical s = true)
    (hsensed : s.errorSensed (vrail r) = true) (htrigger : (s.triggerPhase (vrail r)).isSome = true)
    (hmv : mv = meanRat ((codes.take (s.fastNat (railIx (vrail r) 0x50) 6)).map BitVec.toInt) * (5 / 4 : Rat)) :
    ∃ (x : State) (saturated : Bool) (f : VSense → VSense), Safety.canonical x = true ∧ (∀ a, (f a).error = mv) ∧
      s.windowError r codes = ((x.putRailObj (vrail r) 0x50 8 (roundRat (mv * s.rho r))).putBit
        (railIx (vrail r) 0x50) 0x0D 1 saturated).modVSense r f := by
  subst hmv
  have hrho (b : Prop) [Decidable b] :
      (if b then s.bump (railIx (vrail r) 0x50) 0x0A else s).rho r = s.rho r := by
    split
    · exact rho_bump_saturations r hc
    · rfl
  unfold State.windowError
  rw [hsensed, htrigger, Bool.and_true, if_pos rfl]
  dsimp only
  rw [hrho]
  refine ⟨_, _, _, ?_, fun a => ?_, rfl⟩
  · split
    · exact canonical_bump _ _ hc
    · exact hc
  · rfl

/-- A window error result stands as the error of its rail, at the pin and at the load (R208). -/
theorem windowError_results {r : VRailId} (codes : List (BitVec 9)) {s : State} (hc : Safety.canonical s = true)
    (hsensed : s.errorSensed (vrail r) = true) (htrigger : (s.triggerPhase (vrail r)).isSome = true) :
    (s.windowError r codes).vsense[r].error =
        meanRat ((codes.take (s.fastNat (railIx (vrail r) 0x50) 6)).map BitVec.toInt) * (5 / 4 : Rat) ∧
      (s.windowError r codes).railObj (vrail r) 0x50 8 =
        roundRat ((s.windowError r codes).vsense[r].error * s.rho r) := by
  obtain ⟨x, saturated, f, hx, hf, h⟩ := windowError_eq hc hsensed htrigger rfl
  rw [h, vsense_modVSense, hf]
  refine ⟨rfl, ?_⟩
  exact (obj_putObj_ne _ (canonical_putObj _ _ _ hx) (objKey_inj (by decide) (by decide) (by decide))).trans
    (obj_putObj _ _ _ hx)

theorem windowErrorReady_results {r : VRailId} {codes : List (BitVec 9)} {s : State} (hc : Safety.canonical s = true)
    (hsensed : s.errorSensed (vrail r) = true) (htrigger : (s.triggerPhase (vrail r)).isSome = true) :
    Safety.completes (.windowErrorReady r codes) s fun t =>
      t.vsense[r].error =
          meanRat ((codes.take (s.fastNat (railIx (vrail r) 0x50) 6)).map BitVec.toInt) * (5 / 4 : Rat) ∧
        t.railObj (vrail r) 0x50 8 = roundRat (t.vsense[r].error * s.rho r) := by
  obtain ⟨herror, hobj⟩ := windowError_results codes hc hsensed htrigger
  have hc' : Safety.canonical (s.windowError r codes) = true :=
    (State.windowError_keeps r codes (maskLe_refl _) (Keeps.refl _ s)).canonical hc
  have hready : Keeps 0x28262D116810006C36008 (s.windowError r codes)
      (if s.vsense[r].sampling && !(s.windowError r codes).vsense[r].sampling then
        (s.windowError r codes).errorReady (vrail r) else s.windowError r codes) :=
    Keeps.ite (State.errorReady_keeps _ (maskLe_refl _) (Keeps.refl _ _)) (Keeps.refl _ _)
  have hvsense := hready.parts .vsense rfl
  refine ⟨_, rfl, ?_, ?_⟩
  · exact (congrArg (fun v : Vector VSense 4 => v[r].error) hvsense).trans herror
  · refine (hready.obj hc' 8 (siteIn_rail_eq _ _ (by decide))).trans (hobj.trans ?_)
    exact congrArg (fun v : Vector VSense 4 => roundRat (v[r].error * s.rho r)) hvsense.symm

theorem vsnsWindowTimeout_raises {r : VRailId} {s : State} (hc : Safety.canonical s = true)
    (hsaturated : s.vsense[r].saturated = true) (hraised : s.vsense[r].windowRaised = false) :
    Safety.completes (.vsnsWindowTimeout r) s fun t =>
      t.vsense[r].windowRaised = true ∧ Safety.raised (rlVsnsWindow r.val) s t := by
  have hgate : (s.vsense[r].saturated && !s.vsense[r].windowRaised) = true := by rw [hsaturated, hraised]; rfl
  refine ⟨_, if_pos hgate, ?_, ?_⟩
  · rw [raise_vsense, vsense_modVSense]
  · exact raise_raised_after _ (State.modVSense_keeps (W := 0x80000) r _ (maskLe_refl _) (Keeps.refl _ s)) hc
      (raisable_rlVsnsWindow r) rfl rfl rfl

theorem vsnsMismatch_raises {r : VRailId} {s : State} (hc : Safety.canonical s = true)
    (hrun : 64 ≤ s.vsense[r].mismatch) :
    Safety.completes (.vsnsMismatch r) s fun t =>
      t.vsense[r].mismatch = 0 ∧ Safety.raised (rlVsnsMismatch r.val) s t := by
  refine ⟨_, if_pos hrun, ?_, ?_⟩
  · rw [raise_vsense, vsense_modVSense]
  · exact raise_raised_after _ (State.modVSense_keeps (W := 0x80000) r _ (maskLe_refl _) (Keeps.refl _ s)) hc
      (raisable_rlVsnsMismatch r) rfl rfl rfl

theorem absoluteBlock_eq {r : VRailId} {codes block : List (BitVec 14)} {last : BitVec 14} {s : State}
    (hserving : s.serving = true) (hdew : s.dewHolds r = false)
    (hlength : s.fastNat (railIx (vrail r) 0x50) 0x0B ≤ codes.length)
    (hblock : block = codes.take (s.fastNat (railIx (vrail r) 0x50) 0x0B)) (hlast : block.getLast? = some last) :
    s.absoluteBlock r codes = ((s.putRailObj (vrail r) 0x50 9 last.toNat).putRailObj (vrail r) 0x48 1 (roundRat
      ((meanRat (block.map fun (c : BitVec 14) => (c.toNat : Int)) * 2000 / 16384
        - (s.fast (railIx (vrail r) 0x50) 3 : Rat) / 1000) * s.rho r))).modVSense r fun a =>
          { a with pin := meanRat (block.map fun (c : BitVec 14) => (c.toNat : Int)) * 2000 / 16384 } := by
  have hserves : (s.serving && !s.dewHolds r) = true := by
    rw [hserving, hdew]
    rfl
  unfold State.absoluteBlock
  dsimp only
  rw [if_pos (and_ble_iff.2 ⟨hserves, hlength⟩), ← hblock, hlast]

/-- A block of absolute conversions stands in its objects and at the pin (R210). -/
theorem absoluteBlockComplete_results {r : VRailId} {codes block : List (BitVec 14)} {last : BitVec 14} {s : State}
    (hc : Safety.canonical s = true) (hserving : s.serving = true) (hdew : s.dewHolds r = false)
    (hlength : s.fastNat (railIx (vrail r) 0x50) 0x0B ≤ codes.length)
    (hblock : block = codes.take (s.fastNat (railIx (vrail r) 0x50) 0x0B)) (hlast : block.getLast? = some last) :
    Safety.completes (.absoluteBlockComplete r codes) s fun t =>
      t.railObj (vrail r) 0x50 9 = last.toNat ∧
        t.vsense[r].pin = meanRat (block.map fun (c : BitVec 14) => (c.toNat : Int)) * 2000 / 16384 ∧
        t.railObj (vrail r) 0x48 1 =
          roundRat ((t.vsense[r].pin - (s.fast (railIx (vrail r) 0x50) 3 : Rat) / 1000) * s.rho r) := by
  have h := absoluteBlock_eq hserving hdew hlength hblock hlast
  have hput (v : Int) : Safety.canonical (s.putRailObj (vrail r) 0x50 9 v) = true := canonical_putObj _ _ _ hc
  refine ⟨_, congrArg Host.Outcome.next h, ?_, ?_, ?_⟩
  · refine (obj_putObj_ne _ (hput _) ?_).trans (obj_putObj _ _ _ hc)
    unfold objKey railIx
    omega
  · exact congrArg VSense.pin (vsense_modVSense _ r _)
  · rw [vsense_modVSense]
    exact obj_putObj _ _ _ (hput _)

theorem absoluteBlock_held {r : VRailId} (codes : List (BitVec 14)) {s : State} (hdew : s.dewHolds r = true) :
    s.absoluteBlock r codes = s := by
  unfold State.absoluteBlock
  dsimp only
  rw [hdew, Bool.not_true, Bool.and_false, Bool.false_and, if_neg Bool.false_ne_true]

theorem absoluteMv_gt_iff (code : Nat) : 1900 < absoluteMv code ↔ 1900 * 16384 < 2000 * code := by
  unfold absoluteMv
  rw [Rat.lt_div_iff (by decide), Rat.mul_comm (code : Rat)]
  exact_mod_cast Iff.rfl

theorem absoluteMv_lt_iff (code : Nat) : absoluteMv code < 1800 ↔ 2000 * code < 1800 * 16384 := by
  unfold absoluteMv
  rw [Rat.div_lt_iff (by decide), Rat.mul_comm (code : Rat)]
  exact_mod_cast Iff.rfl

theorem vsnsOpen_raises {r : VRailId} {code : BitVec 14} {s : State} (hc : Safety.canonical s = true)
    (hserving : s.serving = true) (hdew : s.dewHolds r = false) (hopen : 1900 * 16384 < 2000 * code.toNat) :
    Safety.completes (.vsnsOpen r code) s fun t =>
      t.railObj (vrail r) 0x50 9 = code.toNat ∧ t.bit (railIx (vrail r) 0x50) 0x0D 2 = true ∧
        Safety.raised (rlVsnsOpen r.val) s t := by
  have hgate : (s.serving && !s.dewHolds r && decide (1900 < absoluteMv code.toNat)) = true := by
    rw [hserving, hdew, decide_eq_true ((absoluteMv_gt_iff _).2 hopen)]
    rfl
  have hput : Safety.canonical (s.putRailObj (vrail r) 0x50 9 code.toNat) = true := canonical_putObj _ _ _ hc
  have hread : Keeps 0x80000000000000000 s
      ((s.putRailObj (vrail r) 0x50 9 code.toNat).putBit (railIx (vrail r) 0x50) 0x0D 2 true) :=
    State.putBit_keeps _ _ _ _ (site_rail_50 _ (maskLe_refl _) (by decide))
      (State.putRailObj_keeps _ _ _ _ (site_railbit_50 (maskLe_refl _) (by decide)) (Keeps.refl _ s))
  have hraise := State.raise_keeps (rlVsnsOpen r.val) (evData [evU 2 code.toNat]) (maskLe_refl _)
    (Keeps.refl _ ((s.putRailObj (vrail r) 0x50 9 code.toNat).putBit (railIx (vrail r) 0x50) 0x0D 2 true))
  refine ⟨_, if_pos hgate, ?_, ?_, ?_⟩
  · refine (hraise.obj (hread.canonical hc) 9 (siteIn_rail_eq _ _ (by decide))).trans ?_
    exact (obj_putObj_ne _ hput (objKey_inj (by decide) (by decide) (by decide))).trans (obj_putObj _ _ _ hc)
  · rw [hraise.bit (hread.canonical hc) 0x0D 2 (siteIn_rail_eq _ _ (by decide))]
    exact bit_putBit _ _ _ _ hput
  · exact raise_raised_after _ hread hc (raisable_rlVsnsOpen r) rfl rfl rfl

theorem vsnsOpen_ignored {r : VRailId} {code : BitVec 14} {s : State} (h : 2000 * code.toNat ≤ 1900 * 16384) :
    Safety.ignored (.vsnsOpen r code) s := by
  have hlow : ¬ 1900 < absoluteMv code.toNat := fun hopen => absurd ((absoluteMv_gt_iff _).1 hopen) (by omega)
  exact if_neg (by simp [hlow])

theorem rlVsnsOpen_ne_overflow (r : VRailId) : rlVsnsOpen r.val ≠ rcStagingOverflow := by
  revert r
  decide

/-- The open flag of a rail falls, and its event ends (R503). -/
theorem endEvent_vsnsOpen {s : State} (r : VRailId) (data : Nat) (hc : Safety.canonical s = true) :
    ((s.putBit (railIx (vrail r) 0x50) 0x0D 2 false).endEvent (rlVsnsOpen r.val) data).bit
        (railIx (vrail r) 0x50) 0x0D 2 = false ∧
      Safety.ended (rlVsnsOpen r.val) s
        ((s.putBit (railIx (vrail r) 0x50) 0x0D 2 false).endEvent (rlVsnsOpen r.val) data) := by
  refine ⟨?_, ended_after (s' := s.putBit (railIx (vrail r) 0x50) 0x0D 2 false) rfl
    (endEvent_ended _ data (rlVsnsOpen_ne_overflow r))⟩
  rw [(State.endEvent_keeps _ data (maskLe_refl _) (Keeps.refl _ _)).bit (canonical_putBit _ _ _ _ hc) 0x0D 2
    (siteIn_rail_eq _ _ (by decide))]
  exact bit_putBit _ _ _ _ hc

theorem vsnsOpenEnd_ends {r : VRailId} {s : State} (hc : Safety.canonical s = true)
    (hlow : 2000 * s.nat (railIx (vrail r) 0x50) 9 < 1800 * 16384) :
    Safety.completes (.vsnsOpenEnd r) s fun t =>
      t.bit (railIx (vrail r) 0x50) 0x0D 2 = false ∧ Safety.ended (rlVsnsOpen r.val) s t :=
  ⟨_, if_pos (decide_eq_true ((absoluteMv_lt_iff _).2 hlow)), endEvent_vsnsOpen r _ hc⟩

/-! ### The auxiliary converter (R215–R218) -/

theorem auxThresholds_seen (s : State) (c : AuxId) (v : Int) : (s.auxThresholds c v).aux[c].seen = s.aux[c].seen := by
  have hraise (x : State) (b : Prop) [Decidable b] (e data : Nat) : (if b then x.raise e data else x).aux = x.aux := by
    split
    · exact (State.raise_keeps e data (maskLe_refl _) (Keeps.refl _ x)).parts .aux rfl
    · rfl
  have hend (x : State) (b : Prop) [Decidable b] (e data : Nat) : (if b then x.endEvent e data else x).aux = x.aux := by
    split
    · exact (State.endEvent_keeps e data (maskLe_refl _) (Keeps.refl _ x)).parts .aux rfl
    · rfl
  unfold State.auxThresholds
  dsimp only
  simp only [hraise, aux_modAux, hend]

/-- A result in its turn stands in its object before its thresholds are evaluated (R216, R217). -/
theorem auxResult_published {c : AuxId} {codes : List (BitVec 12)} {s : State} (hc : Safety.canonical s = true)
    (hserving : s.serving = true) (hnext : s.auxNext = some c.val) (hlength : s.fastNat 0x4130 2 ≤ codes.length) :
    ∃ (x : State) (v : Int), s.auxResult c codes = x.auxThresholds c v ∧ Safety.canonical x = true ∧
      x.aux[c].seen = true ∧ x.auxSequence.last = c.val ∧
      x.obj 0x4130 (0x16 + 8 * c.val) = s.auxValue c (s.auxObj c 0).toNat
        (meanRat ((codes.take (s.fastNat 0x4130 2)).map fun (x : BitVec 12) => (x.toNat : Int))) := by
  have hturn : (s.serving && s.auxNext == some c.val) = true := by
    rw [hserving, hnext, beq_self_eq_true, Bool.true_and]
  unfold State.auxResult
  dsimp only
  rw [if_pos (and_ble_iff.2 ⟨hturn, hlength⟩)]
  refine ⟨_, _, rfl, canonical_putObj _ _ _ hc, ?_, rfl, obj_putObj _ _ _ hc⟩
  simp only [State.setAuxSequence_fields, aux_modAux]

theorem auxResult_results {c : AuxId} {codes : List (BitVec 12)} {s : State} (hc : Safety.canonical s = true)
    (hserving : s.serving = true) (hnext : s.auxNext = some c.val) (hlength : s.fastNat 0x4130 2 ≤ codes.length) :
    Safety.completes (.auxResult c codes) s fun t =>
      t.aux[c].seen = true ∧ t.auxSequence.last = c.val ∧
        t.obj 0x4130 (0x16 + 8 * c.val) = s.auxValue c (s.auxObj c 0).toNat
          (meanRat ((codes.take (s.fastNat 0x4130 2)).map fun (x : BitVec 12) => (x.toNat : Int))) := by
  obtain ⟨x, v, h, hx, hseen, hlast, hobj⟩ := auxResult_published hc hserving hnext hlength
  have hthresholds := State.auxThresholds_keeps c v (maskLe_refl _) (Keeps.refl _ x)
  refine ⟨_, congrArg Host.Outcome.next h, ?_, ?_, ?_⟩
  · exact (auxThresholds_seen x c v).trans hseen
  · exact (congrArg AuxSequence.last (hthresholds.parts .auxSequence rfl)).trans hlast
  · exact (hthresholds.obj hx _ rfl).trans hobj

theorem auxTriggeredResult_serves {c : AuxId} {code : BitVec 12} {rest : List Nat} {s : State}
    (hc : Safety.canonical s = true) (h : s.auxSequence.requests = c.val :: rest) :
    Safety.completes (.auxTriggeredResult c code) s fun t =>
      t.auxSequence.requests = rest ∧
        t.obj 0x4130 (0x17 + 8 * c.val) = s.auxValue c (s.auxObj c 0).toNat code.toNat := by
  have hhead : s.auxSequence.requests.head? = some c.val := by rw [h]; rfl
  refine ⟨_, if_pos hhead, ?_, ?_⟩
  · exact congrArg List.tail h
  · exact obj_putObj _ _ _ hc

end Sys2Proof.Machine

namespace Sys2Proof

open Machine

/-- Settles O18: each clause is the law of its command above. A raising leaves the trips and the limits of every phase
(`protection_raise`), and what it writes lies outside the objects of the front ends. -/
theorem sensingFrontEndsAct : Obligations.SensingFrontEndsAct := by
  unfold Obligations.SensingFrontEndsAct
  refine ⟨?trigger, ?triggerIgnored, ?conversion, ?trip, ?limit, ?crossingIgnored, ?windowError, ?windowTimeout,
    ?mismatch, ?block, ?blockHeld, ?vsnsOpen, ?vsnsOpenIgnored, ?vsnsOpenEnd, ?aux, ?auxTriggered⟩
  case trigger => exact fun p s hsensed hroom => ⟨_, rfl, adcs_currentTrigger hsensed hroom⟩
  case triggerIgnored => exact fun p s h => congrArg Host.Outcome.next (currentTrigger_refused h)
  case conversion => exact fun p code rest s hc h => phaseCurrentConversionDone_result hc h
  case trip => exact fun p positive clocks s hc hs hk ho ha hf => overcurrentCrossing_trips hc hs hk ho ha hf
  case limit => exact fun p positive clocks s hc hs hk ha hf => overcurrentCrossing_limits hc hs hk ha hf
  case crossingIgnored => exact fun p positive clocks s h => congrArg Host.Outcome.next (overcurrent_unfiltered h)
  case windowError => exact fun r codes s hc hs ht => windowErrorReady_results hc hs ht
  case windowTimeout => exact fun r s hc hs hr => vsnsWindowTimeout_raises hc hs hr
  case mismatch => exact fun r s hc h => vsnsMismatch_raises hc h
  case block => exact fun r codes block last s hc hs hd hn hb hl => absoluteBlockComplete_results hc hs hd hn hb hl
  case blockHeld => exact fun r codes s hd => congrArg Host.Outcome.next (absoluteBlock_held codes hd)
  case vsnsOpen => exact fun r code s hc hs hd ho => vsnsOpen_raises hc hs hd ho
  case vsnsOpenIgnored => exact fun r code s h => vsnsOpen_ignored h
  case vsnsOpenEnd => exact fun r s hc h => vsnsOpenEnd_ends hc h
  case aux => exact fun c codes s hc hs hn hl => auxResult_results hc hs hn hl
  case auxTriggered => exact fun c code rest s hc h => auxTriggeredResult_serves hc h

end Sys2Proof
end

section
/-! The invariant of the block (O35, O36). Every command keeps the canonical lists and never turns on both outputs of a
phase, by the law of its row; an idle millisecond reaches neither. -/

namespace Sys2Proof.Machine

/-- Every command keeps what `Keeps` says under the mask of its row, from every state. -/
theorem exec_keeps (c : Instr) (s : State) : ∃ W, Keeps.Out W s (exec c s) :=
  match c with
  | .objectWrite .. => ⟨_, execObjectWrite_keeps ..⟩
  | .nmtStart .. => ⟨_, execNmtStart_keeps ..⟩
  | .nmtEnterPreOperational .. => ⟨_, execNmtEnterPreOperational_keeps ..⟩
  | .nmtStop .. => ⟨_, execNmtStop_keeps ..⟩
  | .nmtResetCommunication .. => ⟨_, execNmtResetCommunication_keeps ..⟩
  | .nmtResetNode .. => ⟨_, execNmtResetNode_keeps ..⟩
  | .heartbeatPeriodExpiry => ⟨_, execHeartbeatPeriodExpiry_keeps ..⟩
  | .heartbeatReceived node state => ⟨_, execHeartbeatReceived_keeps node state s⟩
  | .heartbeatTimeout .. => ⟨_, execHeartbeatTimeout_keeps ..⟩
  | .canBusOff tec rec => ⟨_, execCanBusOff_keeps tec rec s⟩
  | .canBusRecovered => ⟨_, execCanBusRecovered_keeps ..⟩
  | .canErrorPassive .. => ⟨_, execCanErrorPassive_keeps ..⟩
  | .errorPassiveTimeout => ⟨_, execErrorPassiveTimeout_keeps ..⟩
  | .canRxOverrun .. => ⟨_, execCanRxOverrun_keeps ..⟩
  | .sdoDownloadInitiate .. => ⟨_, execSdoDownloadInitiate_keeps ..⟩
  | .sdoDownloadSegment .. => ⟨_, execSdoDownloadSegment_keeps ..⟩
  | .sdoUploadInitiate .. => ⟨_, execSdoUploadInitiate_keeps ..⟩
  | .sdoUploadSegment .. => ⟨_, execSdoUploadSegment_keeps ..⟩
  | .sdoAbortTransfer .. => ⟨_, execSdoAbortTransfer_keeps ..⟩
  | .sdoTransferTimeout => ⟨_, execSdoTransferTimeout_keeps ..⟩
  | .usdoRequest .. => ⟨_, execUsdoRequest_keeps ..⟩
  | .rpdoReceived .. => ⟨_, execRpdoReceived_keeps ..⟩
  | .syncReceived counter => ⟨_, execSyncReceived_keeps counter s⟩
  | .syncPeriodExpiry => ⟨_, execSyncPeriodExpiry_keeps ..⟩
  | .tpdoSyncWindowExpiry .. => ⟨_, execTpdoSyncWindowExpiry_keeps ..⟩
  | .tpdoValueChange .. => ⟨_, execTpdoValueChange_keeps ..⟩
  | .tpdoInhibitExpiry .. => ⟨_, execTpdoInhibitExpiry_keeps ..⟩
  | .tpdoEventTimerExpiry .. => ⟨_, execTpdoEventTimerExpiry_keeps ..⟩
  | .timeReceived .. => ⟨_, execTimeReceived_keeps ..⟩
  | .emcyInhibitExpiry => ⟨_, execEmcyInhibitExpiry_keeps ..⟩
  | .errorHistoryClear .. => ⟨_, execErrorHistoryClear_keeps ..⟩
  | .storeParameters .. => ⟨_, execStoreParameters_keeps ..⟩
  | .storeComplete => ⟨_, execStoreComplete_keeps ..⟩
  | .restoreDefaults .. => ⟨_, execRestoreDefaults_keeps ..⟩
  | .restoreComplete => ⟨_, execRestoreComplete_keeps ..⟩
  | .lssSwitchState .. => ⟨_, execLssSwitchState_keeps ..⟩
  | .lssConfigureNodeId .. => ⟨_, execLssConfigureNodeId_keeps ..⟩
  | .lssConfigureBitTiming .. => ⟨_, execLssConfigureBitTiming_keeps ..⟩
  | .lssActivateBitTiming delay => ⟨_, execLssActivateBitTiming_keeps delay s⟩
  | .lssStoreConfiguration => ⟨_, execLssStoreConfiguration_keeps ..⟩
  | .lssInquireIdentity .. => ⟨_, execLssInquireIdentity_keeps ..⟩
  | .lssFastscan .. => ⟨_, execLssFastscan_keeps ..⟩
  | .crystalQualified => ⟨_, execCrystalQualified_keeps ..⟩
  | .crystalNotQualified => ⟨_, execCrystalNotQualified_keeps ..⟩
  | .crystalLoss => ⟨_, execCrystalLoss_keeps ..⟩
  | .pllLoss => ⟨_, execPllLoss_keeps ..⟩
  | .pllLockTimeout => ⟨_, execPllLockTimeout_keeps ..⟩
  | .usbStartOfFrame => ⟨_, execUsbStartOfFrame_keeps ..⟩
  | .vinRise .. => ⟨_, execVinRise_keeps ..⟩
  | .vinFall .. => ⟨_, execVinFall_keeps ..⟩
  | .vbusRise .. => ⟨_, execVbusRise_keeps ..⟩
  | .vbusFall .. => ⟨_, execVbusFall_keeps ..⟩
  | .vinRestoredTimer => ⟨_, execVinRestoredTimer_keeps ..⟩
  | .sleepWake .. => ⟨_, execSleepWake_keeps ..⟩
  | .resetPin => ⟨_, execResetPin_keeps ..⟩
  | .resetEffect => ⟨_, execResetEffect_keeps ..⟩
  | .resetRelease => ⟨_, execResetRelease_keeps ..⟩
  | .surveyStart .. => ⟨_, execSurveyStart_keeps ..⟩
  | .selfTestComplete .. => ⟨_, execSelfTestComplete_keeps ..⟩
  | .metrologySettled => ⟨_, execMetrologySettled_keeps ..⟩
  | .fullService => ⟨_, execFullService_keeps ..⟩
  | .dewCheckComplete .. => ⟨_, execDewCheckComplete_keeps ..⟩
  | .dewCheckRepeat => ⟨_, execDewCheckRepeat_keeps ..⟩
  | .wetHoldOverride .. => ⟨_, execWetHoldOverride_keeps ..⟩
  | .powerFailWarning .. => ⟨_, execPowerFailWarning_keeps ..⟩
  | .powerFailFlushComplete .. => ⟨_, execPowerFailFlushComplete_keeps ..⟩
  | .powerFailWarningClear => ⟨_, execPowerFailWarningClear_keeps ..⟩
  | .watchdogExpiry => ⟨_, execWatchdogExpiry_keeps ..⟩
  | .thermalReset .. => ⟨_, execThermalReset_keeps ..⟩
  | .thermalRelease => ⟨_, execThermalRelease_keeps ..⟩
  | .junctionTemperatureHigh .. => ⟨_, execJunctionTemperatureHigh_keeps ..⟩
  | .powerStateWrite .. => ⟨_, execPowerStateWrite_keeps ..⟩
  | .standbyToIdle => ⟨_, execStandbyToIdle_keeps ..⟩
  | .idleToRun => ⟨_, execIdleToRun_keeps ..⟩
  | .runToIdle => ⟨_, execRunToIdle_keeps ..⟩
  | .idleToStandby => ⟨_, execIdleToStandby_keeps ..⟩
  | .standbyToSleep => ⟨_, execStandbyToSleep_keeps ..⟩
  | .standbyToOff => ⟨_, execStandbyToOff_keeps ..⟩
  | .vpwmLow .. => ⟨_, execVpwmLow_keeps ..⟩
  | .vpwmRestored .. => ⟨_, execVpwmRestored_keeps ..⟩
  | .mainsZeroCrossing .. => ⟨_, execMainsZeroCrossing_keeps ..⟩
  | .mainsCrossingTimeout => ⟨_, execMainsCrossingTimeout_keeps ..⟩
  | .flywheelTimeout => ⟨_, execFlywheelTimeout_keeps ..⟩
  | .basePeriodStart => ⟨_, execBasePeriodStart_keeps ..⟩
  | .graticuleScan => ⟨_, execGraticuleScan_keeps ..⟩
  | .graticuleSupervisorAction => ⟨_, execGraticuleSupervisorAction_keeps ..⟩
  | .graticuleEntryWrite .. => ⟨_, execGraticuleEntryWrite_keeps ..⟩
  | .relayCommandImmediate .. => ⟨_, execRelayCommandImmediate_keeps ..⟩
  | .relayCommandAtBearing .. => ⟨_, execRelayCommandAtBearing_keeps ..⟩
  | .relayFeedbackTransition .. => ⟨_, execRelayFeedbackTransition_keeps ..⟩
  | .gpioModeWrite .. => ⟨_, execGpioModeWrite_keeps ..⟩
  | .gpioLevelWrite .. => ⟨_, execGpioLevelWrite_keeps ..⟩
  | .phaseCurrentTrigger .. => ⟨_, execPhaseCurrentTrigger_keeps ..⟩
  | .phaseCurrentConversionDone .. => ⟨_, execPhaseCurrentConversionDone_keeps ..⟩
  | .overcurrentCrossing .. => ⟨_, execOvercurrentCrossing_keeps ..⟩
  | .windowErrorReady .. => ⟨_, execWindowErrorReady_keeps ..⟩
  | .vsnsWindowTimeout .. => ⟨_, execVsnsWindowTimeout_keeps ..⟩
  | .vsnsMismatch .. => ⟨_, execVsnsMismatch_keeps ..⟩
  | .absoluteBlockComplete .. => ⟨_, execAbsoluteBlockComplete_keeps ..⟩
  | .vsnsOpen .. => ⟨_, execVsnsOpen_keeps ..⟩
  | .vsnsOpenEnd .. => ⟨_, execVsnsOpenEnd_keeps ..⟩
  | .auxResult .. => ⟨_, execAuxResult_keeps ..⟩
  | .auxTriggeredResult .. => ⟨_, execAuxTriggeredResult_keeps ..⟩
  | .pwmZero .. => ⟨_, execPwmZero_keeps ..⟩
  | .pwmMidUpdate .. => ⟨_, execPwmMidUpdate_keeps ..⟩
  | .pwmPeriod .. => ⟨_, execPwmPeriod_keeps ..⟩
  | .pwmCmpa .. => ⟨_, execPwmCmpa_keeps ..⟩
  | .pwmCmpb .. => ⟨_, execPwmCmpb_keeps ..⟩
  | .nodeTransition .. => ⟨_, execNodeTransition_keeps ..⟩
  | .deadTimeAdapt .. => ⟨_, execDeadTimeAdapt_keeps ..⟩
  | .nodeMissLimit .. => ⟨_, execNodeMissLimit_keeps ..⟩
  | .dtAdaptLimit .. => ⟨_, execDtAdaptLimit_keeps ..⟩
  | .tripInputActive .. => ⟨_, execTripInputActive_keeps ..⟩
  | .tripClear .. => ⟨_, execTripClear_keeps ..⟩
  | .forceBothOff .. => ⟨_, execForceBothOff_keeps ..⟩
  | .forceHighOn .. => ⟨_, execForceHighOn_keeps ..⟩
  | .forceLowOn .. => ⟨_, execForceLowOn_keeps ..⟩
  | .forceNone .. => ⟨_, execForceNone_keeps ..⟩
  | .railEnableOn .. => ⟨_, execRailEnableOn_keeps ..⟩
  | .railSoftOff .. => ⟨_, execRailSoftOff_keeps ..⟩
  | .railHardOff .. => ⟨_, execRailHardOff_keeps ..⟩
  | .engineSampleBoundary .. => ⟨_, execEngineSampleBoundary_keeps ..⟩
  | .targetWrite .. => ⟨_, execTargetWrite_keeps ..⟩
  | .profileStart .. => ⟨_, execProfileStart_keeps ..⟩
  | .profileAbort .. => ⟨_, execProfileAbort_keeps ..⟩
  | .profileStepHoldExpiry .. => ⟨_, execProfileStepHoldExpiry_keeps ..⟩
  | .envelopeWrite .. => ⟨_, execEnvelopeWrite_keeps ..⟩
  | .protectionConditionCounted .. => ⟨_, execProtectionConditionCounted_keeps ..⟩
  | .hiccupDelayExpiry .. => ⟨_, execHiccupDelayExpiry_keeps ..⟩
  | .hiccupResetTimeExpiry .. => ⟨_, execHiccupResetTimeExpiry_keeps ..⟩
  | .shedDwellExpiry .. => ⟨_, execShedDwellExpiry_keeps ..⟩
  | .avsVoltageWrite .. => ⟨_, execAvsVoltageWrite_keeps ..⟩
  | .avsVoltageRead .. => ⟨_, execAvsVoltageRead_keeps ..⟩
  | .avsVoutTransRateWrite .. => ⟨_, execAvsVoutTransRateWrite_keeps ..⟩
  | .avsVoutTransRateRead .. => ⟨_, execAvsVoutTransRateRead_keeps ..⟩
  | .avsCurrentRead .. => ⟨_, execAvsCurrentRead_keeps ..⟩
  | .avsTemperatureRead .. => ⟨_, execAvsTemperatureRead_keeps ..⟩
  | .avsResetVoltage .. => ⟨_, execAvsResetVoltage_keeps ..⟩
  | .avsPowerModeWrite sel crcOk code => ⟨_, execAvsPowerModeWrite_keeps sel crcOk code s⟩
  | .avsPowerModeRead .. => ⟨_, execAvsPowerModeRead_keeps ..⟩
  | .avsStatusRead .. => ⟨_, execAvsStatusRead_keeps ..⟩
  | .oscillationDetection .. => ⟨_, execOscillationDetection_keeps ..⟩
  | .returnToPrimary .. => ⟨_, execReturnToPrimary_keeps ..⟩
  | .chatterDetection .. => ⟨_, execChatterDetection_keeps ..⟩
  | .contourCommit .. => ⟨_, execContourCommit_keeps ..⟩
  | .reliefCommit .. => ⟨_, execReliefCommit_keeps ..⟩
  | .sampleWatchdogExpiry .. => ⟨_, execSampleWatchdogExpiry_keeps ..⟩
  | .hallTransition .. => ⟨_, execHallTransition_keeps ..⟩
  | .zeroSpeedTimeout .. => ⟨_, execZeroSpeedTimeout_keeps ..⟩
  | .stallTimeout .. => ⟨_, execStallTimeout_keeps ..⟩
  | .directionWrite .. => ⟨_, execDirectionWrite_keeps ..⟩
  | .reversalSwitch => ⟨_, execReversalSwitch_keeps ..⟩
  | .outlineNoTransitionTimeout => ⟨_, execOutlineNoTransitionTimeout_keeps ..⟩
  | .outlineRestartTimeout => ⟨_, execOutlineRestartTimeout_keeps ..⟩
  | .outlineBusSupportCrossing .. => ⟨_, execOutlineBusSupportCrossing_keeps ..⟩
  | .encoderCount .. => ⟨_, execEncoderCount_keeps ..⟩
  | .encoderIndex => ⟨_, execEncoderIndex_keeps ..⟩
  | .ringFrameSend => ⟨_, execRingFrameSend_keeps ..⟩
  | .ringFrameReceived .. => ⟨_, execRingFrameReceived_keeps ..⟩
  | .ringLeadListenEnd .. => ⟨_, execRingLeadListenEnd_keeps ..⟩
  | .ringLock => ⟨_, execRingLock_keeps ..⟩
  | .ringNoLead => ⟨_, execRingNoLead_keeps ..⟩
  | .ringDiscoveryEnd => ⟨_, execRingDiscoveryEnd_keeps ..⟩
  | .ringMemberLost .. => ⟨_, execRingMemberLost_keeps ..⟩
  | .ringBreak => ⟨_, execRingBreak_keeps ..⟩
  | .ringLeadRecovery => ⟨_, execRingLeadRecovery_keeps ..⟩
  | .ringPortEnable .. => ⟨_, execRingPortEnable_keeps ..⟩
  | .ringPortDisable .. => ⟨_, execRingPortDisable_keeps ..⟩
  | .ringLeaveComplete => ⟨_, execRingLeaveComplete_keeps ..⟩
  | .decimatedSample .. => ⟨_, execDecimatedSample_keeps ..⟩
  | .coherentSample .. => ⟨_, execCoherentSample_keeps ..⟩
  | .halfCyclePublication => ⟨_, execHalfCyclePublication_keeps ..⟩
  | .sensorFaultDetected .. => ⟨_, execSensorFaultDetected_keeps ..⟩
  | .sensorFaultCleared .. => ⟨_, execSensorFaultCleared_keeps ..⟩
  | .calibrationStore .. => ⟨_, execCalibrationStore_keeps ..⟩
  | .calibrationStoreComplete => ⟨_, execCalibrationStoreComplete_keeps ..⟩
  | .periodicTotalsSave => ⟨_, execPeriodicTotalsSave_keeps ..⟩
  | .totalsSaveNow .. => ⟨_, execTotalsSaveNow_keeps ..⟩
  | .totalsReset .. => ⟨_, execTotalsReset_keeps ..⟩
  | .dcEnergyReset .. => ⟨_, execDcEnergyReset_keeps ..⟩
  | .totalsCopyComplete .. => ⟨_, execTotalsCopyComplete_keeps ..⟩
  | .energySectorEraseComplete => ⟨_, execEnergySectorEraseComplete_keeps ..⟩
  | .epulseStart .. => ⟨_, execEpulseStart_keeps ..⟩
  | .epulseEnd .. => ⟨_, execEpulseEnd_keeps ..⟩
  | .supplyQualityClearCounts .. => ⟨_, execSupplyQualityClearCounts_keeps ..⟩
  | .eventRaise .. => ⟨_, execEventRaise_keeps ..⟩
  | .eventConditionEnd .. => ⟨_, execEventConditionEnd_keeps ..⟩
  | .fifoEntryProcess => ⟨_, execFifoEntryProcess_keeps ..⟩
  | .overflowRequeue => ⟨_, execOverflowRequeue_keeps ..⟩
  | .eventResponseWrite .. => ⟨_, execEventResponseWrite_keeps ..⟩
  | .eventClear .. => ⟨_, execEventClear_keeps ..⟩
  | .eventClearAll .. => ⟨_, execEventClearAll_keeps ..⟩
  | .acknowledge .. => ⟨_, execAcknowledge_keeps ..⟩
  | .interruptClear .. => ⟨_, execInterruptClear_keeps ..⟩
  | .outlineEnter .. => ⟨_, execOutlineEnter_keeps ..⟩
  | .outlineLeave .. => ⟨_, execOutlineLeave_keeps ..⟩
  | .outlineSetCommit .. => ⟨_, execOutlineSetCommit_keeps ..⟩
  | .outlineSetCommitComplete => ⟨_, execOutlineSetCommitComplete_keeps ..⟩
  | .safeInputFall .. => ⟨_, execSafeInputFall_keeps ..⟩
  | .safeSample .. => ⟨_, execSafeSample_keeps ..⟩
  | .safeFilterChange => ⟨_, execSafeFilterChange_keeps ..⟩
  | .discrepancyFault => ⟨_, execDiscrepancyFault_keeps ..⟩
  | .permitGrant => ⟨_, execPermitGrant_keeps ..⟩
  | .functionReinitialise .. => ⟨_, execFunctionReinitialise_keeps ..⟩
  | .functionDisable .. => ⟨_, execFunctionDisable_keeps ..⟩
  | .functionDisableHard .. => ⟨_, execFunctionDisableHard_keeps ..⟩
  | .functionEnable .. => ⟨_, execFunctionEnable_keeps ..⟩
  | .functionStopped .. => ⟨_, execFunctionStopped_keeps ..⟩
  | .powerCycleRequest .. => ⟨_, execPowerCycleRequest_keeps ..⟩
  | .powerCycleAssert => ⟨_, execPowerCycleAssert_keeps ..⟩
  | .powerCycleRelease => ⟨_, execPowerCycleRelease_keeps ..⟩
  | .stagingEntryEligible .. => ⟨_, execStagingEntryEligible_keeps ..⟩
  | .flashGranuleComplete => ⟨_, execFlashGranuleComplete_keeps ..⟩
  | .logSectorEraseComplete => ⟨_, execLogSectorEraseComplete_keeps ..⟩
  | .logErase .. => ⟨_, execLogErase_keeps ..⟩
  | .logEraseComplete => ⟨_, execLogEraseComplete_keeps ..⟩
  | .logCursorWrite .. => ⟨_, execLogCursorWrite_keeps ..⟩
  | .logReadFromCursor .. => ⟨_, execLogReadFromCursor_keeps ..⟩
  | .logReadAtCursor .. => ⟨_, execLogReadAtCursor_keeps ..⟩
  | .logSnapshotRead .. => ⟨_, execLogSnapshotRead_keeps ..⟩
  | .readDeferralTimeout => ⟨_, execReadDeferralTimeout_keeps ..⟩
  | .externalLogWriteComplete .. => ⟨_, execExternalLogWriteComplete_keeps ..⟩
  | .calendarTimeWrite .. => ⟨_, execCalendarTimeWrite_keeps ..⟩
  | .rtcTrimWrite .. => ⟨_, execRtcTrimWrite_keeps ..⟩
  | .rtcTrimStep => ⟨_, execRtcTrimStep_keeps ..⟩
  | .lseStopTimeout => ⟨_, execLseStopTimeout_keeps ..⟩
  | .usbConfigured => ⟨_, execUsbConfigured_keeps ..⟩
  | .usbDetach => ⟨_, execUsbDetach_keeps ..⟩
  | .usbBusReset => ⟨_, execUsbBusReset_keeps ..⟩
  | .usbSuspend => ⟨_, execUsbSuspend_keeps ..⟩
  | .gspRead .. => ⟨_, execGspRead_keeps ..⟩
  | .gspWrite .. => ⟨_, execGspWrite_keeps ..⟩
  | .gspBlockRead .. => ⟨_, execGspBlockRead_keeps ..⟩
  | .gspBlockWrite .. => ⟨_, execGspBlockWrite_keeps ..⟩
  | .gspSubscribe .. => ⟨_, execGspSubscribe_keeps ..⟩
  | .gspUnsubscribe .. => ⟨_, execGspUnsubscribe_keeps ..⟩
  | .gspPing .. => ⟨_, execGspPing_keeps ..⟩
  | .gspBlockTimeout => ⟨_, execGspBlockTimeout_keeps ..⟩
  | .sessionChallenge .. => ⟨_, execSessionChallenge_keeps ..⟩
  | .sessionResponse .. => ⟨_, execSessionResponse_keeps ..⟩
  | .sessionClose .. => ⟨_, execSessionClose_keeps ..⟩
  | .sessionIdleTimeout .. => ⟨_, execSessionIdleTimeout_keeps ..⟩
  | .nonceExpiry .. => ⟨_, execNonceExpiry_keeps ..⟩
  | .sessionLockoutExpiry .. => ⟨_, execSessionLockoutExpiry_keeps ..⟩
  | .keyWrite .. => ⟨_, execKeyWrite_keeps ..⟩
  | .accessMapCommit .. => ⟨_, execAccessMapCommit_keeps ..⟩
  | .lifecycleToOemBuild .. => ⟨_, execLifecycleToOemBuild_keeps ..⟩
  | .lifecycleToField .. => ⟨_, execLifecycleToField_keeps ..⟩
  | .lifecycleToService .. => ⟨_, execLifecycleToService_keeps ..⟩
  | .lifecycleToRetired .. => ⟨_, execLifecycleToRetired_keeps ..⟩
  | .firmwareDownload .. => ⟨_, execFirmwareDownload_keeps ..⟩
  | .bankEraseComplete => ⟨_, execBankEraseComplete_keeps ..⟩
  | .programStart .. => ⟨_, execProgramStart_keeps ..⟩
  | .programClear .. => ⟨_, execProgramClear_keeps ..⟩
  | .activateBank .. => ⟨_, execActivateBank_keeps ..⟩
  | .confirmBank .. => ⟨_, execConfirmBank_keeps ..⟩
  | .trialTimeout => ⟨_, execTrialTimeout_keeps ..⟩
  | .frameReferenceTimeout => ⟨_, execFrameReferenceTimeout_keeps ..⟩
  | .canFrameTransmitted => ⟨_, execCanFrameTransmitted_keeps ..⟩
  | .vbatFall .. => ⟨_, execVbatFall_keeps ..⟩
  | .vbatRise .. => ⟨_, execVbatRise_keeps ..⟩
  | .lseStart => ⟨_, execLseStart_keeps ..⟩
  | .pllLocked => ⟨_, execPllLocked_keeps ..⟩
  | .externalSectorEraseComplete .. => ⟨_, execExternalSectorEraseComplete_keeps ..⟩
  | .accessMapStoreComplete => ⟨_, execAccessMapStoreComplete_keeps ..⟩
  | .keyStoreComplete => ⟨_, execKeyStoreComplete_keeps ..⟩
  | .usbResume => ⟨_, execUsbResume_keeps ..⟩
  | .usbAddressSet => ⟨_, execUsbAddressSet_keeps ..⟩
  | .usbInTransferComplete => ⟨_, execUsbInTransferComplete_keeps ..⟩
  | .referenceRisingEdge .. => ⟨_, execReferenceRisingEdge_keeps ..⟩

/-- What an operation keeps includes the safety of the state. -/
theorem Keeps.safe {W : Nat} {s t : State} (h : Keeps W s t) (hs : Safety.safe s) : Safety.safe t := by
  obtain ⟨hcanonical, hnoShoot⟩ := hs
  exact ⟨h.canonical hcanonical, h.noShoot hnoShoot⟩

/-- The queue of commands has no part in the safety of a state. -/
theorem safe_setPending {s : State} (l : List Instr) (hs : Safety.safe s) : Safety.safe (s.setPending l) := hs

end Sys2Proof.Machine

namespace Sys2Proof

open Machine

/-- Settles O35: every list of the reset state is canonical, and every phase of it is low. -/
theorem resetIsSafe : Obligations.ResetIsSafe := by
  unfold Obligations.ResetIsSafe
  have hcanonical : Safety.canonical State.reset = true := by decide +kernel
  have hnoShoot : Safety.noShoot State.reset = true := by decide
  exact ⟨hcanonical, hnoShoot⟩

/-- Settles O36: a step is an idle millisecond on an empty queue, else the command in front on the state with the rest of
the queue, and each keeps safety. -/
theorem stepsStaySafe : Obligations.StepsStaySafe := by
  unfold Obligations.StepsStaySafe
  intro s t hs h
  unfold step at h
  split at h
  case h_1 =>
    cases h
    exact (State.idle_keeps (maskLe_refl _) (Keeps.refl _ s)).safe hs
  case h_2 c rest _ =>
    obtain ⟨W, hkeeps⟩ := exec_keeps c (s.setPending rest)
    exact (hkeeps.next t h).safe (safe_setPending rest hs)

end Sys2Proof
end

section
/-! The PWM generator (O19, O51). A phase keeps its latch — its period, the overcurrents of the period, its force mode, its
mask state and the edges that no longer adapt — through whatever a raising does to it; so what ZERO, P/2 and the other
update points settle still stands after the events they raise. -/

namespace Sys2Proof.Machine

/-! ### Adaptive dead time (R243) -/

theorem adaptDue_iff (s : State) (p : PhaseId) (falling : Bool) : s.adaptDue p falling = true ↔
    s.adapts p falling = true ∧ s.fast (phaseIx p 6) 1 ≠ 0 ∧
      s.fastNat (phaseIx p 6) 6 ≤ (if falling then s.phases[p].sinceAdaptF else s.phases[p].sinceAdaptR) := by
  unfold State.adaptDue
  rw [and_ble_iff, Bool.and_eq_true, bne_iff_ne, and_assoc]

/-- An adaptation that is due sets the next dead time of its edge to the clamped step. -/
theorem adapt_next {s : State} {p : PhaseId} {falling : Bool} (h : s.adaptDue p falling = true) :
    (if falling then (s.adapt p falling).phases[p].nextF else (s.adapt p falling).phases[p].nextR) =
      (clampInt (adaptStep (s.applied p falling) (if falling then s.phases[p].nodeF else s.phases[p].nodeR)
        (s.fast (phaseIx p 6) 5)) (s.fast (phaseIx p 6) 3) (s.fast (phaseIx p 6) 4)).toNat := by
  unfold State.adapt
  rw [if_pos h]
  dsimp only
  rw [phases_modPhase]
  cases falling <;> rfl

/-- The cases of a step (R243): beyond the margin one step shorter, within it one step longer, at it none; one step shorter
without a dead time to spare, and none without a transition. -/
theorem adaptStep_cases (dt t m : Int) :
    (0 ≤ t → t < dt → t + m < dt → adaptStep dt (some t) m = dt - 1) ∧
    (0 ≤ t → t < dt → dt < t + m → adaptStep dt (some t) m = dt + 1) ∧
    (0 ≤ t → t < dt → t + m = dt → adaptStep dt (some t) m = dt) ∧
    (0 ≤ t → dt ≤ t → adaptStep dt (some t) m = dt - 1) ∧ (t < 0 → adaptStep dt (some t) m = dt) ∧
    adaptStep dt none m = dt := by
  have hsome : adaptStep dt (some t) m = if t < 0 then dt
      else if t < dt then (if t + m < dt then dt - 1 else if dt < t + m then dt + 1 else dt) else dt - 1 := rfl
  rw [hsome]
  refine ⟨fun h0 h1 h2 => ?_, fun h0 h1 h2 => ?_, fun h0 h1 h2 => ?_, fun h0 h1 => ?_, fun h => if_pos h, rfl⟩
  · rw [if_neg (by omega), if_pos h1, if_pos h2]
  · rw [if_neg (by omega), if_pos h1, if_neg (by omega), if_pos h2]
  · rw [if_neg (by omega), if_pos h1, if_neg (by omega), if_neg (by omega)]
  · rw [if_neg (by omega), if_neg (by omega)]

theorem clampInt_toNat_within {v lo hi : Int} (h0 : 0 ≤ lo) (h : lo ≤ hi) :
    lo ≤ ((clampInt v lo hi).toNat : Int) ∧ ((clampInt v lo hi).toNat : Int) ≤ hi := by
  unfold clampInt
  omega

theorem deadTimeAdapt_within {p : PhaseId} {falling : Bool} {s : State} (hdue : s.adaptDue p falling = true)
    (h0 : 0 ≤ s.fast (phaseIx p 6) 3) (h : s.fast (phaseIx p 6) 3 ≤ s.fast (phaseIx p 6) 4) :
    Safety.completes (.deadTimeAdapt p falling) s fun t =>
      s.fast (phaseIx p 6) 3 ≤ (if falling then t.phases[p].nextF else t.phases[p].nextR : Nat) ∧
        (if falling then t.phases[p].nextF else t.phases[p].nextR : Nat) ≤ s.fast (phaseIx p 6) 4 := by
  refine ⟨_, rfl, ?_⟩
  dsimp only
  rw [adapt_next hdue]
  exact clampInt_toNat_within h0 h

/-! ### A phase behind its outputs -/

/-- A phase without its outputs and the measurement windows that their edges close (R242). -/
def Phase.undriven (a : Phase) : Phase :=
  { a with outH := false, outL := false, windowR := false, windowF := false, missR := 0, missF := 0, nodeR := none,
           nodeF := none }

/-- `Phase.undriven` of a phase of the device. -/
def State.undriven (s : State) (p : PhaseId) : Phase := s.phases[p].undriven

/-- What a period of a phase is settled by: its length, the overcurrents seen in it, the force mode and the mask state, and
the edges that no longer adapt. -/
structure Phase.Latch where
  period : Nat
  ocPos : Bool
  ocNeg : Bool
  tripOc : Bool
  force : Nat
  mask : Nat
  stoppedR : Bool
  stoppedF : Bool

def Phase.latch (a : Phase) : Phase.Latch :=
  ⟨a.period, a.ocPos, a.ocNeg, a.tripOc, a.force, a.mask, a.stoppedR, a.stoppedF⟩

theorem Phase.latch_eq_iff (a b : Phase) : a.latch = b.latch ↔ a.period = b.period ∧ a.ocPos = b.ocPos ∧
    a.ocNeg = b.ocNeg ∧ a.tripOc = b.tripOc ∧ a.force = b.force ∧ a.mask = b.mask ∧ a.stoppedR = b.stoppedR ∧
    a.stoppedF = b.stoppedF := by
  simp [Phase.latch]

/-- `Phase.latch` of a phase of the device. -/
def State.latch (s : State) (p : PhaseId) : Phase.Latch := s.phases[p].latch

section
variable (s : State) (p : PhaseId)

/-- A projection of a phase after a change of one phase that it does not see. -/
theorem proj_modPhase {α : Type} (π : Phase → α) (q : PhaseId) (f : Phase → Phase) (h : ∀ a, π (f a) = π a) :
    π (s.modPhase q f).phases[p] = π s.phases[p] := by
  show π ((s.phases.set q.val (f s.phases[q]) q.isLt)[p.val]'p.isLt) = _
  rw [Vector.getElem_set]
  split
  · next e =>
    obtain rfl : q = p := Fin.ext e
    exact h _
  · rfl

theorem undriven_modPhase (q : PhaseId) (f : Phase → Phase) (h : ∀ a, (f a).undriven = a.undriven) :
    (s.modPhase q f).undriven p = s.undriven p :=
  proj_modPhase s p Phase.undriven q f h

theorem undriven_ite {c : Prop} [Decidable c] (a b : State) :
    (if c then a else b).undriven p = if c then a.undriven p else b.undriven p :=
  apply_ite (fun (s : State) => s.undriven p) c a b

theorem undriven_closeWindow (q : PhaseId) (falling : Bool) : (s.closeWindow q falling).undriven p = s.undriven p := by
  have hmiss (x : State) (sub : Nat) : ((x.putPhaseObj q 6 sub (-1)).bump (phaseIx q 6) 9).undriven p = x.undriven p :=
    rfl
  unfold State.closeWindow
  dsimp only
  rw [undriven_ite, hmiss]
  exact ite_eq_right_iff.2 fun _ => undriven_modPhase s p q _ fun a => by cases falling <;> rfl

theorem undriven_putOutputs (q : PhaseId) (h l : Bool) : (s.putOutputs q h l).undriven p = s.undriven p := by
  unfold State.putOutputs
  dsimp only
  rw [undriven_modPhase]
  · rw [undriven_ite, undriven_closeWindow, undriven_closeWindow, ite_self]
  · exact fun _ => rfl

/-- The outputs of a phase set to their levels leave all that stands behind them. -/
theorem undriven_drivePhase (q : PhaseId) : (s.drivePhase q).undriven p = s.undriven p := by
  unfold State.drivePhase
  dsimp only
  rw [undriven_ite, undriven_ite, undriven_modPhase, undriven_modPhase, ite_self, ite_self]
  · exact undriven_putOutputs s p q _ _
  · exact fun _ => rfl
  · exact fun _ => rfl

theorem latch_of_undriven {s t : State} {p : PhaseId} (h : t.undriven p = s.undriven p) : t.latch p = s.latch p := by
  have hlatch : t.phases[p].undriven.latch = s.phases[p].undriven.latch := congrArg Phase.latch h
  exact hlatch

theorem latch_of_keeps {W : Nat} {s t : State} (p : PhaseId) (k : Keeps W s t)
    (hw : W.testBit StatePart.phases.bit = false) : t.latch p = s.latch p := by
  have hphases : t.phases = s.phases := k.parts .phases hw
  unfold State.latch
  rw [hphases]

/-! ### The latch through a raising -/

@[simp] theorem latch_putObj (ix sub : Nat) (v : Int) : (s.putObj ix sub v).latch p = s.latch p := rfl

@[simp] theorem latch_putBit (ix sub n : Nat) (b : Bool) : (s.putBit ix sub n b).latch p = s.latch p := rfl

@[simp] theorem latch_bump (ix sub : Nat) : (s.bump ix sub).latch p = s.latch p := rfl

@[simp] theorem latch_interrupt (n : Nat) : (s.interrupt n).latch p = s.latch p := rfl

@[simp] theorem latch_putRailObj (r : RailId) (off sub : Nat) (v : Int) :
    (s.putRailObj r off sub v).latch p = s.latch p := rfl

@[simp] theorem latch_putPhaseObj (q : PhaseId) (off sub : Nat) (v : Int) :
    (s.putPhaseObj q off sub v).latch p = s.latch p := rfl

@[simp] theorem latch_modRail (r : RailId) (f : Rail → Rail) : (s.modRail r f).latch p = s.latch p := rfl

@[simp] theorem latch_setOutline (v : Outline) : (s.setOutline v).latch p = s.latch p := rfl

@[simp] theorem latch_setSafety (v : Safety) : (s.setSafety v).latch p = s.latch p := rfl

@[simp] theorem latch_setDrive (v : Drive) : (s.setDrive v).latch p = s.latch p := rfl

@[simp] theorem latch_ite {c : Prop} [Decidable c] (a b : State) :
    (if c then a else b).latch p = if c then a.latch p else b.latch p :=
  apply_ite (fun (s : State) => s.latch p) c a b

@[simp] theorem latch_modPhase (q : PhaseId) (f : Phase → Phase) (h : ∀ a, (f a).latch = a.latch) :
    (s.modPhase q f).latch p = s.latch p :=
  proj_modPhase s p Phase.latch q f h

@[simp] theorem latch_foldl {α : Type} (f : State → α → State) (l : List α)
    (h : ∀ s a, (f s a).latch p = s.latch p) : (l.foldl f s).latch p = s.latch p := by
  induction l generalizing s with
  | nil => rfl
  | cons a l ih => exact (ih (f s a)).trans (h s a)

@[simp] theorem latch_drivePhase (q : PhaseId) : (s.drivePhase q).latch p = s.latch p :=
  latch_of_undriven (undriven_drivePhase s p q)

@[simp] theorem latch_putOutputs (q : PhaseId) (h l : Bool) : (s.putOutputs q h l).latch p = s.latch p :=
  latch_of_undriven (undriven_putOutputs s p q h l)

@[simp] theorem latch_idleSlots (r : RailId) : (s.idleSlots r).latch p = s.latch p :=
  latch_of_keeps p (State.idleSlots_keeps r (maskLe_refl _) (Keeps.refl _ s)) rfl

@[simp] theorem latch_stopCommon (r : RailId) (c : Nat) : (s.stopCommon r c).latch p = s.latch p :=
  latch_of_keeps p (State.stopCommon_keeps r c (maskLe_refl _) (Keeps.refl _ s)) rfl

@[simp] theorem latch_softStop (r : RailId) (c : Nat) : (s.softStop r c).latch p = s.latch p :=
  latch_of_keeps p (State.softStop_keeps r c (maskLe_refl _) (Keeps.refl _ s)) rfl

@[simp] theorem latch_safeRelays : s.safeRelays.latch p = s.latch p :=
  latch_of_keeps p (State.safeRelays_keeps (maskLe_refl _) (Keeps.refl _ s)) rfl

@[simp] theorem latch_leaveRing (n : Nat) : (s.leaveRing n).latch p = s.latch p :=
  latch_of_keeps p (State.leaveRing_keeps n (maskLe_refl _) (Keeps.refl _ s)) rfl

@[simp] theorem latch_raiseCore (e data : Nat) (b : Bool) : (s.raiseCore e data b).latch p = s.latch p :=
  latch_of_keeps p (State.raiseCore_keeps e data b (maskLe_refl _) (Keeps.refl _ s)) rfl

@[simp] theorem latch_endStop (r : RailId) : (s.endStop r).latch p = s.latch p := by
  simp [State.endStop, State.putFunc, Phase.latch_eq_iff]

@[simp] theorem latch_settleStop (r : RailId) : (s.settleStop r).latch p = s.latch p := by
  simp [State.settleStop]

@[simp] theorem latch_hardStop (r : RailId) (c : Nat) : (s.hardStop r c).latch p = s.latch p := by
  simp [State.hardStop, Phase.latch_eq_iff]

@[simp] theorem latch_takeOutline (q : PhaseId) : (s.takeOutline q).latch p = s.latch p := by
  simp [State.takeOutline, Phase.latch_eq_iff]

@[simp] theorem latch_settleOutline (q : PhaseId) : (s.settleOutline q).latch p = s.latch p := by
  simp [State.settleOutline]

@[simp] theorem latch_outlinePhase (q : PhaseId) (state : Nat) (duty : Int) :
    (s.outlinePhase q state duty).latch p = s.latch p := by
  simp [State.outlinePhase, Phase.latch_eq_iff]

@[simp] theorem latch_startTurning : s.startTurning.latch p = s.latch p := by
  simp [State.startTurning, State.driveOutline, State.driveStore, State.settleOutlines]

@[simp] theorem latch_enterOutline (c : Nat) : (s.enterOutline c).latch p = s.latch p := by
  unfold State.enterOutline
  dsimp only
  split
  · rfl
  · rw [latch_raiseCore, latch_startTurning, latch_leaveRing, latch_ite, latch_putObj, ite_self,
      latch_foldl _ _ _ _ fun t r => ?_]
    · rfl
    · simp

@[simp] theorem latch_safePath : s.safePath.latch p = s.latch p := by
  unfold State.safePath
  dsimp only
  rw [latch_safeRelays, latch_foldl _ _ _ _ fun t q => ?_]
  · simp
  · split <;> simp

@[simp] theorem latch_respond (e resp : Nat) (acts : List RailId) : (s.respond e resp acts).latch p = s.latch p := by
  unfold State.respond
  split <;> simp

/-- A raising leaves the latch of every phase, whatever its response. -/
@[simp] theorem latch_raise (e data : Nat) : (s.raise e data).latch p = s.latch p := by
  simp [State.raise]

end

/-! ### Objects that stand -/

/-- In a canonical state an object has a value. -/
def Holds (s : State) (ix sub : Nat) (v : Int) : Prop := Safety.canonical s = true ∧ s.obj ix sub = v

theorem Holds.of_put {s : State} (hc : Safety.canonical s = true) (ix sub : Nat) (v : Int) :
    Holds (s.putObj ix sub v) ix sub v :=
  ⟨canonical_putObj _ _ _ hc, obj_putObj _ _ _ hc⟩

theorem Holds.put {s : State} {ix sub : Nat} {v : Int} (h : Holds s ix sub v) {ix' sub' : Nat} (v' : Int)
    (n : objKey ix sub ≠ objKey ix' sub') : Holds (s.putObj ix' sub' v') ix sub v :=
  ⟨canonical_putObj _ _ _ h.1, (obj_putObj_ne _ h.1 n).trans h.2⟩

theorem Holds.keeps {W : Nat} {s t : State} {ix sub : Nat} {v : Int} (h : Holds s ix sub v) (k : Keeps W s t)
    (hi : siteIn W ix = false) : Holds t ix sub v :=
  ⟨k.canonical h.1, (k.obj h.1 sub hi).trans h.2⟩

theorem Holds.ite {s t : State} {ix sub : Nat} {v : Int} {c : Prop} [Decidable c] (hs : Holds s ix sub v)
    (ht : Holds t ix sub v) : Holds (if c then s else t) ix sub v := by
  split <;> assumption

theorem objKey_phaseIx_ne (p : PhaseId) {off off' : Nat} (sub sub' : Nat) (n : off ≠ off') :
    objKey (phaseIx p off) sub ≠ objKey (phaseIx p off') sub' := by
  unfold objKey phaseIx
  omega

/-! ### The latch through the update points -/

section
variable (s : State) (p : PhaseId)

theorem latch_modPhase_same (f : Phase → Phase) : (s.modPhase p f).latch p = (f s.phases[p]).latch := by
  unfold State.latch
  rw [phases_modPhase]

theorem latch_raiseTrips (l : List (PhaseId × Fin 4)) : (s.raiseTrips l).latch p = s.latch p := by
  simp [State.raiseTrips, State.raiseAll, Phase.latch_eq_iff]

/-- ZERO ends the trip of an overcurrent, and what it releases and repeats leaves the rest of the latch (R256). -/
theorem latch_tripZero : (s.tripZero p).latch p = { s.latch p with tripOc := false } := by
  have hclear : (s.modPhase p fun a => { a with tripOc := false }).latch p = { s.latch p with tripOc := false } :=
    latch_modPhase_same s p _
  unfold State.tripZero
  dsimp only
  split
  · exact hclear
  · split
    · split
      · simp [hclear, Phase.latch_eq_iff]
      · exact hclear
    · split
      · simp [hclear, latch_raiseTrips, Phase.latch_eq_iff]
      · simp [hclear, Phase.latch_eq_iff]

theorem latch_takeForce : (s.takeForce p).latch p = { s.latch p with force := s.nat (phaseIx p 4) 1 } := by
  have htake (f : Nat) : (s.modPhase p fun a => { a with force := f }).latch p = { s.latch p with force := f } :=
    latch_modPhase_same s p _
  unfold State.takeForce
  dsimp only
  split
  · next h => rw [h]; rfl
  · split
    · exact htake _
    · rw [latch_raise, htake]

theorem latch_takeMask : (s.takeMask p).latch p = { s.latch p with mask := s.maskState p } := by
  have htake (m : Nat) (b : Bool) (i : Rat) : (s.modPhase p fun a =>
      { a with mask := m, iAcc := if b then i else a.iAcc }).latch p = { s.latch p with mask := m } :=
    latch_modPhase_same s p _
  unfold State.takeMask
  dsimp only
  rw [latch_ite, latch_setDrive, ite_self]
  exact htake _ _ _

theorem latch_takeSwitching (zero : Bool) : (s.takeSwitching p zero).latch p = s.latch p := by
  unfold State.takeSwitching
  dsimp only
  split
  · split <;> simp [Phase.latch_eq_iff]
  · simp only [latch_ite]
    rw [latch_modPhase, latch_modPhase, ite_self, ite_self]
    · exact fun a => by split <;> rfl
    · exact fun a => rfl

theorem latch_emit (w : Int) (again : Bool) : (s.emit p w again).latch p = s.latch p := by
  simp [State.emit, Phase.latch_eq_iff]

theorem latch_openPeriod : (s.openPeriod p).latch p = s.latch p := by
  have hrise (a : Phase) : a.placeRise.latch = a.latch := rfl
  simp [State.openPeriod, State.emitNone, latch_emit, hrise, Phase.placePulse, Phase.latch_eq_iff]

theorem latch_startReference : (s.startReference p).latch p = s.latch p := by
  simp [State.startReference, Phase.latch_eq_iff]

theorem latch_closePeriod : (s.closePeriod p).latch p = s.latch p := by
  have hfall (a : Phase) : a.placeFall.latch = a.latch := rfl
  simp [State.closePeriod, latch_emit, hfall, Phase.latch_eq_iff]

theorem latch_errorTrigger (k : Nat) : (s.errorTrigger p k).latch p = s.latch p :=
  latch_of_keeps p (State.errorTrigger_keeps p k (maskLe_refl _) (Keeps.refl _ s)) rfl

theorem latch_currentTrigger : (s.currentTrigger p).latch p = s.latch p :=
  latch_of_keeps p (State.currentTrigger_keeps p (maskLe_refl _) (Keeps.refl _ s)) rfl

theorem latch_fireTrigger (k : Fin 4) : (s.fireTrigger p k).latch p = s.latch p := by
  simp [State.fireTrigger, latch_errorTrigger, latch_currentTrigger, Phase.latch_eq_iff]

end

/-! ### Triggers (R232, R236) -/

/-- What a trigger event leaves in its prescaler: it starts again where the event passes (R236). -/
def State.prescaled (s : State) (p : PhaseId) (k : Fin 4) : Nat :=
  if s.fastNat (phaseIx p 3) (1 + k.val) ≤ s.phases[p].prescale[k] + 1 then 0 else s.phases[p].prescale[k] + 1

theorem prescaled_congr {s t : State} {p : PhaseId} {k : Fin 4}
    (hfast : t.fastNat (phaseIx p 3) (1 + k.val) = s.fastNat (phaseIx p 3) (1 + k.val))
    (hprescale : t.phases[p].prescale[k] = s.phases[p].prescale[k]) : t.prescaled p k = s.prescaled p k := by
  unfold State.prescaled
  rw [hfast, hprescale]

/-- The window error ADCs sample; nothing else of the state does. -/
theorem errorTrigger_eq (s : State) (p : PhaseId) (k : Nat) : ∃ v, s.errorTrigger p k = s.setVsense v := by
  have hfold (l : List VRailId) (s : State) : ∃ v, l.foldl (fun (s : State) (r : VRailId) =>
      if s.triggerPhase (vrail r) == some p && s.fastNat (railIx (vrail r) 0x50) 5 == k && s.errorSensed (vrail r) then
        s.modVSense r fun a => { a with sampling := true }
      else s) s = s.setVsense v := by
    induction l generalizing s with
    | nil => exact ⟨s.vsense, rfl⟩
    | cons r l ih =>
      rw [List.foldl_cons]
      split
      · exact ih _
      · exact ih s
  exact hfold _ s

/-- Where a passing event goes: to the ADC and to the TRIGGER flag, as far as it is routed (R236, R473). -/
def State.route (s : State) (p : PhaseId) (k : Fin 4) (pass : Bool) : State :=
  let s := if pass && (s.fastNat (phaseIx p 3) 5).testBit k.val then s.currentTrigger p else s
  if pass && (s.fastNat (phaseIx p 3) 5).testBit (4 + k.val) then s.interrupt 1 else s

theorem fireTrigger_eq (s : State) (p : PhaseId) (k : Fin 4) : ∃ v, s.fireTrigger p k =
    ((s.setVsense v).modPhase p fun a => { a with prescale := a.prescale.set k (s.prescaled p k) }).route p k
      (decide (s.fastNat (phaseIx p 3) (1 + k.val) ≤ s.phases[p].prescale[k] + 1)) := by
  obtain ⟨v, hv⟩ := errorTrigger_eq s p k.val
  unfold State.fireTrigger
  rw [hv]
  exact ⟨v, rfl⟩

theorem route_phases (s : State) (p : PhaseId) (k : Fin 4) (pass : Bool) : (s.route p k pass).phases = s.phases := by
  have hcurrent : (s.currentTrigger p).phases = s.phases :=
    (State.currentTrigger_keeps p (maskLe_refl _) (Keeps.refl _ s)).parts .phases rfl
  have hinterrupt (x : State) : (x.interrupt 1).phases = x.phases := rfl
  unfold State.route
  dsimp only
  rw [apply_ite State.phases, hinterrupt, ite_self, apply_ite State.phases, hcurrent, ite_self]

theorem route_interrupt {s : State} {p : PhaseId} {k : Fin 4} (hc : Safety.canonical s = true)
    (hroute : (s.fastNat (phaseIx p 3) 5).testBit (4 + k.val) = true) : (s.route p k true).bit 0x2320 1 1 = true := by
  have hcurrent : Keeps 0x400000000000000040000 s
      (if true && (s.fastNat (phaseIx p 3) 5).testBit k.val then s.currentTrigger p else s) :=
    Keeps.ite (State.currentTrigger_keeps p (maskLe_refl _) (Keeps.refl _ s)) (Keeps.refl _ s)
  have hsame := congrArg Int.toNat (hcurrent.fast hc 5 (siteIn_phase_eq _ p (by decide : 3 < 16)) rfl)
  unfold State.route
  refine (congrArg (fun (x : State) => x.bit 0x2320 1 1) (if_pos ?_)).trans
    (bit_putBit 0x2320 1 1 true (hcurrent.canonical hc))
  rw [Bool.true_and]
  exact (congrArg (fun n => n.testBit (4 + k.val)) hsame).trans hroute

/-- A trigger event changes its phase in the prescaler alone. -/
theorem fireTrigger_phase (s : State) (p : PhaseId) (k : Fin 4) : (s.fireTrigger p k).phases[p] =
    { s.phases[p] with prescale := s.phases[p].prescale.set k (s.prescaled p k) } := by
  obtain ⟨v, hv⟩ := fireTrigger_eq s p k
  rw [hv, route_phases, phases_modPhase]
  rfl

theorem fireTrigger_prescale (s : State) (p : PhaseId) (k : Fin 4) :
    (s.fireTrigger p k).phases[p].prescale[k] = s.prescaled p k := by
  rw [fireTrigger_phase]
  exact Vector.getElem_set_self _

theorem fireTrigger_interrupt {s : State} {p : PhaseId} {k : Fin 4} (hc : Safety.canonical s = true)
    (hpass : s.fastNat (phaseIx p 3) (1 + k.val) ≤ s.phases[p].prescale[k] + 1)
    (hroute : (s.fastNat (phaseIx p 3) 5).testBit (4 + k.val) = true) : (s.fireTrigger p k).bit 0x2320 1 1 = true := by
  obtain ⟨v, hv⟩ := fireTrigger_eq s p k
  rw [hv, decide_eq_true hpass]
  exact route_interrupt hc hroute

theorem pwmPeriod_fires {p : PhaseId} {s : State} (hc : Safety.canonical s = true)
    (hcounting : s.phases[p].counting = true) :
    Safety.completes (.pwmPeriod p) s fun t =>
      t.phases[p].prescale[1] =
          (if s.fastNat (phaseIx p 3) 2 ≤ s.phases[p].prescale[1] + 1 then 0 else s.phases[p].prescale[1] + 1) ∧
        (s.fastNat (phaseIx p 3) 2 ≤ s.phases[p].prescale[1] + 1 → (s.fastNat (phaseIx p 3) 5).testBit 5 = true →
          t.bit 0x2320 1 1 = true) :=
  ⟨_, if_pos hcounting, fireTrigger_prescale s p 1, fireTrigger_interrupt (k := 1) hc⟩

theorem pwmCmpb_fires {p : PhaseId} {s : State} (hcounting : s.phases[p].counting = true)
    (hpos : s.fastNat (phaseIx p 3) 6 < s.phases[p].period) :
    Safety.completes (.pwmCmpb p) s fun t => t.phases[p].prescale[3] =
      (if s.fastNat (phaseIx p 3) 4 ≤ s.phases[p].prescale[3] + 1 then 0 else s.phases[p].prescale[3] + 1) :=
  ⟨_, if_pos ⟨hcounting, hpos⟩, fireTrigger_prescale s p 3⟩

theorem pwmCmpb_ignored {p : PhaseId} {s : State} (h : s.phases[p].period ≤ s.fastNat (phaseIx p 3) 6) :
    Safety.ignored (.pwmCmpb p) s :=
  if_neg fun hfires => absurd hfires.2 (Nat.not_lt.2 h)

/-! ### The edges of the reference (R231, R239, R249) -/

/-- A phase that changes and is then driven: behind its outputs it is as it changed. -/
theorem undriven_changed (s : State) (p : PhaseId) (f : Phase → Phase) :
    ((s.modPhase p f).drivePhase p).phases[p].undriven = (f s.phases[p]).undriven := by
  have hdriven := undriven_drivePhase (s.modPhase p f) p p
  rw [State.undriven, State.undriven, phases_modPhase] at hdriven
  exact hdriven

theorem drivePhase_fastNat {s : State} {p : PhaseId} {f : Phase → Phase} (hc : Safety.canonical s = true)
    (hf : ∀ a, (a.outH && a.outL) = false → ((f a).outH && (f a).outL) = false) (sub : Nat) :
    ((s.modPhase p f).drivePhase p).fastNat (phaseIx p 3) sub = s.fastNat (phaseIx p 3) sub := by
  have hkeeps : Keeps 0x80000000000000020000 s ((s.modPhase p f).drivePhase p) :=
    State.drivePhase_keeps p (maskLe_refl _) (State.modPhase_keeps _ _ (by decide) (Keeps.refl _ s) hf)
  exact congrArg Int.toNat (hkeeps.fast hc sub (siteIn_phase_eq _ p (by decide)) rfl)

/-- The falling edge: the outputs follow the reference, and CMPA fires. -/
theorem pwmCmpa_eq {s : State} {p : PhaseId} (hcounting : s.phases[p].counting = true)
    (hswitching : s.phases[p].switching = true) (hpulse : s.phases[p].rise < s.phases[p].fall)
    (hends : s.phases[p].fall < s.phases[p].period) :
    s.pwmCmpa p = ((s.modPhase p fun a => { a with reference := false }).drivePhase p).fireTrigger p 2 := by
  have hedge : (s.phases[p].counting && s.phases[p].switching && Nat.blt s.phases[p].rise s.phases[p].fall
      && Nat.blt s.phases[p].fall s.phases[p].period) = true := by
    simp only [Bool.and_eq_true, Nat.blt_eq]
    exact ⟨⟨⟨hcounting, hswitching⟩, hpulse⟩, hends⟩
  unfold State.pwmCmpa
  by_cases houtlined : s.phases[p].outlined.isSome = true
  · exact (if_pos houtlined).trans (if_pos hcounting)
  · exact (if_neg houtlined).trans (if_pos hedge)

theorem pwmCmpa_falls {p : PhaseId} {s : State} (hc : Safety.canonical s = true)
    (hcounting : s.phases[p].counting = true) (hswitching : s.phases[p].switching = true)
    (hpulse : s.phases[p].rise < s.phases[p].fall) (hends : s.phases[p].fall < s.phases[p].period) :
    Safety.completes (.pwmCmpa p) s fun t =>
      t.phases[p].reference = false ∧ t.phases[p].prescale[2] =
        (if s.fastNat (phaseIx p 3) 3 ≤ s.phases[p].prescale[2] + 1 then 0 else s.phases[p].prescale[2] + 1) := by
  have hchanged := undriven_changed s p fun a => { a with reference := false }
  have hreference := congrArg Phase.reference hchanged
  have hprescale := congrArg (fun a => a.prescale[(2 : Fin 4)]) hchanged
  have hfast := drivePhase_fastNat (p := p) (f := fun a => { a with reference := false }) hc (fun _ h => h) 3
  refine ⟨_, congrArg Host.Outcome.next (pwmCmpa_eq hcounting hswitching hpulse hends), ?_, ?_⟩
  · rw [fireTrigger_phase]
    exact hreference
  · exact (fireTrigger_prescale _ p 2).trans (prescaled_congr hfast hprescale)

/-- The rising edge: the outputs follow the reference, unless a positive cycle limit holds it low (R253). -/
theorem referenceRises_rises {p : PhaseId} {s : State} (hcounting : s.phases[p].counting = true)
    (hswitching : s.phases[p].switching = true) (hmode : s.upDown p = true) (hrisen : s.phases[p].risen = false)
    (hpulse : s.phases[p].rise < s.phases[p].fall) :
    Safety.completes (.referenceRisingEdge p) s fun t =>
      t.phases[p].reference = (!s.phases[p].limitPos) ∧ t.phases[p].limitNeg = false ∧ t.phases[p].risen = true := by
  have hedge : (s.phases[p].counting && s.phases[p].switching && s.upDown p && !s.phases[p].risen
      && Nat.blt s.phases[p].rise s.phases[p].fall) = true := by
    simp only [Bool.and_eq_true, Bool.not_eq_true', Nat.blt_eq]
    exact ⟨⟨⟨⟨hcounting, hswitching⟩, hmode⟩, hrisen⟩, hpulse⟩
  have hrises : s.referenceRises p = (s.modPhase p fun a =>
      { a with reference := !a.limitPos, risen := true, limitNeg := false }).drivePhase p :=
    if_pos hedge
  have hchanged := undriven_changed s p fun a => { a with reference := !a.limitPos, risen := true, limitNeg := false }
  exact ⟨_, congrArg Host.Outcome.next hrises, congrArg Phase.reference hchanged, congrArg Phase.limitNeg hchanged,
    congrArg Phase.risen hchanged⟩

theorem referenceRises_ignored {p : PhaseId} {s : State} (h : s.phases[p].fall ≤ s.phases[p].rise) :
    Safety.ignored (.referenceRisingEdge p) s := by
  have hnone : s.referenceRises p = s := if_neg (by simp only [Bool.and_eq_true, Nat.blt_eq]; omega)
  exact congrArg Host.Outcome.next hnone

/-! ### Node transitions and their limits (R241–R245) -/

/-- The node input reports a transition under DIGITAL, and one beyond the hysteresis under COMPARATOR (R241). -/
theorem nodeSees_of {s : State} {p : PhaseId} {falling : Bool} {mv : Nat} (hsees : s.fast (phaseIx p 6) 1 = 2 ∨
    (s.fast (phaseIx p 6) 1 = 1 ∧
      if falling then (mv : Rat) ≤ s.nodeThreshold p - 25 / 2 else s.nodeThreshold p + 25 / 2 ≤ (mv : Rat))) :
    s.nodeSees p falling mv = true := by
  unfold State.nodeSees
  rcases hsees with hdigital | ⟨hcomparator, hbeyond⟩
  · rw [hdigital]
    rfl
  · rw [hcomparator]
    cases falling <;> exact decide_eq_true hbeyond

/-- A phase with a measurement of one of its edges. -/
def Phase.measured (falling : Bool) (n : Int) (a : Phase) : Phase :=
  if falling then { a with nodeF := some n, missF := 0, windowF := false }
  else { a with nodeR := some n, missR := 0, windowR := false }

theorem nodeTransition_measures {p : PhaseId} {falling : Bool} {steps mv : BitVec 12} {s : State}
    (hc : Safety.canonical s = true) (hwindow : (if falling then s.phases[p].windowF else s.phases[p].windowR) = true)
    (hsees : s.fast (phaseIx p 6) 1 = 2 ∨ (s.fast (phaseIx p 6) 1 = 1 ∧
      if falling then (mv.toNat : Rat) ≤ s.nodeThreshold p - 25 / 2 else s.nodeThreshold p + 25 / 2 ≤ (mv.toNat : Rat))) :
    Safety.completes (.nodeTransition p falling ⟨steps, mv⟩) s fun t =>
      (if falling then t.phases[p].nodeF else t.phases[p].nodeR) = some (steps.toNat : Int) ∧
        (if falling then t.phases[p].missF else t.phases[p].missR) = 0 ∧
        t.phaseObj p 6 (if falling then 8 else 7) = steps.toNat := by
  have hgate : ((if falling then s.phases[p].windowF else s.phases[p].windowR) && s.nodeSees p falling mv.toNat) = true := by
    rw [hwindow, nodeSees_of hsees]
    rfl
  have hphase : (State.phases ((s.modPhase p (Phase.measured falling steps.toNat)).putPhaseObj p 6
      (if falling then 8 else 7) steps.toNat))[p] = s.phases[p].measured falling steps.toNat := phases_modPhase s p _
  refine ⟨(s.modPhase p (Phase.measured falling steps.toNat)).putPhaseObj p 6 (if falling then 8 else 7) steps.toNat,
    if_pos hgate, ?_, ?_, obj_putObj _ _ _ hc⟩
  · rw [hphase]
    cases falling <;> rfl
  · rw [hphase]
    cases falling <;> rfl

theorem nodeTransition_ignored {p : PhaseId} {falling : Bool} {steps mv : BitVec 12} {s : State}
    (hwindow : (if falling then s.phases[p].windowF else s.phases[p].windowR) = false) :
    Safety.ignored (.nodeTransition p falling ⟨steps, mv⟩) s :=
  if_neg (by rw [hwindow, Bool.false_and]; exact Bool.false_ne_true)

theorem deadTimeAdapt_clamps {p : PhaseId} {falling : Bool} {s : State} (hadapts : s.adapts p falling = true)
    (hnode : s.fast (phaseIx p 6) 1 ≠ 0)
    (hdue : s.fastNat (phaseIx p 6) 6 ≤ (if falling then s.phases[p].sinceAdaptF else s.phases[p].sinceAdaptR)) :
    Safety.completes (.deadTimeAdapt p falling) s fun t =>
      (if falling then t.phases[p].nextF else t.phases[p].nextR) =
        (clampInt (adaptStep (s.applied p falling)
          (if falling then s.phases[p].nodeF else s.phases[p].nodeR) (s.fast (phaseIx p 6) 5))
          (s.fast (phaseIx p 6) 3) (s.fast (phaseIx p 6) 4)).toNat :=
  ⟨_, rfl, adapt_next ((adaptDue_iff s p falling).2 ⟨hadapts, hnode, hdue⟩)⟩

theorem raisable_phNodeMiss (p : PhaseId) : raisable (phNodeMiss p.val) = true := by
  revert p
  decide

theorem raisable_phDtAdaptLimit (p : PhaseId) : raisable (phDtAdaptLimit p.val) = true := by
  revert p
  decide

/-- A phase of which an edge no longer adapts. -/
def Phase.stopAdapting (falling : Bool) (a : Phase) : Phase :=
  if falling then { a with stoppedF := true, missF := 0 } else { a with stoppedR := true, missR := 0 }

theorem Phase.stopAdapting_outputs (falling : Bool) (a : Phase) (h : (a.outH && a.outL) = false) :
    ((a.stopAdapting falling).outH && (a.stopAdapting falling).outL) = false := by
  cases falling <;> exact h

/-- Eight misses stop the adaptation of the edge, and no response to their event starts it again (R244). -/
theorem nodeMissLimit_stops {p : PhaseId} {falling : Bool} {s : State} (hc : Safety.canonical s = true)
    (hmiss : 8 ≤ (if falling then s.phases[p].missF else s.phases[p].missR)) :
    Safety.completes (.nodeMissLimit p falling) s fun t =>
      (if falling then t.phases[p].stoppedF else t.phases[p].stoppedR) = true ∧
        t.bit (phaseIx p 7) 1 6 = true ∧ Safety.raised (phNodeMiss p.val) s t := by
  have hstop : Keeps 0x20000 s (s.modPhase p (Phase.stopAdapting falling)) :=
    State.modPhase_keeps _ _ (by decide) (Keeps.refl _ s) (Phase.stopAdapting_outputs falling)
  have hflag : Keeps 0x100000000000000020000 s
      ((s.modPhase p (Phase.stopAdapting falling)).putBit (phaseIx p 7) 1 6 true) :=
    State.putBit_keeps _ _ _ _ (site_phase_7 p (maskLe_refl _) (by decide)) (hstop.mono (by decide))
  have hlatch (data : Nat) : (((s.modPhase p (Phase.stopAdapting falling)).putBit (phaseIx p 7) 1 6 true).raise
      (phNodeMiss p.val) data).latch p = (s.phases[p].stopAdapting falling).latch := by
    rw [latch_raise, latch_putBit, latch_modPhase_same]
  refine ⟨((s.modPhase p (Phase.stopAdapting falling)).putBit (phaseIx p 7) 1 6 true).raise (phNodeMiss p.val)
    (evData [evU 1 (natOf falling)]), if_pos hmiss, ?_, ?_, ?_⟩
  · cases falling
    · exact congrArg Phase.Latch.stoppedR (hlatch _)
    · exact congrArg Phase.Latch.stoppedF (hlatch _)
  · rw [(State.raise_keeps _ _ (maskLe_refl _) (Keeps.refl _ _)).bit (hflag.canonical hc) 1 6
      (siteIn_phase_eq _ p (by decide : 7 < 16))]
    exact bit_putBit _ _ _ _ (hstop.canonical hc)
  · exact raise_raised_after _ hflag hc (raisable_phNodeMiss p) rfl rfl rfl

theorem dtAdaptLimit_raises {p : PhaseId} {falling : Bool} {s : State} (hc : Safety.canonical s = true)
    (hlimit : 64 ≤ (if falling then s.phases[p].limitF else s.phases[p].limitR))
    (hfirst : (if falling then s.phases[p].limitRaisedF else s.phases[p].limitRaisedR) = false) :
    Safety.completes (.dtAdaptLimit p falling) s fun t => Safety.raised (phDtAdaptLimit p.val) s t := by
  refine ⟨_, if_pos ⟨hlimit, hfirst⟩, ?_⟩
  refine raise_raised_after (W := 0x20000) _ ?_ hc (raisable_phDtAdaptLimit p) rfl rfl rfl
  exact State.modPhase_keeps _ _ (by decide) (Keeps.refl _ s) fun a h => by cases falling <;> exact h

/-! ### Trips (R254–R256) -/

/-- A phase that trips is tripped, and no other phase is released by it. -/
theorem trip_tripped (s : State) (p q : PhaseId) (h : p = q ∨ s.phases[p].tripped = true) :
    (s.trip q).phases[p].tripped = true := by
  have hdriven : (s.trip q).phases[p].tripped =
      (State.phases (s.modPhase q fun a => { a with tripped := true, tripClear := false }))[p].tripped :=
    congrArg (·.1) (protection_drivePhase _ p q)
  rw [hdriven]
  show ((s.phases.set q.val _ q.isLt)[p.val]'p.isLt).tripped = true
  rw [Vector.getElem_set]
  split
  · rfl
  · next hne => exact h.resolve_left fun e => hne (congrArg Fin.val e.symm)

theorem foldl_trip_tripped (s : State) (p : PhaseId) (l : List PhaseId) (h : p ∈ l ∨ s.phases[p].tripped = true) :
    (l.foldl State.trip s).phases[p].tripped = true := by
  induction l generalizing s with
  | nil => exact h.resolve_left List.not_mem_nil
  | cons q l ih =>
    refine ih (s.trip q) ?_
    rcases h with h | h
    · rcases List.mem_cons.1 h with h | h
      · exact .inr (trip_tripped s p q (.inl h))
      · exact .inl h
    · exact .inr (trip_tripped s p q (.inr h))

theorem protection_raiseTrips (s : State) (p : PhaseId) (l : List (PhaseId × Fin 4)) :
    (s.raiseTrips l).protection p = s.protection p := by
  simp [State.raiseTrips, State.raiseAll, Phase.protection_eq_iff]

section
variable {i : Fin 4} {high : Bool} {clocks : Nat} {s : State}

theorem tripInput_filtered (hserving : s.serving = true) (henabled : (s.fastNat 0x2630 (1 + i.val)).testBit 0 = true)
    (hfilter : bits (s.fastNat 0x2630 (1 + i.val)) 15 8 ≤ clocks) :
    ¬ (!s.serving || !(s.fastNat 0x2630 (1 + i.val)).testBit 0
      || Nat.blt clocks (bits (s.fastNat 0x2630 (1 + i.val)) 15 8)) = true := by
  simp only [hserving, henabled, Bool.not_true, Bool.false_or, Nat.blt_eq]
  omega

/-- The phases that the mask of a TRIP input names. -/
def State.tripMasked (s : State) (i : Fin 4) : List PhaseId :=
  phaseIds.filter fun p => (s.fastNat 0x2630 (1 + i.val)).testBit (16 + p.val)

/-- The active level counts, and trips the phases of the mask (R254). -/
theorem tripInputActive_trips (hc : Safety.canonical s = true) (hserving : s.serving = true)
    (henabled : (s.fastNat 0x2630 (1 + i.val)).testBit 0 = true)
    (hfilter : bits (s.fastNat 0x2630 (1 + i.val)) 15 8 ≤ clocks)
    (hlevel : high = (!(s.fastNat 0x2630 (1 + i.val)).testBit 1)) :
    Safety.completes (.tripInputActive i ⟨high, clocks⟩) s fun t =>
      t.bit 0x2630 6 i.val = true ∧
        t.obj 0x2630 (8 + i.val) = countNext (objKey 0x2630 (8 + i.val)) (s.obj 0x2630 (8 + i.val)) ∧
        ∀ p : PhaseId, (s.fastNat 0x2630 (1 + i.val)).testBit (16 + p.val) = true → t.phases[p].tripped = true := by
  have hi := i.isLt
  have hactive : (high != (s.fastNat 0x2630 (1 + i.val)).testBit 1) = true := by
    rw [hlevel]
    cases (s.fastNat 0x2630 (1 + i.val)).testBit 1 <;> rfl
  have heq : s.tripInput i high clocks = ((s.tripMasked i).foldl State.trip
      ((s.putBit 0x2630 6 i.val true).bump 0x2630 (8 + i.val))).raiseTrips ((s.tripMasked i).map fun p => (p, i)) :=
    (if_neg (tripInput_filtered hserving henabled hfilter)).trans (if_pos hactive)
  have hput := canonical_putBit (s := s) 0x2630 6 i.val true hc
  have hkey : objKey 0x2630 (8 + i.val) ≠ objKey 0x2630 6 := objKey_inj (by omega) (by decide) (by omega)
  have hkept : Keeps 0x8062D116810006436008 ((s.putBit 0x2630 6 i.val true).bump 0x2630 (8 + i.val))
      (s.tripInput i high clocks) := by
    rw [heq]
    exact State.raiseTrips_keeps _ (maskLe_refl _)
      (Keeps.foldl _ _ (Keeps.refl _ _) fun x q => State.trip_keeps q (by decide) (Keeps.refl _ x))
  refine ⟨_, rfl, ?_, ?_, fun p hmasked => ?_⟩
  · rw [hkept.bit (canonical_bump _ _ hput) 6 i.val rfl]
    unfold State.bit State.nat
    rw [obj_bump_ne hput hkey.symm]
    exact bit_putBit 0x2630 6 i.val true hc
  · rw [hkept.obj (canonical_bump _ _ hput) (8 + i.val) rfl, obj_bump _ _ hput]
    exact congrArg _ (obj_putObj_ne _ hc hkey)
  · have hkept : (s.tripInput i high clocks).phases[p].tripped = _ :=
      congrArg (fun (x : State) => (x.protection p).1) heq
    rw [hkept, protection_raiseTrips]
    exact foldl_trip_tripped _ p _ (.inl (List.mem_filter.2 ⟨List.mem_finRange p, hmasked⟩))

theorem tripInputActive_releases (hserving : s.serving = true) (hc : Safety.canonical s = true)
    (henabled : (s.fastNat 0x2630 (1 + i.val)).testBit 0 = true)
    (hfilter : bits (s.fastNat 0x2630 (1 + i.val)) 15 8 ≤ clocks)
    (hlevel : high = (s.fastNat 0x2630 (1 + i.val)).testBit 1) :
    Safety.completes (.tripInputActive i ⟨high, clocks⟩) s fun t =>
      t.bit 0x2630 6 i.val = false ∧ t.phases = s.phases := by
  have hidle : s.tripInput i high clocks = s.putBit 0x2630 6 i.val false :=
    (if_neg (tripInput_filtered hserving henabled hfilter)).trans (if_neg (by simp [hlevel]))
  exact ⟨_, congrArg Host.Outcome.next hidle, bit_putBit _ _ _ _ hc, rfl⟩

theorem tripInputActive_ignored (h : (s.fastNat 0x2630 (1 + i.val)).testBit 0 = false ∨
    clocks < bits (s.fastNat 0x2630 (1 + i.val)) 15 8) : Safety.ignored (.tripInputActive i ⟨high, clocks⟩) s := by
  have hnone : s.tripInput i high clocks = s := if_pos (by rcases h with h | h <;> simp [h])
  exact congrArg Host.Outcome.next hnone

end

theorem clearTrips_clears {s : State} {phases : Nat} {p : PhaseId} (hnamed : phases.testBit p.val = true)
    (htripped : s.phases[p].tripped = true) : (s.clearTrips phases).phases[p].tripClear = true := by
  have hphase : (s.clearTrips phases).phases[p] =
      if phases.testBit p.val && s.phases[p].tripped then { s.phases[p] with tripClear := true } else s.phases[p] :=
    Vector.getElem_ofFn _
  rw [hphase, hnamed, htripped]
  rfl

theorem tripClear_done {ch : Channel} {tag : BitVec 16} {phases : BitVec 12} {s : State}
    (ha : Safety.actionAdmits s ch 0x2630 5 tag.toNat phases.toNat) :
    Safety.completes (.tripClear ch tag phases) s fun t =>
      Safety.done t ch 0x2630 5 ∧ ∀ p : PhaseId, phases.toNat.testBit p.val = true → s.phases[p].tripped = true →
        t.phases[p].tripClear = true := by
  obtain ⟨b, c, e, hans⟩ := hostAction_admitted ha rfl rfl rfl
  rw [do_trip_clear] at e
  refine ⟨_, congrArg Host.Outcome.next e, hans, fun p hnamed htripped => ?_⟩
  exact clearTrips_clears (s := s.setClients b) hnamed htripped

/-! ### Force modes (R258, R259) -/

theorem type_phaseForce (p : PhaseId) : (findRow (phaseIx p 4) 1).map ObjRow.ty = some .u8 := by
  revert p
  decide +kernel

theorem isAction_phaseForce (p : PhaseId) : isAction (phaseIx p 4) 1 = false := by
  revert p
  decide +kernel

/-- An admitted force mode is answered, and stands in its object until an update point takes it. -/
theorem hostWrite_force {ch : Channel} {p : PhaseId} {mode : Byte} {s : State} (hc : Safety.canonical s = true)
    (ha : Safety.admits s ch (phaseIx p 4) 1 [mode]) :
    Safety.done (s.hostWrite ch (phaseIx p 4) 1 [mode]) ch (phaseIx p 4) 1 ∧
      (s.hostWrite ch (phaseIx p 4) 1 [mode]).phaseObj p 4 1 = mode.toNat := by
  obtain ⟨c, e, hans⟩ := hostWrite_admitted ha (type_phaseForce p) (isAction_phaseForce p) (by unfold phaseIx; omega)
  rw [e, apply_force_both_off, value_u8]
  exact ⟨hans, obj_putNow _ _ _ hc⟩

/-! ### P/2 (R233, R234) -/

theorem pwmMid_latch {s : State} {p : PhaseId} (hcounting : s.phases[p].counting = true)
    (hmid : s.midUpdate p = true) : (s.pwmMid p).latch p = { s.latch p with
      force := s.nat (phaseIx p 4) 1, mask := ((s.takeForce p).takeSwitching p false).maskState p } := by
  have hgate : (s.phases[p].counting && s.midUpdate p) = true := by rw [hcounting, hmid]; rfl
  unfold State.pwmMid
  rw [if_pos hgate]
  dsimp only
  rw [latch_drivePhase, latch_closePeriod, latch_ite, latch_takeOutline, ite_self, latch_takeMask, latch_takeSwitching,
    latch_takeForce]

theorem maskState_of_keeps {W : Nat} {s t : State} (p : PhaseId) (k : Keeps W s t) (hc : Safety.canonical s = true)
    (hmap : siteIn W 0x3401 = false) (hmask : siteIn W 0x4110 = false) (hstale : W.testBit StatePart.stale.bit = false)
    (hdrive : W.testBit StatePart.drive.bit = false) : t.maskState p = s.maskState p := by
  have hd : t.drive = s.drive := k.parts .drive hdrive
  have hobj (sub : Nat) : t.obj 0x4110 sub = s.obj 0x4110 sub := k.obj hc sub hmask
  have hfast (sub : Nat) : t.fast 0x4110 sub = s.fast 0x4110 sub := k.fast hc sub hmask hstale
  have hmapped : t.driveConfigured = s.driveConfigured :=
    congrArg (fun v : Int => v.toNat == 0x0E00) (k.obj hc 1 hmap : t.obj 0x3401 1 = s.obj 0x3401 1)
  unfold State.maskState State.activeEntry State.fastNat State.nat
  simp only [hd, hobj, hfast, hmapped]

theorem pwmMidUpdate_forces {p : PhaseId} {s : State} (hcounting : s.phases[p].counting = true)
    (hmid : s.midUpdate p = true) :
    Safety.completes (.pwmMidUpdate p) s fun t => t.phases[p].force = s.nat (phaseIx p 4) 1 :=
  ⟨_, rfl, congrArg Phase.Latch.force (pwmMid_latch hcounting hmid)⟩

theorem pwmMidUpdate_masks {p : PhaseId} {s : State} (hc : Safety.canonical s = true)
    (hcounting : s.phases[p].counting = true) (hmid : s.midUpdate p = true)
    (hforce : s.phases[p].force = s.nat (phaseIx p 4) 1) :
    Safety.completes (.pwmMidUpdate p) s fun t => t.phases[p].mask = s.maskState p := by
  have htaken : s.takeForce p = s := if_pos hforce.symm
  have hswitch : (s.takeSwitching p false).maskState p = s.maskState p :=
    maskState_of_keeps p (State.takeSwitching_keeps p false (maskLe_refl _) (Keeps.refl _ s)) hc rfl rfl rfl rfl
  refine ⟨_, rfl, (congrArg Phase.Latch.mask (pwmMid_latch hcounting hmid)).trans ?_⟩
  rw [htaken]
  exact hswitch

/-! ### ZERO (R225, R233, R240) -/

/-- The period that ends, the one that begins, and its dead times. -/
def State.zeroTimes (s : State) (p : PhaseId) : State := ((s.endPeriod p).takePeriod p).takeDeadTimes p

/-- What a phase takes at ZERO under the times of its period, before its pulse is formed. -/
def State.zeroTakes (s : State) (p : PhaseId) : State :=
  ((((((s.tripZero p).takeForce p).takeSwitching p true).takeMask p).takeOutline p).takeSettings p)

/-- The pulse of the period, and the outputs and the trigger at ZERO. -/
def State.zeroDrives (s : State) (p : PhaseId) : State :=
  (((s.openPeriod p).startReference p).drivePhase p).fireTrigger p 0

theorem pwmZero_eq {s : State} {p : PhaseId} (hcounting : s.phases[p].counting = true) (hdue : s.zeroDue p = true) :
    s.pwmZero p = ((s.zeroTimes p).zeroTakes p).zeroDrives p :=
  (if_pos hcounting).trans (if_pos hdue)

/-- At ZERO no overcurrent of the period before counts against the one that begins (R204, R256). -/
theorem zeroTakes_latch (s : State) (p : PhaseId) : ∃ force mask, (s.zeroTakes p).latch p =
    { s.latch p with tripOc := false, force := force, mask := mask } := by
  have hsettings (x : State) : (x.takeSettings p).latch p = x.latch p := latch_modPhase x p p _ fun _ => rfl
  unfold State.zeroTakes
  rw [hsettings, latch_takeOutline, latch_takeMask, latch_takeSwitching, latch_takeForce, latch_tripZero]
  exact ⟨_, _, rfl⟩

theorem zeroDrives_latch (s : State) (p : PhaseId) : (s.zeroDrives p).latch p = s.latch p := by
  unfold State.zeroDrives
  rw [latch_fireTrigger, latch_drivePhase, latch_startReference, latch_openPeriod]

theorem zeroTakes_keeps (s : State) (p : PhaseId) : Keeps 0x9062D116810006436008 s (s.zeroTakes p) :=
  State.takeSettings_keeps p (by decide) (State.takeOutline_keeps p (by decide) (State.takeMask_keeps p (by decide)
    (State.takeSwitching_keeps p true (by decide) (State.takeForce_keeps p (by decide)
      (State.tripZero_keeps p (by decide) (Keeps.refl _ s))))))

theorem zeroDrives_keeps (s : State) (p : PhaseId) : Keeps 0x59062D1168100064F6008 s (s.zeroDrives p) :=
  State.fireTrigger_keeps p 0 (by decide) (State.drivePhase_keeps p (by decide) (State.startReference_keeps p (by decide)
    (State.openPeriod_keeps p (by decide) (Keeps.refl _ s))))

section
variable {s : State} {p : PhaseId} {v : Int}

theorem Holds.period_put (h : Holds s (phaseIx p 7) 2 v) {sub : Nat} (v' : Int) (hsub : sub < 256) (n : sub ≠ 2) :
    Holds (s.putObj (phaseIx p 7) sub v') (phaseIx p 7) 2 v :=
  h.put v' (objKey_inj (by decide) hsub n.symm)

/-- A short pulse or a refresh counted, and raised where its event is due, leaves the period in its object. -/
theorem Holds.period_counted (h : Holds s (phaseIx p 7) 2 v) {sub : Nat} (hsub : sub < 256) (n : sub ≠ 2) (e data : Nat)
    (c d : Prop) [Decidable c] [Decidable d] : Holds (if c then
      if d then (s.bump (phaseIx p 7) sub).raise e data else s.bump (phaseIx p 7) sub
    else s) (phaseIx p 7) 2 v := by
  have hbump : Holds (s.bump (phaseIx p 7) sub) (phaseIx p 7) 2 v := h.period_put _ hsub n
  exact Holds.ite (Holds.ite (hbump.keeps (State.raise_keeps e data (maskLe_refl _) (Keeps.refl _ _))
    (siteIn_phase_eq _ p (by decide))) hbump) h

theorem emit_holds (w : Int) (again : Bool) (h : Holds s (phaseIx p 7) 2 v) :
    Holds (s.emit p w again) (phaseIx p 7) 2 v := by
  unfold State.emit
  refine Holds.period_counted (Holds.period_counted ?_ (by decide) (by decide) _ _ _ _) (by decide) (by decide) _ _ _ _
  refine Holds.period_put (Holds.period_put (Holds.put ?_ _ (objKey_phaseIx_ne p _ _ (by decide))) _ (by decide)
    (by decide)) _ (by decide) (by decide)
  exact h

theorem openPeriod_holds (h : Holds s (phaseIx p 7) 2 v) : Holds (s.openPeriod p) (phaseIx p 7) 2 v := by
  unfold State.openPeriod
  refine Holds.ite ?_ (Holds.ite h ?_)
  · exact Holds.period_put (s := s.modPhase p _) h _ (by decide) (by decide)
  · exact emit_holds _ _ h

/-- The length of the period stands in its object from when it is taken (R225). -/
theorem zeroDrives_holds (h : Holds s (phaseIx p 7) 2 v) : Holds (s.zeroDrives p) (phaseIx p 7) 2 v :=
  (openPeriod_holds h).keeps (W := 0x4000000020000000E0000 ||| 0x80000000000000020000)
    (State.fireTrigger_keeps p 0 (by decide) (State.drivePhase_keeps p (by decide)
      (State.startReference_keeps p (by decide) (Keeps.refl _ _)))) (siteIn_phase_eq _ p (by decide))

end

/-! ### What the rail does at ZERO of its phase (R275, R303) -/

theorem phaseZero_keeps (s : State) (p : PhaseId) : Keeps 0x420000 (s.pwmZero p) (s.phaseZero p) := by
  have hstays := Keeps.refl 0x420000 (s.pwmZero p)
  unfold State.phaseZero
  dsimp only
  cases (s.pwmZero p).railOf p with
  | none => exact hstays
  | some r =>
    have hshare := State.shareDemand_keeps r ((s.pwmZero p).rails[r].demand) (maskLe_refl _) hstays
    have htrim : Keeps 0x420000 (s.pwmZero p) ((s.pwmZero p).trimPhase r p) :=
      State.trimPhase_keeps r p (by decide) hstays
    exact Keeps.ite (Keeps.ite hshare hstays) (Keeps.ite htrim hstays)

theorem latch_setDuty (s : State) (p q : PhaseId) (d : Rat) : (s.setDuty q d).latch p = s.latch p :=
  latch_modPhase s p q _ fun _ => rfl

theorem latch_regulate (s : State) (p : PhaseId) (r : RailId) (q : PhaseId) (integrate : Bool) :
    (s.regulate r q integrate).latch p = s.latch p :=
  (latch_setDuty _ p q _).trans (latch_modPhase s p q _ fun _ => rfl)

theorem latch_shareDemand (s : State) (p : PhaseId) (r : RailId) (demand : Int) :
    (s.shareDemand r demand).latch p = s.latch p :=
  latch_foldl _ p _ _ fun t q => (latch_regulate _ p r q false).trans (latch_modPhase t p q _ fun _ => rfl)

theorem latch_trimPhase (s : State) (p : PhaseId) (r : RailId) (q : PhaseId) :
    (s.trimPhase r q).latch p = s.latch p :=
  (latch_setDuty _ p q _).trans (latch_modPhase s p q _ fun _ => rfl)

theorem phaseZero_latch (s : State) (p : PhaseId) : (s.phaseZero p).latch p = (s.pwmZero p).latch p := by
  unfold State.phaseZero
  dsimp only
  cases (s.pwmZero p).railOf p with
  | none => rfl
  | some r =>
    dsimp only
    rw [latch_ite, latch_ite, latch_ite, latch_shareDemand, latch_trimPhase, ite_self, ite_self, ite_self]

/-! ### The times of a period -/

theorem divider_of_keeps {W : Nat} {s t : State} (p : PhaseId) (k : Keeps W s t) (hc : Safety.canonical s = true)
    (hphase : siteIn W (phaseIx p 0) = false) (hstale : W.testBit StatePart.stale.bit = false) :
    t.divider p = s.divider p := by
  unfold State.divider State.fastNat
  rw [k.fast hc 2 hphase hstale]

theorem railOf_of_keeps {W : Nat} {s t : State} (p : PhaseId) (k : Keeps W s t) (hc : Safety.canonical s = true)
    (hmap : siteIn W (railIx 0 1) = false) : t.railOf p = s.railOf p := by
  have hmask (r : RailId) : t.phaseMask r = s.phaseMask r :=
    congrArg Int.toNat (k.obj hc 1 ((siteIn_rail_eq W r (by decide)).trans hmap))
  unfold State.railOf
  simp only [hmask]

theorem wantedShift_of_keeps {W : Nat} {s t : State} (p : PhaseId) (k : Keeps W s t) (hc : Safety.canonical s = true)
    (hphase : siteIn W (phaseIx p 0) = false) (hmap : siteIn W (railIx 0 1) = false)
    (hstale : W.testBit StatePart.stale.bit = false) (hauto : t.phases[p].auto = s.phases[p].auto) :
    t.wantedShift p = s.wantedShift p := by
  have hmode (r : RailId) : t.railObj r 1 2 = s.railObj r 1 2 := k.obj hc 2 ((siteIn_rail_eq W r (by decide)).trans hmap)
  unfold State.wantedShift
  simp only [k.fast hc 3 hphase hstale, railOf_of_keeps p k hc hmap, hmode, hauto]

/-- A projection of a phase that the end of its period does not change. -/
theorem endPeriod_proj {α : Type} (π : Phase → α) (s : State) (p : PhaseId)
    (h : ∀ (a : Phase) (n m short boot : Nat), π { a with
      ocPos := false, ocNeg := false, limitPos := false, limited := false, risen := false,
      sinceAdaptR := n, sinceAdaptF := m, sinceShort := short, sinceBoot := boot } = π a) :
    π (s.endPeriod p).phases[p] = π s.phases[p] :=
  proj_modPhase s p π p _ fun a => h a _ _ _ _

theorem endPeriod_latch (s : State) (p : PhaseId) :
    (s.endPeriod p).latch p = { s.latch p with ocPos := false, ocNeg := false } := by
  unfold State.endPeriod
  dsimp only
  rw [latch_putBit, latch_modPhase_same]
  rfl

theorem takePeriod_eq {s : State} {p : PhaseId} (hspread : s.phases[p].spread.drop 1 = [])
    (haim : s.wantedShift p = s.phases[p].aim) : ∃ shift offset, s.takePeriod p =
      ((s.modPhase p fun a => { a with
        period := s.meridian.base * s.divider p, spread := [], shift := shift, aim := s.phases[p].aim,
        offset := offset }).putPhaseObj p 7 2 (s.meridian.base * s.divider p : Nat)).putPhaseObj p 7 4 shift := by
  have hnow (P : Nat) : ((P : Int) + ([] : List Int).headD 0).toNat = P := by simp
  unfold State.takePeriod
  dsimp only
  rw [haim, bne_self_eq_false, if_neg Bool.false_ne_true, hspread, hnow]
  exact ⟨_, _, rfl⟩

theorem latch_takeDeadTimes (s : State) (p : PhaseId) : (s.takeDeadTimes p).latch p = s.latch p := by
  simp [State.takeDeadTimes, Phase.latch_eq_iff]

/-- What the dead times of a phase rest on beside its objects: which edges adapt no longer, and what they adapted to. -/
def Phase.adaptation (a : Phase) : Bool × Bool × Nat × Nat := (a.stoppedR, a.stoppedF, a.nextR, a.nextF)

theorem takePeriod_adaptation (s : State) (p : PhaseId) :
    (s.takePeriod p).phases[p].adaptation = s.phases[p].adaptation := by
  have hform : ∃ period spread shift aim offset, s.takePeriod p =
      ((s.modPhase p fun a => { a with
        period := period, spread := spread, shift := shift, aim := aim, offset := offset }).putPhaseObj p 7 2
        (period : Nat)).putPhaseObj p 7 4 shift := ⟨_, _, _, _, _, rfl⟩
  obtain ⟨period, spread, shift, aim, offset, h⟩ := hform
  rw [h]
  exact proj_modPhase s p Phase.adaptation p (fun a => { a with
    period := period, spread := spread, shift := shift, aim := aim, offset := offset }) fun _ => rfl

theorem deadTime_of_keeps {W : Nat} {s t : State} (p : PhaseId) (falling : Bool) (k : Keeps W s t)
    (hc : Safety.canonical s = true) (hphase : siteIn W (phaseIx p 1) = false)
    (hstale : W.testBit StatePart.stale.bit = false) (hadapt : t.phases[p].adaptation = s.phases[p].adaptation) :
    t.deadTime p falling = s.deadTime p falling := by
  have hfast (sub : Nat) : t.fast (phaseIx p 1) sub = s.fast (phaseIx p 1) sub := k.fast hc sub hphase hstale
  simp only [Phase.adaptation, Prod.mk.injEq] at hadapt
  obtain ⟨hstoppedR, hstoppedF, hnextR, hnextF⟩ := hadapt
  unfold State.deadTime State.adapts State.fastNat
  simp only [hfast, hstoppedR, hstoppedF, hnextR, hnextF]

/-- The period that begins under a shift that stays: what `takePeriod` works with is as it was before the last one ended. -/
theorem zeroPeriod_eq {s : State} {p : PhaseId} (hc : Safety.canonical s = true)
    (hspread : s.phases[p].spread.drop 1 = []) (haim : s.wantedShift p = s.phases[p].aim) :
    ∃ shift offset, (s.endPeriod p).takePeriod p = (((s.endPeriod p).modPhase p fun a => { a with
      period := s.meridian.base * s.divider p, spread := [], shift := shift, aim := s.phases[p].aim,
      offset := offset }).putPhaseObj p 7 2 (s.meridian.base * s.divider p : Nat)).putPhaseObj p 7 4 shift := by
  have hkeeps := State.endPeriod_keeps p (maskLe_refl _) (Keeps.refl _ s)
  have hsite : siteIn 0x100000000000000020000 (phaseIx p 0) = false := siteIn_phase_eq _ p (by decide)
  have hspread' : (s.endPeriod p).phases[p].spread = s.phases[p].spread := endPeriod_proj Phase.spread s p fun _ _ _ _ _ => rfl
  have haim' : (s.endPeriod p).phases[p].aim = s.phases[p].aim := endPeriod_proj Phase.aim s p fun _ _ _ _ _ => rfl
  have hauto : (s.endPeriod p).phases[p].auto = s.phases[p].auto := endPeriod_proj Phase.auto s p fun _ _ _ _ _ => rfl
  have hwanted : (s.endPeriod p).wantedShift p = s.wantedShift p := wantedShift_of_keeps p hkeeps hc hsite rfl rfl hauto
  have hdivider : (s.endPeriod p).divider p = s.divider p := divider_of_keeps p hkeeps hc hsite rfl
  obtain ⟨shift, offset, h⟩ := takePeriod_eq (s := s.endPeriod p) (p := p) (by rw [hspread', hspread])
    (by rw [hwanted, haim, haim'])
  rw [hdivider, haim'] at h
  exact ⟨shift, offset, h⟩

section
variable {s : State} {p : PhaseId} (hc : Safety.canonical s = true) (hspread : s.phases[p].spread.drop 1 = [])
  (haim : s.wantedShift p = s.phases[p].aim)
include hc hspread haim

theorem zeroTimes_latch : (s.zeroTimes p).latch p =
    { s.latch p with period := s.meridian.base * s.divider p, ocPos := false, ocNeg := false } := by
  obtain ⟨shift, offset, h⟩ := zeroPeriod_eq hc hspread haim
  unfold State.zeroTimes
  rw [latch_takeDeadTimes, h, latch_putPhaseObj, latch_putPhaseObj, latch_modPhase_same]
  exact congrArg (fun l : Phase.Latch => { l with period := s.meridian.base * s.divider p }) (endPeriod_latch s p)

theorem zeroTimes_period : Holds (s.zeroTimes p) (phaseIx p 7) 2 (s.meridian.base * s.divider p : Nat) := by
  obtain ⟨shift, offset, h⟩ := zeroPeriod_eq hc hspread haim
  have hended := (State.endPeriod_keeps p (maskLe_refl _) (Keeps.refl _ s)).canonical hc
  have htaken : Holds ((s.endPeriod p).takePeriod p) (phaseIx p 7) 2 (s.meridian.base * s.divider p : Nat) := by
    rw [h]
    exact (Holds.of_put (s := (s.endPeriod p).modPhase p _) hended _ _ _).period_put _ (by decide) (by decide)
  exact htaken.keeps (State.takeDeadTimes_keeps p (maskLe_refl _) (Keeps.refl _ _)) (siteIn_phase_eq _ p (by decide))

omit hspread haim in
/-- The dead times are those that the phase had before its period began (R233). -/
theorem zeroTimes_deadTimes : Holds (s.zeroTimes p) (phaseIx p 1) 4 (s.deadTime p false) ∧
    Holds (s.zeroTimes p) (phaseIx p 1) 5 (s.deadTime p true) := by
  have hkeeps : Keeps 0x100000000000000020000 s ((s.endPeriod p).takePeriod p) :=
    State.takePeriod_keeps p (maskLe_refl _) (State.endPeriod_keeps p (maskLe_refl _) (Keeps.refl _ s))
  have hadapt : ((s.endPeriod p).takePeriod p).phases[p].adaptation = s.phases[p].adaptation :=
    (takePeriod_adaptation _ p).trans (endPeriod_proj Phase.adaptation s p fun _ _ _ _ _ => rfl)
  have hdead (falling : Bool) : ((s.endPeriod p).takePeriod p).deadTime p falling = s.deadTime p falling :=
    deadTime_of_keeps p falling hkeeps hc (siteIn_phase_eq _ p (by decide)) rfl hadapt
  have hcanonical := hkeeps.canonical hc
  unfold State.zeroTimes State.takeDeadTimes
  dsimp only
  rw [hdead, hdead]
  exact ⟨(Holds.of_put (s := ((s.endPeriod p).takePeriod p).modPhase p _) hcanonical _ _ _).put _
    (objKey_inj (by decide) (by decide) (by decide)), Holds.of_put (canonical_putObj _ _ _ hcanonical) _ _ _⟩

/-- The state after ZERO, before its rail trims it or shares its demand (R275, R303). -/
theorem pwmZero_latch (hcounting : s.phases[p].counting = true) (hdue : s.zeroDue p = true) :
    ∃ force mask, (s.pwmZero p).latch p = { s.latch p with
      period := s.meridian.base * s.divider p, ocPos := false, ocNeg := false, tripOc := false, force := force,
      mask := mask } := by
  obtain ⟨force, mask, htaken⟩ := zeroTakes_latch (s.zeroTimes p) p
  refine ⟨force, mask, ?_⟩
  rw [pwmZero_eq hcounting hdue, zeroDrives_latch, htaken, zeroTimes_latch hc hspread haim]

theorem pwmZero_period (hcounting : s.phases[p].counting = true) (hdue : s.zeroDue p = true) :
    Holds (s.pwmZero p) (phaseIx p 7) 2 (s.meridian.base * s.divider p : Nat) := by
  rw [pwmZero_eq hcounting hdue]
  exact zeroDrives_holds ((zeroTimes_period hc hspread haim).keeps (zeroTakes_keeps (s.zeroTimes p) p)
    (siteIn_phase_eq _ p (by decide)))

omit hspread haim in
theorem pwmZero_deadTimes (hcounting : s.phases[p].counting = true) (hdue : s.zeroDue p = true) :
    Holds (s.pwmZero p) (phaseIx p 1) 4 (s.deadTime p false) ∧
      Holds (s.pwmZero p) (phaseIx p 1) 5 (s.deadTime p true) := by
  have htakes := zeroTakes_keeps (s.zeroTimes p) p
  have hdrives := zeroDrives_keeps ((s.zeroTimes p).zeroTakes p) p
  have hsiteTakes : siteIn 0x9062D116810006436008 (phaseIx p 1) = false := siteIn_phase_eq _ p (by decide)
  have hsiteDrives : siteIn 0x59062D1168100064F6008 (phaseIx p 1) = false := siteIn_phase_eq _ p (by decide)
  obtain ⟨hrising, hfalling⟩ := zeroTimes_deadTimes (p := p) hc
  rw [pwmZero_eq hcounting hdue]
  exact ⟨(hrising.keeps htakes hsiteTakes).keeps hdrives hsiteDrives,
    (hfalling.keeps htakes hsiteTakes).keeps hdrives hsiteDrives⟩

/-- ZERO with a shift that stays: the period and the dead times are taken, and no overcurrent counts any longer. -/
theorem pwmZero_takes (hcounting : s.phases[p].counting = true) (hdue : s.zeroDue p = true) :
    Safety.completes (.pwmZero p) s fun t =>
      t.phases[p].period = s.meridian.base * s.divider p ∧
        t.phaseObj p 7 2 = ((s.meridian.base * s.divider p : Nat) : Int) ∧
        t.phaseObj p 1 4 = s.deadTime p false ∧ t.phaseObj p 1 5 = s.deadTime p true ∧
        t.phases[p].ocPos = false ∧ t.phases[p].ocNeg = false ∧ t.phases[p].tripOc = false := by
  obtain ⟨force, mask, hlatch⟩ := pwmZero_latch hc hspread haim hcounting hdue
  have hrest := phaseZero_keeps s p
  have hperiod := (pwmZero_period hc hspread haim hcounting hdue).keeps hrest (siteIn_phase_eq _ p (by decide))
  obtain ⟨hrising, hfalling⟩ := pwmZero_deadTimes hc hcounting hdue
  have hsite : siteIn 0x420000 (phaseIx p 1) = false := siteIn_phase_eq _ p (by decide)
  rw [← phaseZero_latch] at hlatch
  exact ⟨_, rfl, congrArg Phase.Latch.period hlatch, hperiod.2, (hrising.keeps hrest hsite).2,
    (hfalling.keeps hrest hsite).2, congrArg Phase.Latch.ocPos hlatch, congrArg Phase.Latch.ocNeg hlatch,
    congrArg Phase.Latch.tripOc hlatch⟩

end

end Sys2Proof.Machine

namespace Sys2Proof

open Machine

/-- Settles O51: the cases of a step, and a next dead time that is the clamp of one. -/
theorem deadTimesAdaptByOneStep : Obligations.DeadTimesAdaptByOneStep := by
  unfold Obligations.DeadTimesAdaptByOneStep
  exact ⟨adaptStep_cases, fun _ _ _ => deadTimeAdapt_within⟩

/-- Settles O19: each clause is the law of its command above. What ZERO and P/2 take stands after the events they raise
(`latch_raise`), and what they write lies outside the objects that a raising writes. -/
theorem pwmGeneratorActs : Obligations.PwmGeneratorActs := by
  unfold Obligations.PwmGeneratorActs
  refine ⟨?zero, ?midForce, ?midMask, ?period, ?cmpa, ?cmpb, ?cmpbIgnored, ?rising, ?risingIgnored, ?node, ?nodeIgnored,
    ?adapt, ?miss, ?limit, ?trip, ?tripEnd, ?tripIgnored, ?tripClear, ?bothOff, ?highOn, ?lowOn, ?none⟩
  case zero => exact fun p s hc hcounting hdue hspread haim => pwmZero_takes hc hspread haim hcounting hdue
  case midForce => exact fun p s hcounting hmid _ _ => pwmMidUpdate_forces hcounting hmid
  case midMask => exact fun p s hc hcounting hmid _ hforce => pwmMidUpdate_masks hc hcounting hmid hforce
  case period => exact fun p s hc hcounting => pwmPeriod_fires hc hcounting
  case cmpa => exact fun p s hc hcounting hswitching hpulse hends => pwmCmpa_falls hc hcounting hswitching hpulse hends
  case cmpb => exact fun p s hcounting hposition => pwmCmpb_fires hcounting hposition
  case cmpbIgnored => exact fun p s h => pwmCmpb_ignored h
  case rising => exact fun p s hcounting hswitching hmode hrisen hpulse =>
    referenceRises_rises hcounting hswitching hmode hrisen hpulse
  case risingIgnored => exact fun p s h => referenceRises_ignored h
  case node => exact fun p falling steps mv s hc hwindow hsees => nodeTransition_measures hc hwindow hsees
  case nodeIgnored => exact fun p falling steps mv s hwindow => nodeTransition_ignored hwindow
  case adapt => exact fun p falling s hadapts hnode hdue => deadTimeAdapt_clamps hadapts hnode hdue
  case miss => exact fun p falling s hc hmiss => nodeMissLimit_stops hc hmiss
  case limit => exact fun p falling s hc hlimit hfirst => dtAdaptLimit_raises hc hlimit hfirst
  case trip => exact fun i high clocks s hc hserving henabled hfilter hlevel =>
    tripInputActive_trips hc hserving henabled hfilter hlevel
  case tripEnd => exact fun i high clocks s hc hserving henabled hfilter hlevel =>
    tripInputActive_releases hserving hc henabled hfilter hlevel
  case tripIgnored => exact fun i high clocks s h => tripInputActive_ignored h
  case tripClear => exact fun ch tag phases s ha => tripClear_done ha
  case bothOff => exact fun ch p s hc ha => ⟨_, rfl, hostWrite_force hc ha⟩
  case highOn => exact fun ch p s hc ha => ⟨_, rfl, hostWrite_force hc ha⟩
  case lowOn => exact fun ch p s hc ha => ⟨_, rfl, hostWrite_force hc ha⟩
  case none => exact fun ch p s hc ha => ⟨_, rfl, hostWrite_force hc ha⟩

end Sys2Proof
end

section
/-! What the host writes of a rail (O21), the AVSBus subordinate (O22) and the ramp of V_r (O50). A new target may raise
RL_TARGET_CLAMP; a raising whose response is below 4 takes no action, so the rail keeps what the write put there. -/

namespace Sys2Proof.Machine

/-! ### Ramps (R288) -/

theorem rampStep_up {vr goal up down : Int} (h0 : 0 ≤ up) (h : vr ≤ goal) :
    rampStep vr goal up down = min (vr + up) goal := by
  unfold rampStep
  split
  · rfl
  · omega

theorem rampStep_down {vr goal up down : Int} (h0 : 0 ≤ down) (h : goal ≤ vr) :
    rampStep vr goal up down = max (vr - down) goal := by
  unfold rampStep
  split
  · omega
  · split
    · rfl
    · omega

/-! ### One rail among the rails -/

theorem rails_modRail (s : State) (r : RailId) (f : Rail → Rail) : (s.modRail r f).rails[r] = f s.rails[r] := by
  simp [State.modRail]

theorem rails_of_keeps {W : Nat} {s t : State} (k : Keeps W s t) (r : RailId)
    (hw : W.testBit StatePart.rails.bit = false) : t.rails[r] = s.rails[r] :=
  congrArg (fun v : Vector Rail 5 => v[r]) (k.parts .rails hw)

theorem rails_putRailObj (s : State) (r : RailId) (off sub : Nat) (v : Int) :
    (s.putRailObj r off sub v).rails = s.rails := rfl

theorem rails_ite {c : Prop} [Decidable c] (s t : State) :
    (if c then s else t).rails = if c then s.rails else t.rails :=
  apply_ite State.rails c s t

/-- The key of an object of a rail is its place in the block beyond the rail's base. -/
theorem objKey_railIx (r : RailId) (off sub : Nat) :
    objKey (railIx r off) sub = objKey off sub + (0x3000 + 0x100 * r.val) * 256 := by
  unfold objKey railIx
  omega

/-- An object of a rail is still there after another object of the rail is written. -/
theorem Holds.rail_put {s : State} {r : RailId} {off sub : Nat} {v : Int} (h : Holds s (railIx r off) sub v)
    {off' sub' : Nat} (v' : Int) (n : objKey off sub ≠ objKey off' sub') :
    Holds (s.putRailObj r off' sub' v') (railIx r off) sub v :=
  h.put v' fun e => n (Nat.add_right_cancel ((objKey_railIx r off sub).symm.trans (e.trans (objKey_railIx r off' sub'))))

/-! ### A raising that takes no action (R463) -/

theorem respond_low {s : State} (e : Nat) {resp : Nat} (acts : List RailId) (h : resp < 4) :
    s.respond e resp acts = s := by
  unfold State.respond
  split
  case h_5 => rfl
  all_goals omega

/-- The responses NONE to DERATE act on the rails by no stop. -/
theorem raise_low {s : State} {e : Nat} (data : Nat) (h : s.responseOf e < 4) : s.raise e data = s.raiseCore e data := by
  unfold State.raise
  dsimp only
  rw [respond_low e _ h, ite_self]

/-- The response of an event rests on the event fabric and on the response table only (R462). -/
theorem responseOf_of_keeps {W : Nat} {e : Nat} {s t : State} (k : Keeps W s t) (hc : Safety.canonical s = true)
    (he : e < 640) (hfabric : W.testBit StatePart.fabric.bit = false) (htable : siteIn W 0x2310 = false) :
    t.responseOf e = s.responseOf e := by
  have hf : t.fabric = s.fabric := k.parts .fabric hfabric
  have hsite : siteIn W (0x2310 + e / 128) = false := (siteIn_congr W (group_responses he)).trans htable
  unfold State.responseOf State.uncleared State.responseEntry State.nat
  rw [hf, k.obj hc _ hsite]

theorem rlTargetClamp_lt (r : RailId) : rlTargetClamp r.val < 640 := by
  have := r.isLt
  unfold rlTargetClamp
  omega

/-! ### A target applied (R287) -/

/-- The target of a rail clamped and applied, short of the raising of RL_TARGET_CLAMP. -/
def State.clampTarget (s : State) (r : RailId) : State :=
  let t := s.modRail r fun a => { a with clamped := s.clampedTarget r != s.rails[r].source }
  if s.rails[r].stop = .soft ∨ (r = railD ∧ s.drive.reversing = true) then t
  else t.putRailObj r 0x10 7 (s.clampedTarget r)

theorem applyTarget_eq (s : State) (r : RailId) (fresh : Bool) : s.applyTarget r fresh =
    if (s.clampedTarget r != s.rails[r].source && (fresh || !s.rails[r].clamped)) = true then
      (s.clampTarget r).raise (rlTargetClamp r.val) (evData [evI 4 s.rails[r].source, evI 4 (s.clampedTarget r)])
    else s.clampTarget r := rfl

theorem clampTarget_rail (s : State) (r : RailId) : (s.clampTarget r).rails[r] =
    { s.rails[r] with clamped := s.clampedTarget r != s.rails[r].source } := by
  unfold State.clampTarget
  dsimp only
  rw [rails_ite, rails_putRailObj, ite_self, rails_modRail]

section
variable {s : State} {r : RailId} (hc : Safety.canonical s = true) (hlow : s.responseOf (rlTargetClamp r.val) < 4)
include hc hlow

/-- What a raising of RL_TARGET_CLAMP changes stands beside the rails. -/
theorem applyTarget_keeps_clampTarget (fresh : Bool) :
    Keeps 0x2800000000008 (s.clampTarget r) (s.applyTarget r fresh) := by
  have hclamp : Keeps 0x4000000000400000 s (s.clampTarget r) := by
    have hflag := State.modRail_keeps (W := 0x4000000000400000) r
      (fun a => { a with clamped := s.clampedTarget r != s.rails[r].source }) (by decide) (Keeps.refl _ s)
    exact Keeps.ite hflag (State.putRailObj_keeps r 0x10 7 _ (by decide) hflag)
  have hlow' : (s.clampTarget r).responseOf (rlTargetClamp r.val) < 4 :=
    Nat.lt_of_le_of_lt (Nat.le_of_eq (responseOf_of_keeps hclamp hc (rlTargetClamp_lt r) rfl rfl)) hlow
  rw [applyTarget_eq, raise_low _ hlow']
  exact Keeps.ite (State.raiseCore_keeps _ _ _ (maskLe_refl _) (Keeps.refl _ _)) (Keeps.refl _ _)

theorem applyTarget_rail (fresh : Bool) : (s.applyTarget r fresh).rails[r].source = s.rails[r].source ∧
    (s.applyTarget r fresh).rails[r].profile = s.rails[r].profile := by
  rw [rails_of_keeps (applyTarget_keeps_clampTarget hc hlow fresh) r rfl, clampTarget_rail]
  exact ⟨rfl, rfl⟩

/-- The objects of the rail but its applied target stay. -/
theorem applyTarget_holds (fresh : Bool) {off sub : Nat} {v : Int} (hoff : off < 256)
    (h : s.railObj r off sub = v) (n : objKey off sub ≠ objKey 0x10 7)
    (hsite : siteIn 0x2800000000008 (railIx 0 off) = false) :
    Holds (s.applyTarget r fresh) (railIx r off) sub v :=
  have hrail (c : Bool) : Holds (s.modRail r fun a => { a with clamped := c }) (railIx r off) sub v := ⟨hc, h⟩
  have hclamp : Holds (s.clampTarget r) (railIx r off) sub v := Holds.ite (hrail _) ((hrail _).rail_put _ n)
  hclamp.keeps (applyTarget_keeps_clampTarget hc hlow fresh) ((siteIn_rail_eq _ r hoff).trans hsite)

end

/-- A target that stands in 3r10:01 of a rail and comes from its selected source (R285, R287). -/
theorem retarget_takes {s : State} {r : RailId} {w step : Int} (v : Int) (hlow : s.responseOf (rlTargetClamp r.val) < 4)
    (htarget : Holds s (railIx r 0x10) 1 w) (hstep : Holds s (railIx r 0x10) 0x12 step) :
    Holds (s.retarget r v) (railIx r 0x10) 1 w ∧ Holds (s.retarget r v) (railIx r 0x10) 0x12 step ∧
      (s.retarget r v).rails[r].source = v ∧ (s.retarget r v).rails[r].profile = s.rails[r].profile := by
  have hlow' : (s.modRail r fun a => { a with source := v }).responseOf (rlTargetClamp r.val) < 4 := hlow
  have hc' : Safety.canonical (s.modRail r fun a => { a with source := v }) = true := htarget.1
  obtain ⟨hsource, hprofile⟩ := applyTarget_rail hc' hlow' true
  rw [rails_modRail] at hsource hprofile
  exact ⟨applyTarget_holds hc' hlow' true (by decide) htarget.2 (by decide) rfl,
    applyTarget_holds hc' hlow' true (by decide) hstep.2 (by decide) rfl, hsource, hprofile⟩

/-- The response to a clamp is not changed by what is written of the rail's targets. -/
theorem clampResponse_putTargets {s : State} {r : RailId} (hc : Safety.canonical s = true) (sub sub' : Nat) (v v' : Int) :
    ((s.putRailObj r 0x10 sub v).putRailObj r 0x10 sub' v').responseOf (rlTargetClamp r.val) =
      s.responseOf (rlTargetClamp r.val) :=
  responseOf_of_keeps (W := 0x4000000000000000) (State.putRailObj_keeps r _ _ _ (by decide)
    (State.putRailObj_keeps r _ _ _ (by decide) (Keeps.refl _ s))) hc (rlTargetClamp_lt r) rfl rfl

/-- A target accepted ends a profile and is the latest of its source (R285, R290). -/
theorem acceptTarget_takes {s : State} {r : RailId} (v : Int) (hc : Safety.canonical s = true)
    (hlow : s.responseOf (rlTargetClamp r.val) < 4) :
    Holds (s.acceptTarget r v) (railIx r 0x10) 1 v ∧ (s.acceptTarget r v).rails[r].source = v ∧
      (s.acceptTarget r v).rails[r].profile = false := by
  have hput : Holds (s.putRailObj r 0x10 1 v) (railIx r 0x10) 1 v := Holds.of_put hc _ _ _
  obtain ⟨htarget, -, hsource, hprofile⟩ := retarget_takes v
    (s := ((s.putRailObj r 0x10 1 v).putRailObj r 0x10 0x12 0).modRail r fun a =>
      { a with profile := false, holding := false })
    (Nat.lt_of_le_of_lt (Nat.le_of_eq (clampResponse_putTargets hc _ _ _ _)) hlow) (hput.rail_put 0 (by decide))
    (Holds.of_put hput.1 _ _ _)
  rw [rails_modRail] at hprofile
  exact ⟨htarget, hsource, hprofile⟩

/-- A profile step begins at its target (R289). -/
theorem profileStep_takes {s : State} {r : RailId} {i : Nat} {v : Int} (hc : Safety.canonical s = true)
    (hlow : s.responseOf (rlTargetClamp r.val) < 4) (hstep : s.profileTarget r i = some v) :
    Holds (s.profileStep r i) (railIx r 0x10) 0x12 i ∧ Holds (s.profileStep r i) (railIx r 0x10) 1 v ∧
      (s.profileStep r i).rails[r].source = v ∧ (s.profileStep r i).rails[r].profile = true := by
  have hput : Holds (s.putRailObj r 0x10 0x12 i) (railIx r 0x10) 0x12 i := Holds.of_put hc _ _ _
  obtain ⟨htarget, hplace, hsource, hprofile⟩ := retarget_takes v
    (s := ((s.putRailObj r 0x10 0x12 i).putRailObj r 0x10 1 v).modRail r fun a =>
      { a with profile := true, holding := false })
    (Nat.lt_of_le_of_lt (Nat.le_of_eq (clampResponse_putTargets hc _ _ _ _)) hlow) (Holds.of_put hput.1 _ _ _)
    (hput.rail_put v (by decide))
  rw [rails_modRail] at hprofile
  unfold State.profileStep
  rw [hstep]
  exact ⟨hplace, htarget, hsource, hprofile⟩

theorem profileAbort_holds {s : State} {r : RailId} (hc : Safety.canonical s = true)
    (hprofile : s.rails[r].profile = true) :
    Holds (s.profileAbort r) (railIx r 0x10) 0x12 0 ∧ (s.profileAbort r).rails[r].profile = false ∧
      (s.profileAbort r).rails[r].holding = true := by
  unfold State.profileAbort
  rw [if_pos hprofile, rails_modRail]
  exact ⟨Holds.of_put hc _ _ _, rfl, rfl⟩

/-! ### Enabling and stopping a rail (R277, R280, R281) -/

theorem enable_starts {s : State} (r : RailId) (hc : Safety.canonical s = true) :
    (s.enable r).isOn r = true ∧ (s.enable r).rails[r].starting = true ∧ (s.enable r).rails[r].stop = .none := by
  have hphases (x : State) (l : List PhaseId) : Keeps 0x100000000000000020000 x (l.foldl (fun (s : State) p =>
      (s.modPhase p fun a => { a with prescale := Vector.replicate 4 0, trim := 0, stopDue := false }).restartAdaptation
        p) x) :=
    Keeps.foldl _ _ (Keeps.refl _ x) fun t p => State.restartAdaptation_keeps p (maskLe_refl _)
      (State.modPhase_keeps p _ (by decide) (Keeps.refl _ t) fun _ h => h)
  have hput : Holds (s.putRailObj r 0x00 3 1) (railIx r 0) 3 1 := Holds.of_put hc _ _ _
  have hloads := hput.keeps (State.storeAdcLoads_keeps (maskLe_refl _) (Keeps.refl _ _)) (siteIn_rail_eq _ r (by decide))
  have hdrive := hloads.keeps (State.startDrive_keeps (maskLe_refl _) (Keeps.refl _ _)) (siteIn_rail_eq _ r (by decide))
  have hstart := hdrive.ite (c := r = railD) hloads
  unfold State.enable
  dsimp only
  rw [rails_of_keeps (hphases _ _) r rfl, rails_modRail]
  refine ⟨?_, rfl, rfl⟩
  exact beq_iff_eq.2 (Holds.keeps (s := State.modRail _ r _) hstart (hphases _ _) (siteIn_rail_eq _ r (by decide))).2

theorem stopCommon_rail (s : State) (r : RailId) (c : Nat) : (s.stopCommon r c).rails[r] =
    { s.rails[r] with starting := false, hiccup := false, profile := false, holding := false, dwell := false,
                      shedDue := false } := by
  have hdrive (x : State) (d : Drive) (c : Prop) [Decidable c] : (if c then x.setDrive d else x).rails = x.rails := by
    rw [rails_ite]
    exact ite_self _
  unfold State.stopCommon
  dsimp only
  rw [hdrive, rails_modRail]
  rfl

theorem stopCommon_cause {s : State} (r : RailId) (c : Nat) (hc : Safety.canonical s = true) :
    Holds (s.stopCommon r c) (railIx r 0x40) 6 c := by
  have hput : Holds (s.putRailObj r 0x40 6 c) (railIx r 0x40) 6 c := Holds.of_put hc _ _ _
  have hputs := hput.rail_put (off' := 0x10) (sub' := 0x12) 0 (by decide)
  unfold State.stopCommon
  dsimp only
  split
  · exact hputs
  · exact hputs

theorem stoppable_of_on {s : State} {r : RailId} (h : s.railObj r 0 3 = 1) : s.stoppable r = true := by
  have hon : s.isOn r = true := beq_iff_eq.2 h
  unfold State.stoppable
  rw [hon, Bool.or_true]

theorem softStop_on {s : State} {r : RailId} (c : Nat) (hon : s.railObj r 0 3 = 1) (hstop : s.rails[r].stop = .none) :
    s.softStop r c = ((s.stopCommon r c).putRailObj r 0x10 7 0).modRail r fun a =>
      { a with stop := if a.running then .soft else .none, softStart := false } := by
  have hgate : (s.stoppable r && s.rails[r].stop == .none) = true := by
    rw [stoppable_of_on hon, hstop]
    rfl
  exact if_pos hgate

theorem softStop_stops {s : State} {r : RailId} (c : Nat) (hc : Safety.canonical s = true) (hon : s.railObj r 0 3 = 1)
    (hstop : s.rails[r].stop = .none) :
    (s.softStop r c).rails[r].starting = false ∧
      (s.softStop r c).rails[r].stop = (if s.rails[r].running = true then .soft else .none) ∧
      Holds (s.softStop r c) (railIx r 0x10) 7 0 ∧ Holds (s.softStop r c) (railIx r 0x40) 6 c := by
  have hcause := stopCommon_cause r c hc
  have hrail : ((s.stopCommon r c).putRailObj r 0x10 7 0).rails[r] = _ := stopCommon_rail s r c
  rw [softStop_on c hon hstop, rails_modRail, hrail]
  exact ⟨rfl, rfl, Holds.of_put hcause.1 _ _ _, hcause.rail_put 0 (by decide)⟩

/-- What a rail has from its hard stop on: no start waits, and it stops hard or no longer runs. -/
def Rail.stopped (a : Rail) : Prop := a.starting = false ∧ (a.stop = .hard ∨ a.running = false)

/-- One change of several phases that turns no output on. -/
theorem modPhases_keeps (s : State) (l : List PhaseId) (f : Phase → Phase)
    (h : ∀ a, (a.outH && a.outL) = false → ((f a).outH && (f a).outL) = false) :
    Keeps 0x20000 s (l.foldl (fun (s : State) p => s.modPhase p f) s) :=
  Keeps.foldl _ _ (Keeps.refl _ s) fun t p => State.modPhase_keeps p f (maskLe_refl _) (Keeps.refl _ t) h

/-- What the end of a stop writes once its phases rest: the slots, and the function that waited for it (R282, R490). -/
theorem endStop_rest_keeps (s : State) (r : RailId) :
    Keeps 0x408000010000000000 s (if ((s.idleSlots r).funcState r.val == 1) = true then (s.idleSlots r).putFunc r.val 2
      else s.idleSlots r) := by
  have hslots : Keeps 0x408000010000000000 s (s.idleSlots r) := State.idleSlots_keeps r (by decide) (Keeps.refl _ s)
  exact Keeps.ite (State.putFunc_keeps _ _ (by decide) hslots) hslots

theorem endStop_stopped {s : State} {r : RailId} {v : Int} (h : s.rails[r].starting = false)
    (hcause : Holds s (railIx r 0x40) 6 v) :
    (s.endStop r).rails[r].stopped ∧ Holds (s.endStop r) (railIx r 0x40) 6 v := by
  have hphases (x : State) := modPhases_keeps x (x.railPhases r)
    (fun a => { a with active := false, stopDue := false, shedLeft := 0, shedding := false, demand := 0 }) fun _ h => h
  unfold State.endStop
  dsimp only
  rw [rails_of_keeps (endStop_rest_keeps _ r) r rfl, rails_putRailObj, rails_putRailObj,
    rails_of_keeps (hphases _) r rfl, rails_modRail]
  refine ⟨⟨h, .inr rfl⟩, Holds.keeps ?_ (endStop_rest_keeps _ r) (siteIn_rail_eq _ r (by decide))⟩
  refine Holds.rail_put (Holds.rail_put (Holds.keeps ?_ (hphases _) (siteIn_rail_eq _ r (by decide))) 0 (by decide)) 0
    (by decide)
  exact hcause

theorem settleStop_stopped {s : State} {r : RailId} {v : Int} (h : s.rails[r].stopped)
    (hcause : Holds s (railIx r 0x40) 6 v) :
    (s.settleStop r).rails[r].stopped ∧ Holds (s.settleStop r) (railIx r 0x40) 6 v := by
  unfold State.settleStop
  split
  · exact endStop_stopped h.1 hcause
  · exact ⟨h, hcause⟩

theorem hardStop_stops {s : State} {r : RailId} (c : Nat) (hc : Safety.canonical s = true)
    (hon : s.railObj r 0 3 = 1) :
    (s.hardStop r c).rails[r].stopped ∧ Holds (s.hardStop r c) (railIx r 0x40) 6 c := by
  have hphases (x : State) := modPhases_keeps x (x.railPhases r)
    (fun a => { a with stopDue := a.switching, active := a.active && a.switching }) fun _ h => h
  unfold State.hardStop
  rw [if_pos (stoppable_of_on hon)]
  refine settleStop_stopped ?_ (Holds.keeps ?_ (hphases _) (siteIn_rail_eq _ r (by decide)))
  · rw [rails_of_keeps (hphases _) r rfl, rails_modRail, stopCommon_rail]
    refine ⟨rfl, ?_⟩
    cases hrun : s.rails[r].running with
    | true => exact .inl rfl
    | false => exact .inr rfl
  · exact stopCommon_cause r c hc

/-! ### The envelope (R295) -/

section
variable {s : State} {ix sub : Nat}

/-- The fast path works on with the value it had (R17). -/
theorem fast_putFast (v : Int) : (s.putFast ix sub v).fast ix sub = s.fast ix sub := by
  unfold State.putFast
  cases h : cellGet s.stale (objKey ix sub) with
  | some w => simp [State.fast, State.putObj, h]
  | none => simp [State.fast, State.putObj, cellGet_put, h]

theorem fast_putFast_ne {ix' sub' : Nat} (v : Int) (hc : Safety.canonical s = true)
    (n : objKey ix' sub' ≠ objKey ix sub) : (s.putFast ix sub v).fast ix' sub' = s.fast ix' sub' := by
  have hobj : (s.putObj ix sub v).obj ix' sub' = s.obj ix' sub' := obj_putObj_ne v hc n
  unfold State.putFast
  dsimp only
  split
  · exact fast_putObj_ne v hc n
  · have hput (l : List (Nat × Int)) : ((s.setStale l).putObj ix sub v).obj ix' sub' = s.obj ix' sub' := hobj
    have hstale : cellGet ((s.setStale (cellPut s.stale (objKey ix sub) (s.obj ix sub))).putObj ix sub v).stale
        (objKey ix' sub') = cellGet s.stale (objKey ix' sub') := cellGet_put_ne _ _ _ _ n
    unfold State.fast
    rw [hstale, hput]

end

/-- An envelope value that waits leaves the boundaries of its rail (R314). -/
theorem hasBoundary_putFast_envelope {s : State} (r : RailId) {sub : Nat} (v : Int) (hc : Safety.canonical s = true) :
    (s.putFast (railIx r 0x02) sub v).hasBoundary r = s.hasBoundary r := by
  have k : Keeps 0x2000000000000004 s (s.putFast (railIx r 0x02) sub v) :=
    State.putFast_keeps _ _ _ (siteIn_rail r 2 (by decide) (by decide)) (by decide) (Keeps.refl _ s)
  have htype : (s.putFast (railIx r 0x02) sub v).obj (railIx r 0) 1 = s.obj (railIx r 0) 1 :=
    k.obj hc 1 (siteIn_rail_eq _ r (by decide))
  have hmask (q : RailId) : (s.putFast (railIx r 0x02) sub v).obj (railIx q 1) 1 = s.obj (railIx q 1) 1 :=
    k.obj hc 1 (siteIn_rail_eq _ q (by decide))
  have hrun : (s.putFast (railIx r 0x02) sub v).obj 0x3800 1 = s.obj 0x3800 1 := k.obj hc 1 rfl
  have hsense : (s.putFast (railIx r 0x02) sub v).fast (railIx r 0x50) 4 = s.fast (railIx r 0x50) 4 :=
    fast_putFast_ne v hc (by unfold objKey railIx; omega)
  unfold State.hasBoundary State.triggerPhase State.railType State.railPhases State.driveConfigured State.phaseMask
    State.fastNat State.nat
  rw [htype, hmask, hmask, hrun, hsense]

theorem writeEnvelope_waits {s : State} {r : RailId} (sub : Nat) (v : Int) (rank : Nat) (hc : Safety.canonical s = true)
    (hboundary : s.hasBoundary r = true) :
    (s.writeEnvelope r sub v rank).railObj r 0x02 sub = v ∧
      (sub, rank) ∈ (s.writeEnvelope r sub v rank).rails[r].envPending ∧
      (s.writeEnvelope r sub v rank).fast (railIx r 0x02) sub = s.fast (railIx r 0x02) sub := by
  unfold State.writeEnvelope
  dsimp only
  rw [if_pos ((hasBoundary_putFast_envelope r v hc).trans hboundary), rails_modRail]
  exact ⟨obj_putFast _ _ _ hc, List.mem_append_right _ (List.mem_singleton_self _), fast_putFast v⟩

/-! ### Direction (R354) -/

section
variable {s : State} (v : Int) (hc : Safety.canonical s = true)
include hc

theorem isOn_putDirection : (s.putObj 0x3400 0x0B v).isOn railD = s.isOn railD :=
  congrArg (fun w : Int => w == 1) (obj_putObj_ne v hc (by decide))

theorem writeDirection_off (hoff : s.isOn railD = false) : s.writeDirection v = s.putObj 0x3400 0x0B v := by
  unfold State.writeDirection
  dsimp only
  rw [isOn_putDirection v hc, hoff]
  rfl

/-- A new direction of a rail that runs begins a reversal: the applied target is 0. -/
theorem writeDirection_reverses (hon : s.isOn railD = true) (hstop : s.rails[railD].stop = .none)
    (hhiccup : s.rails[railD].hiccup = false) (hv : v ≠ s.obj 0x4110 0x0B) :
    (s.writeDirection v).obj 0x3400 0x0B = v ∧ (s.writeDirection v).drive.reversing = true ∧
      (s.writeDirection v).railObj railD 0x10 7 = 0 := by
  have hgate : (!((s.putObj 0x3400 0x0B v).isOn railD && s.rails[railD].stop == .none && !s.rails[railD].hiccup)) =
      false := by
    rw [isOn_putDirection v hc, hon, hstop, hhiccup]
    rfl
  have happlied : (s.putObj 0x3400 0x0B v).obj 0x4110 0x0B = s.obj 0x4110 0x0B := obj_putObj_ne v hc (by decide)
  have hnew : v ≠ (s.putObj 0x3400 0x0B v).obj 0x4110 0x0B := fun e => hv (e.trans happlied)
  have hput : Holds (s.putObj 0x3400 0x0B v) 0x3400 0x0B v := Holds.of_put hc _ _ _
  have hwrite : s.writeDirection v =
      ((s.putObj 0x3400 0x0B v).setDrive { s.drive with reversing := true }).putRailObj railD 0x10 7 0 :=
    (if_neg (ne_true_of_eq_false hgate)).trans (if_pos hnew)
  rw [hwrite]
  exact ⟨(obj_putObj_ne _ hput.1 (by decide)).trans hput.2, rfl, obj_putObj _ _ _ hput.1⟩

end

/-! ### The commands -/

theorem type_railEnable (r : RailId) : (findRow (railIx r 0) 3).map ObjRow.ty = some .u8 := by
  revert r
  decide +kernel

theorem type_railTarget (r : RailId) : (findRow (railIx r 0x10) 1).map ObjRow.ty = some .i32 := by
  revert r
  decide +kernel

theorem isAction_railEnable (r : RailId) : isAction (railIx r 0) 3 = false := by
  revert r
  decide

theorem isAction_railTarget (r : RailId) : isAction (railIx r 0x10) 1 = false := by
  revert r
  decide

theorem isAction_railEnvelope (r : RailId) (sub : Fin 12) : isAction (railIx r 0x02) (1 + sub.val) = false := by
  revert r sub
  decide

theorem value_i32 (v : BitVec 32) : ObjType.i32.value (leBytes 4 v.toNat) = v.toInt := by
  have hv : leNat (leBytes 4 v.toNat) = v.toNat := by
    rw [leNat_leBytes]
    exact Nat.mod_eq_of_lt v.isLt
  have hlength : (leBytes 4 v.toNat).length = 4 := rfl
  have hword : (256 : Nat) ^ 4 = 2 ^ 32 := rfl
  show leSigned (leBytes 4 v.toNat) = v.toInt
  unfold leSigned BitVec.toInt
  dsimp only
  rw [hv, hlength, hword]

/-- An admitted write of the enable object takes effect and is answered. -/
theorem hostWrite_enable {s : State} {ch : Channel} {r : RailId} {mode : Byte}
    (ha : Safety.admits s ch (railIx r 0) 3 [mode]) :
    ∃ c : Clients, s.hostWrite ch (railIx r 0) 3 [mode] = (s.writeEnable r mode.toNat).setClients c ∧
      c.answer = some ⟨ch, railIx r 0, 3, none⟩ := by
  obtain ⟨c, e, hans⟩ := hostWrite_admitted ha (type_railEnable r) (isAction_railEnable r)
    (by unfold railIx; omega)
  rw [apply_rail_enable_on, value_u8] at e
  exact ⟨c, e, hans⟩

/-- An admitted profile command takes effect and is answered, and its tag stands in 3r10:09. -/
theorem hostAction_profile {s : State} {ch : Channel} {r : RailId} {tag arg : Nat}
    (ha : Safety.actionAdmits s ch (railIx r 0x10) 9 tag arg) :
    ∃ b c : Clients, s.hostAction ch (railIx r 0x10) 9 tag arg =
        (((s.setClients b).profileCommand r arg).putRailObj r 0x10 9 tag).setClients c ∧
      c.answer = some ⟨ch, railIx r 0x10, 9, none⟩ := by
  have haction (r : RailId) : isAction (railIx r 0x10) 9 = true := by
    revert r
    decide
  have hplain (r : RailId) : answersLate (railIx r 0x10) 9 = false ∧ endsClient (railIx r 0x10) 9 = false := by
    revert r
    decide
  obtain ⟨b, c, e, hans⟩ := hostAction_admitted ha (haction r) (hplain r).1 (hplain r).2
  rw [do_profile_start] at e
  exact ⟨b, c, e, hans⟩

theorem railEnableOn_starts {ch : Channel} {r : RailId} {s : State} (hc : Safety.canonical s = true)
    (ha : Safety.admits s ch (railIx r 0) 3 [1]) (hoff : s.railObj r 0 3 ≠ 1) :
    Safety.completes (.railEnableOn ch r) s fun t =>
      Safety.done t ch (railIx r 0) 3 ∧ t.isOn r = true ∧ t.rails[r].starting = true ∧ t.rails[r].stop = .none := by
  obtain ⟨c, e, hans⟩ := hostWrite_enable ha
  have hwrite : s.writeEnable r 1 = s.enable r := (if_neg hoff.symm).trans (if_pos rfl)
  exact ⟨_, congrArg Host.Outcome.next (e.trans (congrArg (State.setClients · c) hwrite)), hans, enable_starts r hc⟩

theorem railSoftOff_stops {ch : Channel} {r : RailId} {s : State} (hc : Safety.canonical s = true)
    (ha : Safety.admits s ch (railIx r 0) 3 [0]) (hon : s.railObj r 0 3 = 1) (hstop : s.rails[r].stop = .none) :
    Safety.completes (.railSoftOff ch r) s fun t =>
      Safety.done t ch (railIx r 0) 3 ∧ t.railObj r 0 3 = 0 ∧ t.rails[r].starting = false ∧
        t.rails[r].stop = (if s.rails[r].running = true then .soft else .none) ∧ t.railObj r 0x10 7 = 0 ∧
        t.railObj r 0x40 6 = 1 := by
  obtain ⟨c, e, hans⟩ := hostWrite_enable ha
  have hwrite : s.writeEnable r 0 = (s.softStop r 1).putRailObj r 0x00 3 0 := by
    unfold State.writeEnable
    rw [hon]
    rfl
  obtain ⟨hstarting, hsoft, htarget, hcause⟩ := softStop_stops 1 hc hon hstop
  exact ⟨_, congrArg Host.Outcome.next (e.trans (congrArg (State.setClients · c) hwrite)), hans,
    obj_putObj _ _ _ htarget.1, hstarting, hsoft, (htarget.rail_put 0 (by decide)).2, (hcause.rail_put 0 (by decide)).2⟩

theorem railHardOff_stops {ch : Channel} {r : RailId} {s : State} (hc : Safety.canonical s = true)
    (ha : Safety.admits s ch (railIx r 0) 3 [2]) (hon : s.railObj r 0 3 = 1) :
    Safety.completes (.railHardOff ch r) s fun t =>
      Safety.done t ch (railIx r 0) 3 ∧ t.railObj r 0 3 = 2 ∧ t.rails[r].starting = false ∧
        (t.rails[r].stop = .hard ∨ t.rails[r].running = false) ∧ t.railObj r 0x40 6 = 2 := by
  obtain ⟨c, e, hans⟩ := hostWrite_enable ha
  have hwrite : s.writeEnable r 2 = (s.hardStop r 2).putRailObj r 0x00 3 2 := by
    unfold State.writeEnable
    rw [hon]
    rfl
  obtain ⟨⟨hstarting, hhard⟩, hcause⟩ := hardStop_stops 2 hc hon
  exact ⟨_, congrArg Host.Outcome.next (e.trans (congrArg (State.setClients · c) hwrite)), hans,
    obj_putObj _ _ _ hcause.1, hstarting, hhard, (hcause.rail_put 2 (by decide)).2⟩

theorem targetWrite_takes {ch : Channel} {r : RailId} {target : BitVec 32} {s : State} (hc : Safety.canonical s = true)
    (ha : Safety.admits s ch (railIx r 0x10) 1 (leBytes 4 target.toNat)) (hlow : s.responseOf (rlTargetClamp r.val) < 4) :
    Safety.completes (.targetWrite ch r target) s fun t =>
      Safety.done t ch (railIx r 0x10) 1 ∧ t.railObj r 0x10 1 = target.toInt ∧ t.rails[r].source = target.toInt ∧
        t.rails[r].profile = false := by
  obtain ⟨c, e, hans⟩ := hostWrite_admitted ha (type_railTarget r) (isAction_railTarget r) (by unfold railIx; omega)
  rw [apply_target_write, value_i32] at e
  obtain ⟨htarget, hsource, hprofile⟩ := acceptTarget_takes target.toInt hc hlow
  exact ⟨_, congrArg Host.Outcome.next e, hans, htarget.2, hsource, hprofile⟩

theorem envelopeWrite_waits {ch : Channel} {r : RailId} {sub : Fin 12} {value : BitVec 32} {row : ObjRow} {s : State}
    (hc : Safety.canonical s = true) (hrow : findRow (railIx r 0x02) (1 + sub.val) = some row)
    (ha : Safety.admits s ch (railIx r 0x02) (1 + sub.val) (row.ty.bytes value.toNat)) (hboundary : s.hasBoundary r = true) :
    Safety.completes (.envelopeWrite ch r sub value) s fun t =>
      Safety.done t ch (railIx r 0x02) (1 + sub.val) ∧
        t.railObj r 0x02 (1 + sub.val) = row.ty.value (row.ty.bytes value.toNat) ∧
        (1 + sub.val, (s.channelLevel ch).rank) ∈ t.rails[r].envPending ∧
        t.fast (railIx r 0x02) (1 + sub.val) = s.fast (railIx r 0x02) (1 + sub.val) := by
  have hbytes : typedBytes (railIx r 0x02) (1 + sub.val) value.toNat = row.ty.bytes value.toNat := by
    unfold typedBytes
    rw [hrow]
  obtain ⟨c, e, hans⟩ := hostWrite_admitted ha (by rw [hrow]; rfl) (isAction_railEnvelope r sub)
    (by unfold railIx; omega)
  rw [apply_envelope_write, ← hbytes] at e
  refine ⟨_, congrArg Host.Outcome.next e, hans, ?_⟩
  rw [hbytes]
  exact writeEnvelope_waits _ _ _ hc hboundary

/-- An admitted write of the direction takes effect and is answered. -/
theorem hostWrite_direction {s : State} {ch : Channel} {v : Byte} (ha : Safety.admits s ch 0x3400 0x0B [v]) :
    ∃ c : Clients, s.hostWrite ch 0x3400 0x0B [v] = (s.writeDirection v.toNat).setClients c ∧
      c.answer = some ⟨ch, 0x3400, 0x0B, none⟩ := by
  obtain ⟨c, e, hans⟩ := hostWrite_admitted (ty := .u8) ha rfl rfl (by decide)
  rw [apply_direction_write, value_u8] at e
  exact ⟨c, e, hans⟩

theorem directionWrite_stores {ch : Channel} {v : Byte} {s : State} (hc : Safety.canonical s = true)
    (ha : Safety.admits s ch 0x3400 0x0B [v]) (hoff : s.isOn railD = false) :
    Safety.completes (.directionWrite ch v) s fun t =>
      Safety.done t ch 0x3400 0x0B ∧ t.obj 0x3400 0x0B = v.toNat ∧ t.obj 0x4110 0x0B = s.obj 0x4110 0x0B := by
  obtain ⟨c, e, hans⟩ := hostWrite_direction ha
  rw [writeDirection_off _ hc hoff] at e
  exact ⟨_, congrArg Host.Outcome.next e, hans, obj_putObj _ _ _ hc, obj_putObj_ne _ hc (by decide)⟩

theorem directionWrite_reverses {ch : Channel} {v : Byte} {s : State} (hc : Safety.canonical s = true)
    (ha : Safety.admits s ch 0x3400 0x0B [v]) (hon : s.isOn railD = true) (hstop : s.rails[railD].stop = .none)
    (hhiccup : s.rails[railD].hiccup = false) (hv : (v.toNat : Int) ≠ s.obj 0x4110 0x0B) :
    Safety.completes (.directionWrite ch v) s fun t =>
      Safety.done t ch 0x3400 0x0B ∧ t.obj 0x3400 0x0B = v.toNat ∧ t.drive.reversing = true ∧
        t.railObj railD 0x10 7 = 0 := by
  obtain ⟨c, e, hans⟩ := hostWrite_direction ha
  obtain ⟨hdirection, hreversing, htarget⟩ := writeDirection_reverses v.toNat hc hon hstop hhiccup hv
  exact ⟨_, congrArg Host.Outcome.next e, hans, hdirection, hreversing, htarget⟩

theorem profileStart_takes {ch : Channel} {r : RailId} {tag : BitVec 16} {v : Int} {s : State}
    (hc : Safety.canonical s = true) (ha : Safety.actionAdmits s ch (railIx r 0x10) 9 tag.toNat 1)
    (hstep : s.profileTarget r 1 = some v) (hlow : s.responseOf (rlTargetClamp r.val) < 4) :
    Safety.completes (.profileStart ch r tag) s fun t =>
      Safety.done t ch (railIx r 0x10) 9 ∧ t.railObj r 0x10 0x12 = 1 ∧ t.railObj r 0x10 1 = v ∧
        t.rails[r].source = v ∧ t.rails[r].profile = true := by
  obtain ⟨b, c, e, hans⟩ := hostAction_profile ha
  obtain ⟨hplace, htarget, hsource, hprofile⟩ := profileStep_takes (s := s.setClients b) hc hlow hstep
  exact ⟨_, congrArg Host.Outcome.next e, hans, (hplace.rail_put _ (by decide)).2, (htarget.rail_put _ (by decide)).2,
    hsource, hprofile⟩

theorem profileAbort_done {ch : Channel} {r : RailId} {tag : BitVec 16} {s : State} (hc : Safety.canonical s = true)
    (ha : Safety.actionAdmits s ch (railIx r 0x10) 9 tag.toNat 2) (hprofile : s.rails[r].profile = true) :
    Safety.completes (.profileAbort ch r tag) s fun t =>
      Safety.done t ch (railIx r 0x10) 9 ∧ t.railObj r 0x10 0x12 = 0 ∧ t.rails[r].profile = false ∧
        t.rails[r].holding = true := by
  obtain ⟨b, c, e, hans⟩ := hostAction_profile ha
  obtain ⟨hplace, hended, hholding⟩ := profileAbort_holds (s := s.setClients b) hc hprofile
  exact ⟨_, congrArg Host.Outcome.next e, hans, (hplace.rail_put _ (by decide)).2, hended, hholding⟩

/-! ### A VoutTransRate write under a scale of 0 (R291) -/

/-- A rate of 0 leaves its object unchanged, and every rate is 0 under a scale of 0. -/
theorem avsRates_scale_zero (s : State) (r : VRailId) (code : Nat) : s.avsRates r 0 code = s := by
  unfold State.avsRates
  rw [Int.mul_zero, Int.mul_zero]
  rfl

theorem avsFrame_taken {s : State} (f : State → State) (hon : s.avsOn = true) :
    s.avsFrame true f = f (s.bump 0x2500 0x12) := by
  unfold State.avsFrame
  rw [hon]
  rfl

theorem avsWrite_taken {s : State} {sel : Nat} {r : VRailId} (f : VRailId → State → State)
    (hrail : s.avsRail sel = some r) (hsource : s.avsSource r = true) :
    s.avsWrite sel f = (f r s).avsReply ackTaken := by
  unfold State.avsWrite
  rw [hrail]
  exact if_pos hsource

/-- Under a scale of 0 a VoutTransRate write is acknowledged as taken, and only the frame is counted. -/
theorem avsVoutTransRateWrite_scale_zero {s : State} {sel : BitVec 4} {code : BitVec 16} {r : VRailId}
    (hon : s.avsOn = true) (hrail : (s.bump 0x2500 0x12).avsRail sel.toNat = some r)
    (hsource : (s.bump 0x2500 0x12).avsSource r = true) (hscale : (s.bump 0x2500 0x12).avsScale sel.toNat = 0) :
    exec (.avsVoutTransRateWrite sel true (some code)) s = .next ((s.bump 0x2500 0x12).avsReply ackTaken) := by
  have htaken := avsWrite_taken (fun r s => s.avsRates r (s.avsScale sel.toNat) code.toNat) hrail hsource
  rw [hscale, avsRates_scale_zero] at htaken
  exact congrArg Host.Outcome.next ((avsFrame_taken _ hon).trans htaken)

/-- A device at full service whose select 0 is mapped to rail 0, its source AVSBUS, with the scale 2500:06 at 0. -/
def avsScaleZero : State :=
  ((((({ State.reset with life := { st := .run } }).putObj 0x2120 1 2).putObj 0x2500 1 1).putObj 0x2500 2 0).putObj
    0x2500 6 0).putObj 0x3010 2 2

end Sys2Proof.Machine

namespace Sys2Proof

open Machine

/-- Settles O50: a step is the rate added or taken off, cut at the target. -/
theorem rampsNeverOvershoot : Obligations.RampsNeverOvershoot := by
  unfold Obligations.RampsNeverOvershoot
  intro vr goal up down hup hdown
  refine ⟨fun h => ?_, fun h => ?_⟩
  · rw [rampStep_up hup h]
    omega
  · rw [rampStep_down hdown h]
    omega

/-- Settles O21: each clause is the law of its command above. -/
theorem railRowsAct : Obligations.RailRowsAct := by
  unfold Obligations.RailRowsAct
  refine ⟨?on, ?softOff, ?hardOff, ?target, ?envelope, ?directionOff, ?directionOn, ?profileStart, ?profileAbort⟩
  case on => exact fun ch r s hc ha hoff => railEnableOn_starts hc ha hoff
  case softOff => exact fun ch r s hc ha hon hstop => railSoftOff_stops hc ha hon hstop
  case hardOff => exact fun ch r s hc ha hon => railHardOff_stops hc ha hon
  case target => exact fun ch r target s hc ha hlow => targetWrite_takes hc ha hlow
  case envelope => exact fun ch r sub value row s hc hrow ha hboundary => envelopeWrite_waits hc hrow ha hboundary
  case directionOff => exact fun ch v s hc ha hoff => directionWrite_stores hc ha hoff
  case directionOn => exact fun ch v s hc ha hon hstop hhiccup hv => directionWrite_reverses hc ha hon hstop hhiccup hv
  case profileStart => exact fun ch r tag v s hc ha hstep hlow => profileStart_takes hc ha hstep hlow
  case profileAbort => exact fun ch r tag s hc ha hprofile => profileAbort_done hc ha hprofile

/-- Refutes O22 by its clause of AVS_VOUT_TRANS_RATE_WRITE, which lacks the premise that s_v is not 0: in `avsScaleZero`
both rates of the frame are 0 mV/µs, R291 leaves a rate of 0 unchanged, and 3r10:04 keeps its 1000 mV/ms where the clause
has 0. The range of 2500:06 is 1 to 100, so a write does not bring the device there. -/
theorem not_avsCommandsAct : ¬ Obligations.AvsCommandsAct := by
  unfold Obligations.AvsCommandsAct
  rintro ⟨-, -, -, -, -, hrates, -⟩
  have hc : Safety.canonical avsScaleZero = true := by decide +kernel
  have hon : avsScaleZero.avsOn = true := by decide +kernel
  have hscale : avsScaleZero.avsScale 0 = 0 := by decide +kernel
  have hkept : (avsScaleZero.bump 0x2500 0x12).railObj (vrail 0) 0x10 4 = 1000 := by decide +kernel
  obtain ⟨t, hexec, -, hup, -⟩ := hrates 0 0x0101 0 avsScaleZero hc hon (by decide +kernel) (by decide +kernel)
    (by decide) (by decide)
  have hnext := avsVoutTransRateWrite_scale_zero (sel := 0) (code := 0x0101) (r := 0) hon (by decide +kernel)
    (by decide +kernel) (by decide +kernel)
  obtain rfl : (avsScaleZero.bump 0x2500 0x12).avsReply ackTaken = t :=
    Host.Outcome.next.inj (hnext.symm.trans hexec)
  have hzero : (avsScaleZero.bump 0x2500 0x12).railObj (vrail 0) 0x10 4 = 0 := by
    refine Eq.trans hup ?_
    show _ * avsScaleZero.avsScale 0 = 0
    rw [hscale, Int.mul_zero]
  omega

end Sys2Proof
end

section
/-! The loop engine's numbers (O52) and its lowest-wins selection (O53). The selection writes the WINNER bits and
3r20:02 only, so the demand it gives is the output that its winner had before. -/

namespace Sys2Proof.Machine

/-! ### Rounding to nearest, ties away from zero (R320) -/

theorem roundDiv_of_nonneg {n d : Int} (hd : 0 < d) (hn : 0 ≤ n) : roundDiv n d = (2 * n + d) / (2 * d) := by
  have hne : d ≠ 0 := by omega
  have hpos : ¬ d < 0 := by omega
  unfold roundDiv
  simp only [if_neg hne, if_neg hpos, if_pos hn]

theorem roundDiv_of_neg {n d : Int} (hd : 0 < d) (hn : n < 0) : roundDiv n d = -roundDiv (-n) d := by
  rw [roundDiv_of_nonneg (n := -n) hd (by omega)]
  have hne : d ≠ 0 := by omega
  have hpos : ¬ d < 0 := by omega
  have hneg : ¬ 0 ≤ n := by omega
  unfold roundDiv
  simp only [if_neg hne, if_neg hpos, if_neg hneg]

theorem roundDiv_nearest_of_nonneg {n d : Int} (hd : 0 < d) (hn : 0 ≤ n) :
    (2 * (n - d * roundDiv n d)).natAbs ≤ d.natAbs ∧
      ((2 * (n - d * roundDiv n d)).natAbs = d.natAbs → n.natAbs < (d * roundDiv n d).natAbs) := by
  have hdiv := Int.mul_ediv_add_emod (2 * n + d) (2 * d)
  have hlo := Int.emod_nonneg (2 * n + d) (show 2 * d ≠ 0 by omega)
  have hhi := Int.emod_lt_of_pos (2 * n + d) (show 0 < 2 * d by omega)
  rw [← roundDiv_of_nonneg hd hn, Int.mul_assoc] at hdiv
  omega

theorem roundDiv_nearest (n : Int) {d : Int} (hd : 0 < d) :
    (2 * (n - d * roundDiv n d)).natAbs ≤ d.natAbs ∧
      ((2 * (n - d * roundDiv n d)).natAbs = d.natAbs → n.natAbs < (d * roundDiv n d).natAbs) := by
  rcases Int.lt_or_le n 0 with hn | hn
  · have hpos := roundDiv_nearest_of_nonneg (n := -n) hd (by omega)
    rw [roundDiv_of_neg hd hn, Int.mul_neg]
    omega
  · exact roundDiv_nearest_of_nonneg hd hn

/-! ### The exponent of a stage (R320) -/

theorem fitsAt_iff (xs : List Rat) (e : Int) :
    fitsAt xs e = true ↔ ∀ x ∈ xs, (roundRat (x / pow2 e)).natAbs < 2 ^ 23 := by
  simp [fitsAt]

theorem fitsAt_false_iff (xs : List Rat) (e : Int) :
    fitsAt xs e = false ↔ ∃ x ∈ xs, 2 ^ 23 ≤ (roundRat (x / pow2 e)).natAbs := by
  simp [fitsAt]

theorem sharedExp_smallest {xs : List Rat} {e : Int} (h : sharedExp xs = some e) :
    -32 ≤ e ∧ e ≤ 31 ∧ fitsAt xs e = true ∧ ∀ d : Int, -32 ≤ d → d < e → fitsAt xs d = false := by
  unfold sharedExp at h
  rw [List.find?_map, Option.map_eq_some_iff] at h
  obtain ⟨n, hn, rfl⟩ := h
  obtain ⟨hfits, hmem, hless⟩ := List.find?_range_eq_some.1 hn
  have hn64 := List.mem_range.1 hmem
  refine ⟨by omega, by omega, hfits, fun d hd hlt => ?_⟩
  have hd32 : (((d + 32).toNat : Nat) : Int) - 32 = d := by omega
  have hbelow : (!fitsAt xs ((((d + 32).toNat : Nat) : Int) - 32)) = true := hless (d + 32).toNat (by omega)
  rwa [hd32, Bool.not_eq_true'] at hbelow

theorem sharedExp_none {xs : List Rat} (h : sharedExp xs = none) : fitsAt xs 31 = false :=
  Bool.eq_false_iff.2 (List.find?_eq_none.1 h 31 (List.mem_map.2 ⟨63, List.mem_range.2 (by decide), rfl⟩))

theorem blockFloat_shared {xs : List Rat} (h : (blockFloat xs).2 = false) : ∃ e : Int, sharedExp xs = some e ∧
    (blockFloat xs).1 = xs.map fun x => (roundRat (x / pow2 e) : Rat) * pow2 e := by
  unfold blockFloat at h ⊢
  split at h
  · next e he => exact ⟨e, he, rfl⟩
  · cases h

theorem blockFloat_saturated {xs : List Rat} (h : (blockFloat xs).2 = true) : sharedExp xs = none ∧
    (blockFloat xs).1 =
      xs.map fun x => ((clampInt (roundRat (x / pow2 31)) (-0x7FFFFF) 0x7FFFFF : Int) : Rat) * pow2 31 := by
  unfold blockFloat at h ⊢
  split at h
  · cases h
  · next he => exact ⟨he, rfl⟩

theorem natAbs_clampInt_mantissa (v : Int) : (clampInt v (-0x7FFFFF) 0x7FFFFF).natAbs < 2 ^ 23 := by
  unfold clampInt
  omega

/-! ### The lowest output of a list of slots (R327) -/

theorem lowest_eq_none_iff {s : State} {l : List SlotId} : s.lowest l = none ↔ l = [] := by
  cases l with
  | nil => simp [State.lowest]
  | cons k l =>
    unfold State.lowest
    split
    · simp
    · split <;> simp

/-- Along ascending slots the lowest output is found, at the first slot that has it. -/
theorem lowest_least {s : State} {l : List SlotId} {k : SlotId} (hl : l.Pairwise (· < ·)) (h : s.lowest l = some k) :
    k ∈ l ∧ ∀ j ∈ l, s.obj (slotIx k) 0x10 ≤ s.obj (slotIx j) 0x10 ∧
      (s.obj (slotIx j) 0x10 = s.obj (slotIx k) 0x10 → k ≤ j) := by
  induction l generalizing k with
  | nil => cases h
  | cons a l ih =>
    obtain ⟨ha, hl⟩ := List.pairwise_cons.1 hl
    unfold State.lowest at h
    split at h
    · next hrest =>
      obtain rfl := lowest_eq_none_iff.1 hrest
      obtain rfl : a = k := Option.some.inj h
      simp
    · next b hrest =>
      obtain ⟨hmem, hleast⟩ := ih hl hrest
      split at h
      · next hlt =>
        obtain rfl : b = k := Option.some.inj h
        exact ⟨List.mem_cons_of_mem _ hmem, List.forall_mem_cons.2 ⟨⟨by omega, fun he => by omega⟩, hleast⟩⟩
      · next hge =>
        obtain rfl : a = k := Option.some.inj h
        refine ⟨List.mem_cons_self, List.forall_mem_cons.2 ⟨by simp, fun j hj => ?_⟩⟩
        obtain ⟨hle, -⟩ := hleast j hj
        exact ⟨by omega, fun _ => Fin.le_of_lt (ha j hj)⟩

theorem computedSlots_ascend (s : State) (r : RailId) : (s.computedSlots r).Pairwise (· < ·) :=
  ((List.pairwise_lt_finRange 16).filter _).filter _

/-! ### The selection (R327) -/

/-- The WINNER bit of each of the slots: set for the winner, clear for the others. -/
def State.markWinner (s : State) (l : List SlotId) (k : SlotId) : State :=
  l.foldl (fun (s : State) j => s.putBit (slotIx j) 0x0F 1 (j == k)) s

theorem select_none {s : State} {r : RailId} (h : s.computedSlots r = []) :
    s.select r = (s.putRailObj r 0x20 2 0xFF, 0) := by
  unfold State.select
  rw [h]
  rfl

theorem select_some {s : State} {r : RailId} {k : SlotId} (h : s.lowest (s.computedSlots r) = some k) :
    ∃ changed : Bool, s.select r =
      ((((s.markWinner (s.computedSlots r) k).putRailObj r 0x20 2 k.val).chatter r changed),
        ((s.markWinner (s.computedSlots r) k).putRailObj r 0x20 2 k.val).obj (slotIx k) 0x10) := by
  unfold State.select
  rw [h]
  exact ⟨_, rfl⟩

theorem objKey_slotIx_ne {j k : SlotId} {sub sub' : Nat} (hsub : sub < 256) (hsub' : sub' < 256)
    (n : j ≠ k ∨ sub ≠ sub') : objKey (slotIx j) sub ≠ objKey (slotIx k) sub' := by
  have hval : j.val ≠ k.val ∨ sub ≠ sub' := n.imp_left Fin.val_ne_of_ne
  unfold objKey slotIx
  omega

theorem objKey_slotIx_railIx_ne (k : SlotId) (r : RailId) (sub sub' : Nat) {off : Nat} (hoff : off < 256) :
    objKey (slotIx k) sub ≠ objKey (railIx r off) sub' := by
  have := r.isLt
  unfold objKey slotIx railIx
  omega

theorem siteIn_slot_eq (W : Nat) (k : SlotId) {n : Nat} (h : n < 5) :
    siteIn W (0x3810 + 16 * n + k.val) = siteIn W (0x3810 + 16 * n) :=
  siteIn_congr W ((group_slotIx k n h).trans (group_slotIx 0 n h).symm)

/-- Marking the winner leaves the outputs. -/
theorem Holds.markWinner {s : State} {j : SlotId} {v : Int} (h : Holds s (slotIx j) 0x10 v) (l : List SlotId)
    (k : SlotId) : Holds (s.markWinner l k) (slotIx j) 0x10 v := by
  unfold State.markWinner
  induction l generalizing s with
  | nil => exact h
  | cons a l ih => exact ih (h.put _ (objKey_slotIx_ne (by decide) (by decide) (.inr (by decide))))

theorem bit_putBit_ne {s : State} {ix sub ix' sub' : Nat} (n m : Nat) (b : Bool) (h : Safety.canonical s = true)
    (hne : objKey ix' sub' ≠ objKey ix sub) : (s.putBit ix sub n b).bit ix' sub' m = s.bit ix' sub' m := by
  unfold State.bit State.nat State.putBit
  rw [obj_putObj_ne _ h hne]

theorem markWinner_marks {s : State} {l : List SlotId} {k : SlotId} (hc : Safety.canonical s = true)
    (h : k ∈ l ∨ s.bit (slotIx k) 0x0F 1 = true) : (s.markWinner l k).bit (slotIx k) 0x0F 1 = true := by
  unfold State.markWinner
  induction l generalizing s with
  | nil => exact h.resolve_left List.not_mem_nil
  | cons a l ih =>
    refine ih (canonical_putBit _ _ _ _ hc) ?_
    by_cases hak : a = k
    · subst hak
      exact .inr ((bit_putBit _ _ _ _ hc).trans (beq_self_eq_true a))
    · rw [bit_putBit_ne 1 1 _ hc (objKey_slotIx_ne (by decide) (by decide) (.inl (Ne.symm hak)))]
      exact h.imp_left fun hm => (List.mem_cons.1 hm).resolve_left (Ne.symm hak)

/-- The winner of a rail with computed slots: the first of those with the lowest output, named and marked. -/
theorem select_winner {s : State} {r : RailId} (hc : Safety.canonical s = true) (h : s.computedSlots r ≠ []) :
    ∃ k ∈ s.computedSlots r, (s.select r).2 = s.obj (slotIx k) 0x10 ∧ (s.select r).1.railObj r 0x20 2 = k.val ∧
      (s.select r).1.bit (slotIx k) 0x0F 1 = true ∧
      ∀ j ∈ s.computedSlots r, s.obj (slotIx k) 0x10 ≤ s.obj (slotIx j) 0x10 ∧
        (s.obj (slotIx j) 0x10 = s.obj (slotIx k) 0x10 → k ≤ j) := by
  obtain ⟨k, hk⟩ := Option.ne_none_iff_exists'.1 (mt lowest_eq_none_iff.1 h)
  obtain ⟨hmem, hleast⟩ := lowest_least (computedSlots_ascend s r) hk
  obtain ⟨changed, hselect⟩ := select_some hk
  obtain ⟨hmarked, hout⟩ := Holds.markWinner (j := k) ⟨hc, rfl⟩ (s.computedSlots r) k
  have hnamed : Holds ((s.markWinner (s.computedSlots r) k).putRailObj r 0x20 2 k.val) (railIx r 0x20) 2 k.val :=
    Holds.of_put hmarked _ _ _
  have hchatter := State.chatter_keeps r changed (maskLe_refl _)
    (Keeps.refl _ ((s.markWinner (s.computedSlots r) k).putRailObj r 0x20 2 k.val))
  have hne (sub : Nat) := objKey_slotIx_railIx_ne k r sub 2 (off := 0x20) (by decide)
  rw [hselect]
  refine ⟨k, hmem, ?_, ?_, ?_, hleast⟩
  · exact (obj_putObj_ne _ hmarked (hne _)).trans hout
  · exact (hnamed.keeps hchatter (siteIn_rail_eq _ r (by decide))).2
  · have hsite : siteIn 0x200000000000400000 (slotIx k) = false :=
      siteIn_slot_eq _ k (n := 0) (by decide)
    rw [hchatter.bit hnamed.1 _ _ hsite]
    unfold State.bit State.nat State.putRailObj
    rw [obj_putObj_ne _ hmarked (hne _)]
    exact markWinner_marks hc (.inl hmem)

end Sys2Proof.Machine

namespace Sys2Proof

open Machine

/-- Settles O52: the exponent is the first at which the stage fits, and a division rounds by Euclid's remainder. -/
theorem stagesShareTheSmallestExponent : Obligations.StagesShareTheSmallestExponent := by
  unfold Obligations.StagesShareTheSmallestExponent
  refine ⟨fun xs h => ?_, fun xs h => ?_, fun n d hd => roundDiv_nearest n hd⟩
  · obtain ⟨e, he, hvalues⟩ := blockFloat_shared h
    obtain ⟨hlo, hhi, hfits, hless⟩ := sharedExp_smallest he
    exact ⟨e, hlo, hhi, hvalues, (fitsAt_iff xs e).1 hfits,
      fun d hd hlt => (fitsAt_false_iff xs d).1 (hless d hd hlt)⟩
  · obtain ⟨hnone, hvalues⟩ := blockFloat_saturated h
    refine ⟨(fitsAt_false_iff xs 31).1 (sharedExp_none hnone), by rw [hvalues, List.length_map], fun y hy => ?_⟩
    rw [hvalues] at hy
    obtain ⟨x, -, rfl⟩ := List.mem_map.1 hy
    exact ⟨_, natAbs_clampInt_mantissa _, rfl⟩

/-- Settles O53: the winner is the first slot with the lowest output. -/
theorem lowestOutputWins : Obligations.LowestOutputWins := by
  unfold Obligations.LowestOutputWins
  refine ⟨fun r k s hc hk => ?_, fun r s hc hne => ?_, fun r s hc hnone => ?_⟩
  · obtain ⟨w, -, hdemand, -, -, hleast⟩ := select_winner hc (List.ne_nil_of_mem hk)
    exact Int.le_trans (Int.le_of_eq hdemand) (hleast k hk).1
  · obtain ⟨w, hmem, hdemand, hnamed, hmarked, hleast⟩ := select_winner hc hne
    exact ⟨w, hmem, hdemand, hnamed, hmarked, fun j hj => (hleast j hj).2⟩
  · rw [select_none hnone]
    exact obj_putObj _ _ _ hc

end Sys2Proof
end

section
/-! The loop engine's detectors, watchdog and tables (O23). A raising may stop rails or enter Outline mode; it
nevertheless leaves the slots, the chatter detectors, and the state of an engine that does not run. -/

namespace Sys2Proof.Machine

/-! ### The oscillation detector (R332, R333) -/

/-- A detection counted, its count of changes restarted; nothing is done about it yet. -/
def State.countDetection (s : State) (k : SlotId) : State :=
  ((s.modSlot k fun a => { a with detected := false }).putObj (0x3840 + k.val) 6 0).bump (0x3840 + k.val) 5

/-- A detection counted; with the action SAFE its slot is to go to the safe table. -/
def State.detectionDue (s : State) (k : SlotId) : State :=
  if s.fastNat (0x3840 + k.val) 4 = 2 then (s.countDetection k).modSlot k fun a => { a with safeDue := true }
  else s.countDetection k

/-- The event a detection raises by its action, 384s:04: 1 REPORT, 2 SAFE, 3 TRIP (R333). -/
def detectionEvent (k : SlotId) (action : Nat) : Option Nat :=
  match action with
  | 1 => some (hkOsc k.val)
  | 2 => some (hkSafeContour k.val)
  | 3 => some (hkOscTrip k.val)
  | _ => none

theorem raisable_detectionEvent {k : SlotId} {a e : Nat} (h : detectionEvent k a = some e) : raisable e = true := by
  have hall (k : SlotId) : raisable (hkOsc k.val) = true ∧ raisable (hkSafeContour k.val) = true ∧
      raisable (hkOscTrip k.val) = true := by
    revert k
    decide
  obtain ⟨hosc, hsafe, htrip⟩ := hall k
  unfold detectionEvent at h
  split at h
  · exact Option.some.inj h ▸ hosc
  · exact Option.some.inj h ▸ hsafe
  · exact Option.some.inj h ▸ htrip
  · cases h

theorem slots_modSlot (s : State) (k : SlotId) (f : Slot → Slot) : (s.modSlot k f).slots[k] = f s.slots[k] := by
  simp [State.modSlot]

theorem slots_of_keeps {W : Nat} {s t : State} (h : Keeps W s t) (k : SlotId)
    (hw : W.testBit StatePart.slots.bit = false) : t.slots[k] = s.slots[k] :=
  congrArg (fun v : Vector Slot 16 => v[k]) (h.parts .slots hw)

theorem countDetection_slot (s : State) (k : SlotId) :
    (s.countDetection k).slots[k] = { s.slots[k] with detected := false } :=
  slots_modSlot s k fun a => { a with detected := false }

theorem detectionDue_slot (s : State) (k : SlotId) : (s.detectionDue k).slots[k] =
    { s.slots[k] with detected := false,
                      safeDue := if s.fastNat (0x3840 + k.val) 4 = 2 then true else s.slots[k].safeDue } := by
  unfold State.detectionDue
  split
  · rw [slots_modSlot, countDetection_slot]
  · exact countDetection_slot s k

theorem detectionDue_keeps (s : State) (k : SlotId) : Keeps 0x2000000000000800000 s (s.detectionDue k) := by
  have hcount : Keeps 0x2000000000000800000 s (s.countDetection k) :=
    State.bump_keeps _ _ (site_slot _ _ (maskLe_refl _) (by decide)) (State.putObj_keeps _ _ _
      (site_slot _ _ (maskLe_refl _) (by decide)) (State.modSlot_keeps k _ (by decide) (Keeps.refl _ s)))
  exact Keeps.ite (State.modSlot_keeps k _ (by decide) hcount) hcount

section
variable {s : State} (k : SlotId) (hc : Safety.canonical s = true)
include hc

theorem detectionDue_objs : (s.detectionDue k).obj (0x3840 + k.val) 6 = 0 ∧
    (s.detectionDue k).obj (0x3840 + k.val) 5 =
      countNext (objKey (0x3840 + k.val) 5) (s.obj (0x3840 + k.val) 5) := by
  have hslot : Safety.canonical (s.modSlot k fun a => { a with detected := false }) = true := hc
  have hcount : (s.countDetection k).obj (0x3840 + k.val) 6 = 0 ∧ (s.countDetection k).obj (0x3840 + k.val) 5 =
      countNext (objKey (0x3840 + k.val) 5) (s.obj (0x3840 + k.val) 5) := by
    have hput := canonical_putObj (0x3840 + k.val) 6 0 hslot
    refine ⟨(obj_bump_ne hput (objKey_inj (by decide) (by decide) (by decide))).trans (obj_putObj _ _ _ hslot),
      (obj_bump _ _ hput).trans (congrArg (countNext _) ?_)⟩
    exact obj_putObj_ne _ hslot (objKey_inj (by decide) (by decide) (by decide))
  unfold State.detectionDue
  split <;> exact hcount

theorem countDetection_fast {sub : Nat} (hsub : sub < 5) :
    (s.countDetection k).fast (0x3840 + k.val) sub = s.fast (0x3840 + k.val) sub := by
  have hslot : Safety.canonical (s.modSlot k fun a => { a with detected := false }) = true := hc
  unfold State.countDetection State.bump
  rw [fast_putObj_ne _ (canonical_putObj _ _ _ hslot) (objKey_inj (by omega) (by decide) (by omega)),
    fast_putObj_ne _ hslot (objKey_inj (by omega) (by decide) (by omega))]
  rfl

/-- A detection is counted, and by the action of its slot an event is raised or none. -/
theorem detection_eq (hdetected : s.slots[k].detected = true) :
    (detectionEvent k (s.fastNat (0x3840 + k.val) 4) = none ∧ s.detection k = s.detectionDue k) ∨
      ∃ e data : Nat, detectionEvent k (s.fastNat (0x3840 + k.val) 4) = some e ∧
        s.detection k = (s.detectionDue k).raise e data := by
  have haction : (s.countDetection k).fastNat (0x3840 + k.val) 4 = s.fastNat (0x3840 + k.val) 4 :=
    congrArg Int.toNat (countDetection_fast k hc (by decide))
  unfold State.countDetection at haction
  unfold State.detection State.detectionDue
  rw [if_pos hdetected]
  dsimp only
  rw [haction]
  split
  · next h => rw [h]; exact .inr ⟨_, _, rfl, rfl⟩
  · next h => rw [h]; exact .inr ⟨_, _, rfl, rfl⟩
  · next h => rw [h]; exact .inr ⟨_, _, rfl, rfl⟩
  · next h1 h2 h3 =>
    rw [if_neg h2]
    exact .inl ⟨by simp [detectionEvent], rfl⟩

theorem detection_keeps_due (hdetected : s.slots[k].detected = true) :
    Keeps 0x8062D116810006436008 (s.detectionDue k) (s.detection k) := by
  obtain ⟨-, h⟩ | ⟨e, data, -, h⟩ := detection_eq k hc hdetected
  · rw [h]
    exact Keeps.refl _ _
  · rw [h]
    exact State.raise_keeps e data (maskLe_refl _) (Keeps.refl _ _)

theorem detection_raised {e : Nat} (hdetected : s.slots[k].detected = true)
    (he : detectionEvent k (s.fastNat (0x3840 + k.val) 4) = some e) : Safety.raised e s (s.detection k) := by
  obtain ⟨hnone, -⟩ | ⟨e', data, hsome, h⟩ := detection_eq k hc hdetected
  · rw [he] at hnone
    cases hnone
  · obtain rfl : e' = e := Option.some.inj (hsome.symm.trans he)
    rw [h]
    exact raise_raised_after data (detectionDue_keeps s k) hc (raisable_detectionEvent hsome) rfl rfl rfl

end

theorem oscillationDetection_acts {k : SlotId} {s : State} (hc : Safety.canonical s = true)
    (hdetected : s.slots[k].detected = true) :
    Safety.completes (.oscillationDetection k) s fun t =>
      t.slots[k].detected = false ∧ t.obj (0x3840 + k.val) 6 = 0 ∧
        t.obj (0x3840 + k.val) 5 = countNext (objKey (0x3840 + k.val) 5) (s.obj (0x3840 + k.val) 5) ∧
        (s.fastNat (0x3840 + k.val) 4 = 1 → Safety.raised (hkOsc k.val) s t) ∧
        (s.fastNat (0x3840 + k.val) 4 = 2 → t.slots[k].safeDue = true ∧ Safety.raised (hkSafeContour k.val) s t) ∧
        (s.fastNat (0x3840 + k.val) 4 = 3 → Safety.raised (hkOscTrip k.val) s t) := by
  obtain ⟨hchanges, hcount⟩ := detectionDue_objs k hc
  have hkeeps := detection_keeps_due k hc hdetected
  have hslot := (slots_of_keeps hkeeps k rfl).trans (detectionDue_slot s k)
  have hobj (sub : Nat) : (s.detection k).obj (0x3840 + k.val) sub = (s.detectionDue k).obj (0x3840 + k.val) sub :=
    hkeeps.obj ((detectionDue_keeps s k).canonical hc) sub (siteIn_slot_eq _ k (n := 3) (by decide))
  have hraised (a e : Nat) (he : detectionEvent k a = some e) (h : s.fastNat (0x3840 + k.val) 4 = a) :
      Safety.raised e s (s.detection k) :=
    detection_raised k hc hdetected (h ▸ he)
  refine ⟨_, rfl, ?_, (hobj 6).trans hchanges, (hobj 5).trans hcount, hraised 1 _ rfl,
    fun h => ⟨?_, hraised 2 _ rfl h⟩, hraised 3 _ rfl⟩
  · rw [hslot]
  · rw [hslot, if_pos h]

/-! ### The entry into Outline mode (R484, R485) -/

/-- The rails as Outline mode is entered (R485): stopped hard, and 3r00:03 at SOFT_OFF where the Outline controller
takes the rail over, else at HARD_OFF. -/
def State.outlineRails (s : State) (storeRuns : Bool) : State :=
  railIds.foldl (fun s r =>
    let ran := s.stoppable r || s.rails[r].stop != .none
    let soft := r = railD || (some r == s.storeRail && storeRuns)
    let s := s.hardStop r 8
    let s := if ran then s.putRailObj r 0x40 6 8 else s
    s.putRailObj r 0x00 3 (if soft then 0 else 2)) s

/-- The entry into Outline mode, in its order (R484, R485). -/
theorem enterOutline_eq {s : State} (c : Nat) (h : s.outline.active = false) :
    ∃ (o : Outline) (storeRuns : Bool) (data : Nat), o.active = true ∧ s.enterOutline c =
      ((((((s.putBit 0x2300 0x0C (c - 1) true).setOutline o).putObj 0x2300 0x0D c).outlineRails
        storeRuns).haltEngine.leaveRing 2).startTurning).raiseCore dvOutlineEnter data := by
  have hidle : ¬ (s.putBit 0x2300 0x0C (c - 1) true).outline.active = true := Bool.eq_false_iff.1 h
  unfold State.enterOutline
  rw [if_neg hidle]
  exact ⟨_, _, _, rfl, rfl⟩

theorem enterOutline_again {s : State} (c : Nat) (h : s.outline.active = true) :
    s.enterOutline c = s.putBit 0x2300 0x0C (c - 1) true :=
  if_pos h

theorem outlineRails_keeps (s : State) (storeRuns : Bool) :
    Keeps 0x42D000010002420000 s (s.outlineRails storeRuns) := by
  refine Keeps.foldl _ _ (Keeps.refl _ s) fun t r => ?_
  have hstop := State.hardStop_keeps r 8 (W := 0x42D000010002420000) (by decide) (Keeps.refl _ t)
  exact State.putRailObj_keeps _ _ _ _ (by decide)
    (Keeps.ite (State.putRailObj_keeps _ _ _ _ (by decide) hstop) hstop)

/-! ### The chatter detector (R335) -/

/-- RL_CHATTER has been raised of the rail in the present window. -/
def State.chatterRaised (s : State) (r : RailId) : Bool := s.rails[r].chatterRaised

section
variable (s : State) (r : RailId)

theorem chatterRaised_of_keeps {W : Nat} {s t : State} (r : RailId) (k : Keeps W s t)
    (hw : W.testBit StatePart.rails.bit = false) : t.chatterRaised r = s.chatterRaised r :=
  congrArg Rail.chatterRaised (rails_of_keeps k r hw)

@[simp] theorem chatterRaised_putObj (ix sub : Nat) (v : Int) :
    (s.putObj ix sub v).chatterRaised r = s.chatterRaised r := rfl

@[simp] theorem chatterRaised_putBit (ix sub n : Nat) (b : Bool) :
    (s.putBit ix sub n b).chatterRaised r = s.chatterRaised r := rfl

@[simp] theorem chatterRaised_putRailObj (q : RailId) (off sub : Nat) (v : Int) :
    (s.putRailObj q off sub v).chatterRaised r = s.chatterRaised r := rfl

@[simp] theorem chatterRaised_setDrive (v : Drive) : (s.setDrive v).chatterRaised r = s.chatterRaised r := rfl

@[simp] theorem chatterRaised_setOutline (v : Outline) : (s.setOutline v).chatterRaised r = s.chatterRaised r := rfl

@[simp] theorem chatterRaised_ite {c : Prop} [Decidable c] (a b : State) :
    (if c then a else b).chatterRaised r = if c then a.chatterRaised r else b.chatterRaised r :=
  apply_ite (fun (s : State) => s.chatterRaised r) c a b

/-- A change of one rail that leaves its chatter detector. -/
@[simp] theorem chatterRaised_modRail (q : RailId) (f : Rail → Rail)
    (h : ∀ a, (f a).chatterRaised = a.chatterRaised) : (s.modRail q f).chatterRaised r = s.chatterRaised r := by
  show ((s.rails.set q.val (f s.rails[q]) q.isLt)[r.val]'r.isLt).chatterRaised = _
  rw [Vector.getElem_set]
  split
  · next e =>
    obtain rfl : q = r := Fin.ext e
    exact h _
  · rfl

@[simp] theorem chatterRaised_foldl {α : Type} (f : State → α → State) (l : List α)
    (h : ∀ s a, (f s a).chatterRaised r = s.chatterRaised r) : (l.foldl f s).chatterRaised r = s.chatterRaised r := by
  induction l generalizing s with
  | nil => rfl
  | cons a l ih => exact (ih (f s a)).trans (h s a)

@[simp] theorem chatterRaised_modPhases (l : List PhaseId) (f : Phase → Phase) :
    (l.foldl (fun (s : State) p => s.modPhase p f) s).chatterRaised r = s.chatterRaised r :=
  chatterRaised_foldl s r _ l fun _ _ => rfl

@[simp] theorem chatterRaised_idleSlots (q : RailId) : (s.idleSlots q).chatterRaised r = s.chatterRaised r :=
  chatterRaised_of_keeps r (State.idleSlots_keeps q (maskLe_refl _) (Keeps.refl _ s)) rfl

@[simp] theorem chatterRaised_leaveRing (n : Nat) : (s.leaveRing n).chatterRaised r = s.chatterRaised r :=
  chatterRaised_of_keeps r (State.leaveRing_keeps n (maskLe_refl _) (Keeps.refl _ s)) rfl

@[simp] theorem chatterRaised_startTurning : s.startTurning.chatterRaised r = s.chatterRaised r :=
  chatterRaised_of_keeps r (State.startTurning_keeps (maskLe_refl _) (Keeps.refl _ s)) rfl

@[simp] theorem chatterRaised_safePath : s.safePath.chatterRaised r = s.chatterRaised r :=
  chatterRaised_of_keeps r (State.safePath_keeps (maskLe_refl _) (Keeps.refl _ s)) rfl

@[simp] theorem chatterRaised_raiseCore (e data : Nat) (b : Bool) :
    (s.raiseCore e data b).chatterRaised r = s.chatterRaised r :=
  chatterRaised_of_keeps r (State.raiseCore_keeps e data b (maskLe_refl _) (Keeps.refl _ s)) rfl

@[simp] theorem chatterRaised_endStop (q : RailId) : (s.endStop q).chatterRaised r = s.chatterRaised r := by
  simp [State.endStop, State.putFunc]

@[simp] theorem chatterRaised_stopCommon (q : RailId) (c : Nat) :
    (s.stopCommon q c).chatterRaised r = s.chatterRaised r := by
  simp [State.stopCommon]

@[simp] theorem chatterRaised_hardStop (q : RailId) (c : Nat) :
    (s.hardStop q c).chatterRaised r = s.chatterRaised r := by
  simp [State.hardStop, State.settleStop]

@[simp] theorem chatterRaised_softStop (q : RailId) (c : Nat) :
    (s.softStop q c).chatterRaised r = s.chatterRaised r := by
  simp [State.softStop]

@[simp] theorem chatterRaised_outlineRails (storeRuns : Bool) :
    (s.outlineRails storeRuns).chatterRaised r = s.chatterRaised r := by
  simp [State.outlineRails]

@[simp] theorem chatterRaised_haltEngine : s.haltEngine.chatterRaised r = s.chatterRaised r :=
  chatterRaised_of_keeps r (State.haltEngine_keeps (maskLe_refl _) (Keeps.refl _ s)) rfl

@[simp] theorem chatterRaised_enterOutline (c : Nat) : (s.enterOutline c).chatterRaised r = s.chatterRaised r := by
  cases h : s.outline.active with
  | true => simp [enterOutline_again c h]
  | false =>
    obtain ⟨o, storeRuns, data, -, e⟩ := enterOutline_eq c h
    simp [e]

@[simp] theorem chatterRaised_respond (e resp : Nat) (acts : List RailId) :
    (s.respond e resp acts).chatterRaised r = s.chatterRaised r := by
  unfold State.respond
  split <;> simp

/-- No raising starts the chatter detector of a rail again, though it may stop the rail. -/
@[simp] theorem chatterRaised_raise (e data : Nat) : (s.raise e data).chatterRaised r = s.chatterRaised r := by
  simp [State.raise]

end

theorem raisable_rlChatter (r : RailId) : raisable (rlChatter r.val) = true := by
  revert r
  decide

theorem chatterDetection_raises {r : RailId} {s : State} (hc : Safety.canonical s = true)
    (hon : s.fastNat 0x3800 (9 + r.val) / 65536 ≠ 0)
    (hreached : s.fastNat 0x3800 (9 + r.val) / 65536 ≤ s.rails[r].chatterCount)
    (hfirst : s.rails[r].chatterRaised = false) :
    Safety.completes (.chatterDetection r) s fun t =>
      t.rails[r].chatterRaised = true ∧ Safety.raised (rlChatter r.val) s t := by
  have hmark : Keeps 0x400000 s (s.modRail r fun a => { a with chatterRaised := true }) :=
    State.modRail_keeps r _ (maskLe_refl _) (Keeps.refl _ s)
  refine ⟨_, congrArg Host.Outcome.next (if_pos ⟨hon, hreached, hfirst⟩), ?_,
    raise_raised_after _ hmark hc (raisable_rlChatter r) rfl rfl rfl⟩
  exact (chatterRaised_raise _ r _ _).trans (congrArg Rail.chatterRaised (rails_modRail s r _))

/-! ### The sample watchdog (R337) -/

theorem outline_of_keeps {W : Nat} {s t : State} (k : Keeps W s t) (hw : W.testBit StatePart.outline.bit = false) :
    t.outline = s.outline :=
  k.parts .outline hw

theorem startTurning_active (s : State) : s.startTurning.outline.active = s.outline.active := by
  unfold State.startTurning
  dsimp only
  rw [outline_of_keeps (State.settleOutlines_keeps (maskLe_refl _) (State.driveStore_keeps (maskLe_refl _)
    (State.driveOutline_keeps (maskLe_refl _) (Keeps.refl _ _)))) rfl]
  rfl

theorem enterOutline_active (s : State) (c : Nat) : (s.enterOutline c).outline.active = true := by
  cases h : s.outline.active with
  | true => rw [enterOutline_again c h]; exact h
  | false =>
    obtain ⟨o, storeRuns, data, ho, e⟩ := enterOutline_eq c h
    rw [e, outline_of_keeps (State.raiseCore_keeps _ _ _ (maskLe_refl _) (Keeps.refl _ _)) rfl, startTurning_active,
      outline_of_keeps (State.leaveRing_keeps _ (maskLe_refl _) (Keeps.refl _ _)) rfl,
      outline_of_keeps (State.haltEngine_keeps (maskLe_refl _) (Keeps.refl _ _)) rfl,
      outline_of_keeps (outlineRails_keeps _ _) rfl]
    exact ho

section
variable {s : State} {v : Int} (h : Holds s 0x3800 1 v) (hv : v ≠ 1)
include h hv

/-- An engine that does not run is not halted. -/
theorem Holds.engine_haltEngine : Holds s.haltEngine 0x3800 1 v := by
  have hidle : ¬ (s.obj 0x3800 1 == 1) = true := by rw [h.2, beq_iff_eq]; exact hv
  unfold State.haltEngine
  rwa [if_neg hidle]

/-- Outline mode halts a running engine only; it leaves the state of an engine that does not run. -/
theorem Holds.engine_enterOutline (c : Nat) : Holds (s.enterOutline c) 0x3800 1 v := by
  have hbit : Holds (s.putBit 0x2300 0x0C (c - 1) true) 0x3800 1 v := h.put _ (by decide)
  cases hactive : s.outline.active with
  | true => rwa [enterOutline_again c hactive]
  | false =>
    obtain ⟨o, storeRuns, data, -, e⟩ := enterOutline_eq c hactive
    have hcause : Holds (((s.putBit 0x2300 0x0C (c - 1) true).setOutline o).putObj 0x2300 0x0D c) 0x3800 1 v :=
      Holds.put (s := (s.putBit 0x2300 0x0C (c - 1) true).setOutline o) hbit _ (by decide)
    have hhalted := (hcause.keeps (outlineRails_keeps _ storeRuns) rfl).engine_haltEngine hv
    rw [e]
    exact ((hhalted.keeps (State.leaveRing_keeps _ (maskLe_refl _) (Keeps.refl _ _)) rfl).keeps
      (State.startTurning_keeps (maskLe_refl _) (Keeps.refl _ _)) rfl).keeps
      (State.raiseCore_keeps _ _ _ (maskLe_refl _) (Keeps.refl _ _)) rfl

/-- The action of a response leaves the state of an engine that does not run. -/
theorem Holds.engine_respond (e resp : Nat) (acts : List RailId) : Holds (s.respond e resp acts) 0x3800 1 v := by
  unfold State.respond
  split
  case h_1 =>
    refine h.keeps (W := 0x25000000002400000) (Keeps.foldl _ _ (Keeps.refl _ s) fun t r => ?_) rfl
    refine Keeps.ite ?_ (Keeps.refl _ t)
    exact State.modRail_keeps _ _ (by decide) (State.putRailObj_keeps _ _ _ _ (by decide)
      (State.softStop_keeps _ _ (by decide) (Keeps.refl _ t)))
  case h_2 =>
    refine h.keeps (W := 0x42D000010002420000) (Keeps.foldl _ _ (Keeps.refl _ s) fun t r => ?_) rfl
    refine Keeps.ite ?_ (Keeps.refl _ t)
    exact State.modRail_keeps _ _ (by decide) (State.putRailObj_keeps _ _ _ _ (by decide)
      (State.hardStop_keeps _ _ (by decide) (Keeps.refl _ t)))
  case h_3 => exact h.engine_enterOutline hv 6
  case h_4 => exact (h.engine_enterOutline hv 7).keeps (State.safePath_keeps (maskLe_refl _) (Keeps.refl _ _)) rfl
  case h_5 => exact h

/-- A raising leaves the state of an engine that does not run. -/
theorem Holds.engine_raise (e data : Nat) : Holds (s.raise e data) 0x3800 1 v := by
  have hcore : Holds (s.raiseCore e data) 0x3800 1 v :=
    h.keeps (State.raiseCore_keeps _ _ _ (maskLe_refl _) (Keeps.refl _ _)) rfl
  exact Holds.ite (hcore.engine_respond hv _ _ _) hcore

end

theorem watchdog_eq {s : State} {r : RailId} {parity : Bool} (hrun : s.obj 0x3800 1 = 1)
    (hcause : parity = true ∨ s.onOrStopping r = true) : s.watchdog r parity =
      ((s.putObj 0x3800 1 2).raise dvHkWatchdog (evData [evU 1 (natOf parity), evU 1 r.val])).enterOutline 1 :=
  if_pos (by simpa [hrun] using hcause)

theorem sampleWatchdogExpiry_stops {r : RailId} {parity : Bool} {s : State} (hc : Safety.canonical s = true)
    (hrun : s.obj 0x3800 1 = 1) (hcause : parity = true ∨ s.onOrStopping r = true) :
    Safety.completes (.sampleWatchdogExpiry r parity) s fun t =>
      t.obj 0x3800 1 = 2 ∧ t.outline.active = true ∧
        (s.responseOf dvHkWatchdog ≠ 0 → Safety.uncleared t dvHkWatchdog = true) := by
  have hstopped : Holds (s.putObj 0x3800 1 2) 0x3800 1 2 := Holds.of_put hc _ _ _
  have hkeeps : Keeps 0x200000000000000000 s (s.putObj 0x3800 1 2) :=
    State.putObj_keeps _ _ _ (by decide) (Keeps.refl _ s)
  obtain ⟨huncleared, -⟩ := raise_raised_after (e := dvHkWatchdog) (evData [evU 1 (natOf parity), evU 1 r.val]) hkeeps
    hc (by decide) rfl rfl rfl
  exact ⟨_, congrArg Host.Outcome.next (watchdog_eq hrun hcause),
    ((hstopped.engine_raise (by decide) _ _).engine_enterOutline (by decide) 1).2, enterOutline_active _ 1,
    fun h => enterOutline_uncleared 1 (huncleared h)⟩

theorem sampleWatchdogExpiry_ignored {r : RailId} {parity : Bool} {s : State} (h : s.obj 0x3800 1 ≠ 1) :
    Safety.ignored (.sampleWatchdogExpiry r parity) s :=
  congrArg Host.Outcome.next (if_neg (by simp [h]))

/-! ### The return to the primary table (R334) -/

theorem returnToPrimary_due {s : State} {k : SlotId} (hcomes : s.boundaryComes (objKey (slotIx k) 1) = true)
    (hsafe : s.obj (slotIx k) 0x0D = 1) : s.returnToPrimary k = s.modSlot k fun a => { a with returnDue := true } := by
  unfold State.returnToPrimary
  rw [if_pos (.inl hsafe), if_pos hcomes]

theorem returnToPrimary_waits {ch : Channel} {k : SlotId} {tag : BitVec 16} {s : State}
    (ha : Safety.actionAdmits s ch (slotIx k) 0x0E tag.toNat 1)
    (hcomes : s.boundaryComes (objKey (slotIx k) 1) = true) (hsafe : s.obj (slotIx k) 0x0D = 1) :
    Safety.completes (.returnToPrimary ch k tag) s fun t =>
      Safety.done t ch (slotIx k) 0x0E ∧ t.slots[k].returnDue = true ∧ t.slots[k].safeDue = s.slots[k].safeDue := by
  have hplain (k : SlotId) : isAction (slotIx k) 0x0E = true ∧ answersLate (slotIx k) 0x0E = false ∧
      endsClient (slotIx k) 0x0E = false := by
    revert k
    decide
  obtain ⟨haction, hlate, hends⟩ := hplain k
  obtain ⟨b, c, e, hans⟩ := hostAction_admitted ha haction hlate hends
  rw [do_return_to_primary, returnToPrimary_due (s := s.setClients b) hcomes hsafe] at e
  have hslot : ((s.setClients b).modSlot k fun a => { a with returnDue := true }).slots[k] =
      { s.slots[k] with returnDue := true } :=
    slots_modSlot (s.setClients b) k _
  exact ⟨_, congrArg Host.Outcome.next e, hans, congrArg Slot.returnDue hslot, (congrArg Slot.safeDue hslot).trans rfl⟩

/-! ### Tables committed (R336) -/

theorem commitTable_now {s : State} {ix : Nat} (t : List Byte) (h : s.obj 0x3800 1 ≠ 1 ∨ s.tableUsers ix = []) :
    (s.commitTable ix t).domain ix 3 = some t := by
  unfold State.commitTable
  dsimp only
  rw [if_pos (h.imp_right List.isEmpty_iff.2)]
  exact cellGet_put _ _ _

theorem commitTable_waits {s : State} {ix : Nat} (t : List Byte) (hrun : s.obj 0x3800 1 = 1)
    (husers : s.tableUsers ix ≠ []) : (s.commitTable ix t).dom = s.dom ∧
      (ix, t, s.tableUsers ix) ∈ (s.commitTable ix t).engine.pending := by
  unfold State.commitTable
  dsimp only
  rw [if_neg (by simp [hrun, husers])]
  exact ⟨rfl, List.mem_append_right _ List.mem_cons_self⟩

/-- An admitted commit of a table takes its shadow, and is answered. -/
theorem hostAction_commit {s : State} {ch : Channel} {ix tag : Nat} (ha : Safety.actionAdmits s ch ix 2 tag 1)
    (hi : isAction ix 2 = true)
    (hdo : ∀ t : State, t.doAction ch ix 2 tag 1 = t.commitTable ix (t.shadowTable ix)) :
    ∃ b c : Clients, s.hostAction ch ix 2 tag 1 =
        (((s.setClients b).commitTable ix (s.shadowTable ix)).putObj ix 2 tag).setClients c ∧
      c.answer = some ⟨ch, ix, 2, none⟩ := by
  obtain ⟨b, c, e, hans⟩ := hostAction_admitted ha hi (Bool.and_false _) (Bool.and_false _)
  rw [hdo] at e
  exact ⟨b, c, e, hans⟩

section
variable {s : State} {ch : Channel} {ix tag : Nat} (ha : Safety.actionAdmits s ch ix 2 tag 1)
  (hi : isAction ix 2 = true) (hdo : ∀ t : State, t.doAction ch ix 2 tag 1 = t.commitTable ix (t.shadowTable ix))
include ha hi hdo

theorem hostAction_commit_now (h : s.obj 0x3800 1 ≠ 1 ∨ s.tableUsers ix = []) :
    Safety.done (s.hostAction ch ix 2 tag 1) ch ix 2 ∧
      (s.hostAction ch ix 2 tag 1).domain ix 3 = some (s.shadowTable ix) := by
  obtain ⟨b, c, e, hans⟩ := hostAction_commit ha hi hdo
  rw [e]
  exact ⟨hans, commitTable_now (s := s.setClients b) _ h⟩

theorem hostAction_commit_waits (hrun : s.obj 0x3800 1 = 1) (husers : s.tableUsers ix ≠ []) :
    Safety.done (s.hostAction ch ix 2 tag 1) ch ix 2 ∧ (s.hostAction ch ix 2 tag 1).dom = s.dom ∧
      (ix, s.shadowTable ix, s.tableUsers ix) ∈ (s.hostAction ch ix 2 tag 1).engine.pending := by
  obtain ⟨b, c, e, hans⟩ := hostAction_commit ha hi hdo
  rw [e]
  exact ⟨hans, commitTable_waits (s := s.setClients b) _ hrun husers⟩

end

theorem isAction_contour (k : SlotId) (safe : Bool) :
    isAction ((if safe then 0x3830 else 0x3820) + k.val) 2 = true := by
  revert k safe
  decide

theorem isAction_relief (n : Fin 16) : isAction (0x3850 + n.val) 2 = true := by
  revert n
  decide

end Sys2Proof.Machine

namespace Sys2Proof

open Machine

/-- Settles O23: each clause is the law of its command above; the commits of both kinds of table are one action. -/
theorem loopEngineActs : Obligations.LoopEngineActs := by
  unfold Obligations.LoopEngineActs
  refine ⟨?oscillation, ?chatter, ?watchdog, ?halted, ?primary, ?contourNow, ?contourWaits, ?reliefNow, ?reliefWaits⟩
  case oscillation => exact fun k s hc hdetected => oscillationDetection_acts hc hdetected
  case chatter => exact fun r s hc hon hreached hfirst => chatterDetection_raises hc hon hreached hfirst
  case watchdog => exact fun r parity s hc hrun hcause => sampleWatchdogExpiry_stops hc hrun hcause
  case halted => exact fun r parity s h => sampleWatchdogExpiry_ignored h
  case primary => exact fun ch k tag s ha hcomes hsafe => returnToPrimary_waits ha hcomes hsafe
  case contourNow =>
    exact fun ch k safe tag s _ ha h => ⟨_, rfl, hostAction_commit_now ha (isAction_contour k safe)
      (fun t => do_contour_commit t ch _ 1 k safe) h⟩
  case contourWaits =>
    exact fun ch k safe tag s ha hrun husers => ⟨_, rfl, hostAction_commit_waits ha (isAction_contour k safe)
      (fun t => do_contour_commit t ch _ 1 k safe) hrun husers⟩
  case reliefNow =>
    exact fun ch n tag s _ ha h => ⟨_, rfl, hostAction_commit_now ha (isAction_relief n)
      (fun t => do_relief_commit t ch _ 1 n) h⟩
  case reliefWaits =>
    exact fun ch n tag s ha hrun husers => ⟨_, rfl, hostAction_commit_waits ha (isAction_relief n)
      (fun t => do_relief_commit t ch _ 1 n) hrun husers⟩

end Sys2Proof
end

section
/-! The Hall map (O45). A map that gives every sector to one code only gives it to no second one, so the rule of 2620:01
refuses every other map. -/

namespace Sys2Proof.Machine

/-! ### Sectors of codes (R342) -/

theorem sectorOf_legal {s : State} {code n : Nat} (hn : n = bits (s.nat 0x2620 1) (3 * code + 2) (3 * code))
    (h : n < 6) : s.sectorOf code = some n := by
  subst hn
  exact if_pos h

theorem sectorOf_illegal {s : State} {code n : Nat} (hn : n = bits (s.nat 0x2620 1) (3 * code + 2) (3 * code))
    (h : 6 ≤ n) : s.sectorOf code = none := by
  subst hn
  exact if_neg (Nat.not_lt.2 h)

/-- The sectors of codes rest on the map in 2620:01 only. -/
theorem sectorOf_congr {s t : State} (h : t.obj 0x2620 1 = s.obj 0x2620 1) (code : Nat) :
    t.sectorOf code = s.sectorOf code := by
  unfold State.sectorOf State.nat
  rw [h]

/-- The sectors of the default map. -/
theorem sectorOf_default {s : State} (h : s.obj 0x2620 1 = 0x00EEC287) :
    [1, 3, 2, 6, 4, 5].map s.sectorOf = [some 0, some 1, some 2, some 3, some 4, some 5] ∧
      s.sectorOf 0 = none ∧ s.sectorOf 7 = none := by
  have hsector (code : Nat) : s.sectorOf code =
      if bits 0x00EEC287 (3 * code + 2) (3 * code) < 6 then some (bits 0x00EEC287 (3 * code + 2) (3 * code))
      else none := by
    unfold State.sectorOf State.nat
    rw [h]
    rfl
  simp only [List.map_cons, List.map_nil, hsector]
  decide

/-! ### One-to-one maps (R342) -/

/-- A valid map gives each sector to exactly one code. -/
theorem hallMapValid_unique {v : Nat} (h : hallMapValid v = true) (n : Fin 6) :
    ∃ a : Fin 8, ∀ k : Fin 8, bits v (3 * k.val + 2) (3 * k.val) = n.val ↔ k = a := by
  unfold hallMapValid at h
  rw [Bool.and_eq_true, List.all_eq_true] at h
  have hcount := beq_iff_eq.1 (h.2 n.val (List.mem_range.2 n.isLt))
  obtain ⟨a, ha⟩ := List.length_eq_one_iff.1 hcount
  have hmem (k : Nat) : (k < 8 ∧ bits v (3 * k + 2) (3 * k) = n.val) ↔ k = a := by
    rw [← List.mem_singleton (a := k), ← ha, List.mem_filter, List.mem_range, beq_iff_eq]
  exact ⟨⟨a, ((hmem a).2 rfl).1⟩, fun k => ⟨fun hk => Fin.ext ((hmem k.val).1 ⟨k.isLt, hk⟩),
    fun hk => ((hmem k.val).2 (congrArg Fin.val hk)).2⟩⟩

/-- A map that gives a sector to no code, or to two, is not valid. -/
theorem hallMapValid_false {v : Nat} (n : Fin 6)
    (h : (∀ k : Fin 8, bits v (3 * k.val + 2) (3 * k.val) ≠ n.val) ∨
      ∃ j k : Fin 8, j ≠ k ∧ bits v (3 * j.val + 2) (3 * j.val) = n.val ∧
        bits v (3 * k.val + 2) (3 * k.val) = n.val) : hallMapValid v = false := by
  refine Bool.eq_false_iff.2 fun hvalid => ?_
  obtain ⟨a, ha⟩ := hallMapValid_unique hvalid n
  rcases h with hnone | ⟨j, k, hne, hj, hk⟩
  · exact hnone a ((ha a).2 rfl)
  · exact hne (((ha j).1 hj).trans ((ha k).1 hk).symm)

/-! ### Refused writes -/

/-- A value that its admission lets through and the rule of its object refuses changes nothing but the answer (R44). -/
theorem hostWrite_ruled {s : State} {ch : Channel} {ix sub code : Nat} {data : List Byte} {row : ObjRow}
    (hreach : s.reaches ch = true) (hrow : findRow ix sub = some row) (hn : isAction ix sub = false)
    (hadm : s.admission ch row ix sub data = none) (hnum : row.ty.numeric = true)
    (hrule : s.objectRule ch ix sub (row.ty.value data) = some code) :
    s.hostWrite ch ix sub data = s.record ch ix sub (some code) := by
  simp [State.hostWrite, hreach, State.writeObj, hrow, hn, hadm, State.writeValue, hnum, State.writeNumber, hrule,
    WriteResult.code, State.recordResult]

theorem numeric_hall (sub : Fin 2) : ((findRow 0x2620 (1 + 2 * sub.val)).map fun (r : ObjRow) => r.ty.numeric) =
    some true := by
  revert sub
  decide

theorem isAction_hall (sub : Fin 2) : isAction 0x2620 (1 + 2 * sub.val) = false := by
  revert sub
  decide

theorem type_hallMap : (findRow 0x2620 1).map ObjRow.ty = some .u32 := rfl

/-- The rule of 2620 is that of the drive. -/
theorem objectRule_hall (s : State) (ch : Channel) (sub : Nat) (v : Int) :
    s.objectRule ch 0x2620 sub v = s.driveRule 0x2620 sub v := rfl

theorem driveRule_busy {s : State} {sub : Nat} (v : Int) (hsub : sub = 1 ∨ sub = 3)
    (hbusy : s.onOrStopping railD = true) : s.driveRule 0x2620 sub v = some 0x08000022 :=
  if_pos ⟨hsub, hbusy⟩

theorem driveRule_invalidMap {s : State} {v : Nat} (hidle : s.onOrStopping railD = false)
    (hv : hallMapValid v = false) : s.driveRule 0x2620 1 v = some 0x06090030 := by
  have hnot : ¬ ((1 = 1 ∨ 1 = 3) ∧ s.onOrStopping railD = true) := fun h => by
    rw [hidle] at h
    exact Bool.false_ne_true h.2
  exact (if_neg hnot).trans (if_pos ⟨rfl, hv⟩)

theorem objectWrite_hallBusy {ch : Channel} {data : List Byte} {row : ObjRow} {sub : Fin 2} {s : State}
    (hreach : s.reaches ch = true) (hrow : findRow 0x2620 (1 + 2 * sub.val) = some row)
    (hadm : s.admission ch row 0x2620 (1 + 2 * sub.val) data = none) (hbusy : s.onOrStopping railD = true) :
    Safety.completes (.objectWrite ch 0x2620 (BitVec.ofNat 8 (1 + 2 * sub.val)) data) s fun t =>
      t = s.record ch 0x2620 (1 + 2 * sub.val) (some 0x08000022) := by
  have hsub : (BitVec.ofNat 8 (1 + 2 * sub.val)).toNat = 1 + 2 * sub.val := by
    rw [BitVec.toNat_ofNat]
    omega
  have hnum : row.ty.numeric = true := by simpa [hrow] using numeric_hall sub
  have hrule (v : Int) : s.objectRule ch 0x2620 (1 + 2 * sub.val) v = some 0x08000022 :=
    (objectRule_hall s ch _ v).trans (driveRule_busy v (by omega) hbusy)
  refine ⟨_, rfl, ?_⟩
  show s.hostWrite ch 0x2620 (BitVec.ofNat 8 (1 + 2 * sub.val)).toNat data = _
  rw [hsub]
  exact hostWrite_ruled hreach hrow (isAction_hall sub) hadm hnum (hrule _)

theorem objectWrite_hallMapRefused {ch : Channel} {data : List Byte} {row : ObjRow} {n : Fin 6} {s : State}
    (hreach : s.reaches ch = true) (hrow : findRow 0x2620 1 = some row)
    (hadm : s.admission ch row 0x2620 1 data = none) (hidle : s.onOrStopping railD = false)
    (h : (∀ k : Fin 8, bits (leNat data) (3 * k.val + 2) (3 * k.val) ≠ n.val) ∨
      ∃ j k : Fin 8, j ≠ k ∧ bits (leNat data) (3 * j.val + 2) (3 * j.val) = n.val ∧
        bits (leNat data) (3 * k.val + 2) (3 * k.val) = n.val) :
    Safety.completes (.objectWrite ch 0x2620 1 data) s fun t =>
      t = s.record ch 0x2620 1 (some 0x06090030) := by
  have htype : row.ty = .u32 := by simpa [hrow] using type_hallMap
  have hrule : s.objectRule ch 0x2620 1 (row.ty.value data) = some 0x06090030 := by
    rw [htype]
    exact driveRule_invalidMap hidle (hallMapValid_false n h)
  exact ⟨_, rfl, hostWrite_ruled hreach hrow rfl hadm (by rw [htype]; rfl) hrule⟩

end Sys2Proof.Machine

namespace Sys2Proof

open Machine

/-- Settles O45: the fields of the map give the sectors, and the rule of 2620 refuses a map that gives a sector to no
code or to two. -/
theorem hallMapsAreOneToOne : Obligations.HallMapsAreOneToOne := by
  unfold Obligations.HallMapsAreOneToOne
  refine ⟨?fields, rfl, ?default, ?busy, ?refused⟩
  case fields => exact fun s h n hn => ⟨sectorOf_legal hn, sectorOf_illegal hn⟩
  case default => exact fun s h => sectorOf_default h
  case busy => exact fun ch data row sub s hreach hrow hadm hbusy => objectWrite_hallBusy hreach hrow hadm hbusy
  case refused =>
    exact fun ch data row n s hreach hrow hadm hidle h => objectWrite_hallMapRefused hreach hrow hadm hidle h

end Sys2Proof
end

section
/-! Drive rail D (O24): Hall transitions, the speed that decays, the switch of a reversal, a stall, and the motor and the
store under the Outline controller. What a command does to drive, rail or phases stands behind the outputs it then drives
and beside the events it raises. -/

namespace Sys2Proof.Machine

/-! ### Objects and raisings that stand -/

theorem Holds.bump {s : State} {ix sub : Nat} {v : Int} (h : Holds s ix sub v) :
    Holds (s.bump ix sub) ix sub (countNext (objKey ix sub) v) :=
  ⟨canonical_bump _ _ h.1, (obj_bump _ _ h.1).trans (congrArg _ h.2)⟩

/-- A raising before an operation that leaves the fabric and its counters alone. -/
theorem raised_before {W : Nat} {e : Nat} {s s' t : State} (k : Keeps W s' t) (hc : Safety.canonical s' = true)
    (hfabric : W.testBit StatePart.fabric.bit = false) (hcount : siteIn W 0x2320 = false) (h : Safety.raised e s s') :
    Safety.raised e s t := by
  have hf : t.fabric = s'.fabric := k.parts .fabric hfabric
  have hobj : t.obj 0x2320 (6 + severityOf e) = s'.obj 0x2320 (6 + severityOf e) := k.obj hc _ hcount
  unfold Safety.raised at h ⊢
  rwa [uncleared_congr e hf, hobj]

theorem driveOutline_drive (s : State) : s.driveOutline.drive = s.drive :=
  (State.driveOutline_keeps (maskLe_refl _) (Keeps.refl _ s)).parts .drive rfl

theorem driveOutline_outline (s : State) : s.driveOutline.outline = s.outline :=
  (State.driveOutline_keeps (maskLe_refl _) (Keeps.refl _ s)).parts .outline rfl

theorem driveStore_outline (s : State) : s.driveStore.outline = s.outline :=
  (State.driveStore_keeps (maskLe_refl _) (Keeps.refl _ s)).parts .outline rfl

theorem settleOutlines_outline (s : State) : s.settleOutlines.outline = s.outline :=
  (State.settleOutlines_keeps (maskLe_refl _) (Keeps.refl _ s)).parts .outline rfl

/-! ### A Hall code (R343) -/

/-- A filtered code taken, before its sector is looked at. -/
def State.takeHall (s : State) (code : Nat) : State :=
  (s.setDrive { s.drive with hall := code, illegal := (s.sectorOf code).isNone }).putObj 0x2620 7 code

/-- The drive in another sector or in none, its intervals and the electrical bearing void. -/
def State.voidHall (s : State) (sector : Option Nat) : State :=
  (s.setDrive { s.drive with sector := sector }).voidIntervals.elecInvalid

/-- An illegal code or a jump between sectors: the count at `sub` goes one up and the event is raised. -/
def State.hallFault (s : State) (sector : Option Nat) (sub e data : Nat) : State :=
  ((s.voidHall sector).bump 0x2620 sub).raise e data

theorem voidHall_keeps (s : State) (sector : Option Nat) : Keeps 0x200002010000 s (s.voidHall sector) :=
  State.elecInvalid_keeps (by decide) (State.voidIntervals_keeps (by decide)
    (State.setDrive_keeps _ (by decide) (Keeps.refl _ s)))

theorem legalTransition_drive (s : State) (n us : Nat) (forward : Bool) :
    (s.legalTransition n forward us).drive.sector = some n ∧
      (s.legalTransition n forward us).drive.forward = forward ∧
      (s.legalTransition n forward us).drive.intervals =
        (if s.drive.timing = true then (us :: s.drive.intervals).take 6 else s.drive.intervals) := by
  have helec (x : State) (period : Nat) : (x.elecTransition n forward period).drive = x.drive :=
    (State.elecTransition_keeps n forward period (maskLe_refl _) (Keeps.refl _ x)).parts .drive rfl
  have hspeed (x : State) (mag : Int) : (x.putSpeed mag).drive = x.drive := rfl
  unfold State.legalTransition
  dsimp only
  split
  · rw [hspeed, helec]
    exact ⟨rfl, rfl, rfl⟩
  · rw [helec]
    exact ⟨rfl, rfl, rfl⟩

section
variable {s : State} {code : Nat} (hc : Safety.canonical s = true)
include hc

theorem holds_takeHall : Holds (s.takeHall code) 0x2620 7 code :=
  Holds.of_put (s := s.setDrive _) hc _ _ _

theorem sectorOf_takeHall (c : Nat) : (s.takeHall code).sectorOf c = s.sectorOf c :=
  sectorOf_congr (obj_putObj_ne (s := s.setDrive _) _ hc (by decide)) c

theorem hallTransition_illegal (us : Nat) (hnew : s.drive.hall ≠ code) (hsector : s.sectorOf code = none) :
    s.hallTransition code us =
      ((s.takeHall code).hallFault none 9 (rlHallIllegal 4) (evData [evU 1 code])).driveOutline := by
  have htaken : (s.takeHall code).sectorOf code = none := (sectorOf_takeHall hc code).trans hsector
  unfold State.takeHall at htaken
  unfold State.hallTransition
  rw [if_neg fun h => hnew h.1]
  dsimp only
  rw [htaken]
  rfl

/-- From one sector to another (R343): on to the next, back to the one before, or a jump. -/
theorem hallTransition_moves (us : Nat) {m n : Nat} (hm : s.drive.sector = some m) (hn : s.sectorOf code = some n)
    (hne : n ≠ m) : s.hallTransition code us =
      (if n = (m + 1) % 6 then (s.takeHall code).legalTransition n true us
       else if m = (n + 1) % 6 then (s.takeHall code).legalTransition n false us
       else (s.takeHall code).hallFault (some n) 0x0A (rlHallSequence 4) (evData [evU 1 m, evU 1 n])).driveOutline := by
  have htaken : (s.takeHall code).sectorOf code = some n := (sectorOf_takeHall hc code).trans hn
  have hnew : ¬ (s.drive.hall = code ∧ s.drive.sector = s.sectorOf code) := by
    rintro ⟨-, h⟩
    exact hne (Option.some.inj (hn.symm.trans (h.symm.trans hm)))
  unfold State.takeHall at htaken
  unfold State.hallTransition
  rw [if_neg hnew]
  dsimp only
  rw [htaken, hm]
  dsimp only
  rw [if_neg hne]
  rfl

/-- What a fault of the Hall signals leaves: the code read, the count one up, and the event raised. -/
theorem hallFault_effects (sector : Option Nat) {sub e : Nat} (data : Nat) (hsub : objKey 0x2620 sub ≠ objKey 0x2620 7)
    (he : raisable e = true) :
    ((s.takeHall code).hallFault sector sub e data).driveOutline.obj 0x2620 7 = code ∧
      ((s.takeHall code).hallFault sector sub e data).driveOutline.obj 0x2620 sub =
        countNext (objKey 0x2620 sub) (s.obj 0x2620 sub) ∧
      Safety.raised e s ((s.takeHall code).hallFault sector sub e data).driveOutline := by
  have hvoid := voidHall_keeps (s.takeHall code) sector
  have hcount : Holds (s.takeHall code) 0x2620 sub (s.obj 0x2620 sub) :=
    Holds.put (s := s.setDrive _) ⟨hc, rfl⟩ code hsub
  have hcounted := (hcount.keeps hvoid rfl).bump
  have hcode : Holds (((s.takeHall code).voidHall sector).bump 0x2620 sub) 0x2620 7 code :=
    ((holds_takeHall hc).keeps hvoid rfl).put _ hsub.symm
  have hbumped : Keeps 0x400200002010000 s (((s.takeHall code).voidHall sector).bump 0x2620 sub) :=
    State.bump_keeps 0x2620 sub rfl (hvoid.step (by decide)
      (State.putObj_keeps 0x2620 7 code rfl (State.setDrive_keeps _ (by decide) (Keeps.refl _ s))))
  have hraise := State.raise_keeps e data (maskLe_refl _)
    (Keeps.refl _ (((s.takeHall code).voidHall sector).bump 0x2620 sub))
  have hdrive := State.driveOutline_keeps (maskLe_refl _)
    (Keeps.refl _ ((s.takeHall code).hallFault sector sub e data))
  refine ⟨?_, ?_, ?_⟩
  · exact ((hcode.keeps hraise rfl).keeps hdrive rfl).2
  · exact ((hcounted.keeps hraise rfl).keeps hdrive rfl).2
  · exact raised_before hdrive (hraise.canonical hcode.1) rfl rfl (raise_raised_after data hbumped hc he rfl rfl rfl)

/-- What a legal transition leaves (R343, R344). -/
theorem legalTransition_effects (n us : Nat) (forward : Bool) :
    ((s.takeHall code).legalTransition n forward us).driveOutline.drive.sector = some n ∧
      ((s.takeHall code).legalTransition n forward us).driveOutline.drive.forward = forward ∧
      ((s.takeHall code).legalTransition n forward us).driveOutline.obj 0x2620 7 = code ∧
      ((s.takeHall code).legalTransition n forward us).driveOutline.drive.intervals =
        (if s.drive.timing = true then (us :: s.drive.intervals).take 6 else s.drive.intervals) := by
  have hmoved := (holds_takeHall (code := code) hc).keeps
    (State.legalTransition_keeps n forward us (maskLe_refl _) (Keeps.refl _ _)) rfl
  have hcode := hmoved.keeps (State.driveOutline_keeps (maskLe_refl _) (Keeps.refl _ _)) rfl
  obtain ⟨hsector, hforward, hintervals⟩ := legalTransition_drive (s.takeHall code) n us forward
  rw [driveOutline_drive]
  exact ⟨hsector, hforward, hcode.2, hintervals⟩

end

theorem exec_hallTransition {code : BitVec 3} {us : Nat} {s : State} (h : s.serving = true) :
    exec (.hallTransition code us) s = .next (s.hallTransition code.toNat us) :=
  if_pos h

theorem hallTransition_ignored {code : BitVec 3} {us : Nat} {s : State} (h : s.serving = false) :
    Safety.ignored (.hallTransition code us) s :=
  if_neg (ne_true_of_eq_false h)

section
variable {code : BitVec 3} {us : Nat} {s : State} (hc : Safety.canonical s = true) (hs : s.serving = true)
include hc hs

theorem hallTransition_forward {m n : Nat} (hm : s.drive.sector = some m) (hn : s.sectorOf code.toNat = some n)
    (_ : m < 6) (hnext : n = (m + 1) % 6) :
    Safety.completes (.hallTransition code us) s fun t =>
      t.drive.sector = some n ∧ t.drive.forward = true ∧ t.obj 0x2620 7 = code.toNat ∧
        t.drive.intervals = (if s.drive.timing = true then (us :: s.drive.intervals).take 6
          else s.drive.intervals) := by
  have h := hallTransition_moves hc us hm hn (by omega)
  rw [if_pos hnext] at h
  exact ⟨_, (exec_hallTransition hs).trans (congrArg Host.Outcome.next h), legalTransition_effects hc n us true⟩

theorem hallTransition_backward {m n : Nat} (hm : s.drive.sector = some m) (hn : s.sectorOf code.toNat = some n)
    (_ : n < 6) (hprevious : m = (n + 1) % 6) :
    Safety.completes (.hallTransition code us) s fun t =>
      t.drive.sector = some n ∧ t.drive.forward = false ∧ t.obj 0x2620 7 = code.toNat := by
  have h := hallTransition_moves hc us hm hn (by omega)
  rw [if_neg (by omega), if_pos hprevious] at h
  obtain ⟨hsector, hforward, hcode, -⟩ := legalTransition_effects (code := code.toNat) hc n us false
  exact ⟨_, (exec_hallTransition hs).trans (congrArg Host.Outcome.next h), hsector, hforward, hcode⟩

theorem hallTransition_raisesIllegal (hnew : s.drive.hall ≠ code.toNat) (hn : s.sectorOf code.toNat = none) :
    Safety.completes (.hallTransition code us) s fun t =>
      t.obj 0x2620 7 = code.toNat ∧ t.obj 0x2620 9 = countNext (objKey 0x2620 9) (s.obj 0x2620 9) ∧
        Safety.raised (rlHallIllegal 4) s t :=
  ⟨_, (exec_hallTransition hs).trans (congrArg Host.Outcome.next (hallTransition_illegal hc us hnew hn)),
    hallFault_effects hc none _ (by decide) rfl⟩

theorem hallTransition_raisesSequence {m n : Nat} (hm : s.drive.sector = some m) (hn : s.sectorOf code.toNat = some n)
    (hne : n ≠ m) (hnext : n ≠ (m + 1) % 6) (hprevious : m ≠ (n + 1) % 6) :
    Safety.completes (.hallTransition code us) s fun t =>
      t.obj 0x2620 7 = code.toNat ∧ t.obj 0x2620 0x0A = countNext (objKey 0x2620 0x0A) (s.obj 0x2620 0x0A) ∧
        Safety.raised (rlHallSequence 4) s t := by
  have h := hallTransition_moves hc us hm hn hne
  rw [if_neg hnext, if_neg hprevious] at h
  exact ⟨_, (exec_hallTransition hs).trans (congrArg Host.Outcome.next h),
    hallFault_effects hc (some n) _ (by decide) rfl⟩

end

/-! ### The speed between transitions (R344) -/

theorem putSpeed_zero {s : State} (hc : Safety.canonical s = true) :
    (s.putSpeed 0).obj 0x3448 5 = 0 ∧ (s.putSpeed 0).obj 0x3448 1 = 0 := by
  have hput : Holds (s.putObj 0x3448 5 0) 0x3448 5 0 := Holds.of_put hc _ _ _
  unfold State.putSpeed
  dsimp only
  rw [Int.neg_zero, ite_self, Int.neg_zero, ite_self]
  exact ⟨(hput.put 0 (by decide)).2, obj_putObj _ _ _ hput.1⟩

theorem zeroSpeedTimeout_stops {us : Nat} {s : State} (hc : Safety.canonical s = true)
    (hlong : s.obj 0x3400 0x10 * 1000 < us) :
    Safety.completes (.zeroSpeedTimeout us) s fun t => t.obj 0x3448 5 = 0 ∧ t.obj 0x3448 1 = 0 := by
  have hdecay : s.decaySpeed us = s.putSpeed 0 := if_pos hlong
  exact ⟨_, congrArg Host.Outcome.next hdecay, putSpeed_zero hc⟩

/-! ### The switch of a reversal (R354) -/

/-- The applied direction switched and counted, V_r at the speed kept and a soft start begun, before the target is applied
again. -/
def State.switchDirection (s : State) : State :=
  let s := s.setDrive { s.drive with reversing := false }
  let s := (s.applyDirection (s.obj 0x3400 0x0B)).bump 0x3440 7
  let s := s.setVr railD (max 0 (s.obj 0x3448 1) * 65536)
  s.modRail railD fun a => { a with softStart := true }

theorem clampTarget_keeps (s : State) (r : RailId) : Keeps 0x4000000000400000 s (s.clampTarget r) := by
  have hflag := State.modRail_keeps (W := 0x4000000000400000) r
    (fun a => { a with clamped := s.clampedTarget r != s.rails[r].source }) (by decide) (Keeps.refl _ s)
  exact Keeps.ite hflag (State.putRailObj_keeps r 0x10 7 _ (by decide) hflag)

theorem switchDirection_keeps (s : State) : Keeps 0x200064000000002400000 s s.switchDirection := by
  unfold State.switchDirection
  exact State.modRail_keeps _ _ (by decide) (State.setVr_keeps _ _ (by decide) (State.bump_keeps _ _ rfl
    (State.applyDirection_keeps _ (by decide) (State.setDrive_keeps _ (by decide) (Keeps.refl _ s)))))

section
variable {s : State} (hc : Safety.canonical s = true)
include hc

theorem switchDirection_applied : Holds s.switchDirection 0x4110 0x0B (s.obj 0x3400 0x0B) := by
  have happlied : Holds ((s.setDrive { s.drive with reversing := false }).applyDirection (s.obj 0x3400 0x0B)) 0x4110 0x0B
      (s.obj 0x3400 0x0B) := (Holds.of_put (s := s.setDrive _) hc _ _ _).put _ (by decide)
  exact (happlied.put _ (by decide)).put _ (by decide)

theorem switchDirection_counted :
    Holds s.switchDirection 0x3440 7 (countNext (objKey 0x3440 7) (s.obj 0x3440 7)) := by
  have happlied : Holds ((s.setDrive { s.drive with reversing := false }).applyDirection (s.obj 0x3400 0x0B)) 0x3440 7
      (s.obj 0x3440 7) := Holds.keeps (s := s.setDrive { s.drive with reversing := false }) ⟨hc, rfl⟩
        (State.applyDirection_keeps _ (maskLe_refl _) (Keeps.refl _ _)) rfl
  exact happlied.bump.put _ (by decide)

end

/-- Where its raising takes no action, a target applied leaves all but its own object, its clamp and what is raised. -/
theorem applyTarget_low_keeps {s : State} {r : RailId} (hc : Safety.canonical s = true)
    (hlow : s.responseOf (rlTargetClamp r.val) < 4) (fresh : Bool) :
    Keeps 0x4002800000400008 s (s.applyTarget r fresh) :=
  (applyTarget_keeps_clampTarget hc hlow fresh).step (by decide) ((clampTarget_keeps s r).mono (by decide))

theorem reversalSwitch_eq {s : State} (hreversing : s.drive.reversing = true) (hrunning : s.rails[railD].running = true)
    (hvr : s.rails[railD].vr = 0) (hslow : ((s.obj 0x3448 1).natAbs : Int) ≤ s.obj 0x3400 0x0F) :
    s.reversalSwitch = s.switchDirection.applyTarget railD false := by
  have hgate : (s.drive.reversing && s.rails[railD].running && s.rails[railD].vr == 0 &&
      decide (((s.obj 0x3448 1).natAbs : Int) ≤ s.obj 0x3400 0x0F)) = true := by
    rw [hreversing, hrunning, hvr, decide_eq_true hslow]
    rfl
  exact if_pos hgate

theorem reversalSwitch_switches {s : State} (hc : Safety.canonical s = true) (hreversing : s.drive.reversing = true)
    (hrunning : s.rails[railD].running = true) (hvr : s.rails[railD].vr = 0)
    (hslow : ((s.obj 0x3448 1).natAbs : Int) ≤ s.obj 0x3400 0x0F) (hlow : s.responseOf (rlTargetClamp 4) < 4) :
    Safety.completes .reversalSwitch s fun t =>
      t.obj 0x4110 0x0B = s.obj 0x3400 0x0B ∧ t.drive.reversing = false ∧
        t.obj 0x3440 7 = countNext (objKey 0x3440 7) (s.obj 0x3440 7) := by
  have happlied := switchDirection_applied hc
  have hlow' : s.switchDirection.responseOf (rlTargetClamp railD.val) < 4 :=
    Nat.lt_of_le_of_lt (Nat.le_of_eq (responseOf_of_keeps (switchDirection_keeps s) hc (rlTargetClamp_lt railD) rfl
      rfl)) hlow
  have htarget := applyTarget_low_keeps happlied.1 hlow' false
  have hdrive := htarget.parts .drive rfl
  refine ⟨_, congrArg Host.Outcome.next (reversalSwitch_eq hreversing hrunning hvr hslow), ?_, ?_, ?_⟩
  · exact (happlied.keeps htarget rfl).2
  · exact congrArg Drive.reversing hdrive
  · exact ((switchDirection_counted hc).keeps htarget rfl).2

theorem reversalSwitch_ignored {s : State} (h : s.drive.reversing = false) : Safety.ignored .reversalSwitch s := by
  have hgate : s.reversalSwitch = s := by
    unfold State.reversalSwitch
    dsimp only
    rw [h]
    rfl
  exact congrArg Host.Outcome.next hgate

/-! ### A stall (R357) -/

theorem raisable_rlHiccup (r : RailId) : raisable (rlHiccup r.val) = true := by
  revert r
  decide

theorem rlHiccup_lt (r : RailId) : rlHiccup r.val < 640 := by
  have := r.isLt
  unfold rlHiccup
  omega

/-- A condition counted: its rail stopped hard, the count in 3r40:04 and no condition held any more. -/
def State.countedStop (s : State) (r : RailId) (n : Int) : State :=
  ((s.hardStop r 7).putRailObj r 0x40 4 n).modRail r fun a => { a with held := Vector.replicate 4 (-1) }

theorem countedStop_keeps (s : State) (r : RailId) (n : Int) : Keeps 0x42C000010002420000 s (s.countedStop r n) :=
  State.modRail_keeps _ _ (by decide) (State.putRailObj_keeps _ _ _ _ (by decide)
    (State.hardStop_keeps r 7 (maskLe_refl _) (Keeps.refl _ s)))

section
variable {s : State} {r : RailId} {n : Int} (hn : n = min 255 (s.railObj r 0x40 4 + 1))
  (hc : Safety.canonical s = true) (hretry : n ≤ s.railObj r 0 8)
include hn hc hretry

/-- A condition counted within the retries of its rail ends in a hiccup (R298, R299). -/
theorem countCondition_hiccups (cond : Fin 4) (ms : Nat) : s.countCondition r cond ms =
    ((s.countedStop r n).modRail r fun a => { a with hiccup := true }).raise (rlHiccup r.val)
      (evData [evU 1 cond.val, evU 1 n]) := by
  have hretries : n ≤ (s.countedStop r n).railObj r 0 8 :=
    Int.le_trans hretry (Int.le_of_eq ((countedStop_keeps s r n).obj hc 8 (siteIn_rail_eq _ r (by decide))).symm)
  subst hn
  exact if_pos hretries

theorem countCondition_effects (hon : s.railObj r 0 3 = 1) (hlow : s.responseOf (rlHiccup r.val) < 4) (cond : Fin 4)
    (ms : Nat) :
    (s.countCondition r cond ms).rails[r].hiccup = true ∧ (s.countCondition r cond ms).railObj r 0x40 4 = n ∧
      ((s.countCondition r cond ms).rails[r].stop = .hard ∨ (s.countCondition r cond ms).rails[r].running = false) ∧
      Safety.raised (rlHiccup r.val) s (s.countCondition r cond ms) := by
  obtain ⟨⟨-, hstopped⟩, hcause⟩ := hardStop_stops 7 hc hon
  have hcount : Holds (s.countedStop r n) (railIx r 0x40) 4 n := Holds.of_put hcause.1 (railIx r 0x40) 4 n
  rw [countCondition_hiccups hn hc hretry]
  generalize hx : ((s.countedStop r n).modRail r fun a => { a with hiccup := true }) = x
  have hstop : Keeps 0x42C000010002420000 s x := hx ▸ State.modRail_keeps _ _ (by decide) (countedStop_keeps s r n)
  have hlow' : x.responseOf (rlHiccup r.val) < 4 :=
    Nat.lt_of_le_of_lt (Nat.le_of_eq (responseOf_of_keeps hstop hc (rlHiccup_lt r) rfl rfl)) hlow
  have hraise := State.raiseCore_keeps (rlHiccup r.val) (evData [evU 1 cond.val, evU 1 n]) false (maskLe_refl _)
    (Keeps.refl _ x)
  have hraised := raise_raised_after (evData [evU 1 cond.val, evU 1 n]) hstop hc (raisable_rlHiccup r) rfl rfl rfl
  rw [raise_low _ hlow'] at hraised ⊢
  have hcount' : Holds x (railIx r 0x40) 4 n := hx ▸ hcount
  have hrail : x.rails[r].hiccup = true ∧ (x.rails[r].stop = .hard ∨ x.rails[r].running = false) := by
    unfold State.countedStop at hx
    rw [← hx, rails_modRail, rails_modRail, rails_putRailObj]
    exact ⟨rfl, hstopped⟩
  rw [rails_of_keeps hraise r rfl]
  exact ⟨hrail.1, (hcount'.keeps hraise (siteIn_rail_eq _ r (by decide))).2, hrail.2, hraised⟩

end

theorem stallTimeout_hiccups {ms : BitVec 32} {s : State} (hc : Safety.canonical s = true) (hon : s.isOn railD = true)
    (hrunning : s.rails[railD].running = true) (hstop : s.rails[railD].stop = .none)
    (hdemand : 0 < s.rails[railD].demand) (hhold : s.drive.hold = 0) (hlong : s.obj 0x3400 0x11 ≤ ms.toNat)
    (hretry : min 255 (s.obj 0x3440 4 + 1) ≤ s.obj 0x3400 8) (hlow : s.responseOf (rlHiccup 4) < 4) :
    Safety.completes (.stallTimeout ms) s fun t =>
      t.rails[railD].hiccup = true ∧ t.obj 0x3440 4 = min 255 (s.obj 0x3440 4 + 1) ∧
        (t.rails[railD].stop = .hard ∨ t.rails[railD].running = false) ∧ Safety.raised (rlHiccup 4) s t := by
  have hgate : (s.isOn railD && s.rails[railD].running && s.rails[railD].stop == .none &&
      decide (0 < s.rails[railD].demand) && s.drive.hold == 0 && decide (s.obj 0x3400 0x11 ≤ ms.toNat)) = true := by
    rw [hon, hrunning, hstop, decide_eq_true hdemand, hhold, decide_eq_true hlong]
    rfl
  exact ⟨_, congrArg Host.Outcome.next (if_pos hgate),
    countCondition_effects (r := railD) rfl hc hretry (beq_iff_eq.1 hon) hlow 3 ms.toNat⟩

/-! ### One phase behind the Outline controller -/

theorem phases_ite {c : Prop} [Decidable c] {a b : State} {p : PhaseId} {x : Phase} (ha : a.phases[p] = x)
    (hb : b.phases[p] = x) : (if c then a else b).phases[p] = x := by
  split <;> assumption

section
variable {p q : PhaseId} (h : q ≠ p)
include h

theorem phases_modPhase_ne (s : State) (f : Phase → Phase) : (s.modPhase q f).phases[p] = s.phases[p] :=
  Vector.getElem_set_ne q.isLt p.isLt fun e => h (Fin.ext e)

theorem phases_closeWindow_ne (s : State) (falling : Bool) : (s.closeWindow q falling).phases[p] = s.phases[p] :=
  have hmiss (x : State) (sub : Nat) : ((x.putPhaseObj q 6 sub (-1)).bump (phaseIx q 6) 9).phases[p] = x.phases[p] := rfl
  phases_ite ((hmiss _ _).trans (phases_modPhase_ne h s _)) rfl

theorem phases_putOutputs_ne (s : State) (high low : Bool) : (s.putOutputs q high low).phases[p] = s.phases[p] :=
  (phases_modPhase_ne h _ _).trans
    (phases_ite ((phases_closeWindow_ne h _ _).trans (phases_closeWindow_ne h s _)) rfl)

theorem phases_drivePhase_ne (s : State) : (s.drivePhase q).phases[p] = s.phases[p] :=
  have hput := phases_putOutputs_ne h s (s.levels q).1 (s.levels q).2
  phases_ite ((phases_modPhase_ne h _ _).trans hput) (phases_ite ((phases_modPhase_ne h _ _).trans hput) hput)

/-- What the Outline controller wants of one phase leaves the other phases. -/
theorem phases_outlinePhase_ne (s : State) (state : Nat) (duty : Int) :
    (s.outlinePhase q state duty).phases[p] = s.phases[p] :=
  have hwant := phases_modPhase_ne h s fun a => { a with outlineWant := if state = 1 ∧ duty ≤ 0 then 2 else state }
  phases_ite hwant ((phases_drivePhase_ne h _).trans ((phases_modPhase_ne h _ _).trans hwant))

end

theorem drivePhase_outputs (s : State) (p : PhaseId) :
    (s.drivePhase p).phases[p].outH = (s.levels p).1 ∧
      (s.drivePhase p).phases[p].outL = (s.levels p).2 := by
  have hput : ((s.putOutputs p (s.levels p).1 (s.levels p).2)).phases[p].outH = (s.levels p).1 ∧
      ((s.putOutputs p (s.levels p).1 (s.levels p).2)).phases[p].outL = (s.levels p).2 := by
    unfold State.putOutputs
    dsimp only
    rw [phases_modPhase]
    exact ⟨rfl, rfl⟩
  unfold State.drivePhase
  dsimp only
  split
  · rw [phases_modPhase]
    exact hput
  · split
    · rw [phases_modPhase]
      exact hput
    · exact hput

/-- The Outline controller's OFF leaves a phase low, but for the low side that a trip turns on (R34, R360). -/
theorem levels_outlineOff {s : State} {p : PhaseId} (hoff : s.phases[p].outlined = some 0) :
    (s.levels p).1 = false ∧ (s.phases[p].tripped = false → (s.levels p).2 = false) := by
  unfold State.levels
  dsimp only
  split
  · exact ⟨rfl, fun _ => rfl⟩
  · split
    · next htrip => exact ⟨rfl, fun h => absurd htrip (ne_true_of_eq_false h)⟩
    · rw [hoff]
      dsimp only
      split
      · exact ⟨rfl, fun _ => rfl⟩
      · exact ⟨rfl, fun _ => rfl⟩

/-! ### The motor under the Outline controller (R359, R360) -/

/-- A phase that the Outline controller wants off; without update points its outputs are low at once, but for the low side
that a trip turns on. -/
def coastsAfter (s t : State) (p : PhaseId) : Prop :=
  t.phases[p].outlineWant = 0 ∧
    (s.hasUpdates p = false → t.phases[p].outH = false ∧ (s.phases[p].tripped = false → t.phases[p].outL = false))

theorem coastsAfter_congr {s s' t : State} {p : PhaseId} (hupdates : s'.hasUpdates p = s.hasUpdates p)
    (htripped : s'.phases[p].tripped = s.phases[p].tripped) (h : coastsAfter s' t p) : coastsAfter s t p := by
  unfold coastsAfter at h ⊢
  rwa [hupdates, htripped] at h

theorem takeOutline_phase (s : State) (p : PhaseId) : (s.takeOutline p).phases[p].outlined = s.outlineDue p ∧
    (s.takeOutline p).phases[p].tripped = s.phases[p].tripped ∧
    (s.takeOutline p).phases[p].outlineWant = s.phases[p].outlineWant := by
  unfold State.takeOutline
  dsimp only
  rw [phases_modPhase]
  exact ⟨rfl, rfl, rfl⟩

theorem settleOutline_coasts {s : State} {p : PhaseId} (hwant : s.phases[p].outlineWant = 0)
    (hdue : s.outlineDue p = some 0) : coastsAfter s (s.settleOutline p) p := by
  obtain ⟨htaken, htripped, hstill⟩ := takeOutline_phase s p
  obtain ⟨hhigh, hlow⟩ := levels_outlineOff (htaken.trans hdue)
  obtain ⟨houtH, houtL⟩ := drivePhase_outputs (s.takeOutline p) p
  have hdriven := congrArg Phase.outlineWant (undriven_drivePhase (s.takeOutline p) p p)
  unfold State.settleOutline
  split
  · next hcomes => exact ⟨hwant, fun h => absurd hcomes (ne_true_of_eq_false h)⟩
  · exact ⟨hdriven.trans (hstill.trans hwant), fun _ => ⟨houtH.trans hhigh, fun h =>
      houtL.trans (hlow (htripped.trans h))⟩⟩

theorem outlinePhase_coasts {s : State} {p : PhaseId} (duty : Int) (hdriven : s.outlineDrivenPhase p = true) :
    coastsAfter s (s.outlinePhase p 0 duty) p := by
  have hwant : (s.modPhase p fun a => { a with outlineWant := 0 }).phases[p] = { s.phases[p] with outlineWant := 0 } :=
    phases_modPhase s p _
  have hdue : (s.modPhase p fun a => { a with outlineWant := 0 }).outlineDue p = some 0 :=
    (if_pos hdriven).trans (congrArg (fun a : Phase => some a.outlineWant) hwant)
  have hupdates : (s.modPhase p fun a => { a with outlineWant := 0 }).hasUpdates p = s.hasUpdates p :=
    congrArg (· && s.clocks.pll) (proj_modPhase s p Phase.counting p _ fun _ => rfl)
  exact coastsAfter_congr hupdates (proj_modPhase s p Phase.tripped p _ fun _ => rfl)
    (settleOutline_coasts (congrArg Phase.outlineWant hwant) hdue)

/-- What the Outline controller wants of a phase of drive rail D: off while it coasts, else its state in the entry of the
sector (R359, R360). -/
def State.turnPhase (s : State) (p : PhaseId) : State :=
  s.outlinePhase p (if s.outline.coasting then 0 else bits s.outlineEntry (2 * (p.val - 9) + 1) (2 * (p.val - 9)))
    (s.outlineValue 0x2340 3)

theorem driveOutline_turns {s : State} (h : s.outlineTurns = true) :
    s.driveOutline = [(9 : PhaseId), 10, 11].foldl State.turnPhase s :=
  if_pos h

theorem turnPhase_keeps (s : State) (p : PhaseId) : Keeps 0x80000000000000020000 s (s.turnPhase p) :=
  State.outlinePhase_keeps _ _ _ (maskLe_refl _) (Keeps.refl _ s)

theorem turnPhases_ne {q : PhaseId} {l : List PhaseId} (s : State) (h : q ∉ l) :
    (l.foldl State.turnPhase s).phases[q] = s.phases[q] := by
  induction l generalizing s with
  | nil => rfl
  | cons p l ih =>
    obtain ⟨hne, hrest⟩ := not_or.1 (mt List.mem_cons.2 h)
    exact (ih (s.turnPhase p) hrest).trans (phases_outlinePhase_ne (Ne.symm hne) s _ _)

/-- Each phase that a coasting controller is asked for is off after all of them. -/
theorem turnPhases_coast {s : State} {l : List PhaseId} (hl : l.Nodup) (hdriven : ∀ p ∈ l, s.outlineDrivenPhase p = true)
    (hcoasting : s.outline.coasting = true) : ∀ p ∈ l, coastsAfter s (l.foldl State.turnPhase s) p := by
  induction l generalizing s with
  | nil => exact fun _ h => absurd h List.not_mem_nil
  | cons q l ih =>
    obtain ⟨hq, hnodup⟩ := List.nodup_cons.1 hl
    have hturn := turnPhase_keeps s q
    have houtline : (s.turnPhase q).outline = s.outline := hturn.parts .outline rfl
    have hflash : (s.turnPhase q).flash = s.flash := hturn.parts .flash rfl
    have hclocks : (s.turnPhase q).clocks = s.clocks := hturn.parts .clocks rfl
    have hdriven' (p : PhaseId) : (s.turnPhase q).outlineDrivenPhase p = s.outlineDrivenPhase p := by
      unfold State.outlineDrivenPhase State.outlineTurns State.outlineStores State.outlineStoreMask State.outlineSet
      rw [houtline, hflash]
    intro p hp
    rcases List.mem_cons.1 hp with rfl | hp
    · have hoff : s.turnPhase p = s.outlinePhase p 0 (s.outlineValue 0x2340 3) := by
        unfold State.turnPhase
        rw [hcoasting]
        rfl
      have hcoasts := outlinePhase_coasts (s.outlineValue 0x2340 3) (hdriven p (List.mem_cons_self ..))
      rw [← hoff] at hcoasts
      show coastsAfter s (l.foldl State.turnPhase (s.turnPhase p)) p
      unfold coastsAfter
      rw [turnPhases_ne _ hq]
      exact hcoasts
    · have hphase : (s.turnPhase q).phases[p] = s.phases[p] :=
        phases_outlinePhase_ne (ne_of_mem_of_not_mem hp hq).symm s _ _
      refine coastsAfter_congr ?_ (congrArg Phase.tripped hphase)
        (ih hnodup (fun p hp => (hdriven' p).trans (hdriven p (List.mem_cons_of_mem _ hp))) (by rw [houtline, hcoasting])
          p hp)
      unfold State.hasUpdates
      rw [hphase, hclocks]

theorem mem_drivePhases {p : PhaseId} (h : 9 ≤ p.val) : p ∈ [(9 : PhaseId), 10, 11] := by
  revert p
  decide

theorem outlineDrivenPhase_turns {s : State} {p : PhaseId} (hturns : s.outlineTurns = true) (h : 9 ≤ p.val) :
    s.outlineDrivenPhase p = true := by
  unfold State.outlineDrivenPhase
  rw [hturns, Nat.ble_eq_true_of_le h]
  rfl

theorem outlineNoTransition_eq {s : State} (hturns : s.outlineTurns = true) (hsupply : s.outlineSupply = true)
    (hcoasting : s.outline.coasting = false) : s.outlineNoTransition =
      (s.setOutline { s.outline with coasting := true }).driveOutline.bump 0x3440 9 := by
  unfold State.outlineNoTransition
  rw [hturns, hsupply, hcoasting]
  rfl

theorem outlineNoTransition_coasts {s : State} (hc : Safety.canonical s = true) (hturns : s.outlineTurns = true)
    (hsupply : s.outlineSupply = true) (hcoasting : s.outline.coasting = false) :
    Safety.completes .outlineNoTransitionTimeout s fun t =>
      t.outline.coasting = true ∧ t.obj 0x3440 9 = countNext (objKey 0x3440 9) (s.obj 0x3440 9) ∧
        ∀ p : PhaseId, 9 ≤ p.val → t.phases[p].outlineWant = 0 ∧ (s.hasUpdates p = false →
          t.phases[p].outH = false ∧ (s.phases[p].tripped = false → t.phases[p].outL = false)) := by
  have hturns' : (s.setOutline { s.outline with coasting := true }).outlineTurns = true := hturns
  have hcount : Holds (s.setOutline { s.outline with coasting := true }) 0x3440 9 (s.obj 0x3440 9) := ⟨hc, rfl⟩
  refine ⟨_, congrArg Host.Outcome.next (outlineNoTransition_eq hturns hsupply hcoasting), ?_, ?_, fun p hp => ?_⟩
  · exact congrArg Outline.coasting (driveOutline_outline _)
  · exact (hcount.keeps (State.driveOutline_keeps (maskLe_refl _) (Keeps.refl _ _)) rfl).bump.2
  · have hcoasts := turnPhases_coast (s := s.setOutline { s.outline with coasting := true })
      (l := [(9 : PhaseId), 10, 11]) (by decide) (fun p hp => outlineDrivenPhase_turns hturns' (by revert p; decide)) rfl
      p (mem_drivePhases hp)
    rw [← driveOutline_turns hturns'] at hcoasts
    exact hcoasts

theorem startTurning_coasting (s : State) : s.startTurning.outline.coasting = false := by
  unfold State.startTurning
  dsimp only
  rw [settleOutlines_outline, driveStore_outline, driveOutline_outline]
  rfl

theorem outlineRestart_turns {s : State} (hturns : s.outlineTurns = true) (hcoasting : s.outline.coasting = true) :
    Safety.completes .outlineRestartTimeout s fun t => t.outline.coasting = false := by
  have hgate : (s.outlineTurns && s.outline.coasting) = true := by rw [hturns, hcoasting]; rfl
  exact ⟨_, if_pos hgate, startTurning_coasting s⟩

/-! ### The store under the Outline controller (R487) -/

/-- A bus below the lower threshold is supported, one above the upper threshold is not, and between them nothing changes. -/
theorem busSupport_supporting {s : State} (mv : Nat) (hactive : s.outline.active = true) (hstore : s.outline.store = true) :
    (s.busSupport mv).outline.supporting = (decide ((mv : Int) < s.outlineValue 0x2340 9) ||
      (s.outline.supporting && !decide (s.outlineValue 0x2340 0x0A < (mv : Int)))) := by
  have hgate : (if s.outline.active then s.outline.store else s.outline.startedStore) = true :=
    (if_pos hactive).trans hstore
  unfold State.busSupport
  rw [if_pos hgate]
  dsimp only
  rw [driveStore_outline]
  rfl

theorem busSupport_off {s : State} (mv : Nat) (hactive : s.outline.active = true) (hstore : s.outline.store = false) :
    s.busSupport mv = s := by
  have hgate : (if s.outline.active then s.outline.store else s.outline.startedStore) = false :=
    (if_pos hactive).trans hstore
  exact if_neg (ne_true_of_eq_false hgate)

theorem outlineBusSupportCrossing_supports {mv : BitVec 12} {s : State} (hactive : s.outline.active = true)
    (hstore : s.outline.store = true) (hlow : (mv.toNat : Int) < s.outlineValue 0x2340 9) :
    Safety.completes (.outlineBusSupportCrossing mv) s fun t => t.outline.supporting = true := by
  refine ⟨_, rfl, (busSupport_supporting mv.toNat hactive hstore).trans ?_⟩
  rw [decide_eq_true hlow]
  rfl

theorem outlineBusSupportCrossing_ends {mv : BitVec 12} {s : State} (hactive : s.outline.active = true)
    (hstore : s.outline.store = true) (hlow : s.outlineValue 0x2340 9 ≤ (mv.toNat : Int))
    (hhigh : s.outlineValue 0x2340 0x0A < (mv.toNat : Int)) :
    Safety.completes (.outlineBusSupportCrossing mv) s fun t => t.outline.supporting = false := by
  refine ⟨_, rfl, (busSupport_supporting mv.toNat hactive hstore).trans ?_⟩
  rw [decide_eq_false (Int.not_lt.2 hlow), decide_eq_true hhigh, Bool.not_true, Bool.and_false]
  rfl

end Sys2Proof.Machine

namespace Sys2Proof

open Machine

/-- Settles O24: each clause is the law of its command above. -/
theorem driveRailActs : Obligations.DriveRailActs := by
  unfold Obligations.DriveRailActs
  refine ⟨?notServing, ?forward, ?backward, ?illegal, ?sequence, ?zeroSpeed, ?reversal, ?noReversal, ?stall, ?coast,
    ?restart, ?support, ?supportEnd, ?noStore⟩
  case notServing => exact fun code us s h => hallTransition_ignored h
  case forward => exact fun code us n m s hc hs hm hn hlt hnext => hallTransition_forward hc hs hm hn hlt hnext
  case backward => exact fun code us n m s hc hs hm hn hlt hprev => hallTransition_backward hc hs hm hn hlt hprev
  case illegal => exact fun code us s hc hs hnew hn => hallTransition_raisesIllegal hc hs hnew hn
  case sequence =>
    exact fun code us n m s hc hs hm hn hne hnext hprev => hallTransition_raisesSequence hc hs hm hn hne hnext hprev
  case zeroSpeed => exact fun us s hc hlong => zeroSpeedTimeout_stops hc hlong
  case reversal =>
    exact fun s hc hrev hrun hvr hslow hlow => reversalSwitch_switches hc hrev hrun hvr hslow hlow
  case noReversal => exact fun s h => reversalSwitch_ignored h
  case stall =>
    exact fun ms s hc hon hrun hstop hdemand hhold hlong hretry hlow =>
      stallTimeout_hiccups hc hon hrun hstop hdemand hhold hlong hretry hlow
  case coast => exact fun s hc hturns hsupply hcoast => outlineNoTransition_coasts hc hturns hsupply hcoast
  case restart => exact fun s hturns hcoast => outlineRestart_turns hturns hcoast
  case support => exact fun mv s hactive hstore hlow => outlineBusSupportCrossing_supports hactive hstore hlow
  case supportEnd =>
    exact fun mv s hactive hstore hlow hhigh => outlineBusSupportCrossing_ends hactive hstore hlow hhigh
  case noStore => exact fun mv s hactive hstore => congrArg Host.Outcome.next (busSupport_off mv.toNat hactive hstore)

end Sys2Proof
end

section
/-! GSP frames (O38, O39, O40, O43): COBS, the CRC, what the device lays out and what it discards. -/

namespace Sys2Proof.Machine

/-! ### COBS (R547) -/

/-- The bytes of an open block are taken as they stand, and what follows the block is decoded after them. -/
theorem cobsRun_block (acc tail : List Byte) (z : Bool) (h : 0 ∉ acc) :
    cobsRun acc.length z (acc ++ tail) = (cobsRun 0 z tail).map (acc ++ ·) := by
  induction acc with
  | nil => simp
  | cons b acc ih =>
    rw [List.mem_cons, not_or] at h
    rw [List.cons_append, List.length_cons, cobsRun, if_neg (Nat.succ_ne_zero _), if_neg (Ne.symm h.1),
      Nat.add_sub_cancel, ih h.2, Option.map_map]
    rfl

/-- A code block decodes to its bytes, and a zero follows them where the block is not full. -/
theorem cobsRun_cobsBlock (acc tail : List Byte) (z : Bool) (h : 0 ∉ acc) (hlen : acc.length ≤ 254) :
    cobsRun 0 z (cobsBlock acc ++ tail) =
      (cobsRun 0 (acc.length != 254) tail).map fun t => if z then 0 :: (acc ++ t) else acc ++ t := by
  have hcode : (BitVec.ofNat 8 (acc.length + 1)).toNat = acc.length + 1 := by
    rw [BitVec.toNat_ofNat]
    omega
  have hne : BitVec.ofNat 8 (acc.length + 1) ≠ 0 := fun e => by
    have := congrArg BitVec.toNat e
    rw [hcode] at this
    exact absurd this (Nat.succ_ne_zero _)
  have hfull : (acc.length + 1 != 255) = (acc.length != 254) := by
    rw [Bool.eq_iff_iff, bne_iff_ne, bne_iff_ne]
    omega
  rw [cobsBlock, List.cons_append, cobsRun, if_pos rfl, if_neg hne, hcode, hfull, Nat.add_sub_cancel,
    cobsRun_block _ _ _ h]
  cases cobsRun 0 (acc.length != 254) tail <;> rfl

theorem not_mem_concat {acc : List Byte} {b : Byte} (h : 0 ∉ acc) (hb : b ≠ 0) : 0 ∉ acc ++ [b] := by
  rw [List.mem_append, List.mem_singleton, not_or]
  exact ⟨h, Ne.symm hb⟩

/-- What is encoded with the bytes `acc` open decodes to those bytes and the rest. -/
theorem cobsRun_cobsGo (l acc : List Byte) (z : Bool) (h : 0 ∉ acc) (hlen : acc.length ≤ 253) :
    cobsRun 0 z (cobsGo acc l) = some (if z then 0 :: (acc ++ l) else acc ++ l) := by
  induction l generalizing acc z with
  | nil =>
    have hrun := cobsRun_cobsBlock acc [] z h (by omega)
    rw [List.append_nil] at hrun
    simp [cobsGo, hrun, cobsRun]
  | cons b rest ih =>
    have hopen : (acc.length != 254) = true := bne_iff_ne.2 (by omega)
    rw [cobsGo]
    split
    · next hb =>
      rw [cobsRun_cobsBlock _ _ _ h (by omega), hopen, ih [] true List.not_mem_nil (by decide), hb]
      rfl
    · next hb =>
      split
      · next hfull =>
        have hblock := not_mem_concat h hb
        have hrest : cobsRun 0 false (if rest.isEmpty then [] else cobsGo [] rest) = some rest := by
          cases rest with
          | nil => rfl
          | cons c rest => exact ih [] false List.not_mem_nil (by decide)
        have hlast : (acc ++ [b]).length = 254 := by rw [List.length_append, hfull]; rfl
        rw [cobsRun_cobsBlock _ _ _ hblock hlast.le, hlast, show (254 != 254) = false from rfl, hrest, Option.map_some,
          List.append_assoc]
        rfl
      · next hfull =>
        have hnext : (acc ++ [b]).length ≤ 253 := by rw [List.length_append, List.length_singleton]; omega
        rw [ih (acc ++ [b]) z (not_mem_concat h hb) hnext, List.append_assoc]
        rfl

theorem zero_not_mem_cobsBlock {acc : List Byte} (h : 0 ∉ acc) (hlen : acc.length ≤ 254) : 0 ∉ cobsBlock acc := by
  rw [cobsBlock, List.mem_cons, not_or]
  refine ⟨fun e => ?_, h⟩
  have := congrArg BitVec.toNat e
  rw [BitVec.toNat_ofNat, Nat.mod_eq_of_lt (by omega)] at this
  exact absurd this.symm (Nat.succ_ne_zero _)

theorem zero_not_mem_cobsGo (l acc : List Byte) (h : 0 ∉ acc) (hlen : acc.length ≤ 253) : 0 ∉ cobsGo acc l := by
  induction l generalizing acc with
  | nil => exact zero_not_mem_cobsBlock h (by omega)
  | cons b rest ih =>
    have hnil : 0 ∉ cobsGo [] rest := ih [] List.not_mem_nil (by decide)
    rw [cobsGo]
    split
    · rw [List.mem_append, not_or]
      exact ⟨zero_not_mem_cobsBlock h (by omega), hnil⟩
    · next hb =>
      split
      · next hfull =>
        have hblock := zero_not_mem_cobsBlock (not_mem_concat h hb) (by simp [hfull])
        rw [List.mem_append, not_or]
        refine ⟨hblock, ?_⟩
        split
        · exact List.not_mem_nil
        · exact hnil
      · next hfull => exact ih _ (not_mem_concat h hb) (by rw [List.length_append]; simp; omega)

/-- One code byte for every 254 bytes, and one for the last block. -/
theorem length_cobsGo (l acc : List Byte) (hlen : acc.length ≤ 253) :
    (cobsGo acc l).length ≤ acc.length + l.length + 1 + (acc.length + l.length) / 254 := by
  induction l generalizing acc with
  | nil => simp [cobsGo, cobsBlock]
  | cons b rest ih =>
    have hnil := ih [] (by decide)
    have hopen := ih (acc ++ [b])
    simp only [List.length_append, List.length_cons, List.length_nil] at hnil hopen ⊢
    rw [cobsGo]
    split
    · rw [List.length_append, cobsBlock, List.length_cons]
      omega
    · split
      · rw [List.length_append, cobsBlock, List.length_cons, List.length_append]
        split <;> simp only [List.length_cons, List.length_nil] <;> omega
      · have := hopen (by omega)
        omega

theorem cobsDecode_delimited (body : List Byte) : cobsDecode (body ++ [0]) = cobsRun 0 false body := by
  simp [cobsDecode]

theorem cobsDecode_cobsEncode (l : List Byte) : cobsDecode (cobsEncode l) = some l := by
  rw [cobsEncode, cobsDecode_delimited, cobsRun_cobsGo l [] false List.not_mem_nil (by decide)]
  rfl

/-! ### The CRC (R548) -/

theorem crcShifts_eq_foldl {w : Nat} (poly c : BitVec w) (n : Nat) :
    crcShifts poly n c = (List.range n).foldl (fun c _ => crcShift poly c) c := by
  induction n generalizing c with
  | zero => rfl
  | succ n ih => rw [crcShifts, ih, List.range_succ_eq_map, List.foldl_cons, List.foldl_map]

/-- A byte more is taken into the upper half of the register, which is then shifted eight times. -/
theorem crc16_concat (l : List Byte) (b : Byte) : crc16 (l ++ [b]) =
    ((List.range 8).foldl (fun (c : BitVec 16) _ => if c.msb then (c <<< 1) ^^^ 0x1021#16 else c <<< 1)
      (BitVec.ofNat 16 (crc16 l) ^^^ (BitVec.setWidth 16 b <<< 8))).toNat := by
  have hregister : BitVec.ofNat 16 (crc16 l) = crcMsb 0x1021#16 0xFFFF#16 l := by
    rw [crc16, BitVec.ofNat_toNat, BitVec.setWidth_eq]
  rw [hregister, crc16, crcMsb, List.foldl_append, List.foldl_cons, List.foldl_nil, crcShifts_eq_foldl]
  rfl

theorem crc16_lt (l : List Byte) : crc16 l < 65536 := BitVec.isLt _

/-! ### The parse of decoded bytes (R547, R549) -/

theorem length_leBytes (n v : Nat) : (leBytes n v).length = n := by
  induction n generalizing v with
  | zero => rfl
  | succ n ih => rw [leBytes, List.length_cons, ih]

theorem gspParse_length {l : List Byte} (h : l.length < 11 ∨ 523 < l.length) : gspParse l = none := if_pos h

/-- Decoded bytes of an admissible length parse where their last two bytes are the CRC of the others. -/
theorem gspParse_concat {body : List Byte} {crc : Nat} (hcrc : crc < 65536) (hmin : 9 ≤ body.length)
    (hmax : body.length ≤ 521) : gspParse (body ++ leBytes 2 crc) =
      if crc16 body ≠ crc then none
      else some ⟨byteAt (body ++ leBytes 2 crc) 0,
        byteAt (body ++ leBytes 2 crc) 1 + 256 * byteAt (body ++ leBytes 2 crc) 2, byteAt (body ++ leBytes 2 crc) 3,
        byteAt (body ++ leBytes 2 crc) 4 + 256 * byteAt (body ++ leBytes 2 crc) 5, byteAt (body ++ leBytes 2 crc) 6,
        byteAt (body ++ leBytes 2 crc) 7 + 256 * byteAt (body ++ leBytes 2 crc) 8, body.drop 9, crc⟩ := by
  have hlen : (body ++ leBytes 2 crc).length = body.length + 2 := by rw [List.length_append, length_leBytes]
  have hnat : leNat (leBytes 2 crc) = crc := (leNat_leBytes 2 crc).trans (Nat.mod_eq_of_lt hcrc)
  rw [gspParse, if_neg (by omega), hlen, Nat.add_sub_cancel, List.take_left, List.drop_left, hnat]

theorem gspParse_badCrc (body : List Byte) {crc : Nat} (hcrc : crc < 65536) (h : crc ≠ crc16 body) :
    gspParse (body ++ leBytes 2 crc) = none := by
  by_cases hlen : 9 ≤ body.length ∧ body.length ≤ 521
  · rw [gspParse_concat hcrc hlen.1 hlen.2, if_pos h.symm]
  · refine gspParse_length ?_
    rw [List.length_append, length_leBytes]
    omega

/-! ### The frames the device lays out (R547) -/

/-- The bytes of a frame that its CRC covers. -/
def gspBody (seq type ix sub : Nat) (payload : List Byte) : List Byte :=
  1 :: leBytes 2 seq ++ leBytes 1 type ++ leBytes 2 ix ++ leBytes 1 sub ++ leBytes 2 payload.length ++ payload

theorem gspFrame_eq (seq type ix sub : Nat) (payload : List Byte) : gspFrame seq type ix sub payload =
    cobsEncode (gspBody seq type ix sub payload ++ leBytes 2 (crc16 (gspBody seq type ix sub payload))) := rfl

theorem gspBody_eq (seq type ix sub : Nat) (payload : List Byte) : gspBody seq type ix sub payload =
    [1, BitVec.ofNat 8 seq, BitVec.ofNat 8 (seq / 256), BitVec.ofNat 8 type, BitVec.ofNat 8 ix,
      BitVec.ofNat 8 (ix / 256), BitVec.ofNat 8 sub, BitVec.ofNat 8 payload.length,
      BitVec.ofNat 8 (payload.length / 256)] ++ payload := rfl

theorem length_gspBody (seq type ix sub : Nat) (payload : List Byte) :
    (gspBody seq type ix sub payload).length = 9 + payload.length := by
  rw [gspBody_eq, List.length_append]
  rfl

/-- A frame laid out passes its CRC, and each of its fields is read back. -/
theorem gspParse_gspBody {seq type ix sub : Nat} {payload : List Byte} (hseq : seq < 65536) (htype : type < 256)
    (hix : ix < 65536) (hsub : sub < 256) (hlen : payload.length ≤ 512) :
    gspParse (gspBody seq type ix sub payload ++ leBytes 2 (crc16 (gspBody seq type ix sub payload))) =
      some ⟨1, seq, type, ix, sub, payload.length, payload, crc16 (gspBody seq type ix sub payload)⟩ := by
  have hbody := length_gspBody seq type ix sub payload
  have hword {v : Nat} (h : v < 65536) : v % 256 + 256 * (v / 256 % 256) = v := by omega
  rw [gspParse_concat (crc16_lt _) (by omega) (by omega), if_neg (not_not.2 rfl)]
  simp [gspBody_eq, byteAt, Nat.mod_eq_of_lt htype, Nat.mod_eq_of_lt hsub, hword hseq, hword hix,
    hword (by omega : payload.length < 65536)]

/-! ### Frames that are discarded (R549) -/

/-- Every row that brings the server a frame serves it by the type it carries. -/
theorem exec_gspRows {frame : List Byte} {c : Instr} (s : State) (h : c ∈ Safety.gspRows frame) :
    exec c s = .next (s.gspFrameIn frame) := by
  simp only [Safety.gspRows, List.mem_cons, List.not_mem_nil, or_false] at h
  rcases h with rfl | rfl | rfl | rfl | rfl | rfl | rfl <;> rfl

/-- A frame that is taken is counted, and then served or discarded by what it decodes to. -/
theorem gspFrameIn_eq {frame : List Byte} {s : State} (hframe : frame ≠ []) (hreach : s.reaches .gsp = true) :
    s.gspFrameIn frame = match cobsDecode (frame ++ [0]) with
      | none => (s.bump 0x2510 6).bump 0x2510 7
      | some bytes => (s.bump 0x2510 6).gspDecoded bytes := by
  have hgate : (frame.isEmpty || !s.reaches .gsp) = false := by
    rw [hreach, List.isEmpty_eq_false_iff.2 hframe]
    rfl
  unfold State.gspFrameIn
  rw [hgate]
  rfl

/-- A frame that decodes to no GSP frame is counted twice, as received and as invalid, and nothing else. -/
theorem gspFrameIn_invalid {frame : List Byte} {s : State} (hframe : frame ≠ []) (hreach : s.reaches .gsp = true)
    (hbad : (cobsDecode (frame ++ [0])).bind gspParse = none) :
    s.gspFrameIn frame = (s.bump 0x2510 6).bump 0x2510 7 := by
  rw [gspFrameIn_eq hframe hreach]
  cases hdecode : cobsDecode (frame ++ [0]) with
  | none => rfl
  | some bytes =>
    have hparse : gspParse bytes = none := by rwa [hdecode] at hbad
    show (s.bump 0x2510 6).gspDecoded bytes = _
    unfold State.gspDecoded
    rw [hparse]

theorem obj_gspInvalid {s : State} (hc : Safety.canonical s = true) :
    ((s.bump 0x2510 6).bump 0x2510 7).obj 0x2510 7 = countNext (objKey 0x2510 7) (s.obj 0x2510 7) := by
  rw [obj_bump _ _ (canonical_bump _ _ hc), obj_bump_ne hc (by decide)]

end Sys2Proof.Machine

namespace Sys2Proof

open Machine

/-- Settles O38: the decoder of blocks inverts the encoder under every open block, and no code byte is 0x00. -/
theorem cobsFramesDecode : Obligations.CobsFramesDecode := by
  unfold Obligations.CobsFramesDecode
  exact fun l => ⟨cobsDecode_cobsEncode l, _, rfl, zero_not_mem_cobsGo l [] List.not_mem_nil (by decide)⟩

/-- Settles O39: a frame is the COBS encoding of its body and the body's CRC, and the parse reads the body back. -/
theorem gspFramesParse : Obligations.GspFramesParse := by
  unfold Obligations.GspFramesParse
  intro seq ix type sub payload hlen
  rw [gspFrame_eq]
  refine ⟨_, _, cobsDecode_cobsEncode _, gspParse_gspBody seq.isLt type.isLt ix.isLt sub.isLt hlen, ?_, rfl, rfl, rfl,
    rfl, rfl, rfl, rfl⟩
  rw [List.length_append, length_gspBody, length_leBytes]
  omega

/-- Settles O40: the parse has the length and the CRC as its gates, and a frame that yields nothing is only counted. -/
theorem badGspFramesAreDiscarded : Obligations.BadGspFramesAreDiscarded := by
  unfold Obligations.BadGspFramesAreDiscarded
  refine ⟨fun body crc => gspParse_badCrc body crc.isLt, fun l => gspParse_length, ?_⟩
  intro frame c s hc hframe hreach hrow hbad
  refine ⟨_, (exec_gspRows s hrow).trans (congrArg _ (gspFrameIn_invalid hframe hreach hbad)), rfl, rfl, rfl, ?_⟩
  exact obj_gspInvalid hc

/-- Settles O43: the CRC is the fold of its shifts, and a block of COBS costs one byte. -/
theorem gspCrcAndLength : Obligations.GspCrcAndLength := by
  unfold Obligations.GspCrcAndLength
  refine ⟨rfl, crc16_concat, by decide +kernel, fun l h => ?_⟩
  have hlen := length_cobsGo l [] (by decide)
  rw [List.length_nil] at hlen
  rw [cobsEncode, List.length_append, List.length_singleton]
  omega

end Sys2Proof
end

section
/-! The extent of every command (O37), and a step on an empty queue (O33, O41). -/

namespace Sys2Proof.Machine

/-! ### Every command answers a next state -/

/-- The outcome is a next state, no fault and no refusal. -/
def Answers (o : Host.Outcome State Fault Refusal) : Prop := ∃ t, o = .next t

theorem answers_next {t : State} : Answers (.next t) := ⟨t, rfl⟩

theorem answers_ite {c : Prop} [Decidable c] {a b : Host.Outcome State Fault Refusal} (ha : Answers a)
    (hb : Answers b) : Answers (if c then a else b) := by
  split <;> assumption

/-- Every command answers a next state: most arms are one, or a choice between two. -/
theorem exec_answers (c : Instr) (s : State) : Answers (exec c s) :=
  match c with
  | .objectWrite .. | .sdoDownloadInitiate .. | .sdoDownloadSegment .. | .sdoUploadInitiate ..
    | .sdoUploadSegment .. | .sdoAbortTransfer .. | .sdoTransferTimeout .. | .emcyInhibitExpiry ..
    | .errorHistoryClear .. | .storeParameters .. | .restoreDefaults .. | .resetEffect .. | .wetHoldOverride ..
    | .powerFailWarning .. | .powerStateWrite .. | .mainsZeroCrossing .. | .basePeriodStart .. | .graticuleScan ..
    | .graticuleEntryWrite .. | .relayCommandImmediate .. | .relayCommandAtBearing .. | .relayFeedbackTransition ..
    | .gpioModeWrite .. | .gpioLevelWrite .. | .phaseCurrentTrigger .. | .phaseCurrentConversionDone ..
    | .overcurrentCrossing .. | .windowErrorReady .. | .absoluteBlockComplete .. | .auxResult .. | .pwmZero ..
    | .pwmMidUpdate .. | .pwmCmpa .. | .deadTimeAdapt .. | .tripInputActive .. | .tripClear .. | .forceBothOff ..
    | .forceHighOn .. | .forceLowOn .. | .forceNone .. | .railEnableOn .. | .railSoftOff .. | .railHardOff ..
    | .engineSampleBoundary .. | .targetWrite .. | .profileStart .. | .profileAbort .. | .envelopeWrite ..
    | .hiccupDelayExpiry .. | .shedDwellExpiry .. | .avsVoltageWrite .. | .avsVoltageRead ..
    | .avsVoutTransRateWrite .. | .avsVoutTransRateRead .. | .avsCurrentRead .. | .avsTemperatureRead ..
    | .avsResetVoltage .. | .avsPowerModeWrite .. | .avsPowerModeRead .. | .avsStatusRead ..
    | .oscillationDetection .. | .returnToPrimary .. | .chatterDetection .. | .contourCommit .. | .reliefCommit ..
    | .sampleWatchdogExpiry .. | .zeroSpeedTimeout .. | .stallTimeout .. | .directionWrite .. | .reversalSwitch ..
    | .outlineNoTransitionTimeout .. | .outlineBusSupportCrossing .. | .encoderCount .. | .encoderIndex ..
    | .ringFrameSend .. | .ringFrameReceived .. | .ringLeadListenEnd .. | .ringLock .. | .ringDiscoveryEnd ..
    | .ringMemberLost .. | .ringBreak .. | .ringPortEnable .. | .ringPortDisable .. | .ringLeaveComplete ..
    | .decimatedSample .. | .coherentSample .. | .sensorFaultDetected .. | .sensorFaultCleared ..
    | .calibrationStore .. | .totalsSaveNow .. | .totalsReset .. | .dcEnergyReset .. | .energySectorEraseComplete ..
    | .epulseStart .. | .epulseEnd .. | .supplyQualityClearCounts .. | .eventResponseWrite .. | .eventClear ..
    | .eventClearAll .. | .acknowledge .. | .interruptClear .. | .outlineEnter .. | .outlineLeave ..
    | .outlineSetCommit .. | .functionReinitialise .. | .functionDisable .. | .functionDisableHard ..
    | .functionEnable .. | .powerCycleRequest .. | .stagingEntryEligible .. | .logErase .. | .logCursorWrite ..
    | .calendarTimeWrite .. | .rtcTrimWrite .. | .lseStopTimeout .. | .usbDetach .. | .gspRead .. | .gspWrite ..
    | .gspBlockRead .. | .gspBlockWrite .. | .gspSubscribe .. | .gspUnsubscribe .. | .gspPing ..
    | .sessionChallenge .. | .sessionResponse .. | .sessionClose .. | .sessionIdleTimeout .. | .nonceExpiry ..
    | .sessionLockoutExpiry .. | .keyWrite .. | .accessMapCommit .. | .lifecycleToOemBuild .. | .lifecycleToField ..
    | .lifecycleToService .. | .lifecycleToRetired .. | .firmwareDownload .. | .programStart .. | .programClear ..
    | .activateBank .. | .confirmBank .. | .referenceRisingEdge .. => answers_next
  | .nmtStart .. | .nmtEnterPreOperational .. | .nmtStop .. | .nmtResetCommunication .. | .nmtResetNode ..
    | .heartbeatPeriodExpiry .. | .heartbeatReceived .. | .heartbeatTimeout .. | .canBusOff .. | .canBusRecovered ..
    | .canErrorPassive .. | .errorPassiveTimeout .. | .canRxOverrun .. | .usdoRequest .. | .rpdoReceived ..
    | .syncReceived .. | .syncPeriodExpiry .. | .tpdoSyncWindowExpiry .. | .tpdoInhibitExpiry ..
    | .tpdoEventTimerExpiry .. | .timeReceived .. | .storeComplete .. | .restoreComplete .. | .lssSwitchState ..
    | .lssInquireIdentity .. | .lssFastscan .. | .crystalQualified .. | .crystalNotQualified .. | .crystalLoss ..
    | .pllLoss .. | .pllLockTimeout .. | .usbStartOfFrame .. | .vinRise .. | .vinFall .. | .vbusRise ..
    | .vbusFall .. | .vinRestoredTimer .. | .sleepWake .. | .resetPin .. | .resetRelease .. | .surveyStart ..
    | .selfTestComplete .. | .metrologySettled .. | .fullService .. | .dewCheckComplete .. | .dewCheckRepeat ..
    | .powerFailFlushComplete .. | .powerFailWarningClear .. | .watchdogExpiry .. | .thermalReset ..
    | .thermalRelease .. | .junctionTemperatureHigh .. | .standbyToIdle .. | .idleToRun .. | .runToIdle ..
    | .idleToStandby .. | .standbyToSleep .. | .standbyToOff .. | .vpwmLow .. | .vpwmRestored ..
    | .mainsCrossingTimeout .. | .flywheelTimeout .. | .graticuleSupervisorAction .. | .vsnsWindowTimeout ..
    | .vsnsMismatch .. | .vsnsOpen .. | .vsnsOpenEnd .. | .auxTriggeredResult .. | .pwmPeriod .. | .pwmCmpb ..
    | .nodeTransition .. | .nodeMissLimit .. | .dtAdaptLimit .. | .profileStepHoldExpiry ..
    | .protectionConditionCounted .. | .hiccupResetTimeExpiry .. | .hallTransition .. | .outlineRestartTimeout ..
    | .ringNoLead .. | .ringLeadRecovery .. | .halfCyclePublication .. | .calibrationStoreComplete ..
    | .periodicTotalsSave .. | .totalsCopyComplete .. | .eventRaise .. | .eventConditionEnd ..
    | .fifoEntryProcess .. | .overflowRequeue .. | .outlineSetCommitComplete .. | .safeInputFall .. | .safeSample ..
    | .safeFilterChange .. | .discrepancyFault .. | .permitGrant .. | .powerCycleAssert .. | .powerCycleRelease ..
    | .flashGranuleComplete .. | .logSectorEraseComplete .. | .logEraseComplete .. | .logReadFromCursor ..
    | .logReadAtCursor .. | .logSnapshotRead .. | .rtcTrimStep .. | .usbConfigured .. | .usbBusReset ..
    | .usbSuspend .. | .gspBlockTimeout .. | .bankEraseComplete .. | .trialTimeout .. | .frameReferenceTimeout ..
    | .vbatFall .. | .vbatRise .. | .lseStart .. | .pllLocked .. | .externalSectorEraseComplete ..
    | .accessMapStoreComplete .. | .keyStoreComplete .. | .usbResume .. | .usbAddressSet ..
    | .usbInTransferComplete .. => answers_ite answers_next answers_next
  | .tpdoValueChange .. | .lssConfigureNodeId .. | .lssConfigureBitTiming .. | .lssStoreConfiguration .. =>
    answers_ite (answers_ite answers_next answers_next) answers_next
  | .functionStopped .. => answers_ite answers_next (answers_ite answers_next answers_next)
  | .lssActivateBitTiming delay => by
    show Answers (execLssActivateBitTiming delay s)
    unfold execLssActivateBitTiming
    split
    · exact answers_ite answers_next answers_next
    · exact answers_next
  | .readDeferralTimeout => by
    show Answers (execReadDeferralTimeout s)
    unfold execReadDeferralTimeout
    split <;> exact answers_next
  | .externalLogWriteComplete ok status => by
    show Answers (execExternalLogWriteComplete ok status s)
    unfold execExternalLogWriteComplete
    split
    · exact answers_next
    · exact answers_ite answers_next answers_next
  | .canFrameTransmitted => by
    show Answers (execCanFrameTransmitted s)
    unfold execCanFrameTransmitted
    split
    · exact answers_next
    · exact answers_ite answers_next answers_next

/-! ### Every command stays in its extent -/

/-- Every command keeps what its row of the table of extents does not name. -/
theorem exec_extent (c : Instr) (s : State) :
    ∃ W, Keeps.Out W s (exec c s) ∧ allows (Safety.extent c) W = true :=
  match c with
  | .objectWrite .. => ⟨_, execObjectWrite_keeps .., rfl⟩
  | .nmtStart .. => ⟨_, execNmtStart_keeps .., rfl⟩
  | .nmtEnterPreOperational .. => ⟨_, execNmtEnterPreOperational_keeps .., rfl⟩
  | .nmtStop .. => ⟨_, execNmtStop_keeps .., rfl⟩
  | .nmtResetCommunication .. => ⟨_, execNmtResetCommunication_keeps .., rfl⟩
  | .nmtResetNode .. => ⟨_, execNmtResetNode_keeps .., rfl⟩
  | .heartbeatPeriodExpiry => ⟨_, execHeartbeatPeriodExpiry_keeps .., rfl⟩
  | .heartbeatReceived node state => ⟨_, execHeartbeatReceived_keeps node state s, rfl⟩
  | .heartbeatTimeout .. => ⟨_, execHeartbeatTimeout_keeps .., rfl⟩
  | .canBusOff tec rec => ⟨_, execCanBusOff_keeps tec rec s, rfl⟩
  | .canBusRecovered => ⟨_, execCanBusRecovered_keeps .., rfl⟩
  | .canErrorPassive .. => ⟨_, execCanErrorPassive_keeps .., rfl⟩
  | .errorPassiveTimeout => ⟨_, execErrorPassiveTimeout_keeps .., rfl⟩
  | .canRxOverrun .. => ⟨_, execCanRxOverrun_keeps .., rfl⟩
  | .sdoDownloadInitiate .. => ⟨_, execSdoDownloadInitiate_keeps .., rfl⟩
  | .sdoDownloadSegment .. => ⟨_, execSdoDownloadSegment_keeps .., rfl⟩
  | .sdoUploadInitiate .. => ⟨_, execSdoUploadInitiate_keeps .., rfl⟩
  | .sdoUploadSegment .. => ⟨_, execSdoUploadSegment_keeps .., rfl⟩
  | .sdoAbortTransfer .. => ⟨_, execSdoAbortTransfer_keeps .., rfl⟩
  | .sdoTransferTimeout => ⟨_, execSdoTransferTimeout_keeps .., rfl⟩
  | .usdoRequest .. => ⟨_, execUsdoRequest_keeps .., rfl⟩
  | .rpdoReceived .. => ⟨_, execRpdoReceived_keeps .., rfl⟩
  | .syncReceived counter => ⟨_, execSyncReceived_keeps counter s, rfl⟩
  | .syncPeriodExpiry => ⟨_, execSyncPeriodExpiry_keeps .., rfl⟩
  | .tpdoSyncWindowExpiry .. => ⟨_, execTpdoSyncWindowExpiry_keeps .., rfl⟩
  | .tpdoValueChange .. => ⟨_, execTpdoValueChange_keeps .., rfl⟩
  | .tpdoInhibitExpiry .. => ⟨_, execTpdoInhibitExpiry_keeps .., rfl⟩
  | .tpdoEventTimerExpiry .. => ⟨_, execTpdoEventTimerExpiry_keeps .., rfl⟩
  | .timeReceived .. => ⟨_, execTimeReceived_keeps .., rfl⟩
  | .emcyInhibitExpiry => ⟨_, execEmcyInhibitExpiry_keeps .., rfl⟩
  | .errorHistoryClear .. => ⟨_, execErrorHistoryClear_keeps .., rfl⟩
  | .storeParameters .. => ⟨_, execStoreParameters_keeps .., rfl⟩
  | .storeComplete => ⟨_, execStoreComplete_keeps .., rfl⟩
  | .restoreDefaults .. => ⟨_, execRestoreDefaults_keeps .., rfl⟩
  | .restoreComplete => ⟨_, execRestoreComplete_keeps .., rfl⟩
  | .lssSwitchState .. => ⟨_, execLssSwitchState_keeps .., rfl⟩
  | .lssConfigureNodeId .. => ⟨_, execLssConfigureNodeId_keeps .., rfl⟩
  | .lssConfigureBitTiming .. => ⟨_, execLssConfigureBitTiming_keeps .., rfl⟩
  | .lssActivateBitTiming delay => ⟨_, execLssActivateBitTiming_keeps delay s, rfl⟩
  | .lssStoreConfiguration => ⟨_, execLssStoreConfiguration_keeps .., rfl⟩
  | .lssInquireIdentity .. => ⟨_, execLssInquireIdentity_keeps .., rfl⟩
  | .lssFastscan .. => ⟨_, execLssFastscan_keeps .., rfl⟩
  | .crystalQualified => ⟨_, execCrystalQualified_keeps .., rfl⟩
  | .crystalNotQualified => ⟨_, execCrystalNotQualified_keeps .., rfl⟩
  | .crystalLoss => ⟨_, execCrystalLoss_keeps .., rfl⟩
  | .pllLoss => ⟨_, execPllLoss_keeps .., rfl⟩
  | .pllLockTimeout => ⟨_, execPllLockTimeout_keeps .., rfl⟩
  | .usbStartOfFrame => ⟨_, execUsbStartOfFrame_keeps .., rfl⟩
  | .vinRise .. => ⟨_, execVinRise_keeps .., rfl⟩
  | .vinFall .. => ⟨_, execVinFall_keeps .., rfl⟩
  | .vbusRise .. => ⟨_, execVbusRise_keeps .., rfl⟩
  | .vbusFall .. => ⟨_, execVbusFall_keeps .., rfl⟩
  | .vinRestoredTimer => ⟨_, execVinRestoredTimer_keeps .., rfl⟩
  | .sleepWake .. => ⟨_, execSleepWake_keeps .., rfl⟩
  | .resetPin => ⟨_, execResetPin_keeps .., rfl⟩
  | .resetEffect => ⟨_, execResetEffect_keeps .., rfl⟩
  | .resetRelease => ⟨_, execResetRelease_keeps .., rfl⟩
  | .surveyStart .. => ⟨_, execSurveyStart_keeps .., rfl⟩
  | .selfTestComplete .. => ⟨_, execSelfTestComplete_keeps .., rfl⟩
  | .metrologySettled => ⟨_, execMetrologySettled_keeps .., rfl⟩
  | .fullService => ⟨_, execFullService_keeps .., rfl⟩
  | .dewCheckComplete .. => ⟨_, execDewCheckComplete_keeps .., rfl⟩
  | .dewCheckRepeat => ⟨_, execDewCheckRepeat_keeps .., rfl⟩
  | .wetHoldOverride .. => ⟨_, execWetHoldOverride_keeps .., rfl⟩
  | .powerFailWarning .. => ⟨_, execPowerFailWarning_keeps .., rfl⟩
  | .powerFailFlushComplete .. => ⟨_, execPowerFailFlushComplete_keeps .., rfl⟩
  | .powerFailWarningClear => ⟨_, execPowerFailWarningClear_keeps .., rfl⟩
  | .watchdogExpiry => ⟨_, execWatchdogExpiry_keeps .., rfl⟩
  | .thermalReset .. => ⟨_, execThermalReset_keeps .., rfl⟩
  | .thermalRelease => ⟨_, execThermalRelease_keeps .., rfl⟩
  | .junctionTemperatureHigh .. => ⟨_, execJunctionTemperatureHigh_keeps .., rfl⟩
  | .powerStateWrite .. => ⟨_, execPowerStateWrite_keeps .., rfl⟩
  | .standbyToIdle => ⟨_, execStandbyToIdle_keeps .., rfl⟩
  | .idleToRun => ⟨_, execIdleToRun_keeps .., rfl⟩
  | .runToIdle => ⟨_, execRunToIdle_keeps .., rfl⟩
  | .idleToStandby => ⟨_, execIdleToStandby_keeps .., rfl⟩
  | .standbyToSleep => ⟨_, execStandbyToSleep_keeps .., rfl⟩
  | .standbyToOff => ⟨_, execStandbyToOff_keeps .., rfl⟩
  | .vpwmLow .. => ⟨_, execVpwmLow_keeps .., rfl⟩
  | .vpwmRestored .. => ⟨_, execVpwmRestored_keeps .., rfl⟩
  | .mainsZeroCrossing .. => ⟨_, execMainsZeroCrossing_keeps .., rfl⟩
  | .mainsCrossingTimeout => ⟨_, execMainsCrossingTimeout_keeps .., rfl⟩
  | .flywheelTimeout => ⟨_, execFlywheelTimeout_keeps .., rfl⟩
  | .basePeriodStart => ⟨_, execBasePeriodStart_keeps .., rfl⟩
  | .graticuleScan => ⟨_, execGraticuleScan_keeps .., rfl⟩
  | .graticuleSupervisorAction => ⟨_, execGraticuleSupervisorAction_keeps .., rfl⟩
  | .graticuleEntryWrite .. => ⟨_, execGraticuleEntryWrite_keeps .., rfl⟩
  | .relayCommandImmediate .. => ⟨_, execRelayCommandImmediate_keeps .., rfl⟩
  | .relayCommandAtBearing .. => ⟨_, execRelayCommandAtBearing_keeps .., rfl⟩
  | .relayFeedbackTransition .. => ⟨_, execRelayFeedbackTransition_keeps .., rfl⟩
  | .gpioModeWrite .. => ⟨_, execGpioModeWrite_keeps .., rfl⟩
  | .gpioLevelWrite .. => ⟨_, execGpioLevelWrite_keeps .., rfl⟩
  | .phaseCurrentTrigger .. => ⟨_, execPhaseCurrentTrigger_keeps .., rfl⟩
  | .phaseCurrentConversionDone .. => ⟨_, execPhaseCurrentConversionDone_keeps .., rfl⟩
  | .overcurrentCrossing .. => ⟨_, execOvercurrentCrossing_keeps .., rfl⟩
  | .windowErrorReady .. => ⟨_, execWindowErrorReady_keeps .., rfl⟩
  | .vsnsWindowTimeout .. => ⟨_, execVsnsWindowTimeout_keeps .., rfl⟩
  | .vsnsMismatch .. => ⟨_, execVsnsMismatch_keeps .., rfl⟩
  | .absoluteBlockComplete .. => ⟨_, execAbsoluteBlockComplete_keeps .., rfl⟩
  | .vsnsOpen .. => ⟨_, execVsnsOpen_keeps .., rfl⟩
  | .vsnsOpenEnd .. => ⟨_, execVsnsOpenEnd_keeps .., rfl⟩
  | .auxResult .. => ⟨_, execAuxResult_keeps .., rfl⟩
  | .auxTriggeredResult .. => ⟨_, execAuxTriggeredResult_keeps .., rfl⟩
  | .pwmZero .. => ⟨_, execPwmZero_keeps .., rfl⟩
  | .pwmMidUpdate .. => ⟨_, execPwmMidUpdate_keeps .., rfl⟩
  | .pwmPeriod .. => ⟨_, execPwmPeriod_keeps .., rfl⟩
  | .pwmCmpa .. => ⟨_, execPwmCmpa_keeps .., rfl⟩
  | .pwmCmpb .. => ⟨_, execPwmCmpb_keeps .., rfl⟩
  | .nodeTransition .. => ⟨_, execNodeTransition_keeps .., rfl⟩
  | .deadTimeAdapt .. => ⟨_, execDeadTimeAdapt_keeps .., rfl⟩
  | .nodeMissLimit .. => ⟨_, execNodeMissLimit_keeps .., rfl⟩
  | .dtAdaptLimit .. => ⟨_, execDtAdaptLimit_keeps .., rfl⟩
  | .tripInputActive .. => ⟨_, execTripInputActive_keeps .., rfl⟩
  | .tripClear .. => ⟨_, execTripClear_keeps .., rfl⟩
  | .forceBothOff .. => ⟨_, execForceBothOff_keeps .., rfl⟩
  | .forceHighOn .. => ⟨_, execForceHighOn_keeps .., rfl⟩
  | .forceLowOn .. => ⟨_, execForceLowOn_keeps .., rfl⟩
  | .forceNone .. => ⟨_, execForceNone_keeps .., rfl⟩
  | .railEnableOn .. => ⟨_, execRailEnableOn_keeps .., rfl⟩
  | .railSoftOff .. => ⟨_, execRailSoftOff_keeps .., rfl⟩
  | .railHardOff .. => ⟨_, execRailHardOff_keeps .., rfl⟩
  | .engineSampleBoundary .. => ⟨_, execEngineSampleBoundary_keeps .., rfl⟩
  | .targetWrite .. => ⟨_, execTargetWrite_keeps .., rfl⟩
  | .profileStart .. => ⟨_, execProfileStart_keeps .., rfl⟩
  | .profileAbort .. => ⟨_, execProfileAbort_keeps .., rfl⟩
  | .profileStepHoldExpiry .. => ⟨_, execProfileStepHoldExpiry_keeps .., rfl⟩
  | .envelopeWrite .. => ⟨_, execEnvelopeWrite_keeps .., rfl⟩
  | .protectionConditionCounted .. => ⟨_, execProtectionConditionCounted_keeps .., rfl⟩
  | .hiccupDelayExpiry .. => ⟨_, execHiccupDelayExpiry_keeps .., rfl⟩
  | .hiccupResetTimeExpiry .. => ⟨_, execHiccupResetTimeExpiry_keeps .., rfl⟩
  | .shedDwellExpiry .. => ⟨_, execShedDwellExpiry_keeps .., rfl⟩
  | .avsVoltageWrite .. => ⟨_, execAvsVoltageWrite_keeps .., rfl⟩
  | .avsVoltageRead .. => ⟨_, execAvsVoltageRead_keeps .., rfl⟩
  | .avsVoutTransRateWrite .. => ⟨_, execAvsVoutTransRateWrite_keeps .., rfl⟩
  | .avsVoutTransRateRead .. => ⟨_, execAvsVoutTransRateRead_keeps .., rfl⟩
  | .avsCurrentRead .. => ⟨_, execAvsCurrentRead_keeps .., rfl⟩
  | .avsTemperatureRead .. => ⟨_, execAvsTemperatureRead_keeps .., rfl⟩
  | .avsResetVoltage .. => ⟨_, execAvsResetVoltage_keeps .., rfl⟩
  | .avsPowerModeWrite sel crcOk code => ⟨_, execAvsPowerModeWrite_keeps sel crcOk code s, rfl⟩
  | .avsPowerModeRead .. => ⟨_, execAvsPowerModeRead_keeps .., rfl⟩
  | .avsStatusRead .. => ⟨_, execAvsStatusRead_keeps .., rfl⟩
  | .oscillationDetection .. => ⟨_, execOscillationDetection_keeps .., rfl⟩
  | .returnToPrimary .. => ⟨_, execReturnToPrimary_keeps .., rfl⟩
  | .chatterDetection .. => ⟨_, execChatterDetection_keeps .., rfl⟩
  | .contourCommit .. => ⟨_, execContourCommit_keeps .., rfl⟩
  | .reliefCommit .. => ⟨_, execReliefCommit_keeps .., rfl⟩
  | .sampleWatchdogExpiry .. => ⟨_, execSampleWatchdogExpiry_keeps .., rfl⟩
  | .hallTransition .. => ⟨_, execHallTransition_keeps .., rfl⟩
  | .zeroSpeedTimeout .. => ⟨_, execZeroSpeedTimeout_keeps .., rfl⟩
  | .stallTimeout .. => ⟨_, execStallTimeout_keeps .., rfl⟩
  | .directionWrite .. => ⟨_, execDirectionWrite_keeps .., rfl⟩
  | .reversalSwitch => ⟨_, execReversalSwitch_keeps .., rfl⟩
  | .outlineNoTransitionTimeout => ⟨_, execOutlineNoTransitionTimeout_keeps .., rfl⟩
  | .outlineRestartTimeout => ⟨_, execOutlineRestartTimeout_keeps .., rfl⟩
  | .outlineBusSupportCrossing .. => ⟨_, execOutlineBusSupportCrossing_keeps .., rfl⟩
  | .encoderCount .. => ⟨_, execEncoderCount_keeps .., rfl⟩
  | .encoderIndex => ⟨_, execEncoderIndex_keeps .., rfl⟩
  | .ringFrameSend => ⟨_, execRingFrameSend_keeps .., rfl⟩
  | .ringFrameReceived .. => ⟨_, execRingFrameReceived_keeps .., rfl⟩
  | .ringLeadListenEnd .. => ⟨_, execRingLeadListenEnd_keeps .., rfl⟩
  | .ringLock => ⟨_, execRingLock_keeps .., rfl⟩
  | .ringNoLead => ⟨_, execRingNoLead_keeps .., rfl⟩
  | .ringDiscoveryEnd => ⟨_, execRingDiscoveryEnd_keeps .., rfl⟩
  | .ringMemberLost .. => ⟨_, execRingMemberLost_keeps .., rfl⟩
  | .ringBreak => ⟨_, execRingBreak_keeps .., rfl⟩
  | .ringLeadRecovery => ⟨_, execRingLeadRecovery_keeps .., rfl⟩
  | .ringPortEnable .. => ⟨_, execRingPortEnable_keeps .., rfl⟩
  | .ringPortDisable .. => ⟨_, execRingPortDisable_keeps .., rfl⟩
  | .ringLeaveComplete => ⟨_, execRingLeaveComplete_keeps .., rfl⟩
  | .decimatedSample .. => ⟨_, execDecimatedSample_keeps .., rfl⟩
  | .coherentSample .. => ⟨_, execCoherentSample_keeps .., rfl⟩
  | .halfCyclePublication => ⟨_, execHalfCyclePublication_keeps .., rfl⟩
  | .sensorFaultDetected .. => ⟨_, execSensorFaultDetected_keeps .., rfl⟩
  | .sensorFaultCleared .. => ⟨_, execSensorFaultCleared_keeps .., rfl⟩
  | .calibrationStore .. => ⟨_, execCalibrationStore_keeps .., rfl⟩
  | .calibrationStoreComplete => ⟨_, execCalibrationStoreComplete_keeps .., rfl⟩
  | .periodicTotalsSave => ⟨_, execPeriodicTotalsSave_keeps .., rfl⟩
  | .totalsSaveNow .. => ⟨_, execTotalsSaveNow_keeps .., rfl⟩
  | .totalsReset .. => ⟨_, execTotalsReset_keeps .., rfl⟩
  | .dcEnergyReset .. => ⟨_, execDcEnergyReset_keeps .., rfl⟩
  | .totalsCopyComplete .. => ⟨_, execTotalsCopyComplete_keeps .., rfl⟩
  | .energySectorEraseComplete => ⟨_, execEnergySectorEraseComplete_keeps .., rfl⟩
  | .epulseStart .. => ⟨_, execEpulseStart_keeps .., rfl⟩
  | .epulseEnd .. => ⟨_, execEpulseEnd_keeps .., rfl⟩
  | .supplyQualityClearCounts .. => ⟨_, execSupplyQualityClearCounts_keeps .., rfl⟩
  | .eventRaise .. => ⟨_, execEventRaise_keeps .., rfl⟩
  | .eventConditionEnd .. => ⟨_, execEventConditionEnd_keeps .., rfl⟩
  | .fifoEntryProcess => ⟨_, execFifoEntryProcess_keeps .., rfl⟩
  | .overflowRequeue => ⟨_, execOverflowRequeue_keeps .., rfl⟩
  | .eventResponseWrite .. => ⟨_, execEventResponseWrite_keeps .., rfl⟩
  | .eventClear .. => ⟨_, execEventClear_keeps .., rfl⟩
  | .eventClearAll .. => ⟨_, execEventClearAll_keeps .., rfl⟩
  | .acknowledge .. => ⟨_, execAcknowledge_keeps .., rfl⟩
  | .interruptClear .. => ⟨_, execInterruptClear_keeps .., rfl⟩
  | .outlineEnter .. => ⟨_, execOutlineEnter_keeps .., rfl⟩
  | .outlineLeave .. => ⟨_, execOutlineLeave_keeps .., rfl⟩
  | .outlineSetCommit .. => ⟨_, execOutlineSetCommit_keeps .., rfl⟩
  | .outlineSetCommitComplete => ⟨_, execOutlineSetCommitComplete_keeps .., rfl⟩
  | .safeInputFall .. => ⟨_, execSafeInputFall_keeps .., rfl⟩
  | .safeSample .. => ⟨_, execSafeSample_keeps .., rfl⟩
  | .safeFilterChange => ⟨_, execSafeFilterChange_keeps .., rfl⟩
  | .discrepancyFault => ⟨_, execDiscrepancyFault_keeps .., rfl⟩
  | .permitGrant => ⟨_, execPermitGrant_keeps .., rfl⟩
  | .functionReinitialise .. => ⟨_, execFunctionReinitialise_keeps .., rfl⟩
  | .functionDisable .. => ⟨_, execFunctionDisable_keeps .., rfl⟩
  | .functionDisableHard .. => ⟨_, execFunctionDisableHard_keeps .., rfl⟩
  | .functionEnable .. => ⟨_, execFunctionEnable_keeps .., rfl⟩
  | .functionStopped .. => ⟨_, execFunctionStopped_keeps .., rfl⟩
  | .powerCycleRequest .. => ⟨_, execPowerCycleRequest_keeps .., rfl⟩
  | .powerCycleAssert => ⟨_, execPowerCycleAssert_keeps .., rfl⟩
  | .powerCycleRelease => ⟨_, execPowerCycleRelease_keeps .., rfl⟩
  | .stagingEntryEligible .. => ⟨_, execStagingEntryEligible_keeps .., rfl⟩
  | .flashGranuleComplete => ⟨_, execFlashGranuleComplete_keeps .., rfl⟩
  | .logSectorEraseComplete => ⟨_, execLogSectorEraseComplete_keeps .., rfl⟩
  | .logErase .. => ⟨_, execLogErase_keeps .., rfl⟩
  | .logEraseComplete => ⟨_, execLogEraseComplete_keeps .., rfl⟩
  | .logCursorWrite .. => ⟨_, execLogCursorWrite_keeps .., rfl⟩
  | .logReadFromCursor .. => ⟨_, execLogReadFromCursor_keeps .., rfl⟩
  | .logReadAtCursor .. => ⟨_, execLogReadAtCursor_keeps .., rfl⟩
  | .logSnapshotRead .. => ⟨_, execLogSnapshotRead_keeps .., rfl⟩
  | .readDeferralTimeout => ⟨_, execReadDeferralTimeout_keeps .., rfl⟩
  | .externalLogWriteComplete .. => ⟨_, execExternalLogWriteComplete_keeps .., rfl⟩
  | .calendarTimeWrite .. => ⟨_, execCalendarTimeWrite_keeps .., rfl⟩
  | .rtcTrimWrite .. => ⟨_, execRtcTrimWrite_keeps .., rfl⟩
  | .rtcTrimStep => ⟨_, execRtcTrimStep_keeps .., rfl⟩
  | .lseStopTimeout => ⟨_, execLseStopTimeout_keeps .., rfl⟩
  | .usbConfigured => ⟨_, execUsbConfigured_keeps .., rfl⟩
  | .usbDetach => ⟨_, execUsbDetach_keeps .., rfl⟩
  | .usbBusReset => ⟨_, execUsbBusReset_keeps .., rfl⟩
  | .usbSuspend => ⟨_, execUsbSuspend_keeps .., rfl⟩
  | .gspRead .. => ⟨_, execGspRead_keeps .., rfl⟩
  | .gspWrite .. => ⟨_, execGspWrite_keeps .., rfl⟩
  | .gspBlockRead .. => ⟨_, execGspBlockRead_keeps .., rfl⟩
  | .gspBlockWrite .. => ⟨_, execGspBlockWrite_keeps .., rfl⟩
  | .gspSubscribe .. => ⟨_, execGspSubscribe_keeps .., rfl⟩
  | .gspUnsubscribe .. => ⟨_, execGspUnsubscribe_keeps .., rfl⟩
  | .gspPing .. => ⟨_, execGspPing_keeps .., rfl⟩
  | .gspBlockTimeout => ⟨_, execGspBlockTimeout_keeps .., rfl⟩
  | .sessionChallenge .. => ⟨_, execSessionChallenge_keeps .., rfl⟩
  | .sessionResponse .. => ⟨_, execSessionResponse_keeps .., rfl⟩
  | .sessionClose .. => ⟨_, execSessionClose_keeps .., rfl⟩
  | .sessionIdleTimeout .. => ⟨_, execSessionIdleTimeout_keeps .., rfl⟩
  | .nonceExpiry .. => ⟨_, execNonceExpiry_keeps .., rfl⟩
  | .sessionLockoutExpiry .. => ⟨_, execSessionLockoutExpiry_keeps .., rfl⟩
  | .keyWrite .. => ⟨_, execKeyWrite_keeps .., rfl⟩
  | .accessMapCommit .. => ⟨_, execAccessMapCommit_keeps .., rfl⟩
  | .lifecycleToOemBuild .. => ⟨_, execLifecycleToOemBuild_keeps .., rfl⟩
  | .lifecycleToField .. => ⟨_, execLifecycleToField_keeps .., rfl⟩
  | .lifecycleToService .. => ⟨_, execLifecycleToService_keeps .., rfl⟩
  | .lifecycleToRetired .. => ⟨_, execLifecycleToRetired_keeps .., rfl⟩
  | .firmwareDownload .. => ⟨_, execFirmwareDownload_keeps .., rfl⟩
  | .bankEraseComplete => ⟨_, execBankEraseComplete_keeps .., rfl⟩
  | .programStart .. => ⟨_, execProgramStart_keeps .., rfl⟩
  | .programClear .. => ⟨_, execProgramClear_keeps .., rfl⟩
  | .activateBank .. => ⟨_, execActivateBank_keeps .., rfl⟩
  | .confirmBank .. => ⟨_, execConfirmBank_keeps .., rfl⟩
  | .trialTimeout => ⟨_, execTrialTimeout_keeps .., rfl⟩
  | .frameReferenceTimeout => ⟨_, execFrameReferenceTimeout_keeps .., rfl⟩
  | .canFrameTransmitted => ⟨_, execCanFrameTransmitted_keeps .., rfl⟩
  | .vbatFall .. => ⟨_, execVbatFall_keeps .., rfl⟩
  | .vbatRise .. => ⟨_, execVbatRise_keeps .., rfl⟩
  | .lseStart => ⟨_, execLseStart_keeps .., rfl⟩
  | .pllLocked => ⟨_, execPllLocked_keeps .., rfl⟩
  | .externalSectorEraseComplete .. => ⟨_, execExternalSectorEraseComplete_keeps .., rfl⟩
  | .accessMapStoreComplete => ⟨_, execAccessMapStoreComplete_keeps .., rfl⟩
  | .keyStoreComplete => ⟨_, execKeyStoreComplete_keeps .., rfl⟩
  | .usbResume => ⟨_, execUsbResume_keeps .., rfl⟩
  | .usbAddressSet => ⟨_, execUsbAddressSet_keeps .., rfl⟩
  | .usbInTransferComplete => ⟨_, execUsbInTransferComplete_keeps .., rfl⟩
  | .referenceRisingEdge .. => ⟨_, execReferenceRisingEdge_keeps .., rfl⟩

/-! ### A millisecond with no command (log 2) -/

theorem step_empty {s : State} (h : s.pending = []) : step s = .next s.idle := by
  unfold step
  rw [h]

theorem idle_pending (s : State) : s.idle.pending = s.pending :=
  (State.idle_keeps (maskLe_refl _) (Keeps.refl _ s)).parts .pending rfl

/-- The seconds counter and the RTC reach neither the bring-up state nor the time since reset release. -/
theorem tickRtc_tickSeconds_life (s : State) :
    s.tickSeconds.tickRtc.life.st = s.life.st ∧ s.tickSeconds.tickRtc.life.up = s.life.up := by
  have hrtc (t : State) : t.tickRtc.life = t.life := (State.tickRtc_keeps (maskLe_refl _) (Keeps.refl _ t)).parts .life rfl
  rw [hrtc]
  unfold State.tickSeconds
  split
  · dsimp only
    split <;> exact ⟨rfl, rfl⟩
  · exact ⟨rfl, rfl⟩

/-- Time since reset release counts while the device is clocked (R514). -/
theorem tickRunning_up (s : State) : s.tickRunning.life.up = if s.clocked then s.life.up + 1 else s.life.up := by
  have hpulse (t : State) (e : Fin 2) : (t.drainPulse e).life = t.life :=
    (State.drainPulse_keeps e (maskLe_refl _) (Keeps.refl _ t)).parts .life rfl
  unfold State.tickRunning
  split
  · dsimp only
    rw [hpulse, hpulse]
    rfl
  · rfl

theorem idle_up (s : State) : s.idle.life.up = if s.clocked then s.life.up + 1 else s.life.up := by
  obtain ⟨hst, hup⟩ := tickRtc_tickSeconds_life s
  unfold State.idle
  rw [tickRunning_up, hup]
  unfold State.clocked
  rw [hst]

end Sys2Proof.Machine

namespace Sys2Proof

open Machine

/-- Settles O37: each arm is a choice between next states, and the mask of each row lies in the extent of its command. -/
theorem everyCommandStaysInItsExtent : Obligations.EveryCommandStaysInItsExtent := by
  unfold Obligations.EveryCommandStaysInItsExtent
  refine ⟨exec_answers, fun c s t hc h => ?_⟩
  obtain ⟨W, hkeeps, hallows⟩ := exec_extent c s
  exact (hkeeps.next t h).within hc hallows

/-- Settles O33: a step on an empty queue is `State.idle`, whose mask lies in the extent that is named. -/
theorem anEmptyQueueIdles : Obligations.AnEmptyQueueIdles := by
  unfold Obligations.AnEmptyQueueIdles
  refine ⟨fun s h => ⟨_, step_empty h, (idle_pending s).trans h⟩, fun s t hc h hstep => ?_⟩
  obtain rfl : s.idle = t := Host.Outcome.next.inj ((step_empty h).symm.trans hstep)
  refine ⟨(State.idle_keeps (maskLe_refl _) (Keeps.refl _ s)).within hc rfl, fun hclocked => ?_, fun hclocked => ?_⟩
  · rw [idle_up, if_pos hclocked]
  · rw [idle_up, hclocked, if_neg Bool.false_ne_true]

/-- Settles O41: no row of the table gives bits, so the table decodes no word. -/
theorem wordsSpellNoCommand : Obligations.WordsSpellNoCommand := by
  unfold Obligations.WordsSpellNoCommand
  exact fun nbits w s => ⟨rfl, rfl⟩

end Sys2Proof
end

section
/-! Totals copies, log records and log reads (O48, O49, O42, O47). The records a log yields ascend in SEQ, which settles
both reads; the layout of a record is that of a list of widths and values laid out one after another. -/

namespace Sys2Proof.Machine

/-! ### The slots of totals copies (R441) -/

theorem copySlot_lt (n : Nat) : copySlot n < 16 := by
  unfold copySlot
  omega

theorem copySlot_offset (n : Nat) : 512 * copySlot n = 4096 * (n % 2) + 512 * (n / 2 % 8) := by
  unfold copySlot
  omega

/-- The sector of a copy is the parity of its number. -/
theorem copySlot_sector (n : Nat) : copySlot n / 8 = n % 2 := by
  unfold copySlot
  omega

/-! ### Fields laid out one after another (R511) -/

/-- Values laid out little-endian in their widths. -/
def layout (fields : List (Nat × Nat)) : List Byte := fields.flatMap fun f => leBytes f.1 f.2

theorem layout_cons (f : Nat × Nat) (rest : List (Nat × Nat)) :
    layout (f :: rest) = leBytes f.1 f.2 ++ layout rest := rfl

theorem length_layout (fields : List (Nat × Nat)) : (layout fields).length = (fields.map Prod.fst).sum := by
  induction fields with
  | nil => rfl
  | cons f rest ih => rw [layout_cons, List.length_append, length_leBytes, ih, List.map_cons, List.sum_cons]

/-- A field reads back from its place, behind the widths of those before it. -/
theorem leNat_slice_layout {fields : List (Nat × Nat)} {n v : Nat} (k : Nat) (hk : fields[k]? = some (n, v))
    (hv : v < 256 ^ n) : leNat (slice (layout fields) ((fields.take k).map Prod.fst).sum n) = v := by
  induction k generalizing fields with
  | zero =>
    obtain ⟨rest, rfl⟩ : ∃ rest, fields = (n, v) :: rest := by
      cases fields with
      | nil => simp at hk
      | cons f rest => exact ⟨rest, by simpa using hk⟩
    have hslice : slice (layout ((n, v) :: rest)) 0 n = leBytes n v := by
      rw [layout_cons, slice, List.drop_zero]
      exact List.take_left' (length_leBytes n v)
    rw [List.take_zero, List.map_nil, List.sum_nil, hslice, leNat_leBytes, Nat.mod_eq_of_lt hv]
  | succ k ih =>
    cases fields with
    | nil => simp at hk
    | cons f rest =>
      have hslice (m : Nat) : slice (layout (f :: rest)) (f.1 + m) n = slice (layout rest) m n := by
        rw [slice, slice, layout_cons]
        congr 1
        rw [← List.drop_drop, List.drop_left' (length_leBytes f.1 f.2)]
      rw [List.take_succ_cons, List.map_cons, List.sum_cons, hslice]
      exact ih (by simpa using hk)

/-! ### The layout of a record (R511, R512) -/

/-- The fields of bytes 0–23. -/
def Record.fields (r : Record) : List (Nat × Nat) :=
  [(4, r.seq), (6, r.time), (2, r.ev), (1, r.respSev), (1, r.flags), (1, r.reps), (1, r.aux), (8, r.data)]

theorem body_eq_layout (r : Record) : r.body = layout r.fields := by
  simp [Record.body, layout, Record.fields]

theorem length_body (r : Record) : r.body.length = 24 := by
  rw [body_eq_layout, length_layout]
  rfl

theorem bytes_eq_layout (r : Record) :
    r.bytes = layout (r.fields ++ [(4, crc32 r.body), (4, 0xFFFFFFFF - r.seq)]) := by
  rw [Record.bytes, body_eq_layout]
  simp [layout]

theorem length_bytes (r : Record) : r.bytes.length = 32 := by
  rw [Record.bytes, List.length_append, List.length_append, length_body, length_leBytes, length_leBytes]

theorem slice_bytes_body (r : Record) : slice r.bytes 0 24 = r.body := by
  rw [slice, List.drop_zero, Record.bytes, List.append_assoc]
  exact List.take_left' (length_body r)

theorem crc32_lt (l : List Byte) : crc32 l < 256 ^ 4 := BitVec.isLt _

/-- VALID is the complement of SEQ. -/
theorem ofNat_complement {n : Nat} (h : n < 2 ^ 32) : BitVec.ofNat 32 (0xFFFFFFFF - n) = ~~~ BitVec.ofNat 32 n := by
  apply BitVec.eq_of_toNat_eq
  rw [BitVec.toNat_not, BitVec.toNat_ofNat, BitVec.toNat_ofNat]
  omega

/-! ### Flags (R511) -/

theorem recordFlags_lt (valid secondary overflow direct end_ restored : Bool) :
    recordFlags valid secondary overflow direct end_ restored < 2 ^ 6 := by
  revert valid secondary overflow direct end_ restored
  decide

theorem testBit_recordFlags (valid secondary overflow direct end_ restored : Bool) (n : Nat) :
    (recordFlags valid secondary overflow direct end_ restored).testBit n =
      [valid, secondary, overflow, direct, end_, restored].getD n false := by
  by_cases h : n < 6
  · have hlow : ∀ (n : Fin 6) (valid secondary overflow direct end_ restored : Bool),
        (recordFlags valid secondary overflow direct end_ restored).testBit n.val =
          [valid, secondary, overflow, direct, end_, restored].getD n.val false := by decide
    exact hlow ⟨n, h⟩ ..
  · rw [Nat.testBit_lt_two_pow (lt_of_lt_of_le (recordFlags_lt ..) (Nat.pow_le_pow_right (by decide) (by omega))),
      List.getD_eq_default _ _ (by simpa using h)]

/-! ### The records of a log ascend (R529) -/

/-- Each record stands under its own SEQ, and the keys ascend. -/
def KeyedBySeq (acc : List (Nat × Record)) : Prop := cellsAscend acc = true ∧ ∀ c ∈ acc, c.2.seq = c.1

theorem KeyedBySeq.put {acc : List (Nat × Record)} (h : KeyedBySeq acc) (r : Record) :
    KeyedBySeq (cellPut acc r.seq r) := by
  refine ⟨cellPut_ascend _ _ _ h.1, fun c hc => ?_⟩
  rcases mem_cellPut _ _ _ _ hc with rfl | hold
  · rfl
  · exact h.2 c hold

theorem KeyedBySeq.pairwise {acc : List (Nat × Record)} (h : KeyedBySeq acc) :
    (acc.map Prod.snd).Pairwise fun a b => a.seq < b.seq := by
  obtain ⟨hasc, hseq⟩ := h
  induction acc with
  | nil => exact List.Pairwise.nil
  | cons c rest ih =>
    obtain ⟨hrest, hlt⟩ := (cellsAscend_cons c rest).1 hasc
    rw [List.map_cons, List.pairwise_cons]
    refine ⟨fun r hr => ?_, ih hrest fun d hd => hseq d (List.mem_cons_of_mem c hd)⟩
    obtain ⟨d, hd, rfl⟩ := List.mem_map.1 hr
    rw [hseq c List.mem_cons_self, hseq d (List.mem_cons_of_mem c hd)]
    exact hlt d hd

theorem logRecords_pairwise (l : List (Nat × LogSlot)) : (logRecords l).Pairwise fun a b => a.seq < b.seq := by
  refine KeyedBySeq.pairwise (List.foldlRecOn l _ ⟨rfl, by simp⟩ fun acc hacc c _ => ?_)
  cases c.2.record? with
  | none => exact hacc
  | some r => exact hacc.put r

theorem readerRecords_pairwise (s : State) (cursor : Nat) :
    (s.readerRecords cursor).Pairwise fun a b => a.seq < b.seq := by
  unfold State.readerRecords
  split
  · exact logRecords_pairwise _
  · exact logRecords_pairwise _

/-- In a list that ascends in SEQ, a SEQ names one record. -/
theorem seq_inj_of_pairwise {l : List Record} (h : l.Pairwise fun a b => a.seq < b.seq) {a b : Record} (ha : a ∈ l)
    (hb : b ∈ l) (hseq : a.seq = b.seq) : a = b := by
  have hsymm : Std.Symm fun a b : Record => a.seq ≠ b.seq := ⟨fun _ _ hxy => hxy.symm⟩
  have hdiffer : l.Pairwise fun a b => a.seq ≠ b.seq := h.imp Nat.ne_of_lt
  by_contra hne
  exact hdiffer.forall ha hb hne hseq

theorem recordAt_of_mem {s : State} {cursor : Nat} {r : Record} (h : r ∈ s.readerRecords cursor)
    (hseq : r.seq = cursor) : s.recordAt cursor = r.bytes := by
  unfold State.recordAt
  cases hfind : (s.readerRecords cursor).find? fun (r : Record) => r.seq == cursor with
  | none => exact absurd (beq_iff_eq.2 hseq) (List.find?_eq_none.1 hfind r h)
  | some q =>
    have hq : q.seq = cursor := by simpa using List.find?_some hfind
    rw [seq_inj_of_pairwise (readerRecords_pairwise s cursor) (List.mem_of_find?_eq_some hfind) h (hq.trans hseq.symm)]

theorem recordAt_of_not_mem {s : State} {cursor : Nat} (h : ∀ r ∈ s.readerRecords cursor, r.seq ≠ cursor) :
    s.recordAt cursor = [] := by
  unfold State.recordAt
  rw [List.find?_eq_none.2 fun r hr => by simpa using h r hr]

/-- What a list that ascends in SEQ holds beyond its first `n` records is above each of them. -/
theorem mem_take_or_above {l : List Record} (h : l.Pairwise fun a b => a.seq < b.seq) (n : Nat) {r : Record}
    (hr : r ∈ l) : r ∈ l.take n ∨ (l.take n).length = n ∧ ∀ q ∈ l.take n, q.seq < r.seq := by
  by_cases hmem : r ∈ l.take n
  · exact Or.inl hmem
  · rw [← List.take_append_drop n l] at h hr
    have hdrop : r ∈ l.drop n := (List.mem_append.1 hr).resolve_left hmem
    refine Or.inr ⟨?_, fun q hq => (List.pairwise_append.1 h).2.2 q hq r hdrop⟩
    have := List.length_pos_of_mem hdrop
    rw [List.length_drop] at this
    rw [List.length_take]
    omega

theorem length_flatMap_bytes (rs : List Record) : (rs.flatMap Record.bytes).length = 32 * rs.length := by
  induction rs with
  | nil => rfl
  | cons r rs ih => rw [List.flatMap_cons, List.length_append, length_bytes, ih, List.length_cons]; omega

/-! ### Clients of channels (R82) -/

theorem client_modClient_ne {s : State} {ch other : Channel} (f : Client → Client) (h : other ≠ ch) :
    (s.modClient ch f).client other = s.client other :=
  match ch, other, h with
  | .sdo, .sdo, h | .gsp, .gsp, h => absurd rfl h
  | .usdo n, .usdo m, h => by
    have hne : m.toNat ≠ n.toNat := fun e => h (congrArg _ (BitVec.eq_of_toNat_eq e))
    exact congrArg (fun c : Option Client => c.getD {}) (cellGet_put_ne _ _ _ _ hne)
  | .rpdo, _, _ | .sdo, .usdo _, _ | .sdo, .gsp, _ | .sdo, .rpdo, _ | .gsp, .sdo, _ | .gsp, .usdo _, _
    | .gsp, .rpdo, _ | .usdo _, .sdo, _ | .usdo _, .gsp, _ | .usdo _, .rpdo, _ => rfl

theorem client_modClient {s : State} {ch : Channel} (f : Client → Client) (h : ch ≠ .rpdo) :
    (s.modClient ch f).client ch = f (s.client ch) := by
  cases ch with
  | usdo n => exact congrArg (fun c : Option Client => c.getD {}) (cellGet_put _ _ _)
  | rpdo => exact absurd rfl h
  | _ => rfl

theorem client_touch_ne {s : State} {ch other : Channel} (h : other ≠ ch) :
    (s.touch ch).client other = s.client other := by
  unfold State.touch
  split
  · exact client_modClient_ne _ h
  · rfl

/-- A request renews the idle time of its session and nothing else of its client. -/
theorem touch_client_cursor (s : State) (ch : Channel) : ((s.touch ch).client ch).cursor = (s.client ch).cursor := by
  unfold State.touch
  split
  case isFalse => rfl
  case isTrue hsession =>
    have hch : ch ≠ .rpdo := by
      rintro rfl
      exact absurd hsession Bool.false_ne_true
    rw [client_modClient _ hch]

theorem touch_readData (s : State) (ch : Channel) : (s.touch ch).clients.readData = s.clients.readData := by
  unfold State.touch State.modClient
  split
  · cases ch <;> rfl
  · rfl

/-- A read leaves what it read, and the client but for its idle time. -/
theorem openRead_readData (s : State) (ch : Channel) (data : List Byte) :
    (s.openRead ch data).clients.readData = data := by
  unfold State.openRead
  split
  · exact touch_readData _ ch
  · exact touch_readData _ ch

theorem client_readData (s : State) (ch : Channel) (data : List Byte) :
    (s.setClients { s.clients with readData := data }).client ch = s.client ch := by
  cases ch <;> rfl

theorem openRead_cursor (s : State) (ch : Channel) (data : List Byte) :
    ((s.openRead ch data).client ch).cursor = (s.client ch).cursor := by
  have hkeep : (((s.setClients { s.clients with readData := data }).touch ch).client ch).cursor =
      (s.client ch).cursor := by
    rw [touch_client_cursor, client_readData]
  unfold State.openRead
  split
  · exact hkeep
  · rw [← hkeep]
    cases ch <;> rfl

/-! ### Writes of values -/

/-- A write of a value to an object that is no action and no store: not taken, refused, or applied. -/
theorem hostWrite_cases {s : State} {ch : Channel} {ix sub : Nat} {data : List Byte} {row : ObjRow}
    (hrow : findRow ix sub = some row) (hn : isAction ix sub = false) (hnum : row.ty.numeric = true)
    (hs : ix ≠ 0x1010 ∧ ix ≠ 0x1011) :
    s.hostWrite ch ix sub data = s ∨ (∃ c, s.hostWrite ch ix sub data = s.record ch ix sub (some c)) ∨
      s.hostWrite ch ix sub data =
        ((s.applyNumber ch ix sub (row.ty.value data)).touch ch).record ch ix sub none := by
  cases hreach : s.reaches ch with
  | false => exact Or.inl (hostWrite_unreached hreach)
  | true =>
    cases hadm : s.admission ch row ix sub data with
    | some c => exact Or.inr (Or.inl ⟨c, hostWrite_refused hreach hrow hn hadm⟩)
    | none =>
      cases hrule : s.objectRule ch ix sub (row.ty.value data) with
      | some c => exact Or.inr (Or.inl ⟨c, hostWrite_ruled hreach hrow hn hadm hnum hrule⟩)
      | none => exact Or.inr (Or.inr (hostWrite_number hreach hrow hn hadm hnum hrule hs.1 hs.2))

theorem client_record (s : State) (ch other : Channel) (ix sub : Nat) (c : Option Nat) :
    (s.record ch ix sub c).client other = s.client other := by
  cases other <;> rfl

/-- A cursor write leaves the clients of the other channels. -/
theorem client_hostWrite_cursor {s : State} {ch other : Channel} (data : List Byte) (h : other ≠ ch) :
    (s.hostWrite ch 0x5810 1 data).client other = s.client other := by
  obtain ⟨row, hrow⟩ : ∃ row, findRow 0x5810 1 = some row := ⟨_, rfl⟩
  have hnum : row.ty.numeric = true := by
    have : (findRow 0x5810 1).map (fun (r : ObjRow) => r.ty.numeric) = some true := rfl
    simpa [hrow] using this
  rcases hostWrite_cases (s := s) (ch := ch) (data := data) hrow rfl hnum (by decide) with e | ⟨c, e⟩ | e
  · rw [e]
  · rw [e, client_record]
  · rw [e, client_record, client_touch_ne h, apply_log_cursor_write, client_modClient_ne _ h]

theorem freshGsp_cursor (s : State) : (s.freshGsp.client .gsp).cursor = 1 := rfl

end Sys2Proof.Machine

namespace Sys2Proof

open Machine

/-- Settles O48: the slot of a copy by arithmetic on its number. -/
theorem totalsCopiesAlternate : Obligations.TotalsCopiesAlternate := by
  unfold Obligations.TotalsCopiesAlternate
  refine ⟨fun n => ⟨copySlot_lt n, copySlot_offset n⟩, fun n => ?_, fun s trigger => ⟨_, rfl, rfl, rfl, rfl⟩⟩
  rw [copySlot_sector, copySlot_sector]
  omega

/-- Settles O49: a record is its fields, its CRC and VALID laid out one after another. -/
theorem recordsHaveTheirLayout : Obligations.RecordsHaveTheirLayout := by
  unfold Obligations.RecordsHaveTheirLayout
  refine ⟨length_bytes, ?fields, testBit_recordFlags⟩
  intro r hseq htime hev hrs hflags hreps haux hdata
  have hvalid : leNat (slice r.bytes 28 4) = 0xFFFFFFFF - r.seq := by
    rw [bytes_eq_layout]
    exact leNat_slice_layout 9 rfl (by omega)
  rw [hvalid, slice_bytes_body, bytes_eq_layout]
  exact ⟨leNat_slice_layout 0 rfl hseq, leNat_slice_layout 1 rfl htime, leNat_slice_layout 2 rfl (by omega),
    leNat_slice_layout 3 rfl hrs, leNat_slice_layout 4 rfl hflags, leNat_slice_layout 5 rfl hreps,
    leNat_slice_layout 6 rfl haux, leNat_slice_layout 7 rfl hdata, leNat_slice_layout 8 rfl (crc32_lt _),
    ofNat_complement hseq⟩

/-- Settles O42: the SEQ of a record names it among the reader's records. -/
theorem readAtTheCursor : Obligations.ReadAtTheCursor := by
  unfold Obligations.ReadAtTheCursor
  refine ⟨fun ch r s hserves hr hseq => ?_, fun ch s hserves hnone => ?_⟩
  · exact ⟨_, if_pos hserves, (touch_readData _ ch).trans (recordAt_of_mem hr hseq)⟩
  · exact ⟨_, if_pos hserves, (touch_readData _ ch).trans (recordAt_of_not_mem hnone)⟩

/-- Settles O47: the records ascend in SEQ, so the first 16 at or above the cursor are below all others there. -/
theorem readFromTheCursor : Obligations.ReadFromTheCursor := by
  unfold Obligations.ReadFromTheCursor
  refine ⟨?read, fun ch other v s h => ⟨_, rfl, congrArg _ (client_hostWrite_cursor _ h)⟩, rfl, freshGsp_cursor⟩
  intro ch s hserves
  have hasc := (readerRecords_pairwise s (s.client ch).cursor).filter
    fun (r : Record) => Nat.ble (s.client ch).cursor r.seq
  refine ⟨_, if_pos hserves, _, openRead_readData s ch _, List.length_take_le _ _, ?_,
    hasc.sublist (List.take_sublist _ _), fun r hr => ?_, fun r hr hle => ?_, openRead_cursor s ch _⟩
  · rw [openRead_readData, State.recordsFrom, length_flatMap_bytes]
    have := List.length_take_le 16 ((s.readerRecords (s.client ch).cursor).filter
      fun (r : Record) => Nat.ble (s.client ch).cursor r.seq)
    omega
  · obtain ⟨hmem, hle⟩ := List.mem_filter.1 (List.mem_of_mem_take hr)
    exact ⟨hmem, Nat.le_of_ble_eq_true hle⟩
  · exact mem_take_or_above hasc 16 (List.mem_filter.2 ⟨hr, Nat.ble_eq_true_of_le hle⟩)

end Sys2Proof
end

section
/-! The CRC of ring frames (O46). The bits of a frame are those of one word, its fields one beside another. -/

namespace Sys2Proof.Machine

/-! ### Bits in the order sent (R365) -/

theorem length_sentBits (w v : Nat) : (sentBits w v).length = w := by simp [sentBits]

theorem getElem?_sentBits {w n : Nat} (x : BitVec w) (h : n < w) :
    (sentBits w x.toNat)[n]? = some (x.getLsbD n) := by
  simp [sentBits, List.getElem?_range h, BitVec.getLsbD]

/-- Two fields sent one after another are the bits of the word that holds the second above the first. -/
theorem sentBits_append {w v : Nat} (x : BitVec w) (y : BitVec v) :
    sentBits w x.toNat ++ sentBits v y.toNat = sentBits (v + w) (y ++ x).toNat := by
  refine List.ext_getElem? fun n => ?_
  by_cases hw : n < w
  · rw [List.getElem?_append_left (by rwa [length_sentBits]), getElem?_sentBits x hw,
      getElem?_sentBits _ (by omega), BitVec.getLsbD_append, if_pos hw]
  · rw [List.getElem?_append_right (by rw [length_sentBits]; omega), length_sentBits]
    by_cases hv : n < v + w
    · rw [getElem?_sentBits y (by omega), getElem?_sentBits _ hv, BitVec.getLsbD_append, if_neg hw]
    · rw [List.getElem?_eq_none (by rw [length_sentBits]; omega),
        List.getElem?_eq_none (by rw [length_sentBits]; omega)]

/-- Bits 8–111 of a frame as one word (R367). -/
def frameWord (f : RingFrame) : BitVec 104 :=
  f.token ++ f.command ++ f.shareB ++ f.shareA ++ f.fault ++ f.epoch ++ f.bearing ++ f.seq ++ f.kind

theorem frameBits_eq (f : RingFrame) : frameBits f = sentBits 104 (frameWord f).toNat := by
  unfold frameBits
  simp only [List.append_assoc]
  simp only [sentBits_append]
  rfl

/-! ### The CRC and its forwarding (R369) -/

theorem ringCrc_concat (l : List Bool) (b : Bool) : ringCrc (l ++ [b]) =
    if (ringCrc l).msb ≠ b then (ringCrc l <<< 1) ^^^ 0x07#8 else ringCrc l <<< 1 := by
  rw [ringCrc, List.foldl_append]
  simp [ringCrc]

/-- The CRC field is not covered by the CRC, so putting it in changes no covered bit. -/
theorem forwardFrame_crc (s : State) (f : RingFrame) :
    (s.forwardFrame f).crc = frameCrc (s.forwardFrame f) ^^^ frameCrc f ^^^ f.crc := by
  unfold State.forwardFrame
  split
  · rw [BitVec.xor_self, BitVec.zero_xor]
  · simp only [frameCrc, frameBits]

/-- A mark that was not zero stays: a difference from the right CRC is sent on. -/
theorem forwardFrame_corrupt {s : State} {f : RingFrame} (h : f.crc ≠ frameCrc f) :
    (s.forwardFrame f).crc ≠ frameCrc (s.forwardFrame f) := by
  intro heq
  have hcrc := forwardFrame_crc s f
  rw [heq, BitVec.xor_assoc] at hcrc
  have hzero : frameCrc f ^^^ f.crc = 0#8 := by
    have := congrArg (frameCrc (s.forwardFrame f) ^^^ ·) hcrc
    simpa [← BitVec.xor_assoc] using this.symm
  exact h (BitVec.xor_eq_zero_iff.1 hzero).symm

end Sys2Proof.Machine

namespace Sys2Proof

open Machine

/-- Settles O46: the frame's word gives the bits, and the difference from the right CRC survives the forwarding. -/
theorem ringCrcIsForwarded : Obligations.RingCrcIsForwarded := by
  unfold Obligations.RingCrcIsForwarded
  refine ⟨rfl, ringCrc_concat, fun f => ⟨rfl, ?_, fun n => ?_⟩, forwardFrame_crc, fun s f => forwardFrame_corrupt⟩
  · rw [frameBits_eq, length_sentBits]
  · rw [frameBits_eq]
    exact getElem?_sentBits (frameWord f) n.isLt

end Sys2Proof
end

section
/-! Raisings: active responses rise and never fall (O54), and what enters the pending FIFO (O55). A raising that takes
place is written out once, as its marks, its entry, the rise of the responses and the offer to the FIFO. -/

namespace Sys2Proof.Machine

/-! ### The parts of a raising (R460) -/

/-- A raising noted in 2320: its number, and the EVENT flag where its response or its entry asks for it (R473). -/
def State.noteRaising (s : State) (e : Nat) : State :=
  let t := s.putObj 0x2320 0x0D e
  if 2 ≤ s.responseOf e || (t.responseEntry e).testBit 4 then t.interrupt 0 else t

/-- The entry of a raising takes the last place among the uncleared ones. -/
def State.enterUncleared (s : State) (u : Uncleared) : State :=
  let t := s.setFabric { s.fabric with
    uncleared := (s.fabric.uncleared.filter fun (w : Uncleared) => w.ev != u.ev) ++ [u] }
  t.putObj 0x2300 0x0E t.fabric.uncleared.length

theorem standing_again {s : State} {e : Nat} {k : EventKind} (h : s.standing e = false) :
    ¬(k = .standing ∧ (s.fabric.uncleared.any fun u => u.ev == e && u.standing) = true) := by
  rintro ⟨_, hagain⟩
  exact Bool.false_ne_true (h.symm.trans hagain)

/-- A raising with the response NONE is noted and counted. -/
theorem raiseCore_counted {s : State} {e : Nat} {i : EventInfo} (data : Nat) (hi : eventInfo e = some i)
    (hk : i.kind ≠ .trigger) (hs : s.standing e = false) (hr : s.responseOf e = 0) :
    s.raiseCore e data = (s.noteRaising e).bump 0x2320 (6 + i.sev) := by
  unfold State.raiseCore
  rw [hi]
  dsimp only
  rw [if_neg hk, if_neg (standing_again hs), if_pos hr]
  rfl

/-- A raising with a response enters the uncleared events, raises the responses and is offered to the FIFO. -/
theorem raiseCore_entered {s : State} {e : Nat} {i : EventInfo} (data : Nat) (hi : eventInfo e = some i)
    (hk : i.kind ≠ .trigger) (hs : s.standing e = false) (hr : s.responseOf e ≠ 0) :
    ∃ (u : Uncleared) (o : Occurrence), s.raiseCore e data =
        (((s.noteRaising e).enterUncleared u).riseResponses e (s.responseOf e)).enqueue o ∧
      o.ev = e ∧ o.resp = s.responseOf e ∧ o.data = data ∧ o.overflow = false := by
  unfold State.raiseCore
  rw [hi]
  dsimp only
  rw [if_neg hk, if_neg (standing_again hs), if_neg hr]
  exact ⟨⟨e, _, _, _, _⟩, _, rfl, rfl, rfl, rfl, rfl⟩

theorem noteRaising_keeps (s : State) (e : Nat) : Keeps 0x2000000000000 s (s.noteRaising e) := by
  have hnumber : Keeps 0x2000000000000 s (s.putObj 0x2320 0x0D e) := State.putObj_keeps _ _ _ rfl (Keeps.refl _ s)
  unfold State.noteRaising
  dsimp only
  split
  · exact State.interrupt_keeps _ (maskLe_refl _) hnumber
  · exact hnumber

theorem enterUncleared_keeps (s : State) (u : Uncleared) : Keeps 0x800000000008 s (s.enterUncleared u) :=
  State.putObj_keeps _ _ _ rfl (State.setFabric_keeps _ rfl (Keeps.refl _ s))

/-- Noting a raising writes no other object of 2320 than its number and its flags. -/
theorem obj_noteRaising {s : State} (e : Nat) {sub : Nat} (hc : Safety.canonical s = true) (h1 : sub ≠ 1)
    (hD : sub ≠ 0x0D) (hlt : sub < 256) : (s.noteRaising e).obj 0x2320 sub = s.obj 0x2320 sub := by
  have hnumber : (s.putObj 0x2320 0x0D e).obj 0x2320 sub = s.obj 0x2320 sub :=
    obj_putObj_ne _ hc (objKey_inj hlt (by decide) hD)
  unfold State.noteRaising
  dsimp only
  split
  · exact (obj_putObj_ne _ (canonical_putObj _ _ _ hc) (objKey_inj hlt (by decide) h1)).trans hnumber
  · exact hnumber

/-! ### Active responses (R465) -/

/-- The sub-indices of 2300 that hold the active responses. -/
def responseSub (sub : Nat) : Prop := sub = 1 ∨ (5 ≤ sub ∧ sub < 10)

/-- No active response falls from one state to the other, and canonical states stay so. -/
def Rises (s t : State) : Prop :=
  Safety.canonical s = true → Safety.canonical t = true ∧ ∀ sub, responseSub sub → s.nat 0x2300 sub ≤ t.nat 0x2300 sub

theorem Rises.refl (s : State) : Rises s s := fun hc => ⟨hc, fun _ _ => le_rfl⟩

theorem Rises.trans {a b c : State} (h : Rises a b) (k : Rises b c) : Rises a c := fun hc => by
  obtain ⟨hb, hle⟩ := h hc
  obtain ⟨hc', hle'⟩ := k hb
  exact ⟨hc', fun sub hsub => (hle sub hsub).trans (hle' sub hsub)⟩

/-- An operation that reaches no object of 2300. -/
theorem Rises.of_keeps {W : Nat} {s t : State} (k : Keeps W s t) (hW : siteIn W 0x2300 = false) : Rises s t :=
  fun hc => ⟨k.canonical hc, fun sub _ => (congrArg Int.toNat (k.obj hc sub hW)).ge⟩

/-- A write of an object of 2300 that is no active response. -/
theorem Rises.put_other (s : State) (sub : Nat) (v : Int) (h : 10 ≤ sub) (hlt : sub < 256) :
    Rises s (s.putObj 0x2300 sub v) := by
  refine fun hc => ⟨canonical_putObj _ _ _ hc, fun sub' hsub => (congrArg Int.toNat ?_).ge⟩
  have hne : sub' ≠ sub ∧ sub' < 256 := by
    unfold responseSub at hsub
    omega
  exact obj_putObj_ne v hc (objKey_inj hne.2 hlt hne.1)

/-- An active response written with a more restrictive one. -/
theorem Rises.put_response (s : State) (sub v : Nat) (hsub : responseSub sub) (h : s.nat 0x2300 sub ≤ v) :
    Rises s (s.putObj 0x2300 sub v) := by
  refine fun hc => ⟨canonical_putObj _ _ _ hc, fun sub' hsub' => ?_⟩
  by_cases heq : sub' = sub
  · subst heq
    rwa [State.nat, State.nat, obj_putObj _ _ _ hc]
  · have hlt : sub' < 256 ∧ sub < 256 := by
      unfold responseSub at hsub hsub'
      omega
    exact (congrArg Int.toNat (obj_putObj_ne (v : Int) hc (objKey_inj hlt.1 hlt.2 heq))).ge

theorem Rises.foldl {α : Type} (f : State → α → State) (l : List α) (hf : ∀ s a, Rises s (f s a)) (s : State) :
    Rises s (l.foldl f s) :=
  List.foldlRecOn l f (motive := Rises s) (Rises.refl s) fun t ht a _ => ht.trans (hf t a)

theorem Rises.interrupt (s : State) (n : Nat) : Rises s (s.interrupt n) :=
  .of_keeps (State.interrupt_keeps n (maskLe_refl _) (Keeps.refl _ s)) rfl

theorem responseSub_rail (r : RailId) : responseSub (5 + r.val) := by
  unfold responseSub
  omega

/-- The step of `riseResponses` for one rail. -/
def State.riseRail (s : State) (resp : Nat) (r : RailId) : State :=
  if s.railResponse r < resp then (s.putObj 0x2300 (5 + r.val) resp).interrupt 2 else s

/-- The step of `riseResponses` for the device. -/
def State.riseDevice (s : State) (resp : Nat) : State :=
  if s.deviceResponse < resp then (s.putObj 0x2300 1 resp).interrupt 2 else s

theorem riseResponses_eq (s : State) (e resp : Nat) : s.riseResponses e resp =
    ((s.raisedRails e resp).foldl (fun (t : State) (r : RailId) => t.riseRail resp r) s).riseDevice resp := rfl

theorem rises_riseRail (s : State) (resp : Nat) (r : RailId) : Rises s (s.riseRail resp r) := by
  unfold State.riseRail
  split
  case isTrue h => exact (Rises.put_response s _ resp (responseSub_rail r) h.le).trans (.interrupt _ 2)
  case isFalse => exact .refl s

theorem rises_riseDevice (s : State) (resp : Nat) : Rises s (s.riseDevice resp) := by
  unfold State.riseDevice
  split
  case isTrue h => exact (Rises.put_response s 1 resp (Or.inl rfl) h.le).trans (.interrupt _ 2)
  case isFalse => exact .refl s

/-- An active response set with a flag beside it. -/
theorem nat_putObj_interrupt {s : State} (sub v n : Nat) (hc : Safety.canonical s = true) :
    ((s.putObj 0x2300 sub v).interrupt n).nat 0x2300 sub = v := by
  have hkept := (State.interrupt_keeps n (maskLe_refl _) (Keeps.refl _ (s.putObj 0x2300 sub v))).obj
    (canonical_putObj _ _ _ hc) (ix := 0x2300) sub rfl
  rw [State.nat, hkept, obj_putObj _ _ _ hc]
  rfl

theorem riseRail_reached {s : State} (resp : Nat) (r : RailId) (hc : Safety.canonical s = true) :
    resp ≤ (s.riseRail resp r).railResponse r := by
  unfold State.riseRail
  split
  case isTrue => exact (nat_putObj_interrupt (5 + r.val) resp 2 hc).ge
  case isFalse h => exact Nat.not_lt.1 h

theorem riseDevice_reached {s : State} (resp : Nat) (hc : Safety.canonical s = true) :
    resp ≤ (s.riseDevice resp).deviceResponse := by
  unfold State.riseDevice
  split
  case isTrue => exact (nat_putObj_interrupt 1 resp 2 hc).ge
  case isFalse h => exact Nat.not_lt.1 h

theorem rises_riseRails (l : List RailId) (resp : Nat) (s : State) :
    Rises s (l.foldl (fun (t : State) (r : RailId) => t.riseRail resp r) s) :=
  .foldl _ l (fun t r => rises_riseRail t resp r) s

theorem riseRails_reached {l : List RailId} {s : State} (resp : Nat) (hc : Safety.canonical s = true) {r : RailId}
    (hr : r ∈ l) : resp ≤ (l.foldl (fun (t : State) (r : RailId) => t.riseRail resp r) s).railResponse r := by
  induction l generalizing s with
  | nil => exact absurd hr List.not_mem_nil
  | cons q l ih =>
    obtain ⟨hc', -⟩ := rises_riseRail s resp q hc
    rcases List.mem_cons.1 hr with rfl | hr
    · exact (riseRail_reached resp r hc).trans ((rises_riseRails l resp _ hc').2 _ (responseSub_rail r))
    · exact ih hc' hr

/-- An active response set leaves the objects of 2320 but the flags. -/
theorem obj_putResponse {s : State} (sub' : Nat) (v : Int) (n : Nat) {sub : Nat} (hc : Safety.canonical s = true)
    (h1 : sub ≠ 1) (hlt : sub < 256) : ((s.putObj 0x2300 sub' v).interrupt n).obj 0x2320 sub = s.obj 0x2320 sub := by
  have hkeeps : Keeps 0x800000000000 s (s.putObj 0x2300 sub' v) := State.putObj_keeps _ _ _ rfl (Keeps.refl _ s)
  exact (obj_putObj_ne _ (hkeeps.canonical hc) (objKey_inj hlt (by decide) h1)).trans (hkeeps.obj hc sub rfl)

theorem obj_riseRail {s : State} (resp : Nat) (r : RailId) {sub : Nat} (hc : Safety.canonical s = true)
    (h1 : sub ≠ 1) (hlt : sub < 256) : (s.riseRail resp r).obj 0x2320 sub = s.obj 0x2320 sub := by
  unfold State.riseRail
  split
  · exact obj_putResponse _ _ _ hc h1 hlt
  · rfl

theorem obj_riseDevice {s : State} (resp : Nat) {sub : Nat} (hc : Safety.canonical s = true)
    (h1 : sub ≠ 1) (hlt : sub < 256) : (s.riseDevice resp).obj 0x2320 sub = s.obj 0x2320 sub := by
  unfold State.riseDevice
  split
  · exact obj_putResponse _ _ _ hc h1 hlt
  · rfl

theorem obj_riseResponses {s : State} (e resp : Nat) {sub : Nat} (hc : Safety.canonical s = true) (h1 : sub ≠ 1)
    (hlt : sub < 256) : (s.riseResponses e resp).obj 0x2320 sub = s.obj 0x2320 sub := by
  have hrails (l : List RailId) : ∀ s : State, Safety.canonical s = true →
      (l.foldl (fun (t : State) (r : RailId) => t.riseRail resp r) s).obj 0x2320 sub = s.obj 0x2320 sub := by
    induction l with
    | nil => exact fun _ _ => rfl
    | cons r l ih =>
      exact fun s hc => (ih _ (rises_riseRail s resp r hc).1).trans (obj_riseRail resp r hc h1 hlt)
  rw [riseResponses_eq, obj_riseDevice resp (rises_riseRails _ resp s hc).1 h1 hlt]
  exact hrails _ s hc

theorem rises_riseResponses (s : State) (e resp : Nat) : Rises s (s.riseResponses e resp) := by
  rw [riseResponses_eq]
  exact (rises_riseRails _ resp s).trans (rises_riseDevice _ resp)

/-- The responses of the device and of the rails a raising raises reach its own. -/
theorem riseResponses_reached {s : State} (e resp : Nat) (hc : Safety.canonical s = true) :
    resp ≤ (s.riseResponses e resp).deviceResponse ∧
      ∀ r ∈ s.raisedRails e resp, resp ≤ (s.riseResponses e resp).railResponse r := by
  have hcf := (rises_riseRails (s.raisedRails e resp) resp s hc).1
  rw [riseResponses_eq]
  refine ⟨riseDevice_reached resp hcf, fun r hr => ?_⟩
  exact (riseRails_reached resp hc hr).trans ((rises_riseDevice _ resp hcf).2 _ (responseSub_rail r))

/-! ### A raising raises (R465) -/

theorem rises_enterUncleared (s : State) (u : Uncleared) : Rises s (s.enterUncleared u) :=
  (Rises.of_keeps (State.setFabric_keeps _ (maskLe_refl _) (Keeps.refl _ s)) rfl).trans
    (.put_other _ 0x0E _ (by decide) (by decide))

theorem rises_enqueue (s : State) (o : Occurrence) : Rises s (s.enqueue o) :=
  .of_keeps (State.enqueue_keeps o (maskLe_refl _) (Keeps.refl _ s)) rfl

theorem rises_noteRaising (s : State) (e : Nat) : Rises s (s.noteRaising e) := .of_keeps (noteRaising_keeps s e) rfl

/-- A raising is nothing, or takes place. -/
theorem raiseCore_cases (s : State) (e data : Nat) (restored : Bool) : s.raiseCore e data restored = s ∨
    ∃ i, eventInfo e = some i ∧ i.kind ≠ .trigger ∧
      (s.raiseCore e data restored = (s.noteRaising e).bump 0x2320 (6 + i.sev) ∨
        ∃ (u : Uncleared) (o : Occurrence), u.ev = e ∧ u.standing = (i.kind == .standing) ∧
          s.raiseCore e data restored =
            (((s.noteRaising e).enterUncleared u).riseResponses e (s.responseOf e)).enqueue o) := by
  unfold State.raiseCore
  split
  case h_1 => exact .inl rfl
  case h_2 i hi =>
    split
    case isTrue => exact .inl rfl
    case isFalse hk =>
      dsimp only
      split
      case isTrue => exact .inl rfl
      case isFalse =>
        refine .inr ⟨i, hi, hk, ?_⟩
        split
        case isTrue => exact .inl rfl
        case isFalse => exact .inr ⟨⟨e, _, _, _, _⟩, _, rfl, rfl, rfl⟩

theorem rises_raiseCore (s : State) (e data : Nat) : Rises s (s.raiseCore e data) := by
  rcases raiseCore_cases s e data false with h | ⟨i, -, -, h | ⟨u, o, -, -, h⟩⟩
  · rw [h]
    exact .refl s
  · rw [h]
    exact (rises_noteRaising s e).trans (.of_keeps (W := 0x2000000000000) (State.putObj_keeps _ _ _ rfl (Keeps.refl _ _)) rfl)
  · rw [h]
    exact (((rises_noteRaising s e).trans (rises_enterUncleared _ u)).trans (rises_riseResponses _ e _)).trans
      (rises_enqueue _ o)

theorem rises_putBit_2300 (s : State) (n : Nat) (b : Bool) : Rises s (s.putBit 0x2300 0x0C n b) :=
  .put_other s 0x0C _ (by decide) (by decide)

/-- The stop of one rail on entering Outline mode (R485). -/
theorem rises_outlineStop (s : State) (r : RailId) (ran : Bool) (v : Int) :
    Rises s ((if ran then (s.hardStop r 8).putRailObj r 0x40 6 8 else s.hardStop r 8).putRailObj r 0x00 3 v) := by
  have hstop : Keeps 0x42D000010002420000 s (s.hardStop r 8) := State.hardStop_keeps r 8 (by decide) (Keeps.refl _ s)
  refine .of_keeps (W := 0x42D000010002420000) (State.putRailObj_keeps r 0 3 v (by decide) ?_) (by decide)
  exact Keeps.ite (State.putRailObj_keeps r 0x40 6 8 (by decide) hstop) hstop

theorem rises_haltEngine (s : State) : Rises s (if s.obj 0x3800 1 == 1 then s.putObj 0x3800 1 0 else s) := by
  split
  · exact .of_keeps (W := 2 ^ siteOf 0x3800) (State.putObj_keeps _ _ _ (by decide) (Keeps.refl _ s)) (by decide)
  · exact .refl s

theorem rises_enterOutline (s : State) (cause : Nat) : Rises s (s.enterOutline cause) := by
  unfold State.enterOutline
  dsimp only
  refine (rises_putBit_2300 s (cause - 1) true).trans ?_
  split
  case isTrue => exact .refl _
  case isFalse =>
    refine Rises.trans ?_ (rises_raiseCore _ _ _)
    refine Rises.trans ?_ (.of_keeps (State.startTurning_keeps (maskLe_refl _) (Keeps.refl _ _)) (by decide))
    refine Rises.trans ?_ (.of_keeps (State.leaveRing_keeps 2 (maskLe_refl _) (Keeps.refl _ _)) (by decide))
    refine Rises.trans ?_ (rises_haltEngine _)
    refine Rises.trans ?_ (Rises.foldl _ _ (fun t r => rises_outlineStop t r _ _) _)
    exact (Rises.of_keeps (State.setOutline_keeps _ (maskLe_refl _) (Keeps.refl _ _)) (by decide)).trans
      (.put_other _ 0x0D _ (by decide) (by decide))

theorem rises_respond (s : State) (e resp : Nat) (acts : List RailId) : Rises s (s.respond e resp acts) := by
  unfold State.respond
  split
  · refine Rises.foldl _ acts (fun t r => ?_) s
    split
    · exact .of_keeps (W := 0x25000000002400000) (State.modRail_keeps r _ (by decide)
        (State.putRailObj_keeps r 0 3 0 (by decide) (State.softStop_keeps r 5 (by decide) (Keeps.refl _ t)))) (by decide)
    · exact .refl t
  · refine Rises.foldl _ acts (fun t r => ?_) s
    split
    · exact .of_keeps (W := 0x42D000010002420000) (State.modRail_keeps r _ (by decide)
        (State.putRailObj_keeps r 0 3 2 (by decide) (State.hardStop_keeps r _ (by decide) (Keeps.refl _ t)))) (by decide)
    · exact .refl t
  · exact rises_enterOutline s 6
  · exact (rises_enterOutline s 7).trans
      (.of_keeps (State.safePath_keeps (maskLe_refl _) (Keeps.refl _ _)) (by decide))
  · exact .refl s

/-- What a raising comes to: its core, and its response action where it has one. -/
theorem raise_cases (s : State) (e data : Nat) : s.raise e data = s.raiseCore e data ∨
    ∃ acts, s.raise e data = (s.raiseCore e data).respond e (s.responseOf e) acts := by
  unfold State.raise
  dsimp only
  split
  · exact .inr ⟨_, rfl⟩
  · exact .inl rfl

theorem rises_respond_raise (s : State) (e data : Nat) : Rises (s.raiseCore e data) (s.raise e data) := by
  rcases raise_cases s e data with h | ⟨acts, h⟩
  · rw [h]
    exact .refl _
  · rw [h]
    exact rises_respond _ e _ acts

theorem rises_raise (s : State) (e data : Nat) : Rises s (s.raise e data) :=
  (rises_raiseCore s e data).trans (rises_respond_raise s e data)

/-! ### The targets of a raising (R464) -/

theorem targets_of_keeps {W : Nat} {s t : State} (e : Nat) (k : Keeps W s t) (hc : Safety.canonical s = true)
    (hmap : siteIn W (railIx 0 1) = false) (hslot : siteIn W 0x3810 = false) : t.targets e = s.targets e := by
  have hrail (n : Nat) (hn : n < 16) : t.obj (0x3810 + n) 1 = s.obj (0x3810 + n) 1 :=
    k.obj hc 1 ((siteIn_congr W (ix' := 0x3810) (group_slotIx ⟨n, hn⟩ 0 (by decide))).trans hslot)
  unfold State.targets
  split
  · split
    · rw [railOf_of_keeps _ k hc hmap]
    · rfl
  · split
    · rfl
    · split
      · rw [hrail _ (by omega)]
      · rfl

theorem raisedRails_of_keeps {W : Nat} {s t : State} (e resp : Nat) (k : Keeps W s t) (hc : Safety.canonical s = true)
    (hmap : siteIn W (railIx 0 1) = false) (hslot : siteIn W 0x3810 = false) :
    t.raisedRails e resp = s.raisedRails e resp := by
  unfold State.raisedRails
  rw [targets_of_keeps e k hc hmap hslot]

/-- The responses of the device and of the rails an event acts on are at its own response at the least (R465). -/
theorem raise_reached {s : State} {e : Nat} {i : EventInfo} (data : Nat) (hc : Safety.canonical s = true)
    (hi : eventInfo e = some i) (hk : i.kind ≠ .trigger) (hs : s.standing e = false) :
    s.responseOf e ≤ (s.raise e data).deviceResponse ∧
      ∀ r ∈ s.raisedRails e (s.responseOf e), s.responseOf e ≤ (s.raise e data).railResponse r := by
  by_cases hr : s.responseOf e = 0
  · rw [hr]
    exact ⟨Nat.zero_le _, fun _ _ => Nat.zero_le _⟩
  · obtain ⟨u, o, hcore, -⟩ := raiseCore_entered data hi hk hs hr
    have hkeeps : Keeps 0x2800000000008 s ((s.noteRaising e).enterUncleared u) :=
      (enterUncleared_keeps _ u).step (by decide) ((noteRaising_keeps s e).mono (by decide))
    have hcu := hkeeps.canonical hc
    obtain ⟨hdevice, hrails⟩ := riseResponses_reached e (s.responseOf e) hcu
    rw [raisedRails_of_keeps e _ hkeeps hc (by decide) (by decide)] at hrails
    have hafter : Rises (((s.noteRaising e).enterUncleared u).riseResponses e (s.responseOf e)) (s.raise e data) :=
      (rises_enqueue _ o).trans (hcore ▸ rises_respond_raise s e data)
    obtain ⟨-, hle⟩ := hafter (rises_riseResponses _ e _ hcu).1
    exact ⟨hdevice.trans (hle 1 (Or.inl rfl)), fun r hmem => (hrails r hmem).trans (hle _ (responseSub_rail r))⟩

/-! ### The pending FIFO (R461, R463) -/

/-- With room the occurrence takes the last place of the FIFO. -/
theorem enqueue_room {s : State} (o : Occurrence) (h : s.fabric.fifo.length < 64) :
    (s.enqueue o).fabric = { s.fabric with fifo := s.fabric.fifo ++ [o] } := by
  unfold State.enqueue
  rw [if_pos h]
  dsimp only
  split <;> rfl

/-- A source in the overflow map, which names each source once (R461). -/
def State.markOverflow (s : State) (e : Nat) : Fabric :=
  if s.fabric.overflow.contains e then s.fabric
  else { s.fabric with
    overflow := (s.fabric.overflow.filter (· < e)) ++ [e] ++ (s.fabric.overflow.filter (e < ·)) }

theorem mem_markOverflow (s : State) (e : Nat) : e ∈ (s.markOverflow e).overflow := by
  unfold State.markOverflow
  split
  case isTrue h => exact List.contains_iff_mem.1 h
  case isFalse => simp

theorem markOverflow_fifo (s : State) (e : Nat) : (s.markOverflow e).fifo = s.fabric.fifo := by
  unfold State.markOverflow
  split <;> rfl

/-- Without room the source is marked and the loss counted. -/
theorem enqueue_full {s : State} (o : Occurrence) (h : 64 ≤ s.fabric.fifo.length) :
    s.enqueue o = (s.setFabric (s.markOverflow o.ev)).bump 0x2320 5 := if_neg (Nat.not_lt.2 h)

/-- Before its offer to the FIFO a raising has touched neither the FIFO, nor the overflow map, nor the count of
losses. -/
theorem beforeEnqueue {s : State} (e : Nat) (u : Uncleared) (hc : Safety.canonical s = true) :
    let t := ((s.noteRaising e).enterUncleared u).riseResponses e (s.responseOf e)
    Safety.canonical t = true ∧ t.fabric.fifo = s.fabric.fifo ∧ t.fabric.overflow = s.fabric.overflow ∧
      t.obj 0x2320 5 = s.obj 0x2320 5 := by
  have hnote := noteRaising_keeps s e
  have hn := hnote.canonical hc
  have henter := enterUncleared_keeps (s.noteRaising e) u
  have hu := henter.canonical hn
  have hfabric : ((s.noteRaising e).enterUncleared u).fabric = { s.fabric with
      uncleared := (s.fabric.uncleared.filter fun (w : Uncleared) => w.ev != u.ev) ++ [u] } := by
    rw [← hnote.parts .fabric rfl]
    rfl
  have hcount : ((s.noteRaising e).enterUncleared u).obj 0x2320 5 = s.obj 0x2320 5 :=
    (henter.obj hn 5 rfl).trans (obj_noteRaising e hc (by decide) (by decide) (by decide))
  refine ⟨(rises_riseResponses _ _ _ hu).1, ?_, ?_, ?_⟩
  · rw [riseResponses_fabric, hfabric]
  · rw [riseResponses_fabric, hfabric]
  · exact (obj_riseResponses e _ hu (by decide) (by decide)).trans hcount

/-- A raising with a response offers its occurrence to the FIFO (R461). -/
theorem raiseCore_offered {s : State} {e : Nat} {i : EventInfo} (data : Nat) (hc : Safety.canonical s = true)
    (hi : eventInfo e = some i) (hk : i.kind ≠ .trigger) (hs : s.standing e = false) (hr : s.responseOf e ≠ 0) :
    ∃ (t : State) (o : Occurrence), s.raiseCore e data = t.enqueue o ∧ o.ev = e ∧ o.resp = s.responseOf e ∧
      o.data = data ∧ o.overflow = false ∧ Safety.canonical t = true ∧ t.fabric.fifo = s.fabric.fifo ∧
      t.fabric.overflow = s.fabric.overflow ∧ t.obj 0x2320 5 = s.obj 0x2320 5 := by
  obtain ⟨u, o, hcore, hev, hresp, hdata, hoverflow⟩ := raiseCore_entered data hi hk hs hr
  exact ⟨_, o, hcore, hev, hresp, hdata, hoverflow, beforeEnqueue e u hc⟩

/-- A raising counted only leaves the fabric and counts under its severity (R463). -/
theorem raiseCore_counted_obj {s : State} {e : Nat} {i : EventInfo} (data : Nat) (hc : Safety.canonical s = true)
    (hi : eventInfo e = some i) (hk : i.kind ≠ .trigger) (hs : s.standing e = false) (hr : s.responseOf e = 0) :
    (s.raiseCore e data).fabric = s.fabric ∧ (s.raiseCore e data).obj 0x2320 (6 + i.sev) =
      countNext (objKey 0x2320 (6 + i.sev)) (s.obj 0x2320 (6 + i.sev)) := by
  have hsev : i.sev < 6 := by
    have h := severityOf_lt e
    rwa [severityOf, hi] at h
  have hnote := noteRaising_keeps s e
  rw [raiseCore_counted data hi hk hs hr, obj_bump _ _ (hnote.canonical hc),
    obj_noteRaising e hc (by omega) (by omega) (by omega)]
  exact ⟨hnote.parts .fabric rfl, rfl⟩

end Sys2Proof.Machine

namespace Sys2Proof

open Machine

/-- Settles O54: every step of a raising leaves the active responses or writes more restrictive ones. -/
theorem activeResponsesOnlyRise : Obligations.ActiveResponsesOnlyRise := by
  unfold Obligations.ActiveResponsesOnlyRise
  intro event data s hc
  cases hserves : s.serving with
  | false =>
    exact ⟨s, if_neg (by rw [hserves]; exact Bool.false_ne_true), fun _ => le_rfl, le_rfl,
      fun _ _ _ _ h => absurd h Bool.false_ne_true⟩
  | true =>
    obtain ⟨-, hle⟩ := rises_raise s event.val data.toNat hc
    exact ⟨_, if_pos hserves, fun r => hle _ (responseSub_rail r), hle 1 (Or.inl rfl),
      fun i hi hk hs _ => raise_reached data.toNat hc hi hk hs⟩

/-- Settles O55: a response below 4 has no action, so the raising is its core, which the FIFO takes or the overflow
map marks. -/
theorem raisingsEnterTheFifo : Obligations.RaisingsEnterTheFifo := by
  unfold Obligations.RaisingsEnterTheFifo
  intro event data i s hc hserves hi hk hs hsmall
  refine ⟨_, (if_pos hserves).trans (congrArg _ (raise_low _ hsmall)), ?room, ?full, ?none⟩
  case room =>
    intro hr hroom
    obtain ⟨t, o, hcore, hev, hresp, hdata, hover, -, hfifo, hmap, -⟩ := raiseCore_offered data.toNat hc hi hk hs hr
    rw [hcore, enqueue_room o (by rwa [hfifo]), hfifo]
    exact ⟨o, rfl, hev, hresp, hdata, hover, hmap⟩
  case full =>
    intro hr hfull
    obtain ⟨t, o, hcore, hev, -, -, -, hct, hfifo, -, hcount⟩ := raiseCore_offered data.toNat hc hi hk hs hr
    rw [hcore, enqueue_full o (by rwa [hfifo]), hev]
    exact ⟨(markOverflow_fifo t event.val).trans hfifo, mem_markOverflow t event.val,
      (obj_bump 0x2320 5 hct).trans (congrArg _ hcount)⟩
  case none => exact raiseCore_counted_obj data.toNat hc hi hk hs

end Sys2Proof
end

section
/-! Clearing (O44), and the event fabric with FAULT_N and INT_N (O15). -/

namespace Sys2Proof.Machine

/-! ### Actions refused by their rule (R44, R82) -/

theorem tags_find_none {l : List (Nat × Option Nat)} {tag : Nat} (h : ∀ c ∈ l, c.1 ≠ tag) :
    (l.find? fun (c : Nat × Option Nat) => c.1 == tag) = none :=
  List.find?_eq_none.2 fun c hc => by simpa using h c hc

theorem tagOf_actionBytes {tag arg : Nat} (htag : tag < 65536) (harg : arg < 65536) :
    tagOf (leNat (actionBytes tag arg)) = tag ∧ argOf (leNat (actionBytes tag arg)) = arg := by
  have hnum : leNat (actionBytes tag arg) = tag + 65536 * arg := by
    simp only [actionBytes, leBytes, leNat, BitVec.toNat_ofNat]
    omega
  rw [hnum, tagOf, argOf]
  omega

/-- An action under a new tag that the rule of its object refuses: the tag and REFUSED stand in the object, and beside
that only the clients change, and they hold the answer. -/
theorem hostAction_ruled {s : State} {ch : Channel} {ix sub tag arg code : Nat} {row : ObjRow}
    (hreach : s.reaches ch = true) (hrow : findRow ix sub = some row) (hi : isAction ix sub = true)
    (hadm : s.admission ch row ix sub (actionBytes tag arg) = none) (hrule : s.actionRule ch ix sub arg = some code)
    (h0 : tag ≠ 0) (htag : tag < 65536) (harg : arg < 65536) (hnew : ∀ c ∈ (s.client ch).tags, c.1 ≠ tag) :
    ∃ c : Clients, s.hostAction ch ix sub tag arg = (s.putObj ix sub ((tag + 0x20000 : Nat) : Int)).setClients c ∧
      c.answer = some ⟨ch, ix, sub, some code⟩ := by
  obtain ⟨htagOf, hargOf⟩ := tagOf_actionBytes htag harg
  obtain ⟨c, hc⟩ := modClient_eq_setClients s ch fun d => { d with tags := ((tag, some code) :: d.tags).take 16 }
  have hwrite : s.writeObj ch ix sub (actionBytes tag arg) = s.refuseAction ch ix sub tag code := by
    have hlen : (actionBytes tag arg).length = 4 := rfl
    simp [State.writeObj, hrow, hi, hlen, htagOf, h0, State.writeAction, hargOf, tags_find_none hnew, hadm, hrule]
  have hremember : s.remember ch tag (some code) = s.setClients c := hc
  refine ⟨{ c with answer := some ⟨ch, ix, sub, some code⟩ }, ?_, rfl⟩
  rw [State.hostAction, State.hostWrite, if_pos hreach]
  dsimp only
  rw [hwrite, State.refuseAction, hremember]
  rfl

/-! ### Clearing (R469) -/

theorem isAction_clear : isAction 0x2300 2 = true := rfl

theorem actionRule_clear (s : State) (ch : Channel) (arg : Nat) : s.actionRule ch 0x2300 2 arg = s.clearRule arg := rfl

theorem clearRule_all (s : State) : s.clearRule 0x0FFF = none := rfl

theorem clearRule_event {s : State} {e : Nat} (h : e < 0x280) :
    s.clearRule e = if s.standing e then some 0x08000022 else none := by
  rw [State.clearRule, if_neg (by omega), if_neg (by omega)]

theorem clearRule_other {s : State} {arg : Nat} (h : 0x280 ≤ arg) (hall : arg ≠ 0x0FFF) :
    s.clearRule arg = some 0x06090030 := by
  rw [State.clearRule, if_neg hall, if_pos (by omega)]

/-- A clear that reaches its rule, and that the rule admits. -/
theorem clear_admits {s : State} {ch : Channel} {tag arg : Nat} (h : Safety.clearReaches s ch tag arg)
    (htag : tag < 65536) (harg : arg < 65536) (hrule : s.clearRule arg = none) :
    Safety.actionAdmits s ch 0x2300 2 tag arg := by
  obtain ⟨hreach, h0, hnew, row, hrow, hadm⟩ := h
  exact ⟨hreach, h0, htag, harg, hnew, row, hrow, hadm, hrule⟩

theorem keepUncleared_fabric (s : State) (keep : Uncleared → Bool) : (s.keepUncleared keep).fabric =
    { s.fabric with uncleared := s.fabric.uncleared.filter keep } := by
  unfold State.keepUncleared
  dsimp only
  split <;> rfl

/-- Clearing writes no active response. -/
theorem keepUncleared_responses {s : State} (keep : Uncleared → Bool) {sub : Nat} (hc : Safety.canonical s = true)
    (hsub : responseSub sub) : (s.keepUncleared keep).obj 0x2300 sub = s.obj 0x2300 sub := by
  have hlt : sub < 256 ∧ sub ≠ 0x0E ∧ sub ≠ 0x0C := by
    unfold responseSub at hsub
    omega
  obtain ⟨hsub, hE, hC⟩ := hlt
  have hcount (t : State) (ht : Safety.canonical t = true) (v : Int) :
      (t.putObj 0x2300 0x0E v).obj 0x2300 sub = t.obj 0x2300 sub :=
    obj_putObj_ne v ht (objKey_inj hsub (by decide) hE)
  have hf : Safety.canonical (s.setFabric { s.fabric with uncleared := s.fabric.uncleared.filter keep }) = true := hc
  unfold State.keepUncleared
  dsimp only
  split
  · exact (obj_putObj_ne _ (canonical_putObj _ _ _ hf) (objKey_inj hsub (by decide) hC)).trans (hcount _ hf _)
  · exact hcount _ hf _

/-- The test of the entries that a write to 2300:02 keeps. -/
def keepsEntry (arg : Nat) (u : Uncleared) : Bool := if arg = 0x0FFF then u.standing else u.ev != arg || u.standing

theorem clearEvents_eq (s : State) (arg : Nat) : s.clearEvents arg = s.keepUncleared (keepsEntry arg) := by
  unfold State.clearEvents keepsEntry
  split <;> simp [*]

/-- A clear that its rule admits: what it leaves of the fabric and of the responses (R465, R469). -/
theorem hostAction_clear {s : State} {ch : Channel} {tag arg : Nat} (ha : Safety.actionAdmits s ch 0x2300 2 tag arg) :
    Safety.done (s.hostAction ch 0x2300 2 tag arg) ch 0x2300 2 ∧ (s.hostAction ch 0x2300 2 tag arg).fabric =
      { s.fabric with uncleared := s.fabric.uncleared.filter (keepsEntry arg) } ∧
    (Safety.canonical s = true → Safety.sameResponses s (s.hostAction ch 0x2300 2 tag arg)) := by
  obtain ⟨b, c, hact, hans⟩ := hostAction_admitted ha isAction_clear rfl rfl
  rw [hact, do_event_clear, clearEvents_eq]
  refine ⟨hans, keepUncleared_fabric _ _, fun hc => ?_⟩
  have hcb : Safety.canonical (s.setClients b) = true := hc
  have hkept : Safety.canonical ((s.setClients b).keepUncleared (keepsEntry arg)) = true :=
    (State.keepUncleared_keeps _ (maskLe_refl _) (Keeps.refl _ _)).canonical hcb
  have hsame (sub : Nat) (hsub : responseSub sub) :
      ((((s.setClients b).keepUncleared (keepsEntry arg)).putObj 0x2300 2 tag).setClients c).obj 0x2300 sub =
        s.obj 0x2300 sub := by
    have hne : sub ≠ 2 ∧ sub < 256 := by
      unfold responseSub at hsub
      omega
    exact (obj_putObj_ne _ hkept (objKey_inj hne.2 (by decide) hne.1)).trans (keepUncleared_responses _ hcb hsub)
  exact ⟨hsame 1 (Or.inl rfl), fun r => hsame _ (responseSub_rail r)⟩

/-- A clear that its rule refuses changes neither fabric nor responses. -/
theorem hostAction_clearRefused {s : State} {ch : Channel} {tag arg code : Nat} (hc : Safety.canonical s = true)
    (h : Safety.clearReaches s ch tag arg) (htag : tag < 65536) (harg : arg < 65536)
    (hrule : s.clearRule arg = some code) :
    (s.hostAction ch 0x2300 2 tag arg).clients.answer = some ⟨ch, 0x2300, 2, some code⟩ ∧
      (s.hostAction ch 0x2300 2 tag arg).fabric = s.fabric ∧
      Safety.sameResponses s (s.hostAction ch 0x2300 2 tag arg) := by
  obtain ⟨hreach, h0, hnew, row, hrow, hadm⟩ := h
  obtain ⟨c, hact, hans⟩ := hostAction_ruled hreach hrow isAction_clear hadm hrule h0 htag harg hnew
  rw [hact]
  have hsame (sub : Nat) (hsub : responseSub sub) :
      ((s.putObj 0x2300 2 ((tag + 0x20000 : Nat) : Int)).setClients c).obj 0x2300 sub = s.obj 0x2300 sub := by
    have hne : sub ≠ 2 ∧ sub < 256 := by
      unfold responseSub at hsub
      omega
    exact (obj_setClients _ c _ _).trans (obj_putObj_ne _ hc (objKey_inj hne.2 (by decide) hne.1))
  exact ⟨hans, rfl, hsame 1 (Or.inl rfl), fun r => hsame _ (responseSub_rail r)⟩

/-- An event that does not stand is not among the entries that its clear keeps. -/
theorem uncleared_filter_keepsEntry {s t : State} {e : Nat} (he : e < 0x280) (hs : s.standing e = false)
    (ht : t.fabric.uncleared = s.fabric.uncleared.filter (keepsEntry e)) : Safety.uncleared t e = false := by
  unfold Safety.uncleared
  rw [ht, List.any_eq_false]
  intro u hu hev
  obtain ⟨hmem, hkeep⟩ := List.mem_filter.1 hu
  unfold State.standing at hs
  rw [List.any_eq_false] at hs
  have hstanding : u.standing = true := by
    rw [keepsEntry, if_neg (by omega)] at hkeep
    simpa [beq_iff_eq.1 hev] using hkeep
  exact hs u hmem (by rw [hev, hstanding]; rfl)

/-- A clear keeps the entries of the other events. -/
theorem keepsEntry_other {e : Nat} {u : Uncleared} (he : e < 0x280) (h : u.ev ≠ e) : keepsEntry e u = true := by
  rw [keepsEntry, if_neg (by omega), Bool.or_eq_true]
  exact Or.inl (bne_iff_ne.2 h)

theorem filter_keepsEntry_inactive {s : State} {e : Nat} (he : e < 0x280) (h : Safety.uncleared s e = false) :
    s.fabric.uncleared.filter (keepsEntry e) = s.fabric.uncleared := by
  unfold Safety.uncleared at h
  rw [List.any_eq_false] at h
  exact List.filter_eq_self.2 fun u hu => keepsEntry_other he fun hev => h u hu (beq_iff_eq.2 hev)

theorem not_standing_of_clearRule {s : State} {e : Nat} (he : e < 0x280) (h : s.clearRule e = none) :
    s.standing e = false := by
  rw [clearRule_event he] at h
  cases hs : s.standing e with
  | false => rfl
  | true => simp [hs] at h

end Sys2Proof.Machine

namespace Sys2Proof

open Machine

/-- Settles O44: the four classes of argument are those of the rule of 2300:02, and an admitted clear filters the
entries. -/
theorem eventsAreCleared : Obligations.EventsAreCleared := by
  unfold Obligations.EventsAreCleared
  refine ⟨?event, ?standing, ?all, ?other⟩
  case event =>
    intro ch tag arg s hc hreach he hs
    have hrule : s.clearRule arg.toNat = none := by rw [clearRule_event he, hs]; rfl
    obtain ⟨hdone, hfabric, hresp⟩ := hostAction_clear (clear_admits hreach tag.isLt arg.isLt hrule)
    refine ⟨_, rfl, hdone, uncleared_filter_keepsEntry he hs (congrArg Fabric.uncleared hfabric), fun hnone => ?_,
      fun u hu => ?_, hresp hc⟩
    · exact hfabric.trans (by rw [filter_keepsEntry_inactive he hnone])
    · have hmem : u ∈ s.fabric.uncleared.filter (keepsEntry arg.toNat) ↔ u ∈ s.fabric.uncleared := by
        rw [List.mem_filter, keepsEntry_other he hu]
        exact and_iff_left rfl
      exact (congrArg (u ∈ Fabric.uncleared ·) hfabric).to_iff.trans hmem
  case standing =>
    intro ch tag arg s hc hreach he hs
    have hrule : s.clearRule arg.toNat = some 0x08000022 := by rw [clearRule_event he, hs]; rfl
    exact ⟨_, rfl, hostAction_clearRefused hc hreach tag.isLt arg.isLt hrule⟩
  case all =>
    intro ch tag s hc hreach
    obtain ⟨hdone, hfabric, hresp⟩ := hostAction_clear (clear_admits hreach tag.isLt (by decide) (clearRule_all s))
    refine ⟨_, rfl, hdone, fun u => ?_, hresp hc⟩
    exact (congrArg (u ∈ Fabric.uncleared ·) hfabric).to_iff.trans List.mem_filter
  case other =>
    intro ch tag arg s hc hreach he hall
    exact ⟨_, rfl, hostAction_clearRefused hc hreach tag.isLt arg.isLt (clearRule_other he hall)⟩

end Sys2Proof
end

section
/-! The event fabric, FAULT_N and INT_N (O15). -/

namespace Sys2Proof.Machine

/-! ### Raisings that are not taken (R33) -/

/-- A trigger-class event is never raised (R33). -/
theorem raise_trigger {s : State} {e : Nat} {i : EventInfo} (data : Nat) (hi : eventInfo e = some i)
    (hk : i.kind = .trigger) (hu : Safety.uncleared s e = false) : s.raise e data = s := by
  have hcore : s.raiseCore e data = s := by
    unfold State.raiseCore
    rw [hi]
    exact if_pos hk
  unfold State.raise
  dsimp only
  rw [hcore, show (s.fabric.uncleared.any fun u => u.ev == e) = false from hu, Bool.and_false]
  rfl

/-! ### The end of a condition (R500) -/

/-- An event that is uncleared and does not stand. -/
def LatchedIn (l : List Uncleared) (e : Nat) : Prop :=
  (l.any fun u => u.ev == e && u.standing) = false ∧ (l.any fun u => u.ev == e) = true

/-- A raising of a momentary event leaves it latched. -/
theorem raiseCore_latched {s : State} {e : Nat} {i : EventInfo} (data : Nat) (restored : Bool)
    (hi : eventInfo e = some i) (hk : i.kind ≠ .standing) (h : LatchedIn s.fabric.uncleared e) :
    LatchedIn (s.raiseCore e data restored).fabric.uncleared e := by
  rcases raiseCore_cases s e data restored with heq | ⟨j, hj, -, heq | ⟨u, o, hev, hstanding, heq⟩⟩
  · rwa [heq]
  · have hf : ((s.noteRaising e).bump 0x2320 (6 + j.sev)).fabric = s.fabric :=
      (noteRaising_keeps s e).parts .fabric rfl
    rwa [heq, hf]
  · obtain rfl : i = j := Option.some.inj (hi.symm.trans hj)
    have hfabric : (s.noteRaising e).fabric = s.fabric := (noteRaising_keeps s e).parts .fabric rfl
    have hlist : (s.raiseCore e data restored).fabric.uncleared =
        (s.fabric.uncleared.filter fun w => w.ev != u.ev) ++ [u] := by
      rw [heq, enqueue_uncleared, riseResponses_fabric]
      show (List.filter _ _ ++ [_]) = _
      rw [hfabric]
    have hfresh : u.standing = false := by
      rw [hstanding]
      exact beq_eq_false_iff_ne.2 hk
    rw [hlist]
    refine ⟨?_, ?_⟩
    · rw [List.any_append, Bool.or_eq_false_iff]
      refine ⟨List.any_eq_false.2 fun w hw => ?_, by simp [hfresh]⟩
      have hne : w.ev ≠ e := hev ▸ (bne_iff_ne.1 (List.mem_filter.1 hw).2)
      simp [hne]
    · simp [hev]

theorem stagingChanged_latched {s : State} (h : LatchedIn s.fabric.uncleared rcStagingOverflow) :
    LatchedIn s.stagingChanged.fabric.uncleared rcStagingOverflow := by
  have hwrite (t : State) : t.startWrite.fabric = t.fabric :=
    (State.startWrite_keeps (maskLe_refl _) (Keeps.refl _ t)).parts .fabric rfl
  have hoverflow (t : State) (ht : LatchedIn t.fabric.uncleared rcStagingOverflow) :
      LatchedIn t.checkOverflow.fabric.uncleared rcStagingOverflow := by
    unfold State.checkOverflow
    split
    · exact raiseCore_latched (i := ⟨2, .momentary, 1, 1, 2, 0xFF82⟩) _ _ rfl (by decide) ht
    · exact ht
  unfold State.stagingChanged
  dsimp only
  rw [hwrite]
  refine hoverflow _ ?_
  split <;> exact h

theorem enterStaged_latched {s : State} (x : Staged) (h : LatchedIn s.fabric.uncleared rcStagingOverflow) :
    LatchedIn (s.enterStaged x).fabric.uncleared rcStagingOverflow := by
  unfold State.enterStaged
  dsimp only
  split
  · exact stagingChanged_latched h
  · split
    · split
      · exact stagingChanged_latched h
      · exact h
    · exact h

/-- The end of RC_STAGING_OVERFLOW: its own record may raise it again, and it does not stand then either. -/
theorem endEvent_overflow_ended (s : State) (data : Nat) :
    Safety.ended rcStagingOverflow s (s.endEvent rcStagingOverflow data) := by
  intro u hu hstanding
  have hmap : LatchedIn (s.fabric.uncleared.map (unstand rcStagingOverflow)) rcStagingOverflow := by
    refine ⟨?_, ?_⟩
    · rw [List.any_map, List.any_eq_false]
      intro w _
      by_cases hw : w.ev = rcStagingOverflow <;> simp [unstand, hw]
    · have hkept : ((fun u : Uncleared => u.ev == rcStagingOverflow) ∘ unstand rcStagingOverflow) =
          fun u => u.ev == rcStagingOverflow := funext fun w => by simp [unstand_ev]
      rw [List.any_map, hkept]
      exact uncleared_some hu
  have hend : LatchedIn (s.endEvent rcStagingOverflow data).fabric.uncleared rcStagingOverflow := by
    unfold State.endEvent State.endWith
    rw [hu]
    dsimp only
    rw [hstanding, Bool.not_true, if_neg Bool.false_ne_true]
    split
    · exact enterStaged_latched _ hmap
    · exact hmap
  exact hend

theorem endEvent_ends (s : State) (e data : Nat) : Safety.ended e s (s.endEvent e data) := by
  by_cases h : e = rcStagingOverflow
  · subst h
    exact endEvent_overflow_ended s data
  · exact endEvent_ended s data h

theorem conditionEnds_ended (s : State) (e data : Nat) : Safety.ended e s (s.conditionEnds e data) := by
  unfold State.conditionEnds
  dsimp only
  split
  · exact endEvent_ends s e data
  · exact endEvent_ends s e data

/-! ### FIFO entries (R461) -/

/-- The state in which the supervisor records an occurrence: the FIFO without it, and the counts of 2320 raised. -/
def State.countOccurrence (s : State) (o : Occurrence) (rest : List Occurrence) : State :=
  let t := ((s.setFabric { s.fabric with fifo := rest }).putObj 0x2320 3 rest.length).bump 0x2320 (6 + severityOf o.ev)
  if o.secondary then t.bump 0x2320 0x0C else t

theorem countOccurrence_keeps (s : State) (o : Occurrence) (rest : List Occurrence) :
    Keeps 0x2000000000008 s (s.countOccurrence o rest) := by
  have hfifo : Keeps 0x2000000000008 s
      (((s.setFabric { s.fabric with fifo := rest }).putObj 0x2320 3 rest.length).bump 0x2320 (6 + severityOf o.ev)) :=
    State.putObj_keeps _ _ _ rfl (State.putObj_keeps _ _ _ rfl (State.setFabric_keeps _ rfl (Keeps.refl _ s)))
  unfold State.countOccurrence
  dsimp only
  split
  · exact State.putObj_keeps _ _ _ rfl hfifo
  · exact hfifo

theorem countOccurrence_fifo (s : State) (o : Occurrence) (rest : List Occurrence) :
    (s.countOccurrence o rest).fabric.fifo = rest := by
  unfold State.countOccurrence
  dsimp only
  split <;> rfl

/-- What is recorded and sent of an occurrence (R461). -/
def State.reportOccurrence (s : State) (o : Occurrence) : State :=
  let out := s.takeRecord o
  if 2 ≤ o.resp then
    match out.2 with
    | some none => out.1
    | some (some seq) =>
      (out.1.pushHistory (o.ev * 65536 + o.emcy)).queueEmcy (out.1.emcyFrame o (seq % 65536))
    | none =>
      ((out.1.pushHistory (o.ev * 65536 + o.emcy)).queueEmcy
        (out.1.emcyFrame o ((out.1.unstated 1) % 65536).toNat)).tick
  else out.1

theorem processFifo_eq {s : State} {o : Occurrence} {rest : List Occurrence} (h : s.fabric.fifo = o :: rest) :
    s.processFifo = (s.countOccurrence o rest).reportOccurrence o := by
  unfold State.processFifo
  rw [h]
  rfl

/-- The recorder records where its objects and its sequence number allow it. -/
theorem recording_of_keeps {W : Nat} {s t : State} (k : Keeps W s t) (hc : Safety.canonical s = true)
    (hlife : W.testBit StatePart.life.bit = false) (hrec : W.testBit StatePart.recorder.bit = false)
    (hfunc : siteIn W 0x2110 = false) : t.recording = s.recording := by
  unfold State.recording State.serving State.nextSeq State.funcState State.nat
  rw [k.obj hc _ hfunc, show t.life = s.life from k.parts .life hlife,
    show t.recorder = s.recorder from k.parts .recorder hrec]

theorem countOccurrence_recording {s : State} (o : Occurrence) (rest : List Occurrence)
    (hc : Safety.canonical s = true) : (s.countOccurrence o rest).recording = s.recording :=
  recording_of_keeps (countOccurrence_keeps s o rest) hc rfl rfl rfl

/-- An occurrence that is neither recorded nor sent. -/
theorem reportOccurrence_silent {s : State} {o : Occurrence} (hrec : s.recording = false) (hresp : o.resp < 2) :
    s.reportOccurrence o = s := by
  have htake : s.takeRecord o = (s, none) := by
    unfold State.takeRecord
    rw [hrec]
    rfl
  unfold State.reportOccurrence
  dsimp only
  rw [if_neg (by omega), htake]

/-- The counts after an occurrence that is primary. -/
theorem countOccurrence_obj {s : State} {o : Occurrence} (rest : List Occurrence) (hc : Safety.canonical s = true)
    (hsec : o.secondary = false) : (s.countOccurrence o rest).obj 0x2320 3 = rest.length ∧
      (s.countOccurrence o rest).obj 0x2320 (6 + severityOf o.ev) =
        countNext (objKey 0x2320 (6 + severityOf o.ev)) (s.obj 0x2320 (6 + severityOf o.ev)) := by
  have hsev := severityOf_lt o.ev
  have hf : Safety.canonical (s.setFabric { s.fabric with fifo := rest }) = true := hc
  have hne : objKey 0x2320 3 ≠ objKey 0x2320 (6 + severityOf o.ev) := objKey_inj (by decide) (by omega) (by omega)
  unfold State.countOccurrence
  dsimp only
  rw [hsec, if_neg Bool.false_ne_true, obj_bump_ne (canonical_putObj _ _ _ hf) hne, obj_putObj _ _ _ hf,
    obj_bump _ _ (canonical_putObj _ _ _ hf), obj_putObj_ne _ hf hne.symm]
  exact ⟨rfl, rfl⟩

/-! ### Records of occurrences (R515, R518) -/

/-- No entry waits that the next write could take. -/
theorem startWrite_idle {s : State} (h : s.nextEntry = none) : s.startWrite = s := by
  unfold State.startWrite
  dsimp only
  split
  · rfl
  · rw [h]

/-- The only staging entry is not yet eligible. -/
theorem nextEntry_waiting {s : State} {x : Staged} (h : s.recorder.staging = [x]) (hd : x.direct = false)
    (hf : x.forced = false) (he : x.eligible = false) : s.nextEntry = none := by
  unfold State.nextEntry
  rw [h]
  simp [hd, hf, he]

/-- A record that is not direct enters an empty staging and waits there. -/
theorem enterStaged_waiting {s : State} {x : Staged} (hempty : s.recorder.staging = [])
    (hdue : s.recorder.overflowDue = false) (hused : s.stagingUsed < 56) (hd : x.direct = false)
    (hf : x.forced = false) (he : x.eligible = false) :
    (s.enterStaged x).recorder = { s.recorder with staging := [x] } ∧ (s.enterStaged x).fabric = s.fabric := by
  have hsettled (t : State) (hrec : t.recorder = { s.recorder with staging := [x] }) :
      t.checkOverflow.startWrite = t := by
    have hover : t.checkOverflow = t := by
      unfold State.checkOverflow
      rw [hrec]
      simp [hdue]
    rw [hover]
    exact startWrite_idle (nextEntry_waiting (by rw [hrec]) hd hf he)
  unfold State.enterStaged
  dsimp only
  rw [if_pos (Or.inl hused), hempty, List.nil_append]
  unfold State.stagingChanged
  dsimp only
  rw [hsettled _ (by split <;> rfl)]
  exact ⟨by split <;> rfl, by split <;> rfl⟩

/-- An occurrence of no urgency takes its SEQ and waits in an empty staging. -/
theorem takeRecord_waiting {s : State} {o : Occurrence} (hrec : s.recording = true)
    (hempty : s.recorder.staging = []) (hdue : s.recorder.overflowDue = false) (hused : s.stagingUsed < 56)
    (hsev : severityOf o.ev < 4) :
    (s.takeRecord o).1.recorder = { s.recorder with
      seq := s.recorder.seq + 1, staging := [⟨s.newRecord o (s.recorder.seq + 1), o.up, false, false, false⟩] } ∧
      (s.takeRecord o).1.fabric = s.fabric := by
  have hdirect : Nat.ble 4 (severityOf o.ev) = false := by
    rw [← Bool.not_eq_true, Nat.ble_eq]
    omega
  unfold State.takeRecord
  rw [hrec, hempty, Bool.not_true, if_neg Bool.false_ne_true, List.find?_nil]
  dsimp only
  rw [hdirect]
  exact enterStaged_waiting (s := s.setRecorder { s.recorder with seq := s.recorder.seq + 1 }) hempty hdue hused rfl rfl rfl

/-- What is sent of an occurrence changes neither recorder nor fabric. -/
theorem reportOccurrence_parts (s : State) (o : Occurrence) :
    (s.reportOccurrence o).recorder = (s.takeRecord o).1.recorder ∧
      (s.reportOccurrence o).fabric = (s.takeRecord o).1.fabric := by
  have hsend (t : State) (v : Nat) (f : List Byte) : ((t.pushHistory v).queueEmcy f).recorder = t.recorder ∧
      ((t.pushHistory v).queueEmcy f).fabric = t.fabric := by
    have hpush := State.pushHistory_keeps v (maskLe_refl _) (Keeps.refl _ t)
    have hqueue := State.queueEmcy_keeps f (maskLe_refl _) (Keeps.refl _ (t.pushHistory v))
    exact ⟨(hqueue.parts .recorder rfl).trans (hpush.parts .recorder rfl),
      (hqueue.parts .fabric rfl).trans (hpush.parts .fabric rfl)⟩
  unfold State.reportOccurrence
  dsimp only
  split
  · split
    · exact ⟨rfl, rfl⟩
    · exact hsend _ _ _
    · exact hsend _ _ _
  · exact ⟨rfl, rfl⟩

/-! ### Raisings of one core clock (R468) -/

/-- The order of the raisings of one core clock: the more restrictive first, then the lower number. -/
def RanksBefore (resp : Nat → Nat) (x y : Nat × Nat) : Prop :=
  resp y.1 < resp x.1 ∨ (resp y.1 = resp x.1 ∧ x.1 ≤ y.1)

theorem RanksBefore.trans {resp : Nat → Nat} {x y z : Nat × Nat} (h : RanksBefore resp x y)
    (k : RanksBefore resp y z) : RanksBefore resp x z := by
  unfold RanksBefore at *
  omega

theorem RanksBefore.total {resp : Nat → Nat} {x y : Nat × Nat} (h : ¬RanksBefore resp x y) : RanksBefore resp y x := by
  unfold RanksBefore at *
  omega

theorem rankRaising_perm (resp : Nat → Nat) (x : Nat × Nat) (l : List (Nat × Nat)) :
    (rankRaising resp x l).Perm (x :: l) := by
  induction l with
  | nil => exact List.Perm.refl _
  | cons y rest ih =>
    unfold rankRaising
    split
    · exact List.Perm.refl _
    · exact (ih.cons y).trans (List.Perm.swap x y rest)

theorem rankRaising_pairwise {resp : Nat → Nat} (x : Nat × Nat) {l : List (Nat × Nat)}
    (h : l.Pairwise (RanksBefore resp)) : (rankRaising resp x l).Pairwise (RanksBefore resp) := by
  induction l with
  | nil => exact List.pairwise_singleton _ x
  | cons y rest ih =>
    obtain ⟨hy, hrest⟩ := List.pairwise_cons.1 h
    unfold rankRaising
    split
    case isTrue hxy =>
      refine List.pairwise_cons.2 ⟨fun z hz => ?_, h⟩
      rcases List.mem_cons.1 hz with rfl | hz
      · exact hxy
      · exact RanksBefore.trans hxy (hy z hz)
    case isFalse hxy =>
      refine List.pairwise_cons.2 ⟨fun z hz => ?_, ih hrest⟩
      rcases List.mem_cons.1 ((rankRaising_perm resp x rest).mem_iff.1 hz) with rfl | hz
      · exact RanksBefore.total hxy
      · exact hy z hz

/-- Inserting one after another ranks a list. -/
theorem foldl_rankRaising (resp : Nat → Nat) (l acc : List (Nat × Nat)) (h : acc.Pairwise (RanksBefore resp)) :
    (l.foldl (fun acc x => rankRaising resp x acc) acc).Perm (l ++ acc) ∧
      (l.foldl (fun acc x => rankRaising resp x acc) acc).Pairwise (RanksBefore resp) := by
  induction l generalizing acc with
  | nil => exact ⟨List.Perm.refl _, h⟩
  | cons x l ih =>
    obtain ⟨hperm, hsorted⟩ := ih _ (rankRaising_pairwise x h)
    exact ⟨hperm.trans (((rankRaising_perm resp x acc).append_left l).trans List.perm_middle), hsorted⟩

/-! ### Pins (R99, R472, R473) -/

/-- The columns of the pins from full service on. -/
theorem pinColumn_fullService {s : State} (h : s.fullService = true) :
    s.pinColumn = .outline ∨ s.pinColumn = .running ∨ s.pinColumn = .standby := by
  have hrun : s.life.st = .run := by
    simp only [State.fullService, Bool.and_eq_true, beq_iff_eq] at h
    exact h.1
  unfold State.pinColumn
  rw [hrun]
  dsimp only
  rw [h, Bool.not_true, if_neg Bool.false_ne_true]
  split
  · exact Or.inl rfl
  · split
    · exact Or.inr (Or.inl rfl)
    · exact Or.inr (Or.inr rfl)

theorem faultPin_asserted {s : State} {c : PinColumn} (h : c = .outline ∨ c = .running ∨ c = .standby) :
    s.faultPin c = openDrain s.faultAsserted := by
  rcases h with rfl | rfl | rfl <;> rfl

theorem openDrain_drive (b : Bool) : (openDrain b).drive = if b = true then .level false else .highZ := by
  cases b <;> rfl

/-- The columns of reset, of Survey and wet hold, and of SLEEP. -/
theorem pinColumn_low {s : State} (h : s.life.st = .reset ∨ s.life.st = .boot ∨ s.life.st = .sleep ∨
    (s.life.st = .run ∧ s.fullService = false)) :
    s.pinColumn = .reset ∨ s.pinColumn = .survey ∨ s.pinColumn = .sleep := by
  unfold State.pinColumn
  rcases h with h | h | h | ⟨h, hsurvey⟩
  · exact Or.inl (by rw [h])
  · exact Or.inl (by rw [h])
  · exact Or.inr (Or.inr (by rw [h]))
  · exact Or.inr (Or.inl (by rw [h]; exact if_pos (by rw [hsurvey]; rfl)))

theorem faultPin_low {s : State} {c : PinColumn} (h : c = .reset ∨ c = .survey ∨ c = .sleep) :
    s.faultPin c = openDrain true := by
  rcases h with rfl | rfl | rfl <;> rfl

/-- Where the device runs, its inputs are heard. -/
theorem inputPin_listens {s : State} (h : s.life.st = .run) : (inputPin s.pinColumn).listens = true := by
  unfold State.pinColumn
  rw [h]
  dsimp only
  split
  · rfl
  · split
    · rfl
    · split <;> rfl

/-! ### The overflow map (R461) -/

theorem requeueOne_room {s : State} {e : Nat} (hroom : s.fabric.fifo.length < 64) (hr : s.responseOf e ≠ 0) :
    ∃ o : Occurrence, (s.requeueOne e).fabric = { s.fabric with
        overflow := s.fabric.overflow.filter fun x => x != e, fifo := s.fabric.fifo ++ [o] } ∧
      o.ev = e ∧ o.resp = s.responseOf e ∧ o.overflow = true := by
  have hresp : (s.setFabric { s.fabric with
      overflow := s.fabric.overflow.filter fun (x : Nat) => x != e }).responseOf e ≠ 0 := hr
  unfold State.requeueOne
  dsimp only
  rw [if_neg hresp]
  exact ⟨_, enqueue_room _ hroom, rfl, rfl, rfl⟩

theorem requeue_one {s : State} {e : Nat} (hmap : s.fabric.overflow = [e]) (hroom : s.fabric.fifo.length < 64) :
    s.requeue = s.requeueOne e := by
  unfold State.requeue
  rw [hmap]
  exact if_pos hroom

/-! ### Acknowledging (R470) -/

theorem worst_nil {s : State} (h : s.fabric.uncleared = []) (f : Uncleared → Bool) : s.worst f = 0 := by
  unfold State.worst
  rw [h]
  rfl

/-- The fabric stays, canonical states stay so, and the responses but those of `sub` stay. -/
theorem putResponse_keeps (s : State) (sub v : Nat) : Keeps 0x2800000000000 s (s.putResponse sub v) := by
  unfold State.putResponse
  split
  · exact Keeps.refl _ s
  · exact State.interrupt_keeps 2 (by decide) (State.putObj_keeps _ _ _ rfl (Keeps.refl _ s))

theorem nat_putResponse {s : State} (sub v : Nat) (hc : Safety.canonical s = true) :
    (s.putResponse sub v).nat 0x2300 sub = v := by
  unfold State.putResponse
  split
  case isTrue h => exact h
  case isFalse => exact nat_putObj_interrupt sub v 2 hc

theorem nat_putResponse_ne {s : State} {sub sub' : Nat} (v : Nat) (hc : Safety.canonical s = true) (h : sub < 256)
    (h' : sub' < 256) (hne : sub' ≠ sub) : (s.putResponse sub v).nat 0x2300 sub' = s.nat 0x2300 sub' := by
  unfold State.putResponse
  split
  case isTrue => rfl
  case isFalse =>
    have hput := canonical_putObj 0x2300 sub v hc
    have hflag := (State.interrupt_keeps 2 (maskLe_refl _) (Keeps.refl _ (s.putObj 0x2300 sub v))).obj hput
      (ix := 0x2300) sub' rfl
    exact congrArg Int.toNat (hflag.trans (obj_putObj_ne _ hc (objKey_inj h' h hne)))

/-- Rails acknowledged one after another, with nothing uncleared: the responses of those seen are NONE. -/
def State.acknowledgeRails (s : State) (l : List RailId) : State :=
  l.foldl (fun (s : State) (r : RailId) =>
    s.putResponse (5 + r.val) (s.worst fun (u : Uncleared) => (s.raisedRails u.ev u.resp).contains r)) s

theorem acknowledgeRails_keeps (s : State) (l : List RailId) : Keeps 0x2800000000000 s (s.acknowledgeRails l) :=
  Keeps.foldl _ l (Keeps.refl _ s) fun t _ => putResponse_keeps t _ _

theorem acknowledgeRails_none {s : State} (l : List RailId) (hc : Safety.canonical s = true)
    (hu : s.fabric.uncleared = []) {q : RailId} (hq : q ∈ l ∨ s.railResponse q = 0) :
    (s.acknowledgeRails l).railResponse q = 0 := by
  induction l generalizing s with
  | nil => exact hq.resolve_left List.not_mem_nil
  | cons r l ih =>
    have hk := putResponse_keeps s (5 + r.val) 0
    have hstep : s.acknowledgeRails (r :: l) = (s.putResponse (5 + r.val) 0).acknowledgeRails l := by
      unfold State.acknowledgeRails
      rw [List.foldl_cons, worst_nil hu]
    have hf : (s.putResponse (5 + r.val) 0).fabric = s.fabric := hk.parts .fabric rfl
    rw [hstep]
    refine ih (hk.canonical hc) (by rw [hf, hu]) ?_
    by_cases hqr : q = r
    · subst hqr
      exact Or.inr (nat_putResponse _ 0 hc)
    · refine hq.imp (fun h => (List.mem_cons.1 h).resolve_left hqr) fun h => ?_
      have hne : 5 + q.val ≠ 5 + r.val := fun heq => hqr (Fin.ext (by omega))
      exact (nat_putResponse_ne 0 hc (by omega) (by omega) hne).trans h

/-- An acknowledgement writes further only the causes of 2300:0C and the CAN block. -/
theorem dropResponseCauses_response {s : State} {sub : Nat} (hc : Safety.canonical s = true) (hsub : responseSub sub) :
    s.dropResponseCauses.nat 0x2300 sub = s.nat 0x2300 sub := by
  have hne : sub < 256 ∧ sub ≠ 0x0C := by
    unfold responseSub at hsub
    omega
  have hbit (t : State) (ht : Safety.canonical t = true) (n : Nat) :
      (t.putBit 0x2300 0x0C n false).nat 0x2300 sub = t.nat 0x2300 sub :=
    congrArg Int.toNat (obj_putObj_ne _ ht (objKey_inj hne.1 (by decide) hne.2))
  unfold State.dropResponseCauses
  split
  · exact (hbit _ (canonical_putBit _ _ _ _ hc) 6).trans (hbit s hc 5)
  · rfl

/-- An acknowledgement with nothing uncleared, before the EMCY frame that may follow it. -/
def State.acknowledgeNone (s : State) : State := ((s.acknowledgeRails railIds).putResponse 1 0).dropResponseCauses

theorem acknowledgeRails_responses {s : State} (hc : Safety.canonical s = true) (hu : s.fabric.uncleared = [])
    (r : RailId) : (s.acknowledgeRails railIds).railResponse r = 0 :=
  acknowledgeRails_none railIds hc hu (Or.inl (List.mem_finRange r))

theorem acknowledgeAll_eq {s : State} (hc : Safety.canonical s = true) (hu : s.fabric.uncleared = []) :
    s.acknowledgeAll = if 0 < s.deviceResponse ∧ s.acknowledgeNone.deviceResponse = 0 then s.acknowledgeNone.emcyReset
      else s.acknowledgeNone := by
  have hfabric : (s.acknowledgeRails railIds).fabric = s.fabric :=
    (acknowledgeRails_keeps s railIds).parts .fabric rfl
  have hworst := worst_nil (hfabric ▸ hu)
  have htop : railIds.foldl (fun (n : Nat) (r : RailId) => max n ((s.acknowledgeRails railIds).railResponse r)) 0 = 0 :=
    List.foldlRecOn (motive := fun n => n = 0) railIds _ rfl fun n hn r _ => by
      rw [hn, acknowledgeRails_responses hc hu]
      rfl
  unfold State.acknowledgeAll State.acknowledgeNone
  dsimp only
  unfold State.acknowledgeRails at htop hworst ⊢
  rw [htop, hworst]
  rfl

theorem acknowledgeNone_response {s : State} (hc : Safety.canonical s = true) (hu : s.fabric.uncleared = []) {sub : Nat}
    (hsub : responseSub sub) : Safety.canonical s.acknowledgeNone = true ∧ s.acknowledgeNone.nat 0x2300 sub = 0 := by
  have hcr := (acknowledgeRails_keeps s railIds).canonical hc
  have hcp := (putResponse_keeps (s.acknowledgeRails railIds) 1 0).canonical hcr
  refine ⟨?_, (dropResponseCauses_response hcp hsub).trans ?_⟩
  · unfold State.acknowledgeNone State.dropResponseCauses
    split
    · exact canonical_putBit _ _ _ _ (canonical_putBit _ _ _ _ hcp)
    · exact hcp
  · rcases hsub with rfl | ⟨hlo, hhi⟩
    · exact nat_putResponse 1 0 hcr
    · obtain ⟨r, rfl⟩ : ∃ r : RailId, sub = 5 + r.val := ⟨⟨sub - 5, by omega⟩, by simp only; omega⟩
      rw [nat_putResponse_ne 0 hcr (by decide) (by omega) (by omega)]
      exact acknowledgeRails_responses hc hu r

/-- The responses after an acknowledgement with nothing uncleared (R470). -/
theorem acknowledgeAll_none {s : State} (hc : Safety.canonical s = true) (hu : s.fabric.uncleared = []) {sub : Nat}
    (hsub : responseSub sub) : s.acknowledgeAll.nat 0x2300 sub = 0 := by
  obtain ⟨hcn, hset⟩ := acknowledgeNone_response hc hu hsub
  rw [acknowledgeAll_eq hc hu]
  split
  · have hkept := (State.emcyReset_keeps (maskLe_refl _) (Keeps.refl _ s.acknowledgeNone)).obj hcn (ix := 0x2300) sub rfl
    exact (congrArg Int.toNat hkept).trans hset
  · exact hset

/-- An acknowledgement by a channel, with nothing uncleared. -/
theorem hostAction_acknowledge {s : State} {ch : Channel} {tag : Nat} (hc : Safety.canonical s = true)
    (ha : Safety.actionAdmits s ch 0x2300 3 tag 1) (hu : s.fabric.uncleared = []) :
    Safety.done (s.hostAction ch 0x2300 3 tag 1) ch 0x2300 3 ∧
      ∀ sub, responseSub sub → (s.hostAction ch 0x2300 3 tag 1).nat 0x2300 sub = 0 := by
  obtain ⟨b, c, hact, hans⟩ := hostAction_admitted ha rfl rfl rfl
  rw [hact, do_acknowledge]
  refine ⟨hans, fun sub hsub => ?_⟩
  have hne : sub ≠ 3 ∧ sub < 256 := by
    unfold responseSub at hsub
    omega
  have hcb : Safety.canonical (s.setClients b) = true := hc
  have hca := (State.acknowledgeAll_keeps (maskLe_refl _) (Keeps.refl _ (s.setClients b))).canonical hcb
  have hkept : (((s.setClients b).acknowledgeAll.putObj 0x2300 3 tag).setClients c).obj 0x2300 sub =
      (s.setClients b).acknowledgeAll.obj 0x2300 sub :=
    (obj_setClients _ c _ _).trans (obj_putObj_ne _ hca (objKey_inj hne.2 (by decide) hne.1))
  exact (congrArg Int.toNat hkept).trans (acknowledgeAll_none hcb hu hsub)

/-! ### Interrupt flags (R473) -/

theorem setBit_zero_half (v : Nat) (b : Bool) : setBit v 0 b / 2 = v / 2 := by
  unfold setBit
  cases hbit : v.testBit 0 with
  | false =>
    have := Nat.mod_two_eq_zero_iff_testBit_zero.2 hbit
    cases b <;> simp <;> omega
  | true =>
    have := Nat.mod_two_eq_one_iff_testBit_zero.2 hbit
    cases b <;> simp <;> omega

theorem setBit_succ (v n : Nat) (b : Bool) : setBit v (n + 1) b = 2 * setBit (v / 2) n b + v % 2 := by
  have hpow : 2 ^ (n + 1) = 2 * 2 ^ n := Nat.pow_succ'
  unfold setBit
  rw [Nat.testBit_add_one, hpow]
  cases hbit : (v / 2).testBit n with
  | false => cases b <;> simp <;> omega
  | true =>
    have hge := Nat.ge_two_pow_of_testBit hbit
    cases b <;> simp <;> omega

/-- Setting a bit leaves every other one. -/
theorem testBit_setBit_ne (v : Nat) {n m : Nat} (b : Bool) (h : m ≠ n) : (setBit v n b).testBit m = v.testBit m := by
  induction n generalizing v m with
  | zero =>
    obtain ⟨k, rfl⟩ := Nat.exists_eq_succ_of_ne_zero h
    rw [Nat.testBit_succ, Nat.testBit_succ, setBit_zero_half]
  | succ n ih =>
    rw [setBit_succ]
    cases m with
    | zero =>
      have hparity : (2 * setBit (v / 2) n b + v % 2) % 2 = v % 2 := by omega
      simp only [Nat.testBit_zero, hparity]
    | succ k =>
      have hhalf : (2 * setBit (v / 2) n b + v % 2) / 2 = setBit (v / 2) n b := by omega
      rw [Nat.testBit_add_one, Nat.testBit_add_one, hhalf]
      exact ih _ (by omega)

theorem testBit_setBit_false (v n m : Nat) : (setBit v n false).testBit m = (v.testBit m && m != n) := by
  by_cases hmn : m = n
  · subst hmn
    rw [testBit_setBit, bne_self_eq_false, Bool.and_false]
  · rw [bne_iff_ne.2 hmn, Bool.and_true]
    exact testBit_setBit_ne v false hmn

theorem bit_putBit_false {s : State} (n m : Nat) (hc : Safety.canonical s = true) :
    (s.putBit 0x2320 1 n false).bit 0x2320 1 m = (s.bit 0x2320 1 m && m != n) := by
  unfold State.bit State.nat State.putBit
  rw [obj_putObj _ _ _ hc]
  exact testBit_setBit_false _ n m

theorem foldl_clearBits (l : List Nat) (m : Nat) {s : State} (hc : Safety.canonical s = true) :
    (l.foldl (fun (s : State) (n : Nat) => s.putBit 0x2320 1 n false) s).bit 0x2320 1 m =
      (s.bit 0x2320 1 m && !l.contains m) := by
  induction l generalizing s with
  | nil => exact (Bool.and_true _).symm
  | cons n l ih =>
    rw [List.foldl_cons, ih (canonical_putBit _ _ _ _ hc), bit_putBit_false n m hc, List.contains_cons, Bool.not_or,
      Bool.and_assoc]
    rfl

theorem clearInterrupts_bit {s : State} (flags : Nat) (n : Fin 4) (hc : Safety.canonical s = true) :
    (s.clearInterrupts flags).bit 0x2320 1 n.val = (s.bit 0x2320 1 n.val && !flags.testBit n.val) := by
  have hmem : (maskList 4 flags).contains n.val = flags.testBit n.val := by
    rw [Bool.eq_iff_iff, List.contains_iff_mem, maskList, List.mem_filter, List.mem_range]
    exact and_iff_right n.isLt
  unfold State.clearInterrupts
  rw [foldl_clearBits _ _ hc, hmem]

theorem hostAction_interruptClear {s : State} {ch : Channel} {tag flags : Nat} (hc : Safety.canonical s = true)
    (ha : Safety.actionAdmits s ch 0x2320 2 tag flags) :
    Safety.done (s.hostAction ch 0x2320 2 tag flags) ch 0x2320 2 ∧ ∀ n : Fin 4,
      (s.hostAction ch 0x2320 2 tag flags).bit 0x2320 1 n.val = (s.bit 0x2320 1 n.val && !flags.testBit n.val) := by
  obtain ⟨b, c, hact, hans⟩ := hostAction_admitted ha rfl rfl rfl
  rw [hact, do_interrupt_clear]
  refine ⟨hans, fun n => ?_⟩
  have hcb : Safety.canonical (s.setClients b) = true := hc
  have hcc := (State.clearInterrupts_keeps flags (maskLe_refl _) (Keeps.refl _ (s.setClients b))).canonical hcb
  have hkept : ((((s.setClients b).clearInterrupts flags).putObj 0x2320 2 tag).setClients c).obj 0x2320 1 =
      ((s.setClients b).clearInterrupts flags).obj 0x2320 1 :=
    (obj_setClients _ c _ _).trans (obj_putObj_ne _ hcc (objKey_inj (by decide) (by decide) (by decide)))
  exact (congrArg (fun v : Int => v.toNat.testBit n.val) hkept).trans (clearInterrupts_bit flags n hcb)

/-! ### The response table (R462) -/

theorem type_responseEntry (e : Fin 640) :
    (findRow (0x2310 + e.val / 128) (e.val % 128 + 1)).map ObjRow.ty = some .u8 := by
  revert e
  decide +kernel

theorem isAction_responseEntry (e : Fin 640) : isAction (0x2310 + e.val / 128) (e.val % 128 + 1) = false := by
  revert e
  decide +kernel

theorem hostWrite_responseEntry {s : State} {ch : Channel} {e : Fin 640} {entry : Byte}
    (hc : Safety.canonical s = true) (ha : Safety.admits s ch (0x2310 + e.val / 128) (e.val % 128 + 1) [entry]) :
    Safety.done (s.hostWrite ch (0x2310 + e.val / 128) (e.val % 128 + 1) [entry]) ch (0x2310 + e.val / 128)
        (e.val % 128 + 1) ∧
      (s.hostWrite ch (0x2310 + e.val / 128) (e.val % 128 + 1) [entry]).responseEntry e.val = entry.toNat := by
  obtain ⟨c, hwrite, hans⟩ := hostWrite_admitted ha (type_responseEntry e) (isAction_responseEntry e) (by omega)
  rw [hwrite, value_u8, apply_event_response_write]
  exact ⟨hans, congrArg Int.toNat (obj_putNow _ _ _ hc)⟩

end Sys2Proof.Machine

namespace Sys2Proof

open Machine

/-- Settles O15: a clause per command, and the pins from the column that holds. -/
theorem eventFabricActs : Obligations.EventFabricActs := by
  unfold Obligations.EventFabricActs
  refine ⟨?raise, ?trigger, ?ends, ?silent, ?recorded, ?ranked, ?fault, ?faultLow, ?interrupt, ?requeue, ?clear,
    ?clearAll, ?acknowledge, ?flags, ?response⟩
  case raise =>
    exact fun event data i s hc hserves hi hk => ⟨_, if_pos hserves, raise_raised data.toNat hc hi hk⟩
  case trigger =>
    intro event data i s hi hk hu
    show (if s.serving then _ else _) = _
    rw [raise_trigger data.toNat hi hk hu, ite_self]
  case ends =>
    exact fun event data s _ hserves => ⟨_, if_pos hserves, conditionEnds_ended s event.val data.toNat⟩
  case silent =>
    intro o rest s hc hserves hfifo hrec hresp hsec
    have hsilent := reportOccurrence_silent ((countOccurrence_recording o rest hc).trans hrec) hresp
    refine ⟨_, (if_pos hserves).trans (congrArg _ ((processFifo_eq hfifo).trans hsilent)),
      countOccurrence_fifo s o rest, countOccurrence_obj rest hc hsec⟩
  case recorded =>
    intro o rest s hserves hfifo hrec hc hempty hdue hused hsev
    have hrecorder : (s.countOccurrence o rest).recorder = s.recorder :=
      (countOccurrence_keeps s o rest).parts .recorder rfl
    have hused' : (s.countOccurrence o rest).stagingUsed < 56 := by
      unfold State.stagingUsed
      rwa [hrecorder]
    obtain ⟨htaken, hfabric⟩ := takeRecord_waiting ((countOccurrence_recording o rest hc).trans hrec)
      (by rw [hrecorder, hempty]) (by rw [hrecorder, hdue]) hused' hsev
    obtain ⟨hreported, hreportedFabric⟩ := reportOccurrence_parts (s.countOccurrence o rest) o
    refine ⟨_, (if_pos hserves).trans (congrArg _ (processFifo_eq hfifo)), ?_, ?_, ?_⟩
    · rw [hreportedFabric, hfabric, countOccurrence_fifo]
    · rw [hreported, htaken, hrecorder]
    · rw [hreported, htaken, hrecorder]
      rfl
  case ranked =>
    intro l s
    obtain ⟨hperm, hsorted⟩ := foldl_rankRaising s.responseOf l [] List.Pairwise.nil
    rw [List.append_nil] at hperm
    exact ⟨_, hperm, rfl, hsorted⟩
  case fault =>
    intro s hfull
    show (s.faultPin s.pinColumn).drive = _
    rw [faultPin_asserted (pinColumn_fullService hfull), openDrain_drive]
    simp [State.faultAsserted, or_assoc]
  case faultLow =>
    intro s h
    show (s.faultPin s.pinColumn).drive = _
    rw [faultPin_low (pinColumn_low h)]
    rfl
  case interrupt =>
    intro s hrun
    show (openDrain (s.intAsserted && (inputPin s.pinColumn).listens)).drive = _
    rw [inputPin_listens hrun, Bool.and_true, openDrain_drive, State.intAsserted]
    simp
  case requeue =>
    intro e s _ hserves hmap hroom hr
    obtain ⟨o, hfabric, hev, hresp, hover⟩ := requeueOne_room hroom hr
    refine ⟨_, (if_pos hserves).trans (congrArg _ (requeue_one hmap hroom)), ?_, o, ?_, hev, hresp, hover⟩
    · rw [hfabric, hmap]
      simp
    · rw [hfabric]
  case clear =>
    intro ch tag event s ha
    have hs : s.standing event.val = false := by
      obtain ⟨-, -, -, -, -, row, -, -, hrule⟩ := ha
      exact not_standing_of_clearRule event.isLt hrule
    obtain ⟨hdone, hfabric, -⟩ := hostAction_clear ha
    refine ⟨_, rfl, hdone, uncleared_filter_keepsEntry event.isLt hs (congrArg Fabric.uncleared hfabric),
      fun u hu hne => ?_⟩
    rw [hfabric]
    exact List.mem_filter.2 ⟨hu, keepsEntry_other event.isLt hne⟩
  case clearAll =>
    intro ch tag s ha
    obtain ⟨hdone, hfabric, -⟩ := hostAction_clear ha
    exact ⟨_, rfl, hdone, congrArg Fabric.uncleared hfabric⟩
  case acknowledge =>
    intro ch tag s hc ha hu
    obtain ⟨hdone, hresp⟩ := hostAction_acknowledge hc ha hu
    exact ⟨_, rfl, hdone, hresp 1 (Or.inl rfl), fun r => hresp _ (responseSub_rail r)⟩
  case flags => exact fun ch tag flags s hc ha => ⟨_, rfl, hostAction_interruptClear hc ha⟩
  case response => exact fun ch event entry s hc ha => ⟨_, rfl, hostWrite_responseEntry hc ha⟩

end Sys2Proof
end

section
/-! The SAFE inputs, the safe-off path and Outline mode (O16). A raising leaves the SAFE inputs and their filters: its
action can only make the path act. -/

namespace Sys2Proof.Machine

/-! ### The safe-off path (R475) -/

theorem safety_of_keeps {W : Nat} {s t : State} (k : Keeps W s t) (hw : W.testBit StatePart.safety.bit = false) :
    t.safety = s.safety := k.parts .safety hw

/-- The path set, before the outputs and the relays follow. -/
def State.markPath (s : State) : State :=
  let t := if s.safety.path then s else (s.bump 0x2330 7).interrupt 3
  t.setSafety { t.safety with path := true, permit := false }

/-- The outputs of a phase number low; numbers beyond the phases stand for none. -/
def State.lowOutputs (s : State) (p : Nat) : State := if h : p < 12 then s.putOutputs ⟨p, h⟩ false false else s

theorem safePath_eq (s : State) :
    s.safePath = ((maskList 12 (s.markPath.nat 0x2330 3)).foldl State.lowOutputs s.markPath).safeRelays := rfl

theorem markPath_safety (s : State) : s.markPath.safety = { s.safety with path := true, permit := false } := by
  unfold State.markPath
  dsimp only
  split <;> rfl

theorem lowOutputs_keeps (s : State) (p : Nat) : Keeps 0x80000000000000020000 s (s.lowOutputs p) := by
  unfold State.lowOutputs
  split
  · exact State.putOutputs_keeps _ _ _ rfl (maskLe_refl _) (Keeps.refl _ s)
  · exact Keeps.refl _ s

theorem safePath_keeps_markPath (s : State) : Keeps 0x80000100000000030000 s.markPath s.safePath :=
  State.safeRelays_keeps (by decide) (Keeps.foldl _ _ (Keeps.refl _ _) fun t p => (lowOutputs_keeps t p).mono (by decide))

theorem safePath_safety (s : State) : s.safePath.safety = { s.safety with path := true, permit := false } :=
  (safety_of_keeps (safePath_keeps_markPath s) rfl).trans (markPath_safety s)

/-- Both outputs of a phase are low. -/
def PhaseOff (p : PhaseId) (s : State) : Prop := s.phases[p].outH = false ∧ s.phases[p].outL = false

theorem lowOutputs_off (s : State) (p : PhaseId) : PhaseOff p (s.lowOutputs p.val) := by
  unfold PhaseOff State.lowOutputs State.putOutputs
  rw [dif_pos p.isLt]
  dsimp only
  rw [phases_modPhase]
  exact ⟨rfl, rfl⟩

theorem PhaseOff.lowOutputs {p : PhaseId} {s : State} (h : PhaseOff p s) (q : Nat) : PhaseOff p (s.lowOutputs q) := by
  by_cases hq : q = p.val
  · subst hq
    exact lowOutputs_off s p
  · unfold PhaseOff State.lowOutputs
    split
    case isTrue hlt =>
      rw [phases_putOutputs_ne (q := ⟨q, hlt⟩) (p := p) (fun e => hq (congrArg Fin.val e))]
      exact h
    case isFalse => exact h

theorem foldl_lowOutputs_off {p : PhaseId} (l : List Nat) {s : State} (h : p.val ∈ l ∨ PhaseOff p s) :
    PhaseOff p (l.foldl State.lowOutputs s) := by
  induction l generalizing s with
  | nil => exact h.resolve_left List.not_mem_nil
  | cons q l ih =>
    refine ih ?_
    rcases h with h | h
    · rcases List.mem_cons.1 h with hpq | h
      · exact Or.inr (hpq ▸ lowOutputs_off s p)
      · exact Or.inl h
    · exact Or.inr (h.lowOutputs q)

/-- The mask of the path is not written when the path begins to act. -/
theorem markPath_mask {s : State} (hc : Safety.canonical s = true) : s.markPath.nat 0x2330 3 = s.nat 0x2330 3 := by
  have hbegins : ((s.bump 0x2330 7).interrupt 3).obj 0x2330 3 = s.obj 0x2330 3 :=
    ((State.interrupt_keeps 3 (maskLe_refl _) (Keeps.refl _ _)).obj (canonical_bump _ _ hc) 3 rfl).trans
      (obj_bump_ne hc (by decide))
  unfold State.markPath
  dsimp only
  split
  · rfl
  · exact congrArg Int.toNat hbegins

theorem safePath_off {s : State} {p : PhaseId} (hc : Safety.canonical s = true)
    (h : (s.nat 0x2330 3).testBit p.val = true) : PhaseOff p s.safePath := by
  have hmem : p.val ∈ maskList 12 (s.markPath.nat 0x2330 3) := by
    rw [markPath_mask hc, maskList, List.mem_filter, List.mem_range]
    exact ⟨p.isLt, h⟩
  have hphases (t : State) : t.safeRelays.phases = t.phases :=
    (State.safeRelays_keeps (maskLe_refl _) (Keeps.refl _ t)).parts .phases rfl
  rw [safePath_eq, PhaseOff, hphases]
  exact foldl_lowOutputs_off _ (Or.inl hmem)

/-! ### The SAFE inputs through a raising (R465, R475) -/

/-- What a raising may do to the safety part. -/
def PathMayAct (s t : State) : Prop := t.safety = s.safety ∨ t.safety = { s.safety with path := true, permit := false }

theorem respond_safety (s : State) (e resp : Nat) (acts : List RailId) : PathMayAct s (s.respond e resp acts) := by
  unfold State.respond
  split
  · refine Or.inl (safety_of_keeps (W := 0x25000000002400000) (Keeps.foldl _ acts (Keeps.refl _ s) fun t r => ?_) rfl)
    exact Keeps.ite (State.modRail_keeps r _ (by decide) (State.putRailObj_keeps r 0 3 0 (by decide)
      (State.softStop_keeps r 5 (by decide) (Keeps.refl _ t)))) (Keeps.refl _ t)
  · refine Or.inl (safety_of_keeps (W := 0x42D000010002420000) (Keeps.foldl _ acts (Keeps.refl _ s) fun t r => ?_) rfl)
    exact Keeps.ite (State.modRail_keeps r _ (by decide) (State.putRailObj_keeps r 0 3 2 (by decide)
      (State.hardStop_keeps r _ (by decide) (Keeps.refl _ t)))) (Keeps.refl _ t)
  · exact Or.inl (safety_of_keeps (State.enterOutline_keeps 6 (maskLe_refl _) (Keeps.refl _ s)) rfl)
  · refine Or.inr ((safePath_safety _).trans ?_)
    rw [safety_of_keeps (State.enterOutline_keeps 7 (maskLe_refl _) (Keeps.refl _ s)) rfl]
  · exact Or.inl rfl

theorem raise_safety (s : State) (e data : Nat) : PathMayAct s (s.raise e data) := by
  have hcore : (s.raiseCore e data).safety = s.safety :=
    safety_of_keeps (State.raiseCore_keeps e data false (maskLe_refl _) (Keeps.refl _ s)) rfl
  rcases raise_cases s e data with h | ⟨acts, h⟩
  · rw [h]
    exact Or.inl hcore
  · have hresp := respond_safety (s.raiseCore e data) e (s.responseOf e) acts
    unfold PathMayAct at hresp ⊢
    rwa [h, ← hcore]

theorem PathMayAct.filters {s t : State} (h : PathMayAct s t) :
    t.safety.filtA = s.safety.filtA ∧ t.safety.filtB = s.safety.filtB ∧ t.safety.faulted = s.safety.faulted := by
  rcases h with h | h <;> rw [h] <;> exact ⟨rfl, rfl, rfl⟩

/-- The filtered levels are what they were. -/
def SameFilters (s t : State) : Prop := t.safety.filtA = s.safety.filtA ∧ t.safety.filtB = s.safety.filtB

theorem SameFilters.trans {a b c : State} (h : SameFilters a b) (k : SameFilters b c) : SameFilters a c :=
  ⟨k.1.trans h.1, k.2.trans h.2⟩

theorem SameFilters.of_safety {s t : State} (h : t.safety = s.safety) : SameFilters s t :=
  ⟨congrArg Safety.filtA h, congrArg Safety.filtB h⟩

theorem sameFilters_raise (s : State) (e data : Nat) : SameFilters s (s.raise e data) :=
  ⟨(raise_safety s e data).filters.1, (raise_safety s e data).filters.2.1⟩

/-! ### Samples and filtered levels (R478–R481) -/

theorem sampleSafe_safety {s : State} (a b : Bool) (h : s.safety.seen = true) :
    (s.sampleSafe a b).safety = { s.safety with
      pinA := a, pinB := b, count := if s.safety.filtA != s.safety.filtB then s.safety.count + 1 else 0,
      runA := if a != s.safety.filtA then s.safety.runA + 1 else 0,
      runB := if b != s.safety.filtB then s.safety.runB + 1 else 0 } := by
  unfold State.sampleSafe
  dsimp only
  rw [h, Bool.not_true, if_neg Bool.false_ne_true]
  rfl

theorem ite_bne {α : Type} (a b : Bool) (x y : α) : (if a != b then x else y) = if a = b then y else x := by
  cases a <;> cases b <;> rfl

theorem sameFilters_permitLost (s : State) : SameFilters s s.permitLost := by
  unfold State.permitLost
  dsimp only
  split
  · exact .of_safety (safety_of_keeps (State.endEvent_keeps _ _ (maskLe_refl _) (Keeps.refl _ s)) rfl)
  · exact sameFilters_raise s _ _

theorem sameFilters_endDisagree (s : State) : SameFilters s s.endDisagree := by
  unfold State.endDisagree
  dsimp only
  split
  · exact ⟨rfl, rfl⟩
  · exact SameFilters.trans ⟨rfl, rfl⟩ (sameFilters_raise _ _ _)

theorem sameFilters_rearm (s : State) : SameFilters s s.rearm :=
  .of_safety (safety_of_keeps (State.rearm_keeps (maskLe_refl _) (Keeps.refl _ s)) rfl)

/-- The filtered levels taken from the runs. -/
def State.takeFilters (s : State) : State :=
  let f := s.safety
  let a := if 3 ≤ f.runA then !f.filtA else f.filtA
  let b := if 3 ≤ f.runB then !f.filtB else f.filtB
  s.setSafety { f with
    filtA := a, filtB := b, runA := if 3 ≤ f.runA then 0 else f.runA, runB := if 3 ≤ f.runB then 0 else f.runB
    lowFirstB := if f.filtA != f.filtB then f.lowFirstB else a && !b }

theorem filterSafe_eq (s : State) : s.filterSafe =
    (if s.safety.filtA != s.safety.filtB && s.takeFilters.safety.filtA == s.takeFilters.safety.filtB then
      s.takeFilters.endDisagree else s.takeFilters).rearm.permitLost := rfl

/-- A run of three samples changes the filtered level of its input. -/
theorem filterSafe_levels (s : State) :
    s.filterSafe.safety.filtA = (if 3 ≤ s.safety.runA then !s.safety.filtA else s.safety.filtA) ∧
      s.filterSafe.safety.filtB = (if 3 ≤ s.safety.runB then !s.safety.filtB else s.safety.filtB) := by
  have hends {c : Prop} [Decidable c] : SameFilters s.takeFilters (if c then s.takeFilters.endDisagree
      else s.takeFilters) := by
    split
    · exact sameFilters_endDisagree _
    · exact ⟨rfl, rfl⟩
  rw [filterSafe_eq]
  exact (hends.trans (sameFilters_rearm _)).trans (sameFilters_permitLost _)

/-- The state in which a discrepancy is raised. -/
def State.markDiscrepancy (s : State) : State :=
  let t := s.setSafety { s.safety with faulted := true }
  (t.bump 0x2330 6).putObj 0x2330 8 1

theorem markDiscrepancy_keeps (s : State) : Keeps 0x4000000002000 s s.markDiscrepancy :=
  State.putObj_keeps _ _ _ rfl (State.putObj_keeps _ _ _ rfl (State.setSafety_keeps _ rfl (Keeps.refl _ s)))

theorem discrepancy_eq (s : State) : s.discrepancy =
    s.markDiscrepancy.raise dvSafeDiscrepancy (evData [evU 1 (natOf s.safety.lowFirstB : Int)]) := rfl

theorem discrepancy_faulted (s : State) : s.discrepancy.safety.faulted = true :=
  (raise_safety s.markDiscrepancy _ _).filters.2.2

theorem discrepancy_uncleared {s : State} (hc : Safety.canonical s = true) (h : s.responseOf dvSafeDiscrepancy ≠ 0) :
    Safety.uncleared s.discrepancy dvSafeDiscrepancy = true := by
  have hresp : s.markDiscrepancy.responseOf dvSafeDiscrepancy = s.responseOf dvSafeDiscrepancy :=
    responseOf_of_keeps (markDiscrepancy_keeps s) hc (by decide) rfl rfl
  obtain ⟨i, hi, hk⟩ := (Option.any_eq_true _ _).1 (rfl : raisable dvSafeDiscrepancy = true)
  rw [discrepancy_eq]
  exact raise_uncleared _ hi (by simpa using hk) (by rwa [hresp])

/-! ### Outline mode by the host (R488) -/

theorem do_outline (t : State) (ch : Channel) (tag arg : Nat) : t.doAction ch 0x2300 4 tag arg = t.outlineCommand arg :=
  rfl

/-- The responses below OUTLINE leave the Outline part. -/
theorem respond_outline {resp : Nat} (s : State) (e : Nat) (acts : List RailId) (h : resp < 6) :
    (s.respond e resp acts).outline = s.outline := by
  unfold State.respond
  split
  · refine outline_of_keeps (W := 0x25000000002400000) (Keeps.foldl _ acts (Keeps.refl _ s) fun t r => ?_) rfl
    exact Keeps.ite (State.modRail_keeps r _ (by decide) (State.putRailObj_keeps r 0 3 0 (by decide)
      (State.softStop_keeps r 5 (by decide) (Keeps.refl _ t)))) (Keeps.refl _ t)
  · refine outline_of_keeps (W := 0x42D000010002420000) (Keeps.foldl _ acts (Keeps.refl _ s) fun t r => ?_) rfl
    exact Keeps.ite (State.modRail_keeps r _ (by decide) (State.putRailObj_keeps r 0 3 2 (by decide)
      (State.hardStop_keeps r _ (by decide) (Keeps.refl _ t)))) (Keeps.refl _ t)
  · omega
  · omega
  · rfl

theorem raise_outline {s : State} {e : Nat} (data : Nat) (h : s.responseOf e < 6) :
    (s.raise e data).outline = s.outline := by
  have hcore : (s.raiseCore e data).outline = s.outline :=
    outline_of_keeps (State.raiseCore_keeps e data false (maskLe_refl _) (Keeps.refl _ s)) rfl
  rcases raise_cases s e data with heq | ⟨acts, heq⟩
  · rw [heq, hcore]
  · rw [heq, respond_outline _ _ _ h, hcore]

/-! ### Responses through the end of a condition -/

/-- The response an uncleared event is held with. -/
def State.heldResponse (s : State) (e : Nat) : Option Nat := ((s.entriesOf e).head?).map Uncleared.resp

theorem responseOf_eq (s : State) (e : Nat) :
    s.responseOf e = (s.heldResponse e).getD (s.responseEntry e % 16) := by
  have hfirst : s.uncleared e = (s.entriesOf e).head? := List.head?_filter.symm
  unfold State.responseOf State.heldResponse
  rw [hfirst]
  cases (s.entriesOf e).head? <;> rfl

/-- Ending one event's condition leaves the response that another, or it itself, is held with. -/
theorem heldResponse_unstand {s t : State} (e e' : Nat)
    (h : t.fabric.uncleared = s.fabric.uncleared.map (unstand e')) : t.heldResponse e = s.heldResponse e := by
  have hresp (u : Uncleared) : (unstand e' u).resp = u.resp := by
    unfold unstand
    split <;> rfl
  have hentries : t.entriesOf e = (s.entriesOf e).map (unstand e') := by
    unfold State.entriesOf
    rw [h, List.filter_map]
    simp [Function.comp_def, unstand_ev]
  unfold State.heldResponse
  rw [hentries, List.head?_map, Option.map_map]
  exact congrArg (fun f => Option.map f _) (funext hresp)

theorem endEvent_heldResponse (s : State) {e : Nat} (e' data : Nat) (n : e ≠ rcStagingOverflow) :
    (s.endEvent e' data).heldResponse e = s.heldResponse e := by
  unfold State.endEvent State.endWith
  split
  · rfl
  · split
    · rfl
    · dsimp only
      split
      · refine Eq.trans ?_ (heldResponse_unstand (s := s) (t := s.setFabric { s.fabric with
          uncleared := s.fabric.uncleared.map (unstand e') }) e e' rfl)
        unfold State.heldResponse
        rw [entriesOf_enterStaged _ _ n]
        rfl
      · exact heldResponse_unstand (s := s) (t := s.setFabric { s.fabric with
          uncleared := s.fabric.uncleared.map (unstand e') }) e e' rfl

theorem heldResponse_congr {s t : State} (e : Nat) (h : t.fabric = s.fabric) : t.heldResponse e = s.heldResponse e := by
  unfold State.heldResponse State.entriesOf
  rw [h]

theorem heldResponse_of_keeps {W : Nat} {s t : State} (e : Nat) (k : Keeps W s t)
    (hfabric : W.testBit StatePart.fabric.bit = false) : t.heldResponse e = s.heldResponse e :=
  heldResponse_congr e (k.parts .fabric hfabric)

/-- A slot's state as after a reset, before HK_SAFE_CONTOUR ends. -/
def State.clearSlot (s : State) (k : SlotId) : State :=
  let s := s.modSlot k fun _ => {}
  let s := ((s.putObj (slotIx k) 0x0D 0).putObj (slotIx k) 0x11 0).putObj (0x3840 + k.val) 6 0
  s.putBit (slotIx k) 0x0F 5 false

theorem resetSlot_eq (s : State) (k : SlotId) : s.resetSlot k =
    if (s.modSlot k fun _ => {}).obj (slotIx k) 0x0D == 1 then
      (s.clearSlot k).endEvent (hkSafeContour k.val) (evData [evU 2 ((s.clearSlot k).obj (0x3840 + k.val) 5)])
    else s.clearSlot k := rfl

theorem clearSlot_keeps (s : State) (k : SlotId) : Keeps 0x2400000000000800000 s (s.clearSlot k) := by
  have hslot : siteIn 0x2400000000000800000 (slotIx k) = true := by
    rw [slotIx, siteIn_congr _ (ix' := 0x3810) (group_slotIx k 0 (by decide))]
    rfl
  have hwatch : siteIn 0x2400000000000800000 (0x3840 + k.val) = true := by
    rw [siteIn_congr _ (ix' := 0x3840) (group_slotIx k 3 (by decide))]
    rfl
  exact State.putBit_keeps _ _ _ _ hslot (State.putObj_keeps _ _ _ hwatch (State.putObj_keeps _ _ _ hslot
    (State.putObj_keeps _ _ _ hslot (State.modSlot_keeps _ _ rfl (Keeps.refl _ s)))))

theorem resetSlot_heldResponse (s : State) (k : SlotId) {e : Nat} (n : e ≠ rcStagingOverflow) :
    (s.resetSlot k).heldResponse e = s.heldResponse e := by
  have hclear : (s.clearSlot k).heldResponse e = s.heldResponse e :=
    heldResponse_of_keeps e (clearSlot_keeps s k) rfl
  rw [resetSlot_eq]
  split
  · exact (endEvent_heldResponse _ _ _ n).trans hclear
  · exact hclear

theorem resetEngine_heldResponse (s : State) {e : Nat} (n : e ≠ rcStagingOverflow) :
    s.resetEngine.heldResponse e = s.heldResponse e := by
  have hslots : (slotIds.foldl State.resetSlot s).heldResponse e = s.heldResponse e :=
    List.foldlRecOn (motive := fun t : State => t.heldResponse e = s.heldResponse e) slotIds State.resetSlot rfl
      fun t ht k _ => (resetSlot_heldResponse t k n).trans ht
  exact (heldResponse_of_keeps e (State.setEngine_keeps _ (maskLe_refl _) (Keeps.refl _ _)) rfl).trans hslots

/-- What the Outline controller drives handed over to be set low, on a leave of Outline mode. -/
def State.lowOutline (s : State) : State :=
  (s.setOutline { s.outline with startedDrive := s.outline.drive, startedStore := s.outline.store }).lowStarted

/-- Outline mode no longer active. -/
def State.clearOutline (s : State) : State :=
  s.setOutline { s.outline with
    active := false, drive := false, store := false, supporting := false, startedDrive := false, startedStore := false,
    coasting := false, rampFrom := none }

/-- A leave of Outline mode before DV_OUTLINE_EXIT (R488). -/
def State.endOutline (s : State) : State :=
  (s.lowOutline.clearOutline.putBit 0x2300 0x0C 4 false).reinitEngine.joinRing

theorem leaveOutline_eq (s : State) : s.leaveOutline = if s.outline.active then
      s.endOutline.raise dvOutlineExit (evData [evU 4 (s.life.up - s.outline.since : Nat)])
    else s.putBit 0x2300 0x0C 4 false := rfl

theorem endOutline_active (s : State) : s.endOutline.outline.active = false := by
  have hafter : s.endOutline.outline = s.lowOutline.clearOutline.outline :=
    outline_of_keeps (W := 0x40002600012800005800018) (State.joinRing_keeps (by decide) (State.reinitEngine_keeps (by decide)
      (State.putBit_keeps _ _ _ _ rfl (Keeps.refl _ _)))) rfl
  rw [hafter]
  rfl

theorem lowOutline_keeps (s : State) : Keeps 0x80000000000000024000 s s.lowOutline :=
  State.lowStarted_keeps (by decide) (State.setOutline_keeps _ rfl (Keeps.refl _ s))

/-- The response of DV_OUTLINE_EXIT is that of before the leave. -/
theorem endOutline_responseOf {s : State} (hc : Safety.canonical s = true) :
    s.endOutline.responseOf dvOutlineExit = s.responseOf dvOutlineExit := by
  have hlow : Keeps 0x80000000800000024000 s (s.lowOutline.clearOutline.putBit 0x2300 0x0C 4 false) :=
    State.putBit_keeps _ _ _ _ rfl (State.setOutline_keeps _ rfl ((lowOutline_keeps s).mono (by decide)))
  have hreset (t : State) : t.reinitEngine.joinRing.heldResponse dvOutlineExit = t.heldResponse dvOutlineExit := by
    have hjoin := State.joinRing_keeps (maskLe_refl _) (Keeps.refl _ t.reinitEngine)
    have hput : Keeps (2 ^ siteOf 0x3800) t.resetEngine t.reinitEngine :=
      State.putObj_keeps _ _ _ (by decide) (Keeps.refl _ _)
    rw [heldResponse_of_keeps _ hjoin rfl, heldResponse_of_keeps _ hput (by decide)]
    exact resetEngine_heldResponse t (by decide)
  have hheld : s.endOutline.heldResponse dvOutlineExit = s.heldResponse dvOutlineExit :=
    (hreset _).trans (heldResponse_of_keeps _ hlow rfl)
  have hkeeps : Keeps 0x40082600012800005824018 s s.endOutline :=
    State.joinRing_keeps (by decide) (State.reinitEngine_keeps (by decide) (hlow.mono (by decide)))
  have hentry : s.endOutline.responseEntry dvOutlineExit = s.responseEntry dvOutlineExit :=
    congrArg Int.toNat (hkeeps.obj hc _ rfl)
  rw [responseOf_eq, responseOf_eq, hheld, hentry]

theorem leaveOutline_active {s : State} (hc : Safety.canonical s = true) (h : s.responseOf dvOutlineExit < 6) :
    s.leaveOutline.outline.active = false := by
  rw [leaveOutline_eq]
  split
  case isTrue =>
    rw [raise_outline _ (by rwa [endOutline_responseOf hc])]
    exact endOutline_active s
  case isFalse hactive => exact Bool.eq_false_iff.2 hactive

/-! ### The rows -/

theorem hostAction_outlineEnter {s : State} {ch : Channel} {tag : Nat} (ha : Safety.actionAdmits s ch 0x2300 4 tag 1) :
    Safety.done (s.hostAction ch 0x2300 4 tag 1) ch 0x2300 4 ∧
      (s.hostAction ch 0x2300 4 tag 1).outline.active = true := by
  obtain ⟨b, c, hact, hans⟩ := hostAction_admitted ha rfl rfl rfl
  rw [hact, do_outline]
  exact ⟨hans, enterOutline_active (s.setClients b) 5⟩

theorem hostAction_outlineLeave {s : State} {ch : Channel} {tag : Nat} (hc : Safety.canonical s = true)
    (ha : Safety.actionAdmits s ch 0x2300 4 tag 2) (h : s.responseOf dvOutlineExit < 6) :
    Safety.done (s.hostAction ch 0x2300 4 tag 2) ch 0x2300 4 ∧
      (s.hostAction ch 0x2300 4 tag 2).outline.active = false := by
  obtain ⟨b, c, hact, hans⟩ := hostAction_admitted ha rfl rfl rfl
  rw [hact, do_outline]
  exact ⟨hans, leaveOutline_active (s := s.setClients b) hc h⟩

theorem hostAction_outlineCommit {s : State} {ch : Channel} {tag : Nat} (ha : Safety.actionAdmits s ch 0x2340 1 tag 1) :
    Safety.done (s.hostAction ch 0x2340 1 tag 1) ch 0x2340 1 ∧
      (s.hostAction ch 0x2340 1 tag 1).flash.outlineOp = some (⟨ch, 0x2340, 1, tag⟩, s.outlineNow) := by
  obtain ⟨b, c, hact, hans⟩ := hostAction_admitted ha rfl rfl rfl
  rw [hact, do_outline_set_commit]
  exact ⟨hans, rfl⟩

end Sys2Proof.Machine

namespace Sys2Proof

open Machine

/-- Settles O16: a clause per command. -/
theorem safetyPathActs : Obligations.SafetyPathActs := by
  unfold Obligations.SafetyPathActs
  refine ⟨?fall, ?outputs, ?sample, ?filter, ?fault, ?grant, ?held, ?enter, ?leave, ?commit⟩
  case fall =>
    intro b s hserves
    refine ⟨_, if_pos hserves, ?_⟩
    beta_reduce
    rw [safePath_safety]
    cases b <;> exact ⟨rfl, rfl, rfl⟩
  case outputs =>
    intro b s hc hserves
    refine ⟨_, if_pos hserves, fun p hp => ?_⟩
    exact safePath_off (s := s.putSafePin b false) hc hp
  case sample =>
    intro a b s hserves hseen
    refine ⟨_, if_pos hserves, ?_⟩
    beta_reduce
    rw [sampleSafe_safety a b hseen, ite_bne, ite_bne, ite_bne]
    exact ⟨rfl, rfl, rfl, rfl, rfl⟩
  case filter =>
    intro s hserves hseen hA hB
    have hdue : (s.serving && s.safety.seen && (Nat.ble 3 s.safety.runA || Nat.ble 3 s.safety.runB)) = true := by
      rw [hserves, hseen, Nat.ble_eq_true_of_le hA]
      rfl
    obtain ⟨hfiltA, hfiltB⟩ := filterSafe_levels s
    exact ⟨_, if_pos hdue, hfiltA.trans (if_pos hA), hfiltB.trans (if_neg (by omega))⟩
  case fault =>
    intro s hc hserves hapart hfaulted hcount
    have hdue : (s.serving && s.safety.filtA != s.safety.filtB && !s.safety.faulted
        && Nat.ble (10 * s.nat 0x2330 1) s.safety.count) = true := by
      rw [hserves, bne_iff_ne.2 hapart, hfaulted, Nat.ble_eq_true_of_le hcount]
      rfl
    exact ⟨_, if_pos hdue, discrepancy_faulted s, discrepancy_uncleared hc⟩
  case grant => exact fun s h => ⟨_, if_pos h, rfl, rfl⟩
  case held => exact fun s h => if_neg (by rw [h]; exact Bool.false_ne_true)
  case enter => exact fun ch tag s ha => ⟨_, rfl, hostAction_outlineEnter ha⟩
  case leave => exact fun ch tag s hc ha h => ⟨_, rfl, hostAction_outlineLeave hc ha h⟩
  case commit => exact fun ch tag s ha => ⟨_, rfl, hostAction_outlineCommit ha⟩

end Sys2Proof
end

section
/-! Energy totals and pulse outputs (O27). -/

namespace Sys2Proof.Machine

theorem energy_of_keeps {W : Nat} {s t : State} (k : Keeps W s t) (hw : W.testBit StatePart.energy.bit = false) :
    t.energy = s.energy := k.parts .energy hw

theorem startWrite_energy (s : State) : s.startWrite.energy = s.energy :=
  energy_of_keeps (State.startWrite_keeps (maskLe_refl _) (Keeps.refl _ s)) rfl

/-! ### Saves that begin, and saves that wait (R443) -/

/-- No energy-copy sector is due for erase, so no erase begins. -/
theorem startEnergyErase_idle {s : State} (h : s.energy.eraseSector = none) : s.startEnergyErase = s := by
  unfold State.startEnergyErase
  rw [h]
  rfl

/-- While a copy is under way no erase begins. -/
theorem startEnergyErase_saving {s : State} {op : SaveOp} (h : s.energy.save = some op) : s.startEnergyErase = s := by
  unfold State.startEnergyErase
  rw [h, Option.isNone_some, Bool.and_false]
  rfl

/-- During a power-fail warning no erase begins (R442). -/
theorem startEnergyErase_warned {s : State} (h : s.supply.pfw = true) : s.startEnergyErase = s := by
  unfold State.startEnergyErase
  rw [h]
  simp

/-- A due erase can only begin: no copy, slot or waiting save changes. -/
theorem startEnergyErase_energy (s : State) : ∃ erasing, s.startEnergyErase.energy = { s.energy with erasing := erasing } := by
  unfold State.startEnergyErase
  split
  · exact ⟨true, rfl⟩
  · exact ⟨s.energy.erasing, rfl⟩

/-- Where no save is due none begins. -/
theorem startSave_none {s : State} (h : s.energy.due = []) : s.startSave = s.startEnergyErase := by
  obtain ⟨erasing, he⟩ := startEnergyErase_energy s
  unfold State.startSave
  dsimp only
  rw [he]
  dsimp only
  rw [h]

theorem copyReady_eraseSector {s : State} (h : s.copyReady = true) : s.energy.eraseSector = none := by
  simp only [State.copyReady, Bool.and_eq_true, Option.isNone_iff_eq_none] at h
  exact h.1.2

/-- A save that falls due alone while the flash is free begins at once. -/
theorem requestSave_ready {s : State} (trigger : Nat) (hdue : s.energy.due = []) (hpfw : s.supply.pfw = false)
    (hop : s.flashOp = false) (hready : s.copyReady = true) :
    (s.requestSave trigger).energy = { s.energy with
      save := some ⟨s.totalsCopy trigger, copySlot s.energy.nextCopy, false⟩, nextCopy := s.energy.nextCopy + 1 } := by
  have hidle : (s.setEnergy { s.energy with due := [] ++ [trigger] }).startEnergyErase =
      s.setEnergy { s.energy with due := [] ++ [trigger] } := startEnergyErase_idle (copyReady_eraseSector hready)
  have hfree : ((s.setEnergy { s.energy with due := [] ++ [trigger] }).supply.pfw
      || (s.setEnergy { s.energy with due := [] ++ [trigger] }).flashOp
      || !(s.setEnergy { s.energy with due := [] ++ [trigger] }).copyReady) = false := by
    show (s.supply.pfw || s.flashOp || !s.copyReady) = false
    rw [hpfw, hop, hready]
    rfl
  unfold State.requestSave State.startSave
  rw [hdue, hidle]
  show State.energy (if _ then _ else _) = _
  rw [hfree, if_neg Bool.false_ne_true]
  show ({ s.energy with due := [], save := _, nextCopy := _ } : Energy) = _
  rw [← hdue]
  rfl

/-- During a power-fail warning a save that falls due waits. -/
theorem requestSave_warned {s : State} (trigger : Nat) (hpfw : s.supply.pfw = true) :
    (s.requestSave trigger).energy.due = s.energy.due ++ [trigger] := by
  have hidle : (s.setEnergy { s.energy with due := s.energy.due ++ [trigger] }).startEnergyErase =
      s.setEnergy { s.energy with due := s.energy.due ++ [trigger] } := startEnergyErase_warned hpfw
  unfold State.requestSave State.startSave
  dsimp only
  rw [hidle]
  split
  · rfl
  · rw [show (s.setEnergy { s.energy with due := s.energy.due ++ [trigger] }).supply.pfw = true from hpfw]
    rfl

/-! ### Copies written (R442) -/

theorem checkSector_energy (s : State) :
    ∃ sector, s.checkSector.energy = { s.energy with eraseSector := sector } := by
  unfold State.checkSector
  dsimp only
  split
  · exact ⟨s.energy.eraseSector, rfl⟩
  · exact ⟨_, rfl⟩

/-- What follows a copy: no save is due, and only an erase may begin. -/
theorem afterCopy_energy {s : State} (h : s.energy.due = []) : ∃ sector erasing,
    s.checkSector.startSave.startWrite.energy = { s.energy with eraseSector := sector, erasing := erasing } := by
  obtain ⟨sector, hsector⟩ := checkSector_energy s
  obtain ⟨erasing, herasing⟩ := startEnergyErase_energy s.checkSector
  have hdue : s.checkSector.energy.due = [] := by rw [hsector]; exact h
  refine ⟨sector, erasing, ?_⟩
  rw [startWrite_energy, startSave_none hdue, herasing, hsector]

theorem afterCopy_keeps (s : State) : Keeps 0x10000010 s s.checkSector.startSave.startWrite :=
  State.startWrite_keeps (by decide) (State.startSave_keeps (by decide) (State.checkSector_keeps (by decide) (Keeps.refl _ s)))

/-- A copy read back, before its sector is looked at. -/
def State.storeCopy (s : State) (op : SaveOp) : State :=
  let t := s.setEnergy { s.energy with copies := cellPut s.energy.copies op.slot op.copy, save := none }
  ((t.putObj 0x5070 3 op.copy.seq).putObj 0x5070 4 op.copy.time).putObj 0x5070 5 op.copy.trigger

theorem copyDone_eq {s : State} {op : SaveOp} (h : s.energy.save = some op) :
    s.copyDone = (s.storeCopy op).checkSector := by
  unfold State.copyDone
  rw [h]
  rfl

theorem storeCopy_objects {s : State} (op : SaveOp) (hc : Safety.canonical s = true) :
    (s.storeCopy op).obj 0x5070 3 = op.copy.seq ∧ (s.storeCopy op).obj 0x5070 4 = op.copy.time ∧
      (s.storeCopy op).obj 0x5070 5 = op.copy.trigger := by
  have h0 : Safety.canonical
      (s.setEnergy { s.energy with copies := cellPut s.energy.copies op.slot op.copy, save := none }) = true := hc
  have h3 := canonical_putObj 0x5070 3 op.copy.seq h0
  have h4 := canonical_putObj 0x5070 4 op.copy.time h3
  refine ⟨?_, ?_, obj_putObj _ _ _ h4⟩
  · exact (obj_putObj_ne _ h4 (by decide)).trans ((obj_putObj_ne _ h3 (by decide)).trans (obj_putObj _ _ _ h0))
  · exact (obj_putObj_ne _ h4 (by decide)).trans (obj_putObj _ _ _ h3)

/-- The slot of a copy that read back wrong holds neither copy nor erased cells. -/
def State.spoilCopy (s : State) (op : SaveOp) : State :=
  s.setEnergy { s.energy with spoilt := cellPut s.energy.spoilt op.slot op.copy.seq }

/-- A copy that is given up is not under way. -/
def State.dropCopy (s : State) : State := s.setEnergy { s.energy with save := none }

/-- A copy that read back wrong once goes on in the next slot. -/
def State.retryCopy (s : State) (op : SaveOp) : State :=
  (s.spoilCopy op).setEnergy { (s.spoilCopy op).energy with
    save := some { op with slot := op.slot + 1, retry := true } }

theorem copyFailed_eq {s : State} {op : SaveOp} (h : s.energy.save = some op) : s.copyFailed =
    if op.retry || (op.slot + 1) % 8 == 0 || !(s.spoilCopy op).slotErased (op.slot + 1) then
      ((s.spoilCopy op).dropCopy.raise rcTotalsSaveFail (evData [evU 4 op.copy.seq])).checkSector
    else s.retryCopy op := by
  unfold State.copyFailed
  rw [h]
  rfl

/-- The slot after a spoilt one is erased if it was. -/
theorem slotErased_next {s : State} {op : SaveOp} (hcopies : cellGet s.energy.copies (op.slot + 1) = none)
    (hspoilt : cellGet s.energy.spoilt (op.slot + 1) = none) : (s.spoilCopy op).slotErased (op.slot + 1) = true := by
  have hput : cellGet (cellPut s.energy.spoilt op.slot op.copy.seq) (op.slot + 1) = none :=
    (cellGet_put_ne _ _ _ _ (by omega)).trans hspoilt
  show ((cellGet s.energy.copies (op.slot + 1)).isNone &&
    (cellGet (cellPut s.energy.spoilt op.slot op.copy.seq) (op.slot + 1)).isNone) = true
  rw [hcopies, hput]
  rfl

/-- The first mismatch: the copy is written again in the next slot. -/
theorem copyFailed_retries {s : State} {op : SaveOp} (h : s.energy.save = some op) (hdue : s.energy.due = [])
    (hretry : op.retry = false) (hend : (op.slot + 1) % 8 ≠ 0)
    (hcopies : cellGet s.energy.copies (op.slot + 1) = none) (hspoilt : cellGet s.energy.spoilt (op.slot + 1) = none) :
    s.copyFailed.startSave.startWrite.energy = { s.energy with
      spoilt := cellPut s.energy.spoilt op.slot op.copy.seq
      save := some { op with slot := op.slot + 1, retry := true } } := by
  have hgoes : (op.retry || (op.slot + 1) % 8 == 0 || !(s.spoilCopy op).slotErased (op.slot + 1)) = false := by
    rw [hretry, beq_eq_false_iff_ne.2 hend, slotErased_next hcopies hspoilt]
    rfl
  rw [copyFailed_eq h, hgoes, if_neg Bool.false_ne_true, startWrite_energy,
    startSave_none (s := s.retryCopy op) hdue, startEnergyErase_saving (s := s.retryCopy op) rfl]
  rfl

/-- A second mismatch: the copy is given up, and RC_TOTALS_SAVE_FAIL is raised. -/
theorem copyFailed_gives_up {s : State} {op : SaveOp} (hc : Safety.canonical s = true) (h : s.energy.save = some op)
    (hdue : s.energy.due = []) (hretry : op.retry = true) :
    s.copyFailed.startSave.startWrite.energy.save = none ∧
      Safety.raised rcTotalsSaveFail s s.copyFailed.startSave.startWrite := by
  have hdrop : Keeps 0x10000000 s (s.spoilCopy op).dropCopy :=
    State.setEnergy_keeps _ rfl (State.setEnergy_keeps _ rfl (Keeps.refl _ s))
  have hraise := State.raise_keeps rcTotalsSaveFail (evData [evU 4 op.copy.seq]) (maskLe_refl _)
    (Keeps.refl _ (s.spoilCopy op).dropCopy)
  have hraised := raise_raised_after (evData [evU 4 op.copy.seq]) hdrop hc (rfl : raisable rcTotalsSaveFail = true) rfl rfl rfl
  have henergy : ((s.spoilCopy op).dropCopy.raise rcTotalsSaveFail (evData [evU 4 op.copy.seq])).energy =
      (s.spoilCopy op).dropCopy.energy := energy_of_keeps hraise rfl
  rw [copyFailed_eq h, hretry, Bool.true_or, Bool.true_or, if_pos rfl]
  obtain ⟨sector, erasing, hafter⟩ := afterCopy_energy (s := (s.spoilCopy op).dropCopy.raise rcTotalsSaveFail
    (evData [evU 4 op.copy.seq])) (by rw [henergy]; exact hdue)
  refine ⟨?_, raised_before (afterCopy_keeps _) (hraise.canonical (hdrop.canonical hc)) rfl rfl hraised⟩
  rw [hafter, henergy]
  rfl

/-! ### Sectors erased (R442) -/

theorem energyErased_eq {s : State} {k : Nat} (h : s.energy.eraseSector = some k) (herasing : s.energy.erasing = true)
    (hpfw : s.supply.pfw = false) : s.energyErased = s.eraseCopies.startSave.startWrite := by
  unfold State.energyErased
  rw [h, herasing, hpfw]
  rfl

theorem eraseCopies_energy {s : State} {k : Nat} (h : s.energy.eraseSector = some k) :
    s.eraseCopies.energy = { s.energy with
      copies := s.energy.copies.filter (fun (c : Nat × TotalsCopy) => c.1 / 8 != k)
      spoilt := s.energy.spoilt.filter (fun (c : Nat × Nat) => c.1 / 8 != k), eraseSector := none, erasing := false } := by
  unfold State.eraseCopies
  rw [h]
  rfl

theorem eraseCopies_count {s : State} {k : Nat} (hc : Safety.canonical s = true) (h : s.energy.eraseSector = some k) :
    s.eraseCopies.obj 0x5070 6 = countNext (objKey 0x5070 6) (s.obj 0x5070 6) := by
  unfold State.eraseCopies
  rw [h]
  exact obj_bump 0x5070 6 (s := s.setEnergy _) hc

theorem energyErased_effects {s : State} {k : Nat} (hc : Safety.canonical s = true) (h : s.energy.eraseSector = some k)
    (herasing : s.energy.erasing = true) (hpfw : s.supply.pfw = false) (hdue : s.energy.due = []) :
    s.energyErased.energy.eraseSector = none ∧ s.energyErased.energy.erasing = false ∧
      (∀ c ∈ s.energyErased.energy.copies, c.1 / 8 ≠ k) ∧
      s.energyErased.obj 0x5070 6 = countNext (objKey 0x5070 6) (s.obj 0x5070 6) := by
  have herase := eraseCopies_energy h
  have hsave : s.eraseCopies.startSave = s.eraseCopies := by
    rw [startSave_none (by rw [herase]; exact hdue), startEnergyErase_idle (by rw [herase])]
  have hkept : Keeps 0x10 s.eraseCopies s.eraseCopies.startWrite :=
    State.startWrite_keeps (maskLe_refl _) (Keeps.refl _ _)
  have hcanonical : Safety.canonical s.eraseCopies = true :=
    (State.eraseCopies_keeps (maskLe_refl _) (Keeps.refl _ s)).canonical hc
  rw [energyErased_eq h herasing hpfw, hsave, startWrite_energy, herase, hkept.obj hcanonical 6 rfl]
  exact ⟨rfl, rfl, fun c hmem => bne_iff_ne.1 (List.mem_filter.1 hmem).2, eraseCopies_count hc h⟩

/-! ### Pulses (R446, R447) -/

theorem pulses_modPulse (s : State) (e : Fin 2) (f : Pulse → Pulse) :
    (s.modPulse e f).energy.pulses[e] = f s.energy.pulses[e] := Vector.getElem_set_self e.isLt

/-- The state with the oldest pulse owed taken. -/
def State.takePulse (s : State) (e : Fin 2) (rest : List Nat) : State := s.modPulse e fun a => { a with owed := rest }

theorem pulseStart_eq {s : State} {e : Fin 2} {x : Nat} {rest : List Nat} (h : s.energy.pulses[e].owed = x :: rest) :
    s.pulseStart e = if s.pulseFree e then (s.takePulse e rest).emitPulse e else (s.takePulse e rest).backlogPulse e := by
  have hfree : (s.takePulse e rest).pulseFree e = s.pulseFree e := by
    unfold State.pulseFree State.takePulse
    rw [pulses_modPulse]
    rfl
  rw [← hfree]
  unfold State.pulseStart
  rw [h]
  rfl

theorem emitPulse_effects {s : State} (e : Fin 2) (hc : Safety.canonical s = true) :
    (s.emitPulse e).energy.pulses[e] = { s.energy.pulses[e] with on := true } ∧
      (s.emitPulse e).obj 0x5050 (9 + e.val) = countNext (objKey 0x5050 (9 + e.val)) (s.obj 0x5050 (9 + e.val)) :=
  ⟨pulses_modPulse s e fun a => { a with on := true }, obj_bump 0x5050 (9 + e.val) (s := s.modPulse e _) hc⟩

theorem backlogPulse_effects {s : State} {e : Fin 2} (hc : Safety.canonical s = true)
    (hroom : s.obj 0x5050 (0x0B + e.val) < 0xFFFE) : (s.backlogPulse e).energy = s.energy ∧
      (s.backlogPulse e).obj 0x5050 (0x0B + e.val) = s.obj 0x5050 (0x0B + e.val) + 1 := by
  unfold State.backlogPulse
  dsimp only
  rw [if_neg (by omega), if_neg (by omega)]
  exact ⟨rfl, obj_putObj _ _ _ hc⟩

theorem takePulse_pulse (s : State) (e : Fin 2) (rest : List Nat) :
    (s.takePulse e rest).energy.pulses[e] = { s.energy.pulses[e] with owed := rest } := pulses_modPulse s e _

/-! ### Registers zeroed (R436, R439) -/

/-- Writing 0 somewhere leaves what reads 0. -/
theorem obj_putObj_zero {s : State} {ix sub : Nat} (ix' sub' : Nat) (hc : Safety.canonical s = true)
    (h : s.obj ix sub = 0) : (s.putObj ix' sub' 0).obj ix sub = 0 := by
  by_cases hkey : objKey ix sub = objKey ix' sub'
  · have hsame : (s.putObj ix' sub' 0).obj ix sub = (s.putObj ix' sub' 0).obj ix' sub' :=
      congrArg (odGet (s.putObj ix' sub' 0).od) hkey
    rw [hsame, obj_putObj _ _ _ hc]
  · rw [obj_putObj_ne _ hc hkey, h]

/-- The step of `zeroEnergy` for one register. -/
def State.zeroRegister (s : State) (ix j : Nat) : State :=
  let t := s.putObj ix (j + 1) 0
  t.setEnergy { t.energy with fractions := cellDrop t.energy.fractions (objKey ix (j + 1)) }

theorem zeroEnergy_eq (s : State) (ix n : Nat) :
    s.zeroEnergy ix n = (List.range n).foldl (fun (s : State) (j : Nat) => s.zeroRegister ix j) s := rfl

theorem canonical_zeroRegister {s : State} (ix j : Nat) (hc : Safety.canonical s = true) :
    Safety.canonical (s.zeroRegister ix j) = true := canonical_putObj ix (j + 1) 0 hc

theorem obj_zeroRegisters {s : State} {ix ix' sub : Nat} (l : List Nat) (hc : Safety.canonical s = true)
    (h : (ix' = ix ∧ ∃ j ∈ l, sub = j + 1) ∨ s.obj ix' sub = 0) :
    (l.foldl (fun (s : State) (j : Nat) => s.zeroRegister ix j) s).obj ix' sub = 0 := by
  induction l generalizing s with
  | nil =>
    refine h.resolve_left ?_
    rintro ⟨-, j, hj, -⟩
    exact List.not_mem_nil hj
  | cons i l ih =>
    refine ih (canonical_zeroRegister ix i hc) ?_
    rcases h with ⟨rfl, j, hj, rfl⟩ | h
    · rcases List.mem_cons.1 hj with rfl | hj
      · exact Or.inr (obj_putObj ix' (j + 1) 0 hc)
      · exact Or.inl ⟨rfl, j, hj, rfl⟩
    · exact Or.inr (obj_putObj_zero ix (i + 1) hc h)

theorem obj_zeroEnergy {s : State} {ix n j : Nat} (hc : Safety.canonical s = true) (hj : j < n) :
    (s.zeroEnergy ix n).obj ix (j + 1) = 0 :=
  obj_zeroRegisters _ hc (Or.inl ⟨rfl, j, List.mem_range.2 hj, rfl⟩)

theorem obj_zeroEnergy_zero {s : State} {ix sub : Nat} (ix' n : Nat) (hc : Safety.canonical s = true)
    (h : s.obj ix sub = 0) : (s.zeroEnergy ix' n).obj ix sub = 0 := obj_zeroRegisters _ hc (Or.inr h)

theorem canonical_zeroEnergy {s : State} (ix n : Nat) (hc : Safety.canonical s = true) :
    Safety.canonical (s.zeroEnergy ix n) = true :=
  List.foldlRecOn (motive := fun t : State => Safety.canonical t = true) (List.range n) _ hc
    fun _ ht j _ => canonical_zeroRegister ix j ht

theorem obj_zeroSets {s : State} {k j : Nat} (l : List Nat) (hc : Safety.canonical s = true) (hj : j < 9)
    (h : k ∈ l ∨ s.obj (0x5040 + k) (j + 1) = 0) :
    (l.foldl (fun (s : State) (k : Nat) => s.zeroEnergy (0x5040 + k) 9) s).obj (0x5040 + k) (j + 1) = 0 := by
  induction l generalizing s with
  | nil => exact h.resolve_left List.not_mem_nil
  | cons i l ih =>
    refine ih (canonical_zeroEnergy _ 9 hc) ?_
    rcases h with h | h
    · rcases List.mem_cons.1 h with rfl | h
      · exact Or.inr (obj_zeroEnergy hc hj)
      · exact Or.inl h
    · exact Or.inr (obj_zeroEnergy_zero _ 9 hc h)

theorem obj_modPulse (s : State) (e : Fin 2) (f : Pulse → Pulse) (ix sub : Nat) :
    (s.modPulse e f).obj ix sub = s.obj ix sub := rfl

theorem obj_zeroTotals {s : State} (k : Fin 4) (j : Fin 9) (hc : Safety.canonical s = true) :
    s.zeroTotals.obj (0x5040 + k.val) (j.val + 1) = 0 := by
  unfold State.zeroTotals
  dsimp only
  rw [obj_modPulse, obj_modPulse]
  exact obj_zeroSets (List.range 4) hc j.isLt (Or.inl (List.mem_range.2 k.isLt))

theorem siteIn_totals (W : Nat) (k : Fin 4) : siteIn W (0x5040 + k.val) = siteIn W 0x5040 :=
  siteIn_congr W (by revert k; decide)

/-- A reset of the totals, before RC_TOTALS_RESET (R436). -/
theorem zeroTotals_keeps (s : State) : Keeps 0x4000000000000010000000 s (s.zeroTotals.requestSave 6) :=
  State.requestSave_keeps 6 (by decide) (State.zeroTotals_keeps (maskLe_refl _) (Keeps.refl _ s))

theorem resetTotals_effects {s : State} (hc : Safety.canonical s = true) :
    Safety.canonical s.resetTotals = true ∧ Safety.raised rcTotalsReset s s.resetTotals ∧
      ∀ (k : Fin 4) (j : Fin 9), s.resetTotals.obj (0x5040 + k.val) (j.val + 1) = 0 := by
  have hzero := zeroTotals_keeps s
  have hz := (State.zeroTotals_keeps (maskLe_refl _) (Keeps.refl _ s)).canonical hc
  have hrequest := State.requestSave_keeps 6 (maskLe_refl _) (Keeps.refl _ s.zeroTotals)
  have hraise := State.raise_keeps rcTotalsReset (evData [evU 4 (s.energy.nextCopy + s.energy.due.length : Nat)])
    (maskLe_refl _) (Keeps.refl _ (s.zeroTotals.requestSave 6))
  refine ⟨hraise.canonical (hzero.canonical hc), raise_raised_after _ hzero hc rfl rfl rfl rfl, fun k j => ?_⟩
  exact (hraise.obj (hzero.canonical hc) _ ((siteIn_totals _ k).trans rfl)).trans
    ((hrequest.obj hz _ ((siteIn_totals _ k).trans rfl)).trans (obj_zeroTotals k j hc))

/-! ### The rows -/

theorem hostAction_totalsSave {s : State} {ch : Channel} {tag : Nat} (ha : Safety.actionAdmits s ch 0x5070 1 tag 1)
    (hdue : s.energy.due = []) (hpfw : s.supply.pfw = false) (hop : s.flashOp = false) (hready : s.copyReady = true) :
    Safety.done (s.hostAction ch 0x5070 1 tag 1) ch 0x5070 1 ∧ (s.hostAction ch 0x5070 1 tag 1).energy.save =
      some ⟨s.totalsCopy 5, copySlot s.energy.nextCopy, false⟩ := by
  obtain ⟨b, c, hact, hans⟩ := hostAction_admitted ha rfl rfl rfl
  rw [hact, do_totals_save_now]
  exact ⟨hans, congrArg Energy.save (requestSave_ready (s := s.setClients b) 5 hdue hpfw hop hready)⟩

theorem hostAction_totalsReset {s : State} {ch : Channel} {tag : Nat} (hc : Safety.canonical s = true)
    (ha : Safety.actionAdmits s ch 0x5070 2 tag 1) :
    Safety.done (s.hostAction ch 0x5070 2 tag 1) ch 0x5070 2 ∧
      Safety.raised rcTotalsReset s (s.hostAction ch 0x5070 2 tag 1) ∧
      ∀ (k : Fin 4) (j : Fin 9), (s.hostAction ch 0x5070 2 tag 1).obj (0x5040 + k.val) (j.val + 1) = 0 := by
  obtain ⟨b, c, hact, hans⟩ := hostAction_admitted ha rfl rfl rfl
  obtain ⟨hcr, hraised, hzero⟩ := resetTotals_effects (s := s.setClients b) hc
  have hafter : Keeps (2 ^ siteOf 0x5070 ||| 0x20) (s.setClients b).resetTotals
      (((s.setClients b).resetTotals.putObj 0x5070 2 tag).setClients c) :=
    State.setClients_keeps _ (by decide) (State.putObj_keeps _ _ _ (by decide) (Keeps.refl _ _))
  rw [hact, do_totals_reset]
  refine ⟨hans, raised_before hafter hcr (by decide) (by decide) (Safety.raised_of hraised rfl rfl), fun k j => ?_⟩
  exact (hafter.obj hcr _ ((siteIn_totals _ k).trans (by decide))).trans (hzero k j)

theorem action_dcEnergy (r : RailId) : isAction (railIx r 0x60) 3 = true ∧ answersLate (railIx r 0x60) 3 = false ∧
    endsClient (railIx r 0x60) 3 = false := by
  revert r
  decide

theorem hostAction_dcEnergy {s : State} {ch : Channel} {r : RailId} {tag : Nat} (hc : Safety.canonical s = true)
    (ha : Safety.actionAdmits s ch (railIx r 0x60) 3 tag 1) :
    Safety.done (s.hostAction ch (railIx r 0x60) 3 tag 1) ch (railIx r 0x60) 3 ∧
      (s.hostAction ch (railIx r 0x60) 3 tag 1).railObj r 0x60 1 = 0 ∧
      (s.hostAction ch (railIx r 0x60) 3 tag 1).railObj r 0x60 2 = 0 := by
  obtain ⟨hi, hl, he⟩ := action_dcEnergy r
  obtain ⟨b, c, hact, hans⟩ := hostAction_admitted ha hi hl he
  have hcb : Safety.canonical (s.setClients b) = true := hc
  have hcz := canonical_zeroEnergy (railIx r 0x60) 2 hcb
  have hreg (j : Nat) (hj : j < 2) :
      ((((s.setClients b).zeroEnergy (railIx r 0x60) 2).putObj (railIx r 0x60) 3 tag).setClients c).obj
        (railIx r 0x60) (j + 1) = 0 :=
    (obj_setClients _ c _ _).trans ((obj_putObj_ne _ hcz (objKey_inj (by omega) (by decide) (by omega))).trans
      (obj_zeroEnergy hcb hj))
  rw [hact, do_dc_energy_reset]
  exact ⟨hans, hreg 0 (by decide), hreg 1 (by decide)⟩

end Sys2Proof.Machine

namespace Sys2Proof

open Machine

/-- Settles O27: a clause per command. -/
theorem energyTotalsAct : Obligations.EnergyTotalsAct := by
  unfold Obligations.EnergyTotalsAct
  refine ⟨?begins, ?waits, ?ignored, ?copied, ?retried, ?failed, ?erased, ?starts, ?backlog, ?ends, ?save, ?reset, ?dc⟩
  case begins =>
    intro s hserves hdue hpfw hop hready
    have henergy := requestSave_ready 1 hdue hpfw hop hready
    exact ⟨_, if_pos hserves, congrArg Energy.save henergy, congrArg Energy.nextCopy henergy,
      (congrArg Energy.due henergy).trans hdue⟩
  case waits => exact fun s hserves hpfw => ⟨_, if_pos hserves, requestSave_warned 1 hpfw⟩
  case ignored => exact fun s hserves => if_neg (by rw [hserves]; exact Bool.false_ne_true)
  case copied =>
    intro op s hc hsave hdue
    have hpending : s.energy.save.isSome = true := by rw [hsave]; rfl
    have hcs : Safety.canonical (s.storeCopy op) = true :=
      canonical_putObj _ _ _ (canonical_putObj _ _ _ (canonical_putObj _ _ _ (s := s.setEnergy _) hc))
    obtain ⟨sector, erasing, henergy⟩ := afterCopy_energy (s := s.storeCopy op) hdue
    have hobj (sub : Nat) := (afterCopy_keeps (s.storeCopy op)).obj hcs (ix := 0x5070) sub rfl
    obtain ⟨hseq, htime, htrigger⟩ := storeCopy_objects op hc
    refine ⟨_, if_pos hpending, ?_⟩
    beta_reduce
    rw [if_pos rfl, copyDone_eq hsave, henergy, hobj, hobj, hobj]
    exact ⟨rfl, rfl, hseq, htime, htrigger⟩
  case retried =>
    intro op s hsave hdue hretry hend hcopies hspoilt _
    have hpending : s.energy.save.isSome = true := by rw [hsave]; rfl
    have henergy := copyFailed_retries hsave hdue hretry hend hcopies hspoilt
    exact ⟨_, if_pos hpending, congrArg Energy.save henergy, congrArg Energy.spoilt henergy⟩
  case failed =>
    intro op s hc hsave hdue hretry
    have hpending : s.energy.save.isSome = true := by rw [hsave]; rfl
    exact ⟨_, if_pos hpending, copyFailed_gives_up hc hsave hdue hretry⟩
  case erased => exact fun k s hc h herasing hpfw hdue => ⟨_, rfl, energyErased_effects hc h herasing hpfw hdue⟩
  case starts =>
    intro e x rest s hc howed hfree
    obtain ⟨hpulse, hcount⟩ := emitPulse_effects (s := s.takePulse e rest) e hc
    refine ⟨_, rfl, ?_⟩
    beta_reduce
    rw [pulseStart_eq howed, if_pos hfree, hpulse, hcount, takePulse_pulse]
    exact ⟨rfl, rfl, rfl⟩
  case backlog =>
    intro e x rest s hc howed hfree hroom
    obtain ⟨henergy, hcount⟩ := backlogPulse_effects (s := s.takePulse e rest) (e := e) hc hroom
    refine ⟨_, rfl, ?_⟩
    beta_reduce
    rw [pulseStart_eq howed, hfree, if_neg Bool.false_ne_true, henergy, hcount, takePulse_pulse]
    exact ⟨rfl, rfl, rfl⟩
  case ends =>
    intro e s hon
    have hend : s.pulseEnd e =
        s.modPulse e fun a => { a with on := false, gapUntil := s.life.up + s.nat 0x5050 (5 + e.val) } := if_pos hon
    refine ⟨_, rfl, ?_⟩
    beta_reduce
    rw [hend, pulses_modPulse]
    exact ⟨rfl, rfl⟩
  case save =>
    exact fun ch tag s ha hdue hpfw hop hready => ⟨_, rfl, hostAction_totalsSave ha hdue hpfw hop hready⟩
  case reset => exact fun ch tag s hc ha => ⟨_, rfl, hostAction_totalsReset hc ha⟩
  case dc => exact fun ch r tag s hc ha => ⟨_, rfl, hostAction_dcEnergy hc ha⟩

end Sys2Proof
end

section
/-! The metrology unit (O26): a publication that begins a mains interruption fires the mains source of the power-fail
warning. The warning aborts a store in progress, the request that waited behind it is served, and where that request
disables metrology the window is closed early by a second publication in the same row (R121, R424, R456, R492). -/

namespace Sys2Proof.Machine

/-- DISABLE of function 5 (metrology) with tag 1, as an expedited SDO download to 2110:01. -/
def disableMetrologyFrame : List Byte := [0x23, 0x10, 0x21, 1, 1, 0, 5, 2]

/-- Channel 0 takes part in supply quality, measures 0 mV, and the mains source of the warning is enabled. A store
asked over SDO is in progress, and a client's request to disable metrology waits for its answer. -/
def disableWaitsAtInterruption : State :=
  { Tests.puts Tests.live [(0x2130, 5, 2), (0x5060, 2, 1)] with
    metrology :=
      { Tests.live.metrology with window := [⟨Vector.replicate 4 0, Vector.replicate 4 0, 1⟩], half := 64 }
    flash := { Tests.live.flash with store := some ⟨some .sdo, 1, false, ⟨2, [], []⟩⟩ }
    can := { Tests.live.can with
      sdoOwed := some (sdoWriteAnswer 0x1010 1)
      sdoWaiting := [disableMetrologyFrame] } }

theorem canonical_disableWaitsAtInterruption : Safety.canonical disableWaitsAtInterruption = true := by decide +kernel

theorem metering_disableWaitsAtInterruption : disableWaitsAtInterruption.metering = true := by decide +kernel

/-- The publication counts 5030:05, and the interruption that it begins serves the waiting request, whose early
publication counts it again. -/
theorem mainsSource_disableWaitsAtInterruption :
    ((disableWaitsAtInterruption.publish false).mainsSource
      disableWaitsAtInterruption.energy.interruption.active).obj 0x5030 5 = 2 := by
  decide +kernel

theorem exec_halfCyclePublication_metering {s : State} (h : s.metering = true) :
    exec .halfCyclePublication s = .next ((s.publish false).mainsSource s.energy.interruption.active) :=
  (rfl : _ = execHalfCyclePublication s).trans (if_pos h)

end Sys2Proof.Machine

namespace Sys2Proof

open Machine

/-- Refutes O26 by its clause of HALF_CYCLE_PUBLICATION: in `disableWaitsAtInterruption` the row counts 5030:05 from 0
to 2, where the clause has 1. The clause lacks the premise that no request waits (or that no interruption begins). -/
theorem not_metrologyActs : ¬ Obligations.MetrologyActs := by
  unfold Obligations.MetrologyActs
  rintro ⟨-, -, -, -, -, -, hpublication, -⟩
  obtain ⟨t, hexec, hcount, -⟩ := hpublication disableWaitsAtInterruption canonical_disableWaitsAtInterruption
    metering_disableWaitsAtInterruption
  have hnext := exec_halfCyclePublication_metering metering_disableWaitsAtInterruption
  have htwice : t.obj 0x5030 5 = 2 :=
    Host.Outcome.next.inj (hnext.symm.trans hexec) ▸ mainsSource_disableWaitsAtInterruption
  have honce : countNext (objKey 0x5030 5) (disableWaitsAtInterruption.obj 0x5030 5) = 1 := by decide +kernel
  omega

end Sys2Proof
end

section
/-! The Tropo ring (O25): RING_FRAME_SEND also ends the step STANDBY → IDLE where that step waits for the ring (R133),
whoever the device is in the ring. -/

namespace Sys2Proof.Machine

/-- A follower at position 1 whose step STANDBY → IDLE has begun and not ended. -/
def followerStepsToIdle : State :=
  let s := Tests.puts Tests.live [(0x2008, 6, 1), (0x2100, 2, 2), (0x2100, 3, 2)]
  s.setLife { s.life with joining := true }

theorem canonical_followerStepsToIdle : Safety.canonical followerStepsToIdle = true := by decide +kernel

theorem sendFrame_of_follower {s : State} (h : s.isRingLead = false) : s.sendFrame = s := by
  rw [State.sendFrame, h, Bool.false_and, if_neg Bool.false_ne_true]

theorem exec_ringFrameSend_of_follower {s : State} (h : s.isRingLead = false) :
    exec .ringFrameSend s = .next s.joinStep :=
  congrArg (fun t : State => Host.Outcome.next t.joinStep) (sendFrame_of_follower h)

end Sys2Proof.Machine

namespace Sys2Proof

open Machine

/-- Refutes O25 by its clause that RING_FRAME_SEND is ignored on a follower, which lacks the premise that no step
STANDBY → IDLE is under way: in `followerStepsToIdle` the row ends that step, and 2100:02 goes from 2 to 3. -/
theorem not_tropoRingActs : ¬ Obligations.TropoRingActs := by
  unfold Obligations.TropoRingActs
  rintro ⟨-, -, -, -, -, -, -, -, -, -, -, -, -, -, hfollower, -⟩
  have hrole : followerStepsToIdle.isRingLead = false := by decide +kernel
  have hkept : followerStepsToIdle.joinStep = followerStepsToIdle :=
    Host.Outcome.next.inj ((exec_ringFrameSend_of_follower hrole).symm.trans (hfollower followerStepsToIdle hrole))
  have hbefore : followerStepsToIdle.obj 0x2100 2 = 2 := by decide +kernel
  have hafter : followerStepsToIdle.joinStep.obj 0x2100 2 = 3 := by decide +kernel
  rw [hkept] at hafter
  omega

end Sys2Proof
end

section
/-! The GSP server (O7): a frame that the server takes is executed by its type in the state that has counted it, and a
response is queued with the fields of its request (R550, R553, R555–R559). -/

namespace Sys2Proof.Machine

/-! ### A frame that is taken -/

/-- A frame that the server takes is counted in 2510:06 and executed. -/
theorem gspFrameIn_taken {s : State} {frame : List Byte} {f : GspFrame} (h : Safety.gspTakes s frame f) :
    s.gspFrameIn frame = (s.bump 0x2510 6).gspExecute f := by
  obtain ⟨hframe, hreach, hfree, herror, hfresh, bytes, hdecode, hparse⟩ := h
  have hfind : (s.bump 0x2510 6).gsp.cache.find? (fun c : Nat × Nat × List Byte => c.1 == f.seq) = none :=
    List.find?_eq_none.2 fun c hc => by simpa using hfresh c hc
  have hidle : (s.bump 0x2510 6).gsp.request.isNone = true := Option.isNone_iff_eq_none.2 hfree
  rw [gspFrameIn_eq hframe hreach, hdecode]
  show (s.bump 0x2510 6).gspDecoded bytes = _
  rw [State.gspDecoded, hparse]
  show (if _ then (s.bump 0x2510 6).gspServe f else _) = _
  rw [if_pos hidle]
  simp only [State.gspServe, herror, hfind]

theorem gspExecute_read {f : GspFrame} (s : State) (h : f.type = 1) : s.gspExecute f = s.gspRead f := by
  simp only [State.gspExecute, h]

theorem gspExecute_write {f : GspFrame} (s : State) (h : f.type = 2) :
    s.gspExecute f = s.gspWriteValue f f.payload := by
  simp only [State.gspExecute, h]

theorem gspExecute_blockRead {f : GspFrame} (s : State) (h : f.type = 3) : s.gspExecute f = s.gspBlockRead f := by
  simp only [State.gspExecute, h]

theorem gspExecute_blockWrite {f : GspFrame} (s : State) (h : f.type = 4) : s.gspExecute f = s.gspBlockWrite f := by
  simp only [State.gspExecute, h]

theorem gspExecute_subscribe {f : GspFrame} (s : State) (h : f.type = 5) : s.gspExecute f = s.gspSubscribe f := by
  simp only [State.gspExecute, h]

theorem gspExecute_unsubscribe {f : GspFrame} (s : State) (h : f.type = 6) :
    s.gspExecute f = s.gspUnsubscribe f := by
  simp only [State.gspExecute, h]

theorem gspExecute_ping {f : GspFrame} (s : State) (h : f.type = 7) : s.gspExecute f = s.gspPing f := by
  simp only [State.gspExecute, h]

/-! ### Responses -/

theorem gspRespond_out (s : State) (r : GspRequest) (type : Nat) (payload : List Byte) :
    (s.gspRespond r type payload).gsp.out = s.gsp.out ++ [gspFrame r.seq type r.ix r.sub payload] := rfl

/-- What answers a frame carries the frame's own SEQ and place. -/
theorem mem_gspRespond_out (s : State) (f : GspFrame) (type : Nat) (payload : List Byte) :
    gspFrame f.seq type f.ix f.sub payload ∈ (s.gspRespond f.request type payload).gsp.out :=
  List.mem_append_right _ (List.mem_singleton_self _)

/-- A touch of the client leaves the server's queue. -/
theorem gsp_touch (s : State) (ch : Channel) : (s.touch ch).gsp = s.gsp :=
  (State.touch_keeps ch (maskLe_refl _) (Keeps.refl _ s)).parts .gsp (by decide)

theorem gsp_readEffect (s : State) (ix sub : Nat) : (s.readEffect ix sub).gsp = s.gsp :=
  (State.readEffect_keeps ix sub (maskLe_refl _) (Keeps.refl _ s)).parts .gsp (by decide)

/-! ### Reads and writes (R550) -/

theorem gspRead_reads {s : State} {f : GspFrame} (hrule : s.readRule .gsp f.ix f.sub = none)
    (hlen : (s.readBytes .gsp f.ix f.sub).length ≤ 512) :
    s.gspRead f = ((s.readEffect f.ix f.sub).touch .gsp).gspRespond f.request 0x81 (s.readBytes .gsp f.ix f.sub) := by
  rw [State.gspRead, hrule]
  exact if_neg (Nat.not_lt.2 hlen)

/-- A read answers with the bytes of the object. -/
theorem gspRead_out {s : State} {f : GspFrame} (hrule : s.readRule .gsp f.ix f.sub = none)
    (hlen : (s.readBytes .gsp f.ix f.sub).length ≤ 512) :
    (s.gspRead f).gsp.out = s.gsp.out ++ [gspFrame f.seq 0x81 f.ix f.sub (s.readBytes .gsp f.ix f.sub)] := by
  rw [gspRead_reads hrule hlen, gspRespond_out, gsp_touch, gsp_readEffect]
  rfl

/-- A whole write that is done at once is answered as done. -/
theorem gspWriteValue_done {s : State} {f : GspFrame} {data : List Byte} (htype : f.type = 2)
    (hdone : (s.writeObj .gsp f.ix f.sub data).2 = .done) :
    s.gspWriteValue f data =
      ((s.writeObj .gsp f.ix f.sub data).1.record .gsp f.ix f.sub none).gspRespond f.request 0x82 [] := by
  have hplain : f.request.type ≠ 4 := by
    show f.type ≠ 4
    omega
  rw [State.gspWriteValue]
  show (State.recordResult _ .gsp f.ix f.sub (s.writeObj .gsp f.ix f.sub data).2).gspAnswer f
    (s.writeObj .gsp f.ix f.sub data).2 = _
  rw [hdone]
  exact if_neg hplain

/-! ### Block transfers (R555–R558) -/

theorem closeBlock_block (s : State) : s.closeBlock.gsp.block = none := by
  have hread := (State.abandonRead_keeps .gsp (maskLe_refl _)
    (Keeps.refl _ (s.modGsp fun g => { g with block := none, aborted := none }))).parts .gsp (by decide)
  have hload := (State.abandonDownload_keeps .gsp (maskLe_refl _) (Keeps.refl _
    ((s.modGsp fun g => { g with block := none, aborted := none }).abandonRead .gsp))).parts .gsp (by decide)
  exact congrArg Gsp.block (hload.trans hread)

/-- The first segment sent of a block read: up to 504 bytes, the last one where there are no more. -/
theorem mem_sendSegment_first (s : State) (f : GspFrame) (data : List Byte) :
    gspFrame f.seq 0x83 f.ix f.sub (segmentHeader (Nat.ble data.length 504) 0 ++ data.take 504) ∈
      (s.sendSegment f ⟨false, f.ix, f.sub, data, 0⟩).gsp.out := by
  have hlast : Nat.ble data.length (0 + (data.take 504).length) = Nat.ble data.length 504 := by
    rw [Bool.eq_iff_iff, Nat.ble_eq, Nat.ble_eq, List.length_take]
    omega
  rw [← hlast]
  exact mem_gspRespond_out _ _ _ _

theorem readFor_data (s : State) (ch : Channel) (ix sub : Nat) : (s.readFor ch ix sub).2 = s.readBytes ch ix sub := by
  rw [State.readFor]
  split <;> rfl

/-- A block read from offset 0 is answered with its first segment. -/
theorem mem_gspBlockRead_out {s : State} {f : GspFrame} (hoffset : f.segment.2.1 = 0)
    (hrule : s.closeBlock.readRule .gsp f.ix f.sub = none) :
    gspFrame f.seq 0x83 f.ix f.sub
        (segmentHeader (Nat.ble (s.closeBlock.readBytes .gsp f.ix f.sub).length 504) 0 ++
          (s.closeBlock.readBytes .gsp f.ix f.sub).take 504) ∈ (s.gspBlockRead f).gsp.out := by
  simp only [State.gspBlockRead, if_pos hoffset, hrule]
  rw [← readFor_data]
  exact mem_sendSegment_first _ _ _

/-- A first segment of a block write that is not its last opens the transfer. -/
theorem gspBlockWrite_opens {s : State} {f : GspFrame} (hoffset : f.segment.2.1 = 0) (hlast : f.segment.1 = false)
    (hplace : f.ix ≠ 0x1F50) :
    (s.gspBlockWrite f).gsp.block = some ⟨true, f.ix, f.sub, f.segment.2.2, f.segment.2.2.length⟩ := by
  have hvalue : ¬ (f.ix = 0x1F50 ∧ f.sub = 1) := fun h => hplace h.1
  have hopened : s.gspBlockWrite f = (((s.closeBlock.modGsp fun g => { g with
      block := some ⟨true, f.ix, f.sub, [] ++ f.segment.2.2, 0 + f.segment.2.2.length⟩ }).touch .gsp).gspWritten
      f.request none) := by
    rw [State.gspBlockWrite, if_pos hoffset]
    simp only [State.takeSegment, if_neg hvalue, hlast, Bool.false_eq_true, if_false]
  have hanswer (t : State) : (t.gspWritten f.request none).gsp.block = t.gsp.block := by
    rw [State.gspWritten]
    split <;> rfl
  rw [hopened, hanswer, gsp_touch]
  simp only [List.nil_append, Nat.zero_add]
  rfl

/-! ### Stream and PING (R549, R559) -/

theorem gspSubscribe_level {s : State} (f : GspFrame) (hc : Safety.canonical s = true) :
    (s.gspSubscribe f).obj 0x2510 5 = byteAt f.payload 0 := by
  obtain ⟨c, hc'⟩ := touch_eq_setClients (s.putObj 0x2510 5 (byteAt f.payload 0)) .gsp
  simp only [State.gspSubscribe, hc']
  exact obj_putObj _ _ _ hc

theorem gspUnsubscribe_ends {s : State} (f : GspFrame) (hc : Safety.canonical s = true) :
    (s.gspUnsubscribe f).obj 0x2510 5 = 0xFF ∧ (s.gspUnsubscribe f).gsp.events = [] := by
  obtain ⟨c, hc'⟩ := touch_eq_setClients ((s.modGsp fun g => { g with events := [] }).putObj 0x2510 5 0xFF) .gsp
  have hcm : Safety.canonical (s.modGsp fun g => { g with events := [] }) = true := hc
  have hlevel := obj_putObj 0x2510 5 0xFF hcm
  simp only [State.gspUnsubscribe, hc']
  exact ⟨hlevel, rfl⟩

/-- The count of a frame leaves what PING answers. -/
theorem pingData_bump {s : State} (hc : Safety.canonical s = true) :
    (s.bump 0x2510 6).lifecycle = s.lifecycle ∧ (s.bump 0x2510 6).power = s.power ∧
      (s.bump 0x2510 6).stage = s.stage ∧ (s.bump 0x2510 6).channelLevel .gsp = s.channelLevel .gsp := by
  have hobj (ix sub : Nat) (h : objKey ix sub ≠ objKey 0x2510 6) : (s.bump 0x2510 6).nat ix sub = s.nat ix sub :=
    congrArg Int.toNat (obj_bump_ne hc h)
  have hlife : (s.bump 0x2510 6).lifecycle = s.lifecycle := hobj 0x2030 1 (by decide)
  refine ⟨hlife, hobj 0x2100 2 (by decide), hobj 0x2120 1 (by decide), ?_⟩
  simp only [State.channelLevel, State.baseLevel, hlife]
  rfl

theorem gspPing_out (s : State) (f : GspFrame) :
    (s.gspPing f).gsp.out = s.gsp.out ++ [gspFrame f.seq 0x87 f.ix f.sub (leBytes 1 s.lifecycle ++
      leBytes 1 s.power ++ leBytes 1 (s.channelLevel .gsp).rank ++ leBytes 1 s.stage ++
      leBytes 4 (s.life.up / 1000))] := by
  rw [State.gspPing, gspRespond_out, gsp_touch]
  rfl

end Sys2Proof.Machine

namespace Sys2Proof

open Machine

/-- Settles O7: a taken frame is executed by its type, and each type has its law above. -/
theorem gspServerAnswers : Obligations.GspServerAnswers := by
  unfold Obligations.GspServerAnswers
  refine ⟨?read, ?write, ?blockRead, ?blockWrite, ?subscribe, ?unsubscribe, ?ping, ?timeout, ?invalid⟩
  case read =>
    intro frame f s htakes htype hrule hlen
    refine ⟨_, congrArg Host.Outcome.next ((gspFrameIn_taken htakes).trans (gspExecute_read _ htype)), ?_⟩
    exact gspRead_out hrule hlen
  case write =>
    intro frame f s htakes htype hdone
    refine ⟨_, congrArg Host.Outcome.next (((gspFrameIn_taken htakes).trans (gspExecute_write _ htype)).trans
      (gspWriteValue_done htype hdone)), rfl, rfl, ?_⟩
    exact mem_gspRespond_out _ _ _ _
  case blockRead =>
    rintro frame f s _ htakes htype hoffset rfl hrule
    refine ⟨_, congrArg Host.Outcome.next ((gspFrameIn_taken htakes).trans (gspExecute_blockRead _ htype)), ?_⟩
    exact mem_gspBlockRead_out hoffset hrule
  case blockWrite =>
    intro frame f s htakes htype hoffset hlast hplace
    refine ⟨_, congrArg Host.Outcome.next ((gspFrameIn_taken htakes).trans (gspExecute_blockWrite _ htype)), ?_⟩
    exact gspBlockWrite_opens hoffset hlast hplace
  case subscribe =>
    intro frame f s hc htakes htype
    refine ⟨_, congrArg Host.Outcome.next ((gspFrameIn_taken htakes).trans (gspExecute_subscribe _ htype)), ?_⟩
    exact gspSubscribe_level f (canonical_bump _ _ hc)
  case unsubscribe =>
    intro frame f s hc htakes htype
    refine ⟨_, congrArg Host.Outcome.next ((gspFrameIn_taken htakes).trans (gspExecute_unsubscribe _ htype)), ?_⟩
    exact gspUnsubscribe_ends f (canonical_bump _ _ hc)
  case ping =>
    intro frame f s hc htakes htype
    obtain ⟨hlife, hpower, hstage, hlevel⟩ := pingData_bump hc
    refine ⟨_, congrArg Host.Outcome.next ((gspFrameIn_taken htakes).trans (gspExecute_ping _ htype)), ?_⟩
    have hout := gspPing_out (s.bump 0x2510 6) f
    rw [hlife, hpower, hstage, hlevel] at hout
    exact hout
  case timeout =>
    intro b s hblock hfree
    refine ⟨_, if_pos (by rw [hblock, hfree]; rfl), closeBlock_block s, rfl⟩
  case invalid =>
    intro frame s hc hframe hreach hdecode
    refine ⟨_, congrArg Host.Outcome.next (gspFrameIn_invalid hframe hreach (by rw [hdecode]; rfl)), rfl, ?_⟩
    exact obj_gspInvalid hc

end Sys2Proof
end

section
/-! The USB port and sessions (O29): what the end of a session leaves of its client, what a challenge and a response
make of it, and the states of the port. -/

namespace Sys2Proof.Machine

/-! ### Clients -/

/-- A client depends on nothing but the clients. -/
theorem client_congr {s t : State} (ch : Channel) (h : t.clients = s.clients) : t.client ch = s.client ch := by
  unfold State.client
  rw [h]

theorem client_raise (s : State) (e data : Nat) (ch : Channel) : (s.raise e data).client ch = s.client ch :=
  client_congr ch ((State.raise_keeps e data (maskLe_refl _) (Keeps.refl _ s)).parts .clients (by decide))

/-- A channel whose client holds something is a client channel. -/
theorem ne_rpdo_of_session {s : State} {ch : Channel} {l : Level} (h : (s.client ch).session = some l) :
    ch ≠ .rpdo := by
  rintro rfl
  exact Option.some_ne_none l h.symm

theorem ne_rpdo_of_nonce {s : State} {ch : Channel} {n : Nat × Nat} (h : (s.client ch).nonce = some n) :
    ch ≠ .rpdo := by
  rintro rfl
  exact Option.some_ne_none n h.symm

/-- Changing a client leaves the count of nonces drawn. -/
theorem draws_modClient (s : State) (ch : Channel) (f : Client → Client) :
    (s.modClient ch f).clients.draws = s.clients.draws := by
  cases ch <;> rfl

theorem client_touch {s : State} {ch : Channel} (hch : ch ≠ .rpdo) (h : (s.client ch).session.isSome = true) :
    (s.touch ch).client ch = { s.client ch with idle := 300000 } := by
  rw [State.touch, if_pos h, client_modClient _ hch]

theorem touch_session (s : State) (ch : Channel) : ((s.touch ch).client ch).session = (s.client ch).session := by
  cases hsession : (s.client ch).session with
  | none => simp [State.touch, hsession]
  | some l => rw [client_touch (ne_rpdo_of_session hsession) (by rw [hsession]; rfl)]; exact hsession

theorem draws_touch (s : State) (ch : Channel) : (s.touch ch).clients.draws = s.clients.draws := by
  unfold State.touch
  split
  · exact draws_modClient s ch _
  · rfl

/-! ### The end of a session (R562, R565) -/

/-- The client without its session: the GSP session begins afresh, and a CAN client keeps its tags and its nonce. -/
def State.sessionGone (s : State) (ch : Channel) : State :=
  if ch = .gsp then s.freshGsp else s.modClient ch fun c => { c with session := none, acceptedM := [], idle := 0 }

theorem State.sessionGone_keeps (s : State) (ch : Channel) : Keeps 0x40004000008130 s (s.sessionGone ch) := by
  unfold State.sessionGone
  split
  · exact State.freshGsp_keeps (maskLe_refl _) (Keeps.refl _ s)
  · exact State.modClient_keeps ch _ (by decide) (Keeps.refl _ s)

theorem sessionGone_session (s : State) (ch : Channel) : ((s.sessionGone ch).client ch).session = none := by
  cases ch with
  | gsp => rfl
  | rpdo => rfl
  | sdo => rfl
  | usdo n =>
    exact congrArg Client.session (client_modClient (s := s) (ch := .usdo n)
      (fun c => { c with session := none, acceptedM := [], idle := 0 }) (by simp))

theorem endSession_none {s : State} {ch : Channel} (reason : Nat) (h : (s.client ch).session = none) :
    s.endSession ch reason = s := by
  rw [State.endSession, h]

theorem endSession_some {s : State} {ch : Channel} {l : Level} (reason : Nat) (h : (s.client ch).session = some l) :
    s.endSession ch reason = (s.sessionGone ch).raise rcSessionClose (evData [evU 1 l.rank, evU 1 reason]) := by
  rw [State.endSession, h]
  rfl

theorem endSession_session (s : State) (ch : Channel) (reason : Nat) :
    ((s.endSession ch reason).client ch).session = none := by
  cases h : (s.client ch).session with
  | none => rw [endSession_none reason h, h]
  | some l => rw [endSession_some reason h, client_raise, sessionGone_session]

theorem endSession_raised {s : State} {ch : Channel} {l : Level} (reason : Nat)
    (hc : Safety.canonical s = true) (h : (s.client ch).session = some l) :
    Safety.raised rcSessionClose s (s.endSession ch reason) := by
  rw [endSession_some reason h]
  exact raise_raised_after _ (s.sessionGone_keeps ch) hc rfl rfl rfl rfl

theorem freshGsp_draws (s : State) : s.freshGsp.clients.draws = s.clients.draws := by
  have hload := (State.abandonDownload_keeps .gsp (maskLe_refl _) (Keeps.refl _ s)).parts .clients (by decide)
  have hread := (State.abandonRead_keeps .gsp (maskLe_refl _) (Keeps.refl _ (s.abandonDownload .gsp))).parts .clients
    (by decide)
  show ((s.abandonDownload .gsp).abandonRead .gsp).clients.draws = _
  rw [hread, hload]

theorem abandonDownload_levelKey (s : State) (ch : Channel) (level : Nat) :
    (s.abandonDownload ch).levelKey level = s.levelKey level := by
  unfold State.abandonDownload
  split <;> rfl

theorem freshGsp_levelKey (s : State) (level : Nat) : s.freshGsp.levelKey level = s.levelKey level := by
  have hread : ((s.abandonDownload .gsp).abandonRead .gsp).flash = (s.abandonDownload .gsp).flash :=
    (State.abandonRead_keeps .gsp (maskLe_refl _) (Keeps.refl _ (s.abandonDownload .gsp))).parts .flash (by decide)
  have hflash : s.freshGsp.flash = (s.abandonDownload .gsp).flash := hread
  rw [← abandonDownload_levelKey s .gsp level, State.levelKey, State.levelKey, hflash]

theorem sessionGone_draws (s : State) (ch : Channel) : (s.sessionGone ch).clients.draws = s.clients.draws := by
  unfold State.sessionGone
  split
  · exact freshGsp_draws s
  · exact draws_modClient s ch _

theorem sessionGone_levelKey (s : State) (ch : Channel) (level : Nat) :
    (s.sessionGone ch).levelKey level = s.levelKey level := by
  unfold State.sessionGone
  split
  · exact freshGsp_levelKey s level
  · obtain ⟨c, hc⟩ := modClient_eq_setClients s ch fun c => { c with session := none, acceptedM := [], idle := 0 }
    rw [hc]
    rfl

/-- The end of a session leaves the nonces drawn and the keys. -/
theorem endSession_keepsKeys (s : State) (ch : Channel) (reason level : Nat) :
    (s.endSession ch reason).clients.draws = s.clients.draws ∧
      (s.endSession ch reason).levelKey level = s.levelKey level := by
  cases h : (s.client ch).session with
  | none =>
    rw [endSession_none reason h]
    exact ⟨rfl, rfl⟩
  | some l =>
    have hraise := State.raise_keeps rcSessionClose (evData [evU 1 l.rank, evU 1 reason]) (maskLe_refl _)
      (Keeps.refl _ (s.sessionGone ch))
    have hflash := hraise.parts .flash (by decide)
    rw [endSession_some reason h]
    refine ⟨(congrArg Clients.draws (hraise.parts .clients (by decide))).trans (sessionGone_draws s ch), ?_⟩
    refine Eq.trans ?_ (sessionGone_levelKey s ch level)
    unfold State.levelKey
    rw [hflash]

/-! ### A challenge and a response (R563, R564) -/

theorem challengeRule_client {s : State} {ch : Channel} {level : Nat} (h : s.challengeRule ch level = none) :
    ch ≠ .rpdo := by
  rintro rfl
  unfold State.challengeRule at h
  split at h
  · exact Option.some_ne_none _ h
  · rw [beq_self_eq_true, Bool.or_true, if_pos rfl] at h
    exact Option.some_ne_none _ h

/-- A challenge ends the session, draws a nonce and keeps the key of now. -/
theorem challenge_client {s : State} {ch : Channel} {level : Nat} (hch : ch ≠ .rpdo) :
    ((s.challenge ch level).client ch).session = none ∧
      ((s.challenge ch level).client ch).nonce = some ((Config.nonce s.clients.draws).toNat, level) ∧
      ((s.challenge ch level).client ch).challengeKey = (s.levelKey level).getD [] ∧
      (s.challenge ch level).clients.draws = s.clients.draws + 1 := by
  obtain ⟨hdraws, hkey⟩ := endSession_keepsKeys s ch 0 level
  have hdrawn (t : State) (n : Nat) : (t.setClients { t.clients with draws := n }).client ch = t.client ch := by
    cases ch <;> rfl
  unfold State.challenge
  dsimp only
  rw [client_modClient _ hch, draws_modClient, hdrawn, hdraws, hkey]
  exact ⟨endSession_session s ch 0, rfl, rfl, rfl⟩

theorem openSession_client {s : State} {ch : Channel} (level : Nat) (m : List Byte) (hch : ch ≠ .rpdo) :
    (s.openSession ch level m).client ch = { s.client ch with
      nonce := none, failures := 0, session := some (sessionLevel level), acceptedM := m, idle := 300000 } := by
  rw [State.openSession, client_raise, client_modClient _ hch]

theorem failSession_client {s : State} {ch : Channel} (level : Nat) (hch : ch ≠ .rpdo) :
    (s.failSession ch level).client ch = { s.client ch with
      nonce := none, failures := failuresNext (s.client ch).failures,
      locked := (s.client ch).locked || Nat.ble 5 (failuresNext (s.client ch).failures) } := by
  rw [State.failSession, client_raise, client_modClient _ hch]

theorem openSession_raised {s : State} (ch : Channel) (level : Nat) (m : List Byte)
    (hc : Safety.canonical s = true) : Safety.raised rcSessionOpen s (s.openSession ch level m) :=
  raise_raised_after _ (State.modClient_keeps ch _ (maskLe_refl _) (Keeps.refl _ s)) hc rfl rfl rfl rfl

theorem failSession_raised {s : State} (ch : Channel) (level : Nat) (hc : Safety.canonical s = true) :
    Safety.raised rcSessionFail s (s.failSession ch level) :=
  raise_raised_after _ (State.modClient_keeps ch _ (maskLe_refl _) (Keeps.refl _ s)) hc rfl rfl rfl rfl

theorem takeResponse_matches {s : State} {ch : Channel} {m : List Byte} {n level : Nat}
    (hsession : (s.client ch).session = none) (hnonce : (s.client ch).nonce = some (n, level))
    (hm : matchingM (s.client ch).challengeKey n level = m) :
    s.takeResponse ch m = (s.openSession ch level m, .done) := by
  simp only [State.takeResponse, hsession, hnonce, Option.isSome_none, Bool.false_and, Bool.false_eq_true, if_false]
  exact if_pos hm

theorem takeResponse_differs {s : State} {ch : Channel} {m : List Byte} {n level : Nat}
    (hsession : (s.client ch).session = none) (hnonce : (s.client ch).nonce = some (n, level))
    (hm : matchingM (s.client ch).challengeKey n level ≠ m) :
    s.takeResponse ch m = (s.failSession ch level, .abort 0x06010000) := by
  simp only [State.takeResponse, hsession, hnonce, Option.isSome_none, Bool.false_and, Bool.false_eq_true, if_false]
  exact if_neg hm

/-! ### Writes of texts, and the action that ends its client (R42, R81–R83) -/

/-- An admitted write of a DOMAIN or a string comes to what its object makes of it. -/
theorem hostWrite_text {s : State} {ch : Channel} {ix sub : Nat} {data : List Byte}
    (ha : Safety.textAdmits s ch ix sub data) (hn : isAction ix sub = false) :
    s.hostWrite ch ix sub data =
      (if (s.writeText ch ix sub data).2.code.isSome then (s.writeText ch ix sub data).1
        else (s.writeText ch ix sub data).1.touch ch).recordResult ch ix sub (s.writeText ch ix sub data).2 := by
  obtain ⟨hreach, row, hrow, htext, hadm⟩ := ha
  have hwrite : s.writeObj ch ix sub data = s.writeValue ch ix sub row data := by
    simp only [State.writeObj, hrow, hn, Bool.false_and, Bool.false_eq_true, if_false, hadm]
  rw [State.hostWrite, if_pos hreach]
  dsimp only
  rw [hwrite]
  simp only [State.writeValue, htext, Bool.false_eq_true, if_false]
  split <;> rfl

theorem hostWrite_text_done {s t : State} {ch : Channel} {ix sub : Nat} {data : List Byte}
    (ha : Safety.textAdmits s ch ix sub data) (hn : isAction ix sub = false)
    (hdone : s.writeText ch ix sub data = (t, .done)) :
    s.hostWrite ch ix sub data = (t.touch ch).record ch ix sub none := by
  rw [hostWrite_text ha hn, hdone]
  rfl

theorem hostWrite_text_abort {s t : State} {ch : Channel} {ix sub code : Nat} {data : List Byte}
    (ha : Safety.textAdmits s ch ix sub data) (hn : isAction ix sub = false)
    (habort : s.writeText ch ix sub data = (t, .abort code)) :
    s.hostWrite ch ix sub data = t.record ch ix sub (some code) := by
  rw [hostWrite_text ha hn, habort]
  rfl

theorem writeText_response (s : State) (ch : Channel) (m : List Byte) :
    s.writeText ch 0x2020 3 m = s.takeResponse ch m := rfl

theorem writeText_key {s : State} {ch : Channel} {oem : Bool} {key : List Byte} (h : s.keyRule key = none) :
    s.writeText ch 0x2020 (if oem then 9 else 8) key = (s.writeKey ch oem key, .done) := by
  cases oem <;> simp [State.writeText, h]

/-- An admitted action that does not end its client, in the order of its effects. -/
theorem hostAction_done {s : State} {ch : Channel} {ix sub tag arg : Nat} (ha : Safety.actionAdmits s ch ix sub tag arg)
    (hi : isAction ix sub = true) (hl : answersLate ix sub = false) (he : endsClient ix sub = false) :
    s.hostAction ch ix sub tag arg =
      ((((s.touch ch).doAction ch ix sub tag arg).remember ch tag none).putObj ix sub tag).record ch ix sub none := by
  obtain ⟨hreach, h0, htag, harg, hnew, row, hrow, hadm, hrule⟩ := ha
  exact hostAction_accepted hreach hrow hi hadm hrule h0 htag harg (tags_find_none hnew) hl he

/-- The action that ends its client: the tag is remembered first, so that it goes with the client. -/
theorem hostAction_close {s : State} {ch : Channel} {tag : Nat} (ha : Safety.actionAdmits s ch 0x2020 5 tag 1) :
    s.hostAction ch 0x2020 5 tag 1 =
      ((((s.touch ch).remember ch tag none).endSession ch 0).putObj 0x2020 5 tag).record ch 0x2020 5 none := by
  obtain ⟨hreach, h0, htag, harg, hnew, row, hrow, hadm, hrule⟩ := ha
  obtain ⟨htagOf, hargOf⟩ := tagOf_actionBytes htag harg
  have hlen : (actionBytes tag 1).length = 4 := rfl
  have hi : isAction 0x2020 5 = true := rfl
  have hwrite : s.writeObj ch 0x2020 5 (actionBytes tag 1) = s.acceptAction ch 0x2020 5 tag 1 := by
    simp [State.writeObj, hrow, hi, hlen, htagOf, h0, State.writeAction, hargOf, tags_find_none hnew, hadm, hrule]
  rw [State.hostAction, State.hostWrite, if_pos hreach]
  dsimp only
  rw [hwrite]
  rfl

/-! ### The USB port (R543, R545, R546, R562) -/

/-- The port after its configuration has ended: CM_USB_DETACH only follows a configuration (R509). -/
theorem usbUnconfigure_supply (s : State) : s.usbUnconfigure.supply.usbConfigured = false := by
  unfold State.usbUnconfigure
  dsimp only
  split
  · have hend := State.endGsp_keeps (maskLe_refl _) (Keeps.refl _
      ((s.setSupply { s.supply with usbConfigured := false }).setClocks { s.clocks with sofTrim := false }))
    have hraise := State.raise_keeps cmUsbDetach 0 (by decide) hend
    exact congrArg Supply.usbConfigured (hraise.parts .supply (by decide))
  · rfl

theorem usbUnconfigure_canonical {s : State} (hc : Safety.canonical s = true) :
    Safety.canonical s.usbUnconfigure = true :=
  (State.usbUnconfigure_keeps (maskLe_refl _) (Keeps.refl _ s)).canonical hc

/-- The port in a state, its configuration ended. -/
theorem usbUnconfigure_putObj {s : State} (v : Int) (hc : Safety.canonical s = true) :
    (s.usbUnconfigure.putObj 0x2510 4 v).obj 0x2510 4 = v ∧
      (s.usbUnconfigure.putObj 0x2510 4 v).supply.usbConfigured = false :=
  ⟨obj_putObj _ _ _ (usbUnconfigure_canonical hc), usbUnconfigure_supply s⟩

theorem usbDetach_attached {s : State} (h : s.obj 0x2510 4 ≠ 0) :
    s.usbDetach = s.usbUnconfigure.putObj 0x2510 4 0 :=
  if_neg fun hzero => h (beq_iff_eq.1 hzero)

theorem usbDetach_detached {s : State} (h : s.obj 0x2510 4 = 0) : s.usbDetach = s :=
  if_pos (beq_iff_eq.2 h)

theorem usbAnswers_of {s : State} (h : s.clocks.ranOnCrystal = true ∨ s.clocks.sofTrim = true) :
    s.usbAnswers = true :=
  by
  rwa [State.usbAnswers, Bool.or_eq_true]

/-- The configured port before CM_USB_ATTACH is raised. -/
def State.usbSessionBegun (s : State) : State :=
  (s.setSupply { s.supply with usbConfigured := true }).freshGsp.putObj 0x2510 4 3

theorem usbConfigure_eq (s : State) : s.usbConfigure = s.usbSessionBegun.raise cmUsbAttach 0 := rfl

theorem State.usbSessionBegun_keeps (s : State) : Keeps 0x40004000008530 s s.usbSessionBegun :=
  State.putObj_keeps _ _ _ (by decide) (State.freshGsp_keeps (by decide)
    (State.setSupply_keeps _ (by decide) (Keeps.refl _ s)))

/-- A configuration begins a GSP session at base level. -/
theorem usbConfigure_begins {s : State} (hc : Safety.canonical s = true) :
    s.usbConfigure.obj 0x2510 4 = 3 ∧ s.usbConfigure.supply.usbConfigured = true ∧ s.usbConfigure.clients.gsp = {} ∧
      Safety.raised cmUsbAttach s s.usbConfigure := by
  have hfresh : Safety.canonical (s.setSupply { s.supply with usbConfigured := true }).freshGsp = true :=
    (State.freshGsp_keeps (maskLe_refl _) (Keeps.refl _ (s.setSupply _))).canonical hc
  have hload := State.freshGsp_keeps (maskLe_refl _)
    (Keeps.refl _ (s.setSupply { s.supply with usbConfigured := true }))
  have hraise := State.raise_keeps cmUsbAttach 0 (maskLe_refl _) (Keeps.refl _ s.usbSessionBegun)
  have hbegun : Safety.canonical s.usbSessionBegun = true := canonical_putObj _ _ _ hfresh
  rw [usbConfigure_eq]
  refine ⟨(hraise.obj hbegun 4 (by decide)).trans (obj_putObj _ _ _ hfresh), ?_, ?_, ?_⟩
  · exact (congrArg Supply.usbConfigured (hraise.parts .supply (by decide))).trans
      (congrArg Supply.usbConfigured (hload.parts .supply (by decide)))
  · exact congrArg Clients.gsp (hraise.parts .clients (by decide))
  · exact raise_raised_after 0 s.usbSessionBegun_keeps hc rfl rfl rfl rfl

theorem takeIn_response {s : State} {f : List Byte} {rest : List (List Byte)} (h : s.gsp.out = f :: rest) :
    s.takeIn = s.setGsp { s.gsp with out := rest } := by
  rw [State.takeIn, h]

theorem takeIn_event {s : State} {f : List Byte} {rest : List (List Byte)} (hout : s.gsp.out = [])
    (h : s.gsp.events = f :: rest) : s.takeIn = (s.setGsp { s.gsp with events := rest }).bump 0x2510 0x0A := by
  rw [State.takeIn, hout]
  dsimp only
  rw [h]

/-! ### The rows of sessions -/

/-- SESSION_CHALLENGE under admission (R563). -/
theorem sessionChallenge_draws {s : State} {ch : Channel} {tag level : Nat}
    (ha : Safety.actionAdmits s ch 0x2020 1 tag level) :
    Safety.done (s.hostAction ch 0x2020 1 tag level) ch 0x2020 1 ∧
      ((s.hostAction ch 0x2020 1 tag level).client ch).session = none ∧
      ((s.hostAction ch 0x2020 1 tag level).client ch).nonce =
        some ((Config.nonce s.clients.draws).toNat, level) ∧
      ((s.hostAction ch 0x2020 1 tag level).client ch).challengeKey = (s.levelKey level).getD [] ∧
      (s.hostAction ch 0x2020 1 tag level).clients.draws = s.clients.draws + 1 := by
  have hch : ch ≠ .rpdo := by
    obtain ⟨-, -, -, -, -, -, -, -, hrule⟩ := ha
    exact challengeRule_client hrule
  obtain ⟨hsession, hnonce, hkey, hdraws⟩ := challenge_client (s := s.touch ch) (level := level) hch
  have hlevelKey : (s.touch ch).levelKey level = s.levelKey level := by
    obtain ⟨c, hc⟩ := touch_eq_setClients s ch
    rw [hc]
    rfl
  have hclient : (s.hostAction ch 0x2020 1 tag level).client ch =
      { ((s.touch ch).challenge ch level).client ch with
        tags := ((tag, none) :: (((s.touch ch).challenge ch level).client ch).tags).take 16 } := by
    rw [hostAction_done ha rfl rfl rfl, client_record, do_session_challenge]
    exact client_modClient _ hch
  have hcount : (s.hostAction ch 0x2020 1 tag level).clients.draws =
      ((s.touch ch).challenge ch level).clients.draws := by
    rw [hostAction_done ha rfl rfl rfl, do_session_challenge]
    exact draws_modClient _ ch _
  rw [draws_touch] at hnonce hdraws
  rw [hlevelKey] at hkey
  rw [hclient, hcount]
  exact ⟨by rw [hostAction_done ha rfl rfl rfl]; rfl, hsession, hnonce, hkey, hdraws⟩

/-- SESSION_RESPONSE with the matching message (R563). -/
theorem sessionResponse_opens {s : State} {ch : Channel} {m : List Byte} {n level : Nat}
    (hc : Safety.canonical s = true) (ha : Safety.textAdmits s ch 0x2020 3 m)
    (hsession : (s.client ch).session = none) (hnonce : (s.client ch).nonce = some (n, level))
    (hm : matchingM (s.client ch).challengeKey n level = m) :
    Safety.done (s.hostWrite ch 0x2020 3 m) ch 0x2020 3 ∧
      ((s.hostWrite ch 0x2020 3 m).client ch).session = some (sessionLevel level) ∧
      ((s.hostWrite ch 0x2020 3 m).client ch).nonce = none ∧
      ((s.hostWrite ch 0x2020 3 m).client ch).failures = 0 ∧
      ((s.hostWrite ch 0x2020 3 m).client ch).idle = 300000 ∧
      Safety.raised rcSessionOpen s (s.hostWrite ch 0x2020 3 m) := by
  have hch := ne_rpdo_of_nonce hnonce
  have hopen := openSession_client (s := s) level m hch
  have hraised := openSession_raised ch level m hc
  obtain ⟨c, htouch⟩ := touch_eq_setClients (s.openSession ch level m) ch
  have hclient : ((s.openSession ch level m).touch ch).client ch =
      { (s.openSession ch level m).client ch with idle := 300000 } :=
    client_touch hch (by rw [hopen]; rfl)
  rw [hostWrite_text_done ha rfl (takeResponse_matches hsession hnonce hm), client_record, hclient, hopen]
  refine ⟨rfl, rfl, rfl, rfl, rfl, ?_⟩
  rw [htouch]
  exact raised_before (State.record_keeps _ _ _ _ (maskLe_refl _) (State.setClients_keeps _ (by decide)
    (Keeps.refl _ _))) ((State.raise_keeps _ _ (maskLe_refl _) (Keeps.refl _ _)).canonical
    ((State.modClient_keeps ch _ (maskLe_refl _) (Keeps.refl _ s)).canonical hc)) (by decide) (by decide) hraised

/-- SESSION_RESPONSE with another message (R564). -/
theorem sessionResponse_fails {s : State} {ch : Channel} {m : List Byte} {n level : Nat}
    (hc : Safety.canonical s = true) (ha : Safety.textAdmits s ch 0x2020 3 m)
    (hsession : (s.client ch).session = none) (hnonce : (s.client ch).nonce = some (n, level))
    (hm : matchingM (s.client ch).challengeKey n level ≠ m) :
    (s.hostWrite ch 0x2020 3 m).clients.answer = some ⟨ch, 0x2020, 3, some 0x06010000⟩ ∧
      ((s.hostWrite ch 0x2020 3 m).client ch).session = none ∧
      ((s.hostWrite ch 0x2020 3 m).client ch).nonce = none ∧
      ((s.hostWrite ch 0x2020 3 m).client ch).failures = failuresNext (s.client ch).failures ∧
      (5 ≤ failuresNext (s.client ch).failures → ((s.hostWrite ch 0x2020 3 m).client ch).locked = true) ∧
      Safety.raised rcSessionFail s (s.hostWrite ch 0x2020 3 m) := by
  have hfail := failSession_client (s := s) level (ne_rpdo_of_nonce hnonce)
  have hraised := failSession_raised ch level hc
  rw [hostWrite_text_abort ha rfl (takeResponse_differs hsession hnonce hm), client_record, hfail]
  refine ⟨rfl, hsession, rfl, rfl, fun hfive => ?_, hraised⟩
  exact Bool.or_eq_true_iff.2 (Or.inr (Nat.ble_eq_true_of_le hfive))

/-- SESSION_CLOSE (R565). -/
theorem sessionClose_closes {s : State} {ch : Channel} {tag : Nat} {l : Level} (hc : Safety.canonical s = true)
    (ha : Safety.actionAdmits s ch 0x2020 5 tag 1) (hsession : (s.client ch).session = some l) :
    Safety.done (s.hostAction ch 0x2020 5 tag 1) ch 0x2020 5 ∧
      ((s.hostAction ch 0x2020 5 tag 1).client ch).session = none ∧
      Safety.raised rcSessionClose s (s.hostAction ch 0x2020 5 tag 1) := by
  have hch := ne_rpdo_of_session hsession
  have hkeeps : Keeps 0x20 s ((s.touch ch).remember ch tag none) :=
    State.remember_keeps _ _ _ (maskLe_refl _) (State.touch_keeps _ (maskLe_refl _) (Keeps.refl _ s))
  have hopen : (((s.touch ch).remember ch tag none).client ch).session = some l := by
    rw [State.remember, client_modClient _ hch]
    exact (touch_session s ch).trans hsession
  have hc' := hkeeps.canonical hc
  have hraised := raised_after hkeeps hc (by decide) rfl rfl rfl (endSession_raised 0 hc' hopen)
  have hended := (State.endSession_keeps ch 0 (maskLe_refl _) (Keeps.refl _ _)).canonical hc'
  have hput : Keeps 0x800000020 (((s.touch ch).remember ch tag none).endSession ch 0)
      (((((s.touch ch).remember ch tag none).endSession ch 0).putObj 0x2020 5 tag).record ch 0x2020 5 none) :=
    State.record_keeps _ _ _ _ (by decide) (State.putObj_keeps 0x2020 5 tag (by decide) (Keeps.refl _ _))
  rw [hostAction_close ha, client_record]
  exact ⟨rfl, endSession_session _ ch 0, raised_before hput hended (by decide) (by decide) hraised⟩

end Sys2Proof.Machine

namespace Sys2Proof

open Machine

/-- Settles O29: each clause is the law of its command above. -/
theorem portsAndSessionsAct : Obligations.PortsAndSessionsAct := by
  unfold Obligations.PortsAndSessionsAct
  refine ⟨?address, ?addressIgnored, ?configured, ?detach, ?busReset, ?detached, ?suspend, ?resume, ?response, ?event,
    ?nonce, ?lockout, ?idle, ?challenge, ?opens, ?fails, ?close, ?key, ?map⟩
  case address =>
    exact fun s hc hattached hclock => ⟨_, if_pos ⟨hattached, usbAnswers_of hclock⟩, obj_putObj _ _ _ hc⟩
  case addressIgnored => exact fun s hstate => if_neg fun h => hstate h.1
  case configured =>
    exact fun s hc hstate hclock => ⟨_, if_pos ⟨hstate, usbAnswers_of hclock⟩, usbConfigure_begins hc⟩
  case detach =>
    intro s hc hattached
    exact ⟨_, congrArg Host.Outcome.next (usbDetach_attached hattached), usbUnconfigure_putObj 0 hc⟩
  case busReset => exact fun s hc hattached => ⟨_, if_neg hattached, usbUnconfigure_putObj 1 hc⟩
  case detached =>
    intro s hzero
    exact ⟨congrArg Host.Outcome.next (usbDetach_detached hzero), if_pos hzero, if_pos (Or.inl hzero)⟩
  case suspend =>
    intro s hc hattached hawake
    refine ⟨_, if_neg (not_or.2 ⟨hattached, hawake⟩), ?_, rfl⟩
    exact obj_putObj (s := s.setSupply _) _ _ _ hc
  case resume => exact fun s hc hsuspended => ⟨_, if_pos hsuspended, obj_putObj _ _ _ hc⟩
  case response =>
    intro f rest s hconfigured hout
    refine ⟨_, if_pos hconfigured, ?_⟩
    rw [takeIn_response hout]
    exact ⟨rfl, rfl⟩
  case event =>
    intro f rest s hc hconfigured hout hevents
    refine ⟨_, if_pos hconfigured, ?_⟩
    rw [takeIn_event hout hevents]
    exact ⟨rfl, obj_bump (s := s.setGsp _) _ _ hc⟩
  case nonce => exact fun ch s hch => ⟨_, rfl, congrArg Client.nonce (client_modClient _ hch)⟩
  case lockout => exact fun ch s hch => ⟨_, rfl, congrArg Client.locked (client_modClient _ hch)⟩
  case idle =>
    exact fun ch l s hc hsession => ⟨_, rfl, endSession_session s ch 1, endSession_raised 1 hc hsession⟩
  case challenge => exact fun ch tag level s ha => ⟨_, rfl, sessionChallenge_draws ha⟩
  case opens =>
    exact fun ch m n level s hc ha hsession hnonce hm => ⟨_, rfl, sessionResponse_opens hc ha hsession hnonce hm⟩
  case fails =>
    exact fun ch m n level s hc ha hsession hnonce hm => ⟨_, rfl, sessionResponse_fails hc ha hsession hnonce hm⟩
  case close => exact fun ch tag l s hc ha hsession => ⟨_, rfl, sessionClose_closes hc ha hsession⟩
  case key =>
    intro ch oem key s ha hrule
    have hn : isAction 0x2020 (if oem then 9 else 8) = false := by cases oem <;> rfl
    obtain ⟨c, htouch⟩ := touch_eq_setClients (s.writeKey ch oem key) ch
    refine ⟨_, congrArg Host.Outcome.next (hostWrite_text_done ha hn (writeText_key hrule)), rfl, ?_⟩
    rw [htouch]
    rfl
  case map =>
    intro ch tag s ha
    obtain ⟨b, c, haction, hanswer⟩ := hostAction_admitted ha rfl rfl rfl
    rw [do_access_map_commit] at haction
    exact ⟨_, congrArg Host.Outcome.next haction, hanswer, rfl⟩

end Sys2Proof
end
